-- ==== Sys2Proof/Word.lean ====
section
/-! DEFINITION. The word types of the model and their plainest arithmetic. -/

namespace Sys2Proof

/-- A register or a record dword (R16: little-endian wherever it is stored). -/
abbrev Word := BitVec 32

/-- A byte of a bank, of DRAM or of NVM. -/
abbrev Byte := BitVec 8

/-- A FIFO word, a bank word pair or a record word. -/
abbrev DWord := BitVec 64

/-- A bank row or a V register: 64 bytes (R211, R135). -/
abbrev Row := BitVec 512

/-- An instruction bundle (R127). -/
abbrev Bundle := BitVec 128

/-- Bits `lo` to `lo + w - 1` of a natural number. -/
def natBits (v lo w : Nat) : Nat := v / 2 ^ lo % 2 ^ w

/-- `v` with bits `lo` to `lo + w - 1` replaced by the low `w` bits of `x`. -/
def natSetBits (v lo w x : Nat) : Nat :=
  v % 2 ^ lo + (x % 2 ^ w) * 2 ^ lo + v / 2 ^ (lo + w) * 2 ^ (lo + w)

/-- The signed value of the low `w` bits of a natural number. -/
def natSigned (w v : Nat) : Int :=
  let m := v % 2 ^ w
  if 2 * m < 2 ^ w then (m : Int) else (m : Int) - 2 ^ w

/-- An integer modulo `2 ^ w`, in two's complement. -/
def intBits (w : Nat) (i : Int) : Nat := (i % 2 ^ w).toNat

/-- `i` held between `lo` and `hi`. -/
def clampInt (lo hi i : Int) : Int := if i < lo then lo else if hi < i then hi else i

/-- `n / d` to the nearest integer, halves away from zero (R96, R99). -/
def roundDiv (n : Int) (d : Nat) : Int :=
  if 0 ≤ n then ((2 * n.toNat + d) / (2 * d) : Nat) else -(((2 * (-n).toNat + d) / (2 * d) : Nat) : Int)

end Sys2Proof
end

