-- ==== Sys2Proof/Syntax.lean ====
section
/-! DEFINITION. The commands of the block: one constructor per row of the table of operations, in the order of the table, and the records their operands are made of. -/

namespace Sys2Proof

/-- An external requester of register pages (R60): the PCIe host or the MSPI board controller (R9). -/
inductive Req where
  | pcie | mspi
  deriving DecidableEq, Repr

/-- The access of the other requester that is pending at the page arbiter together with a command's (R60): a
read of a register, or a write of one. -/
inductive PageAcc where
  | read (off : Nat)
  | write (off : Nat) (v : Word)
  deriving DecidableEq, Repr

/-- A PCIe memory request: direction, byte offset in the BAR, the byte enables of each dword (4 bits
each; their number is the length of the request) and, for a write, the dwords (R59). -/
structure MemReq where
  write : Bool
  addr : Nat
  be : List Nat
  data : List Word
  deriving DecidableEq, Repr

/-- An Announce message as the PTP engine takes it (R94): the port it is heard on, its sender, its
data set and its synchronization metadata TLV (`[]` where it carries none). -/
structure Announce where
  port : Nat
  clock : Nat
  srcPort : Nat
  domain : Nat
  logInterval : Int
  prio1 : Nat
  clockClass : Nat
  accuracy : Nat
  variance : Nat
  prio2 : Nat
  gm : Nat
  steps : Nat
  smtlv : List Word
  deriving DecidableEq, Repr

/-- A Sync message, its receive stamp t2 (R96) and the MAC and IPv4 addresses it came from (R296); times in units of
2^-16 ns. -/
structure PtpSync where
  port : Nat
  clock : Nat
  srcPort : Nat
  domain : Nat
  seq : Nat
  logInterval : Int
  twoStep : Bool
  t1 : Int
  corr : Int
  t2 : Int
  mac : Nat
  ip : Nat
  deriving DecidableEq, Repr

/-- A Follow_Up message: t1 of a two-step Sync (R96). -/
structure PtpFollowUp where
  port : Nat
  clock : Nat
  srcPort : Nat
  domain : Nat
  seq : Nat
  t1 : Int
  corr : Int
  deriving DecidableEq, Repr

/-- A Delay_Resp message carrying t4 for the Delay_Req of sequence `seq` (R96). -/
structure PtpDelayResp where
  port : Nat
  clock : Nat
  domain : Nat
  seq : Nat
  t4 : Int
  corr : Int
  deriving DecidableEq, Repr

/-- A valid LTC frame as LTC_IN decodes it (R123): rate code, time of day in BCD, drop-frame flag,
instant of the first transition of bit 0 in ns. -/
structure LtcIn where
  rate : Nat
  hh : Nat
  mm : Nat
  ss : Nat
  ff : Nat
  df : Bool
  stamp : Nat
  deriving DecidableEq, Repr

/-- Fields of a V-format syllable (Table 04-2): lane mode, predicate, B is a scalar, SM, D, A, B. -/
structure VF where
  h16 : Bool
  pr : Nat
  bs : Bool
  sm : Nat
  d : Nat
  a : Nat
  b : Nat
  deriving DecidableEq, Repr

/-- Fields of an MV or MS syllable (Table 04-2): OFF is the 12-bit field. -/
structure MF where
  pr : Nat
  data : Nat
  base : Nat
  off : Nat
  deriving DecidableEq, Repr

/-- Fields of an MX syllable. -/
structure MXF where
  pr : Nat
  data : Nat
  base : Nat
  idx : Nat
  deriving DecidableEq, Repr

/-- Fields of an ML syllable. -/
structure MLF where
  pr : Nat
  v : Nat
  s : Nat
  lane : Nat
  deriving DecidableEq, Repr

/-- Fields of an MC syllable. -/
structure MCF where
  pr : Nat
  ch : Nat
  data : Nat
  ix : Nat
  imm : Nat
  deriving DecidableEq, Repr

/-- Fields of a CR syllable. -/
structure CF where
  pr : Nat
  d : Nat
  a : Nat
  b : Nat
  deriving DecidableEq, Repr

/-- Fields of a CI or CU syllable (`a` is 0 in CU). -/
structure CIF where
  pr : Nat
  d : Nat
  a : Nat
  imm : Nat
  deriving DecidableEq, Repr

/-- Fields of a CB syllable: `count` is COUNT of LOOPI, the count register of LOOPS, 0 for BR. -/
structure CBF where
  pr : Nat
  count : Nat
  target : Nat
  deriving DecidableEq, Repr

/-- One engine's part of a speed monitor interval (R195): steps issued and rim time spent issuing, in
ps, and the replica's step time in ps. -/
structure SpeedIn where
  steps : Nat
  issuingPs : Nat
  replicaPs : Nat
  deriving DecidableEq, Repr

/-- How a port S access falls on the array operation that carries it (R225): the words (byte offsets)
at which a port E access in the same operation reads or writes, and which port was taken second. -/
structure BankMeet where
  eReads : List Nat
  eWrites : List Nat
  laterS : Bool
  deriving DecidableEq, Repr

/-- One position of the DRAM slot wheel as it comes round (R318, R319): its number, whether its plan owner, if it has
one, has a transfer pending, and the clients with an access pending, by class (1 RX, 2 TXD, 3 FIFO, 4 HOST, 5 BG). -/
structure WheelSlot where
  pos : Nat
  planPending : Bool
  pending : List (Nat × List Nat)
  deriving DecidableEq, Repr

/-- A DMX512-A packet as a port receives it (R343): start code, slots, lengths of break and mark in µs,
whether every slot had a valid stop bit. -/
structure DmxIn where
  start : Nat
  slots : List Byte
  breakUs : Nat
  mabUs : Nat
  framed : Bool
  deriving DecidableEq, Repr

/-- An RDM response as a port receives it (R346, R348): ST32 of the start of its break, its bytes,
whether its framing held. -/
structure RdmIn where
  st32 : Nat
  bytes : List Byte
  framed : Bool
  deriving DecidableEq, Repr

/-- A Camlek cell (Table 14-2): its header and its units of 64 bytes; a control cell carries one unit whose
first block holds kind, origin and origin sequence number and whose second holds the content (R441). -/
structure Cell where
  dest : Nat
  hops : Nat
  route : Nat
  ctrl : Bool
  bcast : Bool
  rxwin : Nat
  unit : Nat
  frame : Nat
  data : List Byte
  deriving DecidableEq, Repr

/-- What moves a training link on (R436): signal at both ends, clock recovery, block lock and alignment
with the largest skew in ps, a capability word, the end of the time exchanges. -/
inductive TrainStep where
  | signal
  | clock
  | aligned (skew : Nat)
  | word (index value : Nat)
  | measured
  deriving DecidableEq, Repr

/-- What a moon learns of its planet over the upstream link by ways the spec does not state (R439; log entry
29): TRACEABLE, grandmaster identity, and the full upstream time at the departure of its last TIME block. -/
structure UpInfo where
  trace : Bool
  gm : Nat
  full : Nat
  deriving DecidableEq, Repr

/-- What the fuses and the boot ROM give at reset release: GRADE, DEVICE_ID, S0 in ps (R493), the boot ROM
version (R463), fused path offsets and path gains by set and channel (R405, R414). -/
structure Fuses where
  grade : Nat
  deviceId : Nat
  s0Ps : Nat
  romVersion : Nat
  po : List (Nat × Int)
  pg : List (Nat × Nat)
  deriving DecidableEq, Repr

/-- Result of a boot PATH step: channel, its po_new and the root of its variance (R414, R427). -/
structure BootPath where
  chan : Nat
  po : Int
  r : Nat
  deriving DecidableEq, Repr

/-- How a boot phase of Table 16-1 has ended (R476 to R479). `pll`: whether the PLLs lock, PMBUS_CFG from
the boot configuration, VOUT_MODE read in an accepted format (0), not acknowledged (1) or in another format
(2). `speed`: the engines that pass their self-test, the replica samples and VDDC in mV. `banks`: rows that
fail the march test and spares that fail theirs, each by bank. `dramTrain`: the channels trained and the
DRAM attached in GiB. `microcode`: the cause of a failure, if any, and the image as read. -/
inductive BootEnd where
  | straps
  | pll (locks : Bool) (pmbus : Nat) (vout : Nat)
  | speed (pass : List Nat) (samples : List SpeedIn) (vddcMv : Nat)
  | sense (paths : List BootPath)
  | banks (rows : List (Nat × Nat)) (badSpares : List (Nat × Nat))
  | dramTrain (chOk gib : Nat)
  | dramEcc (ok : Bool)
  | nvm
  | microcode (fail : Option Nat) (image : List Byte)
  | links
  | check
  deriving DecidableEq, Repr

/-- What the VBAT domain draws from (R503). -/
inductive VbatSupply where
  | vdda | vbat | none
  deriving DecidableEq, Repr

/-- A PCIe configuration request: a read or a write of a dword of configuration space, or the write that
sets the MSI-X enable and the function mask, whose place in that space PCIe leaves to the device. -/
inductive CfgReq where
  | read (dw : Nat)
  | write (dw : Nat) (v : Word)
  | msix (en mask : Bool)
  deriving DecidableEq, Repr

/-- A request pending at a FIFO arbiter (Table 08-4): a pop or peek, a write of CTRL, a commit of the page, a push of
word `k` of PUSH_WIN, a burst of the HDMA task, the command unit's examination of FIFO0, a record of the event
arbiter or the trace, the expiry of the idle timer or of a push stall. -/
inductive FifoReq where
  | pop (q : Req)
  | peek (q : Req)
  | ctrl (q : Req) (v : Word)
  | commit (q : Req) (v : Word)
  | push (q : Req) (k : Nat) (v : Word)
  | burst (data : List DWord) (err : Bool)
  | accept
  | record
  | idle
  | expiry
  deriving DecidableEq, Repr

/-- The commands, one constructor per row of the table of operations. -/
inductive Instr where
  /-- TRANSIT (R27). The time base reaches the instant of transit n, and every rim block acts on it at its first grid tick at or after it. -/
  | transit
  /-- EMIT_LAUNCH (R184). An emit entry's launch instant arrives and the rim block launches its output, or takes the fallback of Table 01-3. -/
  | emitLaunch (frame ent : Nat) (cut : RdmIn)
  /-- EMIT_FETCH (R186). At launch minus FETCH_LEAD_NS a block checks the entry's ready mark and starts reading, or counts EMIT_NOT_READY. -/
  | emitFetch (frame ent : Nat)
  /-- BAR0_REQUEST (R59). A PCIe memory request to BAR0 is split into single-dword accesses, or discarded or aborted with HOST.BAD_ACCESS. -/
  | bar0Request (r : MemReq)
  /-- BAR2_ACCESS (R58). A PCIe access to the BAR2 window reaches usable DRAM at the window base, or is discarded beyond it. -/
  | bar2Access (r : MemReq)
  /-- BAR4_ACCESS (R214). A PCIe request to a plain BAR4 bank window is carried out as word accesses at the bank, checked against the owner. -/
  | bar4Access (r : MemReq) (meet : BankMeet)
  /-- SET_ALIAS_WRITE (R215). A write through the BAR4 set alias ORs each enabled byte into the word as one indivisible read-modify-write. -/
  | setAliasWrite (r : MemReq) (meet : BankMeet)
  /-- CLEAR_ALIAS_WRITE (R215). A write through the BAR4 clear alias clears each written bit of enabled bytes as one indivisible read-modify-write. -/
  | clearAliasWrite (r : MemReq) (meet : BankMeet)
  /-- REGISTER_WRITE (R66). A write to a register with no row of its own updates the field or its shadow and counts in PAGE_SEQ if accepted; `tie` is an access of the other requester pending at the page arbiter together with it (R60). -/
  | registerWrite (q : Req) (page off : Nat) (v : Word) (tie : Option PageAcc)
  /-- SNAPSHOT_READ (R62). A read of a NAME_LO register copies the upper half into the requester's snapshot for NAME_HI. -/
  | snapshotRead (q : Req) (page off : Nat)
  /-- PAIR_HI_WRITE (R62). A write of NAME_HI puts the held NAME_LO write and itself into effect in one step. -/
  | pairHiWrite (q : Req) (page off : Nat) (v : Word)
  /-- OWNER_WRITE (R65). A write of OWNER changes HOLDER or is refused under the ownership rules. -/
  | ownerWrite (q : Req) (page : Nat) (v : Word)
  /-- COMMIT_ARM (R70). A write of COMMIT with ARM 1 arms a commit in the given mode and captures COMMIT_TIME, or refuses it. -/
  | commitArm (q : Req) (page : Nat) (v : Word) (cutoffTogether takeTogether : Bool)
  /-- COMMIT_CANCEL (R73). A write of COMMIT with CANCEL 1 cancels an armed commit. -/
  | commitCancel (q : Req) (page : Nat) (v : Word) (takeTogether : Bool)
  /-- COMMIT_CUTOFF (R71). The cut-off mark of a transit reaches a page arbiter, moving AT_TRANSIT commits on and closing AT_TRANSIT_N targets. -/
  | commitCutoff (page : Nat)
  /-- COMMIT_TAKE (R72). An armed commit is taken: the shadow set is checked and comes into force together, or the commit is refused. -/
  | commitTake (page : Nat)
  /-- EVENT_CLEAR_WRITE (R76). A W1C write of EVENT clears the named bits unless an occurrence is pending together. -/
  | eventClearWrite (q : Req) (page : Nat) (v : Word) (together : Word)
  /-- EVENT_FORCE_WRITE (R76). A write of EVENT_FORCE bit k is an occurrence of EVENT[k] with FORCED records. -/
  | eventForceWrite (q : Req) (page : Nat) (v : Word)
  /-- EVENT_RECORD_TAKE (R81). The event arbiter takes and numbers a record, stamping core records, and holds it in its buffer or drops it. -/
  | eventRecordTake (k : Nat)
  /-- EVENT_RECORD_PUSH (R286). A record waiting in the event arbiter's buffer is accepted by FIFO1 once it has room. -/
  | eventRecordPush
  /-- VEC_ARM_WRITE (R78). A W1S write of HOST.VEC_ARM_LO or _HI arms vectors, sending a message at once where a routed page is pending. -/
  | vecArmWrite (q : Req) (hi : Bool) (v : Word)
  /-- MSIX_UNMASK (R78). Lifting a per-vector mask sends the message it held back. -/
  | msixUnmask (vector : Nat)
  /-- ANCHOR (R90). At each whole second of PTP time the time base produces an anchor record carrying the exact instant. -/
  | anchor
  /-- NOW_NS_READ (R88). A read of TIME.NOW_NS takes the time at that tick and snapshots the seconds and fraction. -/
  | nowNsRead (q : Req)
  /-- ANNOUNCE_RX (R94). The PTP engine takes an Announce message, applies the interval check and runs the best-master comparison. -/
  | announceRx (m : Announce)
  /-- SYNC_RX (R96). The PTP engine takes a Sync message and its t2 stamp, yielding an offset sample from a one-step master. -/
  | syncRx (m : PtpSync)
  /-- FOLLOW_UP_RX (R96). The PTP engine takes a Follow_Up carrying t1 of a two-step Sync, yielding an offset sample. -/
  | followUpRx (m : PtpFollowUp)
  /-- DELAY_REQ_SEND (R96). At each Delay_Req interval the PTP engine sends a Delay_Req and records t3. -/
  | delayReqSend (seq : Nat)
  /-- DELAY_RESP_RX (R96). The PTP engine takes a Delay_Resp carrying t4 and updates the filtered path delay. -/
  | delayRespRx (m : PtpDelayResp)
  /-- SET_SEC_HI_WRITE (R100). A write of TIME.SET_SEC_HI offers a software time set as a correction, or sets the time while UNSET. -/
  | setSecHiWrite (q : Req) (v : Word)
  /-- SW_OFFSET_WRITE (R110). A write of TIME.SW_OFFSET_NS offers a software phase correction under the step guard. -/
  | swOffsetWrite (q : Req) (v : Word)
  /-- FREQ_ADJ_WRITE (R110). A write of TIME.FREQ_ADJ under SW_SERVO sets the frequency adjustment from the next tick. -/
  | freqAdjWrite (q : Req) (v : Word)
  /-- SW_CORRECTION_ABSORBED (R101). A software correction slewed at CARVE_MAX is fully absorbed and the slew ends. -/
  | swCorrectionAbsorbed
  /-- STEP_AUTH_WRITE (R103). A write of TIME.CTRL.STEP_AUTH authorises or withdraws a held forward step. -/
  | stepAuthWrite (q : Req) (v : Word)
  /-- CARVE_AUTH_WRITE (R103). A write of TIME.CTRL.CARVE_AUTH authorises a held correction to be carved or ends the suspension. -/
  | carveAuthWrite (q : Req) (v : Word)
  /-- FORCE_GLIDE_WRITE (R107). A write of TIME.CTRL.FORCE_GLIDE makes the time base glide or resume its source. -/
  | forceGlideWrite (q : Req) (v : Word)
  /-- SW_SERVO_WRITE (R110). A write of TIME.CTRL.SW_SERVO hands steering to software or back to the hardware servo. -/
  | swServoWrite (q : Req) (v : Word)
  /-- GLIDE_TIMEOUT (R107). The source in use delivers no accepted sample for its loss span, and the time base glides at GLIDE_FREQ. -/
  | glideTimeout
  /-- GLIDE_LIMIT (R108). The glide age passes GLIDE_LIMIT_S and TRACEABLE clears. -/
  | glideLimit
  /-- TRIGGER_ARM (R112). A write of TRG_CFG_n with ARM 1 arms a trigger at the trigger arbiter, refusing it or acting late at once. -/
  | triggerArm (q : Req) (n : Nat) (v : Word)
  /-- TRIGGER_DISARM (R117). A write of TRG_CFG_n with ARM 0 disarms a trigger unless its action is pending together. -/
  | triggerDisarm (q : Req) (n : Nat) (v : Word) (actionTogether : Bool)
  /-- TRG_CUE (R116). A trigger in action CUE reaches its occurrence and produces a TRG_FIRE record. -/
  | trgCue (n : Nat)
  /-- TRG_TIO_SET (R118). A trigger reaches its occurrence and drives its TIO pin high. -/
  | trgTioSet (n : Nat)
  /-- TRG_TIO_CLR (R118). A trigger reaches its occurrence and drives its TIO pin low. -/
  | trgTioClr (n : Nat)
  /-- TRG_TIO_TOGGLE (R118). A trigger reaches its occurrence and toggles its TIO pin. -/
  | trgTioToggle (n : Nat)
  /-- TRG_TIO_PULSE (R116). A trigger reaches its occurrence and sets its TIO pin to start a pulse of ARG width. -/
  | trgTioPulse (n : Nat)
  /-- TIO_PULSE_END (R116). The width of a TIO_PULSE expires and the pin is cleared in the trigger order of that tick. -/
  | tioPulseEnd (pin : Nat)
  /-- TRG_TIO_SAMPLE (R118). A trigger reaches its occurrence and samples its TIO pin into a TRG_FIRE record. -/
  | trgTioSample (n : Nat)
  /-- TRG_SNS_START (R408). A trigger reaches its occurrence and closes the trigger sample-and-hold on the named sense channel. -/
  | trgSnsStart (n : Nat)
  /-- TRG_FSYNC_PULSE (R118). A trigger reaches its occurrence and drives one pulse on FSYNC_OUT. -/
  | trgFsyncPulse (n : Nat)
  /-- TIO_EDGE (R119). An accepted edge on a TIO pin is stamped and queued as a CAPTURE record, or discarded to CAP_DROP. -/
  | tioEdge (pin : Nat) (rising : Bool) (stamp : Nat)
  /-- FSYNC_EDGE (R120). An accepted edge on FSYNC_IN is captured and, under SOURCE FSYNC, gives an offset sample. -/
  | fsyncEdge (rising : Bool) (stamp : Nat)
  /-- LTC_OUT_FRAME (R121). LTC_OUT begins a timecode frame at the alignment instant of the LTC rate. -/
  | ltcOutFrame
  /-- LTC_IN_FRAME (R123). LTC_IN decodes a valid frame, records it and may gain lock. -/
  | ltcInFrame (f : LtcIn)
  /-- LTC_IN_LOST (R123). Two nominal frame periods pass without a valid LTC frame and LTC_IN loses lock. -/
  | ltcInLost
  /-- NOP (R141). A syllable of all zeros in any slot does nothing. -/
  | nop (e : Nat) (sl : Nat)
  /-- ILLEGAL_OP (R142). A syllable with an opcode not listed for its slot faults the engine. -/
  | illegalOp (e : Nat)
  /-- V_MOV (R143). Vector MOV copies A to D in enabled lanes. -/
  | vMov (e : Nat) (vb : Bool) (f : VF)
  /-- V_ADD (R144). Vector ADD adds lanes under SM. -/
  | vAdd (e : Nat) (vb : Bool) (f : VF)
  /-- V_SUB (R144). Vector SUB subtracts lanes under SM. -/
  | vSub (e : Nat) (vb : Bool) (f : VF)
  /-- V_MINU (R143). Vector MINU takes the unsigned minimum per lane. -/
  | vMinu (e : Nat) (vb : Bool) (f : VF)
  /-- V_MINS (R143). Vector MINS takes the signed minimum per lane. -/
  | vMins (e : Nat) (vb : Bool) (f : VF)
  /-- V_MAXU (R143). Vector MAXU takes the unsigned maximum per lane. -/
  | vMaxu (e : Nat) (vb : Bool) (f : VF)
  /-- V_MAXS (R143). Vector MAXS takes the signed maximum per lane. -/
  | vMaxs (e : Nat) (vb : Bool) (f : VF)
  /-- V_AND (R143). Vector AND combines lanes bitwise. -/
  | vAnd (e : Nat) (vb : Bool) (f : VF)
  /-- V_OR (R143). Vector OR combines lanes bitwise. -/
  | vOr (e : Nat) (vb : Bool) (f : VF)
  /-- V_XOR (R143). Vector XOR combines lanes bitwise. -/
  | vXor (e : Nat) (vb : Bool) (f : VF)
  /-- V_ANDN (R143). Vector ANDN computes a AND NOT b per lane. -/
  | vAndn (e : Nat) (vb : Bool) (f : VF)
  /-- V_SHL (R144). Vector SHL shifts lanes left under SM. -/
  | vShl (e : Nat) (vb : Bool) (f : VF)
  /-- V_SHRU (R143). Vector SHRU shifts lanes right with zero fill. -/
  | vShru (e : Nat) (vb : Bool) (f : VF)
  /-- V_SHRS (R143). Vector SHRS shifts lanes right with sign fill. -/
  | vShrs (e : Nat) (vb : Bool) (f : VF)
  /-- ABSDU (R143). ABSDU takes the unsigned absolute difference per lane. -/
  | absdu (e : Nat) (vb : Bool) (f : VF)
  /-- V_CMPEQ (R147). Vector CMPEQ writes equality per enabled lane into a predicate. -/
  | vCmpeq (e : Nat) (vb : Bool) (f : VF)
  /-- V_CMPNE (R147). Vector CMPNE writes inequality per enabled lane into a predicate. -/
  | vCmpne (e : Nat) (vb : Bool) (f : VF)
  /-- V_CMPLTU (R147). Vector CMPLTU writes unsigned less-than per enabled lane into a predicate. -/
  | vCmpltu (e : Nat) (vb : Bool) (f : VF)
  /-- V_CMPLTS (R147). Vector CMPLTS writes signed less-than per enabled lane into a predicate. -/
  | vCmplts (e : Nat) (vb : Bool) (f : VF)
  /-- V_CMPLEU (R147). Vector CMPLEU writes unsigned less-or-equal per enabled lane into a predicate. -/
  | vCmpleu (e : Nat) (vb : Bool) (f : VF)
  /-- V_CMPLES (R147). Vector CMPLES writes signed less-or-equal per enabled lane into a predicate. -/
  | vCmples (e : Nat) (vb : Bool) (f : VF)
  /-- SEL (R137). SEL writes every lane from A or B as the predicate selects. -/
  | sel (e : Nat) (vb : Bool) (f : VF)
  /-- AVGU (R143). AVGU takes the rounded unsigned average per lane. -/
  | avgu (e : Nat) (vb : Bool) (f : VF)
  /-- PERM (R143). PERM permutes lanes of A by the lane indices in B. -/
  | perm (e : Nat) (f : VF)
  /-- ROTL (R143). ROTL rotates lanes of A by a scalar count. -/
  | rotl (e : Nat) (f : VF)
  /-- SPLAT (R143). SPLAT broadcasts one lane of A to every lane. -/
  | splat (e : Nat) (f : VF)
  /-- RSUM (R143). RSUM writes the wrapped sum of enabled lanes to lane 0 and zero elsewhere. -/
  | rsum (e : Nat) (f : VF)
  /-- PACK (R143). PACK narrows W32 lanes of A and B into H16 lanes under SM. -/
  | pack (e : Nat) (f : VF)
  /-- UNPKLU (R143). UNPKLU zero-extends the low H16 lanes of A to W32. -/
  | unpklu (e : Nat) (f : VF)
  /-- UNPKHU (R143). UNPKHU zero-extends the high H16 lanes of A to W32. -/
  | unpkhu (e : Nat) (f : VF)
  /-- UNPKLS (R143). UNPKLS sign-extends the low H16 lanes of A to W32. -/
  | unpkls (e : Nat) (f : VF)
  /-- UNPKHS (R143). UNPKHS sign-extends the high H16 lanes of A to W32. -/
  | unpkhs (e : Nat) (f : VF)
  /-- ZIPL (R143). ZIPL interleaves the low halves of A and B. -/
  | zipl (e : Nat) (f : VF)
  /-- ZIPH (R143). ZIPH interleaves the high halves of A and B. -/
  | ziph (e : Nat) (f : VF)
  /-- V_MUL (R143). Vector MUL keeps the low half of each lane product. -/
  | vMul (e : Nat) (f : VF)
  /-- MULHU (R143). MULHU keeps the high half of the unsigned lane product. -/
  | mulhu (e : Nat) (f : VF)
  /-- MULHS (R143). MULHS keeps the high half of the signed lane product. -/
  | mulhs (e : Nat) (f : VF)
  /-- MULQ (R145). MULQ forms the rounded fixed-point product under SM. -/
  | mulq (e : Nat) (f : VF)
  /-- MACQ (R145). MACQ adds the rounded fixed-point product to D under SM. -/
  | macq (e : Nat) (f : VF)
  /-- FMA (R146). FMA computes d + a x b in fp16 with one rounding. -/
  | fma (e : Nat) (f : VF)
  /-- FMUL (R146). FMUL multiplies fp16 lanes. -/
  | fmul (e : Nat) (f : VF)
  /-- FADD (R146). FADD adds fp16 lanes. -/
  | fadd (e : Nat) (f : VF)
  /-- FCVTU (R146). FCVTU converts fp16 lanes to u16 with saturation. -/
  | fcvtu (e : Nat) (f : VF)
  /-- UCVTF (R146). UCVTF converts u16 lanes to fp16. -/
  | ucvtf (e : Nat) (f : VF)
  /-- FMIN (R146). FMIN takes the fp16 minimum per lane. -/
  | fmin (e : Nat) (f : VF)
  /-- FMAX (R146). FMAX takes the fp16 maximum per lane. -/
  | fmax (e : Nat) (f : VF)
  /-- VLD (R148). VLD loads a 64-byte bank row into a V register in enabled lanes. -/
  | vld (e : Nat) (f : MF)
  /-- VLDP (R148). VLDP loads a bank row and post-increments the base register. -/
  | vldp (e : Nat) (f : MF)
  /-- VST (R148). VST stores enabled lanes of a V register to a bank row. -/
  | vst (e : Nat) (f : MF)
  /-- VSTP (R148). VSTP stores a V register and post-increments the base register. -/
  | vstp (e : Nat) (f : MF)
  /-- VSTS (R150). VSTS ORs a V register into a bank row as a read-modify-write at the bank. -/
  | vsts (e : Nat) (f : MF)
  /-- VSTC (R150). VSTC clears the bits of a V register in a bank row as a read-modify-write at the bank. -/
  | vstc (e : Nat) (f : MF)
  /-- XLD (R151). XLD loads each lane from its own row in its own column. -/
  | xld (e : Nat) (f : MXF)
  /-- XST (R151). XST stores each lane to its own row in its own column. -/
  | xst (e : Nat) (f : MXF)
  /-- SLD (R148). SLD loads a 32-bit bank word into an S register. -/
  | sld (e : Nat) (f : MF)
  /-- SLDP (R148). SLDP loads a bank word and post-increments the base register. -/
  | sldp (e : Nat) (f : MF)
  /-- SST (R148). SST stores an S register to a 32-bit bank word. -/
  | sst (e : Nat) (f : MF)
  /-- SSTP (R148). SSTP stores an S register and post-increments the base register. -/
  | sstp (e : Nat) (f : MF)
  /-- SSTS (R150). SSTS ORs an S register into a bank word at the bank. -/
  | ssts (e : Nat) (f : MF)
  /-- SSTC (R150). SSTC clears the bits of an S register in a bank word at the bank. -/
  | sstc (e : Nat) (f : MF)
  /-- VGET (R148). VGET copies one W32 lane of a V register into an S register. -/
  | vget (e : Nat) (f : MLF)
  /-- VPUT (R148). VPUT writes an S register into one W32 lane of a V register. -/
  | vput (e : Nat) (f : MLF)
  /-- SCSTART (R153). SCSTART queues a descriptor on a stream channel, or faults with DESC_RANGE or SC_OVERRUN. -/
  | scstart (e : Nat) (f : MCF)
  /-- SCSTAT (R148). SCSTAT reads the status of a stream channel into an S register. -/
  | scstat (e : Nat) (f : MCF)
  /-- C_ADD (R155). Scalar ADD adds two S registers modulo 2^32. -/
  | cAdd (e : Nat) (f : CF)
  /-- C_SUB (R155). Scalar SUB subtracts two S registers. -/
  | cSub (e : Nat) (f : CF)
  /-- C_AND (R155). Scalar AND combines two S registers. -/
  | cAnd (e : Nat) (f : CF)
  /-- C_OR (R155). Scalar OR combines two S registers. -/
  | cOr (e : Nat) (f : CF)
  /-- C_XOR (R155). Scalar XOR combines two S registers. -/
  | cXor (e : Nat) (f : CF)
  /-- C_SHL (R155). Scalar SHL shifts an S register left. -/
  | cShl (e : Nat) (f : CF)
  /-- C_SHRU (R155). Scalar SHRU shifts an S register right with zero fill. -/
  | cShru (e : Nat) (f : CF)
  /-- C_SHRS (R155). Scalar SHRS shifts an S register right with sign fill. -/
  | cShrs (e : Nat) (f : CF)
  /-- C_MUL (R155). Scalar MUL keeps the low 32 bits of the product. -/
  | cMul (e : Nat) (f : CF)
  /-- C_MINS (R155). Scalar MINS takes the signed minimum. -/
  | cMins (e : Nat) (f : CF)
  /-- C_MAXS (R155). Scalar MAXS takes the signed maximum. -/
  | cMaxs (e : Nat) (f : CF)
  /-- ADDI (R155). ADDI adds a signed 13-bit immediate to an S register. -/
  | addi (e : Nat) (f : CIF)
  /-- LIL (R155). LIL loads a zero-extended 16-bit immediate. -/
  | lil (e : Nat) (f : CIF)
  /-- LIH (R155). LIH loads a 16-bit immediate into the upper half of an S register. -/
  | lih (e : Nat) (f : CIF)
  /-- C_CMPEQ (R138). Scalar CMPEQ writes all ones or zero to a predicate on equality. -/
  | cCmpeq (e : Nat) (f : CF)
  /-- C_CMPNE (R138). Scalar CMPNE writes a predicate on inequality. -/
  | cCmpne (e : Nat) (f : CF)
  /-- C_CMPLTU (R138). Scalar CMPLTU writes a predicate on unsigned less-than. -/
  | cCmpltu (e : Nat) (f : CF)
  /-- C_CMPLTS (R138). Scalar CMPLTS writes a predicate on signed less-than. -/
  | cCmplts (e : Nat) (f : CF)
  /-- C_CMPLEU (R138). Scalar CMPLEU writes a predicate on unsigned less-or-equal. -/
  | cCmpleu (e : Nat) (f : CF)
  /-- C_CMPLES (R138). Scalar CMPLES writes a predicate on signed less-or-equal. -/
  | cCmples (e : Nat) (f : CF)
  /-- PAND (R155). PAND ANDs two predicates. -/
  | pand (e : Nat) (f : CF)
  /-- POR (R155). POR ORs two predicates. -/
  | por (e : Nat) (f : CF)
  /-- PNOT (R155). PNOT inverts a predicate. -/
  | pnot (e : Nat) (f : CF)
  /-- BR (R156). BR branches to TARGET after one delay slot when its predicate is set. -/
  | br (e : Nat) (f : CBF)
  /-- LOOPI (R157). LOOPI pushes a hardware loop level with an immediate count. -/
  | loopi (e : Nat) (f : CBF)
  /-- LOOPS (R157). LOOPS pushes a hardware loop level with a count from an S register. -/
  | loops (e : Nat) (f : CBF)
  /-- RDLC (R155). RDLC reads the remaining count of a loop level. -/
  | rdlc (e : Nat) (f : CF)
  /-- LAPMARK (R159). LAPMARK ends the lap and waits for both stream channels to drain before the save. -/
  | lapmark (e : Nat) (vgrp : Nat)
  /-- LAP_SAVE (R159). Once the channels have drained, the engine takes the save snapshot and writes the save record, ending the lap. -/
  | lapSave (e : Nat)
  /-- FENCE (R163). FENCE stops issue until the descriptors on the masked channels complete. -/
  | fence (e : Nat) (pr mask : Nat)
  /-- FENCE_RELEASE (R163). The last fenced descriptor completes and the engine resumes issue. -/
  | fenceRelease (e : Nat)
  /-- OWOPEN (R164). OWOPEN opens an open window of 16 x BUDGET16 steps for task kernels. -/
  | owopen (e : Nat) (win budget : Nat)
  /-- WINDOW_END (R164). The window budget is used up and plan code resumes after OWOPEN, with loop levels restored. -/
  | windowEnd (e : Nat)
  /-- KEND (R242). KEND ends a task kernel, reporting S24 as RESULT, or faults outside a window. -/
  | kend (e : Nat)
  /-- RDSYS (R155). RDSYS reads a system value into an S register. -/
  | rdsys (e : Nat) (f : CF)
  /-- FEND (R166). FEND ends the frame program and the engine becomes IDLE. -/
  | fend (e : Nat)
  /-- PAD_STEP (R162). The engine issues a NOP padding step of a lap or window until the declared count is reached. -/
  | padStep (e : Nat)
  /-- LAP_OVERRUN (R162). A lap reaches its declared step count before its save has ended and the engine faults with LAP_OVERRUN. -/
  | lapOverrun (e : Nat)
  /-- DESCRIPTOR_COMPLETE (R154). A stream descriptor completes and the channel starts the next one in its queue. -/
  | descriptorComplete (e ch : Nat)
  /-- IMEM_DATA_READ (R170). A read of ENGn.IMEM_DATA_0 fetches the bundle at IMEM_ADDR where allowed, or returns 0. -/
  | imemDataRead (q : Req) (e : Nat)
  /-- PLAN_LOAD (R189). A write of PLAN.LOAD_CMD with LOAD starts checking a plan image, or is refused with BUSY. -/
  | planLoad (q : Req) (v : Word)
  /-- PLAN_ABORT (R189). A write of PLAN.LOAD_CMD with ABORT stops a load before STAGED. -/
  | planAbort (q : Req) (v : Word)
  /-- LOAD_CHECK_END (R189). The loader finishes checking the image and either refuses it or proceeds to staging. -/
  | loadCheckEnd
  /-- LOAD_DONE (R190). Staging completes and LOAD_STATUS becomes STAGED. -/
  | loadDone
  /-- STAGED_CODE_COPY (R190). After a take-over during staging, the loader finishes rewriting the slot's staged code into the reserve. -/
  | stagedCodeCopy (slot : Nat)
  /-- RESHADOWED (R192). The reserves finish loading the new plan's code after a switch. -/
  | reshadowed
  /-- STOP_MODE_WRITE_DONE (R192). A stop-mode switch finishes writing in-service code and frames start again. -/
  | stopModeWriteDone
  /-- SPEED_SAMPLE (R195). Every 10.24 us the speed monitor samples each engine's step time and updates WORST_PS and CORNER_PS. -/
  | speedSample (samples : List SpeedIn) (vddcMv : Nat)
  /-- PLAN_FRAME_START (R199). At a plan frame start the sequencer admits the frame, sheds or restores levels or skips, and starts every engine. -/
  | planFrameStart
  /-- STRIPE_INSTANT (R202). A stripe's start instant arrives, releasing engines waiting at its STRIPE_START lap and judging stripe lateness. -/
  | stripeInstant (q : Nat)
  /-- LAP_MARK_NOTICE (R204). The lap watch takes a lap-mark notice and sets the next lap's due instant. -/
  | lapMarkNotice
  /-- FAULT_REPORT (R206). An engine fault report reaches the lap watch and a take-over is called. -/
  | faultReport
  /-- STALL_DETECT (R204). An engine issues no step for 2 us outside waits and a take-over with STALL is called. -/
  | stallDetect (slot : Nat)
  /-- LAP_DUE (R204). A lap's due instant passes, calling a take-over with LATE_MARK or, in fence wait, raising FENCE_LATE. -/
  | lapDue (slot : Nat)
  /-- RESTORE_DONE (R206). The reserve finishes restoring the save record and resumes at the next lap. -/
  | restoreDone (e : Nat)
  /-- BORROW_START (R230). The groomer starts borrowing a segment of a NONE or HOST bank and copies it to its holding buffer. -/
  | borrowStart (b seg : Nat)
  /-- BORROW_RELEASE (R230). The groomer finishes writing back a borrowed segment and releases it, serving stalled accesses. -/
  | borrowRelease (b : Nat) (bad : List Nat) (failed : List Nat)
  /-- BORROW_HOLDOFF_END (R232). The borrow hold-off of a bank expires and borrowing may resume. -/
  | borrowHoldoffEnd (b : Nat)
  /-- STALL_MAX_READ (R231). A read of BANKn.STALL_MAX_NS returns the longest stall and clears it. -/
  | stallMaxRead (q : Req) (b : Nat)
  /-- SCRUB_READ (R233). The groomer scrubs a bank word, correcting a single-bit error in place. -/
  | scrubRead (b word : Nat)
  /-- ROW_SPARE_START (R235). The groomer starts sparing a row: it sets mirroring and copies the row to a spare. -/
  | rowSpareStart (b row : Nat)
  /-- ROW_SPARED (R235). The copy ends and the row map switches to the spare, recorded in NVM. -/
  | rowSpared (b : Nat)
  /-- CTX_CFG_WRITE (R238). A write of SCHED.CTX_CFG_n sets a context's descriptor address and priority, or is discarded with CTX_BUSY. -/
  | ctxCfgWrite (q : Req) (n : Nat) (v : Word)
  /-- SUBMIT (R247). A SUBMIT reads descriptor words 0-1 and puts the task READY, DELAYED or BLOCKED, or is void or refused. -/
  | submit (q : Req) (ctx : Nat)
  /-- CANCEL (R247). A CANCEL ends a task that is not RUNNING as CANCELLED; `together` gives trace KIND (0x3 dispatch, 0x8 SUBMIT, 0x9 RELEASE) and requester of the requests for the context pending with it (R250). -/
  | cancel (q : Req) (ctx : Nat) (together : List (Nat × Nat))
  /-- ABORT (R251). An ABORT cancels a waiting task or passes to the unit of a RUNNING one; `together` as for CANCEL. -/
  | abort (q : Req) (ctx : Nat) (together : List (Nat × Nat))
  /-- ABORT_DECIDED (R251). The unit's commit arbiter decides an abort against its commit point, stopping the unit or letting it finish. -/
  | abortDecided (u : Nat)
  /-- RELEASE (R247). A RELEASE returns a DORMANT or ended context to FREE. -/
  | release (q : Req) (ctx : Nat)
  /-- TASK_CMD_BAD_OP (R256). A TASK_CMD with an undefined OP is void with BAD_OP. -/
  | taskCmdBadOp (q : Req) (ctx op : Nat)
  /-- TICK (R253). A tick mark reaches the dispatch arbiter, advances TICK_NOW and wakes due tasks from the delay list. -/
  | tick
  /-- SCHED_TRANSIT_MARK (R248). The dispatch arbiter takes a transit mark and releases AT_TRANSIT tasks. -/
  | schedTransitMark
  /-- SCHED_TRIGGER_MARK (R248). The dispatch arbiter takes a trigger action mark and releases AT_TRIGGER tasks. -/
  | schedTriggerMark
  /-- DISPATCH (R249). The dispatch arbiter starts the highest-priority READY task on each free unit. -/
  | dispatch
  /-- WINDOW_DISPATCH (R243). An engine with window steps left asks for a kernel and starts it, or hands it back. -/
  | windowDispatch (e delay : Nat)
  /-- TASK_COMPLETE (R247). A unit reports a task's commit point passed and the task ends DONE, releasing waiters. -/
  | taskComplete (u : Nat)
  /-- TASK_FAULTED (R247). A unit or kernel fault report ends a RUNNING task FAULTED. -/
  | taskFaulted
  /-- TRACE_RECORD_PUSH (R259). A trace record waiting in the 32-record buffer is accepted by FIFO2. -/
  | traceRecordPush
  /-- FIFO_PUSH (R264). A write of a PUSH_WIN high dword pushes one word, or waits for space, or is refused. -/
  | fifoPush (q : Req) (n k : Nat) (v : Word) (together : List FifoReq)
  /-- PUSH_COMPLETE (R268). A push waiting at a full or held FIFO completes once space appears. -/
  | pushComplete (n : Nat)
  /-- PUSH_STALL_EXPIRY (R270). A host push stalled for PUSH_STALL_LIMIT is discarded and DROPPING is set. -/
  | pushStallExpiry (n : Nat) (together : List FifoReq)
  /-- FIFO_POP (R264). A read of POP_LO pops one word and snapshots POP_HI, or underruns. -/
  | fifoPop (q : Req) (n : Nat) (together : List FifoReq)
  /-- FIFO_PEEK (R264). A read of PEEK_LO returns the head word without popping. -/
  | fifoPeek (q : Req) (n : Nat) (together : List FifoReq)
  /-- FLUSH (R275). FLUSH discards the words present, frees retained words and clears the mark. -/
  | flush (q : Req) (n : Nat) (v : Word) (together : List FifoReq)
  /-- FLUSH_AND_HOLD (R276). FLUSH_AND_HOLD flushes and sets HELD in one step. -/
  | flushAndHold (q : Req) (n : Nat) (v : Word) (together : List FifoReq)
  /-- OPEN (R276). OPEN clears HELD. -/
  | openFifo (q : Req) (n : Nat) (v : Word) (together : List FifoReq)
  /-- MARK_SET (R277). MARK_SET sets the rewind mark at RD_POS, or fails without a ring. -/
  | markSet (q : Req) (n : Nat) (v : Word) (together : List FifoReq)
  /-- REWIND (R279). REWIND returns RD_POS to the mark, or fails with NO_MARK or LOST. -/
  | rewind (q : Req) (n : Nat) (v : Word) (together : List FifoReq)
  /-- MARK_CLEAR (R279). MARK_CLEAR removes the mark, frees retained words and clears MARK_LOST. -/
  | markClear (q : Req) (n : Nat) (v : Word) (together : List FifoReq)
  /-- IDLE (R274). A non-empty FIFO sees no pop for IDLE_TIMEOUT and raises IDLE. -/
  | idle (n : Nat) (together : List FifoReq)
  /-- HDMA_BURST (R281). An HDMA task moves one burst of up to 64 bytes, popping only that burst's words. -/
  | hdmaBurst (data : List DWord) (err : Bool)
  /-- COMMAND_ACCEPT (R284). The command unit takes a whole record from FIFO0, stepping over bad words and stale records. -/
  | commandAccept
  /-- CMD_NOP (R282). A NOP command is executed as it is accepted. -/
  | cmdNop
  /-- CMD_TASK (R282). A TASK command reaches the dispatch arbiter as requester FIFO0. -/
  | cmdTask (together : List (Nat × Nat))
  /-- CMD_WRITE (R283). A WRITE command makes its register writes in order as PCIe writes. -/
  | cmdWrite
  /-- CMD_MARK (R285). A MARK command is executed when the event arbiter takes its CMD_MARK record. -/
  | cmdMark
  /-- PORT_RESTART (R291). A change of NET CTRL.MODE, FEC or AN_EN restarts the port, flushing TX buffer and timestamp queue. -/
  | portRestart (q : Req) (p : Nat) (v : Word)
  /-- LINK_UP (R291). A network port's link comes up in its mode. -/
  | linkUp (p speed : Nat)
  /-- LINK_DOWN (R303). A network port's link goes down and it stops sending. -/
  | linkDown (p : Nat)
  /-- RX_FRAME (R294). A received frame is checked, stamped, filtered and steered to a queue, flow or drop. -/
  | rxFrame (p : Nat) (bytes : List Byte) (fcsOk : Bool) (stamp : Nat) (lost : Nat)
  /-- PAUSE_RX (R309). A PAUSE frame starts, restarts or ends a pause, or is ignored in hold-off. -/
  | pauseRx (p quanta : Nat)
  /-- PAUSE_EXPIRY (R309). A pause's quanta run out and transmission resumes at the next frame boundary. -/
  | pauseExpiry (p : Nat)
  /-- PAUSE_WATCHDOG (R310). Unbroken pause reaches PAUSE_WD_US; the pause ends and PAUSE frames are ignored. -/
  | pauseWatchdog (p : Nat)
  /-- PAUSE_HOLDOFF_END (R310). The pause hold-off expires and PAUSE frames are honoured again. -/
  | pauseHoldoffEnd (p : Nat)
  /-- TX_ARBITRATE (R300). At a frame boundary the transmit arbiter picks the next whole frame and starts it on the line. -/
  | txArbitrate (p : Nat) (pop : Option Req) (pause : Option Nat)
  /-- TXR_TAIL_WRITE (R304). A write of TXR_TAIL_r rings the doorbell after earlier BAR2 writes are taken. -/
  | txrTailWrite (q : Req) (p r : Nat) (v : Word)
  /-- TX_DESCRIPTOR (R305). The port takes a transmit descriptor, checks it and builds its frames, or refuses it. -/
  | txDescriptor (p r : Nat)
  /-- LAUNCH_AT (R304). LAUNCH_ST32 arrives and a held descriptor's first frame may start. -/
  | launchAt (p r : Nat)
  /-- TX_DESCRIPTOR_DONE (R304). A descriptor's frames have been sent; words 6-7 are written back and TXR_HEAD advances. -/
  | txDescriptorDone (p r : Nat)
  /-- TSQ_POP (R315). A read of TSQ_0 pops the head of the timestamp queue and snapshots TSQ_1 and TSQ_2. -/
  | tsqPop (q : Req) (p : Nat)
  /-- LPI_ENTER (R311). An idle transmitter enters low-power idle after LPI IDLE_US. -/
  | lpiEnter (p : Nat)
  /-- LPI_EXIT (R311). The transmitter leaves LPI before a paced frame or when a frame becomes whole. -/
  | lpiExit (p : Nat)
  /-- DRAM_WHEEL_SLOT (R319). At each wheel position the slot arbiter gives the access to its plan owner, guaranteed class or surplus. -/
  | dramWheelSlot (slot : WheelSlot)
  /-- EGRESS_PACKET_HANDOVER (R335). An egress unit hands a whole packet to its port as a paced frame ahead of its due instant. -/
  | egressPacketHandover (n : Nat)
  /-- SACN_SOURCE_TIMEOUT (R337). A source sends nothing for LOSS_MS and leaves its universe. -/
  | sacnSourceTimeout (univ : Nat) (cid : List Byte)
  /-- SNAPSHOT_WRITE_DONE (R338). A receive snapshot write for a plan frame ends and held packets are applied. -/
  | snapshotWriteDone (unit : Nat)
  /-- SACN_TX_PACKET (R339). At launch plus j x SPACING_NS a universe's E1.31 packet is handed to the port. -/
  | sacnTxPacket
  /-- SACN_KEEPALIVE (R340). A universe silent for KEEPALIVE_MS resends its last packet. -/
  | sacnKeepalive (ctx j : Nat)
  /-- DMX_PACKET_END (R342). An emitted DMX packet's last slot ends and the line becomes free. -/
  | dmxPacketEnd (n : Nat)
  /-- DMX_RX_PACKET (R343). An INPUT or RESPONDER port accepts a DMX packet for its next snapshot. -/
  | dmxRxPacket (n : Nat) (packet : DmxIn)
  /-- DMX_RX_TIMEOUT (R343). One second passes without an accepted packet and RX_VALID falls. -/
  | dmxRxTimeout (n : Nat)
  /-- RDM_REQUEST_START (R345). The gap arbiter finds a gap and starts an RDM request break, the task's commit point. -/
  | rdmRequestStart (n : Nat)
  /-- RDM_RESPONSE (R346). An RDM response is taken whole and the transaction ends with a FIFO3 record. -/
  | rdmResponse (n : Nat) (r : RdmIn)
  /-- RDM_RESPONSE_TIMEOUT (R346). No response starts within RESP_WAIT_US and the transaction ends NO_RESPONSE. -/
  | rdmResponseTimeout (n : Nat)
  /-- RDM_REQUEST_IN (R349). A RESPONDER port receives an RDM request addressed to it. -/
  | rdmRequestIn (n : Nat) (bytes : List Byte)
  /-- RDM_RESPONDER_ANSWER (R349). After TURN_US a responder sends its answer and writes its record. -/
  | rdmResponderAnswer (n : Nat)
  /-- QMSG_PUSH (R349). A write of DMXn.QMSG_PUSH pushes a prepared answer into the queued-message store. -/
  | qmsgPush (q : Req) (n : Nat) (v : Word)
  /-- LATCH_POINT (R370). At a port's latch point the latch arbiter decides the frame and takes commits and derating. -/
  | latchPoint (n : Nat) (chain : Option Nat)
  /-- PORT_FRAME_START (R356). A port frame starts as a flip, hold or blank frame. -/
  | portFrameStart (n : Nat) (late : Bool)
  /-- LINE_SLOT_START (R357). A line slot begins with its line eclipse and runs the LINE section. -/
  | lineSlotStart (n : Nat)
  /-- BMODE_PLANE (R390). A B-mode plane period begins, pulsing GOE for its weight while the next plane shifts. -/
  | bmodePlane (n : Nat)
  /-- END (R383). Script END ends the running section. -/
  | endOp (n : Nat)
  /-- SHIFT_DATA (R384). Script SHIFT_DATA shifts a line's channel values with LAT_CLKS under LAT. -/
  | shiftData (n : Nat)
  /-- SHIFT_CONST (R384). Script SHIFT_CONST shifts a constant pattern on every lane. -/
  | shiftConst (n : Nat)
  /-- SHIFT_GAIN (R384). Script SHIFT_GAIN shifts CONST_BASE with a colour's gain code. -/
  | shiftGain (n : Nat)
  /-- LATCH (R384). Script LATCH holds LAT high for N SCLK periods. -/
  | latchOp (n : Nat)
  /-- GOE (R385). Script GOE sets GOE active or inactive, optionally as grayscale clock. -/
  | goeOp (n : Nat)
  /-- ROW (R391). Script ROW drives the slot line, a value or a ghost-discharge code. -/
  | rowOp (n : Nat)
  /-- WAIT (R383). Script WAIT waits a number of ticks. -/
  | waitOp (n : Nat)
  /-- LOOP (R383). Script LOOP begins a counted loop. -/
  | loopOp (n : Nat)
  /-- ENDLOOP (R383). Script ENDLOOP returns to the loop start or ends it. -/
  | endLoopOp (n : Nat)
  /-- READ (R397). Script READ clocks readback flags in from SDI and judges channel diagnosis. -/
  | readOp (n : Nat) (flags : List Bool)
  /-- SHIFT_PROBE (R399). Script SHIFT_PROBE shifts the probe mask for the channels probed. -/
  | shiftProbe (n : Nat)
  /-- PULSE (R399). Script PULSE holds GOE active for DETECT_TICKS. -/
  | pulseOp (n : Nat)
  /-- CHAIN_TEST_WRITE (R400). A write of LEDn.CTRL.CHAIN_TEST requests a chain test at the next frame. -/
  | chainTestWrite (q : Req) (n : Nat) (v : Word)
  /-- VERIFY_AGE_TICK (R398). Every 62.5 ms each channel's verify age advances and may pass AGE_LIMIT. -/
  | verifyAgeTick (n : Nat)
  /-- SCRIPT_WRITE (R382). A write of LEDn.SCRIPT_n lands in the other half or is discarded with SCRIPT_BUSY. -/
  | scriptWrite (q : Req) (n k : Nat) (v : Word)
  /-- CURVE_DATA_WRITE (R392). A write of CURVE_DATA sets a knot of the bank not in force and advances KNOT. -/
  | curveDataWrite (q : Req) (n : Nat) (v : Word)
  /-- CURVE_DATA_READ (R392). A read of CURVE_DATA returns a knot and advances KNOT. -/
  | curveDataRead (q : Req) (n : Nat)
  /-- GEN (R393). A write of LEDn.CTRL.GEN starts the curve generator on the bank not in force. -/
  | gen (q : Req) (n : Nat) (v : Word)
  /-- GEN_DONE (R393). The curve generator completes and GEN_BUSY falls. -/
  | genDone (n : Nat)
  /-- SENSE_SEQUENCE_START (R403). A 16 us sense sequence starts, applying configuration writes and stand-in changes. -/
  | senseSequenceStart
  /-- SENSE_CONVERSION (R405). A converter slot converts one channel, corrects it and updates averages, limits and the stream. -/
  | senseConversion (ch : Nat) (trig : Bool) (code : Nat)
  /-- DTS_READING (R404). A die sensor takes a temperature reading. -/
  | dtsReading (k : Nat) (t : Int)
  /-- DTS_FAULT (R486). A die sensor disagrees with the median for 1 s and is excluded. -/
  | dtsFault (k : Nat)
  /-- CAL_POSITION_START (R411). The calibration unit starts the steps of the next rotation position. -/
  | calPositionStart
  /-- PATH_STEP_END (R414). A PATH step collects its chopped pairs and passes or rejects a new path offset. -/
  | pathStepEnd
  /-- BOARD_OFFSET_END (R415). A BOARD_OFFSET step collects dark samples and passes or rejects a board offset. -/
  | boardOffsetEnd
  /-- BOARD_GAIN_END (R416). A BOARD_GAIN step regresses measured on commanded current and passes or rejects a board gain. -/
  | boardGainEnd
  /-- CAL_RUN_LIMIT (R415). RUN_LIMIT_S passes without enough samples and the step ends NO_SAMPLES. -/
  | calRunLimit
  /-- CAL_RECOMPUTE (R418). While no transits are derived, calibration values in force are recomputed every 1 ms. -/
  | calRecompute
  /-- CAL_STORE_DONE (R425). A calibration store finishes writing and reading back its slot, raising STORED or STORE_FAILED. -/
  | calStoreDone (fails : Nat)
  /-- CL_TRAINING_PROGRESS (R436). A Camlek link passes a training state, reaching UP after the time exchanges. -/
  | clTrainingProgress (p : Nat) (t : TrainStep)
  /-- CL_TRAIN_TIMEOUT (R436). Training does not end within 5 ms and the link returns to DOWN. -/
  | clTrainTimeout (p : Nat)
  /-- LANE_MARK_SEND (R435). Every 16,384 block times all lanes send LANE_MARK blocks, swapping in the spare where agreed. -/
  | laneMarkSend (p : Nat)
  /-- LANE_MARK_RX (R435). A LANE_MARK block is received and lanes are aligned and skew measured. -/
  | laneMarkRx (p lane skew : Nat) (fail : Option Nat)
  /-- LANE_FAIL (R435). A lane loses sync or markers and is marked failed for sparing. -/
  | laneFail (p lane : Nat)
  /-- TIME_BLOCK_SEND (R437). Every SAMPLE_US a Camlek port sends a TIME block. -/
  | timeBlockSend (p : Nat)
  /-- TIME_BLOCK_RX (R437). A TIME block arrives and is answered with a TIME_RPT. -/
  | timeBlockRx (p no prev arrival : Nat)
  /-- TIME_RPT_RX (R438). A TIME_RPT completes an exchange, updating link delay and giving a moon an offset sample. -/
  | timeRptRx (p no stamp : Nat) (up : UpInfo)
  /-- CELL_RX (R443). A unicast cell arrives whole and is delivered, forwarded, detoured or discarded. -/
  | cellRx (p seq : Nat) (ok : Bool) (c : Cell)
  /-- ACK_SEND (R442). At least every 0.5 us a port sends an ACK of cells received in order. -/
  | ackSend (p : Nat)
  /-- ACK_RX (R442). An ACK frees acknowledged cells from the retry buffer. -/
  | ackRx (p seq : Nat)
  /-- RETRY_REQ_RX (R442). A RETRY_REQ makes the sender replay from the named sequence number. -/
  | retryReqRx (p seq : Nat)
  /-- RETRY_TIMEOUT (R442). A retry not completed within 16 us takes the link DOWN. -/
  | retryTimeout (p : Nat)
  /-- FRAME_END (R445). A FRAME_END control cell reaches a receive window's member. -/
  | frameEnd (p seq : Nat) (ok : Bool) (c : Cell)
  /-- TOPOLOGY (R447). A flooded TOPOLOGY cell updates routes, upstream and membership. -/
  | topology (p seq : Nat) (ok : Bool) (c : Cell) (ids : List Nat)
  /-- RATE_COMMIT (R440). A flooded RATE_COMMIT cell makes a moon take the planet's rate at the named transit. -/
  | rateCommit (p seq : Nat) (ok : Bool) (c : Cell)
  /-- STEP (R440). A flooded STEP cell makes a moon apply the planet's step at Ta. -/
  | groupStep (p seq : Nat) (ok : Bool) (c : Cell)
  /-- ELECT (R432). A flooded ELECT cell carries a candidate's priority and identity to every member. -/
  | elect (p seq : Nat) (ok : Bool) (c : Cell)
  /-- RATE_PROPOSE (R446). An end proposes a lane rate step naming a transit at least 100 us ahead. -/
  | ratePropose (p n : Nat)
  /-- RATE_BLOCK_RX (R446). A RATE block proposal, agreement or decline is answered by the port's rate arbiter. -/
  | rateBlockRx (p code n kind : Nat)
  /-- RATE_RELOCK_DONE (R446). The link relocks at the new rate and resumes sending. -/
  | rateRelockDone (p : Nat)
  /-- CL_LINK_DOWN (R447). Two lanes lose block lock for 1 us and the link goes DOWN with detours. -/
  | clLinkDown (p : Nat)
  /-- PLANET_LOSS_TIMEOUT (R448). 100 us without a path to the planet makes the reachable members elect a new planet. -/
  | planetLossTimeout
  /-- KEY_DERIVE (R455). A DERIVE task derives a key into DST under the counter-mode KDF. -/
  | keyDerive
  /-- KEY_GENERATE (R466). A GENERATE task fills DST with key material from the entropy source. -/
  | keyGenerate
  /-- KEY_CLEAR (R466). A CLEAR task empties a slot and orphans its descendants. -/
  | keyClear
  /-- KEY_PUBKEY (R466). A PUBKEY task writes the public key of an ECC slot. -/
  | keyPubkey
  /-- KEY_HASH (R466). A HASH task writes the SHA-256 of its input. -/
  | keyHash
  /-- KEY_MAC (R466). A MAC task writes an HMAC-SHA-256 of its input. -/
  | keyMac
  /-- KEY_SIGN (R466). A SIGN task writes an ECDSA P-256 signature of a digest. -/
  | keySign
  /-- KEY_VERIFY (R466). A VERIFY task checks an ECDSA P-256 signature. -/
  | keyVerify
  /-- KEY_ENCRYPT (R466). An ENCRYPT task writes AES-256-GCM ciphertext and tag. -/
  | keyEncrypt
  /-- KEY_DECRYPT (R466). A DECRYPT task verifies the tag and writes plaintext. -/
  | keyDecrypt
  /-- KEY_STORE (R470). A STORE task writes a key blob copy and checks it. -/
  | keyStore (fails : Nat)
  /-- KEY_LOAD (R470). A LOAD task opens the newer valid blob copy into a slot. -/
  | keyLoad
  /-- KEY_ERASE (R471). An ERASE task overwrites both blob copies, older first. -/
  | keyErase (fails : Nat)
  /-- KEY_ATTEST (R473). An ATTEST task writes a statement and its signature by the identity key. -/
  | keyAttest
  /-- KEY_CHALLENGE (R474). A CHALLENGE task writes measurements and a MAC under a shared HMAC slot. -/
  | keyChallenge
  /-- KEY_EXTEND (R463). An EXTEND task extends MEAS2 with a digest. -/
  | keyExtend
  /-- ROOT_CREATE (R451). A ROOT_CREATE task creates the root, increments ROOT_EPOCH and derives the identity key. -/
  | rootCreate
  /-- SLOT_CLEAR (R462). A write of KEY.SLOT_CMD with CLEAR empties a slot at the slot arbiter. -/
  | slotClear (q : Req) (v : Word)
  /-- IMPORT_GO (R464). A write of KEY.IMPORT_GO imports the key in IMPORT_DATA into a slot, or refuses it. -/
  | importGo (q : Req) (v : Word)
  /-- IMPORT_LOCK_WRITE (R465). A write of 1 to KEY.CTRL.IMPORT_LOCK locks import until reset. -/
  | importLockWrite (q : Req) (v : Word)
  /-- ZEROIZE_WRITE (R453). A write of KEY.ZEROIZE with the code asserts the tamper line with cause CMD. -/
  | zeroizeWrite (q : Req) (v : Word)
  /-- TAMPER_CFG_WRITE (R454). A write of KEY.TAMPER_CFG is taken only while the root is not VALID. -/
  | tamperCfgWrite (q : Req) (v : Word)
  /-- TAMPER_INPUT (R452). An enabled tamper source holds for its filter time and asserts the tamper line. -/
  | tamperInput (src : Nat)
  /-- RESET_RELEASE (R501). Reset is released and the boot sequence starts, with the root checked against its check value. -/
  | resetRelease (straps : Nat) (recoveryN : Bool) (f : Fuses)
  /-- RESET_ASSERT (R501). RESET_N goes low and the device enters reset with the ball states of Table 17-3. -/
  | resetAssert
  /-- POWER_FAIL (R502). A rail falls below its monitor threshold for 1 us and the device enters reset. -/
  | powerFail
  /-- VBAT_CHANGEOVER (R503). The VBAT domain changes between VDDA and VBAT supply, or loses all power. -/
  | vbatChangeover (supply : VbatSupply)
  /-- BOOT_PHASE_END (R476). A boot phase completes, starting the next, raising READY after CHECK, or failing into recovery. -/
  | bootPhaseEnd (r : BootEnd)
  /-- MSPI_READ (R480). An MSPI READ frame reads dwords of a page as requester MSPI. -/
  | mspiRead (addr n : Nat) (cut : Bool)
  /-- MSPI_WRITE (R480). An MSPI WRITE frame writes dwords of a page as requester MSPI. -/
  | mspiWrite (addr : Nat) (ws : List Word) (cut : Bool)
  /-- MSPI_STATUS (R480). An MSPI STATUS frame returns the status byte. -/
  | mspiStatus
  /-- RECOVERY_ENTER (R481). An MSPI write of SYS.RECOVERY with ENTER puts the device in recovery mode. -/
  | recoveryEnter (q : Req) (v : Word)
  /-- RECOVERY_EXIT (R481). An MSPI write of SYS.RECOVERY with EXIT restarts the boot from STRAPS. -/
  | recoveryExit (q : Req) (v : Word)
  /-- AVS_SETTLE (R483). SETTLE_US after a command passes and a further up-step may follow. -/
  | avsSettle
  /-- AVS_PERIOD (R483). At the end of each PERIOD_MS the predicted margin is checked for a down-step. -/
  | avsPeriod
  /-- PMBUS_TRANSACTION_END (R482). A PMBus transaction is acknowledged, retried or fails with PMBUS_FAIL. -/
  | pmbusTransactionEnd (ack : Bool)
  /-- ENG_TEST (R487). The groomer starts a reserve's or retired engine's self-test. -/
  | engTest (e : Nat)
  /-- ENG_TEST_END (R487). An engine self-test ends, returning, retiring or placing the engine. -/
  | engTestEnd (e : Nat) (pass : Bool)
  /-- SEG_TEST (R488). The groomer tests powered-down instruction segments and records SEG_OK. -/
  | segTest (e seg : Nat) (pass : Bool)
  /-- DRAM_SCRUB (R489). The DRAM scrub reads and corrects a word, sparing failing rows. -/
  | dramScrub (addr ch row : Nat) (newPass failsTest : Bool)
  /-- DRAM_ROW_SPARED (R489). A DRAM row copy ends and the row map switches to a runtime spare. -/
  | dramRowSpared (ch row : Nat)
  /-- NVM_WRITE_DONE (R490). An NVM write is read back and, on failure, remapped to a spare sector and retried. -/
  | nvmWriteDone (fails : Nat)
  /-- HOUR_TICK (R491). Each powered hour the counters POWER_HOURS and HOT_HOURS are written. -/
  | hourTick
  /-- WEAR_RECORD (R492). Every 240 powered hours a wear record is appended and EOL_DAYS refit. -/
  | wearRecord (fails : Nat)
  /-- SELF_REFRESH_ENTER (R495). All latency tolerances allow it and DRAM enters self-refresh. -/
  | selfRefreshEnter
  /-- SELF_REFRESH_EXIT (R495). A tolerance falls or an access arrives and DRAM leaves self-refresh. -/
  | selfRefreshExit
  /-- ANNOUNCE_RECEIPT_TIMEOUT (R107). ANNOUNCE_TIMEOUT intervals pass without an Announce from the master in use, and the PTP engine loses that master and changes to another qualified master or glides. -/
  | announceReceiptTimeout
  /-- CL_TRANSMIT_ARBITER (R443). At each block boundary a Camlek port's transmit arbiter picks the next TIME, ACK, replay, control or FRAME cell and sends it on the lanes. -/
  | clTransmitArbiter (p : Nat)
  /-- CONFIGURATION_REQUEST (R478). A PCIe configuration request reaches the endpoint and is answered from the end of phase PLL, including in recovery mode. -/
  | configurationRequest (r : CfgReq)
  /-- TAMPER_LINE_RELEASE (R452). The tamper source condition ends, the tamper line is released, TAMPER_ACTIVE falls and ROOT_CREATE and IMPORT are no longer refused. -/
  | tamperLineRelease (src : Nat)
  /-- RECEIVE_LPI (R311). The link partner enters or leaves low-power idle and STATUS.RX_LPI follows it. -/
  | receiveLpi (p : Nat) (on : Bool)
  /-- SERDES_FAIL (R321). A network port's SerDes fails with its transmit PLL unlocked or its receive clock lost with signal present, raising BLOCK_FAULT. -/
  | serdesFail (p : Nat) (pll clk : Bool)
  /-- RETURNED_ENGINE_LOADED (R487). The code of a LOST slot or reserve group finishes loading into a returned engine's segment within 1 ms, so it serves the slot from the next frame start or becomes the group's reserve. -/
  | returnedEngineLoaded (e : Nat)
  deriving DecidableEq, Repr

end Sys2Proof
end

