-- ==== Sys2Proof/Config.lean ====
section
/-! DEFINITION. What the spec leaves open: opaque constants without a body, so that no proof can see a value of them (log entry 2). -/

namespace Sys2Proof

/-- The free value taken with number `n` (log entry 2): the spec says the value is undefined or states
none, and the block goes on. Every use applies it to the counter `State.free` and reads only the width
it needs. -/
opaque Config.freeValue : Nat → Nat

/-- The PTP port identity (clockIdentity and portNumber) the engine sends Delay_Req with on a port: the spec gives none
(log entry 8). -/
opaque Config.portIdentity : Nat → BitVec 80

end Sys2Proof
end

