-- ==== Sys2Proof/Machine/Regs.lean ====
section
/-! DEFINITION. The register tables of the spec as Lean data: one row per register of a page with its fields, their access types and reset values, and one name per field. Every number here is copied from the field tables of spec/01 to spec/16 (Table 02-3 for the common registers); a reset entry the spec gives as boot, fuse, X or VBAT stands here as 0, SEG_OK as 0b1111 (log entry 3). -/

namespace Sys2Proof.Machine

/-- Access types of Table 00-6 (R18); SH is a flag of its own in `FieldRow`. -/
inductive Acc where
  | ro | rw | wo | w1c | w1s
  deriving DecidableEq, Repr

/-- One field of a register: lowest bit, width, access type, shadowed or not, reset value. -/
structure FieldRow where
  lo : Nat
  w : Nat
  acc : Acc
  sh : Bool
  reset : Nat
  deriving DecidableEq, Repr

/-- One register of a page: offset of its first instance, distance and number of its instances, the
only page instance that has it (`none`: every instance), its fields. -/
structure RegRow where
  off : Nat
  stride : Nat
  count : Nat
  only : Option Nat
  fields : List FieldRow
  deriving DecidableEq, Repr

/-- A field by name: first page of its block, offset, distance between repeated registers, lowest bit, width. -/
structure Fld where
  page : Nat
  off : Nat
  stride : Nat
  lo : Nat
  w : Nat
  deriving DecidableEq, Repr

/-- The same field of page instance `i` (R12). -/
def Fld.inst (f : Fld) (i : Nat) : Fld := { f with page := f.page + i }

/-- The same field of the `n`-th repeated register (R13). -/
def Fld.nth (f : Fld) (n : Nat) : Fld := { f with off := f.off + n * f.stride }

/-- The place of a register in the register file: pages of 0x1000 bytes (Table 02-1). -/
def regKey (page off : Nat) : Nat := page * 4096 + off

/-- The place of the field's register. -/
def Fld.key (f : Fld) : Nat := regKey f.page f.off

/-- Registers of the SYS page. -/
def regsSYS : List RegRow := [
  ⟨0x000, 0, 1, none, [⟨0, 8, .ro, false, 0⟩, ⟨8, 8, .ro, false, 0⟩, ⟨16, 16, .ro, false, 0⟩]⟩,
  ⟨0x004, 0, 1, none, []⟩,
  ⟨0x008, 0, 1, none, []⟩,
  ⟨0x00C, 0, 1, none, [⟨0, 1, .ro, false, 0⟩, ⟨1, 1, .ro, false, 0⟩, ⟨2, 1, .ro, false, 0⟩, ⟨3, 1, .ro, false, 0⟩]⟩,
  ⟨0x010, 0, 1, none, [⟨0, 8, .w1c, false, 0⟩, ⟨8, 24, .w1c, false, 0⟩]⟩,
  ⟨0x014, 0, 1, none, [⟨0, 32, .rw, false, 0⟩]⟩,
  ⟨0x018, 0, 1, none, [⟨0, 32, .w1s, false, 0⟩]⟩,
  ⟨0x01C, 0, 1, none, [⟨0, 32, .ro, false, 0⟩]⟩,
  ⟨0x020, 0, 1, none, [⟨0, 2, .rw, false, 0⟩, ⟨4, 1, .wo, false, 0⟩, ⟨5, 1, .wo, false, 0⟩]⟩,
  ⟨0x024, 0, 1, none, [⟨0, 32, .rw, false, 0⟩]⟩,
  ⟨0x028, 0, 1, none, [⟨0, 3, .ro, false, 0⟩, ⟨4, 4, .ro, false, 0⟩, ⟨8, 1, .ro, false, 0⟩, ⟨16, 16, .ro, false, 0⟩]⟩,
  ⟨0x02C, 0, 1, none, [⟨0, 2, .rw, false, 0⟩]⟩,
  ⟨0x044, 0, 1, none, [⟨0, 4, .ro, false, 0⟩, ⟨4, 4, .ro, false, 0⟩, ⟨8, 8, .ro, false, 0⟩]⟩,
  ⟨0x048, 0, 1, none, [⟨0, 32, .ro, false, 0⟩]⟩,
  ⟨0x04C, 0, 1, none, [⟨0, 16, .wo, false, 0⟩, ⟨16, 2, .wo, false, 0⟩]⟩,
  ⟨0x050, 0, 1, none, [⟨0, 32, .ro, false, 0⟩]⟩,
  ⟨0x054, 0, 1, none, [⟨0, 32, .ro, false, 0⟩]⟩,
  ⟨0x058, 0, 1, none, [⟨0, 16, .ro, false, 0⟩, ⟨16, 16, .ro, false, 0⟩]⟩,
  ⟨0x05C, 0, 1, none, [⟨0, 16, .ro, false, 65535⟩, ⟨16, 1, .ro, false, 0⟩]⟩,
  ⟨0x060, 0, 1, none, [⟨0, 16, .ro, false, 0⟩]⟩,
  ⟨0x040, 0, 1, none, [⟨0, 8, .ro, false, 0⟩, ⟨8, 8, .ro, false, 2⟩, ⟨16, 1, .ro, false, 0⟩]⟩]

/-- Registers of the HOST page. -/
def regsHOST : List RegRow := [
  ⟨0x000, 0, 1, none, [⟨0, 8, .ro, false, 0⟩, ⟨8, 8, .ro, false, 0⟩, ⟨16, 16, .ro, false, 0⟩]⟩,
  ⟨0x004, 0, 1, none, []⟩,
  ⟨0x008, 0, 1, none, []⟩,
  ⟨0x00C, 0, 1, none, []⟩,
  ⟨0x010, 0, 1, none, [⟨0, 8, .w1c, false, 0⟩, ⟨8, 24, .w1c, false, 0⟩]⟩,
  ⟨0x014, 0, 1, none, [⟨0, 32, .rw, false, 0⟩]⟩,
  ⟨0x018, 0, 1, none, [⟨0, 32, .w1s, false, 0⟩]⟩,
  ⟨0x01C, 0, 1, none, [⟨0, 32, .ro, false, 0⟩]⟩,
  ⟨0x020, 0, 1, none, [⟨0, 2, .rw, false, 0⟩, ⟨4, 1, .wo, false, 0⟩, ⟨5, 1, .wo, false, 0⟩]⟩,
  ⟨0x024, 0, 1, none, [⟨0, 32, .rw, false, 0⟩]⟩,
  ⟨0x028, 0, 1, none, [⟨0, 3, .ro, false, 0⟩, ⟨4, 4, .ro, false, 0⟩, ⟨8, 1, .ro, false, 0⟩, ⟨16, 16, .ro, false, 0⟩]⟩,
  ⟨0x02C, 0, 1, none, [⟨0, 2, .rw, false, 0⟩]⟩,
  ⟨0x040, 0, 1, none, [⟨0, 4, .rw, true, 0⟩]⟩,
  ⟨0x044, 0, 1, none, [⟨0, 32, .ro, false, 0⟩]⟩,
  ⟨0x048, 0, 1, none, [⟨0, 32, .w1s, false, 4294967295⟩]⟩,
  ⟨0x04C, 0, 1, none, [⟨0, 32, .w1s, false, 4294967295⟩]⟩,
  ⟨0x100, 4, 8, none, [⟨0, 32, .ro, false, 0⟩]⟩,
  ⟨0x400, 4, 256, none, [⟨0, 6, .rw, false, 0⟩, ⟨8, 1, .rw, false, 0⟩, ⟨9, 1, .rw, false, 1⟩, ⟨10, 1, .rw, false, 0⟩]⟩,
  ⟨0x800, 4, 256, none, [⟨0, 32, .rw, false, 0⟩]⟩,
  ⟨0xC00, 4, 2, none, [⟨0, 32, .ro, false, 0⟩]⟩]

/-- Registers of the TIME page. -/
def regsTIME : List RegRow := [
  ⟨0x000, 0, 1, none, [⟨0, 8, .ro, false, 0⟩, ⟨8, 8, .ro, false, 0⟩, ⟨16, 16, .ro, false, 0⟩]⟩,
  ⟨0x004, 0, 1, none, []⟩,
  ⟨0x008, 0, 1, none, [⟨0, 2, .rw, false, 0⟩, ⟨2, 1, .rw, false, 0⟩, ⟨3, 1, .rw, false, 1⟩, ⟨4, 1, .rw, false, 0⟩, ⟨5, 1, .rw, false, 0⟩, ⟨6, 1, .rw, false, 0⟩, ⟨7, 1, .rw, false, 0⟩]⟩,
  ⟨0x00C, 0, 1, none, [⟨0, 3, .ro, false, 0⟩, ⟨3, 1, .ro, false, 0⟩, ⟨4, 2, .ro, false, 0⟩, ⟨6, 1, .ro, false, 0⟩, ⟨7, 1, .ro, false, 0⟩]⟩,
  ⟨0x010, 0, 1, none, [⟨0, 8, .w1c, false, 0⟩, ⟨8, 24, .w1c, false, 0⟩]⟩,
  ⟨0x014, 0, 1, none, [⟨0, 32, .rw, false, 0⟩]⟩,
  ⟨0x018, 0, 1, none, [⟨0, 32, .w1s, false, 0⟩]⟩,
  ⟨0x01C, 0, 1, none, [⟨0, 32, .ro, false, 0⟩]⟩,
  ⟨0x020, 0, 1, none, [⟨0, 2, .rw, false, 0⟩, ⟨4, 1, .wo, false, 0⟩, ⟨5, 1, .wo, false, 0⟩]⟩,
  ⟨0x024, 0, 1, none, [⟨0, 32, .rw, false, 0⟩]⟩,
  ⟨0x028, 0, 1, none, [⟨0, 3, .ro, false, 0⟩, ⟨4, 4, .ro, false, 0⟩, ⟨8, 1, .ro, false, 0⟩, ⟨16, 16, .ro, false, 0⟩]⟩,
  ⟨0x02C, 0, 1, none, [⟨0, 2, .rw, false, 0⟩]⟩,
  ⟨0x200, 0, 1, none, [⟨0, 20, .rw, true, 60⟩]⟩,
  ⟨0x204, 0, 1, none, [⟨0, 16, .rw, true, 1⟩]⟩,
  ⟨0x208, 0, 1, none, [⟨0, 32, .ro, false, 0⟩]⟩,
  ⟨0x20C, 0, 1, none, [⟨0, 32, .ro, false, 0⟩]⟩,
  ⟨0x210, 0, 1, none, [⟨0, 32, .ro, false, 0⟩]⟩,
  ⟨0x214, 0, 1, none, [⟨0, 1, .ro, false, 0⟩, ⟨1, 1, .ro, false, 0⟩]⟩,
  ⟨0x040, 0, 1, none, [⟨0, 30, .ro, false, 0⟩]⟩,
  ⟨0x044, 0, 1, none, [⟨0, 32, .ro, false, 0⟩]⟩,
  ⟨0x048, 0, 1, none, [⟨0, 16, .ro, false, 0⟩]⟩,
  ⟨0x04C, 0, 1, none, [⟨0, 16, .ro, false, 0⟩]⟩,
  ⟨0x050, 0, 1, none, [⟨0, 32, .ro, false, 0⟩]⟩,
  ⟨0x060, 0, 1, none, [⟨0, 32, .rw, false, 1000000⟩]⟩,
  ⟨0x064, 0, 1, none, [⟨0, 20, .rw, false, 50000⟩]⟩,
  ⟨0x068, 0, 1, none, [⟨0, 16, .rw, false, 32768⟩, ⟨16, 16, .rw, false, 2048⟩]⟩,
  ⟨0x06C, 0, 1, none, [⟨0, 16, .rw, false, 8192⟩, ⟨16, 16, .rw, false, 512⟩]⟩,
  ⟨0x070, 0, 1, none, [⟨0, 16, .rw, false, 1000⟩, ⟨16, 8, .rw, false, 16⟩]⟩,
  ⟨0x074, 0, 1, none, [⟨0, 32, .rw, false, 10000⟩]⟩,
  ⟨0x078, 0, 1, none, [⟨0, 32, .rw, false, 100000⟩]⟩,
  ⟨0x07C, 0, 1, none, [⟨0, 4, .rw, false, 4⟩]⟩,
  ⟨0x080, 0, 1, none, [⟨0, 32, .rw, false, 0⟩]⟩,
  ⟨0x084, 0, 1, none, [⟨0, 32, .ro, false, 0⟩]⟩,
  ⟨0x088, 0, 1, none, [⟨0, 32, .ro, false, 0⟩]⟩,
  ⟨0x08C, 0, 1, none, [⟨0, 32, .ro, false, 0⟩]⟩,
  ⟨0x090, 0, 1, none, [⟨0, 16, .rw, false, 0⟩]⟩,
  ⟨0x094, 0, 1, none, [⟨0, 32, .ro, false, 0⟩]⟩,
  ⟨0x098, 0, 1, none, [⟨0, 30, .rw, false, 0⟩]⟩,
  ⟨0x09C, 0, 1, none, [⟨0, 32, .rw, false, 0⟩]⟩,
  ⟨0x0A0, 0, 1, none, [⟨0, 16, .rw, false, 0⟩]⟩,
  ⟨0x0A4, 0, 1, none, [⟨0, 32, .wo, false, 0⟩]⟩,
  ⟨0x0A8, 0, 1, none, [⟨0, 8, .rw, false, 127⟩, ⟨8, 4, .rw, false, 0⟩, ⟨12, 1, .rw, false, 0⟩, ⟨13, 1, .rw, false, 1⟩, ⟨16, 4, .rw, false, 13⟩, ⟨20, 4, .rw, false, 3⟩]⟩,
  ⟨0x0AC, 0, 1, none, [⟨0, 32, .ro, false, 0⟩]⟩,
  ⟨0x0B0, 0, 1, none, [⟨0, 32, .ro, false, 0⟩]⟩,
  ⟨0x0B4, 0, 1, none, [⟨0, 32, .ro, false, 0⟩]⟩,
  ⟨0x0C0, 4, 12, none, [⟨0, 32, .ro, false, 0⟩]⟩,
  ⟨0x100, 0, 1, none, [⟨0, 1, .rw, false, 0⟩, ⟨1, 2, .rw, false, 1⟩]⟩,
  ⟨0x104, 0, 1, none, [⟨0, 32, .rw, false, 0⟩]⟩,
  ⟨0x108, 0, 1, none, [⟨0, 17, .rw, false, 0⟩]⟩,
  ⟨0x10C, 0, 1, none, [⟨0, 32, .rw, false, 0⟩]⟩,
  ⟨0x110, 0, 1, none, [⟨0, 1, .rw, false, 0⟩, ⟨1, 1, .rw, false, 0⟩]⟩,
  ⟨0x114, 0, 1, none, [⟨0, 6, .ro, false, 0⟩, ⟨6, 7, .ro, false, 0⟩, ⟨13, 7, .ro, false, 0⟩, ⟨20, 6, .ro, false, 0⟩, ⟨26, 1, .ro, false, 0⟩, ⟨27, 1, .ro, false, 0⟩, ⟨28, 2, .ro, false, 0⟩]⟩,
  ⟨0x118, 0, 1, none, [⟨0, 32, .ro, false, 0⟩]⟩]

/-- Registers of the TRIG page. -/
def regsTRIG : List RegRow := [
  ⟨0x000, 0, 1, none, [⟨0, 8, .ro, false, 0⟩, ⟨8, 8, .ro, false, 0⟩, ⟨16, 16, .ro, false, 0⟩]⟩,
  ⟨0x004, 0, 1, none, []⟩,
  ⟨0x008, 0, 1, none, []⟩,
  ⟨0x00C, 0, 1, none, []⟩,
  ⟨0x010, 0, 1, none, [⟨0, 8, .w1c, false, 0⟩, ⟨8, 24, .w1c, false, 0⟩]⟩,
  ⟨0x014, 0, 1, none, [⟨0, 32, .rw, false, 0⟩]⟩,
  ⟨0x018, 0, 1, none, [⟨0, 32, .w1s, false, 0⟩]⟩,
  ⟨0x01C, 0, 1, none, [⟨0, 32, .ro, false, 0⟩]⟩,
  ⟨0x020, 0, 1, none, [⟨0, 2, .rw, false, 0⟩, ⟨4, 1, .wo, false, 0⟩, ⟨5, 1, .wo, false, 0⟩]⟩,
  ⟨0x024, 0, 1, none, [⟨0, 32, .rw, false, 0⟩]⟩,
  ⟨0x028, 0, 1, none, [⟨0, 3, .ro, false, 0⟩, ⟨4, 4, .ro, false, 0⟩, ⟨8, 1, .ro, false, 0⟩, ⟨16, 16, .ro, false, 0⟩]⟩,
  ⟨0x02C, 0, 1, none, [⟨0, 2, .rw, false, 0⟩]⟩,
  ⟨0x400, 16, 64, none, [⟨0, 2, .rw, false, 0⟩, ⟨2, 1, .rw, false, 0⟩, ⟨3, 1, .rw, false, 0⟩, ⟨4, 4, .rw, false, 0⟩, ⟨8, 4, .rw, false, 0⟩, ⟨12, 1, .rw, false, 0⟩, ⟨16, 16, .rw, false, 0⟩]⟩,
  ⟨0x404, 16, 64, none, [⟨0, 32, .rw, false, 0⟩]⟩,
  ⟨0x408, 16, 64, none, [⟨0, 32, .rw, false, 0⟩]⟩,
  ⟨0x40C, 16, 64, none, [⟨0, 32, .ro, false, 0⟩]⟩,
  ⟨0x040, 4, 2, none, [⟨0, 32, .w1c, false, 0⟩]⟩,
  ⟨0x048, 4, 2, none, [⟨0, 32, .w1c, false, 0⟩]⟩,
  ⟨0x050, 4, 2, none, [⟨0, 32, .ro, false, 0⟩]⟩,
  ⟨0x058, 0, 1, none, [⟨0, 32, .ro, false, 0⟩]⟩,
  ⟨0x100, 4, 16, none, [⟨0, 2, .rw, false, 0⟩, ⟨2, 2, .rw, false, 0⟩, ⟨4, 1, .rw, false, 0⟩, ⟨5, 3, .rw, false, 0⟩, ⟨8, 1, .rw, false, 0⟩, ⟨9, 1, .ro, false, 0⟩]⟩,
  ⟨0x140, 4, 16, none, [⟨0, 32, .ro, false, 0⟩]⟩,
  ⟨0x180, 0, 1, none, [⟨0, 32, .ro, false, 0⟩]⟩,
  ⟨0x184, 0, 1, none, [⟨0, 1, .rw, false, 0⟩, ⟨1, 1, .rw, false, 0⟩, ⟨2, 2, .rw, false, 0⟩, ⟨8, 16, .rw, false, 100⟩]⟩,
  ⟨0x188, 0, 1, none, [⟨0, 32, .ro, false, 0⟩]⟩]

/-- Registers of the PLAN page. -/
def regsPLAN : List RegRow := [
  ⟨0x000, 0, 1, none, [⟨0, 8, .ro, false, 0⟩, ⟨8, 8, .ro, false, 0⟩, ⟨16, 16, .ro, false, 0⟩]⟩,
  ⟨0x004, 0, 1, none, [⟨0, 4, .ro, false, 15⟩, ⟨4, 4, .ro, false, 8⟩]⟩,
  ⟨0x008, 0, 1, none, [⟨0, 1, .rw, false, 0⟩]⟩,
  ⟨0x00C, 0, 1, none, [⟨0, 2, .ro, false, 0⟩, ⟨2, 1, .ro, false, 0⟩, ⟨4, 4, .ro, false, 0⟩]⟩,
  ⟨0x010, 0, 1, none, [⟨0, 8, .w1c, false, 0⟩, ⟨8, 24, .w1c, false, 0⟩]⟩,
  ⟨0x014, 0, 1, none, [⟨0, 32, .rw, false, 0⟩]⟩,
  ⟨0x018, 0, 1, none, [⟨0, 32, .w1s, false, 0⟩]⟩,
  ⟨0x01C, 0, 1, none, [⟨0, 32, .ro, false, 0⟩]⟩,
  ⟨0x020, 0, 1, none, [⟨0, 2, .rw, false, 0⟩, ⟨4, 1, .wo, false, 0⟩, ⟨5, 1, .wo, false, 0⟩]⟩,
  ⟨0x024, 0, 1, none, [⟨0, 32, .rw, false, 0⟩]⟩,
  ⟨0x028, 0, 1, none, [⟨0, 3, .ro, false, 0⟩, ⟨4, 4, .ro, false, 0⟩, ⟨8, 1, .ro, false, 0⟩, ⟨16, 16, .ro, false, 0⟩]⟩,
  ⟨0x02C, 0, 1, none, [⟨0, 2, .rw, false, 0⟩]⟩,
  ⟨0x040, 0, 1, none, [⟨0, 32, .rw, false, 0⟩]⟩,
  ⟨0x044, 0, 1, none, [⟨0, 8, .rw, false, 0⟩]⟩,
  ⟨0x048, 0, 1, none, [⟨0, 1, .wo, false, 0⟩, ⟨1, 1, .wo, false, 0⟩, ⟨2, 1, .wo, false, 0⟩]⟩,
  ⟨0x04C, 0, 1, none, [⟨0, 3, .ro, false, 0⟩, ⟨3, 5, .ro, false, 0⟩, ⟨8, 8, .ro, false, 0⟩, ⟨16, 1, .ro, false, 0⟩]⟩,
  ⟨0x050, 0, 1, none, [⟨0, 1, .rw, true, 0⟩]⟩,
  ⟨0x054, 0, 1, none, [⟨0, 4, .rw, true, 0⟩]⟩,
  ⟨0x058, 0, 1, none, [⟨0, 8, .rw, false, 5⟩, ⟨8, 8, .rw, false, 10⟩, ⟨16, 16, .rw, false, 120⟩]⟩,
  ⟨0x060, 0, 1, none, [⟨0, 32, .ro, false, 0⟩]⟩,
  ⟨0x064, 0, 1, none, [⟨0, 32, .ro, false, 0⟩]⟩,
  ⟨0x068, 0, 1, none, [⟨0, 32, .ro, false, 0⟩]⟩,
  ⟨0x070, 0, 1, none, [⟨0, 16, .ro, false, 0⟩]⟩,
  ⟨0x074, 0, 1, none, [⟨0, 32, .ro, false, 0⟩]⟩,
  ⟨0x078, 0, 1, none, [⟨0, 32, .ro, false, 0⟩]⟩,
  ⟨0x07C, 0, 1, none, [⟨0, 32, .ro, false, 0⟩]⟩,
  ⟨0x080, 0, 1, none, [⟨0, 3, .ro, false, 0⟩, ⟨3, 5, .ro, false, 0⟩]⟩,
  ⟨0x084, 0, 1, none, [⟨0, 32, .ro, false, 0⟩]⟩,
  ⟨0x088, 0, 1, none, [⟨0, 32, .ro, false, 0⟩]⟩,
  ⟨0x08C, 0, 1, none, [⟨0, 32, .ro, false, 0⟩]⟩,
  ⟨0x090, 0, 1, none, [⟨0, 32, .ro, false, 0⟩]⟩,
  ⟨0x094, 0, 1, none, [⟨0, 32, .ro, false, 0⟩]⟩,
  ⟨0x098, 0, 1, none, [⟨0, 32, .ro, false, 0⟩]⟩,
  ⟨0x0A0, 4, 8, none, [⟨0, 4, .ro, false, 0⟩, ⟨4, 2, .ro, false, 0⟩, ⟨6, 1, .ro, false, 0⟩]⟩]

/-- Registers of the SCHED page. -/
def regsSCHED : List RegRow := [
  ⟨0x000, 0, 1, none, [⟨0, 8, .ro, false, 0⟩, ⟨8, 8, .ro, false, 0⟩, ⟨16, 16, .ro, false, 0⟩]⟩,
  ⟨0x004, 0, 1, none, [⟨0, 16, .ro, false, 256⟩, ⟨16, 8, .ro, false, 16⟩]⟩,
  ⟨0x008, 0, 1, none, [⟨0, 1, .rw, false, 1⟩, ⟨1, 1, .rw, false, 1⟩]⟩,
  ⟨0x00C, 0, 1, none, [⟨0, 9, .ro, false, 0⟩, ⟨9, 7, .ro, false, 0⟩, ⟨16, 9, .ro, false, 0⟩]⟩,
  ⟨0x010, 0, 1, none, [⟨0, 8, .w1c, false, 0⟩, ⟨8, 24, .w1c, false, 0⟩]⟩,
  ⟨0x014, 0, 1, none, [⟨0, 32, .rw, false, 0⟩]⟩,
  ⟨0x018, 0, 1, none, [⟨0, 32, .w1s, false, 0⟩]⟩,
  ⟨0x01C, 0, 1, none, [⟨0, 32, .ro, false, 0⟩]⟩,
  ⟨0x020, 0, 1, none, [⟨0, 2, .rw, false, 0⟩, ⟨4, 1, .wo, false, 0⟩, ⟨5, 1, .wo, false, 0⟩]⟩,
  ⟨0x024, 0, 1, none, [⟨0, 32, .rw, false, 0⟩]⟩,
  ⟨0x028, 0, 1, none, [⟨0, 3, .ro, false, 0⟩, ⟨4, 4, .ro, false, 0⟩, ⟨8, 1, .ro, false, 0⟩, ⟨16, 16, .ro, false, 0⟩]⟩,
  ⟨0x02C, 0, 1, none, [⟨0, 2, .rw, false, 0⟩]⟩,
  ⟨0x040, 0, 1, none, [⟨0, 8, .wo, false, 0⟩, ⟨8, 4, .wo, false, 0⟩]⟩,
  ⟨0x044, 0, 1, none, [⟨0, 8, .ro, false, 0⟩, ⟨8, 4, .ro, false, 0⟩, ⟨12, 4, .ro, false, 0⟩, ⟨31, 1, .ro, false, 1⟩]⟩,
  ⟨0x048, 0, 1, none, [⟨0, 10, .rw, true, 10⟩]⟩,
  ⟨0x04C, 0, 1, none, [⟨0, 32, .ro, false, 0⟩]⟩,
  ⟨0x050, 0, 1, none, [⟨0, 32, .ro, false, 0⟩]⟩,
  ⟨0x054, 0, 1, none, [⟨0, 16, .ro, false, 0⟩]⟩,
  ⟨0x058, 0, 1, none, [⟨0, 32, .ro, false, 0⟩]⟩,
  ⟨0x400, 8, 256, none, [⟨0, 23, .rw, false, 0⟩, ⟨24, 4, .rw, false, 0⟩]⟩,
  ⟨0x404, 8, 256, none, [⟨0, 4, .ro, false, 0⟩, ⟨4, 4, .ro, false, 0⟩, ⟨8, 4, .ro, false, 0⟩, ⟨12, 5, .ro, false, 0⟩, ⟨24, 8, .ro, false, 0⟩]⟩]

/-- Registers of the TRACE page. -/
def regsTRACE : List RegRow := [
  ⟨0x000, 0, 1, none, [⟨0, 8, .ro, false, 0⟩, ⟨8, 8, .ro, false, 0⟩, ⟨16, 16, .ro, false, 0⟩]⟩,
  ⟨0x004, 0, 1, none, []⟩,
  ⟨0x008, 0, 1, none, [⟨0, 1, .rw, false, 0⟩, ⟨1, 1, .rw, false, 1⟩]⟩,
  ⟨0x00C, 0, 1, none, []⟩,
  ⟨0x010, 0, 1, none, [⟨0, 8, .w1c, false, 0⟩, ⟨8, 24, .w1c, false, 0⟩]⟩,
  ⟨0x014, 0, 1, none, [⟨0, 32, .rw, false, 0⟩]⟩,
  ⟨0x018, 0, 1, none, [⟨0, 32, .w1s, false, 0⟩]⟩,
  ⟨0x01C, 0, 1, none, [⟨0, 32, .ro, false, 0⟩]⟩,
  ⟨0x020, 0, 1, none, [⟨0, 2, .rw, false, 0⟩, ⟨4, 1, .wo, false, 0⟩, ⟨5, 1, .wo, false, 0⟩]⟩,
  ⟨0x024, 0, 1, none, [⟨0, 32, .rw, false, 0⟩]⟩,
  ⟨0x028, 0, 1, none, [⟨0, 3, .ro, false, 0⟩, ⟨4, 4, .ro, false, 0⟩, ⟨8, 1, .ro, false, 0⟩, ⟨16, 16, .ro, false, 0⟩]⟩,
  ⟨0x02C, 0, 1, none, [⟨0, 2, .rw, false, 0⟩]⟩,
  ⟨0x040, 0, 1, none, [⟨0, 16, .rw, false, 1023⟩]⟩,
  ⟨0x044, 0, 1, none, [⟨0, 8, .rw, false, 0⟩, ⟨8, 8, .rw, false, 255⟩]⟩,
  ⟨0x048, 0, 1, none, [⟨0, 4, .rw, false, 0⟩, ⟨8, 6, .rw, false, 63⟩]⟩,
  ⟨0x04C, 0, 1, none, [⟨0, 32, .ro, false, 0⟩]⟩,
  ⟨0x050, 0, 1, none, [⟨0, 32, .ro, false, 0⟩]⟩]

/-- Registers of the GROOM page. -/
def regsGROOM : List RegRow := [
  ⟨0x000, 0, 1, none, [⟨0, 8, .ro, false, 0⟩, ⟨8, 8, .ro, false, 0⟩, ⟨16, 16, .ro, false, 0⟩]⟩,
  ⟨0x004, 0, 1, none, []⟩,
  ⟨0x008, 0, 1, none, [⟨0, 1, .rw, false, 1⟩, ⟨1, 1, .rw, false, 1⟩]⟩,
  ⟨0x00C, 0, 1, none, []⟩,
  ⟨0x010, 0, 1, none, [⟨0, 8, .w1c, false, 0⟩, ⟨8, 24, .w1c, false, 0⟩]⟩,
  ⟨0x014, 0, 1, none, [⟨0, 32, .rw, false, 0⟩]⟩,
  ⟨0x018, 0, 1, none, [⟨0, 32, .w1s, false, 0⟩]⟩,
  ⟨0x01C, 0, 1, none, [⟨0, 32, .ro, false, 0⟩]⟩,
  ⟨0x020, 0, 1, none, [⟨0, 2, .rw, false, 0⟩, ⟨4, 1, .wo, false, 0⟩, ⟨5, 1, .wo, false, 0⟩]⟩,
  ⟨0x024, 0, 1, none, [⟨0, 32, .rw, false, 0⟩]⟩,
  ⟨0x028, 0, 1, none, [⟨0, 3, .ro, false, 0⟩, ⟨4, 4, .ro, false, 0⟩, ⟨8, 1, .ro, false, 0⟩, ⟨16, 16, .ro, false, 0⟩]⟩,
  ⟨0x02C, 0, 1, none, [⟨0, 2, .rw, false, 0⟩]⟩,
  ⟨0x040, 0, 1, none, [⟨0, 20, .rw, false, 1000⟩]⟩,
  ⟨0x044, 0, 1, none, [⟨0, 8, .rw, false, 3⟩]⟩,
  ⟨0x048, 0, 1, none, [⟨0, 8, .rw, false, 24⟩, ⟨8, 8, .rw, false, 24⟩, ⟨16, 16, .rw, false, 60⟩]⟩,
  ⟨0x04C, 0, 1, none, [⟨0, 4, .rw, false, 3⟩, ⟨8, 8, .rw, false, 16⟩]⟩,
  ⟨0x080, 4, 10, none, [⟨0, 4, .ro, false, 0⟩, ⟨4, 1, .ro, false, 0⟩]⟩]

/-- Registers of the DRAM page. -/
def regsDRAM : List RegRow := [
  ⟨0x000, 0, 1, none, [⟨0, 8, .ro, false, 0⟩, ⟨8, 8, .ro, false, 0⟩, ⟨16, 16, .ro, false, 0⟩]⟩,
  ⟨0x004, 0, 1, none, [⟨0, 5, .ro, false, 0⟩]⟩,
  ⟨0x008, 0, 1, none, []⟩,
  ⟨0x00C, 0, 1, none, [⟨0, 8, .ro, false, 0⟩, ⟨8, 1, .ro, false, 0⟩]⟩,
  ⟨0x010, 0, 1, none, [⟨0, 8, .w1c, false, 0⟩, ⟨8, 24, .w1c, false, 0⟩]⟩,
  ⟨0x014, 0, 1, none, [⟨0, 32, .rw, false, 0⟩]⟩,
  ⟨0x018, 0, 1, none, [⟨0, 32, .w1s, false, 0⟩]⟩,
  ⟨0x01C, 0, 1, none, [⟨0, 32, .ro, false, 0⟩]⟩,
  ⟨0x020, 0, 1, none, [⟨0, 2, .rw, false, 0⟩, ⟨4, 1, .wo, false, 0⟩, ⟨5, 1, .wo, false, 0⟩]⟩,
  ⟨0x024, 0, 1, none, [⟨0, 32, .rw, false, 0⟩]⟩,
  ⟨0x028, 0, 1, none, [⟨0, 3, .ro, false, 0⟩, ⟨4, 4, .ro, false, 0⟩, ⟨8, 1, .ro, false, 0⟩, ⟨16, 16, .ro, false, 0⟩]⟩,
  ⟨0x02C, 0, 1, none, [⟨0, 2, .rw, false, 0⟩]⟩,
  ⟨0x040, 0, 1, none, [⟨0, 16, .ro, false, 0⟩]⟩,
  ⟨0x044, 0, 1, none, [⟨0, 32, .ro, false, 0⟩]⟩,
  ⟨0x048, 0, 1, none, [⟨0, 32, .ro, false, 0⟩]⟩,
  ⟨0x04C, 0, 1, none, [⟨0, 7, .ro, false, 0⟩, ⟨8, 8, .ro, false, 0⟩]⟩,
  ⟨0x050, 0, 1, none, [⟨0, 8, .rw, false, 10⟩]⟩,
  ⟨0x054, 0, 1, none, [⟨0, 32, .ro, false, 0⟩]⟩]

/-- Registers of the NVM page. -/
def regsNVM : List RegRow := [
  ⟨0x000, 0, 1, none, [⟨0, 8, .ro, false, 0⟩, ⟨8, 8, .ro, false, 0⟩, ⟨16, 16, .ro, false, 0⟩]⟩,
  ⟨0x004, 0, 1, none, [⟨0, 16, .ro, false, 4096⟩]⟩,
  ⟨0x008, 0, 1, none, []⟩,
  ⟨0x00C, 0, 1, none, []⟩,
  ⟨0x010, 0, 1, none, [⟨0, 8, .w1c, false, 0⟩, ⟨8, 24, .w1c, false, 0⟩]⟩,
  ⟨0x014, 0, 1, none, [⟨0, 32, .rw, false, 0⟩]⟩,
  ⟨0x018, 0, 1, none, [⟨0, 32, .w1s, false, 0⟩]⟩,
  ⟨0x01C, 0, 1, none, [⟨0, 32, .ro, false, 0⟩]⟩,
  ⟨0x020, 0, 1, none, [⟨0, 2, .rw, false, 0⟩, ⟨4, 1, .wo, false, 0⟩, ⟨5, 1, .wo, false, 0⟩]⟩,
  ⟨0x024, 0, 1, none, [⟨0, 32, .rw, false, 0⟩]⟩,
  ⟨0x028, 0, 1, none, [⟨0, 3, .ro, false, 0⟩, ⟨4, 4, .ro, false, 0⟩, ⟨8, 1, .ro, false, 0⟩, ⟨16, 16, .ro, false, 0⟩]⟩,
  ⟨0x02C, 0, 1, none, [⟨0, 2, .rw, false, 0⟩]⟩,
  ⟨0x040, 0, 1, none, [⟨0, 6, .ro, false, 0⟩]⟩,
  ⟨0x044, 0, 1, none, [⟨0, 32, .ro, false, 0⟩]⟩]

/-- Registers of the CAL page. -/
def regsCAL : List RegRow := [
  ⟨0x000, 0, 1, none, [⟨0, 8, .ro, false, 0⟩, ⟨8, 8, .ro, false, 0⟩, ⟨16, 16, .ro, false, 0⟩]⟩,
  ⟨0x004, 0, 1, none, []⟩,
  ⟨0x008, 0, 1, none, [⟨0, 1, .rw, false, 1⟩, ⟨1, 1, .rw, false, 1⟩, ⟨2, 1, .rw, false, 1⟩]⟩,
  ⟨0x00C, 0, 1, none, [⟨0, 5, .ro, false, 0⟩, ⟨5, 3, .ro, false, 0⟩, ⟨8, 1, .ro, false, 0⟩, ⟨9, 1, .ro, false, 0⟩, ⟨10, 1, .ro, false, 0⟩, ⟨11, 2, .ro, false, 0⟩]⟩,
  ⟨0x010, 0, 1, none, [⟨0, 8, .w1c, false, 0⟩, ⟨8, 24, .w1c, false, 0⟩]⟩,
  ⟨0x014, 0, 1, none, [⟨0, 32, .rw, false, 0⟩]⟩,
  ⟨0x018, 0, 1, none, [⟨0, 32, .w1s, false, 0⟩]⟩,
  ⟨0x01C, 0, 1, none, [⟨0, 32, .ro, false, 0⟩]⟩,
  ⟨0x020, 0, 1, none, [⟨0, 2, .rw, false, 0⟩, ⟨4, 1, .wo, false, 0⟩, ⟨5, 1, .wo, false, 0⟩]⟩,
  ⟨0x024, 0, 1, none, [⟨0, 32, .rw, false, 0⟩]⟩,
  ⟨0x028, 0, 1, none, [⟨0, 3, .ro, false, 0⟩, ⟨4, 4, .ro, false, 0⟩, ⟨8, 1, .ro, false, 0⟩, ⟨16, 16, .ro, false, 0⟩]⟩,
  ⟨0x02C, 0, 1, none, [⟨0, 2, .rw, false, 0⟩]⟩,
  ⟨0x040, 0, 1, none, [⟨0, 16, .rw, false, 10⟩]⟩,
  ⟨0x044, 0, 1, none, [⟨0, 4, .rw, false, 8⟩, ⟨16, 16, .rw, false, 64⟩]⟩,
  ⟨0x048, 0, 1, none, [⟨0, 16, .rw, false, 512⟩, ⟨16, 16, .rw, false, 500⟩]⟩,
  ⟨0x04C, 0, 1, none, [⟨0, 4, .rw, false, 12⟩, ⟨4, 7, .rw, false, 4⟩]⟩,
  ⟨0x050, 0, 1, none, [⟨0, 32, .rw, false, 250000⟩]⟩,
  ⟨0x054, 0, 1, none, [⟨0, 16, .rw, false, 13107⟩, ⟨16, 16, .rw, false, 20480⟩]⟩,
  ⟨0x058, 0, 1, none, [⟨0, 16, .rw, false, 500⟩, ⟨16, 8, .rw, false, 10⟩]⟩,
  ⟨0x05C, 0, 1, none, [⟨0, 16, .rw, false, 2000⟩, ⟨16, 16, .rw, false, 1024⟩]⟩,
  ⟨0x060, 0, 1, none, [⟨0, 8, .rw, false, 5⟩]⟩,
  ⟨0x064, 0, 1, none, [⟨0, 16, .rw, false, 600⟩]⟩,
  ⟨0x068, 4, 4, none, [⟨0, 16, .rw, false, 0⟩]⟩,
  ⟨0x080, 4, 16, none, [⟨0, 24, .rw, false, 0⟩]⟩,
  ⟨0x0C0, 0, 1, none, [⟨0, 1, .rw, true, 0⟩]⟩,
  ⟨0x0C4, 0, 1, none, [⟨0, 5, .ro, false, 0⟩, ⟨5, 3, .ro, false, 0⟩, ⟨8, 4, .ro, false, 0⟩]⟩,
  ⟨0x0C8, 0, 1, none, [⟨0, 16, .ro, false, 0⟩, ⟨16, 16, .ro, false, 0⟩]⟩,
  ⟨0x0CC, 0, 1, none, [⟨0, 32, .ro, false, 0⟩]⟩,
  ⟨0x0D0, 0, 1, none, [⟨0, 32, .ro, false, 0⟩]⟩,
  ⟨0x0D4, 0, 1, none, [⟨0, 32, .ro, false, 0⟩]⟩,
  ⟨0x0D8, 0, 1, none, [⟨0, 32, .ro, false, 0⟩]⟩,
  ⟨0x100, 4, 25, none, [⟨0, 16, .ro, false, 0⟩]⟩,
  ⟨0x180, 4, 4, none, [⟨0, 16, .ro, false, 0⟩, ⟨16, 16, .ro, false, 0⟩]⟩,
  ⟨0x200, 4, 128, none, [⟨0, 16, .ro, false, 0⟩]⟩,
  ⟨0x400, 4, 16, none, [⟨0, 16, .ro, false, 0⟩, ⟨16, 16, .ro, false, 0⟩]⟩]

/-- Registers of the SENSE page. -/
def regsSENSE : List RegRow := [
  ⟨0x000, 0, 1, none, [⟨0, 8, .ro, false, 0⟩, ⟨8, 8, .ro, false, 0⟩, ⟨16, 16, .ro, false, 0⟩]⟩,
  ⟨0x004, 0, 1, none, []⟩,
  ⟨0x008, 0, 1, none, [⟨0, 1, .rw, false, 1⟩, ⟨1, 1, .rw, false, 0⟩]⟩,
  ⟨0x00C, 0, 1, none, [⟨0, 5, .ro, false, 31⟩]⟩,
  ⟨0x010, 0, 1, none, [⟨0, 8, .w1c, false, 0⟩, ⟨8, 24, .w1c, false, 0⟩]⟩,
  ⟨0x014, 0, 1, none, [⟨0, 32, .rw, false, 0⟩]⟩,
  ⟨0x018, 0, 1, none, [⟨0, 32, .w1s, false, 0⟩]⟩,
  ⟨0x01C, 0, 1, none, [⟨0, 32, .ro, false, 0⟩]⟩,
  ⟨0x020, 0, 1, none, [⟨0, 2, .rw, false, 0⟩, ⟨4, 1, .wo, false, 0⟩, ⟨5, 1, .wo, false, 0⟩]⟩,
  ⟨0x024, 0, 1, none, [⟨0, 32, .rw, false, 0⟩]⟩,
  ⟨0x028, 0, 1, none, [⟨0, 3, .ro, false, 0⟩, ⟨4, 4, .ro, false, 0⟩, ⟨8, 1, .ro, false, 0⟩, ⟨16, 16, .ro, false, 0⟩]⟩,
  ⟨0x02C, 0, 1, none, [⟨0, 2, .rw, false, 0⟩]⟩,
  ⟨0x040, 0, 1, none, [⟨0, 4, .rw, false, 4⟩, ⟨4, 4, .rw, false, 6⟩, ⟨8, 4, .rw, false, 8⟩]⟩,
  ⟨0x044, 0, 1, none, [⟨0, 25, .rw, false, 0⟩, ⟨25, 1, .rw, false, 0⟩]⟩,
  ⟨0x048, 0, 1, none, [⟨0, 16, .rw, false, 1⟩]⟩,
  ⟨0x04C, 0, 1, none, [⟨0, 16, .rw, false, 3950⟩]⟩,
  ⟨0x050, 0, 1, none, [⟨0, 24, .rw, false, 10000⟩]⟩,
  ⟨0x054, 0, 1, none, [⟨0, 24, .rw, false, 10000⟩]⟩,
  ⟨0x060, 4, 8, none, [⟨0, 24, .rw, false, 0⟩]⟩,
  ⟨0x080, 4, 24, none, [⟨0, 16, .ro, false, 0⟩, ⟨16, 1, .ro, false, 0⟩, ⟨17, 1, .ro, false, 0⟩]⟩,
  ⟨0x0E0, 4, 8, none, [⟨0, 16, .ro, false, 0⟩, ⟨16, 1, .ro, false, 0⟩]⟩,
  ⟨0x100, 4, 8, none, [⟨0, 16, .rw, false, 0⟩, ⟨16, 16, .rw, false, 65535⟩]⟩,
  ⟨0x140, 0, 1, none, [⟨0, 32, .ro, false, 0⟩]⟩]

/-- Registers of the KEY page. -/
def regsKEY : List RegRow := [
  ⟨0x000, 0, 1, none, [⟨0, 8, .ro, false, 0⟩, ⟨8, 8, .ro, false, 0⟩, ⟨16, 16, .ro, false, 0⟩]⟩,
  ⟨0x004, 0, 1, none, [⟨0, 7, .ro, false, 64⟩, ⟨7, 6, .ro, false, 32⟩]⟩,
  ⟨0x008, 0, 1, none, [⟨0, 1, .w1s, false, 0⟩]⟩,
  ⟨0x00C, 0, 1, none, [⟨0, 2, .ro, false, 0⟩, ⟨2, 1, .ro, false, 0⟩, ⟨3, 1, .ro, false, 0⟩]⟩,
  ⟨0x010, 0, 1, none, [⟨0, 8, .w1c, false, 0⟩, ⟨8, 24, .w1c, false, 0⟩]⟩,
  ⟨0x014, 0, 1, none, [⟨0, 32, .rw, false, 0⟩]⟩,
  ⟨0x018, 0, 1, none, [⟨0, 32, .w1s, false, 0⟩]⟩,
  ⟨0x01C, 0, 1, none, [⟨0, 32, .ro, false, 0⟩]⟩,
  ⟨0x020, 0, 1, none, [⟨0, 2, .rw, false, 0⟩, ⟨4, 1, .wo, false, 0⟩, ⟨5, 1, .wo, false, 0⟩]⟩,
  ⟨0x024, 0, 1, none, [⟨0, 32, .rw, false, 0⟩]⟩,
  ⟨0x028, 0, 1, none, [⟨0, 3, .ro, false, 0⟩, ⟨4, 4, .ro, false, 0⟩, ⟨8, 1, .ro, false, 0⟩, ⟨16, 16, .ro, false, 0⟩]⟩,
  ⟨0x02C, 0, 1, none, [⟨0, 2, .rw, false, 0⟩]⟩,
  ⟨0x040, 0, 1, none, [⟨0, 32, .ro, false, 0⟩]⟩,
  ⟨0x044, 0, 1, none, [⟨0, 1, .rw, false, 0⟩, ⟨1, 1, .rw, false, 0⟩, ⟨2, 1, .rw, false, 0⟩, ⟨3, 1, .rw, false, 0⟩, ⟨4, 1, .rw, false, 0⟩, ⟨5, 1, .rw, false, 0⟩]⟩,
  ⟨0x048, 0, 1, none, [⟨0, 6, .w1c, false, 0⟩, ⟨16, 16, .ro, false, 0⟩]⟩,
  ⟨0x04C, 0, 1, none, [⟨0, 1, .wo, false, 0⟩, ⟨16, 16, .wo, false, 0⟩]⟩,
  ⟨0x050, 0, 1, none, [⟨0, 6, .wo, false, 0⟩, ⟨8, 4, .wo, false, 0⟩]⟩,
  ⟨0x060, 0, 1, none, [⟨0, 6, .rw, false, 0⟩]⟩,
  ⟨0x064, 0, 1, none, [⟨0, 32, .rw, false, 0⟩]⟩,
  ⟨0x068, 0, 1, none, [⟨0, 1, .wo, false, 0⟩]⟩,
  ⟨0x080, 4, 16, none, [⟨0, 32, .wo, false, 0⟩]⟩,
  ⟨0x100, 4, 32, none, [⟨0, 32, .ro, false, 0⟩]⟩,
  ⟨0x180, 4, 4, none, [⟨0, 32, .ro, false, 0⟩]⟩,
  ⟨0x1C0, 4, 16, none, [⟨0, 32, .ro, false, 0⟩]⟩,
  ⟨0x400, 8, 64, none, [⟨0, 32, .ro, false, 0⟩]⟩,
  ⟨0x404, 8, 64, none, [⟨0, 2, .ro, false, 0⟩, ⟨2, 2, .ro, false, 0⟩, ⟨4, 7, .ro, false, 127⟩, ⟨11, 1, .ro, false, 0⟩, ⟨12, 1, .ro, false, 0⟩]⟩,
  ⟨0x600, 4, 32, none, [⟨0, 1, .ro, false, 0⟩, ⟨1, 1, .ro, false, 0⟩, ⟨2, 1, .ro, false, 0⟩, ⟨8, 24, .ro, false, 0⟩]⟩]

/-- Registers of the SPEED page. -/
def regsSPEED : List RegRow := [
  ⟨0x000, 0, 1, none, [⟨0, 8, .ro, false, 0⟩, ⟨8, 8, .ro, false, 0⟩, ⟨16, 16, .ro, false, 0⟩]⟩,
  ⟨0x004, 0, 1, none, []⟩,
  ⟨0x008, 0, 1, none, []⟩,
  ⟨0x00C, 0, 1, none, [⟨0, 1, .ro, false, 1⟩]⟩,
  ⟨0x010, 0, 1, none, [⟨0, 8, .w1c, false, 0⟩, ⟨8, 24, .w1c, false, 0⟩]⟩,
  ⟨0x014, 0, 1, none, [⟨0, 32, .rw, false, 0⟩]⟩,
  ⟨0x018, 0, 1, none, [⟨0, 32, .w1s, false, 0⟩]⟩,
  ⟨0x01C, 0, 1, none, [⟨0, 32, .ro, false, 0⟩]⟩,
  ⟨0x020, 0, 1, none, [⟨0, 2, .rw, false, 0⟩, ⟨4, 1, .wo, false, 0⟩, ⟨5, 1, .wo, false, 0⟩]⟩,
  ⟨0x024, 0, 1, none, [⟨0, 32, .rw, false, 0⟩]⟩,
  ⟨0x028, 0, 1, none, [⟨0, 3, .ro, false, 0⟩, ⟨4, 4, .ro, false, 0⟩, ⟨8, 1, .ro, false, 0⟩, ⟨16, 16, .ro, false, 0⟩]⟩,
  ⟨0x02C, 0, 1, none, [⟨0, 2, .rw, false, 0⟩]⟩,
  ⟨0x040, 4, 10, none, [⟨0, 16, .ro, false, 0⟩, ⟨16, 1, .ro, false, 0⟩]⟩,
  ⟨0x068, 0, 1, none, [⟨0, 16, .ro, false, 0⟩]⟩,
  ⟨0x06C, 0, 1, none, [⟨0, 16, .ro, false, 2400⟩]⟩,
  ⟨0x070, 0, 1, none, [⟨0, 16, .ro, false, 2400⟩]⟩,
  ⟨0x074, 0, 1, none, [⟨0, 8, .rw, false, 80⟩]⟩,
  ⟨0x078, 0, 1, none, [⟨0, 13, .rw, false, 1024⟩]⟩,
  ⟨0x07C, 0, 1, none, [⟨0, 16, .ro, false, 0⟩]⟩,
  ⟨0x080, 0, 1, none, [⟨0, 16, .ro, false, 0⟩]⟩,
  ⟨0x100, 0, 1, none, [⟨0, 1, .rw, false, 1⟩, ⟨1, 1, .rw, false, 0⟩]⟩,
  ⟨0x104, 0, 1, none, [⟨0, 10, .rw, false, 700⟩, ⟨16, 10, .rw, false, 850⟩]⟩,
  ⟨0x108, 0, 1, none, [⟨0, 4, .rw, false, 5⟩, ⟨4, 12, .rw, false, 100⟩, ⟨16, 16, .rw, false, 200⟩]⟩,
  ⟨0x10C, 0, 1, none, [⟨0, 8, .rw, false, 15⟩, ⟨8, 8, .rw, false, 8⟩]⟩,
  ⟨0x110, 0, 1, none, [⟨0, 10, .ro, false, 750⟩]⟩,
  ⟨0x114, 0, 1, none, [⟨0, 7, .rw, false, 0⟩, ⟨7, 1, .rw, false, 0⟩, ⟨8, 8, .rw, false, 0⟩, ⟨16, 2, .rw, false, 0⟩, ⟨18, 1, .rw, false, 0⟩]⟩,
  ⟨0x118, 0, 1, none, [⟨0, 16, .ro, false, 0⟩, ⟨16, 16, .ro, false, 0⟩]⟩]

/-- Registers of the ENG page. -/
def regsENG : List RegRow := [
  ⟨0x000, 0, 1, none, [⟨0, 8, .ro, false, 0⟩, ⟨8, 8, .ro, false, 0⟩, ⟨16, 16, .ro, false, 0⟩]⟩,
  ⟨0x004, 0, 1, none, [⟨0, 8, .ro, false, 4⟩, ⟨8, 16, .ro, false, 8192⟩]⟩,
  ⟨0x008, 0, 1, none, [⟨0, 1, .rw, false, 0⟩, ⟨1, 1, .rw, false, 0⟩]⟩,
  ⟨0x00C, 0, 1, none, [⟨0, 2, .ro, false, 0⟩, ⟨2, 3, .ro, false, 0⟩, ⟨5, 3, .ro, false, 0⟩, ⟨8, 1, .ro, false, 0⟩]⟩,
  ⟨0x010, 0, 1, none, [⟨0, 8, .w1c, false, 0⟩, ⟨8, 24, .w1c, false, 0⟩]⟩,
  ⟨0x014, 0, 1, none, [⟨0, 32, .rw, false, 0⟩]⟩,
  ⟨0x018, 0, 1, none, [⟨0, 32, .w1s, false, 0⟩]⟩,
  ⟨0x01C, 0, 1, none, [⟨0, 32, .ro, false, 0⟩]⟩,
  ⟨0x020, 0, 1, none, [⟨0, 2, .rw, false, 0⟩, ⟨4, 1, .wo, false, 0⟩, ⟨5, 1, .wo, false, 0⟩]⟩,
  ⟨0x024, 0, 1, none, [⟨0, 32, .rw, false, 0⟩]⟩,
  ⟨0x028, 0, 1, none, [⟨0, 3, .ro, false, 0⟩, ⟨4, 4, .ro, false, 0⟩, ⟨8, 1, .ro, false, 0⟩, ⟨16, 16, .ro, false, 0⟩]⟩,
  ⟨0x02C, 0, 1, none, [⟨0, 2, .rw, false, 0⟩]⟩,
  ⟨0x040, 0, 1, none, [⟨0, 13, .ro, false, 0⟩]⟩,
  ⟨0x044, 0, 1, none, [⟨0, 32, .ro, false, 0⟩]⟩,
  ⟨0x048, 0, 1, none, [⟨0, 13, .ro, false, 0⟩]⟩,
  ⟨0x04C, 0, 1, none, [⟨0, 23, .ro, false, 0⟩]⟩,
  ⟨0x050, 0, 1, none, [⟨0, 23, .ro, false, 0⟩]⟩,
  ⟨0x054, 0, 1, none, [⟨0, 5, .ro, false, 0⟩, ⟨5, 13, .ro, false, 0⟩, ⟨18, 2, .ro, false, 0⟩]⟩,
  ⟨0x058, 0, 1, none, [⟨0, 13, .ro, false, 0⟩]⟩,
  ⟨0x05C, 0, 1, none, [⟨0, 32, .ro, false, 0⟩]⟩,
  ⟨0x060, 0, 1, none, [⟨0, 32, .ro, false, 0⟩]⟩,
  ⟨0x064, 0, 1, none, [⟨0, 32, .ro, false, 0⟩]⟩,
  ⟨0x068, 0, 1, none, [⟨0, 32, .ro, false, 0⟩]⟩,
  ⟨0x06C, 0, 1, none, [⟨0, 32, .ro, false, 0⟩]⟩,
  ⟨0x070, 0, 1, none, [⟨0, 2, .ro, false, 0⟩, ⟨4, 4, .ro, false, 15⟩]⟩,
  ⟨0x080, 0, 1, none, [⟨0, 15, .rw, false, 0⟩]⟩,
  ⟨0x084, 4, 4, none, [⟨0, 32, .ro, false, 0⟩]⟩]

/-- Registers of the BANK page. -/
def regsBANK : List RegRow := [
  ⟨0x000, 0, 1, none, [⟨0, 8, .ro, false, 0⟩, ⟨8, 8, .ro, false, 0⟩, ⟨16, 16, .ro, false, 0⟩]⟩,
  ⟨0x004, 0, 1, none, [⟨0, 16, .ro, false, 4096⟩, ⟨16, 8, .ro, false, 16⟩]⟩,
  ⟨0x008, 0, 1, none, [⟨0, 1, .rw, false, 0⟩, ⟨1, 1, .rw, false, 1⟩, ⟨2, 1, .rw, false, 0⟩]⟩,
  ⟨0x00C, 0, 1, none, [⟨0, 2, .ro, false, 1⟩, ⟨2, 5, .ro, false, 0⟩, ⟨7, 1, .ro, false, 0⟩]⟩,
  ⟨0x010, 0, 1, none, [⟨0, 8, .w1c, false, 0⟩, ⟨8, 24, .w1c, false, 0⟩]⟩,
  ⟨0x014, 0, 1, none, [⟨0, 32, .rw, false, 0⟩]⟩,
  ⟨0x018, 0, 1, none, [⟨0, 32, .w1s, false, 0⟩]⟩,
  ⟨0x01C, 0, 1, none, [⟨0, 32, .ro, false, 0⟩]⟩,
  ⟨0x020, 0, 1, none, [⟨0, 2, .rw, false, 0⟩, ⟨4, 1, .wo, false, 0⟩, ⟨5, 1, .wo, false, 0⟩]⟩,
  ⟨0x024, 0, 1, none, [⟨0, 32, .rw, false, 0⟩]⟩,
  ⟨0x028, 0, 1, none, [⟨0, 3, .ro, false, 0⟩, ⟨4, 4, .ro, false, 0⟩, ⟨8, 1, .ro, false, 0⟩, ⟨16, 16, .ro, false, 0⟩]⟩,
  ⟨0x02C, 0, 1, none, [⟨0, 2, .rw, false, 0⟩, ⟨0, 2, .rw, false, 0⟩, ⟨8, 8, .ro, false, 0⟩]⟩,
  ⟨0x040, 0, 1, none, [⟨0, 8, .rw, true, 0⟩]⟩,
  ⟨0x044, 0, 1, none, [⟨0, 32, .ro, false, 0⟩]⟩,
  ⟨0x048, 0, 1, none, [⟨0, 32, .ro, false, 0⟩]⟩,
  ⟨0x04C, 0, 1, none, [⟨0, 18, .ro, false, 0⟩, ⟨18, 1, .ro, false, 0⟩]⟩,
  ⟨0x050, 0, 1, none, [⟨0, 32, .ro, false, 0⟩]⟩,
  ⟨0x054, 0, 1, none, [⟨0, 18, .ro, false, 0⟩, ⟨18, 4, .ro, false, 0⟩]⟩,
  ⟨0x058, 0, 1, none, [⟨0, 32, .ro, false, 0⟩]⟩,
  ⟨0x05C, 0, 1, none, [⟨0, 32, .ro, false, 0⟩]⟩,
  ⟨0x060, 0, 1, none, [⟨0, 18, .ro, false, 0⟩, ⟨18, 1, .ro, false, 0⟩]⟩,
  ⟨0x064, 0, 1, none, [⟨0, 6, .ro, false, 0⟩, ⟨6, 1, .ro, false, 0⟩]⟩,
  ⟨0x068, 0, 1, none, [⟨0, 16, .ro, false, 0⟩]⟩,
  ⟨0x06C, 0, 1, none, [⟨0, 12, .ro, false, 0⟩]⟩,
  ⟨0x080, 4, 16, none, [⟨0, 12, .ro, false, 0⟩, ⟨12, 1, .ro, false, 0⟩, ⟨13, 1, .ro, false, 0⟩, ⟨14, 1, .ro, false, 0⟩]⟩]

/-- Registers of the FIFO page. -/
def regsFIFO : List RegRow := [
  ⟨0x000, 0, 1, none, [⟨0, 8, .ro, false, 0⟩, ⟨8, 8, .ro, false, 0⟩, ⟨16, 16, .ro, false, 0⟩]⟩,
  ⟨0x004, 0, 1, none, [⟨0, 8, .ro, false, 128⟩, ⟨8, 8, .ro, false, 128⟩, ⟨16, 4, .ro, false, 0⟩]⟩,
  ⟨0x008, 0, 1, none, [⟨0, 1, .wo, false, 0⟩, ⟨1, 1, .wo, false, 0⟩, ⟨2, 1, .wo, false, 0⟩, ⟨3, 1, .wo, false, 0⟩, ⟨4, 1, .wo, false, 0⟩, ⟨5, 1, .wo, false, 0⟩, ⟨6, 1, .rw, false, 0⟩]⟩,
  ⟨0x00C, 0, 1, none, [⟨0, 1, .ro, false, 1⟩, ⟨1, 1, .ro, false, 0⟩, ⟨2, 1, .ro, false, 0⟩, ⟨3, 1, .ro, false, 0⟩, ⟨4, 1, .ro, false, 0⟩, ⟨5, 1, .ro, false, 0⟩, ⟨6, 1, .ro, false, 0⟩]⟩,
  ⟨0x010, 0, 1, none, [⟨0, 8, .w1c, false, 0⟩, ⟨8, 24, .w1c, false, 0⟩]⟩,
  ⟨0x014, 0, 1, none, [⟨0, 32, .rw, false, 0⟩]⟩,
  ⟨0x018, 0, 1, none, [⟨0, 32, .w1s, false, 0⟩]⟩,
  ⟨0x01C, 0, 1, none, [⟨0, 32, .ro, false, 0⟩]⟩,
  ⟨0x020, 0, 1, none, [⟨0, 2, .rw, false, 0⟩, ⟨4, 1, .wo, false, 0⟩, ⟨5, 1, .wo, false, 0⟩]⟩,
  ⟨0x024, 0, 1, none, [⟨0, 32, .rw, false, 0⟩]⟩,
  ⟨0x028, 0, 1, none, [⟨0, 3, .ro, false, 0⟩, ⟨4, 4, .ro, false, 0⟩, ⟨8, 1, .ro, false, 0⟩, ⟨16, 16, .ro, false, 0⟩]⟩,
  ⟨0x02C, 0, 1, none, [⟨0, 2, .rw, false, 0⟩]⟩,
  ⟨0x040, 0, 1, none, [⟨0, 4, .rw, true, 0⟩, ⟨4, 4, .rw, true, 0⟩, ⟨8, 10, .rw, true, 0⟩]⟩,
  ⟨0x044, 0, 1, none, [⟨16, 16, .rw, true, 0⟩]⟩,
  ⟨0x048, 0, 1, none, [⟨0, 8, .rw, true, 0⟩]⟩,
  ⟨0x04C, 0, 1, none, [⟨0, 5, .rw, true, 0⟩]⟩,
  ⟨0x050, 0, 1, none, [⟨0, 32, .ro, false, 0⟩]⟩,
  ⟨0x054, 0, 1, none, [⟨0, 32, .ro, false, 256⟩]⟩,
  ⟨0x058, 0, 1, none, [⟨0, 32, .ro, false, 0⟩]⟩,
  ⟨0x05C, 0, 1, none, [⟨0, 32, .ro, false, 0⟩]⟩,
  ⟨0x060, 0, 1, none, [⟨0, 32, .ro, false, 0⟩]⟩,
  ⟨0x064, 0, 1, none, [⟨0, 32, .ro, false, 0⟩]⟩,
  ⟨0x068, 0, 1, none, [⟨0, 20, .rw, false, 0⟩]⟩,
  ⟨0x06C, 0, 1, none, [⟨0, 14, .rw, false, 100⟩]⟩,
  ⟨0x070, 0, 1, none, [⟨0, 32, .ro, false, 0⟩]⟩,
  ⟨0x074, 0, 1, none, [⟨0, 32, .ro, false, 0⟩]⟩,
  ⟨0x078, 0, 1, none, [⟨0, 32, .ro, false, 0⟩]⟩,
  ⟨0x07C, 0, 1, none, [⟨0, 32, .ro, false, 0⟩]⟩,
  ⟨0x080, 0, 1, none, [⟨0, 32, .ro, false, 0⟩]⟩,
  ⟨0x100, 4, 16, none, [⟨0, 32, .wo, false, 0⟩]⟩,
  ⟨0x140, 0, 1, none, [⟨0, 32, .ro, false, 0⟩]⟩,
  ⟨0x144, 0, 1, none, [⟨0, 32, .ro, false, 0⟩]⟩,
  ⟨0x148, 0, 1, none, [⟨0, 32, .ro, false, 0⟩]⟩,
  ⟨0x14C, 0, 1, none, [⟨0, 32, .ro, false, 0⟩]⟩,
  ⟨0x180, 0, 1, (some 0), [⟨0, 32, .ro, false, 4294967295⟩]⟩,
  ⟨0x184, 0, 1, (some 0), [⟨0, 32, .ro, false, 4294967295⟩]⟩,
  ⟨0x188, 0, 1, (some 0), [⟨0, 32, .ro, false, 0⟩]⟩,
  ⟨0x1A0, 0, 1, (some 1), [⟨0, 32, .ro, false, 0⟩]⟩,
  ⟨0x1A4, 0, 1, (some 1), [⟨0, 7, .ro, false, 0⟩]⟩]

/-- Registers of the NET page. -/
def regsNET : List RegRow := [
  ⟨0x000, 0, 1, none, [⟨0, 8, .ro, false, 0⟩, ⟨8, 8, .ro, false, 0⟩, ⟨16, 16, .ro, false, 0⟩]⟩,
  ⟨0x004, 0, 1, none, [⟨0, 5, .ro, false, 30⟩, ⟨5, 4, .ro, false, 8⟩, ⟨9, 6, .ro, false, 32⟩, ⟨15, 3, .ro, false, 4⟩]⟩,
  ⟨0x008, 0, 1, none, [⟨0, 3, .rw, false, 0⟩, ⟨3, 1, .rw, false, 1⟩, ⟨4, 2, .rw, false, 0⟩]⟩,
  ⟨0x00C, 0, 1, none, [⟨0, 1, .ro, false, 0⟩, ⟨1, 2, .ro, false, 0⟩, ⟨3, 1, .ro, false, 0⟩, ⟨4, 1, .ro, false, 0⟩, ⟨5, 1, .ro, false, 0⟩, ⟨6, 1, .ro, false, 0⟩]⟩,
  ⟨0x010, 0, 1, none, [⟨0, 8, .w1c, false, 0⟩, ⟨8, 24, .w1c, false, 0⟩]⟩,
  ⟨0x014, 0, 1, none, [⟨0, 32, .rw, false, 0⟩]⟩,
  ⟨0x018, 0, 1, none, [⟨0, 32, .w1s, false, 0⟩]⟩,
  ⟨0x01C, 0, 1, none, [⟨0, 32, .ro, false, 0⟩]⟩,
  ⟨0x020, 0, 1, none, [⟨0, 2, .rw, false, 0⟩, ⟨4, 1, .wo, false, 0⟩, ⟨5, 1, .wo, false, 0⟩]⟩,
  ⟨0x024, 0, 1, none, [⟨0, 32, .rw, false, 0⟩]⟩,
  ⟨0x028, 0, 1, none, [⟨0, 3, .ro, false, 0⟩, ⟨4, 4, .ro, false, 0⟩, ⟨8, 1, .ro, false, 0⟩, ⟨16, 16, .ro, false, 0⟩]⟩,
  ⟨0x02C, 0, 1, none, [⟨0, 2, .rw, false, 0⟩]⟩,
  ⟨0x040, 0, 1, none, [⟨0, 14, .rw, false, 1522⟩]⟩,
  ⟨0x044, 0, 1, none, [⟨0, 3, .rw, true, 0⟩, ⟨3, 1, .rw, true, 1⟩]⟩,
  ⟨0x048, 0, 1, none, [⟨0, 32, .rw, false, 0⟩]⟩,
  ⟨0x04C, 0, 1, none, [⟨0, 32, .rw, false, 0⟩]⟩,
  ⟨0x050, 0, 1, none, [⟨0, 1, .rw, false, 1⟩, ⟨1, 1, .rw, false, 1⟩]⟩,
  ⟨0x054, 0, 1, none, [⟨0, 24, .rw, false, 10000⟩]⟩,
  ⟨0x058, 0, 1, none, [⟨0, 24, .rw, false, 100000⟩]⟩,
  ⟨0x05C, 0, 1, none, [⟨0, 1, .rw, false, 0⟩, ⟨16, 16, .rw, false, 100⟩]⟩,
  ⟨0x060, 0, 1, none, [⟨0, 20, .rw, false, 16500⟩]⟩,
  ⟨0x064, 0, 1, none, [⟨0, 9, .rw, false, 128⟩]⟩,
  ⟨0x068, 0, 1, none, [⟨0, 7, .ro, false, 0⟩]⟩,
  ⟨0x06C, 0, 1, none, [⟨0, 32, .ro, false, 0⟩]⟩,
  ⟨0x070, 0, 1, none, [⟨0, 16, .ro, false, 0⟩, ⟨16, 16, .ro, false, 0⟩]⟩,
  ⟨0x074, 0, 1, none, [⟨0, 2, .ro, false, 0⟩, ⟨16, 16, .ro, false, 0⟩]⟩,
  ⟨0x078, 0, 1, none, [⟨0, 32, .rw, false, 0⟩]⟩,
  ⟨0x07C, 0, 1, none, [⟨0, 16, .rw, false, 0⟩]⟩,
  ⟨0x080, 0, 1, none, [⟨0, 32, .rw, false, 0⟩]⟩,
  ⟨0x084, 0, 1, none, [⟨0, 32, .ro, false, 0⟩]⟩,
  ⟨0x088, 0, 1, none, [⟨0, 32, .ro, false, 0⟩]⟩,
  ⟨0x08C, 0, 1, none, [⟨0, 32, .ro, false, 0⟩]⟩,
  ⟨0x090, 0, 1, none, [⟨0, 32, .ro, false, 0⟩]⟩,
  ⟨0x094, 0, 1, none, [⟨0, 32, .ro, false, 0⟩]⟩,
  ⟨0x098, 0, 1, none, [⟨0, 32, .ro, false, 0⟩]⟩,
  ⟨0x09C, 0, 1, none, [⟨0, 32, .ro, false, 0⟩]⟩,
  ⟨0x0A0, 0, 1, none, [⟨0, 32, .ro, false, 0⟩]⟩,
  ⟨0x0A4, 0, 1, none, [⟨0, 32, .ro, false, 0⟩]⟩,
  ⟨0x0A8, 0, 1, none, [⟨0, 32, .ro, false, 0⟩]⟩,
  ⟨0x0AC, 0, 1, none, [⟨0, 32, .ro, false, 0⟩]⟩,
  ⟨0x0B0, 0, 1, none, [⟨0, 32, .ro, false, 0⟩]⟩,
  ⟨0x0B4, 0, 1, none, [⟨0, 32, .ro, false, 0⟩]⟩,
  ⟨0x200, 32, 8, none, [⟨0, 2, .rw, true, 2⟩, ⟨2, 1, .rw, true, 0⟩, ⟨3, 1, .rw, true, 0⟩, ⟨4, 5, .rw, true, 16⟩, ⟨9, 5, .rw, true, 12⟩]⟩,
  ⟨0x204, 32, 8, none, [⟨0, 28, .rw, true, 0⟩]⟩,
  ⟨0x208, 32, 8, none, [⟨0, 28, .rw, true, 0⟩]⟩,
  ⟨0x20C, 32, 8, none, [⟨0, 28, .rw, false, 0⟩]⟩,
  ⟨0x210, 32, 8, none, [⟨0, 22, .rw, false, 0⟩]⟩,
  ⟨0x214, 32, 8, none, [⟨0, 28, .ro, false, 0⟩]⟩,
  ⟨0x218, 32, 8, none, [⟨0, 22, .ro, false, 0⟩]⟩,
  ⟨0x21C, 32, 8, none, [⟨0, 32, .ro, false, 0⟩]⟩,
  ⟨0x300, 16, 4, none, [⟨0, 28, .rw, true, 0⟩]⟩,
  ⟨0x304, 16, 4, none, [⟨0, 1, .rw, true, 0⟩, ⟨1, 5, .rw, true, 4⟩]⟩,
  ⟨0x308, 16, 4, none, [⟨0, 16, .rw, false, 0⟩]⟩,
  ⟨0x30C, 16, 4, none, [⟨0, 16, .ro, false, 0⟩]⟩,
  ⟨0x400, 16, 32, none, [⟨0, 1, .rw, true, 0⟩, ⟨1, 2, .rw, true, 0⟩, ⟨3, 12, .rw, true, 0⟩, ⟨15, 3, .rw, true, 0⟩, ⟨18, 1, .rw, true, 0⟩, ⟨19, 1, .rw, true, 0⟩, ⟨20, 1, .rw, true, 0⟩, ⟨21, 1, .rw, true, 0⟩, ⟨22, 6, .rw, true, 32⟩]⟩,
  ⟨0x404, 16, 32, none, [⟨0, 32, .rw, true, 0⟩]⟩,
  ⟨0x408, 16, 32, none, [⟨0, 16, .rw, true, 0⟩, ⟨16, 16, .rw, true, 0⟩]⟩,
  ⟨0x40C, 16, 32, none, [⟨0, 3, .rw, true, 0⟩, ⟨3, 1, .rw, true, 0⟩, ⟨4, 8, .rw, true, 0⟩]⟩,
  ⟨0x600, 4, 32, none, [⟨0, 32, .ro, false, 0⟩]⟩]

/-- Registers of the FLOW page. -/
def regsFLOW : List RegRow := [
  ⟨0x000, 0, 1, none, [⟨0, 8, .ro, false, 0⟩, ⟨8, 8, .ro, false, 0⟩, ⟨16, 16, .ro, false, 0⟩]⟩,
  ⟨0x004, 0, 1, none, [⟨0, 9, .ro, false, 256⟩]⟩,
  ⟨0x008, 0, 1, none, []⟩,
  ⟨0x00C, 0, 1, none, []⟩,
  ⟨0x010, 0, 1, none, [⟨0, 8, .w1c, false, 0⟩, ⟨8, 24, .w1c, false, 0⟩]⟩,
  ⟨0x014, 0, 1, none, [⟨0, 32, .rw, false, 0⟩]⟩,
  ⟨0x018, 0, 1, none, [⟨0, 32, .w1s, false, 0⟩]⟩,
  ⟨0x01C, 0, 1, none, [⟨0, 32, .ro, false, 0⟩]⟩,
  ⟨0x020, 0, 1, none, [⟨0, 2, .rw, false, 0⟩, ⟨4, 1, .wo, false, 0⟩, ⟨5, 1, .wo, false, 0⟩]⟩,
  ⟨0x024, 0, 1, none, [⟨0, 32, .rw, false, 0⟩]⟩,
  ⟨0x028, 0, 1, none, [⟨0, 3, .ro, false, 0⟩, ⟨4, 4, .ro, false, 0⟩, ⟨8, 1, .ro, false, 0⟩, ⟨16, 16, .ro, false, 0⟩]⟩,
  ⟨0x02C, 0, 1, none, [⟨0, 2, .rw, false, 0⟩]⟩,
  ⟨0x040, 0, 1, none, [⟨0, 32, .ro, false, 0⟩]⟩,
  ⟨0x400, 8, 256, none, [⟨0, 4, .rw, true, 0⟩, ⟨4, 3, .rw, true, 0⟩, ⟨7, 1, .rw, true, 0⟩, ⟨8, 2, .rw, true, 0⟩, ⟨10, 6, .rw, true, 0⟩, ⟨16, 8, .rw, true, 100⟩]⟩,
  ⟨0x404, 8, 256, none, [⟨0, 16, .rw, true, 1⟩]⟩,
  ⟨0xC00, 4, 256, none, [⟨0, 32, .ro, false, 0⟩]⟩]

/-- Registers of the INGEST page. -/
def regsINGEST : List RegRow := [
  ⟨0x000, 0, 1, none, [⟨0, 8, .ro, false, 0⟩, ⟨8, 8, .ro, false, 0⟩, ⟨16, 16, .ro, false, 0⟩]⟩,
  ⟨0x004, 0, 1, none, []⟩,
  ⟨0x008, 0, 1, none, [⟨0, 1, .rw, true, 0⟩, ⟨1, 1, .rw, true, 0⟩]⟩,
  ⟨0x00C, 0, 1, none, [⟨0, 2, .ro, false, 0⟩, ⟨2, 2, .ro, false, 0⟩, ⟨4, 1, .ro, false, 0⟩]⟩,
  ⟨0x010, 0, 1, none, [⟨0, 8, .w1c, false, 0⟩, ⟨8, 24, .w1c, false, 0⟩]⟩,
  ⟨0x014, 0, 1, none, [⟨0, 32, .rw, false, 0⟩]⟩,
  ⟨0x018, 0, 1, none, [⟨0, 32, .w1s, false, 0⟩]⟩,
  ⟨0x01C, 0, 1, none, [⟨0, 32, .ro, false, 0⟩]⟩,
  ⟨0x020, 0, 1, none, [⟨0, 2, .rw, false, 0⟩, ⟨4, 1, .wo, false, 0⟩, ⟨5, 1, .wo, false, 0⟩]⟩,
  ⟨0x024, 0, 1, none, [⟨0, 32, .rw, false, 0⟩]⟩,
  ⟨0x028, 0, 1, none, [⟨0, 3, .ro, false, 0⟩, ⟨4, 4, .ro, false, 0⟩, ⟨8, 1, .ro, false, 0⟩, ⟨16, 16, .ro, false, 0⟩]⟩,
  ⟨0x02C, 0, 1, none, [⟨0, 2, .rw, false, 0⟩]⟩,
  ⟨0x040, 0, 1, none, [⟨0, 3, .rw, true, 3⟩, ⟨8, 7, .rw, true, 96⟩]⟩,
  ⟨0x044, 0, 1, none, [⟨0, 13, .rw, true, 1920⟩, ⟨16, 12, .rw, true, 1080⟩]⟩,
  ⟨0x048, 0, 1, none, [⟨0, 20, .rw, true, 60⟩, ⟨20, 12, .rw, true, 1⟩]⟩,
  ⟨0x04C, 0, 1, none, [⟨12, 20, .rw, true, 0⟩]⟩,
  ⟨0x050, 0, 1, none, [⟨0, 8, .rw, true, 0⟩]⟩,
  ⟨0x054, 0, 1, none, [⟨0, 20, .rw, true, 0⟩]⟩,
  ⟨0x058, 0, 1, none, [⟨0, 16, .rw, true, 0⟩]⟩,
  ⟨0x05C, 0, 1, none, [⟨0, 20, .rw, true, 0⟩]⟩,
  ⟨0x060, 0, 1, none, [⟨0, 3, .rw, true, 4⟩]⟩,
  ⟨0x064, 0, 1, none, [⟨0, 32, .rw, true, 0⟩]⟩,
  ⟨0x080, 0, 1, none, [⟨0, 32, .ro, false, 0⟩]⟩,
  ⟨0x084, 0, 1, none, [⟨0, 32, .ro, false, 0⟩]⟩,
  ⟨0x088, 0, 1, none, [⟨0, 32, .ro, false, 0⟩]⟩,
  ⟨0x08C, 0, 1, none, [⟨0, 32, .ro, false, 0⟩]⟩,
  ⟨0x090, 0, 1, none, [⟨0, 32, .ro, false, 0⟩]⟩,
  ⟨0x094, 0, 1, none, [⟨0, 32, .ro, false, 0⟩]⟩,
  ⟨0x098, 0, 1, none, [⟨0, 32, .ro, false, 0⟩]⟩,
  ⟨0x09C, 0, 1, none, [⟨0, 32, .ro, false, 0⟩]⟩,
  ⟨0x0A0, 0, 1, none, [⟨0, 32, .ro, false, 0⟩]⟩,
  ⟨0x0A4, 0, 1, none, [⟨0, 32, .ro, false, 0⟩]⟩,
  ⟨0x0A8, 0, 1, none, [⟨0, 32, .ro, false, 0⟩]⟩,
  ⟨0x0C0, 8, 4, none, [⟨0, 2, .ro, false, 0⟩, ⟨2, 1, .ro, false, 0⟩, ⟨3, 1, .ro, false, 0⟩]⟩,
  ⟨0x0C4, 8, 4, none, [⟨0, 32, .ro, false, 0⟩]⟩]

/-- Registers of the EGRESS page. -/
def regsEGRESS : List RegRow := [
  ⟨0x000, 0, 1, none, [⟨0, 8, .ro, false, 0⟩, ⟨8, 8, .ro, false, 0⟩, ⟨16, 16, .ro, false, 0⟩]⟩,
  ⟨0x004, 0, 1, none, []⟩,
  ⟨0x008, 0, 1, none, [⟨0, 1, .rw, true, 0⟩]⟩,
  ⟨0x00C, 0, 1, none, [⟨0, 1, .ro, false, 0⟩]⟩,
  ⟨0x010, 0, 1, none, [⟨0, 8, .w1c, false, 0⟩, ⟨8, 24, .w1c, false, 0⟩]⟩,
  ⟨0x014, 0, 1, none, [⟨0, 32, .rw, false, 0⟩]⟩,
  ⟨0x018, 0, 1, none, [⟨0, 32, .w1s, false, 0⟩]⟩,
  ⟨0x01C, 0, 1, none, [⟨0, 32, .ro, false, 0⟩]⟩,
  ⟨0x020, 0, 1, none, [⟨0, 2, .rw, false, 0⟩, ⟨4, 1, .wo, false, 0⟩, ⟨5, 1, .wo, false, 0⟩]⟩,
  ⟨0x024, 0, 1, none, [⟨0, 32, .rw, false, 0⟩]⟩,
  ⟨0x028, 0, 1, none, [⟨0, 3, .ro, false, 0⟩, ⟨4, 4, .ro, false, 0⟩, ⟨8, 1, .ro, false, 0⟩, ⟨16, 16, .ro, false, 0⟩]⟩,
  ⟨0x02C, 0, 1, none, [⟨0, 2, .rw, false, 0⟩]⟩,
  ⟨0x040, 0, 1, none, [⟨0, 3, .rw, true, 3⟩, ⟨4, 2, .rw, true, 0⟩]⟩,
  ⟨0x044, 0, 1, none, [⟨0, 13, .rw, true, 1920⟩, ⟨16, 12, .rw, true, 1080⟩]⟩,
  ⟨0x048, 0, 1, none, [⟨0, 16, .rw, true, 0⟩]⟩,
  ⟨0x04C, 0, 1, none, [⟨0, 20, .rw, true, 0⟩]⟩,
  ⟨0x050, 0, 1, none, [⟨0, 32, .rw, true, 0⟩]⟩,
  ⟨0x054, 0, 1, none, [⟨0, 8, .rw, true, 0⟩]⟩,
  ⟨0x058, 0, 1, none, [⟨0, 2, .rw, true, 0⟩, ⟨2, 1, .rw, true, 0⟩, ⟨3, 1, .rw, true, 1⟩, ⟨4, 1, .rw, true, 0⟩, ⟨8, 8, .rw, true, 54⟩, ⟨16, 14, .rw, true, 1260⟩]⟩,
  ⟨0x05C, 0, 1, none, [⟨0, 32, .rw, true, 0⟩]⟩,
  ⟨0x060, 0, 1, none, [⟨0, 16, .rw, true, 1080⟩, ⟨16, 16, .rw, true, 1125⟩]⟩,
  ⟨0x064, 0, 1, none, [⟨0, 32, .rw, true, 0⟩]⟩,
  ⟨0x068, 0, 1, none, [⟨0, 32, .rw, false, 0⟩]⟩,
  ⟨0x06C, 0, 1, none, [⟨0, 24, .ro, false, 0⟩]⟩,
  ⟨0x070, 0, 1, none, [⟨0, 32, .ro, false, 0⟩]⟩,
  ⟨0x074, 0, 1, none, [⟨0, 32, .ro, false, 0⟩]⟩,
  ⟨0x078, 0, 1, none, [⟨0, 32, .ro, false, 0⟩]⟩]

/-- Registers of the SACN page. -/
def regsSACN : List RegRow := [
  ⟨0x000, 0, 1, none, [⟨0, 8, .ro, false, 0⟩, ⟨8, 8, .ro, false, 0⟩, ⟨16, 16, .ro, false, 0⟩]⟩,
  ⟨0x004, 0, 1, none, []⟩,
  ⟨0x008, 0, 1, none, []⟩,
  ⟨0x00C, 0, 1, none, []⟩,
  ⟨0x010, 0, 1, none, [⟨0, 8, .w1c, false, 0⟩, ⟨8, 24, .w1c, false, 0⟩]⟩,
  ⟨0x014, 0, 1, none, [⟨0, 32, .rw, false, 0⟩]⟩,
  ⟨0x018, 0, 1, none, [⟨0, 32, .w1s, false, 0⟩]⟩,
  ⟨0x01C, 0, 1, none, [⟨0, 32, .ro, false, 0⟩]⟩,
  ⟨0x020, 0, 1, none, [⟨0, 2, .rw, false, 0⟩, ⟨4, 1, .wo, false, 0⟩, ⟨5, 1, .wo, false, 0⟩]⟩,
  ⟨0x024, 0, 1, none, [⟨0, 32, .rw, false, 0⟩]⟩,
  ⟨0x028, 0, 1, none, [⟨0, 3, .ro, false, 0⟩, ⟨4, 4, .ro, false, 0⟩, ⟨8, 1, .ro, false, 0⟩, ⟨16, 16, .ro, false, 0⟩]⟩,
  ⟨0x02C, 0, 1, none, [⟨0, 2, .rw, false, 0⟩]⟩,
  ⟨0x040, 4, 4, none, [⟨0, 32, .rw, false, 0⟩]⟩,
  ⟨0x050, 4, 16, none, [⟨0, 32, .rw, false, 0⟩]⟩,
  ⟨0x090, 0, 1, none, [⟨0, 8, .rw, false, 64⟩, ⟨8, 6, .rw, false, 0⟩, ⟨14, 1, .rw, false, 0⟩, ⟨15, 12, .rw, false, 0⟩, ⟨27, 3, .rw, false, 0⟩]⟩,
  ⟨0x094, 0, 1, none, [⟨0, 16, .rw, false, 2000⟩]⟩,
  ⟨0x098, 0, 1, none, [⟨0, 12, .rw, false, 800⟩]⟩,
  ⟨0x09C, 0, 1, none, [⟨0, 1, .rw, false, 0⟩, ⟨1, 1, .rw, false, 0⟩, ⟨16, 12, .rw, false, 2500⟩]⟩,
  ⟨0x0A0, 0, 1, none, [⟨0, 32, .rw, false, 0⟩]⟩,
  ⟨0x0A4, 0, 1, none, [⟨0, 8, .rw, false, 0⟩]⟩,
  ⟨0x0A8, 0, 1, none, [⟨0, 32, .ro, false, 0⟩]⟩,
  ⟨0x0AC, 0, 1, none, [⟨0, 32, .rw, false, 0⟩]⟩,
  ⟨0x0B0, 0, 1, none, [⟨0, 8, .rw, false, 0⟩]⟩,
  ⟨0x0C0, 0, 1, none, [⟨0, 32, .ro, false, 0⟩]⟩,
  ⟨0x0C4, 0, 1, none, [⟨0, 32, .ro, false, 0⟩]⟩,
  ⟨0x0C8, 0, 1, none, [⟨0, 32, .ro, false, 0⟩]⟩,
  ⟨0x0CC, 0, 1, none, [⟨0, 32, .ro, false, 0⟩]⟩,
  ⟨0x0D0, 0, 1, none, [⟨0, 32, .ro, false, 0⟩]⟩,
  ⟨0x0D4, 0, 1, none, [⟨0, 32, .ro, false, 0⟩]⟩,
  ⟨0x0D8, 0, 1, none, [⟨0, 32, .ro, false, 0⟩]⟩,
  ⟨0x0DC, 0, 1, none, [⟨0, 32, .ro, false, 0⟩]⟩]

/-- Registers of the DMX page. -/
def regsDMX : List RegRow := [
  ⟨0x000, 0, 1, none, [⟨0, 8, .ro, false, 0⟩, ⟨8, 8, .ro, false, 0⟩, ⟨16, 16, .ro, false, 0⟩]⟩,
  ⟨0x004, 0, 1, none, []⟩,
  ⟨0x008, 0, 1, none, [⟨0, 2, .rw, true, 0⟩]⟩,
  ⟨0x00C, 0, 1, none, [⟨0, 1, .ro, false, 0⟩, ⟨1, 1, .ro, false, 0⟩, ⟨2, 1, .ro, false, 0⟩, ⟨3, 1, .ro, false, 0⟩]⟩,
  ⟨0x010, 0, 1, none, [⟨0, 8, .w1c, false, 0⟩, ⟨8, 24, .w1c, false, 0⟩]⟩,
  ⟨0x014, 0, 1, none, [⟨0, 32, .rw, false, 0⟩]⟩,
  ⟨0x018, 0, 1, none, [⟨0, 32, .w1s, false, 0⟩]⟩,
  ⟨0x01C, 0, 1, none, [⟨0, 32, .ro, false, 0⟩]⟩,
  ⟨0x020, 0, 1, none, [⟨0, 2, .rw, false, 0⟩, ⟨4, 1, .wo, false, 0⟩, ⟨5, 1, .wo, false, 0⟩]⟩,
  ⟨0x024, 0, 1, none, [⟨0, 32, .rw, false, 0⟩]⟩,
  ⟨0x028, 0, 1, none, [⟨0, 3, .ro, false, 0⟩, ⟨4, 4, .ro, false, 0⟩, ⟨8, 1, .ro, false, 0⟩, ⟨16, 16, .ro, false, 0⟩]⟩,
  ⟨0x02C, 0, 1, none, [⟨0, 2, .rw, false, 0⟩]⟩,
  ⟨0x040, 0, 1, none, [⟨0, 10, .rw, true, 176⟩, ⟨10, 10, .rw, true, 16⟩, ⟨20, 7, .rw, true, 0⟩]⟩,
  ⟨0x044, 0, 1, none, [⟨0, 4, .rw, true, 0⟩, ⟨4, 4, .rw, true, 0⟩, ⟨8, 8, .rw, true, 0⟩]⟩,
  ⟨0x048, 0, 1, none, [⟨0, 12, .rw, true, 2800⟩]⟩,
  ⟨0x04C, 0, 1, none, [⟨0, 16, .rw, true, 12000⟩]⟩,
  ⟨0x050, 0, 1, none, [⟨0, 32, .rw, true, 0⟩]⟩,
  ⟨0x054, 0, 1, none, [⟨0, 16, .rw, true, 0⟩]⟩,
  ⟨0x058, 0, 1, none, [⟨0, 11, .rw, true, 176⟩, ⟨16, 16, .rw, true, 1⟩]⟩,
  ⟨0x05C, 0, 1, none, [⟨0, 32, .rw, true, 0⟩]⟩,
  ⟨0x060, 0, 1, none, [⟨0, 8, .rw, true, 0⟩]⟩,
  ⟨0x064, 0, 1, none, [⟨0, 32, .rw, false, 0⟩]⟩,
  ⟨0x068, 0, 1, none, [⟨0, 8, .rw, false, 0⟩]⟩,
  ⟨0x06C, 0, 1, none, [⟨0, 9, .wo, false, 0⟩]⟩,
  ⟨0x070, 0, 1, none, [⟨0, 4, .ro, false, 0⟩]⟩,
  ⟨0x080, 0, 1, none, [⟨0, 32, .ro, false, 0⟩]⟩,
  ⟨0x084, 0, 1, none, [⟨0, 32, .ro, false, 0⟩]⟩,
  ⟨0x088, 0, 1, none, [⟨0, 32, .ro, false, 0⟩]⟩,
  ⟨0x08C, 0, 1, none, [⟨0, 32, .ro, false, 0⟩]⟩,
  ⟨0x090, 0, 1, none, [⟨0, 32, .ro, false, 0⟩]⟩,
  ⟨0x094, 0, 1, none, [⟨0, 32, .ro, false, 0⟩]⟩,
  ⟨0x098, 0, 1, none, [⟨0, 32, .ro, false, 0⟩]⟩]

/-- Registers of the SCAN page. -/
def regsSCAN : List RegRow := [
  ⟨0x000, 0, 1, none, [⟨0, 8, .ro, false, 0⟩, ⟨8, 8, .ro, false, 0⟩, ⟨16, 16, .ro, false, 0⟩]⟩,
  ⟨0x004, 0, 1, none, [⟨0, 4, .ro, false, 8⟩, ⟨4, 7, .ro, false, 64⟩, ⟨11, 1, .ro, false, 1⟩]⟩,
  ⟨0x008, 0, 1, none, [⟨0, 1, .rw, true, 0⟩, ⟨1, 1, .rw, false, 0⟩]⟩,
  ⟨0x00C, 0, 1, none, [⟨0, 3, .ro, false, 0⟩, ⟨3, 1, .ro, false, 0⟩, ⟨4, 1, .ro, false, 0⟩, ⟨5, 1, .ro, false, 0⟩]⟩,
  ⟨0x010, 0, 1, none, [⟨0, 8, .w1c, false, 0⟩, ⟨8, 24, .w1c, false, 0⟩]⟩,
  ⟨0x014, 0, 1, none, [⟨0, 32, .rw, false, 0⟩]⟩,
  ⟨0x018, 0, 1, none, [⟨0, 32, .w1s, false, 0⟩]⟩,
  ⟨0x01C, 0, 1, none, [⟨0, 32, .ro, false, 0⟩]⟩,
  ⟨0x020, 0, 1, none, [⟨0, 2, .rw, false, 0⟩, ⟨4, 1, .wo, false, 0⟩, ⟨5, 1, .wo, false, 0⟩]⟩,
  ⟨0x024, 0, 1, none, [⟨0, 32, .rw, false, 0⟩]⟩,
  ⟨0x028, 0, 1, none, [⟨0, 3, .ro, false, 0⟩, ⟨4, 4, .ro, false, 0⟩, ⟨8, 1, .ro, false, 0⟩, ⟨16, 16, .ro, false, 0⟩]⟩,
  ⟨0x02C, 0, 1, none, [⟨0, 2, .rw, false, 0⟩]⟩,
  ⟨0x040, 0, 1, none, [⟨0, 1, .rw, true, 0⟩, ⟨1, 1, .rw, true, 0⟩, ⟨2, 1, .rw, true, 0⟩, ⟨3, 3, .rw, true, 7⟩, ⟨6, 6, .rw, true, 31⟩, ⟨12, 1, .rw, true, 0⟩]⟩,
  ⟨0x044, 0, 1, none, [⟨0, 12, .rw, true, 16⟩]⟩,
  ⟨0x048, 0, 1, none, [⟨0, 8, .rw, true, 4⟩]⟩,
  ⟨0x04C, 0, 1, none, [⟨0, 13, .rw, true, 100⟩]⟩,
  ⟨0x050, 0, 1, none, [⟨0, 23, .rw, true, 250000⟩]⟩,
  ⟨0x054, 0, 1, none, [⟨0, 26, .rw, true, 0⟩]⟩,
  ⟨0x058, 0, 1, none, [⟨0, 32, .rw, true, 16666667⟩]⟩,
  ⟨0x05C, 0, 1, none, [⟨0, 14, .rw, true, 128⟩]⟩,
  ⟨0x060, 0, 1, none, [⟨0, 2, .rw, true, 0⟩, ⟨2, 1, .rw, true, 0⟩]⟩,
  ⟨0x064, 0, 1, none, [⟨0, 16, .rw, true, 0⟩]⟩,
  ⟨0x068, 0, 1, none, [⟨0, 20, .rw, true, 0⟩]⟩,
  ⟨0x06C, 0, 1, none, [⟨0, 13, .rw, true, 0⟩, ⟨16, 12, .rw, true, 0⟩]⟩,
  ⟨0x070, 0, 1, none, [⟨0, 32, .rw, true, 0⟩]⟩,
  ⟨0x074, 0, 1, none, [⟨0, 8, .rw, true, 0⟩]⟩,
  ⟨0x078, 0, 1, none, [⟨0, 32, .ro, false, 0⟩]⟩,
  ⟨0x07C, 0, 1, none, [⟨0, 1, .ro, false, 0⟩]⟩,
  ⟨0x080, 0, 1, none, [⟨0, 32, .ro, false, 0⟩]⟩,
  ⟨0x084, 0, 1, none, [⟨0, 32, .ro, false, 0⟩]⟩,
  ⟨0x088, 0, 1, none, [⟨0, 32, .ro, false, 0⟩]⟩,
  ⟨0x08C, 0, 1, none, [⟨0, 32, .ro, false, 0⟩]⟩,
  ⟨0x090, 0, 1, none, [⟨0, 32, .ro, false, 0⟩]⟩,
  ⟨0x094, 0, 1, none, [⟨0, 32, .ro, false, 0⟩]⟩,
  ⟨0x098, 0, 1, none, [⟨0, 32, .ro, false, 0⟩]⟩,
  ⟨0x09C, 0, 1, none, [⟨0, 32, .ro, false, 0⟩]⟩,
  ⟨0x0A0, 0, 1, none, [⟨0, 32, .ro, false, 4294967295⟩]⟩,
  ⟨0x0A4, 0, 1, none, [⟨0, 12, .rw, true, 0⟩, ⟨16, 12, .rw, true, 120⟩]⟩,
  ⟨0x0A8, 0, 1, none, [⟨0, 32, .ro, false, 0⟩]⟩,
  ⟨0x0AC, 0, 1, none, [⟨0, 32, .ro, false, 0⟩]⟩,
  ⟨0x0B0, 0, 1, none, [⟨0, 32, .ro, false, 0⟩]⟩,
  ⟨0x0C0, 0, 1, none, [⟨0, 16, .rw, true, 9567⟩, ⟨16, 16, .rw, true, 0⟩]⟩,
  ⟨0x0C4, 0, 1, none, [⟨0, 16, .rw, true, 14729⟩, ⟨16, 16, .rw, true, 9567⟩]⟩,
  ⟨0x0C8, 0, 1, none, [⟨0, 16, .rw, true, 63784⟩, ⟨16, 16, .rw, true, 61158⟩]⟩,
  ⟨0x0CC, 0, 1, none, [⟨0, 16, .rw, true, 9567⟩, ⟨16, 16, .rw, true, 17356⟩]⟩,
  ⟨0x0D0, 0, 1, none, [⟨0, 16, .rw, true, 0⟩]⟩,
  ⟨0x0D4, 0, 1, none, [⟨0, 16, .rw, true, 4100⟩, ⟨16, 16, .rw, true, 32800⟩]⟩,
  ⟨0x0D8, 0, 1, none, [⟨0, 16, .rw, true, 32800⟩]⟩]

/-- Registers of the LED page. -/
def regsLED : List RegRow := [
  ⟨0x000, 0, 1, none, [⟨0, 8, .ro, false, 0⟩, ⟨8, 8, .ro, false, 0⟩, ⟨16, 16, .ro, false, 0⟩]⟩,
  ⟨0x004, 0, 1, none, []⟩,
  ⟨0x008, 0, 1, none, [⟨0, 1, .rw, true, 0⟩, ⟨1, 1, .rw, true, 0⟩, ⟨2, 1, .rw, true, 0⟩, ⟨3, 1, .wo, false, 0⟩, ⟨4, 1, .wo, false, 0⟩]⟩,
  ⟨0x00C, 0, 1, none, [⟨0, 1, .ro, false, 0⟩, ⟨1, 1, .ro, false, 0⟩, ⟨2, 1, .ro, false, 0⟩, ⟨3, 1, .ro, false, 0⟩, ⟨4, 1, .ro, false, 0⟩]⟩,
  ⟨0x010, 0, 1, none, [⟨0, 8, .w1c, false, 0⟩, ⟨8, 24, .w1c, false, 0⟩]⟩,
  ⟨0x014, 0, 1, none, [⟨0, 32, .rw, false, 0⟩]⟩,
  ⟨0x018, 0, 1, none, [⟨0, 32, .w1s, false, 0⟩]⟩,
  ⟨0x01C, 0, 1, none, [⟨0, 32, .ro, false, 0⟩]⟩,
  ⟨0x020, 0, 1, none, [⟨0, 2, .rw, false, 0⟩, ⟨4, 1, .wo, false, 0⟩, ⟨5, 1, .wo, false, 0⟩]⟩,
  ⟨0x024, 0, 1, none, [⟨0, 32, .rw, false, 0⟩]⟩,
  ⟨0x028, 0, 1, none, [⟨0, 3, .ro, false, 0⟩, ⟨4, 4, .ro, false, 0⟩, ⟨8, 1, .ro, false, 0⟩, ⟨16, 16, .ro, false, 0⟩]⟩,
  ⟨0x02C, 0, 1, none, [⟨0, 2, .rw, false, 0⟩]⟩,
  ⟨0x040, 0, 1, none, [⟨0, 6, .rw, true, 16⟩, ⟨6, 5, .rw, true, 16⟩, ⟨11, 4, .rw, true, 8⟩, ⟨15, 1, .rw, true, 0⟩, ⟨16, 1, .rw, true, 0⟩, ⟨17, 8, .rw, true, 228⟩]⟩,
  ⟨0x044, 0, 1, none, [⟨0, 8, .rw, true, 4⟩, ⟨8, 16, .rw, true, 256⟩]⟩,
  ⟨0x048, 0, 1, none, [⟨0, 16, .rw, true, 250⟩]⟩,
  ⟨0x04C, 0, 1, none, [⟨0, 5, .rw, true, 12⟩, ⟨8, 8, .rw, true, 8⟩, ⟨16, 16, .rw, true, 16⟩]⟩,
  ⟨0x050, 0, 1, none, [⟨0, 8, .rw, true, 255⟩, ⟨8, 8, .rw, true, 255⟩, ⟨16, 8, .rw, true, 255⟩, ⟨24, 8, .rw, true, 255⟩]⟩,
  ⟨0x054, 0, 1, none, [⟨0, 8, .rw, true, 255⟩, ⟨8, 8, .rw, true, 255⟩, ⟨16, 8, .rw, true, 255⟩, ⟨24, 8, .rw, true, 255⟩]⟩,
  ⟨0x058, 0, 1, none, [⟨0, 1, .rw, true, 0⟩]⟩,
  ⟨0x05C, 0, 1, none, [⟨0, 16, .rw, true, 0⟩]⟩,
  ⟨0x060, 0, 1, none, [⟨0, 8, .rw, true, 0⟩, ⟨8, 1, .rw, true, 0⟩]⟩,
  ⟨0x064, 0, 1, none, [⟨0, 11, .rw, false, 0⟩, ⟨11, 2, .rw, false, 0⟩, ⟨13, 1, .rw, false, 0⟩]⟩,
  ⟨0x068, 0, 1, none, [⟨0, 16, .rw, false, 0⟩]⟩,
  ⟨0x06C, 0, 1, none, [⟨0, 2, .rw, false, 0⟩, ⟨2, 2, .rw, false, 0⟩, ⟨4, 10, .rw, false, 307⟩, ⟨14, 5, .rw, false, 12⟩]⟩,
  ⟨0x070, 0, 1, none, [⟨0, 16, .rw, true, 65535⟩, ⟨16, 16, .rw, true, 0⟩]⟩,
  ⟨0x074, 0, 1, none, [⟨0, 16, .ro, false, 65535⟩]⟩,
  ⟨0x078, 0, 1, none, [⟨0, 16, .rw, true, 65535⟩, ⟨16, 16, .rw, true, 65535⟩]⟩,
  ⟨0x07C, 0, 1, none, [⟨0, 16, .rw, true, 65535⟩, ⟨16, 16, .rw, true, 65535⟩]⟩,
  ⟨0x080, 0, 1, none, [⟨0, 12, .rw, true, 960⟩, ⟨12, 10, .rw, true, 250⟩, ⟨22, 7, .rw, true, 50⟩]⟩,
  ⟨0x084, 0, 1, none, [⟨0, 8, .rw, true, 32⟩]⟩,
  ⟨0x088, 0, 1, none, [⟨0, 17, .ro, false, 65536⟩]⟩,
  ⟨0x08C, 0, 1, none, [⟨0, 16, .ro, false, 0⟩]⟩,
  ⟨0x090, 0, 1, none, [⟨0, 32, .ro, false, 0⟩]⟩,
  ⟨0x094, 4, 4, none, [⟨0, 17, .ro, false, 65536⟩]⟩,
  ⟨0x0A4, 0, 1, none, [⟨0, 8, .rw, true, 160⟩, ⟨8, 3, .rw, true, 0⟩, ⟨11, 4, .rw, true, 2⟩, ⟨16, 16, .rw, true, 30⟩]⟩,
  ⟨0x0A8, 0, 1, none, [⟨0, 13, .rw, true, 64⟩]⟩,
  ⟨0x0AC, 0, 1, none, [⟨0, 32, .rw, true, 0⟩]⟩,
  ⟨0x0B0, 0, 1, none, [⟨0, 8, .rw, true, 0⟩]⟩,
  ⟨0x0B4, 0, 1, none, [⟨0, 16, .ro, false, 0⟩, ⟨16, 1, .ro, false, 0⟩, ⟨17, 2, .ro, false, 0⟩]⟩,
  ⟨0x0B8, 0, 1, none, [⟨0, 32, .ro, false, 0⟩]⟩,
  ⟨0x0BC, 0, 1, none, [⟨0, 32, .ro, false, 0⟩]⟩,
  ⟨0x0C0, 0, 1, none, [⟨0, 32, .ro, false, 0⟩]⟩,
  ⟨0x0C4, 0, 1, none, [⟨0, 32, .ro, false, 0⟩]⟩,
  ⟨0x800, 4, 512, none, [⟨0, 32, .rw, false, 0⟩]⟩]

/-- Registers of the CL page. -/
def regsCL : List RegRow := [
  ⟨0x000, 0, 1, none, [⟨0, 8, .ro, false, 0⟩, ⟨8, 8, .ro, false, 0⟩, ⟨16, 16, .ro, false, 0⟩]⟩,
  ⟨0x004, 0, 1, none, [⟨0, 3, .ro, false, 4⟩, ⟨3, 1, .ro, false, 1⟩, ⟨4, 3, .ro, false, 7⟩]⟩,
  ⟨0x008, 0, 1, none, [⟨0, 1, .rw, false, 0⟩, ⟨1, 2, .rw, false, 2⟩, ⟨3, 1, .rw, false, 1⟩]⟩,
  ⟨0x00C, 0, 1, none, [⟨0, 3, .ro, false, 0⟩, ⟨3, 2, .ro, false, 0⟩, ⟨5, 5, .ro, false, 0⟩, ⟨10, 3, .ro, false, 7⟩, ⟨13, 3, .ro, false, 0⟩, ⟨16, 2, .ro, false, 0⟩]⟩,
  ⟨0x010, 0, 1, none, [⟨0, 8, .w1c, false, 0⟩, ⟨8, 24, .w1c, false, 0⟩]⟩,
  ⟨0x014, 0, 1, none, [⟨0, 32, .rw, false, 0⟩]⟩,
  ⟨0x018, 0, 1, none, [⟨0, 32, .w1s, false, 0⟩]⟩,
  ⟨0x01C, 0, 1, none, [⟨0, 32, .ro, false, 0⟩]⟩,
  ⟨0x020, 0, 1, none, [⟨0, 2, .rw, false, 0⟩, ⟨4, 1, .wo, false, 0⟩, ⟨5, 1, .wo, false, 0⟩]⟩,
  ⟨0x024, 0, 1, none, [⟨0, 32, .rw, false, 0⟩]⟩,
  ⟨0x028, 0, 1, none, [⟨0, 3, .ro, false, 0⟩, ⟨4, 4, .ro, false, 0⟩, ⟨8, 1, .ro, false, 0⟩, ⟨16, 16, .ro, false, 0⟩]⟩,
  ⟨0x02C, 0, 1, none, [⟨0, 2, .rw, false, 0⟩]⟩,
  ⟨0x040, 0, 1, none, [⟨0, 32, .ro, false, 0⟩]⟩,
  ⟨0x044, 0, 1, none, [⟨0, 16, .ro, false, 0⟩, ⟨16, 7, .rw, false, 70⟩]⟩,
  ⟨0x048, 0, 1, none, [⟨0, 16, .ro, false, 0⟩]⟩,
  ⟨0x04C, 0, 1, none, [⟨0, 8, .ro, false, 0⟩, ⟨8, 8, .ro, false, 0⟩, ⟨16, 8, .ro, false, 0⟩]⟩,
  ⟨0x050, 0, 1, none, [⟨0, 8, .rw, false, 40⟩, ⟨8, 16, .rw, false, 120⟩]⟩,
  ⟨0x054, 0, 1, none, [⟨0, 32, .ro, false, 0⟩]⟩,
  ⟨0x058, 0, 1, none, [⟨0, 16, .ro, false, 0⟩]⟩,
  ⟨0x060, 0, 1, none, [⟨0, 32, .ro, false, 0⟩]⟩,
  ⟨0x064, 0, 1, none, [⟨0, 32, .ro, false, 0⟩]⟩,
  ⟨0x068, 0, 1, none, [⟨0, 32, .ro, false, 0⟩]⟩,
  ⟨0x06C, 0, 1, none, [⟨0, 32, .ro, false, 0⟩]⟩,
  ⟨0x070, 0, 1, none, [⟨0, 32, .ro, false, 0⟩]⟩,
  ⟨0x074, 0, 1, none, [⟨0, 32, .ro, false, 0⟩]⟩,
  ⟨0x078, 0, 1, none, [⟨0, 32, .ro, false, 0⟩]⟩,
  ⟨0x07C, 0, 1, none, [⟨0, 32, .ro, false, 0⟩]⟩,
  ⟨0x080, 16, 16, none, [⟨0, 3, .rw, true, 1⟩, ⟨3, 12, .rw, true, 0⟩, ⟨15, 3, .rw, true, 0⟩, ⟨18, 4, .rw, true, 0⟩]⟩,
  ⟨0x084, 16, 16, none, [⟨0, 18, .rw, true, 0⟩]⟩,
  ⟨0x200, 0, 1, (some 0), [⟨0, 16, .rw, true, 0⟩, ⟨16, 8, .rw, true, 128⟩]⟩,
  ⟨0x204, 0, 1, (some 0), [⟨0, 1, .ro, false, 1⟩, ⟨1, 3, .ro, false, 0⟩, ⟨4, 4, .ro, false, 1⟩, ⟨8, 8, .ro, false, 1⟩, ⟨16, 3, .ro, false, 0⟩, ⟨19, 1, .ro, false, 0⟩]⟩,
  ⟨0x208, 0, 1, (some 0), [⟨0, 32, .ro, false, 0⟩]⟩,
  ⟨0x20C, 0, 1, (some 0), [⟨0, 16, .ro, false, 0⟩]⟩,
  ⟨0x210, 0, 1, (some 0), [⟨0, 32, .ro, false, 0⟩]⟩,
  ⟨0x214, 0, 1, (some 0), [⟨0, 16, .ro, false, 0⟩]⟩,
  ⟨0x218, 0, 1, (some 0), [⟨0, 12, .rw, false, 125⟩]⟩,
  ⟨0x21C, 0, 1, (some 0), [⟨0, 20, .rw, false, 1000⟩]⟩,
  ⟨0x220, 0, 1, (some 0), [⟨0, 2, .ro, false, 0⟩, ⟨2, 3, .ro, false, 0⟩, ⟨5, 1, .ro, false, 0⟩]⟩,
  ⟨0x224, 0, 1, (some 0), [⟨0, 32, .ro, false, 0⟩]⟩,
  ⟨0x228, 0, 1, (some 0), [⟨0, 32, .ro, false, 0⟩]⟩,
  ⟨0x240, 16, 16, (some 0), [⟨6, 26, .rw, true, 0⟩]⟩,
  ⟨0x244, 16, 16, (some 0), [⟨0, 8, .rw, true, 0⟩]⟩,
  ⟨0x248, 16, 16, (some 0), [⟨0, 25, .rw, true, 0⟩]⟩,
  ⟨0x24C, 16, 16, (some 0), [⟨0, 16, .ro, false, 0⟩, ⟨16, 1, .ro, false, 0⟩, ⟨17, 1, .ro, false, 0⟩]⟩]

/-- The register table of a page of the page map (Table 02-2); `[]` for a reserved page (R63). -/
def pageRows (p : Nat) : List RegRow :=
  if p == 0 then regsSYS else
  if p == 1 then regsHOST else
  if p == 2 then regsTIME else
  if p == 3 then regsTRIG else
  if p == 4 then regsPLAN else
  if p == 5 then regsSCHED else
  if p == 6 then regsTRACE else
  if p == 7 then regsGROOM else
  if p == 8 then regsDRAM else
  if p == 9 then regsNVM else
  if p == 10 then regsCAL else
  if p == 11 then regsSENSE else
  if p == 12 then regsKEY else
  if p == 13 then regsSPEED else
  if 16 ≤ p && p < 26 then regsENG else
  if 32 ≤ p && p < 64 then regsBANK else
  if 64 ≤ p && p < 80 then regsFIFO else
  if 80 ≤ p && p < 84 then regsNET else
  if p == 88 then regsFLOW else
  if 96 ≤ p && p < 104 then regsINGEST else
  if 104 ≤ p && p < 112 then regsEGRESS else
  if p == 112 then regsSACN else
  if 128 ≤ p && p < 144 then regsDMX else
  if 144 ≤ p && p < 160 then regsSCAN else
  if 160 ≤ p && p < 176 then regsLED else
  if 176 ≤ p && p < 180 then regsCL else
  []

/-- First page of the block a page belongs to, or the page itself. -/
def pageBase (p : Nat) : Nat :=
  if 16 ≤ p && p < 26 then 16 else
  if 32 ≤ p && p < 64 then 32 else
  if 64 ≤ p && p < 80 then 64 else
  if 80 ≤ p && p < 84 then 80 else
  if 96 ≤ p && p < 104 then 96 else
  if 104 ≤ p && p < 112 then 104 else
  if 128 ≤ p && p < 144 then 128 else
  if 144 ≤ p && p < 160 then 144 else
  if 160 ≤ p && p < 176 then 160 else
  if 176 ≤ p && p < 180 then 176 else
  p

/-- ID.BLOCK_TYPE of a page (Table 02-2); 0 for a reserved page (R63). -/
def blockType (p : Nat) : Nat :=
  if p == 0 then 1 else
  if p == 1 then 2 else
  if p == 2 then 3 else
  if p == 3 then 4 else
  if p == 4 then 5 else
  if p == 5 then 6 else
  if p == 6 then 7 else
  if p == 7 then 8 else
  if p == 8 then 9 else
  if p == 9 then 10 else
  if p == 10 then 11 else
  if p == 11 then 12 else
  if p == 12 then 13 else
  if p == 13 then 14 else
  if 16 ≤ p && p < 26 then 16 else
  if 32 ≤ p && p < 64 then 17 else
  if 64 ≤ p && p < 80 then 18 else
  if 80 ≤ p && p < 84 then 19 else
  if p == 88 then 20 else
  if 96 ≤ p && p < 104 then 21 else
  if 104 ≤ p && p < 112 then 22 else
  if p == 112 then 23 else
  if 128 ≤ p && p < 144 then 24 else
  if 144 ≤ p && p < 160 then 25 else
  if 160 ≤ p && p < 176 then 26 else
  if 176 ≤ p && p < 180 then 27 else
  0

/-- The value fixed in a page's ID register (R63, Table 02-3): version 0x01, instance, block type. -/
def idValue (p : Nat) : Nat :=
  if blockType p = 0 then 0 else blockType p * 65536 + (p - pageBase p) * 256 + 1

/-- The row of the register that holds offset `off` of page `p`, if the offset is not reserved (R20). -/
def regRow? (p off : Nat) : Option RegRow :=
  (pageRows p).find? fun r =>
    (match r.only with | none => true | some k => p == pageBase p + k) &&
    r.off ≤ off &&
    (if r.count = 1 then off == r.off else (off - r.off) % r.stride == 0 && (off - r.off) / r.stride < r.count)

/-- The reset value of a whole register, from its fields' reset values (R21); beside them CAPS and BIND of
the FIFO pages (Table 08-1, Table 08-2), which differ by instance, and the MSI-X mask bits (log entry 3). -/
def regReset (k : Nat) : Word :=
  let p := k / 4096
  let off := k % 4096
  if off = 0 then BitVec.ofNat 32 (idValue p)
  else if off = 0x004 ∧ 0x40 ≤ p ∧ p < 0x50 then BitVec.ofNat 32 (128 + 128 * 256 + (if p < 0x45 then p - 0x40 else 15) * 65536)
  else if off = 0x040 ∧ p = 0x40 then 0x31#32
  else if off = 0x040 ∧ 0x41 ≤ p ∧ p < 0x45 then 0x13#32
  else if p = 1 ∧ 0x800 ≤ off ∧ off < 0xC00 ∧ off % 16 = 12 then 1#32
  else match regRow? p off with
    | none => 0
    | some r => BitVec.ofNat 32 ((r.fields.map fun f => f.reset * 2 ^ f.lo).sum)

/-! Field names, PAGE_REGISTER_FIELD as the spec writes PAGE.REGISTER.FIELD (R13). -/

def PG_ID_VERSION : Fld := ⟨0, 0x000, 0, 0, 8⟩
def PG_ID_INSTANCE : Fld := ⟨0, 0x000, 0, 8, 8⟩
def PG_ID_BLOCK_TYPE : Fld := ⟨0, 0x000, 0, 16, 16⟩
def PG_CAPS_ALL : Fld := ⟨0, 0x004, 0, 0, 32⟩
def PG_STATUS_ALL : Fld := ⟨0, 0x00C, 0, 0, 32⟩
def PG_EVENT_ALL : Fld := ⟨0, 0x010, 0, 0, 8⟩
def PG_EVENT_ALL8 : Fld := ⟨0, 0x010, 0, 8, 24⟩
def PG_EVENT_EN_EN : Fld := ⟨0, 0x014, 0, 0, 32⟩
def PG_EVENT_FORCE_FORCE : Fld := ⟨0, 0x018, 0, 0, 32⟩
def PG_PAGE_SEQ_SEQ : Fld := ⟨0, 0x01C, 0, 0, 32⟩
def PG_COMMIT_MODE : Fld := ⟨0, 0x020, 0, 0, 2⟩
def PG_COMMIT_ARM : Fld := ⟨0, 0x020, 0, 4, 1⟩
def PG_COMMIT_CANCEL : Fld := ⟨0, 0x020, 0, 5, 1⟩
def PG_COMMIT_TIME_TIME : Fld := ⟨0, 0x024, 0, 0, 32⟩
def PG_COMMIT_STATUS_STATE : Fld := ⟨0, 0x028, 0, 0, 3⟩
def PG_COMMIT_STATUS_REASON : Fld := ⟨0, 0x028, 0, 4, 4⟩
def PG_COMMIT_STATUS_DIRTY : Fld := ⟨0, 0x028, 0, 8, 1⟩
def PG_COMMIT_STATUS_TAKEN_FRAME : Fld := ⟨0, 0x028, 0, 16, 16⟩
def PG_OWNER_HOLDER : Fld := ⟨0, 0x02C, 0, 0, 2⟩
def SYS_STATUS_READY : Fld := ⟨0, 0x00C, 0, 0, 1⟩
def SYS_STATUS_RECOVERY : Fld := ⟨0, 0x00C, 0, 1, 1⟩
def SYS_STATUS_BOOT_FAIL : Fld := ⟨0, 0x00C, 0, 2, 1⟩
def SYS_STATUS_WEAR_WARN : Fld := ⟨0, 0x00C, 0, 3, 1⟩
def SYS_BOOT_PHASE_PHASE : Fld := ⟨0, 0x044, 0, 0, 4⟩
def SYS_BOOT_PHASE_FAIL_PHASE : Fld := ⟨0, 0x044, 0, 4, 4⟩
def SYS_BOOT_PHASE_CAUSE : Fld := ⟨0, 0x044, 0, 8, 8⟩
def SYS_BOOT_US_US : Fld := ⟨0, 0x048, 0, 0, 32⟩
def SYS_RECOVERY_CODE : Fld := ⟨0, 0x04C, 0, 0, 16⟩
def SYS_RECOVERY_OP : Fld := ⟨0, 0x04C, 0, 16, 2⟩
def SYS_POWER_HOURS_H : Fld := ⟨0, 0x050, 0, 0, 32⟩
def SYS_HOT_HOURS_H : Fld := ⟨0, 0x054, 0, 0, 32⟩
def SYS_WEAR_PS_PS : Fld := ⟨0, 0x058, 0, 0, 16⟩
def SYS_WEAR_PS_S0_PS : Fld := ⟨0, 0x058, 0, 16, 16⟩
def SYS_EOL_DAYS_DAYS : Fld := ⟨0, 0x05C, 0, 0, 16⟩
def SYS_EOL_DAYS_VALID : Fld := ⟨0, 0x05C, 0, 16, 1⟩
def SYS_STRAPS_STRAPS : Fld := ⟨0, 0x060, 0, 0, 16⟩
def SYS_SILICON_REV_METAL_REV : Fld := ⟨0, 0x040, 0, 0, 8⟩
def SYS_SILICON_REV_BASE_REV : Fld := ⟨0, 0x040, 0, 8, 8⟩
def SYS_SILICON_REV_GRADE : Fld := ⟨0, 0x040, 0, 16, 1⟩
def HOST_BAR2_WIN_WIN_GIB : Fld := ⟨1, 0x040, 0, 0, 4⟩
def HOST_BAD_ACCESS_COUNT : Fld := ⟨1, 0x044, 0, 0, 32⟩
def HOST_VEC_ARM_LO_ARM : Fld := ⟨1, 0x048, 0, 0, 32⟩
def HOST_VEC_ARM_HI_ARM : Fld := ⟨1, 0x04C, 0, 0, 32⟩
def HOST_PEND_PEND : Fld := ⟨1, 0x100, 4, 0, 32⟩
def HOST_PAGE_ROUTE_VECTOR : Fld := ⟨1, 0x400, 4, 0, 6⟩
def HOST_PAGE_ROUTE_MSIX_EN : Fld := ⟨1, 0x400, 4, 8, 1⟩
def HOST_PAGE_ROUTE_RECORD_EN : Fld := ⟨1, 0x400, 4, 9, 1⟩
def HOST_PAGE_ROUTE_IRQ_EN : Fld := ⟨1, 0x400, 4, 10, 1⟩
def HOST_MSIX_MSI_X_table : Fld := ⟨1, 0x800, 4, 0, 32⟩
def HOST_PBA_MSI_X_PBA : Fld := ⟨1, 0xC00, 4, 0, 32⟩
def TIME_FRAME_RATE_NUM_NUM : Fld := ⟨2, 0x200, 0, 0, 20⟩
def TIME_FRAME_RATE_DEN_DEN : Fld := ⟨2, 0x204, 0, 0, 16⟩
def TIME_TRANSIT_NUM_LO_NUM_LO : Fld := ⟨2, 0x208, 0, 0, 32⟩
def TIME_TRANSIT_NUM_HI_NUM_HI : Fld := ⟨2, 0x20C, 0, 0, 32⟩
def TIME_TRANSIT_ST32_ST32 : Fld := ⟨2, 0x210, 0, 0, 32⟩
def TIME_TRANSIT_STATE_VALID : Fld := ⟨2, 0x214, 0, 0, 1⟩
def TIME_TRANSIT_STATE_SEAM : Fld := ⟨2, 0x214, 0, 1, 1⟩
def TIME_CTRL_SOURCE : Fld := ⟨2, 0x008, 0, 0, 2⟩
def TIME_CTRL_SW_SERVO : Fld := ⟨2, 0x008, 0, 2, 1⟩
def TIME_CTRL_ANCHOR_EN : Fld := ⟨2, 0x008, 0, 3, 1⟩
def TIME_CTRL_OFFSET_REC_EN : Fld := ⟨2, 0x008, 0, 4, 1⟩
def TIME_CTRL_STEP_AUTH : Fld := ⟨2, 0x008, 0, 5, 1⟩
def TIME_CTRL_CARVE_AUTH : Fld := ⟨2, 0x008, 0, 6, 1⟩
def TIME_CTRL_FORCE_GLIDE : Fld := ⟨2, 0x008, 0, 7, 1⟩
def TIME_STATUS_STATE : Fld := ⟨2, 0x00C, 0, 0, 3⟩
def TIME_STATUS_HELD_DIR : Fld := ⟨2, 0x00C, 0, 3, 1⟩
def TIME_STATUS_SOURCE_IN_USE : Fld := ⟨2, 0x00C, 0, 4, 2⟩
def TIME_STATUS_TRACEABLE : Fld := ⟨2, 0x00C, 0, 6, 1⟩
def TIME_STATUS_DELAY_VALID : Fld := ⟨2, 0x00C, 0, 7, 1⟩
def TIME_NOW_NS_NS : Fld := ⟨2, 0x040, 0, 0, 30⟩
def TIME_NOW_SEC_LO_SEC_LO : Fld := ⟨2, 0x044, 0, 0, 32⟩
def TIME_NOW_SEC_HI_SEC_HI : Fld := ⟨2, 0x048, 0, 0, 16⟩
def TIME_NOW_FRAC_FRAC : Fld := ⟨2, 0x04C, 0, 0, 16⟩
def TIME_NOW_ST32_ST32 : Fld := ⟨2, 0x050, 0, 0, 32⟩
def TIME_STEP_THRESH_NS : Fld := ⟨2, 0x060, 0, 0, 32⟩
def TIME_CARVE_MAX_PPB : Fld := ⟨2, 0x064, 0, 0, 20⟩
def TIME_GAIN_ACQ_KP : Fld := ⟨2, 0x068, 0, 0, 16⟩
def TIME_GAIN_ACQ_KI : Fld := ⟨2, 0x068, 0, 16, 16⟩
def TIME_GAIN_LOCK_KP : Fld := ⟨2, 0x06C, 0, 0, 16⟩
def TIME_GAIN_LOCK_KI : Fld := ⟨2, 0x06C, 0, 16, 16⟩
def TIME_LOCK_CFG_LOCK_NS : Fld := ⟨2, 0x070, 0, 0, 16⟩
def TIME_LOCK_CFG_LOCK_COUNT : Fld := ⟨2, 0x070, 0, 16, 8⟩
def TIME_UNLOCK_NS_NS : Fld := ⟨2, 0x074, 0, 0, 32⟩
def TIME_OUTLIER_NS_NS : Fld := ⟨2, 0x078, 0, 0, 32⟩
def TIME_DELAY_SHIFT_SHIFT : Fld := ⟨2, 0x07C, 0, 0, 4⟩
def TIME_FREQ_ADJ_ADJ : Fld := ⟨2, 0x080, 0, 0, 32⟩
def TIME_OFFSET_NS_NS : Fld := ⟨2, 0x084, 0, 0, 32⟩
def TIME_PATH_DELAY_NS_NS : Fld := ⟨2, 0x088, 0, 0, 32⟩
def TIME_GLIDE_AGE_MS_MS : Fld := ⟨2, 0x08C, 0, 0, 32⟩
def TIME_GLIDE_LIMIT_S_S : Fld := ⟨2, 0x090, 0, 0, 16⟩
def TIME_GLIDE_FREQ_ADJ : Fld := ⟨2, 0x094, 0, 0, 32⟩
def TIME_SET_NS_NS : Fld := ⟨2, 0x098, 0, 0, 30⟩
def TIME_SET_SEC_LO_SEC : Fld := ⟨2, 0x09C, 0, 0, 32⟩
def TIME_SET_SEC_HI_SEC : Fld := ⟨2, 0x0A0, 0, 0, 16⟩
def TIME_SW_OFFSET_NS_NS : Fld := ⟨2, 0x0A4, 0, 0, 32⟩
def TIME_PTP_CFG_DOMAIN : Fld := ⟨2, 0x0A8, 0, 0, 8⟩
def TIME_PTP_CFG_PORT_EN : Fld := ⟨2, 0x0A8, 0, 8, 4⟩
def TIME_PTP_CFG_PROFILE : Fld := ⟨2, 0x0A8, 0, 12, 1⟩
def TIME_PTP_CFG_DELAY_UNICAST : Fld := ⟨2, 0x0A8, 0, 13, 1⟩
def TIME_PTP_CFG_LOG_DELAY_REQ : Fld := ⟨2, 0x0A8, 0, 16, 4⟩
def TIME_PTP_CFG_ANNOUNCE_TIMEOUT : Fld := ⟨2, 0x0A8, 0, 20, 4⟩
def TIME_GM_ID_LO_ID : Fld := ⟨2, 0x0AC, 0, 0, 32⟩
def TIME_GM_ID_HI_ID : Fld := ⟨2, 0x0B0, 0, 0, 32⟩
def TIME_OUTLIER_COUNT_COUNT : Fld := ⟨2, 0x0B4, 0, 0, 32⟩
def TIME_SMTLV_DATA : Fld := ⟨2, 0x0C0, 4, 0, 32⟩
def TIME_LTC_OUT_CFG_EN : Fld := ⟨2, 0x100, 0, 0, 1⟩
def TIME_LTC_OUT_CFG_RATE : Fld := ⟨2, 0x100, 0, 1, 2⟩
def TIME_LTC_OUT_OFFSET_S_S : Fld := ⟨2, 0x104, 0, 0, 32⟩
def TIME_LTC_DF_JAM_S_S : Fld := ⟨2, 0x108, 0, 0, 17⟩
def TIME_LTC_OUT_UB_UB : Fld := ⟨2, 0x10C, 0, 0, 32⟩
def TIME_LTC_IN_CFG_EN : Fld := ⟨2, 0x110, 0, 0, 1⟩
def TIME_LTC_IN_CFG_REC_EN : Fld := ⟨2, 0x110, 0, 1, 1⟩
def TIME_LTC_IN_LAST_FF : Fld := ⟨2, 0x114, 0, 0, 6⟩
def TIME_LTC_IN_LAST_SS : Fld := ⟨2, 0x114, 0, 6, 7⟩
def TIME_LTC_IN_LAST_MM : Fld := ⟨2, 0x114, 0, 13, 7⟩
def TIME_LTC_IN_LAST_HH : Fld := ⟨2, 0x114, 0, 20, 6⟩
def TIME_LTC_IN_LAST_DF : Fld := ⟨2, 0x114, 0, 26, 1⟩
def TIME_LTC_IN_LAST_LOCK : Fld := ⟨2, 0x114, 0, 27, 1⟩
def TIME_LTC_IN_LAST_RATE : Fld := ⟨2, 0x114, 0, 28, 2⟩
def TIME_LTC_IN_ST32_ST32 : Fld := ⟨2, 0x118, 0, 0, 32⟩
def TRIG_TRG_CFG_MODE : Fld := ⟨3, 0x400, 16, 0, 2⟩
def TRIG_TRG_CFG_POLICY : Fld := ⟨3, 0x400, 16, 2, 1⟩
def TRIG_TRG_CFG_ARM : Fld := ⟨3, 0x400, 16, 3, 1⟩
def TRIG_TRG_CFG_ACTION : Fld := ⟨3, 0x400, 16, 4, 4⟩
def TRIG_TRG_CFG_PIN : Fld := ⟨3, 0x400, 16, 8, 4⟩
def TRIG_TRG_CFG_REC : Fld := ⟨3, 0x400, 16, 12, 1⟩
def TRIG_TRG_CFG_ARG : Fld := ⟨3, 0x400, 16, 16, 16⟩
def TRIG_TRG_TIME_TIME : Fld := ⟨3, 0x404, 16, 0, 32⟩
def TRIG_TRG_PERIOD_PERIOD : Fld := ⟨3, 0x408, 16, 0, 32⟩
def TRIG_TRG_LATE_NS_NS : Fld := ⟨3, 0x40C, 16, 0, 32⟩
def TRIG_LATE_LATE : Fld := ⟨3, 0x040, 4, 0, 32⟩
def TRIG_SKIP_SKIP : Fld := ⟨3, 0x048, 4, 0, 32⟩
def TRIG_ARMED_ARMED : Fld := ⟨3, 0x050, 4, 0, 32⟩
def TRIG_MISSED_COUNT : Fld := ⟨3, 0x058, 0, 0, 32⟩
def TRIG_TIO_CFG_DIR : Fld := ⟨3, 0x100, 4, 0, 2⟩
def TRIG_TIO_CFG_CAPTURE : Fld := ⟨3, 0x100, 4, 2, 2⟩
def TRIG_TIO_CFG_INVERT : Fld := ⟨3, 0x100, 4, 4, 1⟩
def TRIG_TIO_CFG_DEGLITCH : Fld := ⟨3, 0x100, 4, 5, 3⟩
def TRIG_TIO_CFG_OUT_LEVEL : Fld := ⟨3, 0x100, 4, 8, 1⟩
def TRIG_TIO_CFG_LEVEL : Fld := ⟨3, 0x100, 4, 9, 1⟩
def TRIG_TIO_CAP_ST32 : Fld := ⟨3, 0x140, 4, 0, 32⟩
def TRIG_FSYNC_CAP_ST32 : Fld := ⟨3, 0x180, 0, 0, 32⟩
def TRIG_FSYNC_CFG_OUT_EN : Fld := ⟨3, 0x184, 0, 0, 1⟩
def TRIG_FSYNC_CFG_OUT_POL : Fld := ⟨3, 0x184, 0, 1, 1⟩
def TRIG_FSYNC_CFG_IN_EDGE : Fld := ⟨3, 0x184, 0, 2, 2⟩
def TRIG_FSYNC_CFG_WIDTH : Fld := ⟨3, 0x184, 0, 8, 16⟩
def TRIG_CAP_DROP_COUNT : Fld := ⟨3, 0x188, 0, 0, 32⟩
def PLAN_CAPS_MAX_LEVELS : Fld := ⟨4, 0x004, 0, 0, 4⟩
def PLAN_CAPS_SLOTS : Fld := ⟨4, 0x004, 0, 4, 4⟩
def PLAN_CTRL_MARGIN_REC_EN : Fld := ⟨4, 0x008, 0, 0, 1⟩
def PLAN_STATUS_STATE : Fld := ⟨4, 0x00C, 0, 0, 2⟩
def PLAN_STATUS_RESHADOW_PENDING : Fld := ⟨4, 0x00C, 0, 2, 1⟩
def PLAN_STATUS_SHED : Fld := ⟨4, 0x00C, 0, 4, 4⟩
def PLAN_IMAGE_ADDR_LO_ADDR : Fld := ⟨4, 0x040, 0, 0, 32⟩
def PLAN_IMAGE_ADDR_HI_ADDR : Fld := ⟨4, 0x044, 0, 0, 8⟩
def PLAN_LOAD_CMD_LOAD : Fld := ⟨4, 0x048, 0, 0, 1⟩
def PLAN_LOAD_CMD_ABORT : Fld := ⟨4, 0x048, 0, 1, 1⟩
def PLAN_LOAD_CMD_STOP_OK : Fld := ⟨4, 0x048, 0, 2, 1⟩
def PLAN_LOAD_STATUS_STATE : Fld := ⟨4, 0x04C, 0, 0, 3⟩
def PLAN_LOAD_STATUS_REASON : Fld := ⟨4, 0x04C, 0, 3, 5⟩
def PLAN_LOAD_STATUS_SECTION : Fld := ⟨4, 0x04C, 0, 8, 8⟩
def PLAN_LOAD_STATUS_FITS_WORST : Fld := ⟨4, 0x04C, 0, 16, 1⟩
def PLAN_SWITCH_SWITCH : Fld := ⟨4, 0x050, 0, 0, 1⟩
def PLAN_SHED_MIN_LEVELS : Fld := ⟨4, 0x054, 0, 0, 4⟩
def PLAN_MARGIN_CFG_WARN_PCT : Fld := ⟨4, 0x058, 0, 0, 8⟩
def PLAN_MARGIN_CFG_RESTORE_PCT : Fld := ⟨4, 0x058, 0, 8, 8⟩
def PLAN_MARGIN_CFG_RESTORE_FRAMES : Fld := ⟨4, 0x058, 0, 16, 16⟩
def PLAN_ACTIVE_ID_ID : Fld := ⟨4, 0x060, 0, 0, 32⟩
def PLAN_STAGED_ID_ID : Fld := ⟨4, 0x064, 0, 0, 32⟩
def PLAN_GEN_COUNT : Fld := ⟨4, 0x068, 0, 0, 32⟩
def PLAN_T_ADM_PS_PS : Fld := ⟨4, 0x070, 0, 0, 16⟩
def PLAN_AVAIL_NS_NS : Fld := ⟨4, 0x074, 0, 0, 32⟩
def PLAN_NEED_NS_NS : Fld := ⟨4, 0x078, 0, 0, 32⟩
def PLAN_MARGIN_NS_NS : Fld := ⟨4, 0x07C, 0, 0, 32⟩
def PLAN_CRIT_SLOT : Fld := ⟨4, 0x080, 0, 0, 3⟩
def PLAN_CRIT_STRIPE : Fld := ⟨4, 0x080, 0, 3, 5⟩
def PLAN_FRAMES_SKIPPED_COUNT : Fld := ⟨4, 0x084, 0, 0, 32⟩
def PLAN_TAKEOVERS_COUNT : Fld := ⟨4, 0x088, 0, 0, 32⟩
def PLAN_FENCE_LATE_COUNT_COUNT : Fld := ⟨4, 0x08C, 0, 0, 32⟩
def PLAN_SC_OUTSIDE_COUNT : Fld := ⟨4, 0x090, 0, 0, 32⟩
def PLAN_SC_OWN_COUNT_COUNT : Fld := ⟨4, 0x094, 0, 0, 32⟩
def PLAN_EMIT_NOT_READY_COUNT : Fld := ⟨4, 0x098, 0, 0, 32⟩
def PLAN_SLOT_ENGINE : Fld := ⟨4, 0x0A0, 4, 0, 4⟩
def PLAN_SLOT_STATE : Fld := ⟨4, 0x0A0, 4, 4, 2⟩
def PLAN_SLOT_SHADOWED : Fld := ⟨4, 0x0A0, 4, 6, 1⟩
def SCHED_CAPS_CONTEXTS : Fld := ⟨5, 0x004, 0, 0, 16⟩
def SCHED_CAPS_LEVELS : Fld := ⟨5, 0x004, 0, 16, 8⟩
def SCHED_CTRL_DISPATCH_EN : Fld := ⟨5, 0x008, 0, 0, 1⟩
def SCHED_CTRL_END_REC_EN : Fld := ⟨5, 0x008, 0, 1, 1⟩
def SCHED_STATUS_READY : Fld := ⟨5, 0x00C, 0, 0, 9⟩
def SCHED_STATUS_RUNNING : Fld := ⟨5, 0x00C, 0, 9, 7⟩
def SCHED_STATUS_DELAYED : Fld := ⟨5, 0x00C, 0, 16, 9⟩
def SCHED_TASK_CMD_CTX : Fld := ⟨5, 0x040, 0, 0, 8⟩
def SCHED_TASK_CMD_OP : Fld := ⟨5, 0x040, 0, 8, 4⟩
def SCHED_CMD_RESULT_CTX : Fld := ⟨5, 0x044, 0, 0, 8⟩
def SCHED_CMD_RESULT_OP : Fld := ⟨5, 0x044, 0, 8, 4⟩
def SCHED_CMD_RESULT_CODE : Fld := ⟨5, 0x044, 0, 12, 4⟩
def SCHED_CMD_RESULT_DECIDED : Fld := ⟨5, 0x044, 0, 31, 1⟩
def SCHED_TICK_CFG_US : Fld := ⟨5, 0x048, 0, 0, 10⟩
def SCHED_TICK_NOW_TICKS : Fld := ⟨5, 0x04C, 0, 0, 32⟩
def SCHED_TICK_BEHIND_COUNT : Fld := ⟨5, 0x050, 0, 0, 32⟩
def SCHED_LEVEL_OCC_LEVELS : Fld := ⟨5, 0x054, 0, 0, 16⟩
def SCHED_PASS_COUNT_COUNT : Fld := ⟨5, 0x058, 0, 0, 32⟩
def SCHED_CTX_CFG_DESC_ADDR : Fld := ⟨5, 0x400, 8, 0, 23⟩
def SCHED_CTX_CFG_PRIO : Fld := ⟨5, 0x400, 8, 24, 4⟩
def SCHED_CTX_STATE_STATE : Fld := ⟨5, 0x404, 8, 0, 4⟩
def SCHED_CTX_STATE_END_CAUSE : Fld := ⟨5, 0x404, 8, 4, 4⟩
def SCHED_CTX_STATE_UNIT : Fld := ⟨5, 0x404, 8, 8, 4⟩
def SCHED_CTX_STATE_INDEX : Fld := ⟨5, 0x404, 8, 12, 5⟩
def SCHED_CTX_STATE_RUNS : Fld := ⟨5, 0x404, 8, 24, 8⟩
def TRACE_CTRL_EN : Fld := ⟨6, 0x008, 0, 0, 1⟩
def TRACE_CTRL_VOID_EN : Fld := ⟨6, 0x008, 0, 1, 1⟩
def TRACE_KIND_MASK_KINDS : Fld := ⟨6, 0x040, 0, 0, 16⟩
def TRACE_CTX_RANGE_CTX_LO : Fld := ⟨6, 0x044, 0, 0, 8⟩
def TRACE_CTX_RANGE_CTX_HI : Fld := ⟨6, 0x044, 0, 8, 8⟩
def TRACE_FILTER_PRIO_MIN : Fld := ⟨6, 0x048, 0, 0, 4⟩
def TRACE_FILTER_UNIT_MASK : Fld := ⟨6, 0x048, 0, 8, 6⟩
def TRACE_DROP_COUNT_COUNT : Fld := ⟨6, 0x04C, 0, 0, 32⟩
def TRACE_NEXT_SEQ_SEQ : Fld := ⟨6, 0x050, 0, 0, 32⟩
def GROOM_CTRL_ENG_TEST_EN : Fld := ⟨7, 0x008, 0, 0, 1⟩
def GROOM_CTRL_DRAM_SCRUB_EN : Fld := ⟨7, 0x008, 0, 1, 1⟩
def GROOM_BORROW_HOLDOFF_US : Fld := ⟨7, 0x040, 0, 0, 20⟩
def GROOM_ROW_CORR_LIMIT_COUNT : Fld := ⟨7, 0x044, 0, 0, 8⟩
def GROOM_INTERVALS_DRAM_SCRUB_H : Fld := ⟨7, 0x048, 0, 0, 8⟩
def GROOM_INTERVALS_SEG_TEST_H : Fld := ⟨7, 0x048, 0, 8, 8⟩
def GROOM_INTERVALS_ENG_TEST_S : Fld := ⟨7, 0x048, 0, 16, 16⟩
def GROOM_RETURN_RETIRE_LIMIT : Fld := ⟨7, 0x04C, 0, 0, 4⟩
def GROOM_RETURN_RETURN_PASSES : Fld := ⟨7, 0x04C, 0, 8, 8⟩
def GROOM_ENG_RETIRE_COUNT : Fld := ⟨7, 0x080, 4, 0, 4⟩
def GROOM_ENG_RETIRE_PERMANENT : Fld := ⟨7, 0x080, 4, 4, 1⟩
def DRAM_CAPS_SIZE_GIB : Fld := ⟨8, 0x004, 0, 0, 5⟩
def DRAM_STATUS_CH_OK : Fld := ⟨8, 0x00C, 0, 0, 8⟩
def DRAM_STATUS_SELF_REFRESH : Fld := ⟨8, 0x00C, 0, 8, 1⟩
def DRAM_USABLE_MIB_MIB : Fld := ⟨8, 0x040, 0, 0, 16⟩
def DRAM_ECC_CORR_COUNT_COUNT : Fld := ⟨8, 0x044, 0, 0, 32⟩
def DRAM_ECC_UNCORR_COUNT_COUNT : Fld := ⟨8, 0x048, 0, 0, 32⟩
def DRAM_SPARE_ROWS_FREE_MIN : Fld := ⟨8, 0x04C, 0, 0, 7⟩
def DRAM_SPARE_ROWS_PENDING : Fld := ⟨8, 0x04C, 0, 8, 8⟩
def DRAM_SR_GUARD_US_US : Fld := ⟨8, 0x050, 0, 0, 8⟩
def DRAM_SR_MS_MS : Fld := ⟨8, 0x054, 0, 0, 32⟩
def NVM_CAPS_SIZE_KIB : Fld := ⟨9, 0x004, 0, 0, 16⟩
def NVM_SPARE_FREE_SECTORS : Fld := ⟨9, 0x040, 0, 0, 6⟩
def NVM_FAIL_COUNT_COUNT : Fld := ⟨9, 0x044, 0, 0, 32⟩
def CAL_CTRL_AUTO_EN : Fld := ⟨10, 0x008, 0, 0, 1⟩
def CAL_CTRL_APPLY_AUTO : Fld := ⟨10, 0x008, 0, 1, 1⟩
def CAL_CTRL_STORE_AUTO : Fld := ⟨10, 0x008, 0, 2, 1⟩
def CAL_STATUS_POSITION : Fld := ⟨10, 0x00C, 0, 0, 5⟩
def CAL_STATUS_STEP : Fld := ⟨10, 0x00C, 0, 5, 3⟩
def CAL_STATUS_SHADOW_DIRTY : Fld := ⟨10, 0x00C, 0, 8, 1⟩
def CAL_STATUS_STORE_BUSY : Fld := ⟨10, 0x00C, 0, 9, 1⟩
def CAL_STATUS_SPARE_BAD : Fld := ⟨10, 0x00C, 0, 10, 1⟩
def CAL_STATUS_NVM_SRC : Fld := ⟨10, 0x00C, 0, 11, 2⟩
def CAL_AUTO_PERIOD_S_S : Fld := ⟨10, 0x040, 0, 0, 16⟩
def CAL_CHOP_CFG_CHOP_LOG2 : Fld := ⟨10, 0x044, 0, 0, 4⟩
def CAL_CHOP_CFG_CHOP_RESID : Fld := ⟨10, 0x044, 0, 16, 16⟩
def CAL_OFF_WIN_PATH_WIN : Fld := ⟨10, 0x048, 0, 0, 16⟩
def CAL_OFF_WIN_BOARD_WIN : Fld := ⟨10, 0x048, 0, 16, 16⟩
def CAL_REG_CFG_REG_LOG2 : Fld := ⟨10, 0x04C, 0, 0, 4⟩
def CAL_REG_CFG_WIN_16 : Fld := ⟨10, 0x04C, 0, 4, 7⟩
def CAL_VAR_MIN_MA2 : Fld := ⟨10, 0x050, 0, 0, 32⟩
def CAL_GAIN_WIN_GAIN_MIN : Fld := ⟨10, 0x054, 0, 0, 16⟩
def CAL_GAIN_WIN_GAIN_MAX : Fld := ⟨10, 0x054, 0, 16, 16⟩
def CAL_FIT_CFG_ICPT_WIN : Fld := ⟨10, 0x058, 0, 0, 16⟩
def CAL_FIT_CFG_RESID_PCT : Fld := ⟨10, 0x058, 0, 16, 8⟩
def CAL_DARK_CFG_SETTLE_NS : Fld := ⟨10, 0x05C, 0, 0, 16⟩
def CAL_DARK_CFG_N_OFF : Fld := ⟨10, 0x05C, 0, 16, 16⟩
def CAL_RUN_LIMIT_S_S : Fld := ⟨10, 0x060, 0, 0, 8⟩
def CAL_STORE_INTERVAL_S_S : Fld := ⟨10, 0x064, 0, 0, 16⟩
def CAL_RAIL_PORTS_PORTS : Fld := ⟨10, 0x068, 4, 0, 16⟩
def CAL_IFS_UA_UA : Fld := ⟨10, 0x080, 4, 0, 24⟩
def CAL_APPLY_APPLY : Fld := ⟨10, 0x0C0, 0, 0, 1⟩
def CAL_LAST_RESULT_CHANNEL : Fld := ⟨10, 0x0C4, 0, 0, 5⟩
def CAL_LAST_RESULT_STEP : Fld := ⟨10, 0x0C4, 0, 5, 3⟩
def CAL_LAST_RESULT_REASON : Fld := ⟨10, 0x0C4, 0, 8, 4⟩
def CAL_LAST_VALUE_VALUE : Fld := ⟨10, 0x0C8, 0, 0, 16⟩
def CAL_LAST_VALUE_ICPT : Fld := ⟨10, 0x0C8, 0, 16, 16⟩
def CAL_LAST_VAR_MA2 : Fld := ⟨10, 0x0CC, 0, 0, 32⟩
def CAL_LAST_RESID_RESID : Fld := ⟨10, 0x0D0, 0, 0, 32⟩
def CAL_NVM_GEN_GEN : Fld := ⟨10, 0x0D4, 0, 0, 32⟩
def CAL_STORE_COUNT_COUNT : Fld := ⟨10, 0x0D8, 0, 0, 32⟩
def CAL_PATH_OFF_PO : Fld := ⟨10, 0x100, 4, 0, 16⟩
def CAL_BOARD_BO : Fld := ⟨10, 0x180, 4, 0, 16⟩
def CAL_BOARD_BG : Fld := ⟨10, 0x180, 4, 16, 16⟩
def CAL_SET_PATH_PO : Fld := ⟨10, 0x200, 4, 0, 16⟩
def CAL_SET_BOARD_BO : Fld := ⟨10, 0x400, 4, 0, 16⟩
def CAL_SET_BOARD_BG : Fld := ⟨10, 0x400, 4, 16, 16⟩
def SENSE_CTRL_EN : Fld := ⟨11, 0x008, 0, 0, 1⟩
def SENSE_CTRL_STREAM_EN : Fld := ⟨11, 0x008, 0, 1, 1⟩
def SENSE_STATUS_STANDIN_FOR : Fld := ⟨11, 0x00C, 0, 0, 5⟩
def SENSE_AVG_CFG_THERM : Fld := ⟨11, 0x040, 0, 0, 4⟩
def SENSE_AVG_CFG_VOLT : Fld := ⟨11, 0x040, 0, 4, 4⟩
def SENSE_AVG_CFG_CURR : Fld := ⟨11, 0x040, 0, 8, 4⟩
def SENSE_STREAM_MASK_CH : Fld := ⟨11, 0x044, 0, 0, 25⟩
def SENSE_STREAM_MASK_TRIG : Fld := ⟨11, 0x044, 0, 25, 1⟩
def SENSE_STREAM_DIV_DIV : Fld := ⟨11, 0x048, 0, 0, 16⟩
def SENSE_THERM_BETA_K : Fld := ⟨11, 0x04C, 0, 0, 16⟩
def SENSE_THERM_R25_OHM : Fld := ⟨11, 0x050, 0, 0, 24⟩
def SENSE_THERM_RSER_OHM : Fld := ⟨11, 0x054, 0, 0, 24⟩
def SENSE_FS_FS : Fld := ⟨11, 0x060, 4, 0, 24⟩
def SENSE_VALUE_VALUE : Fld := ⟨11, 0x080, 4, 0, 16⟩
def SENSE_VALUE_VALID : Fld := ⟨11, 0x080, 4, 16, 1⟩
def SENSE_VALUE_STANDIN : Fld := ⟨11, 0x080, 4, 17, 1⟩
def SENSE_DTS_T : Fld := ⟨11, 0x0E0, 4, 0, 16⟩
def SENSE_DTS_VALID : Fld := ⟨11, 0x0E0, 4, 16, 1⟩
def SENSE_LIMIT_LIMIT_LO : Fld := ⟨11, 0x100, 4, 0, 16⟩
def SENSE_LIMIT_LIMIT_HI : Fld := ⟨11, 0x100, 4, 16, 16⟩
def SENSE_TRIG_DROP_COUNT : Fld := ⟨11, 0x140, 0, 0, 32⟩
def KEY_CAPS_SLOTS : Fld := ⟨12, 0x004, 0, 0, 7⟩
def KEY_CAPS_BLOBS : Fld := ⟨12, 0x004, 0, 7, 6⟩
def KEY_CTRL_IMPORT_LOCK : Fld := ⟨12, 0x008, 0, 0, 1⟩
def KEY_STATUS_ROOT_STATE : Fld := ⟨12, 0x00C, 0, 0, 2⟩
def KEY_STATUS_TAMPER_ACTIVE : Fld := ⟨12, 0x00C, 0, 2, 1⟩
def KEY_STATUS_BUSY : Fld := ⟨12, 0x00C, 0, 3, 1⟩
def KEY_ROOT_EPOCH_EPOCH : Fld := ⟨12, 0x040, 0, 0, 32⟩
def KEY_TAMPER_CFG_TAMP0_EN : Fld := ⟨12, 0x044, 0, 0, 1⟩
def KEY_TAMPER_CFG_TAMP0_POL : Fld := ⟨12, 0x044, 0, 1, 1⟩
def KEY_TAMPER_CFG_TAMP1_EN : Fld := ⟨12, 0x044, 0, 2, 1⟩
def KEY_TAMPER_CFG_TAMP1_POL : Fld := ⟨12, 0x044, 0, 3, 1⟩
def KEY_TAMPER_CFG_TEMP_EN : Fld := ⟨12, 0x044, 0, 4, 1⟩
def KEY_TAMPER_CFG_GLITCH_EN : Fld := ⟨12, 0x044, 0, 5, 1⟩
def KEY_TAMPER_LOG_CAUSE : Fld := ⟨12, 0x048, 0, 0, 6⟩
def KEY_TAMPER_LOG_COUNT : Fld := ⟨12, 0x048, 0, 16, 16⟩
def KEY_ZEROIZE_GO : Fld := ⟨12, 0x04C, 0, 0, 1⟩
def KEY_ZEROIZE_CODE : Fld := ⟨12, 0x04C, 0, 16, 16⟩
def KEY_SLOT_CMD_SLOT : Fld := ⟨12, 0x050, 0, 0, 6⟩
def KEY_SLOT_CMD_OP : Fld := ⟨12, 0x050, 0, 8, 4⟩
def KEY_IMPORT_SLOT_SLOT : Fld := ⟨12, 0x060, 0, 0, 6⟩
def KEY_IMPORT_POLICY_POLICY : Fld := ⟨12, 0x064, 0, 0, 32⟩
def KEY_IMPORT_GO_GO : Fld := ⟨12, 0x068, 0, 0, 1⟩
def KEY_IMPORT_DATA_DATA : Fld := ⟨12, 0x080, 4, 0, 32⟩
def KEY_MEAS_DIGEST : Fld := ⟨12, 0x100, 4, 0, 32⟩
def KEY_MEAS_COUNT_COUNT : Fld := ⟨12, 0x180, 4, 0, 32⟩
def KEY_ID_PUB_KEY : Fld := ⟨12, 0x1C0, 4, 0, 32⟩
def KEY_SLOT_POLICY_POLICY : Fld := ⟨12, 0x400, 8, 0, 32⟩
def KEY_SLOT_STATE_STATE : Fld := ⟨12, 0x404, 8, 0, 2⟩
def KEY_SLOT_STATE_ORIGIN : Fld := ⟨12, 0x404, 8, 2, 2⟩
def KEY_SLOT_STATE_PARENT : Fld := ⟨12, 0x404, 8, 4, 7⟩
def KEY_SLOT_STATE_LOADED : Fld := ⟨12, 0x404, 8, 11, 1⟩
def KEY_SLOT_STATE_CLEAR_ANCESTRY : Fld := ⟨12, 0x404, 8, 12, 1⟩
def KEY_BLOB_STATE_A_VALID : Fld := ⟨12, 0x600, 4, 0, 1⟩
def KEY_BLOB_STATE_B_VALID : Fld := ⟨12, 0x600, 4, 1, 1⟩
def KEY_BLOB_STATE_NEWER : Fld := ⟨12, 0x600, 4, 2, 1⟩
def KEY_BLOB_STATE_GEN : Fld := ⟨12, 0x600, 4, 8, 24⟩
def SPEED_STATUS_CORNER : Fld := ⟨13, 0x00C, 0, 0, 1⟩
def SPEED_LIVE_PS_PS : Fld := ⟨13, 0x040, 4, 0, 16⟩
def SPEED_LIVE_PS_MEASURED : Fld := ⟨13, 0x040, 4, 16, 1⟩
def SPEED_WORST_PS_PS : Fld := ⟨13, 0x068, 0, 0, 16⟩
def SPEED_CORNER_PS_PS : Fld := ⟨13, 0x06C, 0, 0, 16⟩
def SPEED_T_ADM_PS_PS : Fld := ⟨13, 0x070, 0, 0, 16⟩
def SPEED_GUARD_GUARD : Fld := ⟨13, 0x074, 0, 0, 8⟩
def SPEED_WINDOW_INTERVALS : Fld := ⟨13, 0x078, 0, 0, 13⟩
def SPEED_VDDC_MV_MV : Fld := ⟨13, 0x07C, 0, 0, 16⟩
def SPEED_TJ_MAX_C : Fld := ⟨13, 0x080, 0, 0, 16⟩
def SPEED_AVS_CTRL_EN : Fld := ⟨13, 0x100, 0, 0, 1⟩
def SPEED_AVS_CTRL_HOLD : Fld := ⟨13, 0x100, 0, 1, 1⟩
def SPEED_AVS_LIMITS_VMIN_MV : Fld := ⟨13, 0x104, 0, 0, 10⟩
def SPEED_AVS_LIMITS_VMAX_MV : Fld := ⟨13, 0x104, 0, 16, 10⟩
def SPEED_AVS_STEP_STEP_MV : Fld := ⟨13, 0x108, 0, 0, 4⟩
def SPEED_AVS_STEP_PERIOD_MS : Fld := ⟨13, 0x108, 0, 4, 12⟩
def SPEED_AVS_STEP_SETTLE_US : Fld := ⟨13, 0x108, 0, 16, 16⟩
def SPEED_AVS_MARGIN_DOWN_PCT : Fld := ⟨13, 0x10C, 0, 0, 8⟩
def SPEED_AVS_MARGIN_UP_PCT : Fld := ⟨13, 0x10C, 0, 8, 8⟩
def SPEED_AVS_NOW_MV : Fld := ⟨13, 0x110, 0, 0, 10⟩
def SPEED_PMBUS_CFG_ADDR : Fld := ⟨13, 0x114, 0, 0, 7⟩
def SPEED_PMBUS_CFG_PAGE_EN : Fld := ⟨13, 0x114, 0, 7, 1⟩
def SPEED_PMBUS_CFG_PAGE : Fld := ⟨13, 0x114, 0, 8, 8⟩
def SPEED_PMBUS_CFG_RATE : Fld := ⟨13, 0x114, 0, 16, 2⟩
def SPEED_PMBUS_CFG_PEC : Fld := ⟨13, 0x114, 0, 18, 1⟩
def SPEED_AVS_COUNT_DOWN : Fld := ⟨13, 0x118, 0, 0, 16⟩
def SPEED_AVS_COUNT_UP : Fld := ⟨13, 0x118, 0, 16, 16⟩
def ENG_CAPS_SEGMENTS : Fld := ⟨16, 0x004, 0, 0, 8⟩
def ENG_CAPS_SEG_BUNDLES : Fld := ⟨16, 0x004, 0, 8, 16⟩
def ENG_CTRL_LAPREC_EN : Fld := ⟨16, 0x008, 0, 0, 1⟩
def ENG_CTRL_IMEM_RD_EN : Fld := ⟨16, 0x008, 0, 1, 1⟩
def ENG_STATUS_ROLE : Fld := ⟨16, 0x00C, 0, 0, 2⟩
def ENG_STATUS_SLOT : Fld := ⟨16, 0x00C, 0, 2, 3⟩
def ENG_STATUS_STATE : Fld := ⟨16, 0x00C, 0, 5, 3⟩
def ENG_STATUS_CODE_VALID : Fld := ⟨16, 0x00C, 0, 8, 1⟩
def ENG_LAP_NOW_LAP : Fld := ⟨16, 0x040, 0, 0, 13⟩
def ENG_FRAME_NOW_FRAME_LO : Fld := ⟨16, 0x044, 0, 0, 32⟩
def ENG_STEP_IN_LAP_STEPS : Fld := ⟨16, 0x048, 0, 0, 13⟩
def ENG_LAP_SAVE_A_ADDR : Fld := ⟨16, 0x04C, 0, 0, 23⟩
def ENG_LAP_SAVE_B_ADDR : Fld := ⟨16, 0x050, 0, 0, 23⟩
def ENG_FAULT_INFO_CODE : Fld := ⟨16, 0x054, 0, 0, 5⟩
def ENG_FAULT_INFO_ADDR : Fld := ⟨16, 0x054, 0, 5, 13⟩
def ENG_FAULT_INFO_SLOT : Fld := ⟨16, 0x054, 0, 18, 2⟩
def ENG_FAULT_LAP_LAP : Fld := ⟨16, 0x058, 0, 0, 13⟩
def ENG_FAULT_FRAME_FRAME_LO : Fld := ⟨16, 0x05C, 0, 0, 32⟩
def ENG_STEPS_LO_COUNT : Fld := ⟨16, 0x060, 0, 0, 32⟩
def ENG_STEPS_HI_COUNT : Fld := ⟨16, 0x064, 0, 0, 32⟩
def ENG_PAD_STEPS_COUNT : Fld := ⟨16, 0x068, 0, 0, 32⟩
def ENG_IMEM_CORR_COUNT : Fld := ⟨16, 0x06C, 0, 0, 32⟩
def ENG_SEG_MAP_SEG : Fld := ⟨16, 0x070, 0, 0, 2⟩
def ENG_SEG_MAP_SEG_OK : Fld := ⟨16, 0x070, 0, 4, 4⟩
def ENG_IMEM_ADDR_ADDR : Fld := ⟨16, 0x080, 0, 0, 15⟩
def ENG_IMEM_DATA_DATA : Fld := ⟨16, 0x084, 4, 0, 32⟩
def BANK_CAPS_ROWS : Fld := ⟨32, 0x004, 0, 0, 16⟩
def BANK_CAPS_SPARES : Fld := ⟨32, 0x004, 0, 16, 8⟩
def BANK_CTRL_HOST_PEEK : Fld := ⟨32, 0x008, 0, 0, 1⟩
def BANK_CTRL_SCRUB_EN : Fld := ⟨32, 0x008, 0, 1, 1⟩
def BANK_CTRL_PLAN_REC_EN : Fld := ⟨32, 0x008, 0, 2, 1⟩
def BANK_STATUS_MODE : Fld := ⟨32, 0x00C, 0, 0, 2⟩
def BANK_STATUS_SPARES_FREE : Fld := ⟨32, 0x00C, 0, 2, 5⟩
def BANK_STATUS_PLAN_BANK : Fld := ⟨32, 0x00C, 0, 7, 1⟩
def BANK_OWNER_HOLDER : Fld := ⟨32, 0x02C, 0, 0, 2⟩
def BANK_OWNER_CODE : Fld := ⟨32, 0x02C, 0, 8, 8⟩
def BANK_NEXT_OWNER_CODE : Fld := ⟨32, 0x040, 0, 0, 8⟩
def BANK_ECC_CORR_COUNT_COUNT : Fld := ⟨32, 0x044, 0, 0, 32⟩
def BANK_ECC_UNCORR_COUNT_COUNT : Fld := ⟨32, 0x048, 0, 0, 32⟩
def BANK_ECC_ADDR_OFFSET : Fld := ⟨32, 0x04C, 0, 0, 18⟩
def BANK_ECC_ADDR_UNCORR : Fld := ⟨32, 0x04C, 0, 18, 1⟩
def BANK_WCOLL_COUNT_COUNT : Fld := ⟨32, 0x050, 0, 0, 32⟩
def BANK_WCOLL_ADDR_OFFSET : Fld := ⟨32, 0x054, 0, 0, 18⟩
def BANK_WCOLL_ADDR_CLASS : Fld := ⟨32, 0x054, 0, 18, 4⟩
def BANK_FOREIGN_COUNT_COUNT : Fld := ⟨32, 0x058, 0, 0, 32⟩
def BANK_BUSY_COUNT_COUNT : Fld := ⟨32, 0x05C, 0, 0, 32⟩
def BANK_BUSY_INFO_OFFSET : Fld := ⟨32, 0x060, 0, 0, 18⟩
def BANK_BUSY_INFO_LATER : Fld := ⟨32, 0x060, 0, 18, 1⟩
def BANK_BORROW_SEGMENT : Fld := ⟨32, 0x064, 0, 0, 6⟩
def BANK_BORROW_ACTIVE : Fld := ⟨32, 0x064, 0, 6, 1⟩
def BANK_STALL_MAX_NS_NS : Fld := ⟨32, 0x068, 0, 0, 16⟩
def BANK_SCRUB_ROW_ROW : Fld := ⟨32, 0x06C, 0, 0, 12⟩
def BANK_SPARE_MAP_ROW : Fld := ⟨32, 0x080, 4, 0, 12⟩
def BANK_SPARE_MAP_USED : Fld := ⟨32, 0x080, 4, 12, 1⟩
def BANK_SPARE_MAP_GOOD : Fld := ⟨32, 0x080, 4, 13, 1⟩
def BANK_SPARE_MAP_RETIRED : Fld := ⟨32, 0x080, 4, 14, 1⟩
def FIFO_CAPS_HEAD_WORDS : Fld := ⟨64, 0x004, 0, 0, 8⟩
def FIFO_CAPS_TAIL_WORDS : Fld := ⟨64, 0x004, 0, 8, 8⟩
def FIFO_CAPS_USE : Fld := ⟨64, 0x004, 0, 16, 4⟩
def FIFO_CTRL_FLUSH : Fld := ⟨64, 0x008, 0, 0, 1⟩
def FIFO_CTRL_FLUSH_AND_HOLD : Fld := ⟨64, 0x008, 0, 1, 1⟩
def FIFO_CTRL_OPEN : Fld := ⟨64, 0x008, 0, 2, 1⟩
def FIFO_CTRL_MARK_SET : Fld := ⟨64, 0x008, 0, 3, 1⟩
def FIFO_CTRL_REWIND : Fld := ⟨64, 0x008, 0, 4, 1⟩
def FIFO_CTRL_MARK_CLEAR : Fld := ⟨64, 0x008, 0, 5, 1⟩
def FIFO_CTRL_RETAIN : Fld := ⟨64, 0x008, 0, 6, 1⟩
def FIFO_STATUS_EMPTY : Fld := ⟨64, 0x00C, 0, 0, 1⟩
def FIFO_STATUS_FULL : Fld := ⟨64, 0x00C, 0, 1, 1⟩
def FIFO_STATUS_HELD : Fld := ⟨64, 0x00C, 0, 2, 1⟩
def FIFO_STATUS_MARK_VALID : Fld := ⟨64, 0x00C, 0, 3, 1⟩
def FIFO_STATUS_MARK_LOST : Fld := ⟨64, 0x00C, 0, 4, 1⟩
def FIFO_STATUS_DROPPING : Fld := ⟨64, 0x00C, 0, 5, 1⟩
def FIFO_STATUS_RING : Fld := ⟨64, 0x00C, 0, 6, 1⟩
def FIFO_BIND_PROD : Fld := ⟨64, 0x040, 0, 0, 4⟩
def FIFO_BIND_CONS : Fld := ⟨64, 0x040, 0, 4, 4⟩
def FIFO_BIND_DEV_PAGE : Fld := ⟨64, 0x040, 0, 8, 10⟩
def FIFO_RING_BASE_LO_BASE : Fld := ⟨64, 0x044, 0, 16, 16⟩
def FIFO_RING_BASE_HI_BASE : Fld := ⟨64, 0x048, 0, 0, 8⟩
def FIFO_RING_SIZE_LOG2 : Fld := ⟨64, 0x04C, 0, 0, 5⟩
def FIFO_LEVEL_WORDS : Fld := ⟨64, 0x050, 0, 0, 32⟩
def FIFO_SPACE_WORDS : Fld := ⟨64, 0x054, 0, 0, 32⟩
def FIFO_RETAINED_WORDS : Fld := ⟨64, 0x058, 0, 0, 32⟩
def FIFO_RD_POS_POS : Fld := ⟨64, 0x05C, 0, 0, 32⟩
def FIFO_WR_POS_POS : Fld := ⟨64, 0x060, 0, 0, 32⟩
def FIFO_MARK_POS_POS : Fld := ⟨64, 0x064, 0, 0, 32⟩
def FIFO_IDLE_TIMEOUT_US : Fld := ⟨64, 0x068, 0, 0, 20⟩
def FIFO_PUSH_STALL_LIMIT_US : Fld := ⟨64, 0x06C, 0, 0, 14⟩
def FIFO_PUSH_DROP_COUNT_COUNT : Fld := ⟨64, 0x070, 0, 0, 32⟩
def FIFO_DEV_DROP_COUNT_COUNT : Fld := ⟨64, 0x074, 0, 0, 32⟩
def FIFO_UNDERRUN_COUNT_COUNT : Fld := ⟨64, 0x078, 0, 0, 32⟩
def FIFO_POISON_COUNT_COUNT : Fld := ⟨64, 0x07C, 0, 0, 32⟩
def FIFO_FLUSH_WORDS_WORDS : Fld := ⟨64, 0x080, 0, 0, 32⟩
def FIFO_PUSH_WIN_DATA : Fld := ⟨64, 0x100, 4, 0, 32⟩
def FIFO_POP_LO_DATA : Fld := ⟨64, 0x140, 0, 0, 32⟩
def FIFO_POP_HI_DATA : Fld := ⟨64, 0x144, 0, 0, 32⟩
def FIFO_PEEK_LO_DATA : Fld := ⟨64, 0x148, 0, 0, 32⟩
def FIFO_PEEK_HI_DATA : Fld := ⟨64, 0x14C, 0, 0, 32⟩
def FIFO_LAST_ACCEPTED_SEQ : Fld := ⟨64, 0x180, 0, 0, 32⟩
def FIFO_LAST_EXECUTED_SEQ : Fld := ⟨64, 0x184, 0, 0, 32⟩
def FIFO_CMD_BAD_WORDS_COUNT : Fld := ⟨64, 0x188, 0, 0, 32⟩
def FIFO_EVT_NEXT_SEQ_SEQ : Fld := ⟨64, 0x1A0, 0, 0, 32⟩
def FIFO_EVT_HELD_RECORDS : Fld := ⟨64, 0x1A4, 0, 0, 7⟩
def NET_CAPS_MODES : Fld := ⟨80, 0x004, 0, 0, 5⟩
def NET_CAPS_RXQ : Fld := ⟨80, 0x004, 0, 5, 4⟩
def NET_CAPS_FILTERS : Fld := ⟨80, 0x004, 0, 9, 6⟩
def NET_CAPS_TXR : Fld := ⟨80, 0x004, 0, 15, 3⟩
def NET_CTRL_MODE : Fld := ⟨80, 0x008, 0, 0, 3⟩
def NET_CTRL_AN_EN : Fld := ⟨80, 0x008, 0, 3, 1⟩
def NET_CTRL_FEC : Fld := ⟨80, 0x008, 0, 4, 2⟩
def NET_STATUS_LINK : Fld := ⟨80, 0x00C, 0, 0, 1⟩
def NET_STATUS_SPEED : Fld := ⟨80, 0x00C, 0, 1, 2⟩
def NET_STATUS_PAUSED : Fld := ⟨80, 0x00C, 0, 3, 1⟩
def NET_STATUS_PAUSE_HOLDOFF : Fld := ⟨80, 0x00C, 0, 4, 1⟩
def NET_STATUS_TX_LPI : Fld := ⟨80, 0x00C, 0, 5, 1⟩
def NET_STATUS_RX_LPI : Fld := ⟨80, 0x00C, 0, 6, 1⟩
def NET_MAX_LEN_BYTES : Fld := ⟨80, 0x040, 0, 0, 14⟩
def NET_RX_DEFAULT_QUEUE : Fld := ⟨80, 0x044, 0, 0, 3⟩
def NET_RX_DEFAULT_DROP : Fld := ⟨80, 0x044, 0, 3, 1⟩
def NET_TS_ADJ_TX_PS_PS : Fld := ⟨80, 0x048, 0, 0, 32⟩
def NET_TS_ADJ_RX_PS_PS : Fld := ⟨80, 0x04C, 0, 0, 32⟩
def NET_PAUSE_CFG_HONOUR : Fld := ⟨80, 0x050, 0, 0, 1⟩
def NET_PAUSE_CFG_WD_EN : Fld := ⟨80, 0x050, 0, 1, 1⟩
def NET_PAUSE_WD_US_US : Fld := ⟨80, 0x054, 0, 0, 24⟩
def NET_PAUSE_HOLDOFF_US_US : Fld := ⟨80, 0x058, 0, 0, 24⟩
def NET_LPI_CFG_EN : Fld := ⟨80, 0x05C, 0, 0, 1⟩
def NET_LPI_CFG_IDLE_US : Fld := ⟨80, 0x05C, 0, 16, 16⟩
def NET_LPI_WAKE_NS_NS : Fld := ⟨80, 0x060, 0, 0, 20⟩
def NET_TXBUF_PACED_KIB : Fld := ⟨80, 0x064, 0, 0, 9⟩
def NET_TSQ_LEVEL_ENTRIES : Fld := ⟨80, 0x068, 0, 0, 7⟩
def NET_TSQ_0_ST32 : Fld := ⟨80, 0x06C, 0, 0, 32⟩
def NET_TSQ_1_FRAC : Fld := ⟨80, 0x070, 0, 0, 16⟩
def NET_TSQ_1_TS_ID : Fld := ⟨80, 0x070, 0, 16, 16⟩
def NET_TSQ_2_KIND : Fld := ⟨80, 0x074, 0, 0, 2⟩
def NET_TSQ_2_LOST : Fld := ⟨80, 0x074, 0, 16, 16⟩
def NET_MAC_ADDR_LO_ADDR : Fld := ⟨80, 0x078, 0, 0, 32⟩
def NET_MAC_ADDR_HI_ADDR : Fld := ⟨80, 0x07C, 0, 0, 16⟩
def NET_IPV4_ADDR_ADDR : Fld := ⟨80, 0x080, 0, 0, 32⟩
def NET_RX_FRAMES_COUNT : Fld := ⟨80, 0x084, 0, 0, 32⟩
def NET_RX_RUNT_COUNT : Fld := ⟨80, 0x088, 0, 0, 32⟩
def NET_RX_FCS_BAD_COUNT : Fld := ⟨80, 0x08C, 0, 0, 32⟩
def NET_RX_TRUNC_COUNT : Fld := ⟨80, 0x090, 0, 0, 32⟩
def NET_RX_NOMATCH_COUNT : Fld := ⟨80, 0x094, 0, 0, 32⟩
def NET_RX_MACCTL_COUNT : Fld := ⟨80, 0x098, 0, 0, 32⟩
def NET_RX_OVF_COUNT : Fld := ⟨80, 0x09C, 0, 0, 32⟩
def NET_TX_FRAMES_COUNT : Fld := ⟨80, 0x0A0, 0, 0, 32⟩
def NET_TX_DOWN_DROP_COUNT : Fld := ⟨80, 0x0A4, 0, 0, 32⟩
def NET_PAUSE_RX_COUNT : Fld := ⟨80, 0x0A8, 0, 0, 32⟩
def NET_PAUSE_IGNORED_COUNT : Fld := ⟨80, 0x0AC, 0, 0, 32⟩
def NET_PACED_LATE_COUNT_COUNT : Fld := ⟨80, 0x0B0, 0, 0, 32⟩
def NET_TS_LOST_COUNT_COUNT : Fld := ⟨80, 0x0B4, 0, 0, 32⟩
def NET_RXQ_CFG_CONSUMER : Fld := ⟨80, 0x200, 32, 0, 2⟩
def NET_RXQ_CFG_KEEP_BAD : Fld := ⟨80, 0x200, 32, 2, 1⟩
def NET_RXQ_CFG_NOTIFY : Fld := ⟨80, 0x200, 32, 3, 1⟩
def NET_RXQ_CFG_DATA_LOG2 : Fld := ⟨80, 0x200, 32, 4, 5⟩
def NET_RXQ_CFG_CPL_LOG2 : Fld := ⟨80, 0x200, 32, 9, 5⟩
def NET_RXQ_DATA_BASE_BASE : Fld := ⟨80, 0x204, 32, 0, 28⟩
def NET_RXQ_CPL_BASE_BASE : Fld := ⟨80, 0x208, 32, 0, 28⟩
def NET_RXQ_DATA_HEAD_OFF : Fld := ⟨80, 0x20C, 32, 0, 28⟩
def NET_RXQ_CPL_HEAD_INDEX : Fld := ⟨80, 0x210, 32, 0, 22⟩
def NET_RXQ_DATA_TAIL_OFF : Fld := ⟨80, 0x214, 32, 0, 28⟩
def NET_RXQ_CPL_TAIL_INDEX : Fld := ⟨80, 0x218, 32, 0, 22⟩
def NET_RX_QDROP_COUNT : Fld := ⟨80, 0x21C, 32, 0, 32⟩
def NET_TXR_BASE_BASE : Fld := ⟨80, 0x300, 16, 0, 28⟩
def NET_TXR_CFG_EN : Fld := ⟨80, 0x304, 16, 0, 1⟩
def NET_TXR_CFG_LOG2 : Fld := ⟨80, 0x304, 16, 1, 5⟩
def NET_TXR_TAIL_INDEX : Fld := ⟨80, 0x308, 16, 0, 16⟩
def NET_TXR_HEAD_INDEX : Fld := ⟨80, 0x30C, 16, 0, 16⟩
def NET_FLT_MATCH_EN : Fld := ⟨80, 0x400, 16, 0, 1⟩
def NET_FLT_MATCH_VLAN_MODE : Fld := ⟨80, 0x400, 16, 1, 2⟩
def NET_FLT_MATCH_VID : Fld := ⟨80, 0x400, 16, 3, 12⟩
def NET_FLT_MATCH_PCP : Fld := ⟨80, 0x400, 16, 15, 3⟩
def NET_FLT_MATCH_PCP_EN : Fld := ⟨80, 0x400, 16, 18, 1⟩
def NET_FLT_MATCH_ETYPE_EN : Fld := ⟨80, 0x400, 16, 19, 1⟩
def NET_FLT_MATCH_IP_EN : Fld := ⟨80, 0x400, 16, 20, 1⟩
def NET_FLT_MATCH_UDP_EN : Fld := ⟨80, 0x400, 16, 21, 1⟩
def NET_FLT_MATCH_IP_PREFIX : Fld := ⟨80, 0x400, 16, 22, 6⟩
def NET_FLT_IP_IP_DST : Fld := ⟨80, 0x404, 16, 0, 32⟩
def NET_FLT_PORTS_ETYPE : Fld := ⟨80, 0x408, 16, 0, 16⟩
def NET_FLT_PORTS_UDP_DPORT : Fld := ⟨80, 0x408, 16, 16, 16⟩
def NET_FLT_ACT_QUEUE : Fld := ⟨80, 0x40C, 16, 0, 3⟩
def NET_FLT_ACT_DROP : Fld := ⟨80, 0x40C, 16, 3, 1⟩
def NET_FLT_ACT_FLOW : Fld := ⟨80, 0x40C, 16, 4, 8⟩
def NET_FLT_HITS_COUNT : Fld := ⟨80, 0x600, 4, 0, 32⟩
def FLOW_CAPS_CONTEXTS : Fld := ⟨88, 0x004, 0, 0, 9⟩
def FLOW_STRAY_COUNT_COUNT : Fld := ⟨88, 0x040, 0, 0, 32⟩
def FLOW_FLOW_CFG_TYPE : Fld := ⟨88, 0x400, 8, 0, 4⟩
def FLOW_FLOW_CFG_UNIT : Fld := ⟨88, 0x400, 8, 4, 3⟩
def FLOW_FLOW_CFG_PAIR : Fld := ⟨88, 0x400, 8, 7, 1⟩
def FLOW_FLOW_CFG_PORT : Fld := ⟨88, 0x400, 8, 8, 2⟩
def FLOW_FLOW_CFG_UNIV_COUNT_M1 : Fld := ⟨88, 0x400, 8, 10, 6⟩
def FLOW_FLOW_CFG_PRIO : Fld := ⟨88, 0x400, 8, 16, 8⟩
def FLOW_FLOW_ARG_UNIV_FIRST : Fld := ⟨88, 0x404, 8, 0, 16⟩
def FLOW_FLOW_PKTS_COUNT : Fld := ⟨88, 0xC00, 4, 0, 32⟩
def INGEST_CTRL_EN : Fld := ⟨96, 0x008, 0, 0, 1⟩
def INGEST_CTRL_SSRC_EN : Fld := ⟨96, 0x008, 0, 1, 1⟩
def INGEST_STATUS_SEL : Fld := ⟨96, 0x00C, 0, 0, 2⟩
def INGEST_STATUS_WRITE : Fld := ⟨96, 0x00C, 0, 2, 2⟩
def INGEST_STATUS_WRITING : Fld := ⟨96, 0x00C, 0, 4, 1⟩
def INGEST_FORMAT_FMT : Fld := ⟨96, 0x040, 0, 0, 3⟩
def INGEST_FORMAT_PT : Fld := ⟨96, 0x040, 0, 8, 7⟩
def INGEST_SIZE_WIDTH : Fld := ⟨96, 0x044, 0, 0, 13⟩
def INGEST_SIZE_HEIGHT : Fld := ⟨96, 0x044, 0, 16, 12⟩
def INGEST_RATE_NUM : Fld := ⟨96, 0x048, 0, 0, 20⟩
def INGEST_RATE_DEN : Fld := ⟨96, 0x048, 0, 20, 12⟩
def INGEST_PLANE_BASE_LO_BASE : Fld := ⟨96, 0x04C, 0, 12, 20⟩
def INGEST_PLANE_BASE_HI_BASE : Fld := ⟨96, 0x050, 0, 0, 8⟩
def INGEST_PLANE_STRIDE_PAGES : Fld := ⟨96, 0x054, 0, 0, 20⟩
def INGEST_PITCH_BYTES : Fld := ⟨96, 0x058, 0, 0, 16⟩
def INGEST_CHROMA_OFF_PAGES : Fld := ⟨96, 0x05C, 0, 0, 20⟩
def INGEST_PLANE_COUNT_COUNT : Fld := ⟨96, 0x060, 0, 0, 3⟩
def INGEST_SSRC_SSRC : Fld := ⟨96, 0x064, 0, 0, 32⟩
def INGEST_FRAMES_COUNT : Fld := ⟨96, 0x080, 0, 0, 32⟩
def INGEST_REPEAT_COUNT_COUNT : Fld := ⟨96, 0x084, 0, 0, 32⟩
def INGEST_OVERWRITE_COUNT_COUNT : Fld := ⟨96, 0x088, 0, 0, 32⟩
def INGEST_DISCARD_COUNT_COUNT : Fld := ⟨96, 0x08C, 0, 0, 32⟩
def INGEST_DUP_COUNT_COUNT : Fld := ⟨96, 0x090, 0, 0, 32⟩
def INGEST_LATE_PKT_COUNT : Fld := ⟨96, 0x094, 0, 0, 32⟩
def INGEST_MISSING_COUNT : Fld := ⟨96, 0x098, 0, 0, 32⟩
def INGEST_BAD_PKT_COUNT : Fld := ⟨96, 0x09C, 0, 0, 32⟩
def INGEST_TRUNC_DROP_COUNT : Fld := ⟨96, 0x0A0, 0, 0, 32⟩
def INGEST_MARKER_LOST_COUNT : Fld := ⟨96, 0x0A4, 0, 0, 32⟩
def INGEST_STRIPE_LATE_COUNT : Fld := ⟨96, 0x0A8, 0, 0, 32⟩
def INGEST_PLANE_STAT_STATE : Fld := ⟨96, 0x0C0, 8, 0, 2⟩
def INGEST_PLANE_STAT_INCOMPLETE : Fld := ⟨96, 0x0C0, 8, 2, 1⟩
def INGEST_PLANE_STAT_MARKER_LOST : Fld := ⟨96, 0x0C0, 8, 3, 1⟩
def INGEST_PLANE_DONE_ST32 : Fld := ⟨96, 0x0C4, 8, 0, 32⟩
def EGRESS_CTRL_EN : Fld := ⟨104, 0x008, 0, 0, 1⟩
def EGRESS_STATUS_SENDING : Fld := ⟨104, 0x00C, 0, 0, 1⟩
def EGRESS_FORMAT_FMT : Fld := ⟨104, 0x040, 0, 0, 3⟩
def EGRESS_FORMAT_SRC : Fld := ⟨104, 0x040, 0, 4, 2⟩
def EGRESS_SIZE_WIDTH : Fld := ⟨104, 0x044, 0, 0, 13⟩
def EGRESS_SIZE_HEIGHT : Fld := ⟨104, 0x044, 0, 16, 12⟩
def EGRESS_PITCH_BYTES : Fld := ⟨104, 0x048, 0, 0, 16⟩
def EGRESS_CHROMA_OFF_PAGES : Fld := ⟨104, 0x04C, 0, 0, 20⟩
def EGRESS_TEMPLATE_LO_ADDR : Fld := ⟨104, 0x050, 0, 0, 32⟩
def EGRESS_TEMPLATE_HI_ADDR : Fld := ⟨104, 0x054, 0, 0, 8⟩
def EGRESS_TX_PORT : Fld := ⟨104, 0x058, 0, 0, 2⟩
def EGRESS_TX_PAIR : Fld := ⟨104, 0x058, 0, 2, 1⟩
def EGRESS_TX_SPAN : Fld := ⟨104, 0x058, 0, 3, 1⟩
def EGRESS_TX_UDP_CSUM : Fld := ⟨104, 0x058, 0, 4, 1⟩
def EGRESS_TX_HDR_LEN : Fld := ⟨104, 0x058, 0, 8, 8⟩
def EGRESS_TX_SEG_PAYLOAD : Fld := ⟨104, 0x058, 0, 16, 14⟩
def EGRESS_TRO_NS_NS : Fld := ⟨104, 0x05C, 0, 0, 32⟩
def EGRESS_ACTIVE_NUM : Fld := ⟨104, 0x060, 0, 0, 16⟩
def EGRESS_ACTIVE_DEN : Fld := ⟨104, 0x060, 0, 16, 16⟩
def EGRESS_TS_OFFSET_TICKS : Fld := ⟨104, 0x064, 0, 0, 32⟩
def EGRESS_SEQ32_SEQ : Fld := ⟨104, 0x068, 0, 0, 32⟩
def EGRESS_PACKETS_N : Fld := ⟨104, 0x06C, 0, 0, 24⟩
def EGRESS_TRS_PS_PS : Fld := ⟨104, 0x070, 0, 0, 32⟩
def EGRESS_FRAMES_SENT_COUNT : Fld := ⟨104, 0x074, 0, 0, 32⟩
def EGRESS_FRAMES_SKIPPED_COUNT : Fld := ⟨104, 0x078, 0, 0, 32⟩
def SACN_CID_CID : Fld := ⟨112, 0x040, 4, 0, 32⟩
def SACN_NAME_NAME : Fld := ⟨112, 0x050, 4, 0, 32⟩
def SACN_TX_CFG_TTL : Fld := ⟨112, 0x090, 0, 0, 8⟩
def SACN_TX_CFG_DSCP : Fld := ⟨112, 0x090, 0, 8, 6⟩
def SACN_TX_CFG_VLAN_EN : Fld := ⟨112, 0x090, 0, 14, 1⟩
def SACN_TX_CFG_VID : Fld := ⟨112, 0x090, 0, 15, 12⟩
def SACN_TX_CFG_PCP : Fld := ⟨112, 0x090, 0, 27, 3⟩
def SACN_SPACING_NS_NS : Fld := ⟨112, 0x094, 0, 0, 16⟩
def SACN_KEEPALIVE_MS_MS : Fld := ⟨112, 0x098, 0, 0, 12⟩
def SACN_RX_CFG_MERGE : Fld := ⟨112, 0x09C, 0, 0, 1⟩
def SACN_RX_CFG_LOSS : Fld := ⟨112, 0x09C, 0, 1, 1⟩
def SACN_RX_CFG_LOSS_MS : Fld := ⟨112, 0x09C, 0, 16, 12⟩
def SACN_RX_BASE_LO_ADDR : Fld := ⟨112, 0x0A0, 0, 0, 32⟩
def SACN_RX_BASE_HI_ADDR : Fld := ⟨112, 0x0A4, 0, 0, 8⟩
def SACN_RX_SET_BYTES_BYTES : Fld := ⟨112, 0x0A8, 0, 0, 32⟩
def SACN_STATE_LO_ADDR : Fld := ⟨112, 0x0AC, 0, 0, 32⟩
def SACN_STATE_HI_ADDR : Fld := ⟨112, 0x0B0, 0, 0, 8⟩
def SACN_RX_PKTS_COUNT : Fld := ⟨112, 0x0C0, 0, 0, 32⟩
def SACN_RX_BAD_COUNT : Fld := ⟨112, 0x0C4, 0, 0, 32⟩
def SACN_RX_OTHER_COUNT : Fld := ⟨112, 0x0C8, 0, 0, 32⟩
def SACN_RX_SEQ_DROP_COUNT : Fld := ⟨112, 0x0CC, 0, 0, 32⟩
def SACN_SRC_FULL_COUNT : Fld := ⟨112, 0x0D0, 0, 0, 32⟩
def SACN_TX_PKTS_COUNT : Fld := ⟨112, 0x0D4, 0, 0, 32⟩
def SACN_TX_KEEPALIVE_COUNT : Fld := ⟨112, 0x0D8, 0, 0, 32⟩
def SACN_TX_TERMINATED_COUNT : Fld := ⟨112, 0x0DC, 0, 0, 32⟩
def DMX_CTRL_ROLE : Fld := ⟨128, 0x008, 0, 0, 2⟩
def DMX_STATUS_LINE_BUSY : Fld := ⟨128, 0x00C, 0, 0, 1⟩
def DMX_STATUS_RDM_ACTIVE : Fld := ⟨128, 0x00C, 0, 1, 1⟩
def DMX_STATUS_RX_VALID : Fld := ⟨128, 0x00C, 0, 2, 1⟩
def DMX_STATUS_MUTED : Fld := ⟨128, 0x00C, 0, 3, 1⟩
def DMX_TX_TIMING_BREAK_US : Fld := ⟨128, 0x040, 0, 0, 10⟩
def DMX_TX_TIMING_MAB_US : Fld := ⟨128, 0x040, 0, 10, 10⟩
def DMX_TX_TIMING_MTBS_US : Fld := ⟨128, 0x040, 0, 20, 7⟩
def DMX_TX_CFG_DIV_M1 : Fld := ⟨128, 0x044, 0, 0, 4⟩
def DMX_TX_CFG_PHASE : Fld := ⟨128, 0x044, 0, 4, 4⟩
def DMX_TX_CFG_START_CODE : Fld := ⟨128, 0x044, 0, 8, 8⟩
def DMX_RESP_WAIT_US_US : Fld := ⟨128, 0x048, 0, 0, 12⟩
def DMX_RESP_MAX_US_US : Fld := ⟨128, 0x04C, 0, 0, 16⟩
def DMX_UID_LO_UID : Fld := ⟨128, 0x050, 0, 0, 32⟩
def DMX_UID_HI_UID : Fld := ⟨128, 0x054, 0, 0, 16⟩
def DMX_RESP_CFG_TURN_US : Fld := ⟨128, 0x058, 0, 0, 11⟩
def DMX_RESP_CFG_ACK_TIMER : Fld := ⟨128, 0x058, 0, 16, 16⟩
def DMX_RX_BASE_LO_ADDR : Fld := ⟨128, 0x05C, 0, 0, 32⟩
def DMX_RX_BASE_HI_ADDR : Fld := ⟨128, 0x060, 0, 0, 8⟩
def DMX_QMSG_ADDR_LO_ADDR : Fld := ⟨128, 0x064, 0, 0, 32⟩
def DMX_QMSG_ADDR_HI_ADDR : Fld := ⟨128, 0x068, 0, 0, 8⟩
def DMX_QMSG_PUSH_LEN : Fld := ⟨128, 0x06C, 0, 0, 9⟩
def DMX_QMSG_LEVEL_COUNT : Fld := ⟨128, 0x070, 0, 0, 4⟩
def DMX_TX_PACKETS_COUNT : Fld := ⟨128, 0x080, 0, 0, 32⟩
def DMX_SKIP_BUSY_COUNT : Fld := ⟨128, 0x084, 0, 0, 32⟩
def DMX_RDM_TX_COUNT : Fld := ⟨128, 0x088, 0, 0, 32⟩
def DMX_RDM_FAILED_COUNT : Fld := ⟨128, 0x08C, 0, 0, 32⟩
def DMX_RX_PACKETS_COUNT : Fld := ⟨128, 0x090, 0, 0, 32⟩
def DMX_RX_BAD_COUNT : Fld := ⟨128, 0x094, 0, 0, 32⟩
def DMX_RX_OTHER_COUNT : Fld := ⟨128, 0x098, 0, 0, 32⟩
def SCAN_CAPS_LANES : Fld := ⟨144, 0x004, 0, 0, 4⟩
def SCAN_CAPS_LINES : Fld := ⟨144, 0x004, 0, 4, 7⟩
def SCAN_CAPS_B_MODE : Fld := ⟨144, 0x004, 0, 11, 1⟩
def SCAN_CTRL_EN : Fld := ⟨144, 0x008, 0, 0, 1⟩
def SCAN_CTRL_FLIP_REC_EN : Fld := ⟨144, 0x008, 0, 1, 1⟩
def SCAN_STATUS_STATE : Fld := ⟨144, 0x00C, 0, 0, 3⟩
def SCAN_STATUS_ECLIPSE : Fld := ⟨144, 0x00C, 0, 3, 1⟩
def SCAN_STATUS_FETCH : Fld := ⟨144, 0x00C, 0, 4, 1⟩
def SCAN_STATUS_LOWERED : Fld := ⟨144, 0x00C, 0, 5, 1⟩
def SCAN_MODE_DRIVE : Fld := ⟨144, 0x040, 0, 0, 1⟩
def SCAN_MODE_LOCK : Fld := ⟨144, 0x040, 0, 1, 1⟩
def SCAN_MODE_SOURCE : Fld := ⟨144, 0x040, 0, 2, 1⟩
def SCAN_MODE_LANES_M1 : Fld := ⟨144, 0x040, 0, 3, 3⟩
def SCAN_MODE_LINES_M1 : Fld := ⟨144, 0x040, 0, 6, 6⟩
def SCAN_MODE_ROW_SERIAL : Fld := ⟨144, 0x040, 0, 12, 1⟩
def SCAN_PASSES_PASSES : Fld := ⟨144, 0x044, 0, 0, 12⟩
def SCAN_SCLK_SCLK_HALF : Fld := ⟨144, 0x048, 0, 0, 8⟩
def SCAN_LINE_ECLIPSE_TICKS : Fld := ⟨144, 0x04C, 0, 0, 13⟩
def SCAN_LATCH_LEAD_NS_NS : Fld := ⟨144, 0x050, 0, 0, 23⟩
def SCAN_PHASE_NS_NS : Fld := ⟨144, 0x054, 0, 0, 26⟩
def SCAN_FREE_PERIOD_NS_NS : Fld := ⟨144, 0x058, 0, 0, 32⟩
def SCAN_GEOM_WIDTH : Fld := ⟨144, 0x05C, 0, 0, 14⟩
def SCAN_FORMAT_FMT : Fld := ⟨144, 0x060, 0, 0, 2⟩
def SCAN_FORMAT_MATRIX_EN : Fld := ⟨144, 0x060, 0, 2, 1⟩
def SCAN_PITCH_BYTES : Fld := ⟨144, 0x064, 0, 0, 16⟩
def SCAN_CHROMA_OFF_PAGES : Fld := ⟨144, 0x068, 0, 0, 20⟩
def SCAN_SRC_ORIGIN_X : Fld := ⟨144, 0x06C, 0, 0, 13⟩
def SCAN_SRC_ORIGIN_Y : Fld := ⟨144, 0x06C, 0, 16, 12⟩
def SCAN_FRAME_ADDR_LO_ADDR : Fld := ⟨144, 0x070, 0, 0, 32⟩
def SCAN_FRAME_ADDR_HI_ADDR : Fld := ⟨144, 0x074, 0, 0, 8⟩
def SCAN_FLIP_STATUS_FRAME : Fld := ⟨144, 0x078, 0, 0, 32⟩
def SCAN_FLIP_INFO_PENDING : Fld := ⟨144, 0x07C, 0, 0, 1⟩
def SCAN_FRAME_COUNT_COUNT : Fld := ⟨144, 0x080, 0, 0, 32⟩
def SCAN_FLIP_COUNT_COUNT : Fld := ⟨144, 0x084, 0, 0, 32⟩
def SCAN_HOLD_COUNT_COUNT : Fld := ⟨144, 0x088, 0, 0, 32⟩
def SCAN_BLANK_COUNT_COUNT : Fld := ⟨144, 0x08C, 0, 0, 32⟩
def SCAN_LAST_FLIP_ST32_ST32 : Fld := ⟨144, 0x090, 0, 0, 32⟩
def SCAN_LAST_FLIP_FRAME_FRAME : Fld := ⟨144, 0x094, 0, 0, 32⟩
def SCAN_SHIFT_NS_NS : Fld := ⟨144, 0x098, 0, 0, 32⟩
def SCAN_FETCH_BYTES_BYTES : Fld := ⟨144, 0x09C, 0, 0, 32⟩
def SCAN_LAT_TOL_US_US : Fld := ⟨144, 0x0A0, 0, 0, 32⟩
def SCAN_HOLD_CFG_PASSES : Fld := ⟨144, 0x0A4, 0, 0, 12⟩
def SCAN_HOLD_CFG_AFTER : Fld := ⟨144, 0x0A4, 0, 16, 12⟩
def SCAN_POISON_COUNT_COUNT : Fld := ⟨144, 0x0A8, 0, 0, 32⟩
def SCAN_SUPERSEDED_COUNT : Fld := ⟨144, 0x0AC, 0, 0, 32⟩
def SCAN_LEAD_MISMATCH_COUNT : Fld := ⟨144, 0x0B0, 0, 0, 32⟩
def SCAN_MATRIX_0_M00 : Fld := ⟨144, 0x0C0, 0, 0, 16⟩
def SCAN_MATRIX_0_M01 : Fld := ⟨144, 0x0C0, 0, 16, 16⟩
def SCAN_MATRIX_1_M02 : Fld := ⟨144, 0x0C4, 0, 0, 16⟩
def SCAN_MATRIX_1_M10 : Fld := ⟨144, 0x0C4, 0, 16, 16⟩
def SCAN_MATRIX_2_M11 : Fld := ⟨144, 0x0C8, 0, 0, 16⟩
def SCAN_MATRIX_2_M12 : Fld := ⟨144, 0x0C8, 0, 16, 16⟩
def SCAN_MATRIX_3_M20 : Fld := ⟨144, 0x0CC, 0, 0, 16⟩
def SCAN_MATRIX_3_M21 : Fld := ⟨144, 0x0CC, 0, 16, 16⟩
def SCAN_MATRIX_4_M22 : Fld := ⟨144, 0x0D0, 0, 0, 16⟩
def SCAN_IN_OFF_0_OFF0 : Fld := ⟨144, 0x0D4, 0, 0, 16⟩
def SCAN_IN_OFF_0_OFF1 : Fld := ⟨144, 0x0D4, 0, 16, 16⟩
def SCAN_IN_OFF_1_OFF2 : Fld := ⟨144, 0x0D8, 0, 0, 16⟩
def LED_CTRL_DIAG_EN : Fld := ⟨160, 0x008, 0, 0, 1⟩
def LED_CTRL_POLICY : Fld := ⟨160, 0x008, 0, 1, 1⟩
def LED_CTRL_DERATE_EN : Fld := ⟨160, 0x008, 0, 2, 1⟩
def LED_CTRL_CHAIN_TEST : Fld := ⟨160, 0x008, 0, 3, 1⟩
def LED_CTRL_GEN : Fld := ⟨160, 0x008, 0, 4, 1⟩
def LED_STATUS_GEN_BUSY : Fld := ⟨160, 0x00C, 0, 0, 1⟩
def LED_STATUS_HALF : Fld := ⟨160, 0x00C, 0, 1, 1⟩
def LED_STATUS_BANK : Fld := ⟨160, 0x00C, 0, 2, 1⟩
def LED_STATUS_RAMPING : Fld := ⟨160, 0x00C, 0, 3, 1⟩
def LED_STATUS_DERATING : Fld := ⟨160, 0x00C, 0, 4, 1⟩
def LED_PROFILE_CHIP_CH : Fld := ⟨160, 0x040, 0, 0, 6⟩
def LED_PROFILE_DATA_BITS : Fld := ⟨160, 0x040, 0, 6, 5⟩
def LED_PROFILE_GAIN_BITS : Fld := ⟨160, 0x040, 0, 11, 4⟩
def LED_PROFILE_READ2 : Fld := ⟨160, 0x040, 0, 15, 1⟩
def LED_PROFILE_W_CH : Fld := ⟨160, 0x040, 0, 16, 1⟩
def LED_PROFILE_CHMAP : Fld := ⟨160, 0x040, 0, 17, 8⟩
def LED_GCLK_GCLK_HALF : Fld := ⟨160, 0x044, 0, 0, 8⟩
def LED_GCLK_GCLK_PER_LINE : Fld := ⟨160, 0x044, 0, 8, 16⟩
def LED_DETECT_DETECT_TICKS : Fld := ⟨160, 0x048, 0, 0, 16⟩
def LED_BPLANE_BITS : Fld := ⟨160, 0x04C, 0, 0, 5⟩
def LED_BPLANE_PLANE_GAP : Fld := ⟨160, 0x04C, 0, 8, 8⟩
def LED_BPLANE_UNIT : Fld := ⟨160, 0x04C, 0, 16, 16⟩
def LED_ENTRY_0_INIT : Fld := ⟨160, 0x050, 0, 0, 8⟩
def LED_ENTRY_0_FLIP : Fld := ⟨160, 0x050, 0, 8, 8⟩
def LED_ENTRY_0_HOLD : Fld := ⟨160, 0x050, 0, 16, 8⟩
def LED_ENTRY_0_LINE : Fld := ⟨160, 0x050, 0, 24, 8⟩
def LED_ENTRY_1_LINE_BLOCK : Fld := ⟨160, 0x054, 0, 0, 8⟩
def LED_ENTRY_1_GAIN : Fld := ⟨160, 0x054, 0, 8, 8⟩
def LED_ENTRY_1_READBACK : Fld := ⟨160, 0x054, 0, 16, 8⟩
def LED_ENTRY_1_PROBE : Fld := ⟨160, 0x054, 0, 24, 8⟩
def LED_SCRIPT_SEL_HALF : Fld := ⟨160, 0x058, 0, 0, 1⟩
def LED_CONST_BASE_WORD : Fld := ⟨160, 0x05C, 0, 0, 16⟩
def LED_CURVE_SEL_SEL : Fld := ⟨160, 0x060, 0, 0, 8⟩
def LED_CURVE_SEL_BANK : Fld := ⟨160, 0x060, 0, 8, 1⟩
def LED_CURVE_IDX_KNOT : Fld := ⟨160, 0x064, 0, 0, 11⟩
def LED_CURVE_IDX_CURVE : Fld := ⟨160, 0x064, 0, 11, 2⟩
def LED_CURVE_IDX_BANK : Fld := ⟨160, 0x064, 0, 13, 1⟩
def LED_CURVE_DATA_KNOT : Fld := ⟨160, 0x068, 0, 0, 16⟩
def LED_GEN_CFG_TYPE : Fld := ⟨160, 0x06C, 0, 0, 2⟩
def LED_GEN_CFG_CURVE : Fld := ⟨160, 0x06C, 0, 2, 2⟩
def LED_GEN_CFG_GAMMA_Q : Fld := ⟨160, 0x06C, 0, 4, 10⟩
def LED_GEN_CFG_RANGE : Fld := ⟨160, 0x06C, 0, 14, 5⟩
def LED_MASTER_TARGET : Fld := ⟨160, 0x070, 0, 0, 16⟩
def LED_MASTER_RAMP_FRAMES : Fld := ⟨160, 0x070, 0, 16, 16⟩
def LED_MASTER_NOW_LEVEL : Fld := ⟨160, 0x074, 0, 0, 16⟩
def LED_BAL_0_R : Fld := ⟨160, 0x078, 0, 0, 16⟩
def LED_BAL_0_G : Fld := ⟨160, 0x078, 0, 16, 16⟩
def LED_BAL_1_B : Fld := ⟨160, 0x07C, 0, 0, 16⟩
def LED_BAL_1_W : Fld := ⟨160, 0x07C, 0, 16, 16⟩
def LED_DERATE_CFG_KNEE : Fld := ⟨160, 0x080, 0, 0, 12⟩
def LED_DERATE_CFG_SLOPE : Fld := ⟨160, 0x080, 0, 12, 10⟩
def LED_DERATE_CFG_FLOOR : Fld := ⟨160, 0x080, 0, 22, 7⟩
def LED_DERATE_HYST_HYST : Fld := ⟨160, 0x084, 0, 0, 8⟩
def LED_DERATE_NOW_D : Fld := ⟨160, 0x088, 0, 0, 17⟩
def LED_TEFF_T : Fld := ⟨160, 0x08C, 0, 0, 16⟩
def LED_GAIN_NOW_ALL : Fld := ⟨160, 0x090, 0, 0, 32⟩
def LED_RESID_R : Fld := ⟨160, 0x094, 4, 0, 17⟩
def LED_DIAG_CFG_AGE_LIMIT : Fld := ⟨160, 0x0A4, 0, 0, 8⟩
def LED_DIAG_CFG_READ_LANE : Fld := ⟨160, 0x0A4, 0, 8, 3⟩
def LED_DIAG_CFG_CONFIRM : Fld := ⟨160, 0x0A4, 0, 11, 4⟩
def LED_DIAG_CFG_INTERVAL : Fld := ⟨160, 0x0A4, 0, 16, 16⟩
def LED_PROBE_CFG_PROBE_MAX : Fld := ⟨160, 0x0A8, 0, 0, 13⟩
def LED_DIAG_MAP_LO_ADDR : Fld := ⟨160, 0x0AC, 0, 0, 32⟩
def LED_DIAG_MAP_HI_ADDR : Fld := ⟨160, 0x0B0, 0, 0, 8⟩
def LED_CHAIN_CHIPS : Fld := ⟨160, 0x0B4, 0, 0, 16⟩
def LED_CHAIN_VALID : Fld := ⟨160, 0x0B4, 0, 16, 1⟩
def LED_CHAIN_RESULT : Fld := ⟨160, 0x0B4, 0, 17, 2⟩
def LED_OPEN_COUNT_COUNT : Fld := ⟨160, 0x0B8, 0, 0, 32⟩
def LED_SHORT_COUNT_COUNT : Fld := ⟨160, 0x0BC, 0, 0, 32⟩
def LED_UNVERIFIED_COUNT_COUNT : Fld := ⟨160, 0x0C0, 0, 0, 32⟩
def LED_PROBES_COUNT : Fld := ⟨160, 0x0C4, 0, 0, 32⟩
def LED_SCRIPT_CMD : Fld := ⟨160, 0x800, 4, 0, 32⟩
def CL_CAPS_LANES : Fld := ⟨176, 0x004, 0, 0, 3⟩
def CL_CAPS_SPARE : Fld := ⟨176, 0x004, 0, 3, 1⟩
def CL_CAPS_RATES : Fld := ⟨176, 0x004, 0, 4, 3⟩
def CL_CTRL_EN : Fld := ⟨176, 0x008, 0, 0, 1⟩
def CL_CTRL_MAX_RATE : Fld := ⟨176, 0x008, 0, 1, 2⟩
def CL_CTRL_STEP_EN : Fld := ⟨176, 0x008, 0, 3, 1⟩
def CL_STATUS_STATE : Fld := ⟨176, 0x00C, 0, 0, 3⟩
def CL_STATUS_RATE : Fld := ⟨176, 0x00C, 0, 3, 2⟩
def CL_STATUS_LANE_OK : Fld := ⟨176, 0x00C, 0, 5, 5⟩
def CL_STATUS_SPARE_FOR : Fld := ⟨176, 0x00C, 0, 10, 3⟩
def CL_STATUS_PEER_MEMBER : Fld := ⟨176, 0x00C, 0, 13, 3⟩
def CL_STATUS_PEER_PORT : Fld := ⟨176, 0x00C, 0, 16, 2⟩
def CL_DELAY_PS_PS : Fld := ⟨176, 0x040, 0, 0, 32⟩
def CL_LENGTH_MM : Fld := ⟨176, 0x044, 0, 0, 16⟩
def CL_LENGTH_VF_PCT : Fld := ⟨176, 0x044, 0, 16, 7⟩
def CL_SKEW_PS_PS : Fld := ⟨176, 0x048, 0, 0, 16⟩
def CL_UTIL_TX_PCT : Fld := ⟨176, 0x04C, 0, 0, 8⟩
def CL_UTIL_RX_PCT : Fld := ⟨176, 0x04C, 0, 8, 8⟩
def CL_UTIL_PLAN_PCT : Fld := ⟨176, 0x04C, 0, 16, 8⟩
def CL_STEP_CFG_LOW_PCT : Fld := ⟨176, 0x050, 0, 0, 8⟩
def CL_STEP_CFG_STEP_FRAMES : Fld := ⟨176, 0x050, 0, 8, 16⟩
def CL_PEER_ID_LO_ID : Fld := ⟨176, 0x054, 0, 0, 32⟩
def CL_PEER_ID_HI_ID : Fld := ⟨176, 0x058, 0, 0, 16⟩
def CL_CELLS_TX_COUNT : Fld := ⟨176, 0x060, 0, 0, 32⟩
def CL_CELLS_RX_COUNT : Fld := ⟨176, 0x064, 0, 0, 32⟩
def CL_CRC_ERR_COUNT : Fld := ⟨176, 0x068, 0, 0, 32⟩
def CL_RETRIES_COUNT : Fld := ⟨176, 0x06C, 0, 0, 32⟩
def CL_LANE_SWAPS_COUNT : Fld := ⟨176, 0x070, 0, 0, 32⟩
def CL_RATE_STEPS_COUNT : Fld := ⟨176, 0x074, 0, 0, 32⟩
def CL_DETOURS_COUNT : Fld := ⟨176, 0x078, 0, 0, 32⟩
def CL_MISROUTE_COUNT : Fld := ⟨176, 0x07C, 0, 0, 32⟩
def CL_TXWIN_ROUTE_HOPS : Fld := ⟨176, 0x080, 16, 0, 3⟩
def CL_TXWIN_ROUTE_ROUTE : Fld := ⟨176, 0x080, 16, 3, 12⟩
def CL_TXWIN_ROUTE_DEST : Fld := ⟨176, 0x080, 16, 15, 3⟩
def CL_TXWIN_ROUTE_RXWIN : Fld := ⟨176, 0x080, 16, 18, 4⟩
def CL_TXWIN_LEN_UNITS : Fld := ⟨176, 0x084, 16, 0, 18⟩
def CL_GROUP_CFG_GROUP_ID : Fld := ⟨176, 0x200, 0, 0, 16⟩
def CL_GROUP_CFG_PLANET_PRIO : Fld := ⟨176, 0x200, 0, 16, 8⟩
def CL_GROUP_STATUS_PLANET : Fld := ⟨176, 0x204, 0, 0, 1⟩
def CL_GROUP_STATUS_MEMBER : Fld := ⟨176, 0x204, 0, 1, 3⟩
def CL_GROUP_STATUS_MEMBERS : Fld := ⟨176, 0x204, 0, 4, 4⟩
def CL_GROUP_STATUS_PRESENT : Fld := ⟨176, 0x204, 0, 8, 8⟩
def CL_GROUP_STATUS_PLANET_MEMBER : Fld := ⟨176, 0x204, 0, 16, 3⟩
def CL_GROUP_STATUS_ELECTING : Fld := ⟨176, 0x204, 0, 19, 1⟩
def CL_DEVICE_ID_LO_ID : Fld := ⟨176, 0x208, 0, 0, 32⟩
def CL_DEVICE_ID_HI_ID : Fld := ⟨176, 0x20C, 0, 0, 16⟩
def CL_PLANET_ID_LO_ID : Fld := ⟨176, 0x210, 0, 0, 32⟩
def CL_PLANET_ID_HI_ID : Fld := ⟨176, 0x214, 0, 0, 16⟩
def CL_TIME_CFG_SAMPLE_US : Fld := ⟨176, 0x218, 0, 0, 12⟩
def CL_LOSS_US_US : Fld := ⟨176, 0x21C, 0, 0, 20⟩
def CL_UPSTREAM_PORT : Fld := ⟨176, 0x220, 0, 0, 2⟩
def CL_UPSTREAM_HOPS : Fld := ⟨176, 0x220, 0, 2, 3⟩
def CL_UPSTREAM_VALID : Fld := ⟨176, 0x220, 0, 5, 1⟩
def CL_LATE_CELLS_COUNT : Fld := ⟨176, 0x224, 0, 0, 32⟩
def CL_RX_LATE_COUNT_COUNT : Fld := ⟨176, 0x228, 0, 0, 32⟩
def CL_RXWIN_BASE_LO_BASE : Fld := ⟨176, 0x240, 16, 6, 26⟩
def CL_RXWIN_BASE_HI_BASE : Fld := ⟨176, 0x244, 16, 0, 8⟩
def CL_RXWIN_SET_BYTES : Fld := ⟨176, 0x248, 16, 0, 25⟩
def CL_RXWIN_STAT_FRAME : Fld := ⟨176, 0x24C, 16, 0, 16⟩
def CL_RXWIN_STAT_COMPLETE : Fld := ⟨176, 0x24C, 16, 16, 1⟩
def CL_RXWIN_STAT_EMPTY : Fld := ⟨176, 0x24C, 16, 17, 1⟩

end Sys2Proof.Machine
end

