-- ==== Sys2Proof/Machine/State.lean ====
section
/-! DEFINITION. The state of the block as plain data, and the state right after reset. -/

namespace Sys2Proof.Machine

/-- Something the block sends outside: what an agent beyond the balls sees (log entry 6). -/
inductive Out where
  | data (q : Req) (ws : List Word)                       -- completion of a register or window read
  | poisoned (ws : List Word)                             -- PCIe completion with the EP bit (Table 06-1)
  | abort                                                 -- Completer Abort (R59, R214)
  | unsupported                                           -- Unsupported Request status
  | msix (addr : Nat) (data : Nat)                        -- an MSI-X message (R78)
  | pin (name : Nat) (level : Bool)                       -- a level driven on a ball
  | netFrame (port : Nat) (bytes : List Byte)             -- a frame started on a network line
  | ltcFrame (rate hh mm ss ff ub : Nat)                  -- a frame on LTC_OUT (R121)
  | dmx (port : Nat) (slots : List Byte)                  -- a DMX512-A packet or RDM frame on a line
  | line (port : Nat) (what : Nat) (ws : List Nat)        -- activity on a LED port's driver lines
  | cl (port : Nat) (kind : Nat) (ws : List Nat)          -- a block or cell on a Camlek port
  | hostWrite (addr : Nat) (bytes : List Byte)            -- a write into host memory by HDMA
  | mspi (bytes : List Byte)                              -- the answer of an MSPI frame
  | pmbus (addr cmd data : Nat) (pec : Bool)              -- a PMBus command sent, with PEC or not; a voltage is in mV
  | wheel (cls client : Nat)                              -- a wheel position given to a client (R319)
  deriving DecidableEq, Repr

/-- The commit unit of one page (R70 to R74): the armed mode and captured target, whether the commit
waits for the transit after the next one (its cut-off had passed at arming, R71), whether the cut-off
of the next transit has passed, the frame in which the commit is due to be taken, and the ST32 of
the tick at which the last taken commit came into force (read as COMMIT_TIME while TAKEN). -/
structure CommitUnit where
  mode : Nat
  target : Nat
  skip : Bool
  cut : Bool
  due : Option Nat
  taken : Word
  deriving DecidableEq, Repr

/-- An event record waiting for the event arbiter (R80, R81): page, code, argument, FORCED, the
instant of the occurrence in ns, and whether the block is a rim block. -/
structure RecReq where
  page : Nat
  code : Nat
  arg : Nat
  forced : Bool
  at_ : Nat
  rim : Bool
  deriving DecidableEq, Repr

/-- A PCIe request that waits behind a push held at a full FIFO (R269): a dword write or read of a page, a request to
BAR0, BAR2 or the windows of BAR4 (0 BAR4, 1 set alias, 2 clear alias), a configuration request. -/
inductive HeldReq where
  | write (page off : Nat) (v : Word)
  | read (page off : Nat)
  | bar0 (r : MemReq)
  | bar2 (r : MemReq)
  | bank (k : Nat) (r : MemReq) (meet : BankMeet)
  | config (r : CfgReq)
  deriving DecidableEq, Repr

/-- What the PCIe endpoint holds beside the HOST page (R78, R478), and the pages whose arbiter gives its next
tie to PCIe (R60). -/
structure HostS where
  msixEn : Bool
  fnMask : Bool
  memEn : Bool
  busMaster : Bool
  cfg : List (Nat × Word)
  tiePcie : List Nat
  held : List HeldReq
  deriving DecidableEq, Repr

/-- A foreign master of the best-master comparison (R94). -/
structure Master where
  port : Nat
  domain : Nat
  clock : Nat
  srcPort : Nat
  interval : Int
  rank : List Nat
  gm : Nat
  heard : List Nat
  deriving DecidableEq, Repr

/-- A held correction (R102, R103): its offset, and whether it is a software correction. -/
structure HeldCorr where
  o : Int
  sw : Bool
  deriving DecidableEq, Repr

/-- The time base (R85 to R110). Instants and offsets are in units of 2^-16 ns; `res` is the part of
the increments below one unit, in 1/(256 · 10^9); `mono` counts the same advances without the steps
and sets, for spans and timeouts; `stepSkip`: a step was authorised while a transit mark was pending, so
it waits for the transit after that one (R105); `delayPath` the master and port the path delay was measured
on (R96); `peer` port, clock, MAC and IPv4 address of the last Sync taken from the master in use (R296); `carveOpen`: the step guard is suspended (R103), `carveSoft` where
the correction being carved is software's. -/
structure TimeS where
  now : Nat
  res : Nat
  mono : Nat
  integ : Int
  lastO : Int
  clampedLast : Bool
  servoLocked : Bool
  lockRun : Nat
  unlockRun : Nat
  prevSample : Option Nat
  adjHist : List Int
  everLocked : Bool
  lastAccepted : Option Int
  outRun : Nat
  masters : List Master
  inUse : Option Master
  lastGm : Option Nat
  lastPort : Nat
  syncWait : Option PtpSync
  lastSync : Option (Int × Int)
  delayReq : Option (Nat × Int)
  lastReqAt : Option Nat
  peer : Option (Nat × Nat × Nat × Nat)
  delay : Option Int
  delayPath : Option (Nat × Nat)
  lastAnnounce : Nat
  held : Option HeldCorr
  carveOpen : Bool
  carveSoft : Bool
  swRem : Nat
  swForward : Bool
  glideUnits : Nat
  glidePassed : Bool
  lastAnchor : Nat
  lastSource : Nat
  transit : Option (Nat × Nat)
  nextTransit : Option (Nat × Nat)
  seam : Option (Nat × Bool)
  fsyncEnd : Option Nat
  ltcLast : Option Nat
  ltcRun : Nat
  ltcRate : Nat
  ltcAt : Nat
  fsyncEdgeAt : Option Nat
  stepSkip : Bool
  deriving DecidableEq, Repr

/-- One timed trigger beside its registers (R112, R113): AT and PERIODIC hold the next occurrence
in ns of the full count, EACH_TRANSIT whether the occurrences of the last and of the next transit
are done with. -/
structure TrgUnit where
  next : Nat
  doneLast : Bool
  doneNext : Bool
  deriving DecidableEq, Repr

/-- The timed-trigger rim beside its page (R116 to R119): units, running pulses (pin, end instant and
trigger), the last accepted edge of each capture source, and of each pin the tick in which actions last
drove it with the level they leave where they found it low and where they found it high. -/
structure TrigS where
  units : List (Nat × TrgUnit)
  pulses : List (Nat × Nat × Nat)
  lastEdge : List (Nat × Nat)
  drove : List (Nat × Nat × Bool × Bool)
  deriving DecidableEq, Repr

/-- Where a pending result goes. -/
inductive Dest where
  | v (i : Nat) | s (i : Nat) | p (i : Nat)
  deriving DecidableEq, Repr

/-- A result in flight (R130 to R132): step it lands at, step it was issued at, producing slot in
the order VA, VB, M, C, destination, mask of the bits it writes, value. -/
structure Pend where
  land : Nat
  issued : Nat
  rank : Nat
  dest : Dest
  mask : Nat
  val : Nat
  deriving DecidableEq, Repr

/-- A hardware loop level (R135). -/
structure Loop where
  start : Nat
  end_ : Nat
  count : Nat
  deriving DecidableEq, Repr

/-- A task kernel running in an open window (R165). -/
structure Kernel where
  ctx : Nat
  left : Nat
  descAddr : Nat
  deriving DecidableEq, Repr

/-- An open window (R164): its number, window steps left, the plan's loop levels set aside, the
bundle plan code resumes at, the kernel running. -/
structure Window where
  win : Nat
  left : Nat
  loops : List Loop
  resume : Nat
  kernel : Option Kernel
  asked : Bool
  deriving DecidableEq, Repr

/-- One stream channel (R153): descriptors outstanding, the running one first, and the last completed. -/
structure Chan where
  queue : List Nat
  last : Nat
  deriving DecidableEq, Repr

/-- A stream descriptor of the slot's descriptor table (Table 05-4). -/
structure Desc where
  dram : Nat
  baseSel : Nat
  toDram : Bool
  bank : Nat
  rowLen : Nat
  rows : Nat
  stride : Int
  bankStride : Nat
  alt : Nat
  deriving DecidableEq, Repr

/-- A lap table entry (Table 05-3). -/
structure LapEnt where
  steps : Nat
  level : Nat
  stripe : Bool
  addr : Nat
  fence : Nat
  deriving DecidableEq, Repr

/-- The tables of one service slot of a plan. -/
structure SlotTab where
  entry : Nat
  fend : Nat
  saveA : Nat
  saveB : Nat
  laps : List LapEnt
  desc : Option (List Desc)
  code : List Bundle
  deriving DecidableEq, Repr

/-- A DRAM window (Table 05-5): LAP windows name a channel and a lap range, TIMED windows a page and a span. -/
structure WinEnt where
  timed : Bool
  slot : Nat
  ch : Nat
  startLap : Nat
  endLap : Nat
  page : Nat
  share : Nat
  startNs : Int
  lengthNs : Nat
  deriving DecidableEq, Repr

/-- A bank schedule entry (R183). -/
structure BankEnt where
  bank : Nat
  owner : Nat
  slot : Nat
  lap : Nat
  frameStart : Bool
  deriving DecidableEq, Repr

/-- One physical engine beside its page (R124 to R166). Loop levels are innermost first;
`parity` holds the lanes and registers whose parity bit is wrong, `tab` the tables of the slot it runs, `banks`
and `windows` the bank schedule and DRAM windows of the plan of that frame, `shed` the levels shed in it, `mark`
the VGRP and address of a LAPMARK not yet saved, `port` the bank access of its latest step (bank, write or not,
words; R225). -/
structure EngS where
  v : List (Nat × Row)
  s : List (Nat × Word)
  p : List (Nat × Word)
  parity : List (Dest × Nat)
  pc : Nat
  branch : Option Nat
  inDelay : Bool
  loops : List Loop
  pend : List Pend
  step : Nat
  imem : List (Nat × Bundle)
  imemErr : List (Nat × Nat)
  tab : Option SlotTab
  banks : List BankEnt
  windows : List WinEnt
  port : Option (Nat × Bool × List Nat)
  shed : Nat
  atFend : Bool
  first : Bool
  fenceMask : Nat
  mark : Option (Nat × Nat)
  window : Option Window
  sc0 : Chan
  sc1 : Chan
  padFrame : Nat
  padLap : Nat
  stripeWait : Bool
  lastIssue : Nat
  deriving DecidableEq, Repr

/-- An emit entry (Table 05-6). -/
structure EmitEnt where
  page : Nat
  arg : Nat
  offset : Int
  source : Nat
  baseSel : Nat
  readySlot : Nat
  readyLap : Nat
  lead : Nat
  level : Nat
  noReady : Bool
  deriving DecidableEq, Repr

/-- The tables of a plan image (R171 to R188): identity, slots, pipeline mode, rate range, output lead, stripe guard,
stripe count, degrade levels, windows, bank schedule, emit list, digest and the FIXTURES section as it stands. -/
structure PlanTabs where
  id : Nat
  slots : List SlotTab
  stripe : Bool
  rateLo : Nat × Nat
  rateHi : Nat × Nat
  outputLead : Nat
  stripeGuard : Nat
  stripes : Nat
  degrade : Nat
  windows : List WinEnt
  banks : List BankEnt
  emit : List EmitEnt
  digest : List Byte
  fixtures : List Byte
  deriving DecidableEq, Repr

/-- What became of an emit entry in a frame: its ready mark, its fetch decision, its launch (R186). -/
structure EmitRun where
  readyAt : Option Nat
  fetched : Option Bool
  launched : Bool
  deriving DecidableEq, Repr

/-- A plan frame whose outputs are not all launched (R184, R199): number, the instant its launches count
from, tables, levels shed, skipped or not, the planes selected for it (R51), the emit entries. -/
structure FrameRun where
  n : Nat
  launch : Nat
  plan : PlanTabs
  shed : Nat
  skipped : Bool
  planes : List (Nat × Nat)
  emits : List (Nat × EmitRun)
  deriving DecidableEq, Repr

/-- The lap watch of one slot (R204): lap in progress, its due instant in ps of `mono`, whether dues
are lifted for the frame. -/
structure LapWatch where
  lap : Nat
  due : Nat
  lifted : Bool
  active : Bool
  deriving DecidableEq, Repr

/-- The plan sequencer, loader and speed monitor beside their pages (R189 to R208): the active and the
staged plan, a load in progress (image address, staging or not) with its checked tables, segments staged
per slot, segments of the active plan that engines in the middle of a frame take at their next frame start, slots
whose staged code must be copied again, slots a stop-mode switch writes, the frame due to start, frames whose outputs are
not all launched, shed counts, t in force in ps, the largest slow sample of the frame, notices (slot,
lap, low bits of the frame number) and reports (engine, code, lap) on their way to the lap watch, the watch per slot, slots whose
fault waits for the reserves with its cause, the planes handed over at the last transit, reserves restoring (engine, old engine, cause, record address), the
reserve of each group, and the speed monitor's span (worst sample, mV, Tj in 1/16 °C). -/
structure PlanS where
  active : Option PlanTabs
  staged : Option PlanTabs
  loading : Option (Nat × Bool)
  stopOk : Bool
  stagedSeg : List (Nat × Nat)
  segDue : List (Nat × Nat)
  copyDue : List Nat
  stopWriting : Bool
  writeDue : List Nat
  newPlan : Bool
  oldBanks : List Nat
  frameDue : Option Nat
  frames : List FrameRun
  shed : Nat
  ok : Nat
  wasLow : Bool
  t : Nat
  maxSample : Option Nat
  notices : List (Nat × Nat × Nat)
  reports : List (Nat × Nat × Nat)
  watch : List (Nat × LapWatch)
  frameAt : Nat
  stripeNext : Nat
  heldFaults : List (Nat × Nat)
  planes : List (Nat × Nat)
  restoring : List (Nat × Nat × Nat × Option Nat)
  reserve : List (Nat × Nat)
  checked : Option PlanTabs
  mismatch : Bool
  window : List (Nat × Nat × Int)
  deriving DecidableEq, Repr

/-- A borrow in progress (R230): segment, holding buffer, words found uncorrectable. -/
structure Borrow where
  seg : Nat
  buf : List DWord
  bad : List Nat
  deriving DecidableEq, Repr

/-- Who makes a bank access (Tables 06-2 and 06-5). -/
inductive Who where
  | eng (slot : Nat) | kernel | chan (slot c : Nat) | sched | scan (p : Nat) | emit | host
  deriving DecidableEq, Repr

/-- What stalls at a borrowed segment (R231): a host request with its window kind, another requester whose command
waits, or an access of a class whose effect stands with its command (log entry 13). -/
inductive StallWhat where
  | host (kind : Nat) (req : MemReq) (meet : BankMeet)
  | wait (who : Who)
  | served (cls : Nat)
  deriving DecidableEq, Repr

/-- An access stalled at a borrowed segment (R231): arrival instant and the owner code of that instant, under which
it completes (R221). -/
structure Stalled where
  at_ : Nat
  owner : Nat
  what : StallWhat
  deriving DecidableEq, Repr

/-- One bank beside its page and its words (R211 to R236). `undef` holds words that a port S write has stored outside
normal service and port E has not read since, with whether a read is known to have met it (R225); `granted` the
requesters whose stalled access completes under an earlier owner (R221). -/
structure BankS where
  borrow : Option Borrow
  stalled : List Stalled
  holdoff : Option Nat
  mirror : Option (Nat × Nat)
  rowCorr : List (Nat × Nat)
  undef : List (Nat × Bool)
  sparing : List Nat
  granted : List (Who × Nat)
  deriving DecidableEq, Repr

/-- A mark on its way to the dispatch arbiter (R248, R253): a transit, a trigger's action, a tick. -/
inductive Mark where
  | transit (n : Nat) | trigger (n : Nat) | tick (n : Nat)
  deriving DecidableEq, Repr

/-- What a task context keeps beside its registers (R239, R254): words 0 and 1 as copied at SUBMIT, and
the wake tick. -/
structure Ctx where
  w0 : Nat
  w1 : Nat
  wake : Nat
  deriving DecidableEq, Repr

/-- The task scheduler beside its pages (R238 to R259). Units are numbered in unit order: WINDOW 0 to 7,
SC 8 to 23, DMX 24 to 39, CAL 40, KEY 41, HDMA 42. `running` maps a unit to its context; `faults` holds
unit, END_CAUSE and RESULT of fault reports, `done` unit and RESULT of completions not yet taken;
`aborts` the aborts before a unit's commit arbiter with the requester; `params` words 2 to 6 of a running
task's descriptor as read at dispatch; `commit` the units whose commit point has passed; `trace` the
records waiting for FIFO2; `results` CMD_RESULT of each requester; `waits` the wait results not yet taken (context, met
or failed); `voids` the contexts cancelled while their wait result was pending (R250); `scMoved` the bursts an SC unit's
transfer has moved (R244). In `delay` a context cancelled while its wake was pending keeps its place until the wake is
taken. -/
structure SchedS where
  ctx : List (Nat × Ctx)
  delay : List Nat
  ready : List (Nat × List Nat)
  running : List (Nat × Nat)
  faults : List (Nat × Nat × Nat)
  done : List (Nat × Nat)
  aborts : List (Nat × Nat)
  params : List (Nat × List Nat)
  commit : List Nat
  trace : List (DWord × DWord)
  dropped : Nat
  results : List (Nat × Word)
  waits : List (Nat × Bool)
  voids : List Nat
  scMoved : List (Nat × Nat)
  deriving DecidableEq, Repr

/-- A push that waits at a FIFO (R268): producer end, requester (1 PCIe, 2 MSPI, 0 none), the words of one
handshake, the single words that follow from the same producer, the span-clock instant from which it stalls, whether FULL has been set
for the wait. -/
structure Stall where
  prod : Nat
  req : Nat
  words : List DWord
  behind : List DWord
  since : Nat
  full : Bool
  deriving DecidableEq, Repr

/-- A spill FIFO beside its page (R260 to R279): the words from head to tail (none: to be read back from
the ring), whether the mark retains, the start of the idle timer and whether it has expired, the pushes
that wait, the poisoned head word already read back with its RD_POS, whether FULL has been set for a record of
its device producer that waits, whether the next tie of PCIe and MSPI goes to PCIe (R273). -/
structure FifoS where
  words : List (Option DWord)
  retain : Bool
  idleAt : Nat
  idleUp : Bool
  stalls : List Stall
  headBad : Option (Nat × DWord)
  waiting : Bool
  turn : Bool
  deriving DecidableEq, Repr

/-- A command accepted from FIFO0 and not yet executed (R282, R285): sequence number, class, words 1 on,
DONE_REC, whether CMD_FAILED was raised, register writes made so far. -/
structure CmdS where
  seq : Nat
  cls : Nat
  words : List DWord
  doneRec : Bool
  failed : Bool
  made : Nat
  deriving DecidableEq, Repr

/-- A whole frame in a port's TX buffer (R300 to R304): its source in Table 09-3's order, the ring's
number or the paced launch instant in units of 2^-16 ns, its bytes without FCS, TS_ID where its stamp is wanted, PTP_OFF
where it is one-step, the port and ring of its descriptor, the sequence number where it is a Delay_Req. -/
structure TxFrame where
  src : Nat
  ring : Nat
  at_ : Nat
  bytes : List Byte
  tsId : Option Nat
  oneStep : Option Nat
  desc : Option (Nat × Nat)
  req : Option Nat
  deriving DecidableEq, Repr

/-- A descriptor in progress on a ring (R304, R305, R316): index, frames still to go, frames sent
on each leg, stamp of the first frame, completion codes of the legs so far, whether LAUNCH_AT still holds it, its
launch instant, SEQ32, NOTIFY. -/
structure RingRun where
  idx : Nat
  left : Nat
  sent1 : Nat
  sent2 : Nat
  first : Option Word
  code : Nat
  code2 : Nat
  held : Bool
  launch : Nat
  seq : Nat
  notify : Bool
  deriving DecidableEq, Repr

/-- An entry of the timestamp queue (R315). -/
inductive TsEnt where
  | stamp (st frac id : Nat)
  | gap (first lost : Nat) (frozen : Bool)
  deriving DecidableEq, Repr

/-- A network port beside its page (R290 to R317): the TX buffer, the frames built that wait for room in it, the part of
it in KiB that paced and sACN frames use (R302), the bytes in the receive buffer at an instant (R299), the instant the line is free, the end of
the pause in force, the start of unbroken pause, the end of the hold-off, since when the transmitter is
idle, pass counts of the completion rings, the timestamp queue, the descriptors in progress. Instants are
on the span clock. -/
structure NetS where
  buf : List TxFrame
  queue : List TxFrame
  pacedKib : Nat
  rxFill : Nat
  rxAt : Nat
  lineFree : Nat
  pauseEnd : Nat
  pauseSince : Nat
  holdEnd : Nat
  idleSince : Nat
  pass : List (Nat × Nat)
  tsq : List TsEnt
  rings : List (Nat × RingRun)
  deriving DecidableEq, Repr

/-- The dynamic slot arbiter (R319): the class that took the last surplus position, the client served
last in each class. -/
structure WheelS where
  surplus : Nat
  last : List (Nat × Nat)
  deriving DecidableEq, Repr

/-- A picture an ingest unit takes (R329): RTP timestamp, a number that never repeats, its plane (none
where it is discarded), whether it is complete. -/
structure Pic where
  ts : Nat
  serial : Nat
  plane : Option Nat
  done : Bool
  deriving DecidableEq, Repr

/-- An ingest unit beside its page (R325 to R331): highest sequence number taken, lowest not yet judged,
numbers taken in the window with the picture each belongs to, whether the last judged was missing; the
latest pictures, the number of the next; by plane the picture it holds, the span-clock instant of its
completion, the transits it is still in use for (STANDARD) and the instant it is in use until (STRIPE); when a
picture first completed since EN, whether a plane has been selected since, the plane last selected; payload bytes
written per transit and stripe. -/
structure IngestS where
  high : Option Nat
  base : Nat
  got : List (Nat × Nat)
  missRun : Bool
  below : Nat
  pics : List Pic
  serial : Nat
  holds : List (Nat × Nat)
  doneAt : List (Nat × Nat)
  useLeft : List (Nat × Nat)
  useEnd : List (Nat × Nat)
  started : Option Nat
  selected : Bool
  sel : Nat
  stripes : List (Nat × Nat)
  deriving DecidableEq, Repr

/-- A picture an egress unit sends (R333 to R335): plan frame, launch instant, the rate it is paced at, RTP
timestamp, source address, next packet. -/
structure EgressJob where
  frame : Nat
  launch : Nat
  rate : Nat × Nat
  ts : Nat
  bank : Bool
  base : Nat
  next : Nat
  deriving DecidableEq, Repr

/-- A source of an sACN universe (R336, R337): CID, priority, last sequence number, slots, number of its
last packet among all taken, span-clock instant of it. -/
structure SacnSrc where
  cid : List Byte
  prio : Nat
  seq : Nat
  slots : List Byte
  order : Nat
  at_ : Nat
  deriving DecidableEq, Repr

/-- A universe of the merge (R337, R338): sources in the order they joined, merged values, slots in the
merged result, winning priority and ST32 of the last packet (none: no packet taken). -/
structure SacnUniv where
  srcs : List SacnSrc
  merged : List Byte
  slots : Nat
  prio : Option Nat
  last : Option Nat
  deriving DecidableEq, Repr

/-- A packet of sACN transmit on its way (R339, R340): due instant on the span clock, context, universe,
slots, whether it carries Stream_Terminated. -/
structure SacnTx where
  due : Nat
  ctx : Nat
  univ : Nat
  slots : List Byte
  term : Bool
  prio : Nat
  port : Nat
  pair : Bool
  deriving DecidableEq, Repr

/-- The sACN unit beside its page: the universes received, packets taken so far, the snapshot being
written, packets held during it, the slots fetched for a frame and context, packets on their way, the
next sequence number by universe, and by context and universe the last packet and its instant. -/
structure SacnS where
  univs : List (Nat × SacnUniv)
  count : Nat
  snap : Option Nat
  held : List (Nat × List Byte)
  fetched : List (Nat × Nat × List (List Byte))
  queue : List SacnTx
  seq : List (Nat × Nat)
  last : List (Nat × Nat × SacnTx)
  deriving DecidableEq, Repr

/-- An RDM transaction between its commit point and its end (R345, R346): context, kind, span-clock
instant of the end of the request, ST32 of it, whether the request is still being sent. -/
structure RdmRun where
  ctx : Nat
  kind : Nat
  reqEnd : Nat
  sending : Bool
  deriving DecidableEq, Repr

/-- A DMX port beside its page (R341 to R349): end of the packet on the line and since when the line is
idle, on the span clock; the last packet sent and the one fetched for a frame; the transaction in progress,
the transaction counter; the end of a task that waits for its FIFO3 record with result and fault; the last
packet accepted (slots, ST32), its span-clock instant, the snapshot being written and the packet held
during it; the queued-message store; the answer in preparation (bytes, due instant, whether from the store,
with break or not). -/
structure DmxS where
  busyEnd : Nat
  idleAt : Nat
  last : Option (List Byte)
  fetched : Option (Nat × List Byte)
  rdm : Option RdmRun
  tn : Nat
  ending : Option (Nat × Bool)
  rx : Option (List Byte × Nat)
  rxAt : Nat
  snap : Option Nat
  held : Option (List Byte × Nat)
  store : List (List Byte)
  answer : Option (List Byte × Nat × Bool)
  deriving DecidableEq, Repr

/-- What a port's next frame will be (Table 11-3, Table 11-4). -/
inductive FrameKind where
  | none                       -- not decided at a latch point
  | taken (base : Nat) (bank : Bool) (host : Bool)
  | hold
  | blank                      -- of a mode change
  | off                        -- EN 1 to 0
  deriving DecidableEq, Repr

/-- A scan port beside its page (R353 to R378): whether it runs, whether it starts at the next transit;
the settings of the frame in progress and those
taken at the last latch point for the incoming one; T0 of a free-running port and the launch offset of a locked
one, the number, start and latch instant of the next frame (units of 2^-16 ns of PTP time); what it will
be, whether its latch point has passed; number, start, settings and passes of the frame in progress, its next slot;
hold frames in a row; whether FRAME_ADDR has been written since the last take; whether a seam is passed
through; whether the launch instant changed under the port (R377); whether the next frame is the first of
a new mode; whether GOE is still kept inactive before the first flip (Table 11-4). -/
structure ScanS where
  on : Bool
  starting : Bool
  cfg : List (Nat × Word)
  cfgIn : List (Nat × Word)
  t0 : Nat
  offs : Nat
  next : Nat
  nextAt : Nat
  latchAt : Nat
  kind : FrameKind
  latched : Bool
  frame : Nat
  frameAt : Nat
  passes : Nat
  slot : Nat
  slotAt : Nat
  holdRun : Nat
  addrW : Bool
  seam : Bool
  moved : Bool
  firstNew : Bool
  dark : Bool
  flipped : Bool
  lit : Bool
  deriving DecidableEq, Repr

/-- Sections of a scan script (Table 12-1). -/
inductive Sect where
  | init | lineBlock | gain | readback | probe | flip | hold | line
  deriving DecidableEq, Repr

/-- A section running or waiting (R383): address of its next word, loop (start and count left), the scan
line of a LINE_BLOCK, outputs shifted of it, the span-clock instant from which its next command may run. -/
structure SeqRun where
  sect : Sect
  pc : Nat
  loop : Option (Nat × Nat)
  line : Nat
  pos : Nat
  free : Nat
  deriving DecidableEq, Repr

/-- Diagnosis of one channel (R398, R399): state, tick of the last verified readback, kind and length of the run
of readbacks, the byte last written to the map, tick of the last probe. -/
structure ChanS where
  st : Nat
  since : Nat
  kind : Nat
  run : Nat
  map : Nat
  probed : Option Nat
  deriving DecidableEq, Repr

/-- The LED block of a port beside its page (R380 to R401): knots of the curves; whether a commit was
taken since the last latch point; the master ramp (start, target, frames, step) and the level of the next
frame; Teff; gain codes in force and next, residuals next; sections running or waiting, the one on the
lanes first; levels of GOE, grayscale clock and row outputs, since when GOE is inactive; the next B-mode
plane and its instant; values sent for the incoming picture, values of the picture shown and of the one
before; diagnosis: ticks of verify age, channels, frames since the last diagnosis frame, whether this
eclipse is one, the channels probed, whether a probe waits; whether a chain test is asked for; the curve
and bank the generator fills with its settings and start; commanded charge of line slots not yet measured
(start, end, charge in ns·µA / 256; R416). -/
structure LedS where
  knots : List (Nat × Nat)
  fresh : Bool
  ramp : Option (Nat × Nat × Nat × Nat)
  level : Nat
  teff : Option Int
  g : List Nat
  gNext : List Nat
  rNext : List Nat
  run : List SeqRun
  goe : Bool
  gclk : Bool
  row : Nat
  goeOff : Nat
  plane : Option (Nat × Nat)
  sent : List (Nat × Nat)
  shown : List (Nat × Nat)
  ticks : Nat
  chans : List (Nat × ChanS)
  diagCount : Nat
  diag : Bool
  probed : List Nat
  probeWait : Bool
  chainReq : Bool
  gen : Option (Nat × Nat × Nat × Nat × Nat × Nat)
  charge : List (Nat × Nat × Nat)
  deriving DecidableEq, Repr

/-- A held trigger sample (R408): the channel, the front end that publishes it at the aperture, ST32 of
the aperture, and path offset, path gain, board offset and board gain in force there. -/
structure SnsHold where
  ch : Nat
  front : Nat
  at_ : Nat
  po : Int
  pg : Nat
  bo : Int
  bg : Nat
  deriving DecidableEq, Repr

/-- The stand-in of the spare (R412): none; connected to a channel and settling; publishing it; publishing
it while the channel settles after its step. -/
inductive StandIn where
  | none
  | settle (n : Nat)
  | on (n : Nat)
  | off (n : Nat)
  deriving DecidableEq, Repr

/-- The conversions of a channel since its last group of 2^A was complete (R406): their number, the number
and sum of the valid ones, whether the spare made the last one. -/
structure SenseGroup where
  count : Nat
  valid : Nat
  sum : Int
  standin : Bool
  deriving DecidableEq, Repr

/-- The sense block beside its page (R402 to R409): the configuration in force (R428), the number of the
sequence in progress on the 16 µs grid, the thermistor phase, conversions of each channel in the sequence
(25 for trigger conversions), groups, conversions since the last streamed one, the stand-in, the channel
the spare has adopted (R485), path gains in force, since when each die sensor disagrees (R486). -/
structure SenseS where
  cfg : List (Nat × Word)
  seq : Option Nat
  phase : Nat
  done : List (Nat × Nat)
  groups : List (Nat × SenseGroup)
  div : List (Nat × Nat)
  stand : StandIn
  adopted : Option Nat
  pg : List (Nat × Nat)
  dtsSince : List (Nat × Option Nat)
  deriving DecidableEq, Repr

/-- A calibration step in progress (R411 to R417): channel, step, whether a task runs it, its start on the
span clock, the step configuration at its start, whether a PATH step collects; the first conversion of a
pair; pairs or samples taken with their sum and sum of squares; sums of the regression; the window in
progress: its start, the charge and samples in it, whether it is skipped. -/
structure CalStep where
  chan : Nat
  step : Nat
  task : Bool
  began : Nat
  cfg : List (Nat × Word)
  ready : Bool
  first : Option Nat
  n : Nat
  s1 : Rat
  s2 : Rat
  sx : Rat
  sy : Rat
  sxx : Rat
  sxy : Rat
  syy : Rat
  winAt : Option Nat
  wy : Rat
  wn : Nat
  wbad : Bool
  deriving DecidableEq, Repr

/-- SET_INFO of a temperature set (Table 13-4): LAST_TJ, UPDATES, seconds of the last update. -/
structure SetInfo where
  tj : Int
  updates : Nat
  sec : Nat
  deriving DecidableEq, Repr

/-- The calibration unit beside its page (R410 to R427): the next position and the start of the last one;
the steps left of the automatic position and of the task in progress; the step in progress; the shadow
(set values and set information staged) and when it became dirty; the set information in force; the store
in progress (slot B or not, bytes, whether a task's, generation), the one held, when the last one ended,
whether one is due after an apply, whether a task asked for one after its apply; rejects OUT_OF_LIMITS in a
row per channel (R485); the fused offsets and path gains (R405, R414) by set and channel; results of the
boot PATH (R427). -/
structure CalS where
  nextPos : Nat
  posAt : Option Nat
  auto : List (Nat × Nat)
  task : List (Nat × Nat)
  step : Option CalStep
  shadow : List (Nat × Int)
  shadowInfo : List (Nat × SetInfo)
  dirtyAt : Nat
  info : List (Nat × SetInfo)
  store : Option (Bool × List Byte × Bool × Nat)
  storeHeld : Option Bool
  lastStore : Option Nat
  storeDue : Bool
  storeAfter : Bool
  rejects : List (Nat × Nat)
  fusePo : List (Nat × Int)
  fusePg : List (Nat × Nat)
  boot : List (Nat × Int)
  deriving DecidableEq, Repr

/-- A block or cell waiting in a transmit queue of a Camlek port (R443): a control block with its type and
content words, or a cell with the CL tick of its arrival and whether it is forwarded. -/
structure TxCell where
  cell : Cell
  at_ : Nat
  fwd : Bool
  deriving DecidableEq, Repr

/-- A Camlek port beside its page (R430 to R449): start of training; instant of the last TIME block; the lane map; the failed lane that waits
for the spare and whether the peer has reported it; the marker count; capability words received; exchanges
completed, number of the next exchange, send stamps of outstanding ones, the stamp of the last TIME block
sent; departure and arrival of the peer's last complete TIME block, arrival of its newest; the filtered
delay; link sequence numbers sent and expected; the retry buffer, replays, since when a retry is open;
queues of control blocks (priority class, type, content), control cells, FRAME cells; whether the link relocks,
the rate proposed and the rate agreed with their transits; units sent and received in the frame, the larger of them in the last frame, frames in
a row with low traffic; destinations detoured since the link was lost. Stamps are in units of 2^-16 ns. -/
structure ClS where
  trainAt : Nat
  timeAt : Nat
  map : List Nat
  failed : Option Nat
  peerSaw : Bool
  marks : Nat
  caps : List (Nat × Nat)
  exch : Nat
  xno : Nat
  sentAt : List (Nat × Nat)
  lastSent : Nat
  peerPair : Option (Nat × Nat)
  peerAt : Option Nat
  delay : Option Int
  seqTx : Nat
  seqRx : Nat
  retry : List (Nat × Cell)
  replay : List (Nat × Cell)
  retryAt : Option Nat
  blocks : List (Nat × Nat × List Nat)
  ctl : List TxCell
  frames : List TxCell
  relock : Bool
  proposed : Option (Nat × Nat)
  agreed : Option (Nat × Nat)
  txUnits : Nat
  rxUnits : Nat
  last : Nat
  lowRun : Nat
  detoured : List Nat
  deriving DecidableEq, Repr

/-- The group a device belongs to (R431 to R448): DEVICE_IDs of its members as far as known, links of each
member (member, port, peer member), own origin sequence number, origin sequence numbers seen of each
origin, newest first; candidates heard in the election in progress and how many it waits for; since when
there is no path to the planet; the rate change and the step that a control cell has named; whether the device
has joined the planet and not yet taken its rate (R440). -/
structure GroupS where
  ids : List Nat
  links : List (Nat × Nat × Nat)
  oseq : Nat
  seen : List (Nat × List Nat)
  cands : List (Nat × Nat)
  expect : Nat
  lossAt : Option Nat
  rate : Option (Nat × Nat × Nat)
  step : Option (Nat × Nat)
  joining : Bool
  deriving DecidableEq, Repr

/-- A frame as a receive window has it (R445): units written, and length and EMPTY of its FRAME_END. -/
structure RxFrame where
  units : List Nat
  ended : Option (Nat × Bool)
  deriving DecidableEq, Repr

/-- What the KEY unit's latch copies of the SRC slot (R462): state, policy, origin, parent, LOADED,
CLEAR_ANCESTRY, material. -/
structure KeySlot where
  state : Nat
  policy : Nat
  origin : Nat
  parent : Nat
  loaded : Bool
  clear : Bool
  mat : List Byte
  deriving DecidableEq, Repr

/-- The key store beside its page (R450 to R475): the root and whether its check value holds, the
private identity key (0 for none), the material of the slots, the tamper sources whose condition holds now,
the SRC slot the KEY unit has latched. -/
structure KeyS where
  root : List Byte
  rootOk : Bool
  ident : Nat
  mat : List (Nat × List Byte)
  lines : List Nat
  latch : Option KeySlot
  deriving DecidableEq, Repr


/-- Adaptive core voltage beside the SPEED page (R482, R483): the command on the PMBus with its failures
so far, whether commands have stopped after a failure, the instant of the last command, the start of the
period, whether the voltage moved up in it, the fewest levels shed in a frame of it, whether the up
condition holds, whether VOUT_MODE is one of the formats the master accepts. -/
structure AvsS where
  inFlight : Option (Nat × Nat)
  failed : Bool
  lastCmd : Nat
  periodAt : Nat
  moved : Bool
  minShed : Option Nat
  up : Bool
  format : Bool
  deriving DecidableEq, Repr


/-- The groomer, boot and service life beside their pages (R476 to R495): passes in a row of each retired
engine, engines loaded for a LOST slot and waiting for a frame start, corrected errors of each segment in the
hour (4 · engine + segment) and of each DRAM row in the scrub pass (channel, row), DRAM rows being copied to a
runtime spare and rows on one, when self-refresh was entered and the time spent in it, whether a die sensor
has read above 95 °C in the hour, the largest normalised replica step time of the hour in progress and of the
last hour with its engine, the next record of the wear ring, POWER_HOURS at the last record, whether the
RECOVERY_N strap stops the boot, the boot ROM version, whether the last MSPI write was refused, whether an IEEE
1149.1 test instruction that reaches the banks is selected (R227), when reset was released on the span clock. -/
structure GroomS where
  passes : List (Nat × Nat)
  returned : List (Nat × Nat)
  segCorr : List (Nat × Nat)
  dramCorr : List (Nat × Nat × Nat)
  dramMirror : List (Nat × Nat)
  dramSpared : List (Nat × Nat)
  srAt : Option Nat
  srUnits : Nat
  hot : Bool
  worst : Option (Rat × Nat)
  lastWorst : Option (Rat × Nat)
  wearHead : Nat
  lastHours : Nat
  strapStop : Bool
  romVersion : Nat
  refused : Bool
  tapBanks : Bool
  releasedAt : Nat
  deriving DecidableEq, Repr

/-- Why the block stops. No command of the spec stops the block: every fault the spec describes is a
state the block goes on from, so no meaning raises this one; it stands for a run that a later version
may have to stop (safe: the model stops where the hardware goes on). -/
inductive Fault where
  /-- Raised by no meaning of this model (safe). -/
  | stopped
  deriving DecidableEq, Repr

/-- Why a command has no meaning. -/
inductive Refusal where
  /-- Raised by `exec` for a command that has no meaning yet (safe). -/
  | notModelled (mnemonic : String)
  deriving DecidableEq, Repr

/-- The state of the block. `pending` is the queue of commands; `out` what the block has sent, oldest
first; `free` counts the free values taken (log entry 2); all three are the model's own. -/
structure State where
  pending : List Instr
  out : List Out
  free : Nat
  regs : List (Nat × Word)
  inForce : List (Nat × Word)
  snaps : List (Nat × Word)
  heldLo : List (Nat × Option Word)
  commits : List (Nat × CommitUnit)
  recQ : List RecReq
  host : HostS
  time : TimeS
  trig : TrigS
  engs : List (Nat × EngS)
  plan : PlanS
  banks : List (Nat × BankS)
  bankMem : List (Nat × DWord)
  bankErr : List (Nat × Nat)
  bankBusy : Option Nat
  dram : List Host.Cell
  dramErr : List (Nat × Nat)
  marks : List Mark
  snsHeld : Option SnsHold
  sched : SchedS
  fifos : List (Nat × FifoS)
  evtBuf : List (DWord × DWord × Bool)
  evtDrop : Bool
  cmds : List CmdS
  hdmaDone : Nat
  nets : List (Nat × NetS)
  wheel : WheelS
  ingests : List (Nat × IngestS)
  egresses : List (Nat × List EgressJob)
  sacn : SacnS
  dmxs : List (Nat × DmxS)
  scans : List (Nat × ScanS)
  leds : List (Nat × LedS)
  sense : SenseS
  cal : CalS
  cls : List (Nat × ClS)
  group : GroupS
  rxFrames : List (Nat × RxFrame)
  key : KeyS
  nvm : List Host.Cell
  nvmPend : List (Nat × List Byte)
  nvmMap : List (Nat × Nat)
  mainPower : Bool
  avs : AvsS
  dtsOff : List Nat
  engTest : List Nat
  groom : GroomS
  deriving DecidableEq, Repr

/-- A page's commit unit with nothing armed (R70). -/
def CommitUnit.idle : CommitUnit := ⟨0, 0, false, false, none, 0⟩

/-- The PCIe endpoint after reset: MSI-X off, as PCIe resets it (log entry 3). -/
def HostS.reset : HostS := ⟨false, false, false, false, [], [], []⟩

/-- The time base after reset: it counts from zero with nothing measured (R87). -/
def TimeS.reset : TimeS where
  now := 0
  res := 0
  mono := 0
  integ := 0
  lastO := 0
  clampedLast := false
  servoLocked := false
  lockRun := 0
  unlockRun := 0
  prevSample := none
  adjHist := []
  everLocked := false
  lastAccepted := none
  outRun := 0
  masters := []
  inUse := none
  lastGm := none
  lastPort := 0
  syncWait := none
  lastSync := none
  delayReq := none
  lastReqAt := none
  peer := none
  delay := none
  delayPath := none
  lastAnnounce := 0
  held := none
  carveOpen := false
  carveSoft := false
  swRem := 0
  swForward := false
  glideUnits := 0
  glidePassed := false
  lastAnchor := 0
  lastSource := 0
  transit := none
  nextTransit := none
  seam := none
  fsyncEnd := none
  ltcLast := none
  ltcRun := 0
  ltcRate := 0
  ltcAt := 0
  fsyncEdgeAt := none
  stepSkip := false

/-- A trigger that has never been armed. -/
def TrgUnit.idle : TrgUnit := ⟨0, true, true⟩

/-- An engine after reset: registers read 0 before their first write (log entry 3), instruction
memory reads NOP, nothing loaded. -/
def EngS.reset : EngS where
  v := []
  s := []
  p := []
  parity := []
  pc := 0
  branch := none
  inDelay := false
  loops := []
  pend := []
  step := 0
  imem := []
  imemErr := []
  tab := none
  banks := []
  windows := []
  port := none
  shed := 0
  atFend := false
  first := false
  fenceMask := 0
  mark := none
  window := none
  sc0 := ⟨[], 0⟩
  sc1 := ⟨[], 0⟩
  padFrame := 0
  padLap := 0
  stripeWait := false
  lastIssue := 0

/-- The plan sequencer and loader after reset: no plan. -/
def PlanS.reset : PlanS where
  active := none
  staged := none
  loading := none
  stopOk := false
  stagedSeg := []
  segDue := []
  copyDue := []
  stopWriting := false
  writeDue := []
  newPlan := false
  oldBanks := []
  frameDue := none
  frames := []
  shed := 0
  ok := 0
  wasLow := false
  t := 0
  maxSample := none
  notices := []
  reports := []
  watch := []
  frameAt := 0
  stripeNext := 0
  heldFaults := []
  planes := []
  restoring := []
  reserve := []
  checked := none
  mismatch := false
  window := []

/-- A bank with nothing borrowed, stalled or mirrored. -/
def BankS.idle : BankS := ⟨none, [], none, none, [], [], [], []⟩

/-- The scheduler after reset: every context FREE, nothing listed. -/
def SchedS.reset : SchedS := ⟨[], [], [], [], [], [], [], [], [], [], 0, [], [], [], []⟩

/-- An empty FIFO. -/
def FifoS.idle : FifoS := ⟨[], false, 0, false, [], none, false, false⟩

/-- A port with nothing in progress; the pass count of a completion ring starts at 1 (Table 09-2). -/
def NetS.idle : NetS := ⟨[], [], 128, 0, 0, 0, 0, 0, 0, 0, [], [], []⟩

/-- An ingest unit that has taken nothing. -/
def IngestS.idle : IngestS := ⟨none, 0, [], false, 0, [], 1, [], [], [], [], none, false, 0, []⟩

/-- The sACN unit with nothing received or sent. -/
def SacnS.idle : SacnS := ⟨[], 0, none, [], [], [], [], []⟩

/-- A universe nothing has been received for. -/
def SacnUniv.idle : SacnUniv := ⟨[], List.replicate 512 0, 0, none, none⟩

/-- A DMX port with nothing sent or received. -/
def DmxS.idle : DmxS := ⟨0, 0, none, none, none, 0, none, none, 0, none, none, [], none⟩

/-- A scan port that is off. -/
def ScanS.idle : ScanS := ⟨false, false, [], [], 0, 0, 0, 0, 0, .none, false, 0, 0, 16, 0, 0, 0, false, false, false, false, false, false, false⟩

/-- A channel nothing is known of. -/
def ChanS.idle : ChanS := ⟨0, 0, 0, 0, 0, none⟩

/-- An LED block that has sent nothing; the master level is 65,535 (Table 12-4). -/
def LedS.idle : LedS :=
  ⟨[], false, none, 65535, none, [255, 255, 255, 255], [255, 255, 255, 255], [65536, 65536, 65536, 65536], [], false, false, 0, 0, none,
    [], [], 0, [], 0, false, [], false, false, none, []⟩

/-- The sense block after reset: nothing converted, no stand-in, path gains 1 (log entry 3). -/
def SenseS.reset : SenseS := ⟨[], none, 0, [], [], [], .none, none, [], []⟩

/-- The calibration unit after reset: no step, an empty shadow. -/
def CalS.reset : CalS := ⟨0, none, [], [], none, [], [], 0, [], none, none, none, false, false, [], [], [], []⟩

/-- A Camlek port that is DOWN. -/
def ClS.idle : ClS :=
  ⟨0, 0, [0, 1, 2, 3, 4], none, false, 0, [], 0, 0, [], 0, none, none, none, 0, 0, [], [], none, [], [], [], false, none, none, 0, 0, 0, 0, []⟩

/-- A lone device. -/
def GroupS.reset : GroupS := ⟨[], [], 0, [], [], 0, none, none, none, false⟩

/-- The key store after reset: no root, every slot empty. -/
def KeyS.reset : KeyS := ⟨List.replicate 32 0, false, 0, [], [], none⟩


/-- Adaptive voltage after reset. -/
def AvsS.reset : AvsS := ⟨none, false, 0, 0, false, none, false, true⟩


/-- The groomer after reset of a new device: nothing retired, spared or recorded. -/
def GroomS.reset : GroomS := ⟨[], [], [], [], [], [], none, 0, false, none, none, 0, 0, false, 0, false, false, 0⟩

/-- The block right after reset: every register at the value of its table, memories unlisted, no
command waiting. -/
def State.reset : State where
  pending := []
  out := []
  free := 0
  regs := []
  inForce := []
  snaps := []
  heldLo := []
  commits := []
  recQ := []
  host := HostS.reset
  time := TimeS.reset
  trig := ⟨[], [], [], []⟩
  engs := []
  plan := PlanS.reset
  banks := []
  bankMem := []
  bankErr := []
  bankBusy := none
  dram := []
  dramErr := []
  marks := []
  snsHeld := none
  sched := SchedS.reset
  fifos := []
  evtBuf := []
  evtDrop := false
  cmds := []
  hdmaDone := 0
  nets := []
  wheel := ⟨0, []⟩
  ingests := []
  egresses := []
  sacn := SacnS.idle
  dmxs := []
  scans := []
  leds := []
  sense := SenseS.reset
  cal := CalS.reset
  cls := []
  group := GroupS.reset
  rxFrames := []
  key := KeyS.reset
  nvm := []
  nvmPend := []
  nvmMap := []
  mainPower := true
  avs := AvsS.reset
  dtsOff := []
  engTest := []
  groom := GroomS.reset

end Sys2Proof.Machine
end

