-- ==== Sys2Proof/Machine/Store.lean ====
section
/-! DEFINITION. Sparse storage: a list of key and value pairs in one canonical form (keys strictly rising, no entry equal to what an unlisted key reads as). Every register file, buffer and memory of the state is held this way. -/

namespace Sys2Proof.Machine

variable {β : Type}

/-- The value at key `k`; an unlisted key reads as `d k`. -/
def mapGet (d : Nat → β) (m : List (Nat × β)) (k : Nat) : β :=
  match m with
  | [] => d k
  | p :: t => if p.1 = k then p.2 else mapGet d t k

/-- The entries of `m` without key `k`. -/
def mapErase (m : List (Nat × β)) (k : Nat) : List (Nat × β) :=
  m.filter fun p => p.1 != k

/-- `(k, v)` put at its place among rising keys. -/
def mapInsert (m : List (Nat × β)) (k : Nat) (v : β) : List (Nat × β) :=
  match m with
  | [] => [(k, v)]
  | p :: t => if k < p.1 then (k, v) :: p :: t else p :: mapInsert t k v

/-- `m` with `v` at key `k`: an entry equal to what the unlisted key reads as is removed. -/
def mapSet [DecidableEq β] (d : Nat → β) (m : List (Nat × β)) (k : Nat) (v : β) : List (Nat × β) :=
  if v = d k then mapErase m k else mapInsert (mapErase m k) k v

/-- The canonical form: strictly rising keys, no entry equal to the unlisted value. -/
def mapWf [DecidableEq β] (d : Nat → β) (m : List (Nat × β)) : Bool :=
  match m with
  | [] => true
  | p :: t => decide (p.2 ≠ d p.1) && (t.all fun q => decide (p.1 < q.1)) && mapWf d t

/-- `n` values written at keys `k`, `k + 1`, … -/
def mapSetList [DecidableEq β] (d : Nat → β) (m : List (Nat × β)) (k : Nat) (vs : List β) : List (Nat × β) :=
  match vs with
  | [] => m
  | v :: t => mapSetList d (mapSet d m k v) (k + 1) t

/-- The `n` values at keys `k`, `k + 1`, … -/
def mapGetList (d : Nat → β) (m : List (Nat × β)) (k n : Nat) : List β :=
  (List.range n).map fun i => mapGet d m (k + i)

/-- Little-endian value of bytes (R16). -/
def bytesVal (bs : List Byte) : Nat :=
  match bs with
  | [] => 0
  | b :: t => b.toNat + 256 * bytesVal t

/-- The `n` bytes of a number, least significant first (R16). -/
def valBytes (n v : Nat) : List Byte :=
  (List.range n).map fun i => BitVec.ofNat 8 (v / 2 ^ (8 * i))

/-- Big-endian value of bytes, for fields an outside standard defines (R16). -/
def bytesValBE (bs : List Byte) : Nat := bytesVal bs.reverse

/-- `n` bytes at `off`, least significant first. -/
def leField (bs : List Byte) (off n : Nat) : Nat := bytesVal ((bs.drop off).take n)

end Sys2Proof.Machine
end

