-- ==== Sys2Proof/Machine/Ops.lean ====
section
/-! DEFINITION. The named operations over registers, time, events, vectors and free values that every command's effect is built from. -/

namespace Sys2Proof.Machine

open Sys2Proof

/-! Registers and fields (R13, R18). -/

/-- Bit `i` of a field, as a field of one bit. -/
def Fld.one (f : Fld) (i : Nat) : Fld := { f with lo := f.lo + i, w := 1 }

/-- The register at place `k`, as a read returns it; for a shadowed field this is the shadow (R68). -/
def State.reg (s : State) (k : Nat) : Word := mapGet regReset s.regs k

/-- `s` with `v` in the register at place `k`. -/
def State.setReg (s : State) (k : Nat) (v : Word) : State :=
  { s with regs := mapSet regReset s.regs k v }

/-- The value of a field. -/
def State.fld (s : State) (f : Fld) : Nat := natBits (s.reg f.key).toNat f.lo f.w

/-- A one-bit field as a truth value. -/
def State.bit (s : State) (f : Fld) : Bool := s.fld f == 1

/-- The value of a field read as signed. -/
def State.sfld (s : State) (f : Fld) : Int := natSigned f.w (s.fld f)

/-- `s` with a field set to the low bits of `v`. -/
def State.setFld (s : State) (f : Fld) (v : Nat) : State :=
  s.setReg f.key (BitVec.ofNat 32 (natSetBits (s.reg f.key).toNat f.lo f.w v))

/-- `s` with a field set from a truth value. -/
def State.setBit (s : State) (f : Fld) (b : Bool) : State := s.setFld f (if b then 1 else 0)

/-- `s` with a field set to the two's complement of `i`. -/
def State.setInt (s : State) (f : Fld) (i : Int) : State := s.setFld f (intBits f.w i)

/-- A counter field advanced by `n`, modulo its width. -/
def State.incFld (s : State) (f : Fld) (n : Nat) : State := s.setFld f (s.fld f + n)

/-- A counter field advanced by `n`, held at its largest value. -/
def State.satFld (s : State) (f : Fld) (n : Nat) : State :=
  s.setFld f (min (s.fld f + n) (2 ^ f.w - 1))

/-- The value in force of a shadowed field (R68). -/
def State.act (s : State) (f : Fld) : Nat :=
  natBits (mapGet regReset s.inForce f.key).toNat f.lo f.w

/-- A one-bit shadowed field in force as a truth value. -/
def State.actBit (s : State) (f : Fld) : Bool := s.act f == 1

/-- The value in force of a shadowed field read as signed. -/
def State.actInt (s : State) (f : Fld) : Int := natSigned f.w (s.act f)

/-- `s` with a shadowed field in force changed by the block itself. -/
def State.setAct (s : State) (f : Fld) (v : Nat) : State :=
  let w : Word := BitVec.ofNat 32 (natSetBits (mapGet regReset s.inForce f.key).toNat f.lo f.w v)
  { s with inForce := mapSet regReset s.inForce f.key w }

/-- A value of two registers named _LO and _HI (R62). -/
def State.pair (s : State) (lo hi : Fld) : Nat := s.fld lo + s.fld hi * 2 ^ 32

/-- The value in force of a shadowed pair. -/
def State.actPair (s : State) (lo hi : Fld) : Nat := s.act lo + s.act hi * 2 ^ 32

/-- A value written into two registers named _LO and _HI. -/
def State.setPair (s : State) (lo hi : Fld) (v : Nat) : State :=
  (s.setFld lo v).setFld hi (v / 2 ^ 32)

/-! Time (R85, R89). -/

/-- Units of 2^-16 ns in a nanosecond. -/
def unitsPerNs : Nat := 65536

/-- The full nanosecond count N. -/
def State.nowNs (s : State) : Nat := s.time.now / unitsPerNs

/-- ST32 of an instant given as a full nanosecond count (R89). -/
def st32Of (ns : Nat) : Nat := ns % 2 ^ 32

/-- Live ST32. -/
def State.st32 (s : State) : Nat := st32Of s.nowNs

/-- The span clock in whole nanoseconds. -/
def State.monoNs (s : State) : Nat := s.time.mono / unitsPerNs

/-- The frame period in force as NUM and DEN (R26). -/
def State.rate (s : State) : Nat × Nat :=
  (s.act TIME_FRAME_RATE_NUM_NUM, s.act TIME_FRAME_RATE_DEN_DEN)

/-- Units of 2^-16 ns in a second. -/
def unitsPerSec : Nat := 65536000000000

/-- The instant of transit `n` at rate NUM / DEN, truncated to 2^-16 ns (R27, R29). -/
def transitInstant (rate : Nat × Nat) (n : Nat) : Nat := n * rate.2 * unitsPerSec / rate.1

/-- The start of stripe `q` of transit `n`, without the stripe guard (R53, R55). -/
def stripeInstant (rate : Nat × Nat) (st n q : Nat) : Nat := transitInstant (rate.1 * st, rate.2) (n * st + q)

/-- The emitting transit of plan frame `f` (R184). -/
def PlanTabs.emitTransit (p : PlanTabs) (f : Nat) : Nat := if p.stripe then f else f + 1

/-- The plan frame that starts with transit `n` (R202): n in STANDARD, n + 1 in STRIPE. -/
def PlanTabs.frameOf (p : PlanTabs) (n : Nat) : Nat := if p.stripe then n + 1 else n

/-- The instant the launches of emitting transit `t` count from (R184, R55). -/
def PlanTabs.launchBase (p : PlanTabs) (rate : Nat × Nat) (t : Nat) : Nat :=
  if p.stripe then stripeInstant rate p.stripes t 1 else transitInstant rate t

/-- The number of the first alignment point at or after `t` + P / 2, `t` being `tn` / `td` seconds
(R38, R87, R106). -/
def firstAlignment (rate : Nat × Nat) (tn td : Nat) : Nat :=
  -- n ≥ t · NUM / DEN + 1 / 2
  let num := 2 * tn * rate.1 + td * rate.2
  let den := 2 * td * rate.2
  (num + den - 1) / den

/-- The frame in progress: the number of the latest transit passed (R28, R31). -/
def State.frameNo (s : State) : Nat := match s.time.transit with | some t => t.1 | none => 0

/-- Low 32 bits of a frame number (R31). -/
def lo32 (n : Nat) : Nat := n % 2 ^ 32

/-! Outputs and free values. -/

/-- `s` after sending `o`. -/
def State.emit (s : State) (o : Out) : State := { s with out := s.out ++ [o] }

/-- The next free value (log entry 2). -/
def State.freeVal (s : State) : Nat := Config.freeValue s.free

/-- `s` after taking a free value. -/
def State.takeFree (s : State) : State := { s with free := s.free + 1 }

/-! Blocks and event bits. -/

/-- The blocks of the elastic core, whose records carry the time of taking (R81). -/
def isCore (p : Nat) : Bool :=
  let b := pageBase p
  b == 0x10 || b == 0x20 || b == 5 || b == 6 || b == 0x40 || b == 12

/-- The event bits a page defines (Table 02-4 and the blocks' event tables). -/
def eventMask (p : Nat) : Nat :=
  let b := pageBase p
  let hi := -- number of block events from bit 8 upward
    if b == 0 then 1 else if b == 1 then 1 else if b == 2 then 12 else if b == 3 then 4
    else if b == 4 then 14 else if b == 5 then 5 else if b == 7 then 3 else if b == 8 then 2
    else if b == 9 then 2 else if b == 10 then 8 else if b == 11 then 4 else if b == 12 then 8
    else if b == 13 then 5 else if b == 0x10 then 2 else if b == 0x20 then 7
    else if p == 0x40 then 12 else if b == 0x40 then 8 else if b == 0x50 then 11
    else if b == 0x60 then 4 else if b == 0x68 then 1 else if b == 0x70 then 3
    else if b == 0x80 then 5 else if b == 0x90 then 6 else if b == 0xA0 then 9
    else if b == 0xB0 then 6 else 0
  (if blockType p = 0 then 0 else 0x7F) + (2 ^ hi - 1) * 256 + if p = 0xB0 then 0x70000 else 0

/-- A page is pending while EVENT AND EVENT_EN is not zero (R77). -/
def State.pagePending (s : State) (p : Nat) : Bool :=
  (s.reg (regKey p 0x10) &&& s.reg (regKey p 0x14)) != 0

/-- MSI-X vector a page is routed to (R77, Table 02-6). -/
def State.routeVector (s : State) (p : Nat) : Nat := s.fld (HOST_PAGE_ROUTE_VECTOR.nth p)

/-- Whether a vector is armed (R78). -/
def State.vecArmed (s : State) (v : Nat) : Bool :=
  if v < 32 then (s.reg HOST_VEC_ARM_LO_ARM.key).getLsbD v
  else (s.reg HOST_VEC_ARM_HI_ARM.key).getLsbD (v - 32)

/-- `s` with a vector armed or disarmed. -/
def State.setVecArm (s : State) (v : Nat) (on : Bool) : State :=
  let f := if v < 32 then HOST_VEC_ARM_LO_ARM else HOST_VEC_ARM_HI_ARM
  let b : Word := BitVec.ofNat 32 (2 ^ (v % 32))
  s.setReg f.key (if on then s.reg f.key ||| b else s.reg f.key &&& ~~~ b)

/-- The pending-bit array bit of a vector. -/
def State.setPba (s : State) (v : Nat) (on : Bool) : State :=
  let k := regKey 1 (0xC00 + 4 * (v / 32))
  let b : Word := BitVec.ofNat 32 (2 ^ (v % 32))
  s.setReg k (if on then s.reg k ||| b else s.reg k &&& ~~~ b)

/-- Whether the pending-bit array holds a vector's message back. -/
def State.pba (s : State) (v : Nat) : Bool :=
  (s.reg (regKey 1 (0xC00 + 4 * (v / 32)))).getLsbD (v % 32)

/-- Whether a vector is masked, by its table entry or by the function mask. -/
def State.vecMasked (s : State) (v : Nat) : Bool :=
  s.host.fnMask || (s.reg (regKey 1 (0x80C + 16 * v))).getLsbD 0

/-- The message of a vector's table entry. -/
def State.sendMsix (s : State) (v : Nat) : State :=
  let e := 0x800 + 16 * v
  s.emit (.msix ((s.reg (regKey 1 e)).toNat + (s.reg (regKey 1 (e + 4))).toNat * 2 ^ 32)
    (s.reg (regKey 1 (e + 8))).toNat)

/-- The vector arbiter (R78): an armed vector with a pending routed page sends its message and
disarms; a masked one is held back in the pending-bit array. -/
def State.tryVector (s : State) (v : Nat) : State :=
  if s.vecArmed v && s.host.msixEn &&
      (List.range 256).any (fun p => s.fld (HOST_PAGE_ROUTE_VECTOR.nth p) == v &&
        s.bit (HOST_PAGE_ROUTE_MSIX_EN.nth p) && s.pagePending p) then
    let s1 := s.setVecArm v false
    if s1.vecMasked v then s1.setPba v true else s1.sendMsix v
  else s

/-- IRQ_N is driven low while any page with IRQ_EN is pending (R79): the ball's level. -/
def State.irqN (s : State) : Bool :=
  !((List.range 256).any fun p => s.bit (HOST_PAGE_ROUTE_IRQ_EN.nth p) && s.pagePending p)

/-- Brings HOST.PEND and the vector of page `p` up to date (R77, R78). -/
def State.refresh (s : State) (p : Nat) : State :=
  let f : Fld := { HOST_PEND_PEND.nth (p / 32) with lo := p % 32, w := 1 }
  (s.setBit f (s.pagePending p)).tryVector (s.routeVector p)

/-- Queues an event record at the event arbiter if the page records (R80). -/
def State.pushRec (s : State) (page code arg : Nat) (forced : Bool) (at_ : Nat) : State :=
  if s.bit (HOST_PAGE_ROUTE_RECORD_EN.nth page) then
    { s with recQ := s.recQ ++ [⟨page, code, arg % 2 ^ 41, forced, at_, !isCore page⟩] }
  else s

/-- A record-only event of code 0x020 and above (R80). -/
def State.recordOnly (s : State) (page code arg : Nat) : State :=
  s.pushRec page code arg false s.nowNs

/-- An occurrence of EVENT[k] (R76, R80), forced or real, with its record if enabled. -/
def State.occur (s : State) (page k arg : Nat) (forced : Bool) : State :=
  let ek := regKey page 0x10
  let s1 := s.setReg ek (s.reg ek ||| BitVec.ofNat 32 (2 ^ k))
  let s2 := if (s1.reg (regKey page 0x14)).getLsbD k then s1.pushRec page k arg forced s1.nowNs else s1
  s2.refresh page

/-- A real occurrence of EVENT[k]. -/
def State.raise (s : State) (page k arg : Nat) : State := s.occur page k arg false

/-- A discarded or aborted host access (R58, R82). -/
def State.badAccess (s : State) (addr : Nat) : State :=
  (s.incFld HOST_BAD_ACCESS_COUNT 1).raise 1 8 addr

/-! Writes of registers (R18 to R20, R65, R66). -/

/-- The code of a requester in WRITE_REFUSED (Table 02-4). -/
def reqCode (q : Req) : Nat := match q with | .pcie => 1 | .mspi => 2

/-- Whether an offset holds a register with at least one writable field (R66). -/
def writableOff (p off : Nat) : Bool :=
  match regRow? p off with
  | none => false
  | some r => r.fields.any fun f => f.acc != .ro

/-- Whether OWNER.HOLDER lets a requester write a register other than OWNER (R65). -/
def State.mayWrite (s : State) (q : Req) (p : Nat) : Bool :=
  let h := s.fld (PG_OWNER_HOLDER.inst p)
  match q with
  | .pcie => h != 2
  | .mspi => h != 1

/-- A write refused under OWNER.HOLDER (R65). -/
def State.refuseWrite (s : State) (q : Req) (p off : Nat) : State :=
  s.raise p 2 (off + reqCode q * 2 ^ 12)

/-- An accepted write counts in PAGE_SEQ, in the same step as the write (R66, R67). -/
def State.countWrite (s : State) (p : Nat) : State := s.incFld (PG_PAGE_SEQ_SEQ.inst p) 1

/-- What becomes of an access before its page arbiter: served, no link yet, the answer of recovery mode,
that of a reserved page (R63), or held behind a push that stalls (R269). -/
inductive Gate where
  | served | silent | aborts | reserved | held
  deriving DecidableEq, Repr

/-- Whether PCIe requests wait behind a push that holds its posted request (R269). -/
def State.pcieHeld (s : State) : Bool :=
  !s.host.held.isEmpty || s.fifos.any fun p => p.2.stalls.any fun k => k.req == 1

/-- A PCIe request waits behind a push (R269). -/
def State.hold269 (s : State) (h : HeldReq) : State := { s with host := { s.host with held := s.host.held ++ [h] } }

/-- The gate of PCIe's BARs: configuration only in recovery mode, nothing before the end of phase PLL (R478, R481). -/
def State.hostGate (s : State) : Gate :=
  if s.pcieHeld then .held
  else if s.bit SYS_STATUS_RECOVERY then .aborts else if s.fld SYS_BOOT_PHASE_PHASE < 3 then .silent else .served

/-- The gate of an access to page `p`: until READY, PCIe is served only on SYS and HOST. -/
def State.gate (s : State) (q : Req) (p : Nat) : Gate :=
  match q with
  | .mspi => if blockType p = 0 then .reserved else .served
  | .pcie => match s.hostGate with
    | .served => if blockType p = 0 ∨ (s.fld SYS_BOOT_PHASE_PHASE ≠ 15 ∧ 2 ≤ p) then .reserved else .served
    | g => g

/-- Whether OWNER.HOLDER refuses a write (R65): of MSPI to any register, of PCIe to any offset of the page. -/
def State.barred (s : State) (q : Req) (p off : Nat) : Bool :=
  !s.mayWrite q p && (q == .pcie || (regRow? p off).isSome)

/-- A write on its way to page `p`: on a reserved page it is discarded and counted (R63), behind a stalled push it waits. -/
def State.passGate (s : State) (q : Req) (p off : Nat) (v : Word) (f : State → State) : State :=
  match s.gate q p with
  | .served => f s
  | .reserved => s.badAccess (p * 4096 + off)
  | .silent => s
  | .aborts => s
  | .held => s.hold269 (.write p off v)

/-- A write at its page arbiter: OWNER.HOLDER is checked (R65), reserved offsets and registers with nothing to
write are left alone (R20), an accepted write is counted (R66), and then has its effect. -/
def State.accept (s : State) (q : Req) (p off : Nat) (eff : State → State) : State :=
  if s.barred q p off then s.refuseWrite q p off
  else if writableOff p off then eff (s.countWrite p)
  else s

/-- A write of `v` by a requester, with its effect once it is accepted. -/
def State.write (s : State) (q : Req) (p off : Nat) (v : Word) (eff : State → State) : State :=
  s.passGate q p off v fun t => t.accept q p off eff

/-- A read on its way to page `p`: a reserved page reads 0 (R63). -/
def State.serveRead (s : State) (q : Req) (p off : Nat) (f : State → State) : State :=
  match s.gate q p with
  | .served => f s
  | .reserved => s.emit (.data q [0])
  | .silent => s
  | .aborts => s.emit .abort
  | .held => s.hold269 (.read p off)

/-- One field of a plain write (R18): RW takes the bits, W1C clears, W1S sets, RO and WO hold nothing. -/
def storeField (old v : Word) (f : FieldRow) : Word :=
  let part := natBits v.toNat f.lo f.w
  match f.acc with
  | .rw => BitVec.ofNat 32 (natSetBits old.toNat f.lo f.w part)
  | .w1c => old &&& ~~~ (BitVec.ofNat 32 (part * 2 ^ f.lo))
  | .w1s => old ||| BitVec.ofNat 32 (part * 2 ^ f.lo)
  | .ro => old
  | .wo => old

/-- WO fields: a write-only field reads 0, so nothing of it is kept (R18). The spec's WO fields act at
the write; their register rows are written RW with access WO. -/
def storeWord (r : RegRow) (old v : Word) : Word := r.fields.foldl (fun w f => storeField w v f) old

/-- The plain effect of a write: the fields take their bits; a shadowed field makes DIRTY 1 (R68). -/
def State.storeReg (s : State) (p off : Nat) (v : Word) : State :=
  match regRow? p off with
  | none => s
  | some r =>
    let s1 := s.setReg (regKey p off) (storeWord r (s.reg (regKey p off)) v)
    if r.fields.any (fun f => f.sh) then s1.setBit (PG_COMMIT_STATUS_DIRTY.inst p) true else s1

/-! Snapshots and held writes (R62). -/

/-- Place of a requester's own copy of a register. -/
def reqKey (q : Req) (k : Nat) : Nat := reqCode q * 2 ^ 24 + k

/-- A requester's snapshot of the register at place `k`; 0 before its first (log entry 3). -/
def State.snap (s : State) (q : Req) (k : Nat) : Word := mapGet (fun _ => 0) s.snaps (reqKey q k)

/-- `s` with a requester's snapshot taken. -/
def State.setSnap (s : State) (q : Req) (k : Nat) (v : Word) : State :=
  { s with snaps := mapSet (fun _ => 0) s.snaps (reqKey q k) v }

/-- A requester's held write of a NAME_LO register. -/
def State.heldOf (s : State) (q : Req) (k : Nat) : Option Word :=
  mapGet (fun _ => none) s.heldLo (reqKey q k)

/-- `s` with a held write of a NAME_LO register set or dropped. -/
def State.setHeld (s : State) (q : Req) (k : Nat) (v : Option Word) : State :=
  { s with heldLo := mapSet (fun _ => none) s.heldLo (reqKey q k) v }

/-- The registers named NAME_LO with NAME_HI four bytes on (R62): first page of the block, offset,
distance and number of the repeated ones. VEC_ARM is the exception R62 names; the time set, FIFO and
timestamp snapshots are written out where they are used. -/
def pairRows : List (Nat × Nat × Nat × Nat) :=
  [(2, 0x208, 0, 1), (2, 0x0AC, 0, 1), (2, 0x09C, 0, 1), (2, 0x114, 0, 1), (4, 0x040, 0, 1),
   (0x10, 0x060, 0, 1), (0x40, 0x044, 0, 1), (0x50, 0x078, 0, 1), (0x60, 0x04C, 0, 1),
   (0x68, 0x050, 0, 1), (0x70, 0x0A0, 0, 1), (0x70, 0x0AC, 0, 1), (0x80, 0x050, 0, 1),
   (0x80, 0x05C, 0, 1), (0x80, 0x064, 0, 1), (0x90, 0x070, 0, 1), (0xA0, 0x0AC, 0, 1),
   (0xB0, 0x054, 0, 1), (0xB0, 0x208, 0, 1), (0xB0, 0x210, 0, 1), (0xB0, 0x240, 0x10, 16)]

/-- Whether offset `off` of page `p` is the _LO register of a pair. -/
def isPairLo (p off : Nat) : Bool :=
  pairRows.any fun r => pageBase p == r.1 && r.2.1 ≤ off &&
    (if r.2.2.2 = 1 then off == r.2.1
     else (off - r.2.1) % r.2.2.1 == 0 && (off - r.2.1) / r.2.2.1 < r.2.2.2)

/-- Whether offset `off` is the _HI register of a pair. -/
def isPairHi (p off : Nat) : Bool := 4 ≤ off && isPairLo p (off - 4)

/-- A write of NAME_HI puts a held NAME_LO and itself into effect in one step (R62); with no write of NAME_LO held
from that requester the upper half is stored alone (log entry 31). -/
def State.storePair (s : State) (q : Req) (p off : Nat) (v : Word) : State :=
  let k := regKey p (off - 4)
  match s.heldOf q k with
  | some lo => ((s.setHeld q k none).storeReg p (off - 4) lo).storeReg p off v
  | none => s.storeReg p off v

/-! Commit units. -/

/-- STATE codes of COMMIT_STATUS. -/
def cmIdle : Nat := 0
def cmArmed : Nat := 1
def cmTaken : Nat := 2
def cmRefused : Nat := 3
def cmCancelled : Nat := 4

/-- REASON codes of COMMIT_STATUS. -/
def rsLate : Nat := 1
def rsMode : Nat := 2
def rsValue : Nat := 3
def rsBusy : Nat := 4
def rsNoTime : Nat := 5
def rsSeam : Nat := 6
def rsBlock : Nat := 7

/-- Commit modes (Table 02-5). -/
def mdNow : Nat := 0
def mdTransit : Nat := 1
def mdTime : Nat := 2
def mdTransitN : Nat := 3

/-- COMMIT_STATUS.STATE of page `p`. -/
def State.commitState (s : State) (p : Nat) : Nat := s.fld (PG_COMMIT_STATUS_STATE.inst p)

/-- Whether a commit is armed on page `p`. -/
def State.armed (s : State) (p : Nat) : Bool := s.commitState p == cmArmed

/-- The commit unit of page `p`. -/
def State.unit (s : State) (p : Nat) : CommitUnit := mapGet (fun _ => CommitUnit.idle) s.commits p

/-- `s` with the commit unit of page `p` replaced. -/
def State.setUnit (s : State) (p : Nat) (u : CommitUnit) : State :=
  { s with commits := mapSet (fun _ => CommitUnit.idle) s.commits p u }

end Sys2Proof.Machine
end

