-- ==== Sys2Proof/Machine/DmxTime.lean ====
section
/-! DEFINITION. DMX line timing (R341 to R345): packet lengths, launch instants, the gap an RDM transaction needs, and the report of its end to the dispatch arbiter. -/

namespace Sys2Proof.Machine

open Sys2Proof

/-- The page of DMX port `n`. -/
def dmxPage (n : Nat) : Nat := 0x80 + n

/-- Port `n` beside its page. -/
def State.dmx (s : State) (n : Nat) : DmxS := mapGet (fun _ => DmxS.idle) s.dmxs n

/-- `s` with port `n` changed by `f`. -/
def State.modDmx (s : State) (n : Nat) (f : DmxS → DmxS) : State :=
  { s with dmxs := mapSet (fun _ => DmxS.idle) s.dmxs n (f (s.dmx n)) }

/-- Microseconds in units of 2^-16 ns. -/
def usUnits (us : Nat) : Nat := us * 1000 * unitsPerNs

/-- Roles of Table 10-12. -/
def drOff : Nat := 0
def drController : Nat := 1
def drResponder : Nat := 2
def drInput : Nat := 3

/-- The role in force; OFF in recovery mode (R481). -/
def State.dmxRole (s : State) (n : Nat) : Nat := if s.bit SYS_STATUS_RECOVERY then 0 else s.act (DMX_CTRL_ROLE.inst n)

/-- Length in µs of a packet of `k` data slots (R342). -/
def State.dmxPacketUs (s : State) (n k : Nat) : Nat :=
  s.act (DMX_TX_TIMING_BREAK_US.inst n) + s.act (DMX_TX_TIMING_MAB_US.inst n) + (k + 1) * 44 + k * s.act (DMX_TX_TIMING_MTBS_US.inst n)

/-- DIV of a port. -/
def State.dmxDiv (s : State) (n : Nat) : Nat := s.act (DMX_TX_CFG_DIV_M1.inst n) + 1

/-- Whether a port launches in the frame with emitting transit number `t` (R342). -/
def State.dmxTurn (s : State) (n t : Nat) : Bool :=
  (t + 16 * s.dmxDiv n - s.act (DMX_TX_CFG_PHASE.inst n)) % s.dmxDiv n == 0

/-- The launch instant of an emit entry for emitting transit `t`, in units of 2^-16 ns (R184, R55). -/
def PlanTabs.launchAt (p : PlanTabs) (rate : Nat × Nat) (t : Nat) (e : EmitEnt) : Nat :=
  ((p.launchBase rate t : Int) + e.offset * unitsPerNs).toNat

/-- The emit entry of the active plan that names a page. -/
def State.entryOf (s : State) (page : Nat) : Option (PlanTabs × EmitEnt) :=
  match s.plan.active with
  | some p => (p.emit.find? fun e => e.page == page).map fun e => (p, e)
  | none => none

/-- The port's next launch instant from now on (R345). -/
def State.dmxNext (s : State) (n : Nat) : Option Nat :=
  match s.entryOf (dmxPage n) with
  | none => none
  | some (p, e) =>
    let t0 := s.time.now * s.rate.1 / (s.rate.2 * unitsPerSec) - 2
    (((List.range (s.dmxDiv n + 5)).filter fun i =>
      s.dmxTurn n (t0 + i) && decide (s.time.now ≤ p.launchAt s.rate (t0 + i) e)).map fun i => p.launchAt s.rate (t0 + i) e).head?

/-- tREQ in µs of a request of message length `len` (R345). -/
def State.rdmReqUs (s : State) (n len : Nat) : Nat :=
  s.act (DMX_TX_TIMING_BREAK_US.inst n) + s.act (DMX_TX_TIMING_MAB_US.inst n) + (len + 2) * (44 + s.act (DMX_TX_TIMING_MTBS_US.inst n))

/-- KIND of a DMX task (Table 10-10): request, broadcast, discovery unique branch. -/
def rkRequest : Nat := 0
def rkBroadcast : Nat := 1
def rkDub : Nat := 2

/-- µs from the start of a request to the last instant its transaction may need (R345). -/
def State.rdmNeedUs (s : State) (n kind len : Nat) : Nat :=
  s.rdmReqUs n len + 176 +
    (if kind = rkBroadcast then 0 else s.act (DMX_RESP_WAIT_US_US.inst n) + s.act (DMX_RESP_MAX_US_US.inst n))

/-- Message length of a task: a discovery unique branch has 36 (R345). -/
def rdmLen (params : List Nat) (kind : Nat) : Nat := if kind = rkDub then 36 else natBits (params.getD 1 0) 0 9

/-- Whether no gap of the port's longest spacing between launches fits the transaction (R345). -/
def State.rdmNoGap (s : State) (n kind : Nat) (params : List Nat) : Bool :=
  match s.entryOf (dmxPage n) with
  | none => false
  | some (_, e) =>
    let gap := s.dmxDiv n * s.rate.2 * unitsPerSec / s.rate.1
    decide (gap < usUnits (s.dmxPacketUs n (natBits e.arg 0 10) + 176 + s.rdmNeedUs n kind (rdmLen params kind)))

/-- The scheduler's number of a port's unit. -/
def dmxUnit (n : Nat) : Nat := 24 + n

/-- RESULT of a task no gap fits (R345). -/
def roNoGap : Nat := 10

/-- A port's task ends (R346): the report to the dispatch arbiter. -/
def State.rdmReport (s : State) (n result : Nat) (fault : Bool) : State :=
  let x := s.sched
  { s with sched := if fault then { x with faults := x.faults ++ [(dmxUnit n, 5, result)] } else { x with done := x.done ++ [(dmxUnit n, result)] } }

/-- A port's task ends FAULTED with an outcome: it is counted and RDM_FAILED raised (Table 10-13). -/
def State.rdmFailed (s : State) (n ctx outcome : Nat) : State :=
  (s.incFld (DMX_RDM_FAILED_COUNT.inst n) 1).raise (dmxPage n) 9 (ctx + outcome * 2 ^ 8)

/-- A responder record of a port is written (Table 10-13): REQUEST_IN with the PID of the message it carries. -/
def State.responderWritten (s : State) (n : Nat) (ws : List DWord) : State :=
  let w (i : Nat) : Nat := (ws.getD i 0).toNat
  if natBits (w 0) 12 4 = 8 ∨ natBits (w 0) 12 4 = 9 then s.raise (dmxPage n) 10 (natBits (w 3) 40 8 * 256 + natBits (w 3) 48 8) else s

/-- The FIFO3 record of a port is written: a task that waited for it ends (Table 08-3). -/
def State.rdmWritten (s : State) (n : Nat) : State :=
  match (s.dmx n).ending with
  | some (r, f) => (s.modDmx n fun x => { x with ending := none }).rdmReport n r f
  | none => s

end Sys2Proof.Machine
end

