-- ==== Sys2Proof/Machine/Dram.lean ====
section
/-! DEFINITION. DRAM as its readers and writers see it (R515, R213): bytes, words with their check state, usable memory. -/

namespace Sys2Proof.Machine

open Sys2Proof

/-- The DRAM page (Table 16-8). -/
def dramPage : Nat := 8

/-- What an unlisted byte of DRAM reads as (log entry 13). -/
def dramDefault : Nat → Byte := fun _ => 0

/-- Bytes of usable DRAM (Table 16-8). -/
def State.dramUsable (s : State) : Nat := s.fld DRAM_USABLE_MIB_MIB * 2 ^ 20

/-- Whether `n` bytes at `a` lie in usable DRAM. -/
def State.inDram (s : State) (a n : Nat) : Bool := decide (a + n ≤ s.dramUsable)

/-- A byte of DRAM. -/
def State.dramByte (s : State) (a : Nat) : Byte := mapGet dramDefault s.dram a

/-- `n` bytes of DRAM. -/
def State.dramBytes (s : State) (a n : Nat) : List Byte := mapGetList dramDefault s.dram a n

/-- The check state of the 64-bit word holding `a`: 0 good, 1 one bit wrong, 2 uncorrectable (R515). -/
def State.dramErrAt (s : State) (a : Nat) : Nat := mapGet (fun _ => 0) s.dramErr (a / 8)

/-- `s` with a word's check state set. -/
def State.putDramErr (s : State) (a e : Nat) : State :=
  { s with dramErr := mapSet (fun _ => 0) s.dramErr (a / 8) e }

/-- `s` with bytes stored, whatever the check state. -/
def State.putDramRaw (s : State) (a : Nat) (bs : List Byte) : State :=
  { s with dram := mapSetList dramDefault s.dram a bs }

/-- The 64-bit word at `a`. -/
def State.dramWord (s : State) (a : Nat) : Nat := bytesVal (s.dramBytes (a / 8 * 8) 8)

/-- A corrected word (R515); the event's argument is not stated, so it is a free value (log entry 2). -/
def State.dramCorr (s : State) : State :=
  ((s.incFld DRAM_ECC_CORR_COUNT_COUNT 1).takeFree).raise dramPage 4 s.freeVal

/-- An uncorrectable word read or partly written (R515). -/
def State.dramUncorr (s : State) : State :=
  ((s.incFld DRAM_ECC_UNCORR_COUNT_COUNT 1).takeFree).raise dramPage 5 s.freeVal

/-- A read of the word at `a`: data, whether it was uncorrectable (its data is then undefined, R515), state after. -/
def State.readDramWord (s : State) (a : Nat) : Nat × Bool × State :=
  let e := s.dramErrAt a
  if e = 0 then (s.dramWord a, false, s)
  else if e = 1 then (s.dramWord a, false, s.dramCorr)
  else
    let t := s.dramUncorr
    (t.freeVal % 2 ^ 64, true, t.takeFree)

/-- Reads of `n` words from `a` on. -/
def State.readDramWords (s : State) (a n : Nat) : List Nat × Bool × State :=
  match n with
  | 0 => ([], false, s)
  | k + 1 =>
    let r := s.readDramWord a
    let t := r.2.2.readDramWords (a / 8 * 8 + 8) k
    (r.1 :: t.1, r.2.1 || t.2.1, t.2.2)

/-- A read of `n` bytes at `a`: bytes, whether a word was uncorrectable, state after. -/
def State.readDram (s : State) (a n : Nat) : List Byte × Bool × State :=
  if n = 0 then ([], false, s)
  else
    let w := s.readDramWords a ((a + n - 1) / 8 - a / 8 + 1)
    (if w.2.1 then ((w.1.flatMap fun v => valBytes 8 v).drop (a % 8)).take n else s.dramBytes a n, w.2.1, w.2.2)

/-- A write of the bytes `bs` (none keeps the old byte) into the word at `a`, a multiple of 8: a whole
word is good again, a partial write of an uncorrectable word leaves it so and counts (R515). -/
def State.writeDramWord (s : State) (a : Nat) (bs : List (Option Byte)) : State :=
  let put (t : State) : State := (bs.zip (List.range 8)).foldl (fun u q =>
    match q.1 with
    | some b => { u with dram := mapSet dramDefault u.dram (a + q.2) b }
    | none => u) t
  if bs.all fun b => b.isNone then s
  else if bs.length = 8 ∧ bs.all fun b => b.isSome then (put s).putDramErr a 0
  else if s.dramErrAt a = 2 then s.incFld DRAM_ECC_UNCORR_COUNT_COUNT 1
  else
    let s1 := if s.dramErrAt a = 1 then (s.dramCorr).putDramErr a 0 else s
    put s1

/-- A write of bytes at `a`, word by word. -/
def State.writeDram (s : State) (a : Nat) (bs : List Byte) : State :=
  if bs.isEmpty then s
  else (List.range ((a + bs.length - 1) / 8 - a / 8 + 1)).foldl (fun t i =>
    let w := a / 8 * 8 + 8 * i
    t.writeDramWord w ((List.range 8).map fun j =>
      if a ≤ w + j ∧ w + j < a + bs.length then bs[w + j - a]? else none)) s

/-- Poisons the word at `a` (Table 06-1). -/
def State.poisonDram (s : State) (a : Nat) : State := s.putDramErr a 2

end Sys2Proof.Machine
end

