-- ==== Sys2Proof/Machine/Banks.lean ====
section
/-! DEFINITION. Scratchpad banks (spec/06): words with their check state, ownership, the meeting of accesses, borrowing, scrubbing and spare rows. -/

namespace Sys2Proof.Machine

open Sys2Proof

/-- The requester class of Table 06-5; 0 for port E. -/
def Who.cls (w : Who) : Nat :=
  match w with
  | .eng _ => 0 | .kernel => 0 | .chan _ _ => 2 | .scan _ => 2 | .emit => 2 | .sched => 3 | .host => 4

/-- Whether an owner code admits a requester (Table 06-2, R218). -/
def ownerAdmits (code : Nat) (w : Who) : Bool :=
  match w with
  | .eng k => code == 8 + k
  | .kernel => code == 2
  | .chan k c => code == 8 + k || code == 0x10 + 2 * k + c
  | .sched => code == 2
  | .scan p => code == 0x20 + p
  | .emit => code == 0x30
  | .host => code == 1

/-- Place of the 64-bit word at byte offset `off` of bank `b` (R211). -/
def bankKey (b off : Nat) : Nat := b * 32768 + off / 8 % 32768

/-- What an unlisted bank word reads as (log entry 13). -/
def bankDefault : Nat → DWord := fun _ => 0

/-- The stored content of a word. -/
def State.bankWord (s : State) (b off : Nat) : DWord := mapGet bankDefault s.bankMem (bankKey b off)

/-- The check state of a word: 0 good, 1 one bit wrong, 2 uncorrectable (R212). -/
def State.bankErrAt (s : State) (b off : Nat) : Nat := mapGet (fun _ => 0) s.bankErr (bankKey b off)

/-- `s` with a word stored. -/
def State.putWord (s : State) (b off : Nat) (v : DWord) : State :=
  { s with bankMem := mapSet bankDefault s.bankMem (bankKey b off) v }

/-- `s` with a word's check state set. -/
def State.putErr (s : State) (b off e : Nat) : State :=
  { s with bankErr := mapSet (fun _ => 0) s.bankErr (bankKey b off) e }

/-- The owner code in force (R216). -/
def State.owner (s : State) (b : Nat) : Nat := s.fld (BANK_OWNER_CODE.inst b)

/-- A bank's own data. -/
def State.bank (s : State) (b : Nat) : BankS := mapGet (fun _ => BankS.idle) s.banks b

/-- `s` with a bank's own data replaced. -/
def State.setBank (s : State) (b : Nat) (x : BankS) : State :=
  { s with banks := mapSet (fun _ => BankS.idle) s.banks b x }

/-- A row becomes a candidate for sparing (R234). -/
def State.needSpare (s : State) (b row : Nat) : State :=
  let x := s.bank b
  if x.sparing.contains row then s else s.setBank b { x with sparing := x.sparing ++ [row] }

/-- A single-bit error found and corrected (R212): counted, raised, and counted for the row (R234). -/
def State.eccCorr (s : State) (b off cls : Nat) : State :=
  let o := off / 8 * 8
  let row := off / 64
  let s1 := (s.incFld (BANK_ECC_CORR_COUNT_COUNT.inst b) 1).setReg (BANK_ECC_ADDR_OFFSET.inst b).key (BitVec.ofNat 32 o)
  let x := s1.bank b
  let n := mapGet (fun _ => 0) x.rowCorr row + 1
  let s2 := s1.setBank b { x with rowCorr := mapSet (fun _ => 0) x.rowCorr row n }
  let s3 := if max (s.fld GROOM_ROW_CORR_LIMIT_COUNT) 1 ≤ n then s2.needSpare b row else s2
  (s3.putErr b off 0).raise (0x20 + b) 4 (o + cls * 2 ^ 18)

/-- An uncorrectable word read or partly written (R212, R213). -/
def State.eccUncorr (s : State) (b off cls : Nat) : State :=
  let o := off / 8 * 8
  let s1 := (s.incFld (BANK_ECC_UNCORR_COUNT_COUNT.inst b) 1).setReg (BANK_ECC_ADDR_OFFSET.inst b).key
    (BitVec.ofNat 32 (o + 2 ^ 18))
  (s1.needSpare b (off / 64)).raise (0x20 + b) 5 (o + cls * 2 ^ 18)

/-- A read of one word by class `cls`: the data, whether it was uncorrectable, and the state after. -/
def State.readWord (s : State) (b off cls : Nat) : DWord × Bool × State :=
  let e := s.bankErrAt b off
  if e = 0 then (s.bankWord b off, false, s)
  else if e = 1 then (s.bankWord b off, false, s.eccCorr b off cls)
  else (s.bankWord b off, true, s.eccUncorr b off cls)

/-- A write of the bits `mask` of one word (R212, R213): a whole word is good again, a partial write is
a read-modify-write that leaves an uncorrectable word uncorrectable. -/
def State.writeWord (s : State) (b off : Nat) (mask v : DWord) (cls : Nat) : State :=
  if mask = 0 then s
  else if mask = BitVec.allOnes 64 then (s.putWord b off v).putErr b off 0
  else
    let e := s.bankErrAt b off
    if e = 2 then s.eccUncorr b off cls
    else
      let s1 := if e = 1 then s.eccCorr b off cls else s
      s1.putWord b off ((s1.bankWord b off &&& ~~~ mask) ||| (v &&& mask))

/-- A read-modify-write at the bank (R150, R213, R215): an uncorrectable word stays uncorrectable. -/
def State.rmwWord (s : State) (b off : Nat) (mask v : DWord) (clear : Bool) (cls : Nat) : State :=
  let e := s.bankErrAt b off
  if e = 2 then s.eccUncorr b off cls
  else
    let s1 := if e = 1 then s.eccCorr b off cls else s
    let old := s1.bankWord b off
    s1.putWord b off (if clear then old &&& ~~~ (v &&& mask) else old ||| (v &&& mask))

/-- A foreign access is counted and raised (R219). -/
def State.foreign (s : State) (b off cls : Nat) (write : Bool) : State :=
  (s.incFld (BANK_FOREIGN_COUNT_COUNT.inst b) 1).raise (0x20 + b) 9
    (off % 2 ^ 18 + cls * 2 ^ 18 + (if write then 2 ^ 22 else 0))

/-- An occurrence that sets its bit but produces no record (R224). -/
def State.raiseNoRec (s : State) (page k : Nat) : State :=
  let ek := regKey page 0x10
  (s.setReg ek (s.reg ek ||| BitVec.ofNat 32 (2 ^ k))).refresh page

/-- STATUS.MODE of a bank (R227): start-up until READY first rises, then test while GROOM owns it or an IEEE 1149.1
test instruction reaches the banks, then recovery. -/
def State.bankMode (s : State) (b : Nat) : State :=
  let m := BANK_STATUS_MODE.inst b
  if s.fld m = 1 ∧ ¬ s.bit SYS_STATUS_READY then s
  else s.setFld m (if s.owner b = 3 ∨ s.groom.tapBanks then 2 else if s.bit SYS_STATUS_RECOVERY then 3 else 0)

/-- A bank changes owner (R221, R224); cause 0 COMMIT, 1 PLAN_ENTRY, 2 SWITCH. -/
def State.handover (s : State) (b code cause : Nat) : State :=
  let old := s.owner b
  if old = code then s
  else
    let s1 := (s.setFld (BANK_OWNER_CODE.inst b) code).bankMode b
    if cause = 1 ∧ ¬ s.bit (BANK_CTRL_PLAN_REC_EN.inst b) then s1.raiseNoRec (0x20 + b) 10
    else s1.raise (0x20 + b) 10 (old + code * 256 + cause * 65536)

/-- Whether the bank is in normal service (R227). -/
def State.bankNormal (s : State) (b : Nat) : Bool := s.fld (BANK_STATUS_MODE.inst b) == 0

/-- A read meets a write outside normal service (R228). -/
def State.bankMeets (s : State) (b off : Nat) (laterS : Bool) : State :=
  let o := off / 8 * 8
  let s1 := (s.incFld (BANK_BUSY_COUNT_COUNT.inst b) 1).setReg (BANK_BUSY_INFO_OFFSET.inst b).key
    (BitVec.ofNat 32 (o + (if laterS then 2 ^ 18 else 0)))
  let s2 := { s1 with bankBusy := some (s1.time.mono + 20 * unitsPerNs) }
  (s2.emit (.pin 17 true)).raise (0x20 + b) 13 (o + (if laterS then 2 ^ 18 else 0))

/-- Two writes meet: port E's data is stored, port S's write is discarded (R225). -/
def State.wcoll (s : State) (b off cls : Nat) : State :=
  let o := off / 8 * 8
  ((s.incFld (BANK_WCOLL_COUNT_COUNT.inst b) 1).setReg (BANK_WCOLL_ADDR_OFFSET.inst b).key
    (BitVec.ofNat 32 (o + cls * 2 ^ 18))).raise (0x20 + b) 8 (o + cls * 2 ^ 18)

/-- What port E's access of its latest step does at a word: none, a read (false) or a write (R225). -/
def State.portE (s : State) (b off : Nat) : Option Bool :=
  s.engs.findSome? fun q => match q.2.port with
    | some (c, w, l) => if c = b ∧ l.contains (off / 8 * 8) then some w else none
    | none => none

/-- Whether an access of port S and one of port E to one word share an array operation is open: a free value (R225,
log entry 2). -/
def State.meetBit (s : State) : Bool := s.freeVal % 2 == 1

/-- A word written in a borrowed segment by an access that stands before the release: the holding buffer follows, so
that the restore keeps it (R231, R232). -/
def State.bufSync (s : State) (b off : Nat) : State :=
  match (s.bank b).borrow with
  | none => s
  | some w =>
    if w.seg = natBits off 12 6 then
      let bad := w.bad.filter fun o => o != off / 8 * 8
      s.setBank b { s.bank b with borrow := some { w with
        buf := w.buf.set (natBits off 3 9) (s.bankWord b off)
        bad := if s.bankErrAt b off = 2 then bad ++ [off / 8 * 8] else bad } }
    else s

/-- A write at port S that is stored: outside normal service a read of port E may still meet it (Table 06-4). -/
def State.storeS (s : State) (b off : Nat) (mask v : DWord) (cls : Nat) : State :=
  let s1 := (s.writeWord b off mask v cls).bufSync b off
  if s.bankNormal b ∨ mask = 0 then s1
  else
    let x := s1.bank b
    s1.setBank b { x with undef := (x.undef.filter fun q => q.1 != off / 8 * 8) ++ [(off / 8 * 8, false)] }

/-- A write of a requester of class `cls` at port S: discarded where it meets a write of port E (Table 06-4). -/
def State.sWrite (s : State) (b off : Nat) (mask v : DWord) (cls : Nat) : State :=
  match s.portE b off with
  | some true => if s.meetBit then s.takeFree.wcoll b off cls else s.takeFree.storeS b off mask v cls
  | _ => s.storeS b off mask v cls

/-- A read at port S: outside normal service one that meets a write of port E returns undefined data (Table 06-4). -/
def State.sRead (s : State) (b off cls : Nat) : DWord × Bool × State :=
  if s.bankNormal b ∨ s.portE b off ≠ some true then s.readWord b off cls
  else
    let r := s.takeFree.readWord b off cls
    if s.meetBit then (BitVec.ofNat 64 r.2.2.freeVal, r.2.1, r.2.2.takeFree.bankMeets b off true) else r

/-- A read at port E: outside normal service one that meets a write of port S returns undefined data (Table 06-4). -/
def State.eRead (s : State) (b off : Nat) : DWord × Bool × State :=
  let x := s.bank b
  match x.undef.find? fun q => q.1 == off / 8 * 8 with
  | none => s.readWord b off 0
  | some q =>
    let s1 := s.setBank b { x with undef := x.undef.filter fun p => p.1 != off / 8 * 8 }
    if s.bankNormal b then s1.readWord b off 0
    else
      let r := s1.takeFree.readWord b off 0
      if q.2 then (BitVec.ofNat 64 s.freeVal, r.2.1, r.2.2)
      else if s.meetBit then (BitVec.ofNat 64 r.2.2.freeVal, r.2.1, r.2.2.takeFree.bankMeets b off false)
      else r

/-! Stalls at a borrowed segment (R231, R232). -/

/-- Whether a word lies in a borrowed segment. -/
def State.borrowed (s : State) (b off : Nat) : Bool :=
  match (s.bank b).borrow with | some w => w.seg == natBits off 12 6 | none => false

/-- An access stalls: its arrival and the owner of that instant are kept. -/
def State.stall (s : State) (b : Nat) (w : StallWhat) : State :=
  let x := s.bank b
  s.setBank b { x with stalled := x.stalled ++ [⟨s.time.mono, s.owner b, w⟩] }

/-- Another requester than the host stalls, once. -/
def State.stallWho (s : State) (b off : Nat) (who : Who) : State :=
  if s.borrowed b off ∧ ¬ (s.bank b).stalled.any fun a => a.what == .wait who then s.stall b (.wait who) else s

/-- An access of class `cls` to a borrowed segment is counted as stalled; its effect stands with its command (log
entry 13). -/
def State.stallServed (s : State) (b off cls : Nat) : State := if s.borrowed b off then s.stall b (.served cls) else s

/-- The owner code a requester's access is checked against: the bank's, or that of the arrival of an access that
has been stalled (R221). -/
def State.codeFor (s : State) (b : Nat) (who : Who) : Nat :=
  match (s.bank b).granted.find? fun q => q.1 == who with | some q => q.2 | none => s.owner b

/-- Whether a bank admits a requester now. -/
def State.admits (s : State) (b : Nat) (who : Who) : Bool := ownerAdmits (s.codeFor b who) who

/-- The access that was stalled has been taken. -/
def State.dropGrant (s : State) (b : Nat) (who : Who) : State :=
  let x := s.bank b
  if x.granted.any fun q => q.1 == who then s.setBank b { x with granted := x.granted.filter fun q => q.1 != who } else s

/-- How a host window treats the bits it writes (R214, R215). -/
inductive BankOp where
  | plain | setBits | clearBits
  deriving DecidableEq, Repr

/-- The word a write through a window leaves. -/
def BankOp.apply (k : BankOp) (old v : DWord) : DWord :=
  match k with
  | .plain => v
  | .setBits => old ||| v
  | .clearBits => old &&& ~~~ v

/-- Bit mask of the byte enables of a 64-bit word: low dword's, then high dword's. -/
def beMask (lo hi : Nat) : DWord :=
  BitVec.ofNat 64 (((List.range 8).map fun i =>
    if (if i < 4 then lo.testBit i else hi.testBit (i - 4)) then 0xFF * 2 ^ (8 * i) else 0).sum)

/-- The word accesses of a request (R214): for each 64-bit word touched, its offset in the bank, its
mask and its data, in ascending order. -/
def reqWords (off : Nat) (be : List Nat) (data : List Word) : List (Nat × DWord × DWord) :=
  let n := be.length
  let first := off / 8
  let last := (off + 4 * n - 1) / 8
  (List.range (last + 1 - first)).map fun i =>
    let w := first + i
    let at_ (o : Nat) : Option Nat := if off ≤ o ∧ o < off + 4 * n then some ((o - off) / 4) else none
    let en (o : Nat) : Nat := match at_ o with | some j => be.getD j 0 | none => 0
    let dv (o : Nat) : Nat := match at_ o with | some j => (data.getD j 0).toNat | none => 0
    (8 * w, beMask (en (8 * w)) (en (8 * w + 4)), BitVec.ofNat 64 (dv (8 * w) + dv (8 * w + 4) * 2 ^ 32))

/-- One host word write at the bank, its owner admitted: its meeting with port E is decided (Table 06-4). -/
def State.hostWord (s : State) (b : Nat) (k : BankOp) (meet : BankMeet) (w : Nat × DWord × DWord) : State :=
  if w.2.1 = 0 then s
  else if meet.eWrites.contains w.1 then s.wcoll b w.1 4
  else
    let s1 := match k with
      | .plain => s.writeWord b w.1 w.2.1 w.2.2 4
      | .setBits => s.rmwWord b w.1 w.2.1 w.2.2 false 4
      | .clearBits => s.rmwWord b w.1 w.2.1 w.2.2 true 4
    if meet.eReads.contains w.1 ∧ ¬ s.bankNormal b then
      let x := s1.bank b
      (s1.setBank b { x with undef := (x.undef.filter fun q => q.1 != w.1) ++ [(w.1, true)] }).bankMeets b w.1 meet.laterS
    else s1

/-- One host word read at the bank: the data, whether the completion is poisoned, the state after. -/
def State.hostRead (s : State) (b : Nat) (meet : BankMeet) (off : Nat) : DWord × Bool × State :=
  let r := s.readWord b off 4
  if meet.eWrites.contains off ∧ ¬ s.bankNormal b then
    (BitVec.ofNat 64 r.2.2.freeVal, r.2.1, (r.2.2.takeFree).bankMeets b off meet.laterS)
  else if r.2.1 then (BitVec.ofNat 64 r.2.2.freeVal, true, r.2.2.takeFree)
  else r

/-- The reads of a request in order: dwords requested, poisoned or not, state after. -/
def State.hostReads (s : State) (b : Nat) (meet : BankMeet) (off n : Nat) (ws : List (Nat × DWord × DWord)) :
    List Word × Bool × State :=
  match ws with
  | [] => ([], false, s)
  | w :: t =>
    let r := s.hostRead b meet w.1
    let rest := r.2.2.hostReads b meet off n t
    let lo := if off ≤ w.1 ∧ w.1 < off + 4 * n then [r.1.extractLsb' 0 32] else []
    let hi := if off ≤ w.1 + 4 ∧ w.1 + 4 < off + 4 * n then [r.1.extractLsb' 32 32] else []
    (lo ++ hi ++ rest.1, r.2.1 || rest.2.1, rest.2.2)

/-- The words of a foreign host request that it accesses (R214): a written word without an enabled byte is none. -/
def foreignWords (write : Bool) (ws : List (Nat × DWord × DWord)) : List (Nat × DWord × DWord) :=
  ws.filter fun w => !write || w.2.1 != 0

/-- A foreign host request: each word access is counted and raised (R214, R219). -/
def State.hostForeign (s : State) (b : Nat) (write : Bool) (ws : List (Nat × DWord × DWord)) : State :=
  (foreignWords write ws).foldl (fun t w => t.foreign b w.1 4 write) s

/-- A valid bank request once the bank arbiter takes it (R214, R219): checked against owner code `own`. -/
def State.bankServe (s : State) (own : Nat) (k : BankOp) (r : MemReq) (meet : BankMeet) : State :=
  let b := natBits r.addr 18 5
  let off := natBits r.addr 0 18
  let ws := reqWords off r.be r.data
  if r.write then
    if own = 1 then ws.foldl (fun t w => t.hostWord b k meet w) s
    else s.hostForeign b true ws
  else if own = 1 ∨ (s.bit (BANK_CTRL_HOST_PEEK.inst b) ∧ own ≠ 3) then
    let d := s.hostReads b meet off r.be.length ws
    d.2.2.emit (if d.2.1 then .poisoned d.1 else .data .pcie d.1)
  else (s.hostForeign b false ws).emit (.data .pcie (r.be.map fun _ => 0))

/-- Whether a bank request is well formed (R214): dword aligned, at most 64 bytes, within one row. -/
def bankReqOk (r : MemReq) : Bool :=
  r.addr % 4 == 0 && r.be.length != 0 && 4 * r.be.length ≤ 64 &&
    r.addr / 64 == (r.addr + 4 * r.be.length - 1) / 64

/-- Number a window kind is kept under while it stalls. -/
def BankOp.code (k : BankOp) : Nat := match k with | .plain => 0 | .setBits => 1 | .clearBits => 2

/-- The window kind kept under a number. -/
def BankOp.ofCode (n : Nat) : BankOp := if n = 1 then .setBits else if n = 2 then .clearBits else .plain

/-- A PCIe request to a bank window (R214, R215, R231): a request to a borrowed segment waits for the release, one
to another segment does not (log entry 13). -/
def State.bankRequest (s : State) (k : BankOp) (r : MemReq) (meet : BankMeet) : State :=
  if bankReqOk r then
    let b := natBits r.addr 18 5
    if s.borrowed b r.addr then s.stall b (.host k.code r meet) else s.bankServe (s.owner b) k r meet
  else if r.write then s.badAccess r.addr
  else (s.badAccess r.addr).emit .abort

/-- A request to BAR2 or BAR4 goes on to `f` where PCIe is served (R478, R481); `h` is what waits behind a
stalled push (R269). -/
def State.serveMem (s : State) (r : MemReq) (h : HeldReq) (f : State → State) : State :=
  match s.hostGate with
  | .served => f s
  | .aborts => if r.write then s else s.emit .abort
  | .silent => s
  | .reserved => s
  | .held => s.hold269 h

/-- A request to the bank windows: reads of the reserved range return 0 and writes to it are discarded (R58). -/
def State.bar4 (s : State) (r : MemReq) (meet : BankMeet) : State :=
  if r.addr < 0x800000 then s.bankRequest .plain r meet
  else if r.addr < 0x1800000 then s.bankRequest (if r.addr < 0x1000000 then .setBits else .clearBits) r meet
  else if r.write then s.badAccess r.addr
  else (s.badAccess r.addr).emit (.data .pcie (r.be.map fun _ => 0))

/-- A request to window `k` of the banks: 0 BAR4 whole, 1 the set alias, 2 the clear alias (R58, R215). -/
def State.bankWin (s : State) (k : Nat) (r : MemReq) (meet : BankMeet) : State :=
  s.serveMem r (.bank k r meet) fun t =>
    if k = 0 then t.bar4 r meet else t.bankRequest (if k = 1 then .setBits else .clearBits) r meet

/-- BAR4_ACCESS (R214). -/
def execBar4Access (r : MemReq) (meet : BankMeet) (s : State) : Host.Outcome State Fault Refusal :=
  .next (s.bankWin 0 r meet)

/-- SET_ALIAS_WRITE (R215); `r.addr` is the offset within the set alias. -/
def execSetAliasWrite (r : MemReq) (meet : BankMeet) (s : State) : Host.Outcome State Fault Refusal :=
  .next (s.bankWin 1 { r with write := true } meet)

/-- CLEAR_ALIAS_WRITE (R215); `r.addr` is the offset within the clear alias. -/
def execClearAliasWrite (r : MemReq) (meet : BankMeet) (s : State) : Host.Outcome State Fault Refusal :=
  .next (s.bankWin 2 { r with write := true } meet)

/-! Spare rows (R234 to R236). -/

/-- Number of spare rows of a bank (R211). -/
def spareCount : Nat := 16

/-- A spare that is free and passed its own test. -/
def State.freeSpare (s : State) (b : Nat) : Option Nat :=
  (List.range spareCount).find? fun k =>
    s.bit ((BANK_SPARE_MAP_GOOD.inst b).nth k) && !s.bit ((BANK_SPARE_MAP_USED.inst b).nth k) &&
      !s.bit ((BANK_SPARE_MAP_RETIRED.inst b).nth k)

/-- The groomer begins to spare a row: mirroring is set, or no spare is free and BLOCK_FAULT is raised
(R235, R236). -/
def State.spareStart (s : State) (b row : Nat) : State :=
  let x := s.bank b
  match s.freeSpare b with
  | some k => s.setBank b { x with mirror := some (row, k), sparing := x.sparing.filter fun r => r != row }
  | none => (s.setBank b { x with sparing := x.sparing.filter fun r => r != row }).raise (0x20 + b) 6 row

/-- A row is read for its copy with class 5 (R235, R212): corrected words are copied, uncorrectable ones poisoned. -/
def State.rowCopy (s : State) (b row : Nat) : State :=
  (List.range 8).foldl (fun (t : State) (w : Nat) => (t.readWord b (64 * row + 8 * w) 5).2.2) s

/-- The row map switches to the spare (R235); an earlier spare of the row is retired (R236). -/
def State.spareSwitch (s : State) (b : Nat) : State :=
  let x := s.bank b
  match x.mirror with
  | none => s
  | some (row, k) =>
    let s1 := (List.range spareCount).foldl (fun t j =>
      if t.bit ((BANK_SPARE_MAP_USED.inst b).nth j) && t.fld ((BANK_SPARE_MAP_ROW.inst b).nth j) == row then
        t.setBit ((BANK_SPARE_MAP_RETIRED.inst b).nth j) true else t) s
    let s2 := (s1.setFld ((BANK_SPARE_MAP_ROW.inst b).nth k) row).setBit ((BANK_SPARE_MAP_USED.inst b).nth k) true
    let left := s2.fld (BANK_STATUS_SPARES_FREE.inst b) - 1
    let s3 := (s2.setFld (BANK_STATUS_SPARES_FREE.inst b) left).setBank b
      { x with mirror := none, rowCorr := mapSet (fun _ => 0) x.rowCorr row 0, sparing := x.sparing.filter fun r => r != row }
    let s4 := s3.raise (0x20 + b) 11 (row + k * 2 ^ 12)
    if left = 2 then s4.raise (0x20 + b) 12 left else s4

/-- The copy of the row being spared is done and the map switches (R235). -/
def State.spareEnd (s : State) (b : Nat) : State :=
  match (s.bank b).mirror with
  | none => s
  | some (row, _) => (s.rowCopy b row).spareSwitch b

/-- ROW_SPARE_START (R234, R235): of a row that needs sparing, or that has failed the march test of a bank the
groomer owns. -/
def execRowSpareStart (b row : Nat) (s : State) : Host.Outcome State Fault Refusal :=
  .next (if ((s.bank b).sparing.contains row ∨ (s.owner b = 3 ∧ row < 4096)) ∧ (s.bank b).mirror = none then s.spareStart b row else s)

/-- ROW_SPARED (R235, R236); the NVM write of the map is taken with it. -/
def execRowSpared (b : Nat) (s : State) : Host.Outcome State Fault Refusal := .next (s.spareEnd b)

/-! Borrowing and scrubbing (R229 to R233). -/

/-- Whether a load in STAGING names bank `b`: the groomer treats it as a plan bank (R229). -/
def State.stagingBank (s : State) (b : Nat) : Bool :=
  match s.plan.loading, s.plan.checked with
  | some (_, true), some p => p.banks.any fun e => e.bank == b
  | _, _ => false

/-- Whether the groomer may start a borrow in bank `b` (R229, R232). -/
def State.mayBorrow (s : State) (b : Nat) : Bool :=
  (s.owner b == 0 || s.owner b == 1) && !s.bit (BANK_STATUS_PLAN_BANK.inst b) && !s.stagingBank b &&
    (s.bank b).borrow == none && (s.bank b).holdoff == none

/-- BORROW_START (R230): the segment is copied to the holding buffer, each word read with class 5 (R212). -/
def execBorrowStart (b seg : Nat) (s : State) : Host.Outcome State Fault Refusal :=
  if s.mayBorrow b ∧ seg < 64 then
    let offs := (List.range 512).map fun i => 4096 * seg + 8 * i
    let w : Borrow := ⟨seg, offs.map fun o => s.bankWord b o, offs.filter fun o => s.bankErrAt b o == 2⟩
    let s1 := offs.foldl (fun (t : State) (o : Nat) => (t.readWord b o 5).2.2) s
    .next (((s1.setBank b { s1.bank b with borrow := some w }).setFld (BANK_BORROW_SEGMENT.inst b) seg).setBit
      (BANK_BORROW_ACTIVE.inst b) true)
  else .next s

/-- The content of a borrowed segment is written back (R230, R232): words found or become
uncorrectable are written back poisoned. -/
def State.restoreSeg (s : State) (b : Nat) (w : Borrow) (bad : List Nat) : State :=
  (List.range 512).foldl (fun t i =>
    let off := 4096 * w.seg + 8 * i
    let t1 := t.putWord b off (w.buf.getD i 0)
    t1.putErr b off (if w.bad.contains off ∨ bad.contains off then 2 else 0)) s

/-- The class of a stalled access (Table 06-5). -/
def StallWhat.cls (w : StallWhat) : Nat := match w with | .host _ _ _ => 4 | .wait who => who.cls | .served c => c

/-- The order in which the port S arbiter takes stalled accesses: by class, and in a class as they arrived (R226). -/
def stallOrder (l : List Stalled) : List Stalled := (List.range 5).flatMap fun c => l.filter fun a => a.what.cls == c

/-- A stalled access is taken once the segment is released (R221, R231): its command where it waits takes effect when
it comes again, under the owner of its arrival. -/
def State.takeStalled (s : State) (b : Nat) (a : Stalled) : State :=
  match a.what with
  | .host k r meet => s.bankServe a.owner (BankOp.ofCode k) r meet
  | .served _ => s
  | .wait who =>
    if a.owner = s.owner b then s
    else
      let x := s.bank b
      s.setBank b { x with granted := (x.granted.filter fun q => q.1 != who) ++ [(who, a.owner)] }

/-- The stalled accesses of a bank are taken, each raising BORROW_STALL (R231). -/
def State.serveStalled (s : State) (b seg : Nat) (l : List Stalled) : State :=
  match l with
  | [] => s
  | a :: t =>
    let ns := (s.time.mono - a.at_) / unitsPerNs
    let f := BANK_STALL_MAX_NS_NS.inst b
    let s1 := (s.setFld f (max (s.fld f) (min ns 65535))).raise (0x20 + b) 14 (seg + min ns 2047 * 64)
    (s1.takeStalled b a).serveStalled b seg t

/-- A row that failed the march test of its segment is spared before the segment is written back (R230): a spare
being filled for another row is finished first. -/
def State.spareFailed (s : State) (b row : Nat) : State := ((s.spareEnd b).spareStart b row).spareSwitch b

/-- A borrow ends (R230 to R232): `bad` words became uncorrectable in the test, rows `failed` failed their march
test. -/
def State.releaseBorrow (s : State) (b : Nat) (w : Borrow) (bad failed : List Nat) : State :=
  let s1 := failed.foldl (fun (t : State) (r : Nat) => t.spareFailed b r) s
  let s2 := bad.foldl (fun (t : State) (o : Nat) => t.needSpare b (o / 64)) (s1.restoreSeg b w bad)
  let x := s2.bank b
  let hold := if x.stalled.isEmpty then x.holdoff
    else some (s2.time.mono + s.fld GROOM_BORROW_HOLDOFF_US * 1000 * unitsPerNs)
  let s3 := (s2.setBank b { x with borrow := none, stalled := [], holdoff := hold }).setBit (BANK_BORROW_ACTIVE.inst b) false
  s3.serveStalled b w.seg (stallOrder x.stalled)

/-- A borrow in bank `b` is ended by its segment being written back untested further (R229). -/
def State.endBorrow (s : State) (b : Nat) : State :=
  match (s.bank b).borrow with
  | some w => s.releaseBorrow b w [] []
  | none => s

/-- BORROW_RELEASE (R230 to R232). -/
def execBorrowRelease (b : Nat) (bad failed : List Nat) (s : State) : Host.Outcome State Fault Refusal :=
  match (s.bank b).borrow with
  | none => .next s
  | some w => .next (s.releaseBorrow b w bad failed)

/-- BORROW_HOLDOFF_END (R232). -/
def execBorrowHoldoffEnd (b : Nat) (s : State) : Host.Outcome State Fault Refusal :=
  match (s.bank b).holdoff with
  | some h => .next (if h ≤ s.time.mono then s.setBank b { s.bank b with holdoff := none } else s)
  | none => .next s

/-- A read of BANKn.STALL_MAX_NS returns the longest stall and clears it (R231). -/
def State.readStallMax (s : State) (b : Nat) : Nat × State :=
  (s.fld (BANK_STALL_MAX_NS_NS.inst b), s.setFld (BANK_STALL_MAX_NS_NS.inst b) 0)

/-- STALL_MAX_READ (R231). -/
def execStallMaxRead (q : Req) (b : Nat) (s : State) : Host.Outcome State Fault Refusal :=
  .next (s.serveRead q (0x20 + b) BANK_STALL_MAX_NS_NS.off fun t =>
    let r := t.readStallMax b
    r.2.emit (.data q [BitVec.ofNat 32 r.1]))

/-- SCRUB_READ (R233): one word of a pass; word 0 begins the bank's pass anew (R234). -/
def execScrubRead (b word : Nat) (s : State) : Host.Outcome State Fault Refusal :=
  if s.bit (BANK_CTRL_SCRUB_EN.inst b) then
    let s1 := if word = 0 then s.setBank b { s.bank b with rowCorr := [] } else s
    let r := s1.sRead b (8 * word) 5
    .next (r.2.2.setFld (BANK_SCRUB_ROW_ROW.inst b) (word / 8))
  else .next s

end Sys2Proof.Machine
end

