-- ==== Sys2Proof/Machine/Operands.lean ====
section
/-! DEFINITION. The operand forms of the render engines (R136 to R141): lanes of a register, and the four syllables of a bundle decoded from their formats (Table 04-2). -/

namespace Sys2Proof.Machine

open Sys2Proof

/-! Lanes (R136). -/

/-- Width of a lane. -/
def laneW (h16 : Bool) : Nat := if h16 then 16 else 32

/-- Number of lanes. -/
def laneN (h16 : Bool) : Nat := if h16 then 32 else 16

/-- Lane `i` of a register held as a number. -/
def laneGet (h16 : Bool) (v i : Nat) : Nat := v / 2 ^ (laneW h16 * i) % 2 ^ laneW h16

/-- Lanes put side by side, lane 0 lowest; each keeps its low bits. -/
def packLanes (w : Nat) (l : List Nat) : Nat :=
  match l with
  | [] => 0
  | x :: t => x % 2 ^ w + 2 ^ w * packLanes w t

/-- A register from its lanes. -/
def ofLanes (h16 : Bool) (f : Nat → Nat) : Nat := packLanes (laneW h16) ((List.range (laneN h16)).map f)

/-- The bit mask of the enabled lanes (R137). -/
def laneMask (h16 : Bool) (en : Nat → Bool) : Nat :=
  ofLanes h16 fun i => if en i then 2 ^ laneW h16 - 1 else 0

/-! Syllables. A faulting syllable decodes to its fault code (Table 04-8). -/

/-- Vector operations of Table 04-3. -/
inductive VOp where
  | mov | add | sub | minu | mins | maxu | maxs | and | or | xor | andn | shl | shru | shrs | absdu
  | cmpeq | cmpne | cmpltu | cmplts | cmpleu | cmples | sel | avgu
  | perm | rotl | splat | rsum | pack | unpklu | unpkhu | unpkls | unpkhs | zipl | ziph
  | mul | mulhu | mulhs | mulq | macq | fma | fmul | fadd | fcvtu | ucvtf | fmin | fmax
  deriving DecidableEq, Repr

/-- M operations of Table 04-4. -/
inductive MOp where
  | vld | vldp | vst | vstp | vsts | vstc | xld | xst | sld | sldp | sst | sstp | ssts | sstc
  | vget | vput | scstart | scstat
  deriving DecidableEq, Repr

/-- C operations of Table 04-5. -/
inductive COp where
  | add | sub | and | or | xor | shl | shru | shrs | mul | mins | maxs | addi | lil | lih
  | cmpeq | cmpne | cmpltu | cmplts | cmpleu | cmples | pand | por | pnot
  | br | loopi | loops | rdlc | lapmark | fence | owopen | kend | rdsys | fend
  deriving DecidableEq, Repr

/-- A decoded vector syllable. -/
inductive VSyl where
  | nop
  | op (o : VOp) (f : VF)
  | bad (code : Nat)
  deriving DecidableEq, Repr

/-- A decoded M syllable. -/
inductive MSyl where
  | nop
  | mem (o : MOp) (f : MF)
  | idx (o : MOp) (f : MXF)
  | lane (o : MOp) (f : MLF)
  | chan (o : MOp) (f : MCF)
  | bad (code : Nat)
  deriving DecidableEq, Repr

/-- A decoded C syllable. -/
inductive CSyl where
  | nop
  | reg (o : COp) (f : CF)
  | imm (o : COp) (f : CIF)
  | flow (o : COp) (f : CBF)
  | lapmark (vgrp : Nat)
  | fence (pr mask : Nat)
  | owopen (win budget : Nat)
  | kend
  | fend
  | bad (code : Nat)
  deriving DecidableEq, Repr

/-- Fault codes of Table 04-8. -/
def fcIllegalOp : Nat := 1
def fcIllegalSlot : Nat := 2
def fcIllegalMode : Nat := 3
def fcIllegalPosition : Nat := 4
def fcImemUncorr : Nat := 5
def fcRegParity : Nat := 6
def fcLoadPoison : Nat := 7
def fcOwn : Nat := 8
def fcScOverrun : Nat := 9
def fcLoopNest : Nat := 10
def fcLapOverrun : Nat := 11
def fcLapTable : Nat := 12
def fcKendOutside : Nat := 13
def fcDescRange : Nat := 14

/-- The vector opcodes valid in both slots (Table 04-3). -/
def vOpBoth : List (Nat × VOp) :=
  [(0x01, .mov), (0x02, .add), (0x03, .sub), (0x04, .minu), (0x05, .mins), (0x06, .maxu), (0x07, .maxs),
   (0x08, .and), (0x09, .or), (0x0A, .xor), (0x0B, .andn), (0x0C, .shl), (0x0D, .shru), (0x0E, .shrs),
   (0x0F, .absdu), (0x10, .cmpeq), (0x11, .cmpne), (0x12, .cmpltu), (0x13, .cmplts), (0x14, .cmpleu),
   (0x15, .cmples), (0x18, .sel), (0x19, .avgu)]

/-- The vector opcodes of slot VA only. -/
def vOpA : List (Nat × VOp) :=
  [(0x40, .perm), (0x41, .rotl), (0x42, .splat), (0x43, .rsum), (0x44, .pack), (0x45, .unpklu),
   (0x46, .unpkhu), (0x47, .unpkls), (0x48, .unpkhs), (0x49, .zipl), (0x4A, .ziph)]

/-- The vector opcodes of slot VB only. -/
def vOpB : List (Nat × VOp) :=
  [(0x60, .mul), (0x61, .mulhu), (0x62, .mulhs), (0x63, .mulq), (0x64, .macq), (0x65, .fma), (0x66, .fmul),
   (0x67, .fadd), (0x68, .fcvtu), (0x69, .ucvtf), (0x6A, .fmin), (0x6B, .fmax)]

/-- The entry of an opcode in a table. -/
def opLookup {α : Type} (t : List (Nat × α)) (c : Nat) : Option α :=
  match t with
  | [] => none
  | p :: r => if p.1 = c then some p.2 else opLookup r c

/-- Whether an operation is a compare, whose D names a predicate (Table 04-2). -/
def VOp.isCmp (o : VOp) : Bool :=
  match o with
  | .cmpeq | .cmpne | .cmpltu | .cmplts | .cmpleu | .cmples => true
  | _ => false

/-- Whether the field values and mode conditions of Table 04-2 and Table 04-3 hold. -/
def vModeOk (o : VOp) (f : VF) : Bool :=
  f.sm != 3 && (!f.bs || f.b < 32) && (!o.isCmp || f.d < 8) &&
    (match o with
     | .perm => !f.bs
     | .rotl | .splat => f.bs
     | .pack => f.h16 && !f.bs
     | .unpklu | .unpkhu | .unpkls | .unpkhs => !f.h16
     | .fma | .fmul | .fadd | .fcvtu | .ucvtf | .fmin | .fmax => f.h16
     | _ => true)

/-- The V format (Table 04-2). -/
def vFields (w : Nat) : VF where
  h16 := w.testBit 24
  pr := natBits w 21 3
  bs := w.testBit 20
  sm := natBits w 18 2
  d := natBits w 12 6
  a := natBits w 6 6
  b := natBits w 0 6

/-- A syllable of slot VA (`vb` false) or VB (R141, R142). -/
def decodeV (vb : Bool) (w : Nat) : VSyl :=
  if w = 0 then .nop
  else
    let c := natBits w 25 7
    let f := vFields w
    if c = 0 then .bad fcIllegalMode
    else match opLookup vOpBoth c with
      | some o => if vModeOk o f then .op o f else .bad fcIllegalMode
      | none =>
        match opLookup (if vb then vOpB else vOpA) c with
        | some o => if vModeOk o f then .op o f else .bad fcIllegalMode
        | none =>
          match opLookup (if vb then vOpA else vOpB) c with
          | some _ => .bad fcIllegalSlot
          | none => .bad fcIllegalOp

/-- The MV and MS formats, MX, ML and MC opcodes of Table 04-4. -/
def mOpV : List (Nat × MOp) :=
  [(0x01, .vld), (0x02, .vldp), (0x03, .vst), (0x04, .vstp), (0x05, .vsts), (0x06, .vstc)]
def mOpS : List (Nat × MOp) :=
  [(0x0C, .sld), (0x0D, .sldp), (0x0E, .sst), (0x0F, .sstp), (0x10, .ssts), (0x11, .sstc)]
def mOpX : List (Nat × MOp) := [(0x08, .xld), (0x09, .xst)]
def mOpL : List (Nat × MOp) := [(0x14, .vget), (0x15, .vput)]
def mOpC : List (Nat × MOp) := [(0x20, .scstart), (0x21, .scstat)]

/-- A syllable of slot M (R141, R142). -/
def decodeM (w : Nat) : MSyl :=
  if w = 0 then .nop
  else
    let c := natBits w 26 6
    if c = 0 then .bad fcIllegalMode
    else match opLookup mOpV c with
    | some o => .mem o ⟨natBits w 23 3, natBits w 17 6, natBits w 12 5, natBits w 0 12⟩
    | none => match opLookup mOpS c with
    | some o =>
      if natBits w 17 1 = 0 then .mem o ⟨natBits w 23 3, natBits w 18 5, natBits w 12 5, natBits w 0 12⟩
      else .bad fcIllegalMode
    | none => match opLookup mOpX c with
    | some o =>
      if natBits w 0 6 = 0 then .idx o ⟨natBits w 23 3, natBits w 17 6, natBits w 12 5, natBits w 6 6⟩
      else .bad fcIllegalMode
    | none => match opLookup mOpL c with
    | some o =>
      if natBits w 4 8 = 0 then .lane o ⟨natBits w 23 3, natBits w 17 6, natBits w 12 5, natBits w 0 4⟩
      else .bad fcIllegalMode
    | none => match opLookup mOpC c with
    | some o =>
      if o = .scstart ∧ natBits w 17 5 ≠ 0 then .bad fcIllegalMode
      else .chan o ⟨natBits w 23 3, natBits w 22 1, natBits w 17 5, natBits w 12 5, natBits w 0 12⟩
    | none => .bad fcIllegalOp

/-- The C opcodes of format CR. -/
def cOpR : List (Nat × COp) :=
  [(0x01, .add), (0x02, .sub), (0x03, .and), (0x04, .or), (0x05, .xor), (0x06, .shl), (0x07, .shru),
   (0x08, .shrs), (0x09, .mul), (0x0A, .mins), (0x0B, .maxs), (0x10, .cmpeq), (0x11, .cmpne),
   (0x12, .cmpltu), (0x13, .cmplts), (0x14, .cmpleu), (0x15, .cmples), (0x16, .pand), (0x17, .por),
   (0x18, .pnot), (0x24, .rdlc), (0x2C, .rdsys)]

/-- Whether the fields of a CR syllable keep the limits of Tables 04-2 and 04-5. -/
def cModeOk (o : COp) (f : CF) : Bool :=
  match o with
  | .cmpeq | .cmpne | .cmpltu | .cmplts | .cmpleu | .cmples => f.d < 8
  | .pand | .por => f.d < 8 && f.a < 8 && f.b < 8
  | .pnot => f.d < 8 && f.a < 8 && f.b == 0
  | .rdlc => f.b == 0
  | .rdsys => f.b == 0
  | _ => true

/-- A syllable of slot C (R141, R142). -/
def decodeC (w : Nat) : CSyl :=
  if w = 0 then .nop
  else
    let c := natBits w 26 6
    let pr := natBits w 23 3
    let d := natBits w 18 5
    let a := natBits w 13 5
    let b := natBits w 8 5
    if c = 0 then .bad fcIllegalMode
    else match opLookup cOpR c with
    | some o =>
      if natBits w 0 8 = 0 ∧ cModeOk o ⟨pr, d, a, b⟩ then .reg o ⟨pr, d, a, b⟩ else .bad fcIllegalMode
    | none =>
      if c = 0x0C then .imm .addi ⟨pr, d, a, natBits w 0 13⟩
      else if c = 0x0D then
        if natBits w 16 2 = 0 then .imm .lil ⟨pr, d, 0, natBits w 0 16⟩ else .bad fcIllegalMode
      else if c = 0x0E then
        if natBits w 16 2 = 0 then .imm .lih ⟨pr, d, 0, natBits w 0 16⟩ else .bad fcIllegalMode
      else if c = 0x20 then
        if natBits w 13 10 = 0 then .flow .br ⟨pr, 0, natBits w 0 13⟩ else .bad fcIllegalMode
      else if c = 0x22 then .flow .loopi ⟨pr, natBits w 13 10, natBits w 0 13⟩
      else if c = 0x23 then
        if natBits w 18 5 = 0 then .flow .loops ⟨pr, natBits w 13 5, natBits w 0 13⟩ else .bad fcIllegalMode
      else if c = 0x28 then
        if natBits w 8 18 = 0 then .lapmark (natBits w 0 8) else .bad fcIllegalMode
      else if c = 0x29 then
        if natBits w 2 21 = 0 then .fence pr (natBits w 0 2) else .bad fcIllegalMode
      else if c = 0x2A then
        if pr = 0 ∧ natBits w 0 16 ≠ 0 then .owopen (natBits w 16 7) (natBits w 0 16) else .bad fcIllegalMode
      else if c = 0x2B then if natBits w 0 26 = 0 then .kend else .bad fcIllegalMode
      else if c = 0x2F then if natBits w 0 26 = 0 then .fend else .bad fcIllegalMode
      else .bad fcIllegalOp

/-- The four syllable words of a bundle (R140): VA, VB, M, C. -/
def bundleWord (b : Bundle) (slot : Nat) : Nat := natBits b.toNat (32 * slot) 32

end Sys2Proof.Machine
end

