-- ==== Sys2Proof/Machine/Flags.lean ====
section
/-! DEFINITION. The arithmetic of the render engines: saturation modes, fixed point, binary16, the lane function of every vector operation, the scalar operations, and the predicate (the engines' flags) every compare writes (R143 to R147, R155). -/

namespace Sys2Proof.Machine

open Sys2Proof

/-- A lane value read as signed. -/
def sgn (w v : Nat) : Int := natSigned w v

/-- A result brought into a lane of width `w` under SM (R144): WRAP, USAT, SSAT. -/
def satMode (sm w : Nat) (i : Int) : Nat :=
  if sm = 1 then (clampInt 0 (2 ^ w - 1) i).toNat
  else if sm = 2 then intBits w (clampInt (-(2 ^ (w - 1))) (2 ^ (w - 1) - 1) i)
  else intBits w i

/-- ADD under SM (R144): the sum of the operands read in the range SM names. -/
def addMode (sm w a b : Nat) : Nat :=
  if sm = 2 then satMode 2 w (sgn w a + sgn w b) else satMode sm w ((a : Int) + b)

/-- SUB under SM (R144). -/
def subMode (sm w a b : Nat) : Nat :=
  if sm = 2 then satMode 2 w (sgn w a - sgn w b) else satMode sm w ((a : Int) - b)

/-- SHL under SM (R143, R144). -/
def shlMode (sm w a b : Nat) : Nat :=
  let n := b % w
  if sm = 2 then satMode 2 w (sgn w a * 2 ^ n) else satMode sm w ((a : Int) * 2 ^ n)

/-- The rounded fixed-point product of MULQ and MACQ, before SM (R145). -/
def fixMul (sm w a b : Nat) : Int :=
  let f := if w = 16 then 15 else 16
  let p : Int := if sm = 1 then (a : Int) * b else sgn w a * sgn w b
  (p + 2 ^ (f - 1)) / 2 ^ f

/-! binary16 (R146). A finite value is a multiple of 2^-24, a product a multiple of 2^-48. -/

/-- Classes of a binary16 bit pattern: NaN, infinity, or a finite value in units of 2^-48 with its sign. -/
inductive F16 where
  | nan
  | inf (neg : Bool)
  | fin (neg : Bool) (mag : Nat)
  deriving DecidableEq, Repr

/-- The value of a binary16 bit pattern. -/
def f16Of (v : Nat) : F16 :=
  let neg := v.testBit 15
  let e := natBits v 10 5
  let m := natBits v 0 10
  if e = 31 then (if m = 0 then .inf neg else .nan)
  else if e = 0 then .fin neg (m * 2 ^ 24)
  else .fin neg ((1024 + m) * 2 ^ (e - 1) * 2 ^ 24)

/-- The NaN every NaN result is (R146). -/
def f16Nan : Nat := 0x7E00

/-- `n / d` to the nearest integer, ties to even. -/
def rne (n d : Nat) : Nat :=
  let q := n / d
  let r := n % d
  if 2 * r < d then q else if d < 2 * r then q + 1 else q + q % 2

/-- A magnitude in units of 2^-48, with its sign, rounded to binary16, ties to even (R146). -/
def f16Round (neg : Bool) (mag : Nat) : Nat :=
  let sign := if neg then 0x8000 else 0
  if mag < 2 ^ 34 then sign + rne mag (2 ^ 24)
  else
    let e := Nat.log2 mag
    let bits := (e - 33) * 1024 + rne mag (2 ^ (e - 10)) - 1024
    if 0x7C00 ≤ bits then sign + 0x7C00 else sign + bits

/-- A signed sum of magnitudes rounded; an exact zero sum is +0 unless both addends are −0. -/
def f16Sum (bothNeg : Bool) (i : Int) : Nat :=
  if i = 0 then (if bothNeg then 0x8000 else 0) else f16Round (decide (i < 0)) i.natAbs

/-- The signed value of a magnitude. -/
def signedMag (neg : Bool) (mag : Nat) : Int := if neg then -(mag : Int) else mag

/-- The exact product of two finite values, in units of 2^-48. -/
def f16Prod (a b : Nat) : Nat := a / 2 ^ 24 * (b / 2 ^ 24)

/-- FMUL (R146). -/
def f16Mul (a b : Nat) : Nat :=
  match f16Of a, f16Of b with
  | .nan, _ => f16Nan
  | _, .nan => f16Nan
  | .inf x, .inf y => if x != y then 0xFC00 else 0x7C00
  | .inf x, .fin y m => if m = 0 then f16Nan else if x != y then 0xFC00 else 0x7C00
  | .fin x m, .inf y => if m = 0 then f16Nan else if x != y then 0xFC00 else 0x7C00
  | .fin x m, .fin y n => f16Round (x != y) (f16Prod m n)

/-- FADD (R146). -/
def f16Add (a b : Nat) : Nat :=
  match f16Of a, f16Of b with
  | .nan, _ => f16Nan
  | _, .nan => f16Nan
  | .inf x, .inf y => if x = y then (if x then 0xFC00 else 0x7C00) else f16Nan
  | .inf x, .fin _ _ => if x then 0xFC00 else 0x7C00
  | .fin _ _, .inf y => if y then 0xFC00 else 0x7C00
  | .fin x m, .fin y n => f16Sum (x && y) (signedMag x m + signedMag y n)

/-- FMA: d + a × b with one rounding (R146). -/
def f16Fma (d a b : Nat) : Nat :=
  match f16Of a, f16Of b, f16Of d with
  | .nan, _, _ => f16Nan
  | _, .nan, _ => f16Nan
  | _, _, .nan => f16Nan
  | .fin x m, .fin y n, .fin z k =>
    f16Sum ((x != y) && z) (signedMag (x != y) (f16Prod m n) + signedMag z k)
  | .fin _ _, .fin _ _, .inf z => if z then 0xFC00 else 0x7C00
  | p, q, dd =>
    -- an infinite product, or infinity times zero
    let zero (v : F16) : Bool := match v with | .fin _ m => m == 0 | _ => false
    let neg (v : F16) : Bool := match v with | .fin s _ => s | .inf s => s | .nan => false
    if zero p || zero q then f16Nan
    else match dd with
      | .inf z => if z = (neg p != neg q) then (if z then 0xFC00 else 0x7C00) else f16Nan
      | _ => if neg p != neg q then 0xFC00 else 0x7C00

/-- Whether binary16 `a` is below `b`, neither being NaN; −0 is below +0 (R146). -/
def f16Lt (a b : Nat) : Bool :=
  let key (v : Nat) : Int := if v.testBit 15 then -((v % 0x8000 : Nat) : Int) - 1 else v
  key a < key b

/-- FMIN (R146). -/
def f16Min (a b : Nat) : Nat :=
  match f16Of a, f16Of b with
  | .nan, .nan => f16Nan
  | .nan, _ => b
  | _, .nan => a
  | _, _ => if f16Lt b a then b else a

/-- FMAX (R146). -/
def f16Max (a b : Nat) : Nat :=
  match f16Of a, f16Of b with
  | .nan, .nan => f16Nan
  | .nan, _ => b
  | _, .nan => a
  | _, _ => if f16Lt a b then b else a

/-- FCVTU (R146). -/
def f16ToU (a : Nat) : Nat :=
  match f16Of a with
  | .nan => 0
  | .inf neg => if neg then 0 else 0xFFFF
  | .fin neg m => if neg then 0 else min (rne m (2 ^ 48)) 0xFFFF

/-- UCVTF (R146). -/
def uToF16 (a : Nat) : Nat :=
  let r := f16Round false (a * 2 ^ 48)
  if 0x7C00 ≤ r then 0x7BFF else r

/-! Vector operations lane by lane (Table 04-3). -/

/-- The lane result of an operation whose lane `i` depends on lane `i` of A, B and D alone. -/
def vLane (o : VOp) (sm w a b d : Nat) : Nat :=
  match o with
  | .mov => a
  | .add => addMode sm w a b
  | .sub => subMode sm w a b
  | .minu => min a b
  | .mins => if sgn w a ≤ sgn w b then a else b
  | .maxu => max a b
  | .maxs => if sgn w a ≤ sgn w b then b else a
  | .and => a &&& b
  | .or => a ||| b
  | .xor => a ^^^ b
  | .andn => a &&& (2 ^ w - 1 - b)
  | .shl => shlMode sm w a b
  | .shru => a / 2 ^ (b % w)
  | .shrs => intBits w (sgn w a / 2 ^ (b % w))
  | .absdu => if a ≤ b then b - a else a - b
  | .avgu => (a + b + 1) / 2
  | .mul => a * b % 2 ^ w
  | .mulhu => a * b / 2 ^ w
  | .mulhs => intBits w (sgn w a * sgn w b / 2 ^ w)
  | .mulq => satMode sm w (fixMul sm w a b)
  | .macq => satMode sm w ((if sm = 2 ∨ sm = 0 then sgn w d else (d : Int)) + fixMul sm w a b)
  | .fma => f16Fma d a b
  | .fmul => f16Mul a b
  | .fadd => f16Add a b
  | .fcvtu => f16ToU a
  | .ucvtf => uToF16 a
  | .fmin => f16Min a b
  | .fmax => f16Max a b
  | .cmpeq => if a = b then 1 else 0
  | .cmpne => if a = b then 0 else 1
  | .cmpltu => if a < b then 1 else 0
  | .cmplts => if sgn w a < sgn w b then 1 else 0
  | .cmpleu => if a ≤ b then 1 else 0
  | .cmples => if sgn w a ≤ sgn w b then 1 else 0
  | _ => a

/-- PACK: a W32 lane narrowed to 16 bits under SM (R143, R144). USAT and SSAT read the lane in their
own range. -/
def narrow (sm v : Nat) : Nat :=
  if sm = 2 then satMode 2 16 (sgn 32 v) else satMode sm 16 (v : Int)

/-- The value an operation gives its destination register, every lane, before the predicate: A, B and D
are whole registers, `bv` the scalar of BS = 1. -/
def vResult (o : VOp) (f : VF) (a b d : Nat) (bv : Nat) (en : Nat → Bool) : Nat :=
  let w := laneW f.h16
  let n := laneN f.h16
  let la (i : Nat) : Nat := laneGet f.h16 a i
  let lb (i : Nat) : Nat := if f.bs then bv % 2 ^ w else laneGet f.h16 b i
  let ld (i : Nat) : Nat := laneGet f.h16 d i
  match o with
  | .sel => ofLanes f.h16 fun i => if en i then la i else lb i
  | .perm => ofLanes f.h16 fun i => la (lb i % n)
  | .rotl => ofLanes f.h16 fun i => la ((i + bv) % n)
  | .splat => ofLanes f.h16 fun _ => la (bv % n)
  | .rsum => ofLanes f.h16 fun i =>
      if i = 0 then (((List.range n).map fun j => if en j then la j else 0).sum) % 2 ^ w else 0
  | .pack => ofLanes true fun i =>
      narrow f.sm (if i < 16 then laneGet false a i else laneGet false b (i - 16))
  | .unpklu => ofLanes false fun i => laneGet true a i
  | .unpkhu => ofLanes false fun i => laneGet true a (i + 16)
  | .unpkls => ofLanes false fun i => intBits 32 (sgn 16 (laneGet true a i))
  | .unpkhs => ofLanes false fun i => intBits 32 (sgn 16 (laneGet true a (i + 16)))
  | .zipl => ofLanes f.h16 fun i => if i % 2 = 0 then la (i / 2) else lb (i / 2)
  | .ziph => ofLanes f.h16 fun i => if i % 2 = 0 then la (i / 2 + n / 2) else lb (i / 2 + n / 2)
  | _ => ofLanes f.h16 fun i => vLane o f.sm w (la i) (lb i) (ld i)

/-- The predicate bits a vector compare gives, one per lane (R147). -/
def vCmpBits (o : VOp) (f : VF) (a b : Nat) (bv : Nat) : Nat :=
  packLanes 1 ((List.range (laneN f.h16)).map fun i =>
    vLane o 0 (laneW f.h16) (laneGet f.h16 a i)
      (if f.bs then bv % 2 ^ laneW f.h16 else laneGet f.h16 b i) 0)

/-! Scalar operations (Table 04-5). -/

/-- A scalar result modulo 2^32 (R155). -/
def cAlu (o : COp) (a b : Nat) : Nat :=
  match o with
  | .add => (a + b) % 2 ^ 32
  | .sub => (a + 2 ^ 32 - b) % 2 ^ 32
  | .and => a &&& b
  | .or => a ||| b
  | .xor => a ^^^ b
  | .shl => a * 2 ^ (b % 32) % 2 ^ 32
  | .shru => a / 2 ^ (b % 32)
  | .shrs => intBits 32 (sgn 32 a / 2 ^ (b % 32))
  | .mul => a * b % 2 ^ 32
  | .mins => if sgn 32 a ≤ sgn 32 b then a else b
  | .maxs => if sgn 32 a ≤ sgn 32 b then b else a
  | _ => a

/-- A scalar compare: all ones or 0 (R138, R155). -/
def cCmp (o : COp) (a b : Nat) : Nat :=
  let c : Bool := match o with
    | .cmpeq => a == b
    | .cmpne => a != b
    | .cmpltu => a < b
    | .cmplts => sgn 32 a < sgn 32 b
    | .cmpleu => a ≤ b
    | .cmples => sgn 32 a ≤ sgn 32 b
    | _ => false
  if c then 2 ^ 32 - 1 else 0

/-- A predicate operation (R155). -/
def pAlu (o : COp) (a b : Nat) : Nat :=
  match o with
  | .pand => a &&& b
  | .por => a ||| b
  | _ => 2 ^ 32 - 1 - a

end Sys2Proof.Machine
end

