-- ==== Sys2Proof/Machine/Engine.lean ====
section
/-! DEFINITION. The render engines (spec/04): the step contract, the issue of a bundle, bank accesses, laps, fences, windows, kernels and faults. -/

namespace Sys2Proof.Machine

open Sys2Proof

/-! An engine and its registers (R135). -/

/-- Engine `e` beside its page. -/
def State.eng (s : State) (e : Nat) : EngS := mapGet (fun _ => EngS.reset) s.engs e

/-- `s` with engine `e` replaced. -/
def State.setEng (s : State) (e : Nat) (x : EngS) : State :=
  { s with engs := mapSet (fun _ => EngS.reset) s.engs e x }

/-- `s` with engine `e` changed by `f`. -/
def State.modEng (s : State) (e : Nat) (f : EngS → EngS) : State := s.setEng e (f (s.eng e))

/-- The register page of engine `e` (R169). -/
def engPage (e : Nat) : Nat := 0x10 + e

/-- STATE codes of ENGn.STATUS (Table 04-9). -/
def esIdle : Nat := 0
def esRun : Nat := 1
def esFence : Nat := 2
def esSave : Nat := 3
def esPad : Nat := 4
def esWindow : Nat := 5
def esFaulted : Nat := 6
def esResuming : Nat := 7

/-- STATE of engine `e`. -/
def State.engState (s : State) (e : Nat) : Nat := s.fld (ENG_STATUS_STATE.inst e)

/-- `s` with STATE of engine `e` set. -/
def State.setEngState (s : State) (e v : Nat) : State := s.setFld (ENG_STATUS_STATE.inst e) v

/-- The service slot, or reserve number, engine `e` reports (R125). -/
def State.engSlot (s : State) (e : Nat) : Nat := s.fld (ENG_STATUS_SLOT.inst e)

/-- V register `i`. -/
def EngS.rv (e : EngS) (i : Nat) : Nat := (mapGet (fun _ => (0 : Row)) e.v i).toNat

/-- S register `i`; S0 reads 0 (R135). -/
def EngS.rs (e : EngS) (i : Nat) : Nat := if i = 0 then 0 else (mapGet (fun _ => (0 : Word)) e.s i).toNat

/-- P register `i`; P0 reads all ones (R135). -/
def EngS.rp (e : EngS) (i : Nat) : Nat :=
  if i = 0 then 2 ^ 32 - 1 else (mapGet (fun _ => (0 : Word)) e.p i).toNat

/-- A write of the bits `mask` of a register; writes to S0 and P0 are discarded (R135). Lanes written
have good parity again. -/
def EngS.put (e : EngS) (d : Dest) (mask v : Nat) : EngS :=
  match d with
  | .v i =>
    { e with
      v := mapSet (fun _ => (0 : Row)) e.v i
        ((BitVec.ofNat 512 (e.rv i) &&& ~~~ (BitVec.ofNat 512 mask)) ||| BitVec.ofNat 512 (v &&& mask))
      parity := e.parity.filter fun q => !(q.1 == d && (laneGet false mask q.2 == 2 ^ 32 - 1)) }
  | .s i =>
    if i = 0 then e
    else { e with
      s := mapSet (fun _ => (0 : Word)) e.s i
        ((BitVec.ofNat 32 (e.rs i) &&& ~~~ (BitVec.ofNat 32 mask)) ||| BitVec.ofNat 32 (v &&& mask))
      parity := e.parity.filter fun q => q.1 != d }
  | .p i =>
    if i = 0 then e
    else { e with
      p := mapSet (fun _ => (0 : Word)) e.p i
        ((BitVec.ofNat 32 (e.rp i) &&& ~~~ (BitVec.ofNat 32 mask)) ||| BitVec.ofNat 32 (v &&& mask))
      parity := e.parity.filter fun q => q.1 != d }

/-! Results in flight (R130 to R134). -/

/-- The register write arbiter (R132): of results to one register at one step, the one whose slot comes
last in the order VA, VB, M, C is stored, and of two of one slot the later issued. DESIGN CHOICE (log entry 15): a
result with no lane enabled competes as well. -/
def Pend.wins (l : List Pend) (a : Pend) : Bool :=
  l.all fun b => b.dest != a.dest || b.rank < a.rank || (b.rank == a.rank && b.issued ≤ a.issued)

/-- The results due at step `t` or earlier land. -/
def EngS.landAt (e : EngS) (t : Nat) : EngS :=
  let due := e.pend.filter fun q => q.land ≤ t
  let e1 := (due.filter fun q => Pend.wins due q).foldl (fun x q => x.put q.dest q.mask q.val) e
  { e1 with pend := e.pend.filter fun q => !(q.land ≤ t) }

/-- The longest latency of Table 04-1. -/
def maxLatency : Nat := 4

/-- Every pending result lands, each at its own step (R134). -/
def EngS.flush (e : EngS) : EngS :=
  (List.range (maxLatency + 1)).foldl (fun x k => x.landAt (e.step + k)) e

/-! What a bundle reads and would write. -/

/-- Whether a register read meets a parity error (REG_PARITY). -/
def EngS.badRead (e : EngS) (ds : List Dest) : Bool := ds.any fun d => e.parity.any fun q => q.1 == d

/-- Whether a vector operation reads B. -/
def VOp.readsB (o : VOp) : Bool :=
  match o with
  | .mov | .rsum | .unpklu | .unpkhu | .unpkls | .unpkhs | .fcvtu | .ucvtf => false
  | _ => true

/-- Registers a vector syllable reads. -/
def vReads (y : VSyl) : List Dest :=
  match y with
  | .op o f =>
    [.v f.a, .p f.pr] ++ (if o.readsB then [if f.bs then .s f.b else .v f.b] else []) ++
      (match o with | .macq | .fma => [.v f.d] | _ => [])
  | _ => []

/-- The result of a vector syllable issued at step `t` from slot `rank` (Table 04-1, R137, R147). -/
def vPend (e : EngS) (t rank : Nat) (y : VSyl) : List Pend :=
  match y with
  | .op o f =>
    let en (i : Nat) : Bool := (e.rp f.pr).testBit i
    let bv := e.rs f.b
    if o.isCmp then
      let m := packLanes 1 ((List.range (laneN f.h16)).map fun i => if en i then 1 else 0)
      [⟨t + 2, t, rank, .p f.d, if f.h16 then m else m + 0xFFFF0000, vCmpBits o f (e.rv f.a) (e.rv f.b) bv⟩]
    else
      let m := match o with | .sel => 2 ^ 512 - 1 | .rsum => 2 ^ 512 - 1 | _ => laneMask f.h16 en
      [⟨t + 2, t, rank, .v f.d, m, vResult o f (e.rv f.a) (e.rv f.b) (e.rv f.d) bv en⟩]
  | _ => []

/-- A bank access of an M syllable: bank, kind (0 load, 1 store, 2 set, 3 clear), and the words with
offset, mask and data (R148 to R151). -/
structure MAcc where
  bank : Nat
  kind : Nat
  words : List (Nat × Nat × Nat)
  deriving DecidableEq, Repr

/-- Offset arithmetic of a bank address wraps inside the bank (R148). -/
def bankOff (base : Nat) (d : Int) : Nat := intBits 18 (natBits base 0 18 + d)

/-- Registers an M syllable reads. -/
def mReads (y : MSyl) : List Dest :=
  match y with
  | .mem o f =>
    [.p f.pr, .s f.base] ++
      (match o with
       | .vst | .vstp | .vsts | .vstc => [.v f.data]
       | .sst | .sstp | .ssts | .sstc => [.s f.data]
       | _ => [])
  | .idx o f => [.p f.pr, .s f.base, .v f.idx] ++ (match o with | .xst => [.v f.data] | _ => [])
  | .lane o f => [.p f.pr] ++ (match o with | .vget => [.v f.v] | _ => [.s f.s])
  | .chan o f => [.p f.pr] ++ (match o with | .scstart => [.s f.ix] | _ => [])
  | _ => []

/-- Whether an MV or MS operation takes its address at S[BASE] and then increments it. -/
def MOp.post (o : MOp) : Bool :=
  match o with | .vldp | .vstp | .sldp | .sstp => true | _ => false

/-- Whether an operation moves a V register. -/
def MOp.isVec (o : MOp) : Bool :=
  match o with | .vld | .vldp | .vst | .vstp | .vsts | .vstc => true | _ => false

/-- Kind of access of an operation. -/
def MOp.kind (o : MOp) : Nat :=
  match o with
  | .vst | .vstp | .xst | .sst | .sstp => 1
  | .vsts | .ssts => 2
  | .vstc | .sstc => 3
  | _ => 0

/-- Byte address of an MV or MS access, before the low bits are dropped (R148). -/
def mOffset (e : EngS) (o : MOp) (f : MF) : Nat :=
  bankOff (e.rs f.base) (if o.post then 0 else natSigned 12 f.off * (if o.isVec then 64 else 4))

/-- The bank access a syllable makes; none where no lane is enabled. -/
def mAccess (e : EngS) (y : MSyl) : Option MAcc :=
  match y with
  | .mem o f =>
    let off := mOffset e o f
    if o.isVec then
      let en := laneMask false fun i => (e.rp f.pr).testBit i
      let row := off / 64 * 64
      let ws := (List.range 8).map fun w => (row + 8 * w, natBits en (64 * w) 64, natBits (e.rv f.data) (64 * w) 64)
      if en = 0 then none
      else some ⟨natBits (e.rs f.base) 18 5, o.kind, ws.filter fun w => w.2.1 != 0⟩
    else if (e.rp f.pr).testBit 0 then
      let sh := if off % 8 < 4 then 0 else 32
      some ⟨natBits (e.rs f.base) 18 5, o.kind, [(off / 8 * 8, (2 ^ 32 - 1) * 2 ^ sh, e.rs f.data * 2 ^ sh)]⟩
    else none
  | .idx o f =>
    let row0 := natBits (e.rs f.base) 6 12
    let ws := ((List.range 16).filter fun i => (e.rp f.pr).testBit i).map fun i =>
      let row := (row0 + natBits (laneGet false (e.rv f.idx) i) 0 12) % 4096
      let sh := if i % 2 = 0 then 0 else 32
      (64 * row + i / 2 * 8, (2 ^ 32 - 1) * 2 ^ sh, laneGet false (e.rv f.data) i * 2 ^ sh)
    if ws.isEmpty then none else some ⟨natBits (e.rs f.base) 18 5, o.kind, ws⟩
  | _ => none

/-- Outstanding descriptors of a channel. -/
def EngS.chan (e : EngS) (c : Nat) : Chan := if c = 0 then e.sc0 else e.sc1

/-- `e` with a channel replaced. -/
def EngS.setChan (e : EngS) (c : Nat) (x : Chan) : EngS := if c = 0 then { e with sc0 := x } else { e with sc1 := x }

/-- SCSTAT (Table 04-4). -/
def chanStat (c : Chan) : Nat :=
  c.queue.length + (match c.queue with | d :: _ => d | [] => c.last) % 4096 * 2 ^ 16

/-- The results of an M syllable issued at step `t`; `data` the words its access read. -/
def mPend (e : EngS) (t : Nat) (y : MSyl) (data : List Nat) : List Pend :=
  match y with
  | .mem o f =>
    let off := mOffset e o f
    let on := (e.rp f.pr).testBit 0
    let en := laneMask false fun i => (e.rp f.pr).testBit i
    let acc := o.isVec || on
    let inc := if o.post && acc then
        [⟨t + 1, t, 2, .s f.base, 2 ^ 18 - 1, bankOff (e.rs f.base) (natSigned 12 f.off * (if o.isVec then 64 else 4))⟩]
      else []
    let ld : List Pend := match o with
      | .vld | .vldp =>
        let ws := (List.range 8).filter fun w => natBits en (64 * w) 64 != 0
        let row := (ws.zip data).map fun q => q.2 * 2 ^ (64 * q.1)
        [⟨t + 4, t, 2, .v f.data, en, row.sum⟩]
      | .sld | .sldp =>
        if on then [⟨t + 4, t, 2, .s f.data, 2 ^ 32 - 1, natBits (data.getD 0 0) (if off % 8 < 4 then 0 else 32) 32⟩] else []
      | _ => []
    inc ++ ld
  | .idx o f =>
    match o with
    | .xld =>
      let lanes := (List.range 16).filter fun i => (e.rp f.pr).testBit i
      let row := (lanes.zip data).map fun q => natBits q.2 (if q.1 % 2 = 0 then 0 else 32) 32 * 2 ^ (32 * q.1)
      [⟨t + 4, t, 2, .v f.data, laneMask false fun i => (e.rp f.pr).testBit i, row.sum⟩]
    | _ => []
  | .lane o f =>
    if (e.rp f.pr).testBit 0 then
      match o with
      | .vget => [⟨t + 2, t, 2, .s f.s, 2 ^ 32 - 1, laneGet false (e.rv f.v) f.lane⟩]
      | _ => [⟨t + 2, t, 2, .v f.v, (2 ^ 32 - 1) * 2 ^ (32 * f.lane), e.rs f.s * 2 ^ (32 * f.lane)⟩]
    else []
  | .chan o f =>
    match o with
    | .scstat => if (e.rp f.pr).testBit 0 then [⟨t + 2, t, 2, .s f.data, 2 ^ 32 - 1, chanStat (e.chan f.ch)⟩] else []
    | _ => []
  | _ => []

/-- The descriptor an executed SCSTART queues: channel and number (Table 04-4). -/
def mStart (e : EngS) (y : MSyl) : Option (Nat × Nat) :=
  match y with
  | .chan .scstart f => if (e.rp f.pr).testBit 0 then some (f.ch, (f.imm + e.rs f.ix) % 4096) else none
  | _ => none

/-- Registers a C syllable reads. -/
def cReads (y : CSyl) : List Dest :=
  match y with
  | .reg o f =>
    [.p f.pr] ++ (match o with
      | .pand | .por => [.p f.a, .p f.b]
      | .pnot => [.p f.a]
      | .rdlc | .rdsys => []
      | _ => [.s f.a, .s f.b])
  | .imm o f => [.p f.pr] ++ (match o with | .addi => [.s f.a] | .lih => [.s f.d] | _ => [])
  | .flow o f => [.p f.pr] ++ (match o with | .loops => [.s f.count] | _ => [])
  | .fence pr _ => [.p pr]
  | .kend => [.s 24]
  | _ => []

/-- The results of a C syllable issued at step `t`; `sys` gives the RDSYS values (Tables 04-5, 04-6). -/
def cPend (e : EngS) (t : Nat) (sys : Nat → Nat) (y : CSyl) : List Pend :=
  match y with
  | .reg o f =>
    if (e.rp f.pr).testBit 0 then
      match o with
      | .cmpeq | .cmpne | .cmpltu | .cmplts | .cmpleu | .cmples =>
        [⟨t + 1, t, 3, .p f.d, 2 ^ 32 - 1, cCmp o (e.rs f.a) (e.rs f.b)⟩]
      | .pand | .por | .pnot => [⟨t + 1, t, 3, .p f.d, 2 ^ 32 - 1, pAlu o (e.rp f.a) (e.rp f.b)⟩]
      | .rdlc =>
        -- level 0 is the outer one; the table names bit 0 of A and says nothing of the others (log entry 15)
        let l := e.loops.reverse
        [⟨t + 1, t, 3, .s f.d, 2 ^ 32 - 1, match l[f.a % 2]? with | some x => x.count | none => 0⟩]
      | .rdsys => [⟨t + 1, t, 3, .s f.d, 2 ^ 32 - 1, sys f.a % 2 ^ 32⟩]
      | _ => [⟨t + 1, t, 3, .s f.d, 2 ^ 32 - 1, cAlu o (e.rs f.a) (e.rs f.b)⟩]
    else []
  | .imm o f =>
    if (e.rp f.pr).testBit 0 then
      let v := match o with
        | .addi => intBits 32 (e.rs f.a + natSigned 13 f.imm)
        | .lih => f.imm * 2 ^ 16 + e.rs f.d % 2 ^ 16
        | _ => f.imm
      [⟨t + 1, t, 3, .s f.d, 2 ^ 32 - 1, v⟩]
    else []
  | _ => []

/-! Control flow (R156 to R158). -/

/-- A taken branch: its target. -/
def cBranch (e : EngS) (y : CSyl) : Option Nat :=
  match y with
  | .flow .br f => if (e.rp f.pr).testBit 0 then some f.target else none
  | _ => none

/-- An executed LOOPI or LOOPS: count and end. -/
def cLoop (e : EngS) (y : CSyl) : Option (Nat × Nat) :=
  match y with
  | .flow .loopi f => if (e.rp f.pr).testBit 0 then some (f.count, f.target) else none
  | .flow .loops f => if (e.rp f.pr).testBit 0 then some (e.rs f.count, f.target) else none
  | _ => none

/-- Operations refused in a delay slot, whether predicated on or off (R156). -/
def cNoDelay (y : CSyl) : Bool :=
  match y with
  | .flow _ _ => true
  | .lapmark _ => true
  | .owopen _ _ => true
  | .fend => true
  | _ => false

/-- The lower of two fault codes and where it arose; code 0 is no fault (R168). -/
def lowFault (a b : Nat × Nat) : Nat × Nat :=
  if a.1 = 0 then b else if b.1 = 0 ∨ a.1 ≤ b.1 then a else b

/-- Position faults of the C slot (R156, R157). -/
def cIllegal (e : EngS) (y : CSyl) : Bool :=
  (e.inDelay && cNoDelay y) ||
    ((cBranch e y).isSome && e.loops.any fun l => e.pc == l.end_ || e.pc + 1 == l.end_) ||
    (match cLoop e y with | some (_, en) => decide (en ≤ e.pc) | none => false)

/-- Loop nesting (R158). -/
def cNest (e : EngS) (y : CSyl) : Bool :=
  match cLoop e y with
  | some (n, en) => n != 0 && (decide (2 ≤ e.loops.length) || e.loops.any fun l => decide (l.end_ < en))
  | none => false

/-- FEND and the place after the last lap (R162); kernels have their own rule (R165). -/
def cFend (e : EngS) (y : CSyl) : Nat :=
  match y with
  | .fend => if e.atFend then 0 else if e.first then fcLapTable else fcIllegalPosition
  | _ => if e.atFend then fcLapTable else 0

/-- Faults of the C slot beside its decoding (R156 to R158, R162, R165). -/
def cFaults (e : EngS) (inKernel : Bool) (y : CSyl) : List (Nat × Nat) :=
  [(if cIllegal e y then fcIllegalPosition else 0, 3), (if cNest e y then fcLoopNest else 0, 3),
   (if inKernel then 0 else cFend e y, 3),
   (if y = .kend ∧ ¬ inKernel then fcKendOutside else 0, 3)]

/-- Levels left by a branch to `target`: those it lies outside of are popped, innermost first (R158). -/
def popLoops (l : List Loop) (target : Nat) : List Loop :=
  match l with
  | [] => []
  | x :: t => if target < x.start ∨ x.end_ < target then popLoops t target else l

/-- The loop levels and the next bundle after the bundle at `pc` has issued (R156, R157). -/
def EngS.advance (e : EngS) (y : CSyl) : EngS :=
  let pc := e.pc
  let nxt := (pc + 1) % 8192
  match e.branch with
  | some target => { e with pc := target, branch := none, inDelay := false, loops := popLoops e.loops target }
  | none =>
    match cBranch e y with
    | some target => { e with pc := nxt, branch := some target, inDelay := true }
    | none =>
      let pushed := match cLoop e y with
        | some (n, en) => if n = 0 then { e with pc := (en + 1) % 8192 }
          else { e with pc := nxt, loops := ⟨nxt, en, n⟩ :: e.loops }
        | none => { e with pc := nxt }
      match e.loops with
      | l :: t =>
        if l.end_ = pc then
          if 2 ≤ l.count then { pushed with pc := l.start, loops := { l with count := l.count - 1 } :: t }
          else { pushed with loops := t }
        else pushed
      | [] => pushed

/-! Faults (R167, R168). -/

/-- An engine fault: it is recorded unless one stands, earlier results land, a report goes to the lap
watch, and BLOCK_FAULT is raised. -/
def State.engFault (s : State) (e code addr slot : Nat) : State :=
  if s.engState e = esFaulted then s
  else
    let lap := s.fld (ENG_LAP_NOW_LAP.inst e)
    let s1 := (((s.setEngState e esFaulted).setFld (ENG_FAULT_INFO_CODE.inst e) code).setFld
      (ENG_FAULT_INFO_ADDR.inst e) addr).setFld (ENG_FAULT_INFO_SLOT.inst e) slot
    let s2 := (s1.setFld (ENG_FAULT_LAP_LAP.inst e) lap).setFld (ENG_FAULT_FRAME_FRAME_LO.inst e)
      (s.fld (ENG_FRAME_NOW_FRAME_LO.inst e))
    let s3 := s2.modEng e EngS.flush
    let s4 := { s3 with plan := { s3.plan with reports := s3.plan.reports ++ [(e, code, lap)] } }
    s4.raise (engPage e) 6 (code + addr * 2 ^ 5 + slot * 2 ^ 18 + lap * 2 ^ 20)

/-- A kernel is stopped for a breach (R165): its task ends FAULTED, the window is padded on. -/
def State.kernelFault (s : State) (e : Nat) (w : Window) (k : Kernel) (addr : Nat) : State :=
  let s1 := s.modEng e fun x => { x.flush with
    window := some { w with kernel := none }
    loops := []
    branch := none
    inDelay := false }
  let s2 := { s1 with sched := { s1.sched with faults := s1.sched.faults ++ [(s.engSlot e, 4, 0)] } }
  s2.raise (engPage e) 8 (k.ctx + addr * 2 ^ 8)

/-! Steps (R129, R162). -/

/-- One more step of engine `e`: counted in STEPS, in the lap, and in the window. -/
def State.countStep (s : State) (e n : Nat) (inLap : Bool) : State :=
  let s1 := s.setPair (ENG_STEPS_LO_COUNT.inst e) (ENG_STEPS_HI_COUNT.inst e)
    (s.pair (ENG_STEPS_LO_COUNT.inst e) (ENG_STEPS_HI_COUNT.inst e) + n)
  let s2 := if inLap then s1.incFld (ENG_STEP_IN_LAP_STEPS.inst e) n else s1
  s2.modEng e fun x => { x with step := x.step + n, lastIssue := s.time.mono }

/-- The lap table entry of lap `k` of the slot the engine runs. -/
def EngS.lapEnt (x : EngS) (k : Nat) : Option LapEnt :=
  match x.tab with | some t => t.laps[k]? | none => none

/-- The declared step count of the lap in progress; 0 where the engine runs no lap. -/
def State.lapSteps (s : State) (e : Nat) : Nat :=
  match (s.eng e).lapEnt (s.fld (ENG_LAP_NOW_LAP.inst e)) with | some l => l.steps | none => 0

/-- Whether the lap has used its declared count, so that the next step is LAP_OVERRUN (R162). -/
def State.lapFull (s : State) (e : Nat) : Bool :=
  !(s.eng e).atFend && decide (s.lapSteps e ≤ s.fld (ENG_STEP_IN_LAP_STEPS.inst e))

/-! Bank accesses on port E (R152, R219). -/

/-- Reads the words of a load: data, whether one was uncorrectable, state after. -/
def State.loadWords (s : State) (b : Nat) (ws : List (Nat × Nat × Nat)) : List Nat × Bool × State :=
  match ws with
  | [] => ([], false, s)
  | w :: t =>
    let r := s.eRead b w.1
    let rest := r.2.2.loadWords b t
    (r.1.toNat :: rest.1, r.2.1 || rest.2.1, rest.2.2)

/-- The stores of an access. -/
def State.storeWords (s : State) (a : MAcc) : State :=
  a.words.foldl (fun t w =>
    let m := BitVec.ofNat 64 w.2.1
    let v := BitVec.ofNat 64 w.2.2
    if a.kind = 1 then t.writeWord a.bank w.1 m v 0 else t.rmwWord a.bank w.1 m v (a.kind == 3) 0) s

/-! Stream channels (R153, R181). -/

/-- Whether the channel's LAP window is open in the lap in progress, by the plan whose frame the engine runs (R181,
R191). -/
def State.scWindow (s : State) (e c : Nat) : Bool :=
  let lap := s.fld (ENG_LAP_NOW_LAP.inst e)
  s.engState e != esIdle && !(s.eng e).atFend &&
    (s.eng e).windows.any fun w => !w.timed && w.slot == s.engSlot e && w.ch == c && w.startLap ≤ lap && lap ≤ w.endLap

/-- A descriptor starts: outside a window it is counted (R181). -/
def State.descStart (s : State) (e c : Nat) : State :=
  if s.scWindow e c then s else s.incFld PLAN_SC_OUTSIDE_COUNT 1

/-- SCSTART places its descriptor at the tail (R153). -/
def State.scPush (s : State) (e c d : Nat) : State :=
  let ch := (s.eng e).chan c
  let s1 := s.modEng e fun x => x.setChan c { ch with queue := ch.queue ++ [d] }
  if ch.queue.isEmpty then s1.descStart e c else s1

/-- The fault of an executed SCSTART (R153); 0 for none. -/
def scFault (x : EngS) (st : Option (Nat × Nat)) : Nat :=
  match st with
  | none => 0
  | some (c, d) =>
    if (x.chan c).queue.length = 4 then fcScOverrun
    else match x.tab with
      | some t => (match t.desc with
        | some l => if d < l.length then 0 else fcDescRange
        | none => fcDescRange)
      | none => fcDescRange

/-! Issue of a bundle (R129). -/

/-- The bundle the engine fetches next: the segment in use, NOP where nothing is loaded (R126, R173). -/
def State.bundleAt (s : State) (e addr : Nat) : Bundle :=
  mapGet (fun _ => (0 : Bundle)) (s.eng e).imem (s.fld (ENG_SEG_MAP_SEG.inst e) * 8192 + addr)

/-- The bundle at the engine's program address. -/
def State.bundleNow (s : State) (e : Nat) : Bundle := s.bundleAt e (s.eng e).pc

/-- The four syllables of a bundle. -/
structure Syls where
  va : VSyl
  vb : VSyl
  m : MSyl
  c : CSyl
  deriving DecidableEq, Repr

/-- A bundle decoded (R140). -/
def decodeBundle (b : Bundle) : Syls :=
  ⟨decodeV false (bundleWord b 0), decodeV true (bundleWord b 1), decodeM (bundleWord b 2), decodeC (bundleWord b 3)⟩

/-- Decode fault of a vector syllable. -/
def VSyl.fault (y : VSyl) : Nat := match y with | .bad c => c | _ => 0

/-- Decode fault of an M syllable. -/
def MSyl.fault (y : MSyl) : Nat := match y with | .bad c => c | _ => 0

/-- Decode fault of a C syllable. -/
def CSyl.fault (y : CSyl) : Nat := match y with | .bad c => c | _ => 0

/-- Whether a kernel's syllables keep the register and operation limits of R165. -/
def kernelOk (rs : List Pend) (y : Syls) : Bool :=
  (rs.all fun r => match r.dest with
    | .v i => r.mask == 0 || 56 ≤ i
    | .s i => i == 0 || 24 ≤ i
    | .p i => r.mask == 0 || i == 0 || 6 ≤ i) &&
  (match y.c with | .lapmark _ => false | .owopen _ _ => false | .fend => false | .fence _ _ => false | _ => true) &&
  (match y.m with | .chan .scstart _ => false | _ => true)

/-- System values of RDSYS (Table 04-6). -/
def State.rdsys (s : State) (e a : Nat) : Nat :=
  if a = 0 then s.engSlot e
  else if a = 1 then s.fld (ENG_FRAME_NOW_FRAME_LO.inst e)
  else if a = 2 then s.fld (ENG_LAP_NOW_LAP.inst e)
  else if a = 3 then s.fld (ENG_STEP_IN_LAP_STEPS.inst e) + 1
  else if a = 4 then e
  else if a = 5 then
    (match (s.eng e).window with
      | some w => (match w.kernel with | some k => k.descAddr | none => 0)
      | none => 0)
  else 0

/-- The ECC check of the fetched bundle (R127): 1 corrected and counted, 2 uncorrectable. -/
def State.fetchEcc (s : State) (e : Nat) : Nat × State :=
  let seg := s.fld (ENG_SEG_MAP_SEG.inst e)
  let addr := (s.eng e).pc
  let k := mapGet (fun _ => 0) (s.eng e).imemErr (seg * 8192 + addr)
  if k = 1 then
    let n := mapGet (fun _ => 0) s.groom.segCorr (4 * e + seg) + 1
    let s1 := { s with groom := { s.groom with segCorr := mapSet (fun _ => 0) s.groom.segCorr (4 * e + seg) n } }
    (1, (s1.incFld (ENG_IMEM_CORR_COUNT.inst e) 1).raise (engPage e) 4 (addr + seg * 2 ^ 13))
  else if k = 2 then (2, s.raise (engPage e) 5 (addr + seg * 2 ^ 13))
  else (0, s)

/-- Whether the engine issues a bundle at this step: it runs plan code, or a kernel in a window. -/
def State.issuing (s : State) (e : Nat) : Bool :=
  e < 10 && (s.engState e == esRun || (s.engState e == esWindow &&
    (match (s.eng e).window with | some w => w.kernel.isSome | none => false)))

/-- The window a kernel runs in. -/
def EngS.kernelWin (x : EngS) : Option (Window × Kernel) :=
  match x.window with
  | some w => (match w.kernel with | some k => some (w, k) | none => none)
  | none => none

/-! What the C slot does after the bundle has issued. -/

/-- Whether a channel of the mask has a descriptor outstanding (R163). -/
def EngS.chansBusy (x : EngS) (mask : Nat) : Bool :=
  (mask.testBit 0 && !x.sc0.queue.isEmpty) || (mask.testBit 1 && !x.sc1.queue.isEmpty)

/-- The kernel's end (R242): S24 as read at KEND's step is the RESULT of its task. -/
def State.kernelEnd (s : State) (e : Nat) (w : Window) (result : Nat) : State :=
  let s1 := s.modEng e fun x => { x.flush with
    window := some { w with kernel := none }
    loops := []
    branch := none
    inDelay := false }
  { s1 with sched := { s1.sched with done := s1.sched.done ++ [(s.engSlot e, result % 2 ^ 16)] } }

/-- FEND (R166, R158): the engine is IDLE, both loop levels are cleared, padding is reported. -/
def State.frameEnd (s : State) (e : Nat) : State :=
  let s1 := (s.setEngState e esIdle).setFld (ENG_PAD_STEPS_COUNT.inst e) (s.eng e).padFrame
  s1.modEng e fun x => { x.flush with loops := [], padFrame := 0, atFend := false, first := false, branch := none, inDelay := false }

/-- The C slot's effect on the engine once the bundle's results are in flight and the next address is
known; `x0` is the engine as the bundle read it. -/
def State.afterIssue (s : State) (e : Nat) (x0 : EngS) (y : CSyl) : State :=
  match y with
  | .lapmark g =>
    -- the drain is a fence wait on both channels (R159, R182)
    let busy := (s.eng e).chansBusy 3
    (s.setEngState e (if busy then esFence else esSave)).modEng e fun x =>
      { x with mark := some (g, x0.pc), fenceMask := if busy then 3 else 0 }
  | .fence pr mask =>
    if (x0.rp pr).testBit 0 ∧ (s.eng e).chansBusy mask then
      (s.setEngState e esFence).modEng e fun x => { x with fenceMask := mask }
    else s
  | .owopen win n =>
    (s.setEngState e esWindow).modEng e fun x => { x.flush with
      window := some ⟨win, 16 * n - 1, x.loops, x.pc, none, true⟩
      loops := [] }
  | .kend =>
    match x0.kernelWin with
    | some (w, _) => s.kernelEnd e { w with left := w.left - 1, asked := true } (x0.rs 24)
    | none => s
  | .fend => s.frameEnd e
  | _ => s

/-- The effect of a bundle without a fault: stores, results in flight, SCSTART, control flow, counts. -/
def State.perform (s : State) (e : Nat) (x : EngS) (y : Syls) (rs : List Pend) (acc : Option MAcc) : State :=
  let s1 := match acc with
    | some a => if a.kind = 0 then s else s.storeWords a
    | none => s
  let s2 := s1.setEng e { x.advance y.c with pend := x.pend ++ rs, first := false }
  let s3 := match mStart x y.m with | some (c, d) => s2.scPush e c d | none => s2
  let s4 := s3.countStep e 1 (!x.atFend)
  let s5 := match x.kernelWin with
    | some (w, k) => s4.modEng e fun z => { z with window := some { w with left := w.left - 1, kernel := some { k with left := k.left - 1 } } }
    | none => s4
  let port := acc.map fun a => (a.bank, a.kind != 0, a.words.map fun w => w.1)
  (s5.modEng e fun z => { z with port := port }).afterIssue e x y.c

/-- The registers a bundle reads. -/
def Syls.reads (y : Syls) : List Dest := vReads y.va ++ vReads y.vb ++ mReads y.m ++ cReads y.c

/-- Who the code running on an engine is at port E. -/
def State.engWho (s : State) (e : Nat) : Who :=
  match (s.eng e).kernelWin with | some _ => .kernel | none => .eng (s.engSlot e)

/-- The fault of the bundle before its bank access: decode, position, parity, ownership, queues; the
lowest code counts (R168). -/
def bundleFault (x : EngS) (y : Syls) (ecc : Nat) (own : Bool) (inKernel : Bool) : Nat × Nat :=
  ([(y.vb.fault, 1), (y.m.fault, 2), (y.c.fault, 3), (if ecc = 2 then fcImemUncorr else 0, 3)] ++
    cFaults x inKernel y.c ++ [
    (if x.badRead (vReads y.va) then fcRegParity else 0, 0),
    (if x.badRead (vReads y.vb) then fcRegParity else 0, 1),
    (if x.badRead (mReads y.m) then fcRegParity else 0, 2),
    (if x.badRead (cReads y.c) then fcRegParity else 0, 3),
    (if own ∨ inKernel then 0 else fcOwn, 2), (scFault x (mStart x y.m), 2)]).foldl lowFault (y.va.fault, 0)

/-- The results a bundle puts in flight at its step (R130); `data` the words its load read. -/
def Syls.results (y : Syls) (x : EngS) (sys : Nat → Nat) (data : List Nat) : List Pend :=
  vPend x x.step 0 y.va ++ vPend x x.step 1 y.vb ++ mPend x x.step y.m data ++ cPend x x.step sys y.c

/-- Whether a kernel's bundle breaks a rule of R165: what it would write, what it issues, its BOUND. -/
def EngS.breaches (x : EngS) (y : Syls) (rs : List Pend) : Bool :=
  match x.kernelWin with
  | some (_, k) => !kernelOk rs y || (decide (k.left ≤ 1) && y.c != .kend)
  | none => false

/-- The kernel is stopped at its bundle, which takes no effect but its step (R165). -/
def State.breach (s : State) (e : Nat) (x : EngS) : State :=
  match x.kernelWin with
  | some (w, k) => (s.kernelFault e { w with left := w.left - 1 } k x.pc).countStep e 1 true
  | none => s

/-- The first word of an access that lies in a borrowed segment (R231). -/
def State.stallsAt (s : State) (acc : Option MAcc) : Option (Nat × Nat) :=
  match acc with
  | some a => (a.words.find? fun w => s.borrowed a.bank w.1).map fun w => (a.bank, w.1)
  | none => none

/-- The read of a load its bank admits: data, whether a word was uncorrectable, the state after. -/
def State.loadAcc (s : State) (acc : Option MAcc) (own : Bool) : List Nat × Bool × State :=
  match acc with
  | some a => if a.kind = 0 ∧ own then s.loadWords a.bank a.words else ([], false, s)
  | none => ([], false, s)

/-- A kernel's access to a bank its code does not own: foreign, and the kernel is stopped (R219). -/
def State.kernelForeign (s : State) (e : Nat) (x : EngS) (acc : Option MAcc) : State :=
  match acc with
  | some a => (s.foreign a.bank (match a.words with | q :: _ => q.1 | [] => 0) 0 (a.kind != 0)).breach e x
  | none => s

/-- The bundle's access and effect, its checks before the access having given `flt` (R152, R167): an uncorrectable
word of the load is LOAD_POISON and lower than what remains of `flt` (R168). -/
def State.complete (s : State) (e : Nat) (x : EngS) (y : Syls) (acc : Option MAcc) (own : Bool) (flt : Nat × Nat) : State :=
  let ld := s.loadAcc acc own
  let t := match acc with | some a => ld.2.2.dropGrant a.bank (s.engWho e) | none => ld.2.2
  if ld.2.1 then t.engFault e fcLoadPoison x.pc 2
  else if flt.1 ≠ 0 then t.engFault e flt.1 x.pc flt.2
  else if ¬ own then t.kernelForeign e x acc
  else t.perform e x y (y.results x (s.rdsys e) ld.1) acc

/-- One step of issue (R129, R130, R167): pending results due now land, the bundle at the program
address is fetched, checked and performed, or the fault or the kernel's breach takes its place. A kernel's breach comes
before a fault of the same bundle other than IMEM_UNCORR (log entry 14). A bundle whose access meets a borrowed segment
waits (R231). -/
def State.issue (s0 : State) (e : Nat) : State :=
  let x := { (s0.eng e).landAt (s0.eng e).step with port := none }
  let s := s0.setEng e x
  if s.lapFull e then s.engFault e fcLapOverrun x.pc 3
  else
    let f := s.fetchEcc e
    let y := decodeBundle (s.bundleNow e)
    let acc := mAccess x y.m
    let own := match acc with | some a => s.admits a.bank (s.engWho e) | none => true
    let flt := bundleFault x y f.1 own x.kernelWin.isSome
    if f.1 ≠ 2 ∧ x.breaches y (y.results x (s.rdsys e) []) then f.2.breach e x
    else if flt.1 ≠ 0 ∧ flt.1 < fcLoadPoison then f.2.engFault e flt.1 x.pc flt.2
    else match s.stallsAt acc with
      | some (b, off) => s0.stallWho b off (s.engWho e)
      | none => f.2.complete e x y acc own flt

/-- The step of engine `e` whose bundle holds what `p` asks for; nothing where it does not issue one. -/
def State.engStep (s : State) (e : Nat) (p : Syls → Bool) : State :=
  if s.issuing e ∧ p (decodeBundle (s.bundleNow e)) then s.issue e else s

/-! Laps (R159 to R162). -/

/-- Whether a lap runs with `shed` levels shed (R187). -/
def lapRuns (shed : Nat) (l : LapEnt) : Bool := l.level == 0 || decide (shed < l.level)

/-- The next lap from `k` on that runs. -/
def nextLap (t : SlotTab) (shed k : Nat) : Option Nat :=
  (List.range t.laps.length).find? fun j => k ≤ j && (match t.laps[j]? with | some l => lapRuns shed l | none => false)

/-- The stripe a lap belongs to: STRIPE_START laps up to it, less one (R198). -/
def stripeOf (t : SlotTab) (k : Nat) : Nat := ((t.laps.take (k + 1)).filter fun l => l.stripe).length - 1

/-- Lap `k` is next (R202): after a shed run the engine continues at LAP_ADDR of the next lap that runs
with both loop levels cleared, or at FEND_ADDR; a lap that starts a stripe waits for its instant. -/
def State.beginLap (s : State) (e k : Nat) : State :=
  let x := s.eng e
  match x.tab with
  | none => s.setEngState e esRun
  | some t =>
    match nextLap t x.shed k with
    | none =>
      let skipped := decide (k < t.laps.length)
      (s.setEngState e esRun).modEng e fun z => { z with
        atFend := true
        first := true
        padLap := 0
        pc := if skipped then t.fend else z.pc
        loops := if skipped then [] else z.loops }
    | some j =>
      let wait : Bool := (match t.laps[j]? with | some l => l.stripe | none => false) &&
        decide (s.plan.stripeNext ≤ stripeOf t j)
      let s1 := ((s.setFld (ENG_LAP_NOW_LAP.inst e) j).setFld (ENG_STEP_IN_LAP_STEPS.inst e) 0).modEng e fun z => { z with
        first := true
        padLap := 0
        stripeWait := wait
        fenceMask := 0
        pc := if j = k then z.pc else (match t.laps[j]? with | some l => l.addr | none => 0)
        loops := if j = k then z.loops else [] }
      s1.setEngState e (if wait then esFence else esRun)

/-- The lap ends: its mark goes to the lap watch, LAP is recorded, the next lap begins. -/
def State.lapEnd (s : State) (e : Nat) : State :=
  let lap := s.fld (ENG_LAP_NOW_LAP.inst e)
  let s1 := if s.bit (ENG_CTRL_LAPREC_EN.inst e) then
      s.recordOnly (engPage e) 0x20 (lap + (s.eng e).padLap % 2 ^ 13 * 2 ^ 13) else s
  let s2 := { s1 with plan := { s1.plan with notices := s1.plan.notices ++
    [(s.engSlot e, lap, s.fld (ENG_FRAME_NOW_FRAME_LO.inst e))] } }
  s2.beginLap e (lap + 1)

/-- Number of 1 bits of VGRP. -/
def vgrpCount (g : Nat) : Nat := ((List.range 8).filter fun k => g.testBit k).length

/-- V registers of the saved groups, ascending (R160). -/
def vgrpRegs (g : Nat) : List Nat := (List.range 64).filter fun i => g.testBit (i / 8)

/-- A row of the save record from its eight words. -/
def pairWords (f : Nat → Nat) (n0 : Nat) : List Nat :=
  (List.range 8).map fun j => f (n0 + 2 * j) + f (n0 + 2 * j + 1) * 2 ^ 32

/-- The rows of the save record with their place, in the order they are written (Table 04-7). -/
def saveRows (x : EngS) (frame lap g : Nat) : List (Nat × List Nat) :=
  let w0 := frame % 2 ^ 32 + lap * 2 ^ 32 + g * 2 ^ 45
  let l := x.loops.reverse
  let c (k : Nat) : Nat := match l[k]? with | some q => q.count | none => 0
  let a (k : Nat) : Nat := match l[k]? with | some q => q.start + q.end_ * 2 ^ 16 | none => 0
  [(0, [w0, x.pc + x.loops.length * 2 ^ 13, c 0 + c 1 * 2 ^ 32, a 0 + a 1 * 2 ^ 32] ++
      (List.range 4).map fun j => x.rp (2 * j) + x.rp (2 * j + 1) * 2 ^ 32),
    (1, pairWords x.rs 0), (2, pairWords x.rs 16)] ++
  (vgrpRegs g).map (fun n => (4 + n, (List.range 8).map fun j => natBits (x.rv n) (64 * j) 64)) ++
  [(3, [w0, 0, 0, 0, 0, 0, 0, 0])]

/-- Writes one row of a record at bank address `addr`. -/
def State.putRow (s : State) (addr row : Nat) (ws : List Nat) : State :=
  (ws.zip (List.range 8)).foldl (fun t q =>
    t.writeWord (natBits addr 18 5) (natBits addr 0 18 + 64 * row + 8 * q.2) (BitVec.allOnes 64) (BitVec.ofNat 64 q.1) 0) s

/-- Save address of lap `k`: slot A if it is even (R161). -/
def State.saveAddr (s : State) (e k : Nat) : Nat :=
  if k % 2 = 0 then s.fld (ENG_LAP_SAVE_A_ADDR.inst e) else s.fld (ENG_LAP_SAVE_B_ADDR.inst e)

/-- Lap at which a bank schedule entry of a slot applies: its own, or the last one before it that runs
(R183); none for the frame start. -/
def entryLap (t : SlotTab) (shed : Nat) (b : BankEnt) : Option Nat :=
  ((List.range (b.lap + 1)).filter fun j => match t.laps[j]? with | some l => lapRuns shed l | none => false).getLast?

/-- The bank schedule entries of the end of lap `k` of a slot apply, in list order (R183, R220): those of the plan
whose frame the engine runs (R191). -/
def State.lapBanks (s : State) (x : EngS) (t : SlotTab) (slot k : Nat) : State :=
  (x.banks.filter fun b => !b.frameStart && b.slot == slot && entryLap t x.shed b == some k).foldl
    (fun u b => u.handover b.bank b.owner 1) s

/-- Whether a register that row `row` of the save record reads has bad parity (Table 04-7, R167). -/
def EngS.rowBad (x : EngS) (row : Nat) : Bool :=
  x.parity.any fun q => match q.1 with
    | .p _ => row == 0
    | .s i => row == 1 + i / 16
    | .v i => row == 4 + i

/-- The rows of a save written before the first that meets a parity error; all of them where none does. -/
def goodRows (x : EngS) (rows : List (Nat × List Nat)) : List (Nat × List Nat) := rows.takeWhile fun r => !x.rowBad r.1

/-- LAP_SAVE (R159 to R161): the snapshot, the record, the bank schedule, then padding or the next lap.
A parity error on a register the save reads is REG_PARITY at the LAPMARK, the rows before it written (log entry 14).
A save that reaches the declared count first is LAP_OVERRUN, with a free number of rows written, at most one a step
(R162); where the count is reached with the LAPMARK's own step, no row is. -/
def State.lapSave (s : State) (e g addr : Nat) : State :=
  let x := (s.eng e).flush
  let lap := s.fld (ENG_LAP_NOW_LAP.inst e)
  let a := s.saveAddr e lap
  let n := 7 + 8 * vgrpCount g
  let rows := saveRows x (s.fld (ENG_FRAME_NOW_FRAME_LO.inst e)) lap g
  let good := goodRows x rows
  let s0 := (s.setEng e { x with mark := none, fenceMask := 0 }).dropGrant (natBits a 18 5) (.eng (s.engSlot e))
  let room := s.lapSteps e - s.fld (ENG_STEP_IN_LAP_STEPS.inst e)
  let put := fun (l : List (Nat × List Nat)) (t : State) => l.foldl (fun u r => u.putRow a r.1 r.2) t
  if room = 0 then s0.engFault e fcLapOverrun addr 3
  else if x.rowBad 0 then s0.engFault e fcRegParity addr 3
  else if ¬ s.admits (natBits a 18 5) (.eng (s.engSlot e)) then s0.engFault e fcOwn addr 3
  else
    let k := s0.freeVal % (min (rows.length - 1) room + 1)
    if good.length < rows.length ∧ (n ≤ room ∨ good.length < k) then
      let u := s0.takeFree
      ((put good u).countStep e (min room (good.length + u.freeVal % 4)) true).takeFree.engFault e fcRegParity addr 3
    else if room < n then ((put (rows.take k) s0.takeFree).countStep e room true).engFault e fcLapOverrun addr 3
    else
      let s1 := (put rows s0).countStep e n true
      let s2 := match x.tab with | some t => s1.lapBanks x t (s.engSlot e) lap | none => s1
      if room = n then s2.lapEnd e else s2.setEngState e esPad

/-- One padding step of a lap or of an open window (R162, R164). -/
def State.padStep (s : State) (e : Nat) : State :=
  let x := (s.eng e).landAt (s.eng e).step
  let s1 := s.setEng e { x with padLap := x.padLap + 1, padFrame := x.padFrame + 1 }
  if s.engState e = esPad then
    let s2 := s1.countStep e 1 true
    if s2.lapFull e then s2.lapEnd e else s2
  else
    match x.window with
    | some w =>
      if s.lapFull e then s.engFault e fcLapOverrun w.resume 3
      else (s1.countStep e 1 true).modEng e fun z => { z with window := some { w with left := w.left - 1 } }
    | none => s

/-- The window is over: loop levels come back, plan code resumes after OWOPEN (R164, R165). -/
def State.windowEnd (s : State) (e : Nat) (w : Window) : State :=
  (s.setEngState e esRun).modEng e fun x => { x.flush with
    window := none
    loops := w.loops
    pc := w.resume
    branch := none
    inDelay := false }

end Sys2Proof.Machine
end

