-- ==== Sys2Proof/Machine/EngineOps.lean ====
section
/-! DEFINITION. The meanings of the engine commands (spec/04): an operation's command is the step in which engine `e` issues the bundle that holds it (log entry 14). -/

namespace Sys2Proof.Machine

open Sys2Proof

/-- The step that issues a bundle with `o` and fields `f` in slot VA or VB. -/
def State.vecOp (s : State) (e : Nat) (vb : Bool) (o : VOp) (f : VF) : State :=
  s.engStep e fun y => (if vb then y.vb else y.va) == .op o f

/-- The step that issues a bundle with the M syllable `m`. -/
def State.mOp (s : State) (e : Nat) (m : MSyl) : State := s.engStep e fun y => y.m == m

/-- The step that issues a bundle with the C syllable `c`. -/
def State.cOp (s : State) (e : Nat) (c : CSyl) : State := s.engStep e fun y => y.c == c

/-- Whether slot `sl` of a bundle holds NOP (R141). -/
def Syls.nopIn (y : Syls) (sl : Nat) : Bool :=
  match sl with
  | 0 => y.va == .nop
  | 1 => y.vb == .nop
  | 2 => y.m == .nop
  | _ => y.c == .nop

/-- NOP (R141): the step that issues a bundle with NOP in slot `sl`. -/
def execNop (e sl : Nat) (s : State) : Host.Outcome State Fault Refusal := .next (s.engStep e fun y => y.nopIn sl)

/-- ILLEGAL_OP (R142): the step that meets an opcode not listed for its slot. -/
def execIllegalOp (e : Nat) (s : State) : Host.Outcome State Fault Refusal :=
  .next (s.engStep e fun y => y.va == .bad fcIllegalOp || y.vb == .bad fcIllegalOp || y.m == .bad fcIllegalOp ||
    y.c == .bad fcIllegalOp)

/-- V_MOV (Table 04-3), in slot VA or VB. -/
def execVMov (e : Nat) (vb : Bool) (f : VF) (s : State) : Host.Outcome State Fault Refusal :=
  .next (s.vecOp e vb .mov f)

/-- V_ADD (Table 04-3, R144), in slot VA or VB. -/
def execVAdd (e : Nat) (vb : Bool) (f : VF) (s : State) : Host.Outcome State Fault Refusal :=
  .next (s.vecOp e vb .add f)

/-- V_SUB (Table 04-3, R144), in slot VA or VB. -/
def execVSub (e : Nat) (vb : Bool) (f : VF) (s : State) : Host.Outcome State Fault Refusal :=
  .next (s.vecOp e vb .sub f)

/-- V_MINU (Table 04-3), in slot VA or VB. -/
def execVMinu (e : Nat) (vb : Bool) (f : VF) (s : State) : Host.Outcome State Fault Refusal :=
  .next (s.vecOp e vb .minu f)

/-- V_MINS (Table 04-3), in slot VA or VB. -/
def execVMins (e : Nat) (vb : Bool) (f : VF) (s : State) : Host.Outcome State Fault Refusal :=
  .next (s.vecOp e vb .mins f)

/-- V_MAXU (Table 04-3), in slot VA or VB. -/
def execVMaxu (e : Nat) (vb : Bool) (f : VF) (s : State) : Host.Outcome State Fault Refusal :=
  .next (s.vecOp e vb .maxu f)

/-- V_MAXS (Table 04-3), in slot VA or VB. -/
def execVMaxs (e : Nat) (vb : Bool) (f : VF) (s : State) : Host.Outcome State Fault Refusal :=
  .next (s.vecOp e vb .maxs f)

/-- V_AND (Table 04-3), in slot VA or VB. -/
def execVAnd (e : Nat) (vb : Bool) (f : VF) (s : State) : Host.Outcome State Fault Refusal :=
  .next (s.vecOp e vb .and f)

/-- V_OR (Table 04-3), in slot VA or VB. -/
def execVOr (e : Nat) (vb : Bool) (f : VF) (s : State) : Host.Outcome State Fault Refusal :=
  .next (s.vecOp e vb .or f)

/-- V_XOR (Table 04-3), in slot VA or VB. -/
def execVXor (e : Nat) (vb : Bool) (f : VF) (s : State) : Host.Outcome State Fault Refusal :=
  .next (s.vecOp e vb .xor f)

/-- V_ANDN (Table 04-3), in slot VA or VB. -/
def execVAndn (e : Nat) (vb : Bool) (f : VF) (s : State) : Host.Outcome State Fault Refusal :=
  .next (s.vecOp e vb .andn f)

/-- V_SHL (Table 04-3, R144), in slot VA or VB. -/
def execVShl (e : Nat) (vb : Bool) (f : VF) (s : State) : Host.Outcome State Fault Refusal :=
  .next (s.vecOp e vb .shl f)

/-- V_SHRU (Table 04-3), in slot VA or VB. -/
def execVShru (e : Nat) (vb : Bool) (f : VF) (s : State) : Host.Outcome State Fault Refusal :=
  .next (s.vecOp e vb .shru f)

/-- V_SHRS (Table 04-3), in slot VA or VB. -/
def execVShrs (e : Nat) (vb : Bool) (f : VF) (s : State) : Host.Outcome State Fault Refusal :=
  .next (s.vecOp e vb .shrs f)

/-- ABSDU (Table 04-3), in slot VA or VB. -/
def execAbsdu (e : Nat) (vb : Bool) (f : VF) (s : State) : Host.Outcome State Fault Refusal :=
  .next (s.vecOp e vb .absdu f)

/-- V_CMPEQ (R147), in slot VA or VB. -/
def execVCmpeq (e : Nat) (vb : Bool) (f : VF) (s : State) : Host.Outcome State Fault Refusal :=
  .next (s.vecOp e vb .cmpeq f)

/-- V_CMPNE (R147), in slot VA or VB. -/
def execVCmpne (e : Nat) (vb : Bool) (f : VF) (s : State) : Host.Outcome State Fault Refusal :=
  .next (s.vecOp e vb .cmpne f)

/-- V_CMPLTU (R147), in slot VA or VB. -/
def execVCmpltu (e : Nat) (vb : Bool) (f : VF) (s : State) : Host.Outcome State Fault Refusal :=
  .next (s.vecOp e vb .cmpltu f)

/-- V_CMPLTS (R147), in slot VA or VB. -/
def execVCmplts (e : Nat) (vb : Bool) (f : VF) (s : State) : Host.Outcome State Fault Refusal :=
  .next (s.vecOp e vb .cmplts f)

/-- V_CMPLEU (R147), in slot VA or VB. -/
def execVCmpleu (e : Nat) (vb : Bool) (f : VF) (s : State) : Host.Outcome State Fault Refusal :=
  .next (s.vecOp e vb .cmpleu f)

/-- V_CMPLES (R147), in slot VA or VB. -/
def execVCmples (e : Nat) (vb : Bool) (f : VF) (s : State) : Host.Outcome State Fault Refusal :=
  .next (s.vecOp e vb .cmples f)

/-- SEL (Table 04-3), in slot VA or VB. -/
def execSel (e : Nat) (vb : Bool) (f : VF) (s : State) : Host.Outcome State Fault Refusal :=
  .next (s.vecOp e vb .sel f)

/-- AVGU (Table 04-3), in slot VA or VB. -/
def execAvgu (e : Nat) (vb : Bool) (f : VF) (s : State) : Host.Outcome State Fault Refusal :=
  .next (s.vecOp e vb .avgu f)

/-- PERM (Table 04-3), in slot VA. -/
def execPerm (e : Nat) (f : VF) (s : State) : Host.Outcome State Fault Refusal :=
  .next (s.vecOp e false .perm f)

/-- ROTL (Table 04-3), in slot VA. -/
def execRotl (e : Nat) (f : VF) (s : State) : Host.Outcome State Fault Refusal :=
  .next (s.vecOp e false .rotl f)

/-- SPLAT (Table 04-3), in slot VA. -/
def execSplat (e : Nat) (f : VF) (s : State) : Host.Outcome State Fault Refusal :=
  .next (s.vecOp e false .splat f)

/-- RSUM (Table 04-3), in slot VA. -/
def execRsum (e : Nat) (f : VF) (s : State) : Host.Outcome State Fault Refusal :=
  .next (s.vecOp e false .rsum f)

/-- PACK (Table 04-3, R144), in slot VA. -/
def execPack (e : Nat) (f : VF) (s : State) : Host.Outcome State Fault Refusal :=
  .next (s.vecOp e false .pack f)

/-- UNPKLU (Table 04-3), in slot VA. -/
def execUnpklu (e : Nat) (f : VF) (s : State) : Host.Outcome State Fault Refusal :=
  .next (s.vecOp e false .unpklu f)

/-- UNPKHU (Table 04-3), in slot VA. -/
def execUnpkhu (e : Nat) (f : VF) (s : State) : Host.Outcome State Fault Refusal :=
  .next (s.vecOp e false .unpkhu f)

/-- UNPKLS (Table 04-3), in slot VA. -/
def execUnpkls (e : Nat) (f : VF) (s : State) : Host.Outcome State Fault Refusal :=
  .next (s.vecOp e false .unpkls f)

/-- UNPKHS (Table 04-3), in slot VA. -/
def execUnpkhs (e : Nat) (f : VF) (s : State) : Host.Outcome State Fault Refusal :=
  .next (s.vecOp e false .unpkhs f)

/-- ZIPL (Table 04-3), in slot VA. -/
def execZipl (e : Nat) (f : VF) (s : State) : Host.Outcome State Fault Refusal :=
  .next (s.vecOp e false .zipl f)

/-- ZIPH (Table 04-3), in slot VA. -/
def execZiph (e : Nat) (f : VF) (s : State) : Host.Outcome State Fault Refusal :=
  .next (s.vecOp e false .ziph f)

/-- V_MUL (Table 04-3), in slot VB. -/
def execVMul (e : Nat) (f : VF) (s : State) : Host.Outcome State Fault Refusal :=
  .next (s.vecOp e true .mul f)

/-- MULHU (Table 04-3), in slot VB. -/
def execMulhu (e : Nat) (f : VF) (s : State) : Host.Outcome State Fault Refusal :=
  .next (s.vecOp e true .mulhu f)

/-- MULHS (Table 04-3), in slot VB. -/
def execMulhs (e : Nat) (f : VF) (s : State) : Host.Outcome State Fault Refusal :=
  .next (s.vecOp e true .mulhs f)

/-- MULQ (R145), in slot VB. -/
def execMulq (e : Nat) (f : VF) (s : State) : Host.Outcome State Fault Refusal :=
  .next (s.vecOp e true .mulq f)

/-- MACQ (R145), in slot VB. -/
def execMacq (e : Nat) (f : VF) (s : State) : Host.Outcome State Fault Refusal :=
  .next (s.vecOp e true .macq f)

/-- FMA (R146), in slot VB. -/
def execFma (e : Nat) (f : VF) (s : State) : Host.Outcome State Fault Refusal :=
  .next (s.vecOp e true .fma f)

/-- FMUL (R146), in slot VB. -/
def execFmul (e : Nat) (f : VF) (s : State) : Host.Outcome State Fault Refusal :=
  .next (s.vecOp e true .fmul f)

/-- FADD (R146), in slot VB. -/
def execFadd (e : Nat) (f : VF) (s : State) : Host.Outcome State Fault Refusal :=
  .next (s.vecOp e true .fadd f)

/-- FCVTU (R146), in slot VB. -/
def execFcvtu (e : Nat) (f : VF) (s : State) : Host.Outcome State Fault Refusal :=
  .next (s.vecOp e true .fcvtu f)

/-- UCVTF (R146), in slot VB. -/
def execUcvtf (e : Nat) (f : VF) (s : State) : Host.Outcome State Fault Refusal :=
  .next (s.vecOp e true .ucvtf f)

/-- FMIN (R146), in slot VB. -/
def execFmin (e : Nat) (f : VF) (s : State) : Host.Outcome State Fault Refusal :=
  .next (s.vecOp e true .fmin f)

/-- FMAX (R146), in slot VB. -/
def execFmax (e : Nat) (f : VF) (s : State) : Host.Outcome State Fault Refusal :=
  .next (s.vecOp e true .fmax f)

/-- VLD (Table 04-4). -/
def execVld (e : Nat) (f : MF) (s : State) : Host.Outcome State Fault Refusal :=
  .next (s.mOp e (.mem .vld f))

/-- VLDP (Table 04-4). -/
def execVldp (e : Nat) (f : MF) (s : State) : Host.Outcome State Fault Refusal :=
  .next (s.mOp e (.mem .vldp f))

/-- VST (Table 04-4). -/
def execVst (e : Nat) (f : MF) (s : State) : Host.Outcome State Fault Refusal :=
  .next (s.mOp e (.mem .vst f))

/-- VSTP (Table 04-4). -/
def execVstp (e : Nat) (f : MF) (s : State) : Host.Outcome State Fault Refusal :=
  .next (s.mOp e (.mem .vstp f))

/-- VSTS (R150). -/
def execVsts (e : Nat) (f : MF) (s : State) : Host.Outcome State Fault Refusal :=
  .next (s.mOp e (.mem .vsts f))

/-- VSTC (R150). -/
def execVstc (e : Nat) (f : MF) (s : State) : Host.Outcome State Fault Refusal :=
  .next (s.mOp e (.mem .vstc f))

/-- XLD (R151). -/
def execXld (e : Nat) (f : MXF) (s : State) : Host.Outcome State Fault Refusal :=
  .next (s.mOp e (.idx .xld f))

/-- XST (R151). -/
def execXst (e : Nat) (f : MXF) (s : State) : Host.Outcome State Fault Refusal :=
  .next (s.mOp e (.idx .xst f))

/-- SLD (Table 04-4). -/
def execSld (e : Nat) (f : MF) (s : State) : Host.Outcome State Fault Refusal :=
  .next (s.mOp e (.mem .sld f))

/-- SLDP (Table 04-4). -/
def execSldp (e : Nat) (f : MF) (s : State) : Host.Outcome State Fault Refusal :=
  .next (s.mOp e (.mem .sldp f))

/-- SST (Table 04-4). -/
def execSst (e : Nat) (f : MF) (s : State) : Host.Outcome State Fault Refusal :=
  .next (s.mOp e (.mem .sst f))

/-- SSTP (Table 04-4). -/
def execSstp (e : Nat) (f : MF) (s : State) : Host.Outcome State Fault Refusal :=
  .next (s.mOp e (.mem .sstp f))

/-- SSTS (R150). -/
def execSsts (e : Nat) (f : MF) (s : State) : Host.Outcome State Fault Refusal :=
  .next (s.mOp e (.mem .ssts f))

/-- SSTC (R150). -/
def execSstc (e : Nat) (f : MF) (s : State) : Host.Outcome State Fault Refusal :=
  .next (s.mOp e (.mem .sstc f))

/-- VGET (Table 04-4). -/
def execVget (e : Nat) (f : MLF) (s : State) : Host.Outcome State Fault Refusal :=
  .next (s.mOp e (.lane .vget f))

/-- VPUT (Table 04-4). -/
def execVput (e : Nat) (f : MLF) (s : State) : Host.Outcome State Fault Refusal :=
  .next (s.mOp e (.lane .vput f))

/-- SCSTART (R153). -/
def execScstart (e : Nat) (f : MCF) (s : State) : Host.Outcome State Fault Refusal :=
  .next (s.mOp e (.chan .scstart f))

/-- SCSTAT (Table 04-4). -/
def execScstat (e : Nat) (f : MCF) (s : State) : Host.Outcome State Fault Refusal :=
  .next (s.mOp e (.chan .scstat f))

/-- C_ADD (Table 04-5). -/
def execCAdd (e : Nat) (f : CF) (s : State) : Host.Outcome State Fault Refusal :=
  .next (s.cOp e (.reg .add f))

/-- C_SUB (Table 04-5). -/
def execCSub (e : Nat) (f : CF) (s : State) : Host.Outcome State Fault Refusal :=
  .next (s.cOp e (.reg .sub f))

/-- C_AND (Table 04-5). -/
def execCAnd (e : Nat) (f : CF) (s : State) : Host.Outcome State Fault Refusal :=
  .next (s.cOp e (.reg .and f))

/-- C_OR (Table 04-5). -/
def execCOr (e : Nat) (f : CF) (s : State) : Host.Outcome State Fault Refusal :=
  .next (s.cOp e (.reg .or f))

/-- C_XOR (Table 04-5). -/
def execCXor (e : Nat) (f : CF) (s : State) : Host.Outcome State Fault Refusal :=
  .next (s.cOp e (.reg .xor f))

/-- C_SHL (Table 04-5). -/
def execCShl (e : Nat) (f : CF) (s : State) : Host.Outcome State Fault Refusal :=
  .next (s.cOp e (.reg .shl f))

/-- C_SHRU (Table 04-5). -/
def execCShru (e : Nat) (f : CF) (s : State) : Host.Outcome State Fault Refusal :=
  .next (s.cOp e (.reg .shru f))

/-- C_SHRS (Table 04-5). -/
def execCShrs (e : Nat) (f : CF) (s : State) : Host.Outcome State Fault Refusal :=
  .next (s.cOp e (.reg .shrs f))

/-- C_MUL (Table 04-5). -/
def execCMul (e : Nat) (f : CF) (s : State) : Host.Outcome State Fault Refusal :=
  .next (s.cOp e (.reg .mul f))

/-- C_MINS (Table 04-5). -/
def execCMins (e : Nat) (f : CF) (s : State) : Host.Outcome State Fault Refusal :=
  .next (s.cOp e (.reg .mins f))

/-- C_MAXS (Table 04-5). -/
def execCMaxs (e : Nat) (f : CF) (s : State) : Host.Outcome State Fault Refusal :=
  .next (s.cOp e (.reg .maxs f))

/-- C_CMPEQ (Table 04-5). -/
def execCCmpeq (e : Nat) (f : CF) (s : State) : Host.Outcome State Fault Refusal :=
  .next (s.cOp e (.reg .cmpeq f))

/-- C_CMPNE (Table 04-5). -/
def execCCmpne (e : Nat) (f : CF) (s : State) : Host.Outcome State Fault Refusal :=
  .next (s.cOp e (.reg .cmpne f))

/-- C_CMPLTU (Table 04-5). -/
def execCCmpltu (e : Nat) (f : CF) (s : State) : Host.Outcome State Fault Refusal :=
  .next (s.cOp e (.reg .cmpltu f))

/-- C_CMPLTS (Table 04-5). -/
def execCCmplts (e : Nat) (f : CF) (s : State) : Host.Outcome State Fault Refusal :=
  .next (s.cOp e (.reg .cmplts f))

/-- C_CMPLEU (Table 04-5). -/
def execCCmpleu (e : Nat) (f : CF) (s : State) : Host.Outcome State Fault Refusal :=
  .next (s.cOp e (.reg .cmpleu f))

/-- C_CMPLES (Table 04-5). -/
def execCCmples (e : Nat) (f : CF) (s : State) : Host.Outcome State Fault Refusal :=
  .next (s.cOp e (.reg .cmples f))

/-- PAND (Table 04-5). -/
def execPand (e : Nat) (f : CF) (s : State) : Host.Outcome State Fault Refusal :=
  .next (s.cOp e (.reg .pand f))

/-- POR (Table 04-5). -/
def execPor (e : Nat) (f : CF) (s : State) : Host.Outcome State Fault Refusal :=
  .next (s.cOp e (.reg .por f))

/-- PNOT (Table 04-5). -/
def execPnot (e : Nat) (f : CF) (s : State) : Host.Outcome State Fault Refusal :=
  .next (s.cOp e (.reg .pnot f))

/-- RDLC (Table 04-5). -/
def execRdlc (e : Nat) (f : CF) (s : State) : Host.Outcome State Fault Refusal :=
  .next (s.cOp e (.reg .rdlc f))

/-- RDSYS (Table 04-6). -/
def execRdsys (e : Nat) (f : CF) (s : State) : Host.Outcome State Fault Refusal :=
  .next (s.cOp e (.reg .rdsys f))

/-- ADDI (Table 04-5). -/
def execAddi (e : Nat) (f : CIF) (s : State) : Host.Outcome State Fault Refusal :=
  .next (s.cOp e (.imm .addi f))

/-- LIL (Table 04-5). -/
def execLil (e : Nat) (f : CIF) (s : State) : Host.Outcome State Fault Refusal :=
  .next (s.cOp e (.imm .lil f))

/-- LIH (Table 04-5). -/
def execLih (e : Nat) (f : CIF) (s : State) : Host.Outcome State Fault Refusal :=
  .next (s.cOp e (.imm .lih f))

/-- BR (R156). -/
def execBr (e : Nat) (f : CBF) (s : State) : Host.Outcome State Fault Refusal :=
  .next (s.cOp e (.flow .br f))

/-- LOOPI (R157). -/
def execLoopi (e : Nat) (f : CBF) (s : State) : Host.Outcome State Fault Refusal :=
  .next (s.cOp e (.flow .loopi f))

/-- LOOPS (R157). -/
def execLoops (e : Nat) (f : CBF) (s : State) : Host.Outcome State Fault Refusal :=
  .next (s.cOp e (.flow .loops f))

/-- LAPMARK (R159): the step that ends the lap's code; the save is its own command. -/
def execLapmark (e vgrp : Nat) (s : State) : Host.Outcome State Fault Refusal := .next (s.cOp e (.lapmark vgrp))

/-- FENCE (R163). -/
def execFence (e pr mask : Nat) (s : State) : Host.Outcome State Fault Refusal := .next (s.cOp e (.fence pr mask))

/-- OWOPEN (R164). -/
def execOwopen (e win budget : Nat) (s : State) : Host.Outcome State Fault Refusal :=
  .next (s.cOp e (.owopen win budget))

/-- KEND (R242, R165). -/
def execKend (e : Nat) (s : State) : Host.Outcome State Fault Refusal := .next (s.cOp e .kend)

/-- FEND (R166). -/
def execFend (e : Nat) (s : State) : Host.Outcome State Fault Refusal := .next (s.cOp e .fend)

/-- The first row of a save record at `a` that lies in a borrowed segment (R231). -/
def State.saveStalls (s : State) (a g : Nat) : Option Nat :=
  (([0, 1, 2, 3] ++ (vgrpRegs g).map fun n => 4 + n).map fun r => natBits a 0 18 + 64 * r).find? fun o => s.borrowed (natBits a 18 5) o

/-- LAP_SAVE (R159): both channels have drained and the record is written; a record that meets a borrowed segment waits
(R231). -/
def execLapSave (e : Nat) (s : State) : Host.Outcome State Fault Refusal :=
  match (s.eng e).mark with
  | some (g, addr) =>
    if (s.engState e = esSave ∨ s.engState e = esFence) ∧ ¬ (s.eng e).chansBusy 3 then
      let a := s.saveAddr e (s.fld (ENG_LAP_NOW_LAP.inst e))
      match s.saveStalls a g with
      | some o => .next (s.stallWho (natBits a 18 5) o (.eng (s.engSlot e)))
      | none => .next (s.lapSave e g addr)
    else .next s
  | none => .next s

/-- FENCE_RELEASE (R163): the last fenced descriptor has completed. -/
def execFenceRelease (e : Nat) (s : State) : Host.Outcome State Fault Refusal :=
  let x := s.eng e
  if s.engState e = esFence ∧ x.mark = none ∧ ¬ x.stripeWait ∧ ¬ x.chansBusy x.fenceMask then
    .next ((s.setEngState e esRun).modEng e fun z => { z with fenceMask := 0, lastIssue := s.time.mono })
  else .next s

/-- PAD_STEP (R162, R164): one NOP step of a lap's padding or of a window in which no kernel runs. -/
def execPadStep (e : Nat) (s : State) : Host.Outcome State Fault Refusal :=
  if s.engState e = esPad then .next (s.padStep e)
  else match (s.eng e).window with
    | some w =>
      if s.engState e = esWindow ∧ w.kernel = none ∧ 0 < w.left then .next (s.padStep e) else .next s
    | none => .next s

/-- LAP_OVERRUN (R162): the lap has used its declared count and would take one more step. -/
def execLapOverrun (e : Nat) (s : State) : Host.Outcome State Fault Refusal :=
  let x := s.eng e
  if s.lapFull e then
    if s.issuing e then .next (s.issue e)
    else match x.window with
      | some w => if s.engState e = esWindow ∧ 0 < w.left then .next (s.padStep e) else .next s
      | none =>
        match x.mark with
        | some (_, addr) => if s.engState e = esSave ∨ s.engState e = esFence then .next (s.engFault e fcLapOverrun addr 3) else .next s
        | none => .next s
  else .next s

/-! Descriptors (R154, R177, R178). -/

/-- The base a descriptor's BASE_SEL names in the frame with low number bits `fr` (Table 05-4). -/
def State.descBase (s : State) (fr : Nat) (d : Desc) : Nat :=
  if d.baseSel = 0 then d.dram
  else if d.baseSel = 9 then d.dram + d.alt * (fr % 2)
  else
    let run := s.plan.frames.filter fun f => lo32 f.n == fr
    let base := match run.getLast? with
      | some f => mapGet (fun _ => 0) f.planes (d.baseSel - 1)
      | none => 0
    base + d.dram

/-- An access of a channel that is discarded (R178). -/
def State.scOwn (s : State) (slot c d : Nat) : State :=
  (s.incFld PLAN_SC_OWN_COUNT_COUNT 1).raise 4 19 (slot + c * 2 ^ 3 + d % 2 ^ 12 * 2 ^ 4)

/-- One 64-byte burst between DRAM at `a` and the bank; a poisoned word stays poisoned (Table 06-1, R515). -/
def State.burst (s : State) (toDram : Bool) (bank off a cls : Nat) : State :=
  (List.range 8).foldl (fun t i =>
    if toDram then
      let r := t.sRead bank (off + 8 * i) cls
      let u := r.2.2.writeDramWord (a + 8 * i) ((valBytes 8 r.1.toNat).map some)
      if r.2.1 then u.poisonDram (a + 8 * i) else u
    else
      let r := t.readDramWord (a + 8 * i)
      let u := r.2.2.sWrite bank (off + 8 * i) (BitVec.allOnes 64) (BitVec.ofNat 64 r.1) cls
      if r.2.1 then u.putErr bank (off + 8 * i) 2 else u) s

/-- The bursts of a descriptor: bank offset and DRAM address of each (R177). -/
def descBursts (d : Desc) (base : Nat) : List (Nat × Int) :=
  (List.range d.rows).flatMap fun r => (List.range d.rowLen).map fun u =>
    (natBits (natBits d.bank 0 18 + r * d.bankStride * 64 + 64 * u) 0 18, (base : Int) + r * d.stride + 64 * u)

/-- Bursts of a descriptor for channel `c` of a slot (R177, R178): an access to a bank neither the
channel nor its slot owns, or outside usable DRAM, is discarded and the descriptor goes on; the first is
foreign as well (R219). -/
def State.runBursts (s : State) (slot c num : Nat) (d : Desc) (l : List (Nat × Int)) : State :=
  let bank := natBits d.bank 18 5
  l.foldl (fun t q =>
    if t.admits bank (.chan slot c) ∧ 0 ≤ q.2 ∧ t.inDram q.2.toNat 64 then
      t.burst d.toDram bank q.1 q.2.toNat 2
    else if t.admits bank (.chan slot c) then t.scOwn slot c num
    else (t.scOwn slot c num).foreign bank q.1 2 (!d.toDram)) s

/-- A descriptor's whole transfer for channel `c` of a slot. -/
def State.runDesc (s : State) (slot c num fr : Nat) (d : Desc) : State :=
  (s.runBursts slot c num d (descBursts d (s.descBase fr d))).dropGrant (natBits d.bank 18 5) (.chan slot c)

/-- The descriptor a channel is running. -/
def EngS.descNow (x : EngS) (ch : Nat) : Option (Nat × Desc) :=
  match (x.chan ch).queue, x.tab with
  | d :: _, some tab => (match tab.desc with | some l => l[d]?.map fun dd => (d, dd) | none => none)
  | _, _ => none

/-- The first burst of a descriptor that lies in a borrowed segment (R231). -/
def State.descStalls (s : State) (fr : Nat) (d : Desc) : Option Nat :=
  ((descBursts d (s.descBase fr d)).find? fun q => s.borrowed (natBits d.bank 18 5) q.1).map fun q => q.1

/-- The running descriptor leaves its channel; the next one starts. -/
def State.chanDone (s : State) (e ch : Nat) : State :=
  match ((s.eng e).chan ch).queue with
  | [] => s
  | d :: t =>
    let s1 := s.modEng e fun z => z.setChan ch ⟨t, d⟩
    if t.isEmpty then s1 else s1.descStart e ch

/-- DESCRIPTOR_COMPLETE (R154): the running descriptor's words are all taken; the next one starts. One that meets a
borrowed segment waits (R231). -/
def execDescriptorComplete (e ch : Nat) (s : State) : Host.Outcome State Fault Refusal :=
  let fr := s.fld (ENG_FRAME_NOW_FRAME_LO.inst e)
  match (s.eng e).descNow ch with
  | some (num, d) =>
    match s.descStalls fr d with
    | some off => .next (s.stallWho (natBits d.bank 18 5) off (.chan (s.engSlot e) ch))
    | none => .next ((s.runDesc (s.engSlot e) ch num fr d).chanDone e ch)
  | none => .next (s.chanDone e ch)

/-- Whether a read of ENGn.IMEM_DATA is served (R170). -/
def State.imemServed (s : State) (e : Nat) : Bool :=
  (s.engState e == esIdle || s.engState e == esFaulted || decide (2 ≤ s.fld (ENG_STATUS_ROLE.inst e))) &&
    s.bit (ENG_CTRL_IMEM_RD_EN.inst e)

/-- A read of ENGn.IMEM_DATA_0 (R170): where allowed it fetches the bundle into IMEM_DATA. DESIGN CHOICE (log entry
14): the stored bundle is returned and no ECC event is raised, since R127 speaks of a fetched bundle only. -/
def State.readImem (s : State) (e : Nat) : Word × State :=
  if s.imemServed e then
    let b := mapGet (fun _ => (0 : Bundle)) (s.eng e).imem (s.fld (ENG_IMEM_ADDR_ADDR.inst e))
    let s1 := (List.range 4).foldl (fun t k =>
      t.setFld ((ENG_IMEM_DATA_DATA.inst e).nth k) (natBits b.toNat (32 * k) 32)) s
    (b.extractLsb' 0 32, s1)
  else (0, s)

/-- IMEM_DATA_READ (R170). -/
def execImemDataRead (q : Req) (e : Nat) (s : State) : Host.Outcome State Fault Refusal :=
  .next (if e < 10 then s.serveRead q (0x10 + e) 0x084 fun t =>
      let r := t.readImem e
      r.2.emit (.data q [r.1])
    else s)

end Sys2Proof.Machine
end

