-- ==== Sys2Proof/Machine/Crypto.lean ====
section
/-! DEFINITION. The algorithms the spec takes from outside standards: CRC-32 (Table 05-2), SHA-256, HMAC and the counter-mode KDF (R455), AES-256-GCM, and ECDSA over P-256 (R188, R473). -/

namespace Sys2Proof.Machine

open Sys2Proof

/-! CRC-32: the IEEE 802.3 polynomial, reflected, initial value all ones, final inversion. -/

/-- Eight steps of the reflected CRC register. -/
def crcByte (c : Nat) (b : Byte) : Nat :=
  (List.range 8).foldl (fun r _ => if r % 2 = 1 then (r / 2) ^^^ 0xEDB88320 else r / 2) (c ^^^ b.toNat)

/-- CRC-32 of bytes. -/
def crc32 (bs : List Byte) : Nat := (bs.foldl crcByte 0xFFFFFFFF) ^^^ 0xFFFFFFFF

/-! SHA-256 (FIPS 180-4). -/

/-- Rotation right of a 32-bit value. -/
def rotr32 (n v : Nat) : Nat := v / 2 ^ n + v % 2 ^ n * 2 ^ (32 - n)

/-- The initial hash value. -/
def shaInit : List Nat := [0x6A09E667, 0xBB67AE85, 0x3C6EF372, 0xA54FF53A, 0x510E527F, 0x9B05688C, 0x1F83D9AB, 0x5BE0CD19]

/-- The round constants. -/
def shaK : List Nat :=
  ([0x428A2F98, 0x71374491, 0xB5C0FBCF, 0xE9B5DBA5, 0x3956C25B, 0x59F111F1, 0x923F82A4, 0xAB1C5ED5] ++
   [0xD807AA98, 0x12835B01, 0x243185BE, 0x550C7DC3, 0x72BE5D74, 0x80DEB1FE, 0x9BDC06A7, 0xC19BF174] ++
   [0xE49B69C1, 0xEFBE4786, 0x0FC19DC6, 0x240CA1CC, 0x2DE92C6F, 0x4A7484AA, 0x5CB0A9DC, 0x76F988DA] ++
   [0x983E5152, 0xA831C66D, 0xB00327C8, 0xBF597FC7, 0xC6E00BF3, 0xD5A79147, 0x06CA6351, 0x14292967] ++
   [0x27B70A85, 0x2E1B2138, 0x4D2C6DFC, 0x53380D13, 0x650A7354, 0x766A0ABB, 0x81C2C92E, 0x92722C85] ++
   [0xA2BFE8A1, 0xA81A664B, 0xC24B8B70, 0xC76C51A3, 0xD192E819, 0xD6990624, 0xF40E3585, 0x106AA070] ++
   [0x19A4C116, 0x1E376C08, 0x2748774C, 0x34B0BCB5, 0x391C0CB3, 0x4ED8AA4A, 0x5B9CCA4F, 0x682E6FF3] ++
   [0x748F82EE, 0x78A5636F, 0x84C87814, 0x8CC70208, 0x90BEFFFA, 0xA4506CEB, 0xBEF9A3F7, 0xC67178F2])

/-- The message schedule, newest word first. -/
def shaSchedule (w : List Nat) (n : Nat) : List Nat :=
  match n with
  | 0 => w
  | k + 1 =>
    let x := w.getD 14 0
    let y := w.getD 1 0
    let s0 := (rotr32 7 x) ^^^ (rotr32 18 x) ^^^ (x / 8)
    let s1 := (rotr32 17 y) ^^^ (rotr32 19 y) ^^^ (y / 1024)
    shaSchedule ((w.getD 15 0 + s0 + w.getD 6 0 + s1) % 2 ^ 32 :: w) k

/-- One round on the working variables a to h. -/
def shaRound (v : List Nat) (kw : Nat) : List Nat :=
  match v with
  | [a, b, c, d, e, f, g, h] =>
    let s1 := (rotr32 6 e) ^^^ (rotr32 11 e) ^^^ (rotr32 25 e)
    let ch := (e &&& f) ^^^ ((2 ^ 32 - 1 - e) &&& g)
    let t1 := h + s1 + ch + kw
    let s0 := (rotr32 2 a) ^^^ (rotr32 13 a) ^^^ (rotr32 22 a)
    let maj := (a &&& b) ^^^ (a &&& c) ^^^ (b &&& c)
    [(t1 + s0 + maj) % 2 ^ 32, a, b, c, (d + t1) % 2 ^ 32, e, f, g]
  | _ => v

/-- The compression of one block of 64 bytes. -/
def shaBlock (h : List Nat) (block : List Byte) : List Nat :=
  let w0 := (List.range 16).map fun i => bytesValBE ((block.drop (4 * i)).take 4)
  let w := (shaSchedule w0.reverse 48).reverse
  let v := (shaK.zip w).foldl (fun u q => shaRound u (q.1 + q.2)) h
  (h.zip v).map fun q => (q.1 + q.2) % 2 ^ 32

/-- Big-endian bytes of a number. -/
def valBytesBE (n v : Nat) : List Byte := (valBytes n v).reverse

/-- The padding of a message of `n` bytes. -/
def shaPad (n : Nat) : List Byte :=
  [0x80#8] ++ List.replicate ((119 - n % 64) % 64) 0#8 ++ valBytesBE 8 (8 * n)

/-- The blocks of a padded message, one after another. -/
def shaBlocks (h : List Nat) (bs : List Byte) (n : Nat) : List Nat :=
  match n with
  | 0 => h
  | k + 1 => shaBlocks (shaBlock h (bs.take 64)) (bs.drop 64) k

/-- SHA-256 of bytes. -/
def sha256 (bs : List Byte) : List Byte :=
  let p := bs ++ shaPad bs.length
  (shaBlocks shaInit p (p.length / 64)).flatMap fun w => valBytesBE 4 w

/-- HMAC-SHA-256 (FIPS 198-1). -/
def hmac256 (key msg : List Byte) : List Byte :=
  let k0 := if 64 < key.length then sha256 key else key
  let k := k0 ++ List.replicate (64 - k0.length) 0#8
  sha256 ((k.map fun b => b ^^^ 0x5C#8) ++ sha256 ((k.map fun b => b ^^^ 0x36#8) ++ msg))

/-- The KDF in counter mode of SP 800-108 with HMAC-SHA-256 (R455): `bits` bits of output. -/
def kdf256 (key label ctx : List Byte) (bits : Nat) : List Byte :=
  ((List.range ((bits + 255) / 256)).flatMap fun i =>
    hmac256 key (valBytesBE 4 (i + 1) ++ label ++ [0#8] ++ ctx ++ valBytesBE 4 bits)).take (bits / 8)

/-! AES-256 and GCM (FIPS 197, SP 800-38D). -/

/-- Multiplication by x in GF(2^8). -/
def xtime (a : Nat) : Nat := if a < 128 then 2 * a else (2 * a) % 256 ^^^ 0x1B

/-- Product in GF(2^8). -/
def gf8Mul (a b n : Nat) : Nat :=
  match n with
  | 0 => 0
  | k + 1 => (if b % 2 = 1 then a else 0) ^^^ gf8Mul (xtime a) (b / 2) k

/-- `a ^ n` in GF(2^8), by repeated product. -/
def gf8Pow (a n : Nat) : Nat :=
  match n with
  | 0 => 1
  | k + 1 => gf8Mul a (gf8Pow a k) 8

/-- Rotation left of a byte. -/
def rotl8 (n v : Nat) : Nat := v * 2 ^ n % 256 + v / 2 ^ (8 - n)

/-- The S-box: the inverse (x^254), then the affine map. -/
def aesSbox (v : Nat) : Nat :=
  let i := gf8Pow v 254
  i ^^^ rotl8 1 i ^^^ rotl8 2 i ^^^ rotl8 3 i ^^^ rotl8 4 i ^^^ 0x63

/-- The words of the AES-256 key schedule, newest first: each is four bytes. -/
def aesExpand (w : List (List Nat)) (i n : Nat) : List (List Nat) :=
  match n with
  | 0 => w
  | k + 1 =>
    let t := w.getD 0 []
    let t1 := if i % 8 = 0 then
        ((t.drop 1 ++ t.take 1).map aesSbox).zipWith (fun a b => a ^^^ b) [gf8Pow 2 (i / 8 - 1), 0, 0, 0]
      else if i % 8 = 4 then t.map aesSbox else t
    aesExpand ((w.getD 7 []).zipWith (fun a b => a ^^^ b) t1 :: w) (i + 1) k

/-- The fifteen round keys, 16 bytes each. -/
def aesKeys (key : List Byte) : List (List Nat) :=
  let w0 := (List.range 8).map fun i => ((key.drop (4 * i)).take 4).map fun b => b.toNat
  let w := (aesExpand w0.reverse 8 52).reverse
  (List.range 15).map fun r => ((w.drop (4 * r)).take 4).flatten

/-- MixColumns on one column. -/
def aesMix (c : List Nat) : List Nat :=
  let g (i : Nat) : Nat := c.getD (i % 4) 0
  (List.range 4).map fun i => xtime (g i) ^^^ (xtime (g (i + 1)) ^^^ g (i + 1)) ^^^ g (i + 2) ^^^ g (i + 3)

/-- SubBytes and ShiftRows: the state is held by columns. -/
def aesSubShift (st : List Nat) : List Nat :=
  (List.range 16).map fun i => aesSbox (st.getD ((i + 4 * (i % 4)) % 16) 0)

/-- AES-256 encryption of one block. -/
def aesBlock (key : List Byte) (block : List Nat) : List Nat :=
  let ks := aesKeys key
  let xk (st : List Nat) (r : Nat) : List Nat := st.zipWith (fun a b => a ^^^ b) (ks.getD r [])
  let st := (List.range 13).foldl (fun st r =>
    let t := aesSubShift st
    xk ((List.range 4).flatMap fun c => aesMix ((t.drop (4 * c)).take 4)) (r + 1)) (xk block 0)
  xk (aesSubShift st) 14

/-- The product of GHASH; blocks are numbers with the first bit highest. -/
def ghashMul (x y : Nat) : Nat :=
  let r := (List.range 128).foldl (fun (q : Nat × Nat) i =>
    let z := if x.testBit (127 - i) then q.1 ^^^ q.2 else q.1
    (z, if q.2 % 2 = 1 then q.2 / 2 ^^^ (0xE1 * 2 ^ 120) else q.2 / 2)) (0, y)
  r.1

/-- GHASH of a padded byte string. -/
def ghash (h : Nat) (bs : List Byte) : Nat :=
  (List.range (bs.length / 16)).foldl (fun y i => ghashMul (y ^^^ bytesValBE ((bs.drop (16 * i)).take 16)) h) 0

/-- Zero padding to a multiple of 16 bytes. -/
def pad16 (bs : List Byte) : List Byte := bs ++ List.replicate ((16 - bs.length % 16) % 16) 0#8

/-- A block as a number, big-endian. -/
def blockVal (b : List Nat) : Nat := b.foldl (fun a x => a * 256 + x) 0

/-- AES-256 of a 16-byte block given as a number. -/
def aesNum (key : List Byte) (v : Nat) : Nat := blockVal (aesBlock key ((valBytesBE 16 v).map fun b => b.toNat))

/-- Counter-mode encryption from counter block `iv || 2` on. -/
def gcmCtr (key iv bs : List Byte) : List Byte :=
  (List.range ((bs.length + 15) / 16)).flatMap fun i =>
    ((bs.drop (16 * i)).take 16).zipWith (fun a b => a ^^^ b)
      (valBytesBE 16 (aesNum key (bytesValBE iv * 2 ^ 32 + i + 2)))

/-- The 128-bit tag. -/
def gcmTag (key iv aad ct : List Byte) : List Byte :=
  let h := aesNum key 0
  let g := ghash h (pad16 aad ++ pad16 ct ++ valBytesBE 8 (8 * aad.length) ++ valBytesBE 8 (8 * ct.length))
  valBytesBE 16 (g ^^^ aesNum key (bytesValBE iv * 2 ^ 32 + 1))

/-! P-256 (FIPS 186-5, SP 800-186). -/

/-- The field prime. -/
def p256P : Nat := 0xFFFFFFFF00000001000000000000000000000000FFFFFFFFFFFFFFFFFFFFFFFF
/-- The order of the base point. -/
def p256N : Nat := 0xFFFFFFFF00000000FFFFFFFFFFFFFFFFBCE6FAADA7179E84F3B9CAC2FC632551
/-- The coefficient b; a is −3. -/
def p256B : Nat := 0x5AC635D8AA3A93E7B3EBBD55769886BC651D06B0CC53B0F63BCE3C3E27D2604B
/-- The base point. -/
def p256G : Nat × Nat :=
  (0x6B17D1F2E12C4247F8BCE6E563A440F277037D812DEB33A0F4A13945D898C296,
   0x4FE342E2FE1A7F9B8EE7EB4A7C0F9E162BCE33576B315ECECBB6406837BF51F5)

/-- `b ^ e` modulo `m`, over the low `n` bits of `e`. -/
def powMod (m b e n : Nat) : Nat :=
  match n with
  | 0 => 1 % m
  | k + 1 =>
    let h := powMod m (b * b % m) (e / 2) k
    if e % 2 = 1 then b * h % m else h

/-- The inverse modulo a prime. -/
def invMod (m a : Nat) : Nat := powMod m a (m - 2) 256

/-- Sum of two points; `none` is the point at infinity. -/
def p256Add (a b : Option (Nat × Nat)) : Option (Nat × Nat) :=
  match a, b with
  | none, _ => b
  | _, none => a
  | some u, some v =>
    let p := p256P
    if u.1 = v.1 ∧ (u.2 + v.2) % p = 0 then none
    else
      let l := if u = v then (3 * u.1 * u.1 + p - 3) * invMod p (2 * u.2 % p) % p
        else (v.2 + p - u.2) * invMod p ((v.1 + p - u.1) % p) % p
      let x := (l * l + 2 * p - u.1 - v.1) % p
      some (x, (l * (u.1 + p - x) + p - u.2) % p)

/-- `k` times a point, over the low `n` bits of `k`. -/
def p256Mul (k : Nat) (q : Option (Nat × Nat)) (n : Nat) : Option (Nat × Nat) :=
  match n with
  | 0 => none
  | m + 1 =>
    let r := p256Mul (k / 2) (p256Add q q) m
    if k % 2 = 1 then p256Add q r else r

/-- Whether a point is on the curve. -/
def p256On (q : Nat × Nat) : Bool :=
  decide (q.1 < p256P ∧ q.2 < p256P) &&
    (q.2 * q.2 % p256P == (q.1 * q.1 * q.1 + (p256P - 3) * q.1 + p256B) % p256P)

/-- The public point of a private key. -/
def p256Pub (d : Nat) : Nat × Nat := (p256Mul d (some p256G) 256).getD (0, 0)

/-- ECDSA verification of a digest under a public point. -/
def ecdsaVerify (q : Nat × Nat) (digest : List Byte) (r s : Nat) : Bool :=
  if r = 0 ∨ p256N ≤ r ∨ s = 0 ∨ p256N ≤ s then false
  else
    let e := bytesValBE digest
    let w := invMod p256N s
    match p256Add (p256Mul (e * w % p256N) (some p256G) 256) (p256Mul (r * w % p256N) (some q) 256) with
    | none => false
    | some x => x.1 % p256N == r

/-- An ECDSA signature of a digest with the per-message secret `k`; `none` where `k` must be drawn again. -/
def ecdsaSign (d : Nat) (digest : List Byte) (k : Nat) : Option (Nat × Nat) :=
  let r := (p256Pub k).1 % p256N
  let s := invMod p256N (k % p256N) * (bytesValBE digest + r * d) % p256N
  if k % p256N = 0 ∨ r = 0 ∨ s = 0 then none else some (r, s)

end Sys2Proof.Machine
end

