-- ==== Sys2Proof/Machine/Nvm.lean ====
section
/-! DEFINITION. The NVM (R490, R491): its logical sectors, writes with their read-back, spare sectors. -/

namespace Sys2Proof.Machine

open Sys2Proof

/-- The NVM page (Table 16-9). -/
def nvmPage : Nat := 9

/-- What an unlisted byte of NVM reads as (R491; log entry 13). -/
def nvmDefault : Nat → Byte := fun _ => 0

/-- `n` bytes of NVM at logical address `a`. -/
def State.nvmBytes (s : State) (a n : Nat) : List Byte := mapGetList nvmDefault s.nvm a n

/-- `s` with bytes in NVM. -/
def State.putNvm (s : State) (a : Nat) (bs : List Byte) : State :=
  { s with nvm := mapSetList nvmDefault s.nvm a bs }

/-- `n` free bytes (log entry 2). -/
def freeBytes (v n : Nat) : List Byte := valBytes n v

/-- One failed read-back of a write to logical sector `sec`: a free spare sector takes its place; with
none left the write fails (R490). -/
def State.spareSector (s : State) (sec : Nat) : Bool × State :=
  let s1 := s.incFld NVM_FAIL_COUNT_COUNT 1
  let left := s.fld NVM_SPARE_FREE_SECTORS
  if left = 0 then (false, s1.raise nvmPage 6 sec)
  else
    let s2 := { s1 with nvmMap := mapSet (fun _ => 0) s1.nvmMap sec (33 - left) }
    let s3 := (s2.setFld NVM_SPARE_FREE_SECTORS (left - 1)).raise nvmPage 8 sec
    (true, if left - 1 = 4 then s3.raise nvmPage 9 4 else s3)

/-- `fails` failed read-backs in a row; whether a sector is left to repeat the write in. -/
def State.spareSectors (s : State) (sec fails : Nat) : Bool × State :=
  match fails with
  | 0 => (true, s)
  | k + 1 =>
    let r := s.spareSector sec
    if r.1 then r.2.spareSectors sec k else r

/-- A write of `bs` at logical address `a` whose read-back fails `fails` times (R490). A write that
fails for good leaves its bytes undefined: free values (log entry 2). -/
def State.nvmStore (s : State) (a : Nat) (bs : List Byte) (fails : Nat) : Bool × State :=
  let r := s.spareSectors (a / 8192) fails
  if r.1 then (true, r.2.putNvm a bs)
  else (false, (r.2.takeFree).putNvm a (freeBytes r.2.freeVal bs.length))

/-- A write the hardware makes on its own, waiting for its read-back. -/
def State.nvmLater (s : State) (a : Nat) (bs : List Byte) : State := { s with nvmPend := s.nvmPend ++ [(a, bs)] }

/-- The newer of two valid copies by generation (R425): A is newer when 0 < (GA − GB) mod 2^32 < 2^31. -/
def aNewer (ga gb : Nat) : Bool :=
  let d := (ga + 2 ^ 32 - gb) % 2 ^ 32
  decide (0 < d ∧ d < 2 ^ 31)

end Sys2Proof.Machine
end

