-- ==== Sys2Proof/Machine/SenseCore.lean ====
section
/-! DEFINITION. Calibration values, sets, shadow and storage, and the steps of the calibration unit (spec/13). -/

namespace Sys2Proof.Machine

open Sys2Proof

/-! Pages and copies of them. -/

def calPage : Nat := 10
def sensePage : Nat := 11

/-- A field in a copy of registers. -/
def cfgFld (l : List (Nat × Word)) (f : Fld) : Nat := natBits (mapGet regReset l f.key).toNat f.lo f.w

/-- A copy of the registers of a page. -/
def State.pageCopy (s : State) (p : Nat) : List (Nat × Word) := s.regs.filter fun q => q.1 / 4096 == p

def State.modSense (s : State) (f : SenseS → SenseS) : State := { s with sense := f s.sense }
def State.modCal (s : State) (f : CalS → CalS) : State := { s with cal := f s.cal }

/-! Rounding of exact quotients. -/

/-- Halves up (R418, R419). -/
def halfUpRat (q : Rat) : Int := (q + 1 / 2).floor

/-- Halves away from zero (R405; log entry 28 for the steps). -/
def awayRat (q : Rat) : Int := if 0 ≤ q then (q + 1 / 2).floor else -((-q + 1 / 2).floor)

/-- The square root of a quotient that is not negative, to the nearest whole number. -/
def sqrtRat (q : Rat) : Nat :=
  let n := q.num.toNat
  let d := q.den
  let r := Nat.sqrt (n / d)
  if (2 * r + 1) * (2 * r + 1) * d ≤ 4 * n then r + 1 else r

/-! Temperature sets (R410, R418, R419). -/

/-- Temperatures of the four sets in 1/16 °C. -/
def setTemp (k : Nat) : Int := if k = 0 then -320 else if k = 1 then 400 else if k = 2 then 1120 else 1760

/-- The sets that bracket `t`; one set outside their range. -/
def bracket (t : Int) : Nat × Nat :=
  if t < setTemp 0 then (0, 0) else if t ≤ setTemp 1 then (0, 1) else if t ≤ setTemp 2 then (1, 2) else if t ≤ setTemp 3 then (2, 3) else (3, 3)

/-- The exact interpolation of set values at `t`. -/
def interp (v : Nat → Int) (t : Int) : Rat :=
  let b := bracket t
  if b.1 = b.2 then (v b.1 : Rat)
  else (v b.1 : Rat) + ((v b.2 - v b.1) * (t - setTemp b.1) : Int) / ((setTemp b.2 - setTemp b.1 : Int) : Rat)

/-- The set nearest to `t`, the lower of two equally near. -/
def nearestSet (t : Int) : Nat :=
  let b := bracket t
  if (setTemp b.2 - t).natAbs < (t - setTemp b.1).natAbs then b.2 else b.1

/-- Quantities: po, bo, bg. -/
def qPo : Nat := 0
def qBo : Nat := 1
def qBg : Nat := 2

/-- The value of quantity `q` of channel `c` in set `k`. -/
def State.setVal (s : State) (q c k : Nat) : Int :=
  if q = qPo then s.sfld (CAL_SET_PATH_PO.nth (32 * k + c))
  else if q = qBo then s.sfld (CAL_SET_BOARD_BO.nth (4 * k + (c - 20)))
  else s.fld (CAL_SET_BOARD_BG.nth (4 * k + (c - 20)))

/-- `s` with that value replaced. -/
def State.putSet (s : State) (q c k : Nat) (v : Int) : State :=
  if q = qPo then s.setInt (CAL_SET_PATH_PO.nth (32 * k + c)) v
  else if q = qBo then s.setInt (CAL_SET_BOARD_BO.nth (4 * k + (c - 20))) v
  else s.setInt (CAL_SET_BOARD_BG.nth (4 * k + (c - 20))) v

/-- Tcal (R404, R486). -/
def State.tcal (s : State) : Int := s.sfld (SENSE_DTS_T.nth (if s.dtsOff.contains 7 then 6 else 7))

/-- Place of a value by set and channel. -/
def setKey (q k c : Nat) : Nat := q * 128 + k * 32 + c

/-- The fused path gain of channel `c` in set `k`: 1 where the log names no other (log entry 3). -/
def State.fusePg (s : State) (k c : Nat) : Nat := mapGet (fun _ => 0x4000) s.cal.fusePg (setKey 0 k c)

/-- The fused path offset. -/
def State.fusePo (s : State) (k c : Nat) : Int := mapGet (fun _ => 0) s.cal.fusePo (setKey 0 k c)

/-- The values in force are recomputed from the sets (R418). -/
def State.calRecompute (s : State) : State :=
  let t := s.tcal
  let s1 := (List.range 25).foldl (fun (u : State) (c : Nat) =>
    (u.setInt (CAL_PATH_OFF_PO.nth c) (halfUpRat (interp (s.setVal qPo c) t))).modSense fun x => { x with
      pg := mapSet (fun _ => 0x4000) x.pg c (halfUpRat (interp (fun k => (s.fusePg k c : Int)) t)).toNat }) s
  (List.range 4).foldl (fun (u : State) (r : Nat) =>
    (u.setInt (CAL_BOARD_BO.nth r) (halfUpRat (interp (s.setVal qBo (20 + r)) t))).setInt (CAL_BOARD_BG.nth r)
      (halfUpRat (interp (s.setVal qBg (20 + r)) t))) s1

/-- The set values that a result `v` at `t` gives (R419): sets moved, with their new values. -/
def State.setMoves (s : State) (q c : Nat) (v t : Int) : List (Nat × Int) :=
  let b := bracket t
  if b.1 = b.2 then [(b.1, v)]
  else
    let d : Rat := (v : Rat) - interp (s.setVal q c) t
    [b.1, b.2].map fun k => (k, halfUpRat ((s.setVal q c k : Rat) + d))

/-- PTP seconds, low 32 bits. -/
def State.ptpSec (s : State) : Nat := lo32 (s.time.now / unitsPerSec)

/-- SET_INFO of a set after one more update at `t`. -/
def State.movedInfo (s : State) (k : Nat) (t : Int) : SetInfo :=
  let old := mapGet (fun _ => (⟨0, 0, 0⟩ : SetInfo)) s.cal.info k
  let base := mapGet (fun _ => old) s.cal.shadowInfo k
  ⟨t, min (base.updates + 1) 65535, s.ptpSec⟩

/-- A passed step's updates enter the shadow (R419, R420). -/
def State.stage (s : State) (q c : Nat) (v t : Int) : State :=
  (s.setMoves q c v t).foldl (fun (u : State) (m : Nat × Int) => u.modCal fun x => { x with
    shadow := (x.shadow.filter fun p => p.1 != setKey q m.1 c) ++ [(setKey q m.1 c, m.2)]
    shadowInfo := (x.shadowInfo.filter fun p => p.1 != m.1) ++ [(m.1, u.movedInfo m.1 t)] })
    ((s.setBit CAL_STATUS_SHADOW_DIRTY true).modCal fun x =>
      { x with dirtyAt := if s.bit CAL_STATUS_SHADOW_DIRTY then x.dirtyAt else s.time.mono })

/-! Storage (R424 to R426). -/

/-- NVM address of slot A or B (Table 16-5). -/
def calSlotAt (b : Bool) : Nat := if b then 0x2000 else 0

/-- Whether the bytes of a slot are valid, and its generation. -/
def calSlotOk (x : List Byte) : Bool :=
  x.take 4 == [0x45, 0x43, 0x41, 0x4C] && leField x 4 2 == 1 && leField x 6 2 == 0x288 && leField x 0x288 4 == crc32 (x.take 0x288)
def State.calSlot (s : State) (b : Bool) : Option (List Byte) :=
  let x := s.nvmBytes (calSlotAt b) 1024
  if calSlotOk x then some x else none

/-- The newer valid slot: B or not, its bytes (R425). -/
def State.newerSlot (s : State) : Option (Bool × List Byte) :=
  match s.calSlot false, s.calSlot true with
  | some a, some b => if aNewer (leField a 8 4) (leField b 8 4) then some (false, a) else some (true, b)
  | some a, none => some (false, a)
  | none, some b => some (true, b)
  | none, none => none

/-- The bytes of a slot from the sets in force (Table 13-4). -/
def State.calBytes (s : State) (gen : Nat) : List Byte :=
  let info := (List.range 4).flatMap fun k =>
    let i := mapGet (fun _ => (⟨0, 0, 0⟩ : SetInfo)) s.cal.info k
    valBytes 2 (intBits 16 i.tj) ++ valBytes 2 i.updates ++ valBytes 4 i.sec
  let vals := (List.range 4).flatMap fun k => (List.range 25).flatMap fun c =>
    let brd := decide (20 ≤ c ∧ c < 24)
    valBytes 2 (intBits 16 (s.setVal qPo c k)) ++ valBytes 2 (if brd then intBits 16 (s.setVal qBo c k) else 0) ++
      valBytes 2 (if brd then (s.setVal qBg c k).toNat else 0x4000)
  let body := [0x45, 0x43, 0x41, 0x4C] ++ valBytes 2 1 ++ valBytes 2 0x288 ++ valBytes 4 gen ++ valBytes 4 s.ptpSec ++ info ++ vals
  body ++ valBytes 4 (crc32 body) ++ List.replicate 372 0

/-- A store starts with a snapshot of the sets in force (R425). -/
def State.storeStart (s : State) (task : Bool) : State :=
  let newer := s.newerSlot
  let target : Bool := match newer with
    | some (b, _) => !b
    | none => false
  let gen := match newer with | some (_, x) => (leField x 8 4 + 1) % 2 ^ 32 | none => 1
  let s1 := (s.setBit CAL_STATUS_STORE_BUSY true).modCal fun x => { x with store := some (target, s.calBytes gen, task, gen) }
  if task then { (s1.setFld CAL_STATUS_STEP 4) with sched := { s1.sched with commit := s1.sched.commit ++ [40] } } else s1

/-- A store is asked for; one that arrives while another runs is held (R425). -/
def State.storeRequest (s : State) (task : Bool) : State :=
  match s.cal.store with
  | some _ => s.modCal fun x => { x with storeHeld := some (task || x.storeHeld == some true) }
  | none => s.storeStart task

/-- An automatic store that is due after an apply (R426). -/
def State.storeTick (s : State) : State :=
  let t := s.fld CAL_STORE_INTERVAL_S_S
  let passed : Bool := match s.cal.lastStore with | some a => decide (a + t * unitsPerSec ≤ s.time.mono) | none => true
  if s.cal.storeDue ∧ s.bit CAL_CTRL_STORE_AUTO ∧ (t = 0 ∨ passed) then
    (s.modCal fun x => { x with storeDue := false }).storeRequest false
  else s

/-- An apply (R420): the shadow is merged into the sets, the values recomputed. -/
def State.calApply (s : State) : State :=
  let s1 := s.cal.shadow.foldl (fun (u : State) (p : Nat × Int) => u.putSet (p.1 / 128) (p.1 % 32) (p.1 / 32 % 4) p.2) s
  let s2 := s1.modCal fun x => { x with
    info := x.shadowInfo.foldl (fun l p => mapSet (fun _ => (⟨0, 0, 0⟩ : SetInfo)) l p.1 p.2) x.info
    shadow := []
    shadowInfo := []
    storeDue := x.storeDue || s.bit CAL_CTRL_STORE_AUTO
    storeAfter := false }
  let s3 := ((s2.setBit CAL_STATUS_SHADOW_DIRTY false).calRecompute).raise calPage 10 (lo32 s.frameNo)
  let s4 := if s.cal.storeAfter then (s3.modCal fun x => { x with storeDue := false }).storeRequest false else s3
  s4.storeTick

/-- A transit at the calibration unit (R418, R420, R426). -/
def State.calTransit (s : State) : State :=
  if s.bit CAL_CTRL_APPLY_AUTO ∧ s.bit CAL_STATUS_SHADOW_DIRTY ∧ s.cal.dirtyAt < s.time.mono then s.calApply
  else s.calRecompute.storeTick

/-! Steps (R411, R413, R417, R421, R422). -/

def stPath : Nat := 1
def stOffset : Nat := 2
def stGain : Nat := 3
def stStore : Nat := 4

/-- Reasons of LAST_RESULT (Table 13-7). -/
def crOk : Nat := 0
def crVariance : Nat := 1
def crLimits : Nat := 2
def crResidual : Nat := 3
def crNoSamples : Nat := 4
def crAborted : Nat := 5
def crNoStandin : Nat := 6

/-- The steps of a channel's position (Table 13-3). -/
def stepsOf (c : Nat) : List (Nat × Nat) := if 20 ≤ c ∧ c < 24 then [(c, stPath), (c, stOffset), (c, stGain)] else [(c, stPath)]

/-- What a step has computed when it ends (R417): the value, the intercept, vx and the residual; none: it did not come to
it. -/
structure CalStats where
  value : Option Int
  icpt : Option Int
  var : Option Nat
  resid : Option Nat
  deriving DecidableEq, Repr

/-- LAST_RESULT of a step, with the value and statistics it computed, and its event (R417); what it did not compute stays
as it was (log entry 28). -/
def State.calReport (s : State) (c step reason : Nat) (q : CalStats) : State :=
  let s1 := ((s.setFld CAL_LAST_RESULT_CHANNEL c).setFld CAL_LAST_RESULT_STEP step).setFld CAL_LAST_RESULT_REASON reason
  let s2 := match q.value with | some v => s1.setInt CAL_LAST_VALUE_VALUE v | none => s1
  let s3 := match q.icpt with | some a => s2.setInt CAL_LAST_VALUE_ICPT a | none => s2
  let s4 := match q.var with | some v => s3.setFld CAL_LAST_VAR_MA2 (min v (2 ^ 32 - 1)) | none => s3
  let s5 := match q.resid with | some r => s4.setFld CAL_LAST_RESID_RESID (min r (2 ^ 32 - 1)) | none => s4
  if reason = crOk then s5.raise calPage 8 (c + step * 2 ^ 5 + intBits 16 (q.value.getD 0) * 2 ^ 8)
  else s5.raise calPage 9 (c + step * 2 ^ 5 + reason * 2 ^ 8)

/-- Whether a PATH step of channel `c` finds its stand-in (R413, R485). -/
def State.standinFree (s : State) (c : Nat) : Bool :=
  s.sense.adopted.isNone && (c == 24 || !s.bit CAL_STATUS_SPARE_BAD)

/-- A port of the rail of SNS20 + r. -/
def railHas (l : List (Nat × Word)) (r p : Nat) : Bool := (cfgFld l (CAL_RAIL_PORTS_PORTS.nth r)).testBit p

/-- Whether a rail has what BOARD_GAIN needs (R416). -/
def railOk (l : List (Nat × Word)) (r : Nat) : Bool :=
  cfgFld l (CAL_RAIL_PORTS_PORTS.nth r) != 0 && (List.range 16).all fun p => !railHas l r p || cfgFld l (CAL_IFS_UA_UA.nth p) != 0

/-- A step begins, or is reported at once where it cannot run. -/
def State.calBegin (s : State) (c step : Nat) (task : Bool) : State :=
  let l := s.pageCopy calPage
  if step = stPath ∧ ¬ s.standinFree c then s.calReport c step crNoStandin ⟨none, none, none, none⟩
  else if step = stGain ∧ ¬ railOk l (c - 20) then s.calReport c step crNoSamples ⟨none, none, none, none⟩
  else
    (s.setFld CAL_STATUS_STEP step).modCal fun x => { x with
      step := some ⟨c, step, task, s.time.mono, l, step != stPath, none, 0, 0, 0, 0, 0, 0, 0, 0, none, 0, 0, false⟩ }

/-- The CAL unit runs a task. -/
def State.calTasked (s : State) : Bool := s.sched.running.any fun p => p.1 == 40

/-- A CAL task is READY. -/
def State.calReadyTask (s : State) : Bool :=
  (List.range 256).any fun n => s.fld (SCHED_CTX_STATE_STATE.nth n) == 3 && s.fld (SCHED_CTX_STATE_UNIT.nth n) == 3

/-- The unit goes on to its next step: the task's first, then its completion, then the automatic position's,
before which a READY task is dispatched (R421). -/
def State.calNext (s : State) (fuel : Nat) : State :=
  match fuel with
  | 0 => s
  | k + 1 =>
    if s.cal.step.isSome then s
    else
      match s.cal.task with
      | (c, st) :: l => ((s.modCal fun x => { x with task := l }).calBegin c st true).calNext k
      | [] =>
        if s.calTasked then
          let storing := s.cal.storeHeld == some true || (match s.cal.store with | some q => q.2.2.1 | none => false)
          if storing ∨ s.sched.done.any (fun p => p.1 == 40) ∨ s.sched.faults.any (fun p => p.1 == 40) then s
          else { s with sched := { s.sched with done := s.sched.done ++ [(40, s.fld CAL_LAST_RESULT_REASON)] } }
        else
          match s.cal.auto with
          | (c, st) :: l => if s.calReadyTask then s else ((s.modCal fun x => { x with auto := l }).calBegin c st false).calNext k
          | [] => s

/-- A step ends and the next begins. -/
def State.calEnd (s : State) : State := ((s.setFld CAL_STATUS_STEP 0).modCal fun x => { x with step := none }).calNext 8

/-- A CAL task is dispatched with descriptor word 1 `w1` (R422). -/
def State.calDispatched (s : State) (w1 : Nat) : State :=
  let c := natBits w1 0 5
  let st := natBits w1 5 3
  if st = stStore then s.storeRequest true
  else (s.modCal fun x => { x with task := if st = 0 then stepsOf c else [(c, st)] }).calNext 8

/-- An ABORT taken before the commit point: the step stops, nothing enters the shadow (R423). -/
def State.calAbort (s : State) : State :=
  let s1 := match s.cal.step with
    | some p => if p.task then
        ((s.calReport p.chan p.step crAborted ⟨none, none, none, none⟩).setFld CAL_STATUS_STEP 0).modCal fun x => { x with step := none }
      else s
    | none => s
  s1.modCal fun x => { x with task := [], storeHeld := if x.storeHeld == some true then none else x.storeHeld }

/-! Corrections in force. -/

/-- The front end that publishes channel `c` (R412). -/
def State.frontOf (s : State) (c : Nat) : Nat :=
  match s.sense.stand with
  | .on n => if n = c then 24 else c
  | .off n => if n = c then 24 else c
  | _ => c

/-- What a conversion of channel `c` through its front end is corrected with now (R405, R412). -/
def State.corrOf (s : State) (c : Nat) : SnsHold :=
  let f := s.frontOf c
  let brd := decide (20 ≤ c ∧ c < 24)
  ⟨c, f, s.st32, s.sfld (CAL_PATH_OFF_PO.nth f), mapGet (fun _ => 0x4000) s.sense.pg f,
    if brd then s.sfld (CAL_BOARD_BO.nth (c - 20)) else 0, if brd then s.fld (CAL_BOARD_BG.nth (c - 20)) else 0x4000⟩

end Sys2Proof.Machine
end

