-- ==== Sys2Proof/Machine/Sched.lean ====
section
/-! DEFINITION. The task scheduler (spec/07): contexts, the dispatch arbiter and its order, the delay list, window dispatch, the trace, and the meanings of its commands. -/

namespace Sys2Proof.Machine

open Sys2Proof

/-! Contexts and their lists (R238, R247). -/

/-- States of Table 07-3 as CTX_STATE codes them. -/
def csFree : Nat := 0
def csDormant : Nat := 1
def csDelayed : Nat := 2
def csReady : Nat := 3
def csRunning : Nat := 4
def csBlocked : Nat := 5
def csDone : Nat := 6
def csCancelled : Nat := 7
def csFaulted : Nat := 8

/-- END_CAUSE codes (Table 07-5). -/
def ecCancel : Nat := 1
def ecAbort : Nat := 2
def ecDep : Nat := 3
def ecKernel : Nat := 4
def ecUnit : Nat := 5
def ecLost : Nat := 6
def ecSwitch : Nat := 7
def ecDesc : Nat := 8

/-- STATE of a context. -/
def State.ctxState (s : State) (n : Nat) : Nat := s.fld (SCHED_CTX_STATE_STATE.nth n)

/-- Priority of a context. -/
def State.ctxPrio (s : State) (n : Nat) : Nat := s.fld (SCHED_CTX_CFG_PRIO.nth n)

/-- Bank address of a context's descriptor; its row is 64-byte aligned. -/
def State.ctxDesc (s : State) (n : Nat) : Nat := s.fld (SCHED_CTX_CFG_DESC_ADDR.nth n) / 64 * 64

/-- What a context keeps of its submitted task. -/
def State.ctx (s : State) (n : Nat) : Ctx := mapGet (fun _ => (⟨0, 0, 0⟩ : Ctx)) s.sched.ctx n

/-- `s` with the scheduler changed by `f`. -/
def State.modSched (s : State) (f : SchedS → SchedS) : State := { s with sched := f s.sched }

/-- `s` with what a context keeps replaced. -/
def State.setCtx (s : State) (n : Nat) (c : Ctx) : State :=
  s.modSched fun x => { x with ctx := mapSet (fun _ => (⟨0, 0, 0⟩ : Ctx)) x.ctx n c }

/-- The READY tasks of a level, oldest first. -/
def State.level (s : State) (p : Nat) : List Nat := mapGet (fun _ => []) s.sched.ready p

/-- `s` with a level replaced. -/
def State.setLevel (s : State) (p : Nat) (l : List Nat) : State :=
  s.modSched fun x => { x with ready := mapSet (fun _ => []) x.ready p l }

/-- Number of READY tasks. -/
def State.readyCount (s : State) : Nat := ((List.range 16).map fun p => (s.level p).length).sum

/-- STATUS and LEVEL_OCC follow the lists (Table 07-5). -/
def State.schedSync (s : State) : State :=
  let occ := ((List.range 16).map fun p => if (s.level p).isEmpty then 0 else 2 ^ p).sum
  (((s.setFld SCHED_STATUS_READY s.readyCount).setFld SCHED_STATUS_RUNNING s.sched.running.length).setFld
    SCHED_STATUS_DELAYED (s.sched.delay.filter fun k => s.ctxState k == csDelayed).length).setFld SCHED_LEVEL_OCC_LEVELS occ |>.setBit
    KEY_STATUS_BUSY (s.sched.running.any fun p => p.1 == 41)

/-- The unit number of UNIT and INDEX, in unit order (Table 07-4). -/
def unitNo (unit index : Nat) : Nat :=
  if unit = 0 then index else if unit = 1 then 8 + index else if unit = 2 then 24 + index
  else if unit = 3 then 40 else if unit = 4 then 41 else 42

/-- Number of units. -/
def unitCount : Nat := 43

/-- The unit of a context's task; WINDOW tasks run where they are dispatched. -/
def State.ctxUnit (s : State) (n : Nat) : Nat :=
  unitNo (s.fld (SCHED_CTX_STATE_UNIT.nth n)) (s.fld (SCHED_CTX_STATE_INDEX.nth n))

/-- The context RUNNING on a unit. -/
def State.unitCtx (s : State) (u : Nat) : Option Nat := mapGet (fun _ => none) (s.sched.running.map fun p => (p.1, some p.2)) u

/-- The unit a context runs on. -/
def State.ctxRunsOn (s : State) (n : Nat) : Option Nat := (s.sched.running.find? fun p => p.2 == n).map fun p => p.1

/-! The trace (R257 to R259). -/

/-- KIND codes of Table 07-7. -/
def tkInsert : Nat := 0
def tkWake : Nat := 1
def tkReady : Nat := 2
def tkDispatch : Nat := 3
def tkComplete : Nat := 4
def tkCancel : Nat := 5
def tkAbort : Nat := 6
def tkFault : Nat := 7
def tkSubmit : Nat := 8
def tkRelease : Nat := 9

/-- Whether a decision passes the filters of R258. -/
def State.traced (s : State) (kind : Nat) (void : Bool) (ctx : Nat) : Bool :=
  s.bit TRACE_CTRL_EN && (s.fld TRACE_KIND_MASK_KINDS).testBit kind &&
    decide (s.fld TRACE_CTX_RANGE_CTX_LO ≤ ctx ∧ ctx ≤ s.fld TRACE_CTX_RANGE_CTX_HI) &&
    decide (s.fld TRACE_FILTER_PRIO_MIN ≤ s.ctxPrio ctx) &&
    (s.fld TRACE_FILTER_UNIT_MASK).testBit (s.fld (SCHED_CTX_STATE_UNIT.nth ctx)) &&
    (!void || s.bit TRACE_CTRL_VOID_EN)

/-- Word 1 of a trace record (Table 07-7), DROPPED apart. -/
def State.traceWord (s : State) (kind : Nat) (void sw : Bool) (ctx arg : Nat) : Nat :=
  kind + (if void then 2 ^ 4 else 0) + (if sw then 2 ^ 5 else 0) + ctx * 2 ^ 8 + s.ctxPrio ctx * 2 ^ 16 +
    s.fld (SCHED_CTX_STATE_UNIT.nth ctx) * 2 ^ 20 + s.fld (SCHED_CTX_STATE_INDEX.nth ctx) * 2 ^ 24 +
    s.ctxState ctx * 2 ^ 32 + arg % 2 ^ 16 * 2 ^ 40

/-- A decision is traced: it takes a sequence number, and its record waits for FIFO2 or is dropped. -/
def State.trace (s : State) (kind : Nat) (void sw : Bool) (ctx arg : Nat) : State :=
  if s.traced kind void ctx then
    let s1 := s.incFld TRACE_NEXT_SEQ_SEQ 1
    if 32 ≤ s.sched.trace.length then
      let s2 := ((s1.incFld TRACE_DROP_COUNT_COUNT 1).modSched fun x => { x with dropped := x.dropped + 1 }).incFld
        (FIFO_DEV_DROP_COUNT_COUNT.inst 2) 1
      s2.raise 0x42 11 (s2.fld (FIFO_DEV_DROP_COUNT_COUNT.inst 2))
    else
      let w0 := BitVec.ofNat 64 (s.fld TRACE_NEXT_SEQ_SEQ + s.st32 * 2 ^ 32)
      let w1 := BitVec.ofNat 64 (s.traceWord kind void sw ctx arg + min s.sched.dropped 255 * 2 ^ 56)
      s1.modSched fun x => { x with trace := x.trace ++ [(w0, w1)], dropped := 0 }
  else s

/-! Decisions. -/

/-- `s` with STATE and END_CAUSE of a context set. -/
def State.setCtxState (s : State) (n st cause : Nat) : State :=
  (s.setFld (SCHED_CTX_STATE_STATE.nth n) st).setFld (SCHED_CTX_STATE_END_CAUSE.nth n) cause

/-- A context leaves the delay list, its ready level and its unit. -/
def State.unlist (s : State) (n : Nat) : State :=
  s.modSched fun x => { x with
    delay := x.delay.filter fun k => k != n
    ready := mapSet (fun _ => []) x.ready (s.ctxPrio n) ((mapGet (fun _ => []) x.ready (s.ctxPrio n)).filter fun k => k != n)
    running := x.running.filter fun p => p.2 != n }

/-- A task enters its ready level, behind those already there. -/
def State.makeReady (s : State) (n : Nat) : State :=
  let l := s.level (s.ctxPrio n)
  (((s.setCtxState n csReady 0).setLevel (s.ctxPrio n) (l ++ [n])).trace tkReady false false n l.length)

/-- A write of one descriptor word through port S with class 3; in a bank no longer owned by SCHED it is
foreign and discarded (R240). One in a borrowed segment is counted as stalled (R231). -/
def State.schedWrite (s : State) (addr word : Nat) (v : Nat) : Bool × State :=
  let b := natBits addr 18 5
  let off := natBits addr 0 18 + 8 * word
  let t := s.stallServed b off 3
  if ownerAdmits (s.owner b) .sched then (true, t.sWrite b off (BitVec.allOnes 64) (BitVec.ofNat 64 v) 3)
  else (false, t.foreign b off 3 true)

/-- Word 7 of the descriptor at the end of a task (Table 07-2, R240). -/
def State.writeStatus (s : State) (n st cause result : Nat) : State :=
  let r := s.schedWrite (s.ctxDesc n) 7 (st + cause * 2 ^ 4 + result % 2 ^ 16 * 2 ^ 8 + s.st32 * 2 ^ 32)
  if r.1 then r.2 else r.2.raise 5 11 n

/-! Software commands (R247, R256). -/

/-- OP codes of TASK_CMD. -/
def opSubmit : Nat := 1
def opCancel : Nat := 2
def opAbort : Nat := 3
def opRelease : Nat := 4

/-- CMD_RESULT of a requester (R256): reset DECIDED 1. -/
def State.cmdResult (s : State) (q : Nat) : Word := mapGet (fun _ => 0x80000000#32) s.sched.results q

/-- The outcome of a requester's last TASK_CMD. -/
def State.setResult (s : State) (q ctx op code : Nat) (decided : Bool) : State :=
  let v : Word := BitVec.ofNat 32 (ctx + op * 2 ^ 8 + code * 2 ^ 12 + (if decided then 2 ^ 31 else 0))
  s.modSched fun x => { x with results := mapSet (fun _ => 0x80000000#32) x.results q v }

/-- The trace KIND of a software command. -/
def opKind (op : Nat) : Nat :=
  if op = opSubmit then tkSubmit else if op = opCancel then tkCancel else if op = opAbort then tkAbort else tkRelease

/-- A software command is void (R247): reported, raised and traced with `arg`. -/
def State.cmdVoid (s : State) (q ctx op code arg : Nat) : State :=
  ((s.setResult q ctx op code true).raise 5 9 (ctx + op * 2 ^ 8 + code * 2 ^ 12 + q * 2 ^ 16)).trace
    (opKind op) true true ctx arg

/-- The outcome of an ABORT a unit has decided reaches CMD_RESULT while it is its requester's last command (R256). -/
def State.abortResult (s : State) (q n code : Nat) : State :=
  if s.cmdResult q = BitVec.ofNat 32 (n + opAbort * 2 ^ 8) then s.setResult q n opAbort code true else s

/-- An ABORT before a unit's commit arbiter is void (R251). -/
def State.voidAbort (s : State) (q n code : Nat) : State :=
  ((s.abortResult q n code).raise 5 9 (n + opAbort * 2 ^ 8 + code * 2 ^ 12 + q * 2 ^ 16)).trace tkAbort true true n 0

/-- The aborts of a unit whose task ends otherwise than by them are decided void (R247, R251). -/
def State.voidAborts (s : State) (u n st : Nat) : State :=
  let l := s.sched.aborts.filter fun p => p.1 == u
  l.foldl (fun t p => t.voidAbort p.2 n (if st = csDone then 2 else 1))
    (s.modSched fun x => { x with aborts := x.aborts.filter fun p => p.1 != u })

/-- One task ends, its waiters apart: the descriptor's word 7, the events and, where a SUBMIT has read END_REC,
the record (R239, R247; log entry 16). -/
def State.endOne (s : State) (n st cause result : Nat) : State :=
  let submitted := decide (s.ctxState n ≠ csDormant)
  let u := s.ctxRunsOn n
  let s1 := (s.unlist n).setCtxState n st cause
  let s2 := match u with
    | some k => (s1.modSched fun x => { x with
        params := mapSet (fun _ => []) x.params k []
        scMoved := mapSet (fun _ => 0) x.scMoved k 0
        commit := x.commit.filter fun j => j != k }).voidAborts k n st
    | none => s1
  let s3 := s2.writeStatus n st cause result
  let s4 := if st = csFaulted then s3.raise 5 8 (n + cause * 2 ^ 8 + result % 2 ^ 16 * 2 ^ 12) else s3
  if submitted ∧ (s.ctx n).w0.testBit 56 ∧ s.bit SCHED_CTRL_END_REC_EN then
    s4.recordOnly 5 0x20 (n + st * 2 ^ 8 + cause * 2 ^ 12 + result % 2 ^ 16 * 2 ^ 16)
  else s4

/-- START and WAIT_ARG of a context's word 0 (Table 07-2). -/
def Ctx.start (c : Ctx) : Nat := natBits c.w0 9 3
def Ctx.waitArg (c : Ctx) : Nat := natBits c.w0 16 8

/-- The BLOCKED contexts that wait for context `n` (R248), ascending (log entry 16). -/
def State.waiters (s : State) (n : Nat) : List Nat :=
  (List.range 256).filter fun k => s.ctxState k == csBlocked && (s.ctx k).start == 2 && (s.ctx k).waitArg == n

/-- A wait is met (Table 07-3): the task is READY, by a WAKE and a READY decision. -/
def State.waitMet (s : State) (k : Nat) : State :=
  ((s.setCtxState k csReady 0).trace tkWake false false k 0).makeReady k

/-- A task ends (R247); a wait result for each task that waits on it is pending (R248): met where it is DONE, failed
where it is CANCELLED or FAULTED. `kind` and `arg` are those of the trace record. -/
def State.endTask (s : State) (n st cause result kind arg : Nat) (sw : Bool) : State :=
  let s1 := (s.endOne n st cause result).trace kind false sw n arg
  s1.modSched fun x => { x with waits := x.waits ++ (s1.waiters n).map fun k => (k, st == csDone) }

/-- A fault of a RUNNING task is taken (Table 07-3). -/
def State.faultTask (s : State) (n cause result : Nat) : State := s.endTask n csFaulted cause result tkFault cause false

/-- A wait result or a wake of a cancelled context is taken void (R250). -/
def State.wakeVoid (s : State) (k arg : Nat) : State :=
  (s.modSched fun x => { x with voids := x.voids.erase k, delay := x.delay.filter fun j => j != k }).trace tkWake true false k arg

/-- Class 4: one wait result (R248, R249). -/
def State.takeWait (s : State) : State :=
  match s.sched.waits with
  | [] => s
  | (k, met) :: t =>
    let s1 := s.modSched fun x => { x with waits := t }
    if s.ctxState k = csBlocked then (if met then s1.waitMet k else s1.endTask k csCancelled ecDep 0 tkCancel 0 false)
    else if s.sched.voids.contains k then s1.wakeVoid k 0
    else s1

/-- Wait results are taken until none is pending, `n` at most. -/
def State.takeWaitsN (s : State) (n : Nat) : State :=
  match n with
  | 0 => s
  | k + 1 => if s.sched.waits.isEmpty then s else s.takeWait.takeWaitsN k

/-- All wait results pending; a failed wait adds those of its own waiters. -/
def State.takeWaits (s : State) : State := s.takeWaitsN (256 + s.sched.waits.length)

/-! The order at the arbiter (R249). -/

/-- The entry of the lowest unit. -/
def minUnit {α : Type} (l : List (Nat × α)) : Option (Nat × α) :=
  l.foldl (fun m p => match m with | none => some p | some q => if p.1 < q.1 then some p else some q) none

/-- Class 1: one fault report, lowest unit first. -/
def State.takeFault (s : State) : State :=
  match minUnit s.sched.faults with
  | none => s
  | some (u, cause, result) =>
    let s1 := s.modSched fun x => { x with faults := x.faults.filter fun p => p.1 != u }
    match s.unitCtx u with
    | some n => s1.faultTask n cause result
    | none => s1

/-- All fault reports pending. -/
def State.takeFaults (s : State) : State := (List.range s.sched.faults.length).foldl (fun t _ => t.takeFault) s

/-- Class 2: one completion, lowest unit first. -/
def State.takeDone (s : State) : State :=
  match minUnit s.sched.done with
  | none => s
  | some (u, result) =>
    let s1 := s.modSched fun x => { x with done := x.done.filter fun p => p.1 != u }
    match s.unitCtx u with
    | some n => s1.endTask n csDone 0 result tkComplete result false
    | none => s1

/-- All requests of classes 1 and 2. -/
def State.takeReports (s : State) : State :=
  let s1 := s.takeFaults
  (List.range s1.sched.done.length).foldl (fun t _ => t.takeDone) s1

/-- A due task leaves the delay list for its ready level (R254). -/
def State.wake (s : State) (n : Nat) : State :=
  let s1 := s.modSched fun x => { x with delay := x.delay.filter fun k => k != n }
  let s2 := s1.setCtxState n csReady 0
  (s2.trace tkWake false false n (s.ctx n).wake).makeReady n

/-- A tick mark advances TICK_NOW and wakes the due tasks in list order (R253 to R255); a wake that was pending when
its task was cancelled is void (R250). -/
def State.tickPass (s : State) (n : Nat) : State :=
  let t0 := s.fld SCHED_TICK_NOW_TICKS
  let due := s.sched.delay.filter fun k => decide (((s.ctx k).wake + 2 ^ 32 - t0) % 2 ^ 32 ≤ n)
  due.foldl (fun t k => if t.ctxState k = csDelayed then t.wake k else t.wakeVoid k (t.ctx k).wake)
    (s.incFld SCHED_TICK_NOW_TICKS n)

/-- A wait on a mark is met: the BLOCKED tasks with START `st` (and trigger `arg` where one is named). -/
def State.releaseWait (s : State) (st : Nat) (arg : Option Nat) : State :=
  ((List.range 256).filter fun k => (s.ctxState k == csBlocked || s.sched.voids.contains k) && (s.ctx k).start == st &&
    (match arg with | some a => (s.ctx k).waitArg % 64 == a | none => true)).foldl
    (fun t k => if t.ctxState k = csBlocked then t.waitMet k else t.wakeVoid k 0) s

/-- Class 4: one mark, in arrival order. -/
def State.takeMark (s : State) : State :=
  match s.marks with
  | [] => s
  | m :: t =>
    let s1 := { s with marks := t }
    match m with
    | .transit _ => s1.releaseWait 3 none
    | .trigger n => s1.releaseWait 4 (some n)
    | .tick n => s1.tickPass n

/-- All requests of classes 1, 2 and 4. -/
def State.takeMarks (s : State) : State :=
  let s1 := s.takeReports.takeWaits
  (List.range s1.marks.length).foldl (fun t _ => t.takeMark) s1

/-- The marks up to and including the first that `p` admits; nothing where none is pending. -/
def State.takeUpTo (s : State) (p : Mark → Bool) : State :=
  match s.marks.findIdx? p with
  | none => s
  | some i => (List.range (i + 1)).foldl (fun t _ => t.takeMark) s.takeReports.takeWaits

/-! The software commands at the arbiter. -/

/-- An operation outside the table of OPs (R256). -/
def State.cmdBadOp (s : State) (q ctx op : Nat) : State :=
  (s.setResult q ctx op 7 true).raise 5 9 (ctx + op * 2 ^ 8 + 7 * 2 ^ 12 + q * 2 ^ 16)

/-- Whether the task state accepts a SUBMIT (Table 07-3). -/
def takesSubmit (st : Nat) : Bool := st == csDormant || st == csDone || st == csCancelled || st == csFaulted

/-- Whether the service slot `k` has WINDOW and SC units (R246). -/
def State.slotExists (s : State) (k : Nat) : Bool :=
  (match s.plan.active with | some p => decide (k < p.slots.length) | none => false) &&
    (s.fld (PLAN_SLOT_STATE.nth k) == 1 || s.fld (PLAN_SLOT_STATE.nth k) == 2)

/-- Whether words 0 and 1 keep Table 07-2 and the units' chapters (R240, R422, R344, R280, R466). -/
def State.descOk (s : State) (n w0 w1 : Nat) : Bool :=
  let unit := natBits w0 0 4
  let index := natBits w0 4 5
  let start := natBits w0 9 3
  natBits w0 12 4 == 0 && natBits w0 48 8 == 0 && natBits w0 57 7 == 0 && decide (start ≤ 4) &&
    (start != 2 || natBits w0 16 8 != n) &&
    (if unit = 0 then
      decide (index < 8) && s.slotExists index && natBits w1 29 3 == 0 && natBits w1 48 16 == 0 && natBits w1 32 16 != 0
    else if unit = 1 then decide (index < 16) && s.slotExists (index / 2) && w1 == 0
    else if unit = 2 then
      decide (index < 16) && s.act (DMX_CTRL_ROLE.inst index) == 1 && natBits w1 2 62 == 0 && natBits w1 0 2 != 3
    else if unit = 3 then
      index == 0 && natBits w1 9 55 == 0 && decide (natBits w1 5 3 ≤ 4) && decide (natBits w1 0 5 ≤ 24) &&
        (!(natBits w1 5 3 == 2 || natBits w1 5 3 == 3) || decide (20 ≤ natBits w1 0 5 ∧ natBits w1 0 5 ≤ 23))
    else if unit = 4 then index == 0 && natBits w1 23 41 == 0 && decide (1 ≤ natBits w1 0 5 ∧ natBits w1 0 5 ≤ 17)
    else if unit = 5 then index == 0 && natBits w1 9 55 == 0 && natBits w1 2 2 == 0
    else false)

/-- The state a SUBMIT gives by START (R247, R248). -/
def State.submitState (s : State) (c : Ctx) : Nat :=
  if c.start = 0 then csReady else if c.start = 1 then csDelayed
  else if c.start = 2 then
    let st := s.ctxState c.waitArg
    if st = csDone then csReady else if st = csFree ∨ st = csCancelled ∨ st = csFaulted then csCancelled else csBlocked
  else csBlocked

/-- A task takes its state by START (R247, R248, R254). -/
def State.startTask (s : State) (n : Nat) : State :=
  let c := s.ctx n
  if c.start = 0 then s.makeReady n
  else if c.start = 1 then
    let d := natBits c.w0 24 24
    let t0 := s.fld SCHED_TICK_NOW_TICKS
    let wake := (t0 + (if d = 0 then 2 ^ 24 else d)) % 2 ^ 32
    let rem (k : Nat) : Nat := ((s.ctx k).wake + 2 ^ 32 - t0) % 2 ^ 32
    let r := (wake + 2 ^ 32 - t0) % 2 ^ 32
    let s1 := (s.setCtx n { c with wake := wake }).setCtxState n csDelayed 0
    let s2 := s1.modSched fun x => { x with
      delay := (x.delay.takeWhile fun k => decide (rem k ≤ r)) ++ [n] ++ x.delay.dropWhile fun k => decide (rem k ≤ r) }
    s2.trace tkInsert false false n wake
  else if c.start = 2 then
    let st := s.ctxState c.waitArg
    if st = csDone then s.makeReady n
    else if st = csFree ∨ st = csCancelled ∨ st = csFaulted then
      (s.setCtxState n csBlocked 0).endTask n csCancelled ecDep 0 tkCancel 0 false
    else s.setCtxState n csBlocked 0
  else s.setCtxState n csBlocked 0

/-- SUBMIT at the dispatch arbiter, from requester `q` (R239, R240, R247). -/
def State.cmdSubmit (s0 : State) (q n : Nat) : State :=
  let s := s0.takeMarks
  if takesSubmit (s.ctxState n) then
    let a := s.ctxDesc n
    let b := natBits a 18 5
    let off := natBits a 0 18
    let s' := s.stallServed b off 3
    if ¬ ownerAdmits (s.owner b) .sched then (s.cmdVoid q n opSubmit 5 0).schedSync
    else
      let r0 := s'.sRead b off 3
      let r1 := r0.2.2.sRead b (off + 8) 3
      let start := if r0.2.1 then 0 else natBits r0.1.toNat 9 3
      if r0.2.1 ∨ r1.2.1 then (r1.2.2.cmdVoid q n opSubmit 6 start).schedSync
      else if ¬ s.descOk n r0.1.toNat r1.1.toNat then (r1.2.2.cmdVoid q n opSubmit 4 start).schedSync
      else
        let w0 := r0.1.toNat
        let c : Ctx := ⟨w0, r1.1.toNat, 0⟩
        let s1 := (r1.2.2.setCtx n c).setCtxState n (r1.2.2.submitState c) 0
        let s2 := (s1.setFld (SCHED_CTX_STATE_UNIT.nth n) (natBits w0 0 4)).setFld
          (SCHED_CTX_STATE_INDEX.nth n) (natBits w0 4 5)
        let s3 := (s2.setResult q n opSubmit 0 true).trace tkSubmit false true n (natBits w0 9 3)
        (s3.startTask n).takeWaits.schedSync
  else (s.cmdVoid q n opSubmit 1 0).schedSync

/-- Whether a wake or a wait result of context `n` is pending at the arbiter (R250). -/
def State.wakePending (s : State) (n : Nat) : Bool :=
  let c := s.ctx n
  let ticks := s.marks.filterMap fun m => match m with | .tick k => some k | _ => none
  if s.ctxState n = csDelayed then
    !ticks.isEmpty && decide ((c.wake + 2 ^ 32 - s.fld SCHED_TICK_NOW_TICKS) % 2 ^ 32 ≤ ticks.sum)
  else if s.ctxState n = csBlocked then
    if c.start = 2 then s.sched.waits.any fun p => p.1 == n
    else s.marks.any fun m => match m with
      | .transit _ => c.start == 3
      | .trigger k => c.start == 4 && c.waitArg % 64 == k
      | .tick _ => false
  else false

/-- A waiting task ends CANCELLED by a CANCEL or an ABORT; its wake or wait result, if pending, is still to be taken,
void (R250). -/
def State.endBySoft (s : State) (n cause kind : Nat) : State :=
  let t := s.endTask n csCancelled cause 0 kind 0 true
  if s.wakePending n then
    t.modSched fun x => if s.ctxState n = csDelayed then { x with delay := s.sched.delay } else { x with voids := x.voids ++ [n] }
  else t

/-- The requests for a context that were pending with its CANCEL or ABORT are taken after it, by class, and are void
(R250): `l` gives their trace KIND and the requester; marks and wait results pending are shown by the state. -/
def State.voidTogether (s : State) (n : Nat) (l : List (Nat × Nat)) : State :=
  if l.isEmpty then s.takeWaits.schedSync
  else
    let s1 := l.foldl (fun t p =>
      if p.1 = tkSubmit then t.cmdVoid p.2 n opSubmit 1 0
      else if p.1 = tkRelease then t.cmdVoid p.2 n opRelease 1 0 else t) s.takeMarks
    (l.foldl (fun t p => if p.1 = tkDispatch then t.trace tkDispatch true false n 0 else t) s1).schedSync

/-- CANCEL (R247): a task not RUNNING ends CANCELLED. -/
def State.cmdCancel (s0 : State) (q n : Nat) (together : List (Nat × Nat)) : State :=
  let s := s0.takeReports
  let st := s.ctxState n
  let s1 :=
    if st = csRunning then s.cmdVoid q n opCancel 3 0
    else if st = csDormant ∨ st = csDelayed ∨ st = csReady ∨ st = csBlocked then
      (s.setResult q n opCancel 0 true).endBySoft n ecCancel tkCancel
    else s.cmdVoid q n opCancel 1 0
  s1.voidTogether n together

/-- ABORT (R247, R251): of a RUNNING task it goes to the unit's commit arbiter. -/
def State.cmdAbort (s0 : State) (q n : Nat) (together : List (Nat × Nat)) : State :=
  let s := s0.takeReports
  let st := s.ctxState n
  let s1 :=
    if st = csRunning then
      match s.ctxRunsOn n with
      | some u => (s.setResult q n opAbort 0 false).modSched fun x => { x with aborts := x.aborts ++ [(u, q)] }
      | none => s
    else if st = csDormant ∨ st = csDelayed ∨ st = csReady ∨ st = csBlocked then
      (s.setResult q n opAbort 0 true).endBySoft n ecAbort tkAbort
    else s.cmdVoid q n opAbort (if st = csDone then 2 else 1) 0
  s1.voidTogether n together

/-- RELEASE (R247). -/
def State.cmdRelease (s0 : State) (q n : Nat) : State :=
  let s := s0.takeMarks
  let st := s.ctxState n
  if takesSubmit st then
    ((s.setCtxState n csFree (s.fld (SCHED_CTX_STATE_END_CAUSE.nth n))).setResult q n opRelease 0 true |>.trace
      tkRelease false true n 0).schedSync
  else (s.cmdVoid q n opRelease 1 0).schedSync

/-- A TASK_CMD of requester `q` with an OP of Table 07-5. -/
def State.taskCmd (s : State) (q n op : Nat) (together : List (Nat × Nat)) : State :=
  if op = opSubmit then s.cmdSubmit q n
  else if op = opCancel then s.cmdCancel q n together
  else if op = opAbort then s.cmdAbort q n together
  else if op = opRelease then s.cmdRelease q n
  else s.cmdBadOp q n op

/-- A write of SCHED.TASK_CMD by a register requester. -/
def State.writeTaskCmd (s : State) (q : Req) (n op : Nat) (together : List (Nat × Nat)) : State :=
  s.write q 5 0x040 (BitVec.ofNat 32 (n % 256 + op % 16 * 256)) fun t => t.taskCmd (reqCode q) (n % 256) (op % 16) together

/-- A write of SCHED.CTX_CFG_n (R238). -/
def State.writeCtxCfg (s0 : State) (n : Nat) (v : Word) : State :=
  let s := s0.takeMarks
  let st := s.ctxState n
  if st = csFree ∨ takesSubmit st then
    let s1 := ((s.setFld (SCHED_CTX_CFG_DESC_ADDR.nth n) (natBits v.toNat 6 17 * 64)).setFld
      (SCHED_CTX_CFG_PRIO.nth n) (natBits v.toNat 24 4))
    (s1.setFld (SCHED_CTX_STATE_STATE.nth n) csDormant).schedSync
  else (s.raise 5 12 n).schedSync

/-! Dispatch (R243, R249). -/

/-- Words 2 to 6 of a descriptor as the unit reads them at dispatch; `false` where the bank is no longer
owned by SCHED or a word is uncorrectable (R239, R240). -/
def State.readParams (s : State) (n : Nat) : List Nat × Bool × State :=
  let a := s.ctxDesc n
  let b := natBits a 18 5
  let off := natBits a 0 18
  let t := s.stallServed b off 3
  if ownerAdmits (s.owner b) .sched then
    (List.range 5).foldl (fun r i =>
      let w := r.2.2.sRead b (off + 16 + 8 * i) 3
      (r.1 ++ [w.1.toNat], r.2.1 && !w.2.1, w.2.2)) ([], true, t)
  else ([0, 0, 0, 0, 0], false, t.foreign b (off + 16) 3 false)

/-- A task is dispatched on unit `u`: RUNNING, counted, traced with `arg`; a lost descriptor ends it, an HDMA task
with BYTES_DONE 0 written (R280). -/
def State.dispatchOn (s : State) (n u arg : Nat) : State :=
  let s1 := (s.unlist n).setCtxState n csRunning 0
  let s2 := (s1.incFld (SCHED_CTX_STATE_RUNS.nth n) 1).modSched fun x =>
    { x with running := (x.running.filter fun p => decide (p.1 < u)) ++ [(u, n)] ++ x.running.filter fun p => decide (u < p.1) }
  let r := (s2.trace tkDispatch false false n arg).readParams n
  let s3 := r.2.2.modSched fun x => { x with params := mapSet (fun _ => []) x.params u r.1 }
  if ¬ r.2.1 then
    let s4 := (if u = 42 then (s3.schedWrite (s3.ctxDesc n) 6 0).2 else s3).faultTask n ecDesc 0
    if 24 ≤ u ∧ u < 40 then (s4.rdmFailed (u - 24) n (s4.freeVal % 16)).takeFree else s4
  else if 24 ≤ u ∧ u < 40 ∧ s3.rdmNoGap (u - 24) (natBits (s.ctx n).w1 0 2) r.1 then
    (s3.faultTask n ecUnit roNoGap).rdmFailed (u - 24) n roNoGap
  else if u = 40 then s3.calDispatched (s.ctx n).w1
  else s3

/-- READY tasks from the highest level down, oldest first. -/
def State.readyOrder (s : State) : List Nat := (List.range 16).flatMap fun i => s.level (15 - i)

/-- The task a free unit other than WINDOW takes. -/
def State.candidate (s : State) (u : Nat) : Option Nat :=
  s.readyOrder.find? fun n => s.fld (SCHED_CTX_STATE_UNIT.nth n) != 0 && s.ctxUnit n == u

/-- Class 6: one task for each free unit, in unit order (Table 07-4). -/
def State.dispatchPass (s0 : State) : State :=
  let s := s0.takeMarks
  if s.bit SCHED_CTRL_DISPATCH_EN then
    ((List.range unitCount).foldl (fun t u =>
      if (t.unitCtx u).isSome ∨ (u = 40 ∧ t.cal.step.isSome) then t
      else match t.candidate u with | some n => t.dispatchOn n u 0 | none => t) s).takeWaits.schedSync
  else s.schedSync

/-- The task a window of slot `k`, number `win`, with `left` steps is answered with (R243). -/
def State.windowCandidate (s : State) (k win left : Nat) : Option Nat :=
  s.readyOrder.find? fun n =>
    let w1 := (s.ctx n).w1
    s.fld (SCHED_CTX_STATE_UNIT.nth n) == 0 && (natBits w1 0 8).testBit k &&
      (natBits w1 8 7 == win || w1.testBit 15) && decide (natBits w1 32 16 + 8 ≤ left)

/-- A kernel starts in the window of engine `e`: its first bundle is next, both loop levels empty. -/
def State.startKernel (s : State) (e n : Nat) (w : Window) : State :=
  let w1 := (s.ctx n).w1
  s.modEng e fun x => { x with
    window := some { w with asked := false, kernel := some ⟨n, natBits w1 32 16, s.ctxDesc n⟩ }
    pc := natBits w1 16 13
    loops := []
    branch := none
    inDelay := false }

/-- The padding steps a window takes while the scheduler answers. -/
def State.padSteps (s : State) (e n : Nat) : State :=
  match n with
  | 0 => s
  | k + 1 => (s.padStep e).padSteps e k

/-- Window dispatch (R243): the answer is decided with the steps left now, the engine takes it `delay`
steps later and starts the kernel only if its bound still fits. Once it is answered, the engine asks again only after a
kernel's end. -/
def State.windowAnswer (s0 : State) (e delay : Nat) (w : Window) : State :=
  let s := s0.takeMarks
  let k := s.engSlot e
  if s.bit SCHED_CTRL_DISPATCH_EN ∧ (s.unitCtx k).isNone then
    match s.windowCandidate k w.win w.left with
    | none => s.schedSync
    | some n =>
      let s1 := (s.modEng e fun x => { x with window := some { w with asked := false } }).padSteps e (min delay w.left)
      match (s1.eng e).window with
      | none => s1.schedSync
      | some w' =>
        if s1.engState e ≠ esWindow then s1.schedSync
        else if natBits (s.ctx n).w1 32 16 ≤ w'.left then
          let s2 := s1.dispatchOn n k w.win
          (if s2.ctxState n = csRunning then s2.startKernel e n w' else s2).takeWaits.schedSync
        else ((s1.incFld SCHED_PASS_COUNT_COUNT 1).trace tkDispatch true false n w.win).schedSync
  else s.schedSync

/-! Stream tasks (R244). -/

/-- A stream descriptor from its four words (Table 05-4). -/
def descOfWords (w0 w1 w2 w3 : Nat) : Desc where
  dram := natBits w0 0 40
  baseSel := natBits w0 40 5
  toDram := w0.testBit 48
  bank := natBits w1 0 23
  rowLen := natBits w1 32 13
  rows := natBits w1 48 16 + 1
  stride := natSigned 32 (natBits w2 0 32)
  bankStride := natBits w2 32 12
  alt := natBits w3 0 40

/-- Whether the four words keep Table 05-4. -/
def descWordsOk (w0 w1 w2 w3 : Nat) : Bool :=
  natBits w0 0 6 == 0 && decide (natBits w0 40 5 ≤ 9) && natBits w0 45 3 == 0 && natBits w0 49 15 == 0 &&
    natBits w1 0 6 == 0 && natBits w1 23 9 == 0 && decide (1 ≤ natBits w1 32 13 ∧ natBits w1 32 13 ≤ 4096) &&
    natBits w1 45 3 == 0 && natBits w2 0 6 == 0 && natBits w2 44 20 == 0 && natBits w3 0 6 == 0 && natBits w3 40 24 == 0

/-- The engine that serves a slot (PLAN.SLOT_n). -/
def State.slotEngine (s : State) (k : Nat) : Nat := s.fld (PLAN_SLOT_ENGINE.nth k)

/-- Whether an SC task may move data now: an open window, no plan descriptor outstanding. -/
def State.scTaskMoves (s : State) (k c : Nat) : Bool :=
  let e := s.slotEngine k
  s.engState e == esWindow && (((s.eng e).chan c).queue.isEmpty)

/-- Bursts of the transfer of an SC task: the bank side is checked against SCHED (R244). An access that is
not admitted is foreign and discarded (R219). -/
def State.runTaskBursts (s : State) (d : Desc) (l : List (Nat × Int)) : State :=
  let bank := natBits d.bank 18 5
  l.foldl (fun t q =>
    let u := t.stallServed bank q.1 3
    if ¬ ownerAdmits (t.owner bank) .sched then u.foreign bank q.1 3 (!d.toDram)
    else if 0 ≤ q.2 ∧ t.inDram q.2.toNat 64 then u.burst d.toDram bank q.1 q.2.toNat 3
    else u) s

/-- Words 2 to 6 of the task running on a unit. -/
def State.unitParams (s : State) (u : Nat) : List Nat := mapGet (fun _ => []) s.sched.params u

/-- The descriptor of the stream task running on unit `u`: it must name ABSOLUTE and keep Table 05-4. -/
def State.scTask (s : State) (u : Nat) : Option Desc :=
  let p := s.unitParams u
  let w (i : Nat) : Nat := p.getD i 0
  if (s.unitCtx u).isSome ∧ descWordsOk (w 0) (w 1) (w 2) (w 3) ∧ natBits (w 0) 40 5 = 0 then
    some (descOfWords (w 0) (w 1) (w 2) (w 3))
  else none

/-- The bursts of a stream task's transfer that have not moved yet. -/
def State.scLeft (s : State) (u : Nat) (d : Desc) : List (Nat × Int) :=
  (descBursts d d.dram).drop (mapGet (fun _ => 0) s.sched.scMoved u)

/-- The next `n` bursts of a stream task's transfer move. -/
def State.scAdvance (s : State) (u n : Nat) (d : Desc) : State :=
  (s.runTaskBursts d ((s.scLeft u d).take n)).modSched fun x => { x with
    scMoved := mapSet (fun _ => 0) x.scMoved u (mapGet (fun _ => 0) x.scMoved u + n) }

/-- A stream task's transfer stops at a burst boundary (R244, R246): how many of its bursts, short of the last, have
moved in the window that closes is a free value. -/
def State.scPause (s : State) (u : Nat) : State :=
  match s.scTask u with
  | none => s
  | some d =>
    let n := (s.scLeft u d).length
    if s.scTaskMoves ((u - 8) / 2) ((u - 8) % 2) ∧ n ≠ 0 then s.takeFree.scAdvance u (s.freeVal % n) d else s

/-- The stream tasks of slot `k` stop at a burst boundary. -/
def State.scPauses (s : State) (k : Nat) : State := (s.scPause (8 + 2 * k)).scPause (9 + 2 * k)

/-- A stream task completes (R244): the rest of its transfer has moved; a descriptor that breaks Table 05-4 is a fault
of the unit. -/
def State.finishSc (s : State) (u : Nat) : State :=
  match s.scTask u with
  | some d => (s.scAdvance u (s.scLeft u d).length d).modSched fun x => { x with done := x.done ++ [(u, 0)] }
  | none => s.modSched fun x => { x with faults := x.faults ++ [(u, ecUnit, 0)] }

/-! Units that stop existing (R245, R246). -/

/-- A take-over retires the engine of slot `k`: what runs on its units ends FAULTED, UNIT_LOST. -/
def State.unitsLost (s : State) (k : Nat) : State :=
  ([k, 8 + 2 * k, 9 + 2 * k].foldl (fun t u =>
    match t.unitCtx u with | some n => t.faultTask n ecLost 0 | none => t) (s.scPauses k)).schedSync

/-- Whether a context holds a WINDOW or SC task of slot `k`: it runs on the slot's unit, or waits and its
INDEX names that unit (R246; log entry 16). -/
def State.taskOfSlot (s : State) (n k : Nat) : Bool :=
  let st := s.ctxState n
  let unit := s.fld (SCHED_CTX_STATE_UNIT.nth n)
  let index := s.fld (SCHED_CTX_STATE_INDEX.nth n)
  let waits := st == csDelayed || st == csReady || st == csBlocked
  (unit == 0 && (s.ctxRunsOn n == some k || (waits && index == k))) ||
    (unit == 1 && (waits || st == csRunning) && index / 2 == k)

/-- A slot is LOST: every WINDOW and SC task of it ends FAULTED, UNIT_LOST (R246). -/
def State.slotTasksLost (s : State) (k : Nat) : State :=
  (((List.range 256).filter fun n => s.taskOfSlot n k).foldl (fun t n => t.faultTask n ecLost 0)
    (s.scPauses k)).schedSync

/-- Whether a switch to a plan of `slots` slots ends the task of a context (R245, R246). -/
def State.switchEnds (s : State) (slots n : Nat) : Bool :=
  let st := s.ctxState n
  let unit := s.fld (SCHED_CTX_STATE_UNIT.nth n)
  let gone := unit == 1 && decide (slots ≤ s.fld (SCHED_CTX_STATE_INDEX.nth n) / 2)
  ((st == csDelayed || st == csReady || st == csBlocked) && (unit == 0 || gone)) || (st == csRunning && gone)

/-- A switch is taken (R245, R246): waiting WINDOW tasks end CANCELLED; SC tasks of slots the new plan
does not use end too, a RUNNING one at a burst boundary. `slots` is the new SLOT_COUNT. -/
def State.planSwitched (s : State) (slots : Nat) : State :=
  let s1 := (List.range (8 - slots)).foldl (fun t i => t.scPauses (slots + i)) s
  (((List.range 256).filter fun n => s.switchEnds slots n).foldl (fun t n =>
    if s.ctxState n = csRunning then t.faultTask n ecLost 0 else t.endTask n csCancelled ecSwitch 0 tkCancel 0 false)
    s1).schedSync

/-! The meanings. -/

/-- CTX_CFG_WRITE (R238). -/
def execCtxCfgWrite (q : Req) (n : Nat) (v : Word) (s : State) : Host.Outcome State Fault Refusal :=
  .next (if n < 256 then s.write q 5 (0x400 + 8 * n) v fun t => t.writeCtxCfg n v else s)

/-- SUBMIT (R247) by a write of TASK_CMD. -/
def execSubmit (q : Req) (ctx : Nat) (s : State) : Host.Outcome State Fault Refusal :=
  .next (s.writeTaskCmd q ctx opSubmit [])

/-- CANCEL (R247, R250). -/
def execCancel (q : Req) (ctx : Nat) (together : List (Nat × Nat)) (s : State) : Host.Outcome State Fault Refusal :=
  .next (s.writeTaskCmd q ctx opCancel together)

/-- ABORT (R247, R251). -/
def execAbort (q : Req) (ctx : Nat) (together : List (Nat × Nat)) (s : State) : Host.Outcome State Fault Refusal :=
  .next (s.writeTaskCmd q ctx opAbort together)

/-- RELEASE (R247). -/
def execRelease (q : Req) (ctx : Nat) (s : State) : Host.Outcome State Fault Refusal :=
  .next (s.writeTaskCmd q ctx opRelease [])

/-- TASK_CMD_BAD_OP (R256). -/
def execTaskCmdBadOp (q : Req) (ctx op : Nat) (s : State) : Host.Outcome State Fault Refusal :=
  .next (if op = 0 ∨ 4 < op then s.writeTaskCmd q ctx op [] else s)

/-- TICK (R253 to R255): the arbiter takes the next tick mark. -/
def execTick (s : State) : Host.Outcome State Fault Refusal :=
  .next (s.takeUpTo (fun m => match m with | .tick _ => true | _ => false)).schedSync

/-- SCHED_TRANSIT_MARK (R248). -/
def execSchedTransitMark (s : State) : Host.Outcome State Fault Refusal :=
  .next (s.takeUpTo (fun m => match m with | .transit _ => true | _ => false)).schedSync

/-- SCHED_TRIGGER_MARK (R248). -/
def execSchedTriggerMark (s : State) : Host.Outcome State Fault Refusal :=
  .next (s.takeUpTo (fun m => match m with | .trigger _ => true | _ => false)).schedSync

/-- DISPATCH (R249). -/
def execDispatch (s : State) : Host.Outcome State Fault Refusal := .next s.dispatchPass

/-- WINDOW_DISPATCH (R243). -/
def execWindowDispatch (e delay : Nat) (s : State) : Host.Outcome State Fault Refusal :=
  match (s.eng e).window with
  | some w =>
    if s.engState e = esWindow ∧ w.kernel = none ∧ 0 < w.left ∧ w.asked then .next (s.windowAnswer e delay w) else .next s
  | none => .next s

/-- WINDOW_END (R164): the budget is used up; stream tasks of the slot stop at a burst boundary (R244). -/
def execWindowEnd (e : Nat) (s : State) : Host.Outcome State Fault Refusal :=
  match (s.eng e).window with
  | some w => if s.engState e = esWindow ∧ w.left = 0 then .next ((s.scPauses (s.engSlot e)).windowEnd e w) else .next s
  | none => .next s

/-- TASK_COMPLETE (R247): the arbiter takes the pending completion; a stream task reaches its commit
point with the transfer's last word. -/
def execTaskComplete (u : Nat) (s : State) : Host.Outcome State Fault Refusal :=
  let sc := decide (8 ≤ u ∧ u < 24) && (s.unitCtx u).isSome && !(s.sched.done.any fun p => p.1 == u) &&
    s.scTaskMoves ((u - 8) / 2) ((u - 8) % 2)
  let s1 := if sc then s.finishSc u else s
  .next (s1.takeReports).takeWaits.schedSync

/-- TASK_FAULTED (R247): the arbiter takes the pending fault report of the lowest unit. -/
def execTaskFaulted (s : State) : Host.Outcome State Fault Refusal := .next s.takeFault.takeWaits.schedSync

end Sys2Proof.Machine
end

