-- ==== Sys2Proof/Machine/Admit.lean ====
section
/-! DEFINITION. Frame rates, the speed monitor, the admission formula and adaptive core voltage (R34, R194 to R200, R205, R482, R483). -/

namespace Sys2Proof.Machine

open Sys2Proof

/-- Whether a committed rate is valid (R34). -/
def rateOk (num den : Nat) : Bool :=
  num != 0 && den != 0 && decide (24000 * den ≤ 1001 * num) && decide (num ≤ 240 * den)

/-- The frame period in ps, truncated (R197). -/
def periodPs (r : Nat × Nat) : Nat := 1000000000000 * r.2 / r.1

/-- Whether rate `a` is at most rate `b`. -/
def rateLe (a b : Nat × Nat) : Bool := decide (a.1 * b.2 ≤ b.1 * a.2)

/-- Whether a rate lies in a plan's range. -/
def PlanTabs.admits (p : PlanTabs) (r : Nat × Nat) : Bool := rateLe p.rateLo r && rateLe r p.rateHi

/-! Step time (R194 to R196). -/

/-- Table 05-7 in ps: one row per 50 mV from 600 mV, columns up to 25, 65 and 105 °C. -/
def cornerRows : List (Nat × Nat × Nat) :=
  [(2100, 2250, 2400), (1680, 1800, 1920), (1400, 1500, 1600), (1200, 1290, 1370), (1050, 1130, 1200),
   (940, 1010, 1070), (860, 920, 980)]

/-- A column of a row; `tj` in 1/16 °C. -/
def cornerCol (r : Nat × Nat × Nat) (tj : Int) : Nat := if tj ≤ 400 then r.1 else if tj ≤ 1040 then r.2.1 else r.2.2

/-- The Table 05-7 value as a fraction, numerator and denominator, in ps (R194). -/
def cornerFrac (mv : Nat) (tj : Int) : Nat × Nat :=
  let v := max 600 (min 900 mv)
  let i := min ((v - 600) / 50) 5
  let a := cornerCol (cornerRows.getD i (0, 0, 0)) tj
  let b := cornerCol (cornerRows.getD (i + 1) (0, 0, 0)) tj
  let base := a * 50 - (a - b) * (v - 600 - 50 * i)
  let hot := (tj - 1680).toNat
  (base * (1600 + hot), 50 * 1600)

/-- Rounded up to a whole ps (R194). -/
def cornerPs (mv : Nat) (tj : Int) : Nat :=
  let f := cornerFrac mv tj
  (f.1 + f.2 - 1) / f.2

/-- The guarded worst sample (R196). -/
def State.guardPs (s : State) : Nat := (s.fld SPEED_WORST_PS_PS * s.fld SPEED_GUARD_GUARD + 63) / 64

/-- The admission step time (R196). -/
def State.tAdm (s : State) : Nat := max s.guardPs (s.fld SPEED_CORNER_PS_PS)

/-- T_ADM_PS and STATUS.CORNER follow WORST_PS, GUARD and CORNER_PS (R196). -/
def State.speedSync (s : State) : State :=
  let c := decide (s.guardPs < s.fld SPEED_CORNER_PS_PS)
  let s1 := (s.setFld SPEED_T_ADM_PS_PS s.tAdm).setBit SPEED_STATUS_CORNER c
  if s.bit SPEED_STATUS_CORNER = c then s1 else s1.raise 13 9 (if c then 1 else 0)

/-! Admission (R197, R198). -/

/-- avail in ps (R197). -/
def PlanTabs.avail (p : PlanTabs) (rate : Nat × Nat) : Int :=
  let lead : Int := p.outputLead * 1000
  if p.stripe then (periodPs rate / p.stripes : Nat) - (p.stripeGuard * 1000 : Nat) - lead
  else (periodPs rate : Int) - lead

/-- A lap's term in ps. -/
def lapPs (t : Nat) (l : LapEnt) : Nat := l.steps * t + l.fence * 10000

/-- need of a run of laps (R198). -/
def needPs (laps : List LapEnt) (shed t : Nat) : Nat :=
  let run := (laps.filter fun l => lapRuns shed l).map (lapPs t)
  run.sum + run.foldl max 0 + 72 * t + 500000

/-- The laps of stripe `q` of a slot (R198). -/
def stripeLaps (x : SlotTab) (q : Nat) : List LapEnt :=
  ((List.range x.laps.length).filter fun k => stripeOf x k == q).filterMap fun k => x.laps[k]?

/-- Each slot's, or slot's and stripe's, need: slot, stripe, need (R198). -/
def PlanTabs.needs (p : PlanTabs) (shed t : Nat) : List (Nat × Nat × Nat) :=
  (p.slots.zip (List.range p.slots.length)).flatMap fun q =>
    if p.stripe then (List.range p.stripes).map fun k => (q.2, k, needPs (stripeLaps q.1 k) shed t)
    else [(q.2, 0, needPs q.1.laps shed t)]

/-- The largest need, the first of equal ones. -/
def PlanTabs.crit (p : PlanTabs) (shed t : Nat) : Nat × Nat × Nat :=
  (p.needs shed t).foldl (fun m q => if m.2.2 < q.2.2 then q else m) (0, 0, 0)

/-- margin in ps (R198). -/
def PlanTabs.margin (p : PlanTabs) (rate : Nat × Nat) (shed t : Nat) : Int :=
  p.avail rate - (p.crit shed t).2.2

/-- `pct` % of avail, truncated to whole ps. -/
def pctOf (avail : Int) (pct : Nat) : Int := avail * pct / 100

/-! Adaptive core voltage (R482, R483). -/

/-- `s` with the adaptive voltage changed by `f`. -/
def State.modAvs (s : State) (f : AvsS → AvsS) : State := { s with avs := f s.avs }

/-- Whether the block may command the regulator. -/
def State.avsOn (s : State) : Bool :=
  s.bit SPEED_AVS_CTRL_EN && !s.bit SPEED_AVS_CTRL_HOLD && !s.avs.failed && s.avs.format

/-- STEP_MV; 0 is taken as 1. -/
def State.avsStep (s : State) : Nat := max 1 (s.fld SPEED_AVS_STEP_STEP_MV)

/-- One transaction of the PMBus master (R482): PAGE first where PAGE_EN is 1, PEC where PEC is 1. -/
def State.pmbusSend (s : State) (cmd data : Nat) : State :=
  let a := s.fld SPEED_PMBUS_CFG_ADDR
  let pec := s.bit SPEED_PMBUS_CFG_PEC
  let s1 := if s.bit SPEED_PMBUS_CFG_PAGE_EN then s.emit (.pmbus a 0x00 (s.fld SPEED_PMBUS_CFG_PAGE) pec) else s
  s1.emit (.pmbus a cmd data pec)

/-- VOUT_COMMAND with `mv`, by the PMBus master (R482). -/
def State.avsCommand (s : State) (mv : Nat) : State :=
  let s1 := ((s.setFld SPEED_AVS_NOW_MV mv).modAvs fun a => { a with inFlight := some (mv, 0), lastCmd := s.time.mono }).pmbusSend 0x21 mv
  let s2 := if s.fld SPEED_AVS_NOW_MV < mv then s1.satFld SPEED_AVS_COUNT_UP 1 else s1.satFld SPEED_AVS_COUNT_DOWN 1
  s2.raise 13 10 mv

/-- An up-step while its condition holds (R483); at VMAX_MV it raises AVS_LIMIT instead. -/
def State.avsUp (s : State) : State :=
  if s.avsOn then
    let now := s.fld SPEED_AVS_NOW_MV
    let top := s.fld SPEED_AVS_LIMITS_VMAX_MV
    let s1 := s.modAvs fun a => { a with moved := true, up := true }
    if top ≤ now then s1.raise 13 12 (s.fld PLAN_MARGIN_NS_NS)
    else
      let v := min top (now + s.avsStep)
      s1.avsCommand v
  else s

/-- Whether a plan is RUNNING and no load is between CHECKING and its end (R483). -/
def State.avsPlanRuns (s : State) : Bool :=
  s.fld PLAN_STATUS_STATE == 1 && !(s.fld PLAN_LOAD_STATUS_STATE == 1 || s.fld PLAN_LOAD_STATUS_STATE == 2 ||
    s.fld PLAN_LOAD_STATUS_STATE == 3)

/-- While no plan runs or a load is in progress, at least 750 mV is commanded (R483). -/
def State.avsFloor (s : State) : State :=
  if s.avsOn ∧ ¬ s.avsPlanRuns ∧ s.fld SPEED_AVS_NOW_MV < 750 then s.avsCommand 750 else s

/-- UP_PCT in force: at or above DOWN_PCT it is DOWN_PCT − 1. -/
def State.upPct (s : State) : Nat :=
  let d := s.fld SPEED_AVS_MARGIN_DOWN_PCT
  if d ≤ s.fld SPEED_AVS_MARGIN_UP_PCT then d - 1 else s.fld SPEED_AVS_MARGIN_UP_PCT

/-- The outcome of a frame start for the adaptive voltage: its up condition, the levels shed. -/
def State.avsFrame (s : State) (cond : Bool) (shed : Nat) : State :=
  let s1 := s.modAvs fun a => { a with
    up := cond
    minShed := some (match a.minShed with | some m => min m shed | none => shed) }
  if cond ∧ s.avsPlanRuns then s1.avsUp else s1

/-- The step time predicted one step lower (R483). -/
def State.avsPredicted (s : State) : Nat :=
  let v := s.fld SPEED_AVS_NOW_MV
  let w := v - s.avsStep
  let tj : Int := s.sfld SPEED_TJ_MAX_C * 16
  let c1 := cornerFrac w tj
  let c0 := cornerFrac v tj
  let num := s.fld SPEED_WORST_PS_PS * s.fld SPEED_GUARD_GUARD * c1.1 * c0.2
  let den := 64 * c0.1 * c1.2
  max ((num + den - 1) / den) (cornerPs w tj)

/-- The check at the end of a period (R483). -/
def State.avsPeriodEnd (s : State) : State :=
  let s1 := s.modAvs fun a => { a with periodAt := s.time.mono, moved := false, minShed := none }
  let v := s.fld SPEED_AVS_NOW_MV
  let w := v - s.avsStep
  let settled := s.avs.lastCmd + s.fld SPEED_AVS_STEP_SETTLE_US * 1000 * unitsPerNs ≤ s.time.mono
  match s.plan.active with
  | none => s1
  | some p =>
    let shed := s.avs.minShed.getD s.plan.shed
    if s.avsOn ∧ s.avsPlanRuns ∧ ¬ s.avs.moved ∧ settled ∧ s.fld SPEED_AVS_LIMITS_VMIN_MV ≤ w ∧
        s.avsStep ≤ v ∧
        pctOf (p.avail s.rate) (s.fld SPEED_AVS_MARGIN_DOWN_PCT) ≤ p.margin s.rate shed s.avsPredicted then
      s1.avsCommand w
    else s1

/-! The speed monitor (R195, R205). -/

/-- The span clock in ps. -/
def State.monoPs (s : State) : Nat := s.time.mono * 1000 / unitsPerNs

/-- A slow sample of an in-service engine stretches the dues not yet reached (R205). -/
def State.slowStep (s : State) (e sample : Nat) : State :=
  let base := match s.plan.maxSample with | some m => max m s.plan.t | none => s.plan.t
  if s.fld (ENG_STATUS_ROLE.inst e) = 0 ∧ base < sample ∧ s.plan.t ≠ 0 then
    let now := s.monoPs
    let s1 := { s with plan := { s.plan with
      maxSample := some sample
      watch := s.plan.watch.map fun (q : Nat × LapWatch) =>
        (q.1, { q.2 with due := if now < q.2.due then now + (q.2.due - now) * sample / base else q.2.due }) } }
    (s1.raise 13 8 (sample + e * 2 ^ 16 + s.plan.t % 2 ^ 16 * 2 ^ 20)).avsUp
  else s

/-- The highest valid die sensor, in 1/16 °C, excluded ones apart (R195, R486). -/
def State.tjNow (s : State) : Option Int :=
  let l := (List.range 8).filterMap fun k =>
    if s.bit (SENSE_DTS_VALID.nth k) && !s.dtsOff.contains k then some (s.sfld (SENSE_DTS_T.nth k)) else none
  l.foldl (fun m x => match m with | none => some x | some y => some (max x y)) none

/-- One interval's samples (R195): the measured step time counts from 1,024 steps on. -/
def sampleOf (x : SpeedIn) : Nat × Bool :=
  let m := if 1024 ≤ x.steps then x.issuingPs / x.steps else 0
  (max m x.replicaPs, decide (x.replicaPs < m))

/-- One interval of the speed monitor (R195, R196, R205). -/
def State.speedInterval (s : State) (samples : List SpeedIn) (vddcMv : Nat) : State :=
  let l := (samples.take 10).zip (List.range 10)
  let s1 := l.foldl (fun t q =>
    let r := sampleOf q.1
    (t.setFld (SPEED_LIVE_PS_PS.nth q.2) r.1).setBit (SPEED_LIVE_PS_MEASURED.nth q.2) r.2) s
  let worst := l.foldl (fun m q => if s.fld (ENG_STATUS_ROLE.inst q.2) ≤ 1 then max m (sampleOf q.1).1 else m) 0
  let tj := s.tjNow.getD 0
  let n := s.fld SPEED_WINDOW_INTERVALS
  let win := ((worst, vddcMv, tj) :: s.plan.window).take (max n 1)
  let mv := win.foldl (fun m q => min m q.2.1) vddcMv
  let tmax := win.foldl (fun m q => max m q.2.2) tj
  let s2 := { s1 with plan := { s1.plan with window := win } }
  let s3 := (((s2.setFld SPEED_WORST_PS_PS (win.foldl (fun m q => max m q.1) 0)).setFld SPEED_VDDC_MV_MV mv).setInt
    SPEED_TJ_MAX_C (tmax / 16)).setFld SPEED_CORNER_PS_PS (cornerPs mv tmax)
  (l.foldl (fun t q => t.slowStep q.2 (sampleOf q.1).1) s3).speedSync

/-- The largest replica step time of the hour among engines IN_SERVICE or RESERVE, normalised to 0.75 V and
25 °C (R492). -/
def State.wearSample (s : State) (samples : List SpeedIn) (vddcMv : Nat) : State :=
  let c := cornerFrac vddcMv (s.tjNow.getD 0)
  let best := ((samples.take 10).zip (List.range 10)).foldl (fun (m : Option (Rat × Nat)) (q : SpeedIn × Nat) =>
    if s.fld (ENG_STATUS_ROLE.inst q.2) ≤ 1 then
      let v : Rat := (q.1.replicaPs * 1200 * c.2 : Nat) / (c.1 : Rat)
      match m with
      | none => some (v, q.2)
      | some o => if o.1 < v then some (v, q.2) else some o
    else m) s.groom.worst
  { s with groom := { s.groom with worst := best } }

/-- SPEED_SAMPLE (R195). -/
def execSpeedSample (samples : List SpeedIn) (vddcMv : Nat) (s : State) : Host.Outcome State Fault Refusal :=
  .next ((s.speedInterval samples vddcMv).wearSample samples vddcMv)

/-- AVS_SETTLE (R483): SETTLE_US after a command the up-step is repeated while its condition holds. -/
def execAvsSettle (s : State) : Host.Outcome State Fault Refusal :=
  .next (if s.avs.lastCmd + s.fld SPEED_AVS_STEP_SETTLE_US * 1000 * unitsPerNs ≤ s.time.mono ∧ s.avs.up ∧ s.avsPlanRuns
    then s.avsUp else s)

/-- AVS_PERIOD (R483). -/
def execAvsPeriod (s : State) : Host.Outcome State Fault Refusal :=
  .next (if s.avs.periodAt + s.fld SPEED_AVS_STEP_PERIOD_MS * 1000000 * unitsPerNs ≤ s.time.mono then s.avsPeriodEnd else s)

/-- PMBUS_TRANSACTION_END (R482): acknowledged, or retried up to three times. -/
def execPmbusTransactionEnd (ack : Bool) (s : State) : Host.Outcome State Fault Refusal :=
  match s.avs.inFlight with
  | none => .next s
  | some (mv, fails) =>
    if ack then .next (s.modAvs fun a => { a with inFlight := none })
    else if fails < 3 then
      .next ((s.modAvs fun a => { a with inFlight := some (mv, fails + 1) }).pmbusSend 0x21 mv)
    else .next ((s.modAvs fun a => { a with inFlight := none, failed := true }).raise 13 11 0x21)

end Sys2Proof.Machine
end

