-- ==== Sys2Proof/Machine/ClBase.lean ====
section
/-! DEFINITION. Camlek ports and the queues of their links (spec/14): port state, routes, control cells and flooding (R438, R441, R443). -/

namespace Sys2Proof.Machine

open Sys2Proof

/-! Ports and their state. -/

/-- The page of port `p`. -/
def clPage (p : Nat) : Nat := 0xB0 + p

/-- Port `p` beside its page. -/
def State.cl (s : State) (p : Nat) : ClS := mapGet (fun _ => ClS.idle) s.cls p

/-- `s` with port `p` changed by `f`. -/
def State.modCl (s : State) (p : Nat) (f : ClS → ClS) : State := { s with cls := mapSet (fun _ => ClS.idle) s.cls p (f (s.cl p)) }
def State.modGroup (s : State) (f : GroupS → GroupS) : State := { s with group := f s.group }

/-- STATE codes (Table 14-4). -/
def clDown : Nat := 0
def clSignal : Nat := 1
def clAlign : Nat := 2
def clExchange : Nat := 3
def clMeasure : Nat := 4
def clUp : Nat := 5
def clForeign : Nat := 6
def clFailed : Nat := 7

def State.clState (s : State) (p : Nat) : Nat := s.fld (CL_STATUS_STATE.inst p)
def State.setClState (s : State) (p v : Nat) : State := s.setFld (CL_STATUS_STATE.inst p) v
def State.clIsUp (s : State) (p : Nat) : Bool := decide (p < 4) && s.clState p == clUp

/-- Own DEVICE_ID, the planet's, own member number. -/
def State.clDeviceId (s : State) : Nat := s.pair CL_DEVICE_ID_LO_ID CL_DEVICE_ID_HI_ID
def State.planetId (s : State) : Nat := s.pair CL_PLANET_ID_LO_ID CL_PLANET_ID_HI_ID
def State.member (s : State) : Nat := s.fld CL_GROUP_STATUS_MEMBER
def State.isPlanet (s : State) : Bool := s.bit CL_GROUP_STATUS_PLANET

/-- The peer's DEVICE_ID of a port. -/
def State.peerId (s : State) (p : Nat) : Nat := s.pair (CL_PEER_ID_LO_ID.inst p) (CL_PEER_ID_HI_ID.inst p)

/-- The device is in a seam (R446). -/
def State.inSeam (s : State) : Bool := s.time.seam.isSome

/-! Routes (R438, R443). -/

/-- Links of every member over which traffic flows: member, port, peer member. -/
def State.groupLinks (s : State) : List (Nat × Nat × Nat) :=
  (((List.range 4).filter fun p => s.clIsUp p).map fun p => (s.member, p, s.fld (CL_STATUS_PEER_MEMBER.inst p))) ++
    s.group.links.filter fun l => l.1 != s.member

/-- Hops of each of the eight members to member `t`; 99 where there is no path. -/
def hopsTo (links : List (Nat × Nat × Nat)) (t : Nat) : List Nat :=
  let step (d : List Nat) : List Nat := (List.range 8).map fun m =>
    ((links.filter fun l => l.1 == m).map fun l => d.getD l.2.2 99 + 1).foldl min (d.getD m 99)
  (List.range 8).foldl (fun d _ => step d) ((List.range 8).map fun m => if m = t then 0 else 99)

/-- The lowest port of member `m` on a shortest path to `t`, with the peer. -/
def nextHop (links : List (Nat × Nat × Nat)) (m t : Nat) : Option (Nat × Nat) :=
  let d := hopsTo links t
  ((List.range 4).flatMap fun p => (links.filter fun l => l.1 == m && l.2.1 == p && decide (d.getD l.2.2 99 + 1 = d.getD m 99 ∧ d.getD m 99 < 99)).map
    fun l => (p, l.2.2)).head?

/-- The ports of a shortest route from `m` to `t`. -/
def routeTo (links : List (Nat × Nat × Nat)) (fuel m t : Nat) : List Nat :=
  match fuel with
  | 0 => []
  | k + 1 => if m = t then [] else match nextHop links m t with | some (p, q) => p :: routeTo links k q t | none => []

/-- ROUTE of the hops after the first, the next in the low bits (Table 14-2). -/
def packRoute (l : List Nat) : Nat := ((l.zip (List.range l.length)).map fun q => q.1 * 2 ^ (2 * q.2)).sum

/-! Queues (R443). -/

/-- Number of the CL tick, 2.56 ns, on the span clock. -/
def State.clTick (s : State) : Nat := s.time.mono * 100 / (256 * unitsPerNs)

/-- A control block waits; lower classes go first. -/
def State.queueBlock (s : State) (p cls type : Nat) (ws : List Nat) : State :=
  s.modCl p fun x => { x with blocks := x.blocks ++ [(cls, type, ws)] }

/-- A cell waits behind those of its kind. -/
def State.queueCell (s : State) (p : Nat) (c : Cell) (fwd : Bool) : State :=
  let t : TxCell := ⟨c, s.clTick, fwd⟩
  s.modCl p fun x => if c.ctrl ∧ fwd then { x with ctl := x.ctl ++ [t] } else if c.bcast then { x with ctl := x.ctl ++ [t] }
    else { x with frames := x.frames ++ [t] }

/-- Units of a cell. -/
def cellUnits (c : Cell) : Nat := (c.data.length + 63) / 64

/-- The header block of a cell (Table 14-2). -/
def cellHeader (c : Cell) : Nat :=
  c.dest % 8 + c.hops % 8 * 2 ^ 3 + c.route % 4096 * 2 ^ 6 + (if c.ctrl then 2 ^ 18 else 0) + (if c.bcast then 2 ^ 19 else 0) +
    c.rxwin % 16 * 2 ^ 20 + c.unit % 2 ^ 24 * 2 ^ 24 + c.frame % 2 ^ 16 * 2 ^ 48

/-- A control cell's unit (R441): kind, origin, origin sequence number, content. -/
def ctlData (kind origin oseq content : Nat) : List Byte :=
  valBytes 8 (kind + origin * 2 ^ 8 + oseq % 256 * 2 ^ 11) ++ valBytes 8 content ++ List.replicate 48 0
def cellKind (c : Cell) : Nat := leField c.data 0 1
def cellOrigin (c : Cell) : Nat := natBits (leField c.data 0 8) 8 3
def cellSeq (c : Cell) : Nat := natBits (leField c.data 0 8) 11 8
def cellContent (c : Cell) : Nat := leField c.data 8 8

/-- A flooded control cell of this device waits on every UP port (R441). -/
def State.flood (s : State) (kind content : Nat) : State :=
  let q := s.group.oseq
  let c : Cell := ⟨0, 0, 0, true, true, 0, 0, 0, ctlData kind s.member q content⟩
  ((List.range 4).filter fun p => s.clIsUp p).foldl (fun (t : State) (p : Nat) => t.queueCell p c false)
    (s.modGroup fun g => { g with oseq := (q + 1) % 256 })

/-- The device's own TOPOLOGY cell (Table 14-3). -/
def State.floodTopology (s : State) : State :=
  let c := ((List.range 4).map fun p => (s.fld (CL_STATUS_PEER_MEMBER.inst p) + if s.clIsUp p then 8 else 0) * 2 ^ (8 * p)).sum
  s.flood 2 (c + s.fld CL_GROUP_STATUS_MEMBERS * 2 ^ 32)

end Sys2Proof.Machine
end

