-- ==== Sys2Proof/Machine/Keys.lean ====
section
/-! DEFINITION. The key store (spec/15): root and tamper, slots, derivation, measurements, import, KEY tasks, blobs, attestation, and the meanings of its commands. -/

namespace Sys2Proof.Machine

open Sys2Proof

/-- The KEY page (R475). -/
def keyPage : Nat := 12

/-- Unit number of KEY (Table 07-1). -/
def keyUnit : Nat := 41

/-! Slots (R458 to R461). -/

/-- STATE of a slot: 0 EMPTY, 1 VALID, 2 ORPHANED. -/
def State.ksState (s : State) (n : Nat) : Nat := s.fld (KEY_SLOT_STATE_STATE.nth n)

/-- Policy word of a slot. -/
def State.ksPolicy (s : State) (n : Nat) : Nat := s.fld (KEY_SLOT_POLICY_POLICY.nth n)

/-- Material of a slot. -/
def State.ksMat (s : State) (n : Nat) : List Byte := mapGet (fun _ => []) s.key.mat n

/-- `s` with the key store changed by `f`. -/
def State.modKey (s : State) (f : KeyS → KeyS) : State := { s with key := f s.key }

/-- `s` with the material of a slot replaced. -/
def State.setMat (s : State) (n : Nat) (m : List Byte) : State :=
  s.modKey fun k => { k with mat := mapSet (fun _ => []) k.mat n m }

/-- TYPE of a policy (Table 15-2). -/
def polType (p : Nat) : Nat := natBits p 0 4

/-- Policy bits allowed for a type (Table 15-3); `imported` admits PLAN_VERIFY. -/
def polAllowed (t : Nat) (imported : Bool) : Nat :=
  if t = 1 then 0x1010 else if t = 2 then 0x1060 else if t = 3 then 0x1880 else if t = 4 then 0x1300
  else if t = 5 then (if imported then 0x1600 else 0x1200) else 0

/-- Whether a policy is good (R456): a listed type, its usage bits alone, BIND only on DERIVE. -/
def polOk (p : Nat) (imported derived : Bool) : Bool :=
  decide (1 ≤ polType p ∧ polType p ≤ 5) && natBits p 20 12 == 0 && natBits p 13 3 == 0 &&
    (natBits p 4 9 * 16 &&& polAllowed (polType p) imported) == natBits p 4 9 * 16 &&
    (derived || natBits p 16 4 == 0)

/-- Bytes of material of a type (R464). -/
def matLen (t : Nat) : Nat := if t = 5 then 64 else 32

/-- A slot as it reads after reset. -/
def State.emptySlot (s : State) (n : Nat) : State :=
  let s1 := ((s.setFld (KEY_SLOT_STATE_STATE.nth n) 0).setFld (KEY_SLOT_STATE_ORIGIN.nth n) 0).setFld
    (KEY_SLOT_STATE_PARENT.nth n) 0x7F
  (((s1.setBit (KEY_SLOT_STATE_LOADED.nth n) false).setBit (KEY_SLOT_STATE_CLEAR_ANCESTRY.nth n) false).setFld
    (KEY_SLOT_POLICY_POLICY.nth n) 0).setMat n []

/-- The slots that become ORPHANED with those of `l`: VALID children, down the tree (R461). -/
def State.orphans (s : State) (l : List Nat) (fuel : Nat) : List Nat :=
  match fuel with
  | 0 => l
  | f + 1 =>
    let more := (List.range 64).filter fun n => s.ksState n == 1 && !l.contains n &&
      l.contains (s.fld (KEY_SLOT_STATE_PARENT.nth n))
    if more.isEmpty then l else s.orphans (l ++ more) f

/-- Slots become ORPHANED in one step (R461): ORPHANED is raised once, with the first and the count. -/
def State.orphan (s : State) (l : List Nat) (meas : Bool) : State :=
  let hit := (List.range 64).filter fun n => l.contains n && s.ksState n == 1
  match hit with
  | [] => s
  | n :: _ =>
    (hit.foldl (fun t k => t.setFld (KEY_SLOT_STATE_STATE.nth k) 2) s).raise keyPage 9
      (n + hit.length % 2 ^ 7 * 2 ^ 6 + (if meas then 2 ^ 13 else 0))

/-- CLEAR of a slot (R460, R461). -/
def State.clearSlot (s : State) (n : Nat) : State :=
  let down := (s.orphans [n] 64).filter fun k => k != n
  (s.emptySlot n).orphan down false

/-- A slot is filled (R458, R459). What it held is overwritten: VALID slots that name it as their parent, which a
latch taken before a CLEAR can leave (R462), become ORPHANED (R461). -/
def State.fillSlot (s : State) (n policy origin parent : Nat) (loaded clear : Bool) (m : List Byte) : State :=
  let down := (s.orphans [n] 64).filter fun k => k != n
  let s1 := ((s.setFld (KEY_SLOT_STATE_STATE.nth n) 1).setFld (KEY_SLOT_STATE_ORIGIN.nth n) origin).setFld
    (KEY_SLOT_STATE_PARENT.nth n) parent
  ((((s1.setBit (KEY_SLOT_STATE_LOADED.nth n) loaded).setBit (KEY_SLOT_STATE_CLEAR_ANCESTRY.nth n) clear).setFld
    (KEY_SLOT_POLICY_POLICY.nth n) policy).setMat n m).orphan down false

/-- A slot as it stands: what a latch copies (R462). -/
def State.slotNow (s : State) (n : Nat) : KeySlot where
  state := s.ksState n
  policy := s.ksPolicy n
  origin := s.fld (KEY_SLOT_STATE_ORIGIN.nth n)
  parent := s.fld (KEY_SLOT_STATE_PARENT.nth n)
  loaded := s.bit (KEY_SLOT_STATE_LOADED.nth n)
  clear := s.bit (KEY_SLOT_STATE_CLEAR_ANCESTRY.nth n)
  mat := s.ksMat n

/-! Measurements (R463). -/

/-- Register `j` of MEASk. -/
def measFld (k j : Nat) : Fld := KEY_MEAS_DIGEST.nth (8 * k + j)

/-- The 32 bytes of MEASk. -/
def State.meas (s : State) (k : Nat) : List Byte := (List.range 8).flatMap fun j => valBytes 4 (s.fld (measFld k j))

/-- `s` with MEASk set. -/
def State.setMeas (s : State) (k : Nat) (bs : List Byte) : State :=
  (List.range 8).foldl (fun t j => t.setFld (measFld k j) (bytesVal ((bs.drop (4 * j)).take 4))) s

/-- A measurement changes: the slots its BIND names become ORPHANED (R461). -/
def State.measChanged (s : State) (k : Nat) : State :=
  let l := (List.range 64).filter fun n => s.ksState n == 1 && (s.ksPolicy n).testBit (16 + k)
  s.orphan (s.orphans l 64) true

/-- An extend of MEASk by digest `x`. -/
def State.measExtend (s : State) (k : Nat) (x : List Byte) : State :=
  ((s.setMeas k (sha256 (s.meas k ++ x))).incFld (KEY_MEAS_COUNT_COUNT.nth k) 1).measChanged k

/-- MEAS3 at a switch: zero, then extended, as one change. -/
def State.measPlan (s : State) (digest : List Byte) : State :=
  (s.setMeas 3 (List.replicate 32 0)).measExtend 3 digest

/-! Derivation (R455, R457). -/

/-- ASCII bytes. -/
def ascii (t : String) : List Byte := t.toList.map fun c => BitVec.ofNat 8 c.toNat

/-- The 6 bytes of DEVICE_ID. -/
def State.deviceId (s : State) : List Byte :=
  valBytes 4 (s.fld CL_DEVICE_ID_LO_ID) ++ valBytes 2 (s.fld CL_DEVICE_ID_HI_ID)

/-- A key under R455 from `kin`; ECC_PRIV gives a scalar, 32 bytes big-endian. -/
def State.derive (s : State) (kin label : List Byte) (policy : Nat) (ctx : List Byte) : List Byte :=
  let c := valBytes 4 policy ++ ((List.range 4).filter fun k => policy.testBit (16 + k)).flatMap s.meas ++ ctx
  if polType policy = 4 then
    valBytesBE 32 (bytesValBE (kdf256 kin label c 384) % (p256N - 1) + 1)
  else kdf256 kin label c 256

/-- ID_PUB follows the identity key (R457). -/
def State.publishId (s : State) : State :=
  let xy := if s.key.ident = 0 then List.replicate 64 0#8
    else valBytesBE 32 (p256Pub s.key.ident).1 ++ valBytesBE 32 (p256Pub s.key.ident).2
  (List.range 16).foldl (fun t j => t.setFld (KEY_ID_PUB_KEY.nth j) (bytesVal ((xy.drop (4 * j)).take 4))) s

/-- The identity key is derived from the root (R457). -/
def State.deriveId (s : State) : State :=
  let d := bytesValBE (s.derive s.key.root (ascii "ELLITH-IDENTITY") 0x104 s.deviceId)
  (s.modKey fun k => { k with ident := d }).publishId

/-- Whether the root is VALID. -/
def State.rootValid (s : State) : Bool := s.fld KEY_STATUS_ROOT_STATE == 1

/-! KEY tasks (R466, R467). -/

/-- RESULT codes of Table 15-6. -/
def krOk : Nat := 0
def krBadLen : Nat := 1
def krEmpty : Nat := 2
def krOrphaned : Nat := 3
def krUsage : Nat := 4
def krBadPolicy : Nat := 5
def krSlotBusy : Nat := 6
def krAuthFail : Nat := 8
def krSigBad : Nat := 9
def krNoRoot : Nat := 10
def krNvmFail : Nat := 11
def krRange : Nat := 12
def krTamper : Nat := 13
def krNoBlob : Nat := 14
def krPoison : Nat := 15

/-- The running KEY task's words 1 to 6. -/
structure KeyTask where
  w1 : Nat
  w : List Nat
  deriving DecidableEq, Repr

/-- Fields of Table 15-4. -/
def KeyTask.op (t : KeyTask) : Nat := natBits t.w1 0 5
def KeyTask.dst (t : KeyTask) : Nat := natBits t.w1 5 6
def KeyTask.src (t : KeyTask) : Nat := natBits t.w1 11 6
def KeyTask.fromRoot (t : KeyTask) : Bool := t.w1.testBit 17
def KeyTask.blob (t : KeyTask) : Nat := natBits t.w1 18 5
def KeyTask.policy (t : KeyTask) : Nat := natBits (t.w.getD 0 0) 0 32
def KeyTask.inAddr (t : KeyTask) : Nat := natBits (t.w.getD 1 0) 0 23
def KeyTask.inLen (t : KeyTask) : Nat := natBits (t.w.getD 1 0) 24 17
def KeyTask.outAddr (t : KeyTask) : Nat := natBits (t.w.getD 2 0) 0 23
def KeyTask.outLen (t : KeyTask) : Nat := natBits (t.w.getD 2 0) 24 17
def KeyTask.labelLen (t : KeyTask) : Nat := natBits (t.w.getD 3 0) 0 8
def KeyTask.ctxLen (t : KeyTask) : Nat := natBits (t.w.getD 3 0) 8 8
def KeyTask.aadLen (t : KeyTask) : Nat := natBits (t.w.getD 3 0) 16 16

/-- The task running on the KEY unit, if it has not reported its end. -/
def State.keyTask (s : State) : Option KeyTask :=
  match s.unitCtx keyUnit with
  | some n =>
    if s.sched.done.any (fun p => p.1 == keyUnit) || s.sched.faults.any (fun p => p.1 == keyUnit) then none
    else some ⟨(s.ctx n).w1, s.unitParams keyUnit⟩
  | none => none

/-- The end of a KEY task (R467): OUT_DONE goes to word 6, the report to the arbiter, and the unit forgets what it has
latched. -/
def State.keyEnd (s : State) (result outDone : Nat) : State :=
  let s1 := match s.unitCtx keyUnit with
    | some n => (s.schedWrite (s.ctxDesc n) 6 outDone).2
    | none => s
  (if result = krOk ∨ result = krSigBad ∨ result = krAuthFail then
    s1.modSched fun x => { x with done := x.done ++ [(keyUnit, result)] }
  else s1.modSched fun x => { x with faults := x.faults ++ [(keyUnit, ecUnit, result)] }).modKey fun k => { k with latch := none }

/-! Tamper (R452 to R454). -/

/-- One zeroization with its cause bit (R452). A running KEY task ends FAULTED with TAMPER, no further byte of it
written. -/
def State.zeroize (s : State) (cause : Nat) : State :=
  let s1 := (s.modKey fun k => { k with root := List.replicate 32 0, rootOk := false, ident := 0, latch := none }).publishId
  let s2 := (List.range 64).foldl (fun t n => t.emptySlot n) s1
  let s3 := (List.range 16).foldl (fun t j => t.setFld (KEY_IMPORT_DATA_DATA.nth j) 0)
    ((s2.setFld KEY_IMPORT_SLOT_SLOT 0).setFld KEY_IMPORT_POLICY_POLICY 0)
  let s4 := (s3.setFld KEY_STATUS_ROOT_STATE 2).setFld KEY_TAMPER_LOG_CAUSE
    (s3.fld KEY_TAMPER_LOG_CAUSE ||| 2 ^ cause)
  let s5 := s4.satFld KEY_TAMPER_LOG_COUNT 1
  let s6 := if s.keyTask.isSome then s5.keyEnd krTamper 0 else s5
  if s.mainPower then s6.raise keyPage 8 (2 ^ cause) else s6

/-- Whether a tamper source is enabled and watched (Table 15-1). -/
def State.tamperOn (s : State) (src : Nat) : Bool :=
  if src = 0 then s.bit KEY_TAMPER_CFG_TAMP0_EN
  else if src = 1 then s.bit KEY_TAMPER_CFG_TAMP1_EN
  else if src = 2 then true
  else if src = 3 then s.mainPower && s.bit KEY_TAMPER_CFG_TEMP_EN
  else if src = 4 then s.mainPower && s.bit KEY_TAMPER_CFG_GLITCH_EN
  else false

/-- TAMPER_ACTIVE: an enabled source's condition holds now. -/
def State.tamperSync (s : State) : State := s.setBit KEY_STATUS_TAMPER_ACTIVE (s.key.lines.any s.tamperOn)

/-- The condition of a source has held for its filter time: with the source enabled the line is asserted, and one
zeroization done. The condition of a source not enabled is remembered for the write that enables it. -/
def State.tamperHolds (s : State) (src : Nat) : State :=
  if s.key.lines.contains src ∨ 4 < src then s
  else
    let s1 := (s.modKey fun k => { k with lines := k.lines ++ [src] }).tamperSync
    if s.tamperOn src then s1.zeroize src else s1

/-- The condition of a source ends. -/
def State.tamperEnds (s : State) (src : Nat) : State :=
  (s.modKey fun k => { k with lines := k.lines.filter fun j => j != src }).tamperSync

/-- TEMP (Table 15-1): a valid reading of a die sensor that is not excluded (R486) above 130 °C or below −55 °C. -/
def State.tempOut (s : State) : Bool :=
  (List.range 8).any fun k => s.bit (SENSE_DTS_VALID.nth k) && !s.dtsOff.contains k &&
    (decide (2080 < s.sfld (SENSE_DTS_T.nth k)) || decide (s.sfld (SENSE_DTS_T.nth k) < -880))

/-- The TEMP source follows the readings. -/
def State.tempWatch (s : State) : State :=
  if s.tempOut then s.tamperHolds 3 else if s.key.lines.contains 3 then s.tamperEnds 3 else s

/-- TAMPER_INPUT (R452). -/
def execTamperInput (src : Nat) (s : State) : Host.Outcome State Fault Refusal := .next (s.tamperHolds src)

/-- TAMPER_LINE_RELEASE (R452). -/
def execTamperLineRelease (src : Nat) (s : State) : Host.Outcome State Fault Refusal := .next (s.tamperEnds src)

/-- The effect of a write of KEY.ZEROIZE (R453). -/
def State.writeZeroize (s : State) (v : Word) : State :=
  if v.getLsbD 0 ∧ natBits v.toNat 16 16 = 0xC1EA then s.zeroize 5 else s

/-- ZEROIZE_WRITE (R453). -/
def execZeroizeWrite (q : Req) (v : Word) (s : State) : Host.Outcome State Fault Refusal :=
  .next (s.write q keyPage 0x04C v fun t => t.writeZeroize v)

/-- The effect of a write of KEY.TAMPER_CFG (R454). A source it enables whose condition holds asserts the line, one
it disables lets go of it. -/
def State.writeTamperCfg (s : State) (v : Word) : State :=
  if s.rootValid then s.raise keyPage 13 0
  else
    let s1 := (s.storeReg keyPage 0x044 v).tamperSync
    (s.key.lines.filter fun src => s1.tamperOn src && !s.tamperOn src).foldl (fun t src => t.zeroize src) s1

/-- TAMPER_CFG_WRITE (R454). -/
def execTamperCfgWrite (q : Req) (v : Word) (s : State) : Host.Outcome State Fault Refusal :=
  .next (s.write q keyPage 0x044 v fun t => t.writeTamperCfg v)

/-! Import and register CLEAR (R462, R464, R465). -/

/-- The effect of a write of KEY.SLOT_CMD (Table 15-9). -/
def State.writeSlotCmd (s : State) (v : Word) : State :=
  if natBits v.toNat 8 4 = 1 then s.clearSlot (natBits v.toNat 0 6) else s

/-- SLOT_CLEAR (R462). -/
def execSlotClear (q : Req) (v : Word) (s : State) : Host.Outcome State Fault Refusal :=
  .next (s.write q keyPage 0x050 v fun t => t.writeSlotCmd v)

/-- IMPORT_DATA as bytes in order (R464). -/
def State.importBytes (s : State) : List Byte := (List.range 16).flatMap fun j => valBytes 4 (s.fld (KEY_IMPORT_DATA_DATA.nth j))

/-- Whether imported material is good for its type (R464). -/
def importKeyOk (t : Nat) (bs : List Byte) : Bool :=
  if t = 4 then
    let d := bytesValBE (bs.take 32)
    decide (d ≠ 0 ∧ d < p256N)
  else if t = 5 then p256On (bytesValBE (bs.take 32), bytesValBE ((bs.drop 32).take 32))
  else true

/-- The effect of a write of KEY.IMPORT_GO (R464): the reasons are tested in the order the rule lists
them; while the tamper line is asserted the refusal's reason is a free value (log entry 17). -/
def State.importGo (s : State) : State :=
  let n := s.fld KEY_IMPORT_SLOT_SLOT
  let p := s.fld KEY_IMPORT_POLICY_POLICY
  let bs := s.importBytes
  let s0 := (List.range 16).foldl (fun t j => t.setFld (KEY_IMPORT_DATA_DATA.nth j) 0) s
  let refuse (r : Nat) : State := s0.raise keyPage 12 (n + r * 2 ^ 6)
  if s.bit KEY_STATUS_TAMPER_ACTIVE then (s0.takeFree).raise keyPage 12 (n + s.freeVal % 2 ^ 4 * 2 ^ 6)
  else if s.bit KEY_CTRL_IMPORT_LOCK then refuse 7
  else if ¬ polOk p true false then refuse 5
  else if s.ksState n = 1 then refuse 6
  else if ¬ importKeyOk (polType p) bs then refuse 8
  else (s0.fillSlot n p 2 0x7F false true (bs.take (matLen (polType p)))).raise keyPage 11 n

/-- IMPORT_GO (R464). -/
def execImportGo (q : Req) (v : Word) (s : State) : Host.Outcome State Fault Refusal :=
  .next (s.write q keyPage 0x068 v fun t => if v.getLsbD 0 then t.importGo else t)

/-- IMPORT_LOCK_WRITE (R465). -/
def execImportLockWrite (q : Req) (v : Word) (s : State) : Host.Outcome State Fault Refusal :=
  .next (s.write q keyPage 0x008 v fun t => t.storeReg keyPage 0x008 v)

/-! Operands of KEY tasks (R466). -/

/-- The input bytes of a task through port S with class 3: bytes, RESULT code, state after (R466). -/
def State.keyIn (s : State) (t : KeyTask) : List Byte × Nat × State :=
  let b := natBits t.inAddr 18 5
  if t.inLen = 0 then ([], krOk, s)
  else if ¬ ownerAdmits (s.owner b) .sched then
    ([], krRange, (s.stallServed b (natBits t.inAddr 0 18) 3).foreign b (natBits t.inAddr 0 18) 3 false)
  else
    let off := natBits t.inAddr 6 12 * 64
    let r : List Byte × Bool × State := (List.range ((t.inLen + 7) / 8)).foldl (fun r i =>
      let w := r.2.2.sRead b ((off + 8 * i) % 2 ^ 18) 3
      (r.1 ++ valBytes 8 w.1.toNat, r.2.1 || w.2.1, w.2.2)) ([], false, s.stallServed b off 3)
    (r.1.take t.inLen, if r.2.1 then krPoison else krOk, r.2.2)

/-- Whether the output range of a task is in a bank owned by SCHED. -/
def State.keyOutOk (s : State) (t : KeyTask) : Bool := ownerAdmits (s.owner (natBits t.outAddr 18 5)) .sched

/-- Writes the output bytes of a task (R466). -/
def State.keyOut (s : State) (t : KeyTask) (bs : List Byte) : State :=
  let b := natBits t.outAddr 18 5
  let off := natBits t.outAddr 6 12 * 64
  (List.range ((bs.length + 7) / 8)).foldl (fun u i =>
    let part := (bs.drop (8 * i)).take 8
    u.sWrite b ((off + 8 * i) % 2 ^ 18) (BitVec.ofNat 64 (2 ^ (8 * part.length) - 1)) (BitVec.ofNat 64 (bytesVal part)) 3)
    (s.stallServed b off 3)

/-- Whether a latched slot is in use: 0 where it is VALID (R460). -/
def KeySlot.stateCheck (l : KeySlot) : Nat :=
  if l.state = 0 then krEmpty else if l.state = 2 then krOrphaned else krOk

/-- The judgement of a SRC slot that needs usage bit `bit` (R456, R460); 0 where it may be used. -/
def KeySlot.srcCheck (bit : Nat) (l : KeySlot) : Nat :=
  if l.stateCheck ≠ krOk then l.stateCheck else if l.policy.testBit bit then krOk else krUsage

/-- An operation with a SRC slot (R462; log entry 17). Its command comes twice. The first is the KEY unit's latch at the
slot arbiter: SRC is judged, and copied into the unit or refused. The second is the rest of the operation, on what was
latched, whatever has happened to SRC since. -/
def State.withSrc (s : State) (t : KeyTask) (check : KeySlot → Nat) (f : KeySlot → State) : State :=
  match s.key.latch with
  | some l => f l
  | none =>
    let l := s.slotNow t.src
    if check l ≠ krOk then s.keyEnd (check l) 0 else s.modKey fun k => { k with latch := some l }

/-- Whether the lengths of a task are those of Table 15-5: IN_LEN, and room in OUT. -/
def KeyTask.lenOk (t : KeyTask) : Bool :=
  if t.op = 0x01 then decide (1 ≤ t.labelLen ∧ t.labelLen ≤ 32 ∧ t.ctxLen ≤ 64 ∧ t.inLen = t.labelLen + t.ctxLen)
  else if t.op = 0x04 then decide (64 ≤ t.outLen)
  else if t.op = 0x05 ∨ t.op = 0x06 then decide (t.inLen ≤ 65536 ∧ 32 ≤ t.outLen)
  else if t.op = 0x07 then decide (t.inLen = 32 ∧ 64 ≤ t.outLen)
  else if t.op = 0x08 then decide (t.inLen = 96)
  else if t.op = 0x09 then decide (t.aadLen ≤ 4096 ∧ 12 + t.aadLen ≤ t.inLen ∧ t.inLen ≤ 12 + t.aadLen + 65536 ∧
    t.inLen + 4 ≤ t.aadLen + t.outLen)
  else if t.op = 0x0A then decide (t.aadLen ≤ 4096 ∧ 28 + t.aadLen ≤ t.inLen ∧ t.inLen ≤ 28 + t.aadLen + 65536 ∧
    t.inLen ≤ 28 + t.aadLen + t.outLen)
  else if t.op = 0x0E then decide (t.inLen = 32 ∧ 304 ≤ t.outLen)
  else if t.op = 0x0F then decide (t.inLen = 32 ∧ 168 ≤ t.outLen)
  else if t.op = 0x10 then decide (t.inLen = 32)
  else true

/-- Output of a task, if the bank is SCHED's. -/
def State.keyDeliver (s : State) (t : KeyTask) (bs : List Byte) (result : Nat) : State :=
  if ¬ s.keyOutOk t then (s.foreign (natBits t.outAddr 18 5) (natBits t.outAddr 0 18) 3 true).keyEnd krRange 0
  else (s.keyOut t bs).keyEnd result bs.length

/-- Runs an operation on its input once the input has been read. -/
def State.withIn (s : State) (t : KeyTask) (f : List Byte → State → State) : State :=
  let r := s.keyIn t
  if r.2.1 ≠ krOk then r.2.2.keyEnd r.2.1 0 else f r.1 r.2.2

/-- 32 bytes of the entropy source (R451): free values conditioned with SHA-256. -/
def State.entropy (s : State) : List Byte × State := (sha256 (freeBytes s.freeVal 32), s.takeFree)

/-- DERIVE on its latched parent, or on the root (R455, R459): the policy and the slot to fill are judged, and the
measurements enter as they stand then. -/
def State.deriveInto (s : State) (t : KeyTask) (kin : List Byte) (parent : Nat) (clear : Bool) : State :=
  if ¬ polOk t.policy false true ∨ polType t.policy = 5 then s.keyEnd krBadPolicy 0
  else if s.ksState t.dst = 1 then s.keyEnd krSlotBusy 0
  else s.withIn t fun bs u =>
    (u.fillSlot t.dst t.policy 0 parent false clear
      (u.derive kin (bs.take t.labelLen) t.policy (bs.drop t.labelLen))).keyEnd krOk 0

/-- DERIVE (R455). -/
def State.opDerive (s : State) (t : KeyTask) : State :=
  if t.fromRoot then (if s.rootValid then s.deriveInto t s.key.root 0x40 false else s.keyEnd krNoRoot 0)
  else s.withSrc t (KeySlot.srcCheck 4) fun l => s.deriveInto t l.mat t.src l.clear

/-- GENERATE (R459, R466). -/
def State.opGenerate (s : State) (t : KeyTask) : State :=
  if ¬ polOk t.policy false false ∨ polType t.policy = 5 then s.keyEnd krBadPolicy 0
  else if s.ksState t.dst = 1 then s.keyEnd krSlotBusy 0
  else
    let a := s.entropy
    let b := a.2.entropy
    let m := if polType t.policy = 4 then
        valBytesBE 32 (bytesValBE (a.1 ++ b.1.take 16) % (p256N - 1) + 1) else a.1
    (b.2.fillSlot t.dst t.policy 1 0x7F false false m).keyEnd krOk 0

/-- The public point of an ECC key. -/
def KeySlot.pub (l : KeySlot) : Nat × Nat :=
  if polType l.policy = 4 then p256Pub (bytesValBE l.mat)
  else (bytesValBE (l.mat.take 32), bytesValBE (l.mat.drop 32))

/-- X‖Y of a point. -/
def pointBytes (p : Nat × Nat) : List Byte := valBytesBE 32 p.1 ++ valBytesBE 32 p.2

/-- PUBKEY. -/
def State.opPubkey (s : State) (t : KeyTask) : State :=
  s.withSrc t (fun l => if l.stateCheck ≠ krOk then l.stateCheck else if polType l.policy < 4 then krUsage else krOk)
    fun l => s.keyDeliver t (pointBytes l.pub) krOk

/-- HASH. -/
def State.opHash (s : State) (t : KeyTask) : State := s.withIn t fun bs u => u.keyDeliver t (sha256 bs) krOk

/-- MAC. -/
def State.opMac (s : State) (t : KeyTask) : State :=
  s.withSrc t (KeySlot.srcCheck 7) fun l => s.withIn t fun bs u => u.keyDeliver t (hmac256 l.mat bs) krOk

/-- An ECDSA signature; the per-message secret is a free value, drawn again where FIPS 186-5 asks. -/
def State.ecSign (s : State) (d : Nat) (digest : List Byte) (fuel : Nat) : List Byte × State :=
  match fuel with
  | 0 => (freeBytes s.freeVal 64, s.takeFree)
  | f + 1 =>
    match ecdsaSign d digest (s.freeVal % (p256N - 1) + 1) with
    | some q => (pointBytes q, s.takeFree)
    | none => s.takeFree.ecSign d digest f

/-- SIGN. -/
def State.opSign (s : State) (t : KeyTask) : State :=
  s.withSrc t (KeySlot.srcCheck 8) fun l => s.withIn t fun bs u =>
    let r := u.ecSign (bytesValBE l.mat) bs 64
    r.2.keyDeliver t r.1 krOk

/-- VERIFY. -/
def State.opVerify (s : State) (t : KeyTask) : State :=
  s.withSrc t (KeySlot.srcCheck 9) fun l => s.withIn t fun bs u =>
    let ok := ecdsaVerify l.pub (bs.take 32) (bytesValBE ((bs.drop 32).take 32)) (bytesValBE (bs.drop 64))
    u.keyEnd (if ok then krOk else krSigBad) 0

/-- ENCRYPT. -/
def State.opEncrypt (s : State) (t : KeyTask) : State :=
  s.withSrc t (KeySlot.srcCheck 5) fun l => s.withIn t fun bs u =>
    let iv := bs.take 12
    let ct := gcmCtr l.mat iv (bs.drop (12 + t.aadLen))
    u.keyDeliver t (ct ++ gcmTag l.mat iv ((bs.drop 12).take t.aadLen) ct) krOk

/-- DECRYPT: no byte of plaintext before the tag has verified. -/
def State.opDecrypt (s : State) (t : KeyTask) : State :=
  s.withSrc t (KeySlot.srcCheck 6) fun l => s.withIn t fun bs u =>
    let iv := bs.take 12
    let n := t.inLen - 28 - t.aadLen
    let ct := (bs.drop (12 + t.aadLen)).take n
    if gcmTag l.mat iv ((bs.drop 12).take t.aadLen) ct = bs.drop (12 + t.aadLen + n) then
      u.keyDeliver t (gcmCtr l.mat iv ct) krOk
    else u.keyEnd krAuthFail 0

/-! Blobs (R468 to R471). -/

/-- Place of a blob copy in NVM (Table 16-5). -/
def blobAddr (i : Nat) (b : Bool) : Nat := (if b then 0x6000 else 0x4000) + 256 * i

/-- A blob copy's bytes. -/
def State.blobBytes (s : State) (i : Nat) (b : Bool) : List Byte := s.nvmBytes (blobAddr i b) 256


/-- Whether a copy is valid (R468). -/
def State.blobValid (s : State) (i : Nat) (b : Bool) : Bool :=
  let x := s.blobBytes i b
  x.take 4 == ascii "EKEY" && leField x 4 2 == 1 && leField x 6 2 == i && leField x 0x74 4 == crc32 (x.take 0x74)

/-- GEN of a copy. -/
def State.blobGen (s : State) (i : Nat) (b : Bool) : Nat := leField (s.blobBytes i b) 8 4

/-- The newer valid copy: `some true` is B (R425, R470). -/
def State.blobNewer (s : State) (i : Nat) : Option Bool :=
  let a := s.blobValid i false
  let b := s.blobValid i true
  if a && b then some (!aNewer (s.blobGen i false) (s.blobGen i true))
  else if a then some false else if b then some true else none

/-- BLOB_STATE follows the copies (Table 15-9). -/
def State.blobSync (s : State) (i : Nat) : State :=
  let n := s.blobNewer i
  let s1 := (s.setBit (KEY_BLOB_STATE_A_VALID.nth i) (s.blobValid i false)).setBit (KEY_BLOB_STATE_B_VALID.nth i) (s.blobValid i true)
  (s1.setBit (KEY_BLOB_STATE_NEWER.nth i) (n == some true)).setFld (KEY_BLOB_STATE_GEN.nth i)
    (match n with | some b => s.blobGen i b | none => 0)

/-- The wrap key of a blob with policy `p` (R469). -/
def State.wrapKey (s : State) (p : Nat) : List Byte :=
  let c := valBytes 4 p ++ ((List.range 4).filter fun k => p.testBit (16 + k)).flatMap s.meas
  kdf256 s.key.root (ascii "ELLITH-WRAP") c 256

/-- The bytes of a blob copy of a key (Table 15-7). -/
def State.blobImage (s : State) (l : KeySlot) (i gen : Nat) (iv : List Byte) : List Byte :=
  let p := l.policy
  let head := ascii "EKEY" ++ valBytes 2 1 ++ valBytes 2 i ++ valBytes 4 gen ++ valBytes 4 p ++
    valBytes 1 (l.origin + (if l.clear then 128 else 0)) ++ List.replicate 3 0#8 ++ valBytes 4 (s.fld KEY_ROOT_EPOCH_EPOCH)
  let k := s.wrapKey p
  let ct := gcmCtr k iv (l.mat ++ List.replicate (64 - l.mat.length) 0#8)
  let body := head ++ iv ++ ct ++ gcmTag k iv head ct
  body ++ valBytes 4 (crc32 body) ++ List.replicate 136 0#8

/-- STORE of a latched key (R470): the copy not in force is written; `fails` read-backs fail. -/
def State.storeKey (s : State) (t : KeyTask) (fails : Nat) (l : KeySlot) : State :=
  if ¬ s.rootValid then s.keyEnd krNoRoot 0
  else
    let i := t.blob
    let target : Bool := match s.blobNewer i with | some b => !b | none => false
    let gen := match s.blobNewer i with | some b => (s.blobGen i b + 1) % 2 ^ 32 | none => 1
    let iv := freeBytes s.freeVal 12
    let s1 := s.takeFree
    let w := s1.nvmStore (blobAddr i target) (s1.blobImage l i gen iv) fails
    let b := i + (if target then 2 ^ 5 else 0)
    if w.1 then ((w.2.blobSync i).raise keyPage 14 (b + gen * 2 ^ 6)).keyEnd krOk 0
    else ((w.2.blobSync i).raise keyPage 15 b).keyEnd krNvmFail 0

/-- STORE (R470). -/
def State.opStore (s : State) (t : KeyTask) (fails : Nat) : State :=
  s.withSrc t (KeySlot.srcCheck 12) (s.storeKey t fails)

/-- LOAD (R470): the newer valid copy alone is opened. -/
def State.opLoad (s : State) (t : KeyTask) : State :=
  match s.blobNewer t.blob with
  | none => s.keyEnd krNoBlob 0
  | some b =>
    if s.ksState t.dst = 1 then s.keyEnd krSlotBusy 0
    else if ¬ s.rootValid then s.keyEnd krNoRoot 0
    else
      let x := s.blobBytes t.blob b
      let p := leField x 0x0C 4
      let k := s.wrapKey p
      let iv := (x.drop 0x18).take 12
      let ct := (x.drop 0x24).take 64
      if gcmTag k iv (x.take 0x18) ct = (x.drop 0x64).take 16 then
        let o := leField x 0x10 1
        (s.fillSlot t.dst p (o % 4) 0x7F true (o.testBit 7) ((gcmCtr k iv ct).take (matLen (polType p)))).keyEnd krOk 0
      else s.keyEnd krAuthFail 0

/-- ERASE (R471): zeros over the older copy, then the newer; `fails` modulo 64 read-backs of the first write fail,
and `fails` / 64 of the second (R490 allows 32). -/
def State.opErase (s : State) (t : KeyTask) (fails : Nat) : State :=
  let i := t.blob
  let newer : Bool := match s.blobNewer i with | some b => b | none => true
  let z := List.replicate 256 0#8
  let a := s.nvmStore (blobAddr i (!newer)) z (fails % 64)
  if a.1 then
    let b := a.2.nvmStore (blobAddr i newer) z (fails / 64)
    (b.2.blobSync i).keyEnd (if b.1 then krOk else krNvmFail) 0
  else (a.2.blobSync i).keyEnd krNvmFail 0

/-! Attestation (R473, R474). -/

/-- KEY_ID of a key (Table 15-8). -/
def KeySlot.keyId (l : KeySlot) : List Byte :=
  if 4 ≤ polType l.policy then sha256 (pointBytes l.pub) else hmac256 l.mat (ascii "ELLITH-KEYID")

/-- The attestation statement on slot `n`, as latched (Table 15-8). -/
def State.statement (s : State) (n : Nat) (l : KeySlot) (nonce : List Byte) : List Byte :=
  let flags := 1 + (if l.clear then 0 else 2) + (if l.loaded then 4 else 0) +
    (if s.fld TIME_STATUS_STATE = 0 then 0 else 8) + (if l.clear then 16 else 0)
  ascii "EATT" ++ valBytes 2 1 ++ valBytes 2 0xF0 ++ s.deviceId ++
    valBytes 2 (natBits (s.reg SYS_SILICON_REV_BASE_REV.key).toNat 0 16) ++ nonce ++ valBytes 1 n ++
    valBytes 1 l.state ++ valBytes 1 (l.origin + (if l.clear then 128 else 0)) ++ valBytes 1 l.parent ++ valBytes 4 l.policy ++
    valBytes 4 (s.fld KEY_ROOT_EPOCH_EPOCH) ++ valBytes 4 (s.reg KEY_TAMPER_LOG_CAUSE.key).toNat ++
    (List.range 4).flatMap s.meas ++ l.keyId ++ valBytes 6 (s.nowNs / 1000000000) ++ valBytes 2 flags ++
    List.replicate 8 0#8

/-- ATTEST (R473): it reports the state of its slot, VALID or ORPHANED (R460). -/
def State.opAttest (s : State) (t : KeyTask) : State :=
  if ¬ s.rootValid then s.keyEnd krNoRoot 0
  else s.withSrc t (fun l => if l.state = 0 then krEmpty else krOk) fun l => s.withIn t fun bs u =>
    let st := u.statement t.src l bs
    let g := u.ecSign u.key.ident (sha256 st) 64
    g.2.keyDeliver t (st ++ g.1) krOk

/-- CHALLENGE (R474). -/
def State.opChallenge (s : State) (t : KeyTask) : State :=
  s.withSrc t (KeySlot.srcCheck 11) fun l => s.withIn t fun bs u =>
    let head := (List.range 4).flatMap u.meas ++ u.deviceId ++ [0#8, 0#8]
    u.keyDeliver t (head ++ hmac256 l.mat (ascii "ECR1" ++ bs ++ head)) krOk

/-- EXTEND (R463). -/
def State.opExtend (s : State) (t : KeyTask) : State := s.withIn t fun bs u => (u.measExtend 2 bs).keyEnd krOk 0

/-- ROOT_CREATE (R451): refused with TAMPER while the tamper line is asserted (R452); with a VALID root
the rule names no code, and the RESULT is a free value among those that end FAULTED (log entry 17). -/
def State.opRootCreate (s : State) : State :=
  if s.bit KEY_STATUS_TAMPER_ACTIVE then s.keyEnd krTamper 0
  else if s.rootValid then (s.takeFree).keyEnd (let r := s.freeVal % 13 + 1; if r < 8 then r else r + 2) 0
  else
    let e := s.entropy
    let s1 := (e.2.modKey fun k => { k with root := e.1, rootOk := true }).satFld KEY_ROOT_EPOCH_EPOCH 1
    let s2 := (s1.setFld KEY_STATUS_ROOT_STATE 1).deriveId
    (s2.raise keyPage 10 (s2.fld KEY_ROOT_EPOCH_EPOCH)).keyEnd krOk 0

/-- The running KEY task, where its OP is `op`; lengths that break Table 15-5 end it (R467). -/
def State.keyOp (s : State) (op : Nat) (f : KeyTask → State) : State :=
  match s.keyTask with
  | some t => if t.op = op then (if t.lenOk then f t else s.keyEnd krBadLen 0) else s
  | none => s

/-! The meanings: each is the running KEY task's operation (R466). -/

/-- KEY_DERIVE (R455). -/
def execKeyDerive (s : State) : Host.Outcome State Fault Refusal := .next (s.keyOp 0x01 fun t => s.opDerive t)
/-- KEY_GENERATE (R466). -/
def execKeyGenerate (s : State) : Host.Outcome State Fault Refusal := .next (s.keyOp 0x02 fun t => s.opGenerate t)
/-- KEY_CLEAR (R460, R466). -/
def execKeyClear (s : State) : Host.Outcome State Fault Refusal :=
  .next (s.keyOp 0x03 fun t => (s.clearSlot t.dst).keyEnd krOk 0)
/-- KEY_PUBKEY (R466). -/
def execKeyPubkey (s : State) : Host.Outcome State Fault Refusal := .next (s.keyOp 0x04 fun t => s.opPubkey t)
/-- KEY_HASH (R466). -/
def execKeyHash (s : State) : Host.Outcome State Fault Refusal := .next (s.keyOp 0x05 fun t => s.opHash t)
/-- KEY_MAC (R466). -/
def execKeyMac (s : State) : Host.Outcome State Fault Refusal := .next (s.keyOp 0x06 fun t => s.opMac t)
/-- KEY_SIGN (R466). -/
def execKeySign (s : State) : Host.Outcome State Fault Refusal := .next (s.keyOp 0x07 fun t => s.opSign t)
/-- KEY_VERIFY (R466). -/
def execKeyVerify (s : State) : Host.Outcome State Fault Refusal := .next (s.keyOp 0x08 fun t => s.opVerify t)
/-- KEY_ENCRYPT (R466). -/
def execKeyEncrypt (s : State) : Host.Outcome State Fault Refusal := .next (s.keyOp 0x09 fun t => s.opEncrypt t)
/-- KEY_DECRYPT (R466). -/
def execKeyDecrypt (s : State) : Host.Outcome State Fault Refusal := .next (s.keyOp 0x0A fun t => s.opDecrypt t)
/-- KEY_STORE (R470). -/
def execKeyStore (fails : Nat) (s : State) : Host.Outcome State Fault Refusal :=
  .next (s.keyOp 0x0B fun t => s.opStore t fails)
/-- KEY_LOAD (R470). -/
def execKeyLoad (s : State) : Host.Outcome State Fault Refusal := .next (s.keyOp 0x0C fun t => s.opLoad t)
/-- KEY_ERASE (R471). -/
def execKeyErase (fails : Nat) (s : State) : Host.Outcome State Fault Refusal :=
  .next (s.keyOp 0x0D fun t => s.opErase t fails)
/-- KEY_ATTEST (R473). -/
def execKeyAttest (s : State) : Host.Outcome State Fault Refusal := .next (s.keyOp 0x0E fun t => s.opAttest t)
/-- KEY_CHALLENGE (R474). -/
def execKeyChallenge (s : State) : Host.Outcome State Fault Refusal := .next (s.keyOp 0x0F fun t => s.opChallenge t)
/-- KEY_EXTEND (R463). -/
def execKeyExtend (s : State) : Host.Outcome State Fault Refusal := .next (s.keyOp 0x10 fun t => s.opExtend t)
/-- ROOT_CREATE (R451). -/
def execRootCreate (s : State) : Host.Outcome State Fault Refusal := .next (s.keyOp 0x11 fun _ => s.opRootCreate)

end Sys2Proof.Machine
end

