-- ==== Sys2Proof/Machine/Net.lean ====
section
/-! DEFINITION. Network ports (spec/09): modes, filters and receive queues, the transmit arbiter, transmit rings and segmentation, pause, low-power idle, the timestamp queue, and the meanings of their commands but for RX_FRAME, whose flows stand in a later file. -/

namespace Sys2Proof.Machine

open Sys2Proof

/-- The page of port `p` (R321). -/
def netPage (p : Nat) : Nat := 0x50 + p

/-- Port `p` beside its page. -/
def State.net (s : State) (p : Nat) : NetS := mapGet (fun _ => NetS.idle) s.nets p

/-- `s` with port `p` changed by `f`. -/
def State.modNet (s : State) (p : Nat) (f : NetS → NetS) : State :=
  { s with nets := mapSet (fun _ => NetS.idle) s.nets p (f (s.net p)) }

/-- MODE of port `p` (Table 09-1); OFF in recovery mode (R481). -/
def State.netMode (s : State) (p : Nat) : Nat := if s.bit SYS_STATUS_RECOVERY then 0 else s.fld (NET_CTRL_MODE.inst p)

/-- Whether the link is up. -/
def State.netUp (s : State) (p : Nat) : Bool := s.bit (NET_STATUS_LINK.inst p)

/-- Picoseconds of one bit on the line (Table 09-1): SGMII by SPEED. -/
def State.bitPs (s : State) (p : Nat) : Nat :=
  let m := s.netMode p
  if m = 1 then 40 else if m = 2 then 100 else if m = 3 then 1000
  else
    let sp := s.fld (NET_STATUS_SPEED.inst p)
    if sp = 0 then 100000 else if sp = 1 then 10000 else 1000

/-- Picoseconds of a NET grid tick (Table 09-1). -/
def State.netTickPs (s : State) (p : Nat) : Nat :=
  if s.netMode p = 1 then 2560 else if s.netMode p = 2 then 6400 else 8000

/-- Picoseconds in units of 2^-16 ns. -/
def psUnits (ps : Nat) : Nat := ps * unitsPerNs / 1000

/-- A stamp with a signed correction in ps (R312). -/
def adjStamp (stamp : Nat) (ps : Int) : Nat := ((stamp : Int) + ps * unitsPerNs / 1000).toNat

/-! Bytes. -/

/-- Big-endian number of `n` bytes at `o`. -/
def beField (bs : List Byte) (o n : Nat) : Nat := bytesValBE ((bs.drop o).take n)

/-- `bs` with `v` put at `o`; bytes beyond the end are not written. -/
def putBytes (bs : List Byte) (o : Nat) (v : List Byte) : List Byte :=
  bs.take o ++ (v ++ (bs.drop (o + v.length))).take (bs.length - o)

/-- Ones' complement sum of big-endian 16-bit words. -/
def onesSum (bs : List Byte) : Nat :=
  let t := ((List.range ((bs.length + 1) / 2)).map fun i => beField (bs ++ [0]) (2 * i) 2).sum
  let f (x : Nat) : Nat := x % 65536 + x / 65536
  f (f (f t))

/-- The Internet checksum of bytes. -/
def inetSum (bs : List Byte) : Nat := 65535 - onesSum bs

/-! Frames as the filters and the templates see them. -/

/-- Offset of the bytes after the EtherType, past one tag (R294). -/
def l3Off (bs : List Byte) : Nat := if beField bs 12 2 = 0x8100 then 18 else 14

/-- The EtherType after the tag, if any. -/
def etherType (bs : List Byte) : Nat := beField bs (l3Off bs - 2) 2

/-- Whether the frame carries an IEEE 802.1Q tag. -/
def tagged (bs : List Byte) : Bool := beField bs 12 2 == 0x8100

/-- Length of the IPv4 header at `o`. -/
def ipLen (bs : List Byte) (o : Nat) : Nat := beField bs o 1 % 16 * 4

/-- Whether a good IPv4 header follows (R294). -/
def ipGood (bs : List Byte) : Bool :=
  let o := l3Off bs
  etherType bs == 0x0800 && beField bs o 1 / 16 == 4 && decide (5 ≤ beField bs o 1 % 16) &&
    decide (o + ipLen bs o ≤ bs.length) && inetSum ((bs.drop o).take (ipLen bs o)) == 0

/-- Destination address, and whether the frame is an unfragmented UDP datagram, with its port and payload. -/
def ipDst (bs : List Byte) : Nat := beField bs (l3Off bs + 16) 4
def ipSrc (bs : List Byte) : Nat := beField bs (l3Off bs + 12) 4
def isUdp (bs : List Byte) : Bool :=
  ipGood bs && beField bs (l3Off bs + 9) 1 == 17 && beField bs (l3Off bs + 6) 2 % 2 ^ 14 == 0
def udpOff (bs : List Byte) : Nat := l3Off bs + ipLen bs (l3Off bs)
def udpDport (bs : List Byte) : Nat := beField bs (udpOff bs + 2) 2
def udpPayload (bs : List Byte) : List Byte := (bs.drop (udpOff bs + 8)).take (beField bs (udpOff bs + 4) 2 - 8)

/-- Whether filter `n` of port `p`, in force, matches (R294). -/
def State.filterHit (s : State) (p n : Nat) (bs : List Byte) : Bool :=
  let f (x : Fld) : Nat := s.act ((x.inst p).nth n)
  let b (x : Fld) : Bool := f x == 1
  let vid := beField bs 14 2 % 4096
  let pcp := beField bs 14 2 / 8192
  let vm := f NET_FLT_MATCH_VLAN_MODE
  let pre := f NET_FLT_MATCH_IP_PREFIX
  let ip := ipGood bs && ipDst bs / 2 ^ (32 - pre) == f NET_FLT_IP_IP_DST / 2 ^ (32 - pre)
  b NET_FLT_MATCH_EN &&
    (vm == 0 || (vm == 1 && !tagged bs) || (vm == 2 && tagged bs && vid == f NET_FLT_MATCH_VID) || (vm == 3 && tagged bs)) &&
    (!b NET_FLT_MATCH_PCP_EN || (tagged bs && pcp == f NET_FLT_MATCH_PCP)) &&
    (!b NET_FLT_MATCH_ETYPE_EN || etherType bs == f NET_FLT_PORTS_ETYPE) &&
    (!b NET_FLT_MATCH_IP_EN || ip) && (!b NET_FLT_MATCH_UDP_EN || (ip && isUdp bs && udpDport bs == f NET_FLT_PORTS_UDP_DPORT))

/-- The enabled filters that match, lowest number first. -/
def State.filterHits (s : State) (p : Nat) (bs : List Byte) : List Nat := (List.range 32).filter fun n => s.filterHit p n bs

/-! Receive queues (R297, R298). -/

/-- What becomes of a frame whose filter has decided: its filter (none: no filter matched), queue, flow. -/
structure RxInfo where
  filter : Option Nat
  queue : Nat
  flow : Nat
  len : Nat
  trunc : Bool
  bad : Bool
  stamp : Nat
  bytes : List Byte
  deriving DecidableEq, Repr

/-- A frame is dropped at a queue (R298). -/
def State.qDrop (s : State) (p q : Nat) : State :=
  (s.incFld ((NET_RX_QDROP_COUNT.inst p).nth q) 1).raise (netPage p) 11 q

/-- The completion record of Table 09-2; a length received that ORIG_LEN does not hold reads `v` (log entry 30). -/
def rxRecord (i : RxInfo) (off pass v : Nat) : List Byte :=
  let w0 := i.bytes.length + (if i.trunc then 2 ^ 14 else 0) + (if i.bad then 2 ^ 15 else 0) + i.filter.getD 0 * 2 ^ 16 +
    (if i.filter.isNone then 2 ^ 21 else 0) + (if tagged i.bytes then 2 ^ 22 else 0) + off * 2 ^ 28 + pass % 256 * 2 ^ 56
  let w1 := st32Of (i.stamp / unitsPerNs) + i.stamp % unitsPerNs * 2 ^ 32 +
    (if i.len < 2 ^ 14 + 4 then i.len - 4 else v % 2 ^ 14) * 2 ^ 48
  valBytes 8 w0 ++ valBytes 8 w1

/-- A frame goes into a RING queue (R298). -/
def State.ringRx (s : State) (p : Nat) (i : RxInfo) : State :=
  let q := i.queue
  let f (x : Fld) : Fld := (x.inst p).nth q
  let size := 2 ^ s.act (f NET_RXQ_CFG_DATA_LOG2) / 8
  let n := 2 ^ s.act (f NET_RXQ_CFG_CPL_LOG2) / 16
  let tail := s.fld (f NET_RXQ_DATA_TAIL_OFF) % size
  let head := s.fld (f NET_RXQ_DATA_HEAD_OFF) % size
  let ct := s.fld (f NET_RXQ_CPL_TAIL_INDEX) % n
  let ch := s.fld (f NET_RXQ_CPL_HEAD_INDEX) % n
  let units := (i.bytes.length + 7) / 8
  let skip := if size < tail + units then size - tail else 0
  let start := if skip = 0 then tail else 0
  let used := (tail + size - head) % size
  if size ≤ used + skip + units ∨ (ct + 1) % n = ch then s.qDrop p q
  else
    let pass := mapGet (fun _ => 1) (s.net p).pass q
    let db := s.act (f NET_RXQ_DATA_BASE_BASE) * 4096 + 8 * start
    let cb := s.act (f NET_RXQ_CPL_BASE_BASE) * 4096 + 16 * ct
    let s0 := if i.len < 2 ^ 14 + 4 then s else s.takeFree
    let s1 := if s0.inDram db i.bytes.length then s0.writeDram db i.bytes else s0
    let s2 := if s1.inDram cb 16 then s1.writeDram cb (rxRecord i start pass s.freeVal) else s1
    let s3 := (s2.setFld (f NET_RXQ_DATA_TAIL_OFF) ((start + units) % size)).setFld (f NET_RXQ_CPL_TAIL_INDEX) ((ct + 1) % n)
    let s4 := if ct + 1 = n then s3.modNet p fun x => { x with pass := mapSet (fun _ => 1) x.pass q (pass + 1) } else s3
    if s.act (f NET_RXQ_CFG_NOTIFY) = 1 then s4.raise (netPage p) 10 q else s4

/-! Pause (R309, R310). -/

/-- A PAUSE frame of `quanta` (R309). -/
def State.pauseFrame (s : State) (p quanta : Nat) : State :=
  let s1 := s.incFld (NET_PAUSE_RX_COUNT.inst p) 1
  if s.bit (NET_STATUS_PAUSE_HOLDOFF.inst p) then s1.incFld (NET_PAUSE_IGNORED_COUNT.inst p) 1
  else if ¬ s.bit (NET_PAUSE_CFG_HONOUR.inst p) then s1
  else if quanta = 0 then s1.setBit (NET_STATUS_PAUSED.inst p) false
  else
    let paused := s.bit (NET_STATUS_PAUSED.inst p)
    (s1.setBit (NET_STATUS_PAUSED.inst p) true).modNet p fun x => { x with
      pauseEnd := s.time.mono + psUnits (quanta * 512 * s.bitPs p)
      pauseSince := if paused then x.pauseSince else s.time.mono }

/-! The receive buffer (R299). -/

/-- Guaranteed positions of class RX of one port (Table 09-7). -/
def State.rxPositions (s : State) (p : Nat) : Nat :=
  let m := s.netMode p
  if m = 1 then 13 else if m = 2 then 6 else if m = 0 then 0 else 1

/-- Bytes in the port's receive buffer now: DRAM has taken them at the guaranteed rate of the port, 64 bytes a position
in each 250 ns turn, but for `lost` positions that a DRAM fault left unserved (R299, R319). -/
def State.rxLevel (s : State) (p lost : Nat) : Nat :=
  let n := s.net p
  n.rxFill - ((s.time.mono - n.rxAt) * (64 * s.rxPositions p) / (250 * unitsPerNs) - 64 * lost)

/-- A frame of `len` bytes goes through the receive buffer. -/
def State.rxBuffer (s : State) (p lost len : Nat) : State :=
  s.modNet p fun x => { x with rxFill := min 65536 (s.rxLevel p lost + len), rxAt := s.time.mono }

/-! Reception (R293 to R298). -/

/-- The filter decision of a frame: every filter that matches counts it, and the first decides; counters, and the queue it is steered to; none where it is dropped. -/
def State.steer (s : State) (p : Nat) (bs : List Byte) : Option (Option Nat × Nat × Nat) × State :=
  let hits := s.filterHits p bs
  let s1 := hits.foldl (fun (t : State) (n : Nat) => t.incFld ((NET_FLT_HITS_COUNT.inst p).nth n) 1) s
  match hits.head? with
  | some n =>
    if s.act ((NET_FLT_ACT_DROP.inst p).nth n) = 1 then (none, s1)
    else (some (some n, s.act ((NET_FLT_ACT_QUEUE.inst p).nth n), s.act ((NET_FLT_ACT_FLOW.inst p).nth n)), s1)
  | none =>
    let s1 := s.incFld (NET_RX_NOMATCH_COUNT.inst p) 1
    if s.act (NET_RX_DEFAULT_DROP.inst p) = 1 then (none, s1)
    else (some (none, s.act (NET_RX_DEFAULT_QUEUE.inst p), 0), s1)

/-- A frame is received whole (R293 to R299); `flow` takes it where its queue's consumer is FLOW. -/
def State.receive (s : State) (flow : RxInfo → State → State) (p : Nat) (bs : List Byte) (fcsOk : Bool) (stamp : Nat)
    (lost : Nat) : State :=
  let len := bs.length + 4
  if ¬ s.netUp p then s
  else if 65536 ≤ s.rxLevel p lost then ((s.rxBuffer p lost 0).incFld (NET_RX_OVF_COUNT.inst p) 1).raise (netPage p) 12 0
  else
    let s0 := s.incFld (NET_RX_FRAMES_COUNT.inst p) 1
    if len < 64 then s0.incFld (NET_RX_RUNT_COUNT.inst p) 1
    else if beField bs 12 2 = 0x8808 then
      if ¬ fcsOk then s0.incFld (NET_RX_FCS_BAD_COUNT.inst p) 1
      else if beField bs 14 2 = 1 then s0.pauseFrame p (beField bs 16 2)
      else s0.incFld (NET_RX_MACCTL_COUNT.inst p) 1
    else
      let r := s0.steer p bs
      let q := match r.1 with | some x => x.2.1 | none => 0
      let keep := s.act ((NET_RXQ_CFG_KEEP_BAD.inst p).nth q) == 1
      if ¬ fcsOk ∧ (r.1.isNone ∨ ¬ keep) then r.2.incFld (NET_RX_FCS_BAD_COUNT.inst p) 1
      else
        let max := s.fld (NET_MAX_LEN_BYTES.inst p)
        let trunc := decide (max < len)
        let s1 := if trunc then r.2.incFld (NET_RX_TRUNC_COUNT.inst p) 1 else r.2
        match r.1 with
        | none => s1
        | some (f, q, fl) =>
          let i : RxInfo := ⟨f, q, fl, len, trunc, !fcsOk, adjStamp stamp (s.sfld (NET_TS_ADJ_RX_PS_PS.inst p)),
            if trunc then bs.take (max - 4) else bs⟩
          let c := s.act ((NET_RXQ_CFG_CONSUMER.inst p).nth q)
          let s2 := s1.rxBuffer p lost (i.bytes.length + 16)
          if c = 0 then s2.ringRx p i else if c = 1 then flow i s2
          else s1.incFld ((NET_RX_QDROP_COUNT.inst p).nth q) 1

/-! The TX buffer (R302). -/

/-- Bytes a frame takes in the TX buffer, FCS included. -/
def TxFrame.size (f : TxFrame) : Nat := f.bytes.length + 4

/-- Whether a frame is of the part that TXBUF_PACED gives to sources 1 and 3. -/
def TxFrame.paced (f : TxFrame) : Bool := f.src == 1 || f.src == 3

/-- Whether two frames are of one source, and of one ring. -/
def TxFrame.like (f g : TxFrame) : Bool := f.src == g.src && f.ring == g.ring

/-- Whether a frame finds room beside those in the buffer. -/
def roomFor (kib : Nat) (buf : List TxFrame) (f : TxFrame) : Bool :=
  decide (((buf.filter fun g => g.paced == f.paced).map fun g => g.size).sum + f.size ≤ (if f.paced then kib else 256 - kib) * 1024)

/-- Frames become whole as there is room, each source in its order. -/
def moveIn (kib : Nat) (q : List TxFrame) (buf rest : List TxFrame) : List TxFrame × List TxFrame :=
  match q with
  | [] => (buf, rest)
  | f :: t =>
    if rest.any f.like ∨ ¬ roomFor kib buf f then moveIn kib t buf (rest ++ [f]) else moveIn kib t (buf ++ [f]) rest

/-- The buffer is filled from the frames that wait; a change of TXBUF_PACED takes effect while it is empty (Table 09-6). -/
def State.fillTx (s : State) (p : Nat) : State :=
  let n := s.net p
  let kib := if n.buf.isEmpty then min 256 (s.fld (NET_TXBUF_PACED_KIB.inst p)) else n.pacedKib
  let r := moveIn kib n.queue n.buf []
  s.modNet p fun x => { x with buf := r.1, queue := r.2, pacedKib := kib }

/-- Frames built for port `p` go into its buffer as there is room (R302). -/
def State.putTx (s : State) (p : Nat) (l : List TxFrame) : State :=
  if l.isEmpty then s else (s.modNet p fun x => { x with queue := x.queue ++ l }).fillTx p

/-- A frame of sources 1 to 3 is handed to a port; with the link down it is discarded (R303). -/
def State.handTx (s : State) (p : Nat) (f : TxFrame) : State :=
  if s.netUp p then s.putTx p [f] else s.incFld (NET_TX_DOWN_DROP_COUNT.inst p) 1

/-- A paced or sACN frame is handed to a port. -/
def State.handFrame (s : State) (p src at_ : Nat) (bs : List Byte) : State :=
  s.handTx p ⟨src, 0, at_, bs, none, none, none, none⟩

/-! Transmit descriptors (R304 to R308). -/

/-- Completion codes (Table 09-4). -/
def tcOk : Nat := 0
def tcBad : Nat := 1
def tcLong : Nat := 2
def tcPoison : Nat := 3
def tcDown : Nat := 4
def tcFlushed : Nat := 5
def tcRange : Nat := 6
def tcLate : Nat := 7

/-- A descriptor's words. -/
structure TxDesc where
  w : List Nat
  deriving DecidableEq, Repr

/-- Word `i`. -/
def TxDesc.word (d : TxDesc) (i : Nat) : Nat := d.w.getD i 0
def TxDesc.hdrAddr (d : TxDesc) : Nat := natBits (d.word 0) 0 40
def TxDesc.hdrLen (d : TxDesc) : Nat := natBits (d.word 0) 40 8
def TxDesc.mode (d : TxDesc) : Nat := natBits (d.word 0) 48 3
def TxDesc.flag (d : TxDesc) (i : Nat) : Bool := (d.word 0).testBit i
def TxDesc.payAddr (d : TxDesc) : Nat := natBits (d.word 1) 0 40
def TxDesc.payLen (d : TxDesc) : Nat := natBits (d.word 2) 0 24
def TxDesc.seg (d : TxDesc) : Nat := natBits (d.word 2) 32 14
def TxDesc.seq (d : TxDesc) : Nat := natBits (d.word 3) 0 32
def TxDesc.tsId (d : TxDesc) : Nat := natBits (d.word 3) 32 16
def TxDesc.rowBytes (d : TxDesc) : Nat := natBits (d.word 4) 0 16
def TxDesc.firstRow (d : TxDesc) : Nat := natBits (d.word 4) 16 15
def TxDesc.field (d : TxDesc) : Bool := (d.word 4).testBit 31
def TxDesc.firstByte (d : TxDesc) : Nat := natBits (d.word 4) 32 16
def TxDesc.pgBytes (d : TxDesc) : Nat := natBits (d.word 4) 48 8
def TxDesc.pgPixels (d : TxDesc) : Nat := natBits (d.word 4) 56 8
def TxDesc.launch (d : TxDesc) : Nat := natBits (d.word 5) 0 32
def TxDesc.ptpOff (d : TxDesc) : Nat := natBits (d.word 5) 32 16

/-- Whether the reserved fields of Table 09-4 are 0. -/
def TxDesc.reservedOk (d : TxDesc) : Bool :=
  natBits (d.word 0) 59 5 == 0 && natBits (d.word 1) 40 24 == 0 && natBits (d.word 2) 24 8 == 0 && natBits (d.word 2) 46 18 == 0 &&
    natBits (d.word 3) 48 16 == 0 && natBits (d.word 5) 48 16 == 0 && natBits (d.word 7) 4 4 == 0 && natBits (d.word 7) 32 32 == 0

/-- Whether a template parses, HDR_LEN ending exactly with its last header (R307). -/
def templateOk (mode : Nat) (bs : List Byte) : Bool :=
  let o := l3Off bs
  let u := o + ipLen bs o
  let e := if mode = 1 then u + 8 else u + 20
  etherType bs == 0x0800 && beField bs o 1 / 16 == 4 && decide (5 ≤ beField bs o 1 % 16) && beField bs (o + 9) 1 == 17 &&
    bs.length == e && (mode == 1 || (beField bs (u + 8) 1 / 64 == 2 && beField bs (u + 8) 1 / 16 % 2 == 0 && beField bs (u + 8) 1 % 16 == 0))

/-- A sample row data header: length, row, pixel offset (R308). -/
structure Srd where
  n : Nat
  row : Nat
  off : Nat
  deriving DecidableEq, Repr

/-- The SRDs of one frame and the position after it (R308). -/
def srdFrame (d : TxDesc) (row byte room left cnt : Nat) : List Srd × Nat × Nat × Nat :=
  match cnt with
  | 0 => ([], row, byte, left)
  | k + 1 =>
    if room = 0 ∨ left = 0 then ([], row, byte, left)
    else
      let n := min room (d.rowBytes - byte)
      let x : Srd := ⟨n, row, byte / d.pgBytes * d.pgPixels⟩
      let b := byte + n
      let r := if b = d.rowBytes then srdFrame d (row + 1) 0 (room - n) (left - n) k else srdFrame d row b (room - n) (left - n) k
      (x :: r.1, r.2)

/-- The frames of a 2110-20 send (R308): the SRDs of each. -/
def srdFrames (d : TxDesc) (row byte left fuel : Nat) : List (List Srd) :=
  match fuel with
  | 0 => []
  | k + 1 =>
    if left = 0 then []
    else
      let r := srdFrame d row byte (min d.seg left) left (if d.flag 51 then 2 else 1)
      r.1 :: srdFrames d r.2.1 r.2.2.1 r.2.2.2 k

/-- The payload header of a 2110-20 frame (R308). -/
def srdHeader (ext : Nat) (field : Bool) (l : List Srd) : List Byte :=
  valBytesBE 2 ext ++ (l.zip (List.range l.length)).flatMap fun q =>
    let c := if q.2 + 1 < l.length then 2 ^ 15 else 0
    valBytesBE 2 q.1.n ++ valBytesBE 2 (q.1.row + (if field then 2 ^ 15 else 0)) ++ valBytesBE 2 (q.1.off + c)

/-- The share of each frame: payload header, offset and length of its data (R306, R308). -/
def TxDesc.shares (d : TxDesc) : List (List Byte × Nat × Nat) :=
  if d.mode = 0 then [([], 0, d.payLen)]
  else if d.mode = 3 then
    let l := srdFrames d d.firstRow d.firstByte d.payLen d.payLen
    (l.zip (List.range l.length)).map fun q =>
      (srdHeader (natBits (d.seq + q.2) 16 16) d.field q.1, ((l.take q.2).map fun x => (x.map fun y => y.n).sum).sum,
        (q.1.map fun y => y.n).sum)
  else
    let k := max 1 ((d.payLen + d.seg - 1) / d.seg)
    (List.range k).map fun i => ([], i * d.seg, min d.seg (d.payLen - i * d.seg))

/-- The UDP checksum of a frame whose UDP header stands at `u` (RFC 768): 0 is sent as all ones. -/
def udpSum (bs : List Byte) (o u : Nat) : Nat :=
  let c := inetSum ((bs.drop (o + 12)).take 8 ++ [0, 17] ++ valBytesBE 2 (bs.length - u) ++ putBytes (bs.drop u) 6 [0, 0])
  if c = 0 then 65535 else c

/-- Frame `k` of `n` from its template and payload (Table 09-5). -/
def TxDesc.frame (d : TxDesc) (t : List Byte) (k n : Nat) (head pay : List Byte) : List Byte :=
  let b0 := t ++ head ++ pay
  if d.mode = 0 then b0
  else
    let o := l3Off t
    let u := o + ipLen t o
    let b1 := putBytes b0 (o + 4) (valBytesBE 2 (beField t (o + 4) 2 + k))
    let b2 := putBytes b1 (o + 2) (valBytesBE 2 (b0.length - o))
    let b3 := putBytes b2 (o + 10) [0, 0]
    let b4 := putBytes b3 (o + 10) (valBytesBE 2 (inetSum ((b3.drop o).take (ipLen t o))))
    let b5 := putBytes b4 (u + 4) (valBytesBE 2 (b0.length - u))
    let mark := if d.flag 53 ∧ k + 1 = n then 128 else 0
    let b6 := if d.mode = 1 then b5
      else putBytes (putBytes b5 (u + 9) [BitVec.ofNat 8 (beField t (u + 9) 1 % 128 + mark)]) (u + 10) (valBytesBE 2 (d.seq + k))
    putBytes b6 (u + 6) (if d.flag 52 then valBytesBE 2 (udpSum b6 o u) else [0, 0])

/-- The checks of R305, R308, R314 and R316; the code, `tcOk` where the descriptor may be sent. -/
def State.descFault (s : State) (p : Nat) (d : TxDesc) (t1 t2 : List Byte) : Nat :=
  let pair := d.flag 58
  let l := d.shares
  if ¬ d.reservedOk ∨ 3 < d.mode ∨ d.hdrLen < 14 ∨ 128 < d.hdrLen ∨ (d.flag 55 ∧ d.mode ≠ 0) ∨ (pair ∧ p % 2 = 1) then tcBad
  else if ¬ s.inDram d.hdrAddr d.hdrLen ∨ (pair ∧ ¬ s.inDram (d.hdrAddr + 128) d.hdrLen) ∨ ¬ s.inDram d.payAddr d.payLen then tcRange
  else if d.mode ≠ 0 ∧ (¬ templateOk d.mode t1 ∨ (pair ∧ ¬ templateOk d.mode t2) ∨ d.seg = 0 ∨ 9000 < d.seg) then tcBad
  else if d.mode = 3 ∧ (d.pgBytes = 0 ∨ d.pgPixels = 0 ∨ d.rowBytes = 0 ∨ d.rowBytes % max 1 d.pgBytes ≠ 0 ∨ d.seg % max 1 d.pgBytes ≠ 0 ∨
      d.firstByte % max 1 d.pgBytes ≠ 0 ∨ d.rowBytes ≤ d.firstByte ∨
      32767 < d.firstRow + (d.firstByte + d.payLen - 1) / max 1 d.rowBytes) then tcBad
  else if l.any fun x => decide (9600 < d.hdrLen + x.1.length + x.2.2 + 4) then tcLong
  else tcOk

/-- Ring `r` of port `p`: base address and number of descriptors. -/
def State.ringBase (s : State) (p r : Nat) : Nat := s.act ((NET_TXR_BASE_BASE.inst p).nth r) * 4096
def State.ringSize (s : State) (p r : Nat) : Nat := 2 ^ s.act ((NET_TXR_CFG_LOG2.inst p).nth r)

/-- The descriptor in progress on a ring. -/
def State.ringRun (s : State) (p r : Nat) : Option RingRun := ((s.net p).rings.find? fun q => q.1 == r).map fun q => q.2

/-- `s` with a ring's descriptor in progress set or removed. -/
def State.setRun (s : State) (p r : Nat) (x : Option RingRun) : State :=
  s.modNet p fun n => { n with rings := (n.rings.filter fun q => q.1 != r) ++ (match x with | some y => [(r, y)] | none => []) }

/-- A descriptor completes (R304, R305): words 6 and 7 are written back with the worse code of the legs, the later in
Table 09-4 (R316), TXR_HEAD advances. -/
def State.descDone (s : State) (p r : Nat) (x : RingRun) : State :=
  let a := s.ringBase p r + 64 * x.idx
  let frames := max x.sent1 x.sent2
  let w6 := (x.seq + frames) % 2 ^ 32 + (match x.first with | some w => w.toNat | none => 0) * 2 ^ 32
  let code := max x.code x.code2
  let w7 := 1 + code * 2 + frames % 2 ^ 24 * 2 ^ 8
  let s1 := if s.inDram (a + 48) 16 then s.writeDram (a + 48) (valBytes 8 w6 ++ valBytes 8 w7) else s
  let s2 := (s1.setRun p r none).setFld ((NET_TXR_HEAD_INDEX.inst p).nth r) ((x.idx + 1) % s.ringSize p r)
  let s3 := if x.notify then s2.raise (netPage p) 13 (r + x.idx * 4) else s2
  if code = tcOk ∨ code = tcLate then s3 else s3.raise (netPage p) 14 (r + x.idx * 4 + code * 2 ^ 18)

/-- The frames of a descriptor up to the first with an uncorrectable payload word: payload header, data. -/
def State.readShares (s : State) (d : TxDesc) (l : List (List Byte × Nat × Nat)) : List (List Byte × List Byte) × Bool × State :=
  match l with
  | [] => ([], false, s)
  | x :: t =>
    let r := s.readDram (d.payAddr + x.2.1) x.2.2
    if r.2.1 then ([], true, r.2.2)
    else
      let rest := r.2.2.readShares d t
      ((x.1, r.1) :: rest.1, rest.2)

/-- The port takes the descriptor at TXR_HEAD (R304, R305); while the link is down every one completes with LINK_DOWN
(R303), but for a pair whose other leg is up (R316). -/
def State.takeDesc (s : State) (p r idx : Nat) : State :=
  let a := s.ringBase p r + 64 * idx
  let run (code : Nat) : RingRun := ⟨idx, 0, 0, 0, none, code, tcOk, false, 0, 0, false⟩
  if ¬ s.inDram a 64 then s.descDone p r (run (if s.netUp p then tcRange else tcDown))
  else
    let h := s.readDramWords a 8
    let d : TxDesc := ⟨h.1⟩
    let pair := d.flag 58
    let base : RingRun := { run tcOk with seq := d.seq, notify := d.flag 57 }
    if ¬ s.netUp p ∧ (h.2.1 ∨ ¬ (pair ∧ p % 2 = 0 ∧ s.netUp (p + 1))) then h.2.2.descDone p r { base with code := tcDown }
    else if h.2.1 then h.2.2.descDone p r { base with code := tcPoison }
    else
      let t1 := if h.2.2.inDram d.hdrAddr d.hdrLen then h.2.2.readDram d.hdrAddr d.hdrLen else ([], false, h.2.2)
      let t2 := if pair ∧ t1.2.2.inDram (d.hdrAddr + 128) d.hdrLen then t1.2.2.readDram (d.hdrAddr + 128) d.hdrLen else ([], false, t1.2.2)
      let c := t2.2.2.descFault p d t1.1 t2.1
      if c ≠ tcOk then t2.2.2.descDone p r { base with code := c }
      else if t1.2.1 ∨ t2.2.1 then t2.2.2.descDone p r { base with code := tcPoison }
      else
        let f := t2.2.2.readShares d d.shares
        let n := d.shares.length
        let ks := f.1.zip (List.range f.1.length)
        let frames (t : List Byte) : List TxFrame := ks.map fun q =>
          ⟨4, r, 0, d.frame t q.2 n q.1.1 q.1.2, if d.flag 54 then some ((d.tsId + q.2) % 65536) else none,
            if d.flag 55 then some d.ptpOff else none, some (p, r), none⟩
        let l1 := if s.netUp p then frames t1.1 else []
        let l2 := if pair ∧ s.netUp (p + 1) then frames t2.1 else []
        let s2 := (f.2.2.putTx p l1).putTx (p + 1) l2
        let past := (d.launch + 2 ^ 32 - s.st32) % 2 ^ 32
        let late := decide (past = 0 ∨ 2 ^ 31 ≤ past)
        let leg (q : Nat) : Nat := if ¬ s.netUp q then tcDown else if f.2.1 then tcPoison else if d.flag 56 ∧ late then tcLate else tcOk
        s2.setRun p r (some { base with
          left := l1.length + l2.length
          code := leg p
          code2 := if pair then leg (p + 1) else tcOk
          held := d.flag 56 && !late
          launch := d.launch })

/-! The timestamp queue (R315). -/

/-- TSQ_LEVEL follows the queue. -/
def State.tsqSync (s : State) (p : Nat) : State := s.setFld (NET_TSQ_LEVEL_ENTRIES.inst p) (s.net p).tsq.length

/-- Whether an entry is the gap. -/
def TsEnt.isGap (e : TsEnt) : Bool := match e with | .gap _ _ _ => true | _ => false

/-- A stamp reaches the queue (R315). -/
def State.tsqPut (s : State) (p stamp id : Nat) : State :=
  let q := (s.net p).tsq
  if (q.filter fun e => !e.isGap).length < 64 then
    let frozen := q.map fun e => match e with | .gap f l _ => TsEnt.gap f l true | x => x
    (s.modNet p fun x => { x with tsq := frozen ++ [.stamp (st32Of (stamp / unitsPerNs)) (stamp % unitsPerNs) id] }).tsqSync p
  else
    let q1 := if q.any TsEnt.isGap then
        q.map fun e => match e with | .gap f l false => TsEnt.gap f (min (l + 1) 65535) false | x => x
      else q ++ [.gap id 1 false]
    let s1 := (s.modNet p fun x => { x with tsq := q1 }).tsqSync p
    (s1.incFld (NET_TS_LOST_COUNT_COUNT.inst p) 1).raise (netPage p) 17 id

/-- A read of TSQ_0 pops the head and snapshots TSQ_1 and TSQ_2 (R315). -/
def State.tsqRead (s : State) (q : Req) (p : Nat) : Word × State :=
  let v : Nat × Nat × Nat := match (s.net p).tsq with
    | [] => (0, 0, 0)
    | .stamp st fr id :: _ => (st, fr + id * 65536, 1)
    | .gap f l _ :: _ => (0, f * 65536, 2 + l * 65536)
  let s1 := (s.modNet p fun x => { x with tsq := x.tsq.drop 1 }).tsqSync p
  let s2 := (s1.setSnap q (regKey (netPage p) 0x070) (BitVec.ofNat 32 v.2.1)).setSnap q (regKey (netPage p) 0x074) (BitVec.ofNat 32 v.2.2)
  (BitVec.ofNat 32 v.1, s2)

/-! The transmit arbiter (R300 to R303, R312, R314). -/

/-- One-step insertion at the launch instant `t` (R314). -/
def oneStepFrame (bs : List Byte) (off t : Nat) : List Byte :=
  let ns := t / unitsPerNs
  let b1 := putBytes bs (off + 34) (valBytesBE 6 (ns / 1000000000) ++ valBytesBE 4 (ns % 1000000000))
  let b2 := putBytes b1 (off + 8) (valBytesBE 8 (beField bs (off + 8) 8 + t % unitsPerNs))
  let o := l3Off b2
  let u := o + ipLen b2 o
  if isUdp b2 ∧ beField b2 (u + 6) 2 ≠ 0 then putBytes b2 (u + 6) (valBytesBE 2 (udpSum b2 o u)) else b2

/-- Line time of a frame with its preamble, FCS and inter-frame gap, in units of 2^-16 ns. -/
def State.lineTime (s : State) (p : Nat) (bs : List Byte) : Nat := psUnits ((bs.length + 24) * 8 * s.bitPs p)

/-- The earliest instant of the paced frames handed to the port. -/
def NetS.firstPaced (n : NetS) : Option Nat :=
  (n.buf ++ n.queue).foldl (fun m f => if f.src = 1 then (match m with | some a => some (min a f.at_) | none => some f.at_) else m) none

/-- Whether a frame may start now (R300, R301, R304). -/
def State.mayStart (s : State) (p : Nat) (f : TxFrame) : Bool :=
  if f.src = 1 then decide (f.at_ ≤ s.time.now)
  else
    (match (s.net p).firstPaced with
      | some a => decide (s.time.now + s.lineTime p f.bytes < a)
      | none => true) &&
      (match f.desc with
        | some (dp, r) => (match s.ringRun dp r with | some x => !x.held | none => true)
        | none => true)

/-- The sources in the order of Table 09-3, the rings from TXR3 down: source and ring. -/
def txOrder : List (Nat × Nat) := [(1, 0), (2, 0), (3, 0), (4, 3), (4, 2), (4, 1), (4, 0)]

/-- The frame the arbiter picks: of each source in turn the one that became whole first, if it may start. -/
def State.pickFrame (s : State) (p : Nat) : Option TxFrame :=
  (txOrder.filterMap fun o => (s.net p).buf.find? fun f => f.src == o.1 && (f.src != 4 || f.ring == o.2)).find? fun f => s.mayStart p f

/-- A frame of a descriptor has gone (R304, R316). -/
def State.descSent (s : State) (p : Nat) (f : TxFrame) (st : Word) : State :=
  match f.desc with
  | none => s
  | some (dp, r) =>
    match s.ringRun dp r with
    | none => s
    | some x =>
      s.setRun dp r (some { x with
        left := x.left - 1
        sent1 := if dp = p then x.sent1 + 1 else x.sent1
        sent2 := if dp = p then x.sent2 else x.sent2 + 1
        first := if dp = p ∧ x.first.isNone then some st else x.first })

/-- The stamp of a Delay_Req goes straight to the engine as t3 (R96, R313). -/
def State.reqSent (s : State) (p : Nat) (f : TxFrame) (stamp : Nat) : State :=
  match f.req, s.time.inUse with
  | some q, some u => if u.port = p then { s with time := { s.time with delayReq := some (q, (stamp : Int)) } } else s
  | _, _ => s

/-- A frame starts on the line (R300, R312). -/
def State.startFrame (s : State) (p : Nat) (f : TxFrame) : State :=
  let bs := match f.oneStep with | some o => oneStepFrame f.bytes o s.time.now | none => f.bytes
  let stamp := adjStamp s.time.now (s.sfld (NET_TS_ADJ_TX_PS_PS.inst p))
  let s1 := (s.modNet p fun x => { x with
    buf := x.buf.erase f
    lineFree := s.time.mono + s.lineTime p f.bytes
    idleSince := s.time.mono + s.lineTime p f.bytes }).emit (.netFrame p bs)
  let s2 := s1.incFld (NET_TX_FRAMES_COUNT.inst p) 1
  let s3 := match f.tsId with | some id => s2.tsqPut p stamp id | none => s2.reqSent p f stamp
  let s4 := (s3.fillTx p).descSent p f (BitVec.ofNat 32 (stamp / unitsPerNs))
  if f.src = 1 ∧ f.at_ + psUnits (s.netTickPs p) ≤ s.time.now then
    (s4.incFld (NET_PACED_LATE_COUNT_COUNT.inst p) 1).raise (netPage p) 18 (min ((s.time.now - f.at_) / unitsPerNs) (2 ^ 32 - 1))
  else s4

/-- Frames of the buffer, and those that wait for it, are discarded: the legs of descriptors in progress get `code`
(R291, R303). -/
def State.flushTx (s : State) (p code : Nat) (count : Bool) : State :=
  let l := (s.net p).buf ++ (s.net p).queue
  let s1 := s.modNet p fun x => { x with buf := [], queue := [] }
  l.foldl (fun t f =>
    match f.desc with
    | some (dp, r) => (match t.ringRun dp r with
      | some x => t.setRun dp r (some { x with
          left := x.left - 1
          code := if dp = p then code else x.code
          code2 := if dp = p then x.code2 else code })
      | none => t)
    | none => if count then t.incFld (NET_TX_DOWN_DROP_COUNT.inst p) 1 else t) s1

/-- Descriptors in progress with nothing left are completed. -/
def State.endRuns (s : State) (p : Nat) : State :=
  (s.net p).rings.foldl (fun t q => match t.ringRun p q.1 with
    | some x => if x.left = 0 then t.descDone p q.1 x else t
    | none => t) s

/-! Modes and links (R290, R291). -/

/-- A port with no link is in low-power idle in neither direction (R311). -/
def State.lpiOff (s : State) (p : Nat) : State := (s.setBit (NET_STATUS_TX_LPI.inst p) false).setBit (NET_STATUS_RX_LPI.inst p) false

/-- A write of NETn.CTRL (R290, R291). -/
def State.netCtrl (s : State) (p : Nat) (v : Word) : State :=
  let m := natBits v.toNat 0 3
  let old := s.fld (NET_CTRL_MODE.inst p)
  let mode := if m ≤ 4 then m else old
  let fec (x : Nat) : Nat := if x = 3 then 0 else x
  let same := mode = old ∧ fec (natBits v.toNat 4 2) = fec (s.fld (NET_CTRL_FEC.inst p)) ∧
    natBits v.toNat 3 1 = s.fld (NET_CTRL_AN_EN.inst p)
  let s1 := ((s.setFld (NET_CTRL_MODE.inst p) mode).setFld (NET_CTRL_AN_EN.inst p) (natBits v.toNat 3 1)).setFld
    (NET_CTRL_FEC.inst p) (fec (natBits v.toNat 4 2))
  if same then s1
  else
    let s2 := ((s1.flushTx p tcFlushed false).endRuns p).modNet p fun x => { x with tsq := [] }
    let s3 := ((s2.tsqSync p).setBit (NET_STATUS_LINK.inst p) false).lpiOff p
    if s.netUp p then s3.raise (netPage p) 9 0 else s3

/-! The commit of a NET page (R297, R321). -/

/-- Whether a shadowed field differs from the value in force. -/
def State.changed (s : State) (f : Fld) : Bool := s.fld f != s.act f

/-- The REASON a commit of port `p` would be refused with; 0 for none. -/
def State.netCommit (s : State) (p : Nat) : Nat :=
  let q (x : Fld) (k : Nat) : Fld := (x.inst p).nth k
  let badQ (k : Nat) : Bool := s.fld (q NET_RXQ_CFG_CONSUMER k) == 3 ||
    !(decide (16 ≤ s.fld (q NET_RXQ_CFG_DATA_LOG2 k) ∧ s.fld (q NET_RXQ_CFG_DATA_LOG2 k) ≤ 30 ∧
      12 ≤ s.fld (q NET_RXQ_CFG_CPL_LOG2 k) ∧ s.fld (q NET_RXQ_CFG_CPL_LOG2 k) ≤ 24))
  let badR (k : Nat) : Bool := !(decide (4 ≤ s.fld (q NET_TXR_CFG_LOG2 k) ∧ s.fld (q NET_TXR_CFG_LOG2 k) ≤ 16))
  let badF (k : Nat) : Bool := decide (32 < s.fld (q NET_FLT_MATCH_IP_PREFIX k))
  let busyQ (k : Nat) : Bool := s.act (q NET_RXQ_CFG_CONSUMER k) == 0 &&
    s.fld (q NET_RXQ_DATA_TAIL_OFF k) != s.fld (q NET_RXQ_DATA_HEAD_OFF k) &&
    (s.changed (q NET_RXQ_CFG_DATA_LOG2 k) || s.changed (q NET_RXQ_CFG_CPL_LOG2 k) ||
      s.changed (q NET_RXQ_DATA_BASE_BASE k) || s.changed (q NET_RXQ_CPL_BASE_BASE k))
  let busyR (k : Nat) : Bool := s.act (q NET_TXR_CFG_EN k) == 1 &&
    s.fld (q NET_TXR_HEAD_INDEX k) != s.fld (q NET_TXR_TAIL_INDEX k) % s.ringSize p k &&
    (s.changed (q NET_TXR_BASE_BASE k) || s.changed (q NET_TXR_CFG_LOG2 k))
  if (List.range 8).any badQ ∨ (List.range 4).any badR ∨ (List.range 32).any badF then 3
  else if (List.range 8).any busyQ ∨ (List.range 4).any busyR then 7
  else 0

/-! The meanings. -/

/-- PORT_RESTART (R291). -/
def execPortRestart (q : Req) (p : Nat) (v : Word) (s : State) : Host.Outcome State Fault Refusal :=
  .next (if p < 4 then s.write q (netPage p) 0x008 v fun t => t.netCtrl p v else s)

/-- LINK_UP (R291). -/
def execLinkUp (p speed : Nat) (s : State) : Host.Outcome State Fault Refusal :=
  .next (if p < 4 ∧ s.netMode p ≠ 0 ∧ ¬ s.netUp p then
    let sp := if s.netMode p = 4 then speed % 4 else 0
    ((s.setBit (NET_STATUS_LINK.inst p) true).setFld (NET_STATUS_SPEED.inst p) sp).raise (netPage p) 8 (s.netMode p + sp * 8)
  else s)

/-- LINK_DOWN (R303). -/
def execLinkDown (p : Nat) (s : State) : Host.Outcome State Fault Refusal :=
  .next (if p < 4 ∧ s.netUp p then
    ((((s.setBit (NET_STATUS_LINK.inst p) false).lpiOff p).flushTx p tcDown true).endRuns p).raise (netPage p) 9 0 else s)

/-- PAUSE_RX (R309). -/
def execPauseRx (p quanta : Nat) (s : State) : Host.Outcome State Fault Refusal :=
  .next (if p < 4 ∧ s.netUp p then s.pauseFrame p (quanta % 65536) else s)

/-- PAUSE_EXPIRY (R309). -/
def execPauseExpiry (p : Nat) (s : State) : Host.Outcome State Fault Refusal :=
  .next (if s.bit (NET_STATUS_PAUSED.inst p) ∧ (s.net p).pauseEnd ≤ s.time.mono then s.setBit (NET_STATUS_PAUSED.inst p) false else s)

/-- PAUSE_WATCHDOG (R310). -/
def execPauseWatchdog (p : Nat) (s : State) : Host.Outcome State Fault Refusal :=
  let d := (s.time.mono - (s.net p).pauseSince) / (1000 * unitsPerNs)
  .next (if s.bit (NET_STATUS_PAUSED.inst p) ∧ s.bit (NET_PAUSE_CFG_WD_EN.inst p) ∧ s.fld (NET_PAUSE_WD_US_US.inst p) ≤ d then
    let s1 := (s.setBit (NET_STATUS_PAUSED.inst p) false).setBit (NET_STATUS_PAUSE_HOLDOFF.inst p) true
    (s1.modNet p fun x => { x with
      holdEnd := s.time.mono + s.fld (NET_PAUSE_HOLDOFF_US_US.inst p) * 1000 * unitsPerNs }).raise (netPage p) 15 d
  else s)

/-- PAUSE_HOLDOFF_END (R310). -/
def execPauseHoldoffEnd (p : Nat) (s : State) : Host.Outcome State Fault Refusal :=
  .next (if s.bit (NET_STATUS_PAUSE_HOLDOFF.inst p) ∧ (s.net p).holdEnd ≤ s.time.mono then
    (s.setBit (NET_STATUS_PAUSE_HOLDOFF.inst p) false).raise (netPage p) 16 0 else s)

/-- A read of TSQ_0 by a requester (R315). -/
def State.tsqPop (s : State) (q : Req) (p : Nat) : State :=
  s.serveRead q (netPage p) 0x06C fun t =>
    let r := t.tsqRead q p
    r.2.emit (.data q [r.1])

/-- A frame boundary of a port: the frame the arbiter picks starts, where the port may send (R300, R309, R311). -/
def State.txTurn (s : State) (p : Nat) : State :=
  if s.netUp p ∧ ¬ s.bit (NET_STATUS_PAUSED.inst p) ∧ ¬ s.bit (NET_STATUS_TX_LPI.inst p) ∧ (s.net p).lineFree ≤ s.time.mono then
    match s.pickFrame p with
    | some f => s.startFrame p f
    | none => s
  else s

/-- TX_ARBITRATE (R300): a frame boundary. A PAUSE frame that ends in the same tick goes first (R309), and so does a pop
that reaches the timestamp queue together with the stamp of the frame (R315). -/
def execTxArbitrate (p : Nat) (pop : Option Req) (pause : Option Nat) (s : State) : Host.Outcome State Fault Refusal :=
  let s1 := match pause with | some k => if s.netUp p then s.pauseFrame p (k % 65536) else s | none => s
  let s2 := match pop with | some q => s1.tsqPop q p | none => s1
  .next (if p < 4 then s2.txTurn p else s)

/-- TXR_TAIL_WRITE (R304). -/
def execTxrTailWrite (q : Req) (p r : Nat) (v : Word) (s : State) : Host.Outcome State Fault Refusal :=
  .next (if p < 4 ∧ r < 4 then s.write q (netPage p) (0x308 + 0x10 * r) v fun t => t.storeReg (netPage p) (0x308 + 0x10 * r) v else s)

/-- TX_DESCRIPTOR (R305): the ring is served, holds a descriptor and has none in progress. -/
def execTxDescriptor (p r : Nat) (s : State) : Host.Outcome State Fault Refusal :=
  let head := s.fld ((NET_TXR_HEAD_INDEX.inst p).nth r) % s.ringSize p r
  .next (if p < 4 ∧ r < 4 ∧ s.act ((NET_TXR_CFG_EN.inst p).nth r) = 1 ∧ (s.ringRun p r).isNone ∧
      head ≠ s.fld ((NET_TXR_TAIL_INDEX.inst p).nth r) % s.ringSize p r then s.takeDesc p r head else s)

/-- LAUNCH_AT (R304). -/
def execLaunchAt (p r : Nat) (s : State) : Host.Outcome State Fault Refusal :=
  match s.ringRun p r with
  | some x => .next (if x.held ∧ (s.st32 + 2 ^ 32 - x.launch) % 2 ^ 32 < 2 ^ 31 then s.setRun p r (some { x with held := false }) else s)
  | none => .next s

/-- TX_DESCRIPTOR_DONE (R304). -/
def execTxDescriptorDone (p r : Nat) (s : State) : Host.Outcome State Fault Refusal :=
  match s.ringRun p r with
  | some x => .next (if x.left = 0 then s.descDone p r x else s)
  | none => .next s

/-- TSQ_POP (R315). -/
def execTsqPop (q : Req) (p : Nat) (s : State) : Host.Outcome State Fault Refusal :=
  .next (if p < 4 then s.tsqPop q p else s)

/-- RECEIVE_LPI (R311). -/
def execReceiveLpi (p : Nat) (on : Bool) (s : State) : Host.Outcome State Fault Refusal :=
  .next (if p < 4 ∧ s.netUp p then s.setBit (NET_STATUS_RX_LPI.inst p) on else s)

/-- SERDES_FAIL (R321). -/
def execSerdesFail (p : Nat) (pll clk : Bool) (s : State) : Host.Outcome State Fault Refusal :=
  .next (if p < 4 ∧ (pll ∨ clk) then s.raise (netPage p) 6 ((if pll then 1 else 0) + (if clk then 2 else 0)) else s)

end Sys2Proof.Machine
end

