-- ==== Sys2Proof/Machine/Ingest.lean ====
section
/-! DEFINITION. Video ingest (spec/10, R325 to R331): formats, packets, planes, completion, the plane selector at a transit and stripe lateness. -/

namespace Sys2Proof.Machine

open Sys2Proof

/-- The page of ingest unit `n`. -/
def ingestPage (n : Nat) : Nat := 0x60 + n

/-- Unit `n` beside its page. -/
def State.ingest (s : State) (n : Nat) : IngestS := mapGet (fun _ => IngestS.idle) s.ingests n

/-- `s` with unit `n` changed by `f`. -/
def State.modIngest (s : State) (n : Nat) (f : IngestS → IngestS) : State :=
  { s with ingests := mapSet (fun _ => IngestS.idle) s.ingests n (f (s.ingest n)) }

/-! Formats (Table 10-3). -/

/-- Bytes of a pgroup. -/
def fmtBytes (f : Nat) : Nat := if f = 0 then 5 else if f = 1 then 15 else if f = 2 then 3 else if f = 3 then 15 else if f = 4 then 9 else 6

/-- Pixels of a pgroup across. -/
def fmtPixels (f : Nat) : Nat := if f = 0 then 2 else if f = 1 then 4 else if f = 2 then 1 else if f = 3 then 4 else if f = 4 then 2 else 1

/-- Bits per pixel. -/
def fmtBpp (f : Nat) : Nat := if f = 0 then 20 else if f = 1 then 15 else if f = 2 then 24 else if f = 3 then 30 else if f = 4 then 36 else 48

/-- Bits of a sample. -/
def fmtDepth (f : Nat) : Nat := if f = 2 then 8 else if f = 4 then 12 else if f = 5 then 16 else 10

/-- Whether the format is YCbCr. -/
def fmtYuv (f : Nat) : Bool := f == 0 || f == 1

/-- Rows of a picture as SRD row numbers count them: line pairs in 4:2:0. -/
def fmtRows (f height : Nat) : Nat := if f = 1 then height / 2 else height

/-- Bytes of a row as the packets carry it. -/
def fmtRowBytes (f width : Nat) : Nat := width / fmtPixels f * fmtBytes f

/-- A sample widened to 16 bits by repeating its bits from the top (R326). -/
def widen (b v : Nat) : Nat := (v * 2 ^ (16 - b) + v / 2 ^ (2 * b - 16)) % 65536

/-- The samples of a pgroup, big-endian bits first (ST 2110-20). -/
def groupSamples (f : Nat) (bs : List Byte) : List Nat :=
  let b := fmtDepth f
  let v := bytesValBE bs
  (List.range (8 * bs.length / b)).map fun i => widen b (natBits v (8 * bs.length - (i + 1) * b) b)

/-- Two-byte samples. -/
def samplesBytes (l : List Nat) : List Byte := l.flatMap fun v => valBytes 2 v

/-- Sample `i` of a pgroup. -/
def smp (l : List Nat) (i : Nat) : Nat := l.getD i 0

/-- What a pgroup at pixel `x` of SRD row `r` writes: offsets from the plane start and samples (R326). -/
def groupWrites (f pitch coff x r : Nat) (l : List Nat) : List (Nat × List Nat) :=
  if f = 0 then [(r * pitch + 2 * x, [smp l 1, smp l 3]), (coff + r * pitch + 4 * (x / 2), [smp l 0, smp l 2])]
  else if f = 1 then
    [(2 * r * pitch + 2 * x, [smp l 0, smp l 1, smp l 6, smp l 7]), ((2 * r + 1) * pitch + 2 * x, [smp l 2, smp l 3, smp l 8, smp l 9]),
      (coff + r * pitch + 4 * (x / 2), [smp l 4, smp l 5, smp l 10, smp l 11])]
  else [(r * pitch + 6 * x, l)]

/-! The unit's settings in force. -/

/-- Where plane `k` of unit `n` starts (R326). -/
def State.planeAddr (s : State) (n k : Nat) : Nat :=
  s.act (INGEST_PLANE_BASE_LO_BASE.inst n) * 4096 + s.act (INGEST_PLANE_BASE_HI_BASE.inst n) * 2 ^ 32 +
    k * s.act (INGEST_PLANE_STRIDE_PAGES.inst n) * 4096

/-- States of a plane (Table 10-4). -/
def psFree : Nat := 0
def psWriting : Nat := 1
def psComplete : Nat := 2
def psInUse : Nat := 3

/-- State of plane `k`. -/
def State.planeState (s : State) (n k : Nat) : Nat := s.fld ((INGEST_PLANE_STAT_STATE.inst n).nth k)

/-- `s` with the state of plane `k` set. -/
def State.setPlane (s : State) (n k v : Nat) : State := s.setFld ((INGEST_PLANE_STAT_STATE.inst n).nth k) v

/-- Number of planes. -/
def State.planeCount (s : State) (n : Nat) : Nat := s.act (INGEST_PLANE_COUNT_COUNT.inst n)

/-- Whether the active plan runs in stripe mode. -/
def State.stripeMode (s : State) : Bool := match s.plan.active with | some p => p.stripe | none => false

/-- The RTP timestamp of transit `n` (R331, R333). -/
def rtpTime (rate : Nat × Nat) (n : Nat) : Nat := n * rate.2 * 90000 / rate.1 % 2 ^ 32

/-! Choosing planes (R330, R331). -/

/-- Whether a newer picture completed in an earlier tick, so that the plane cannot be selected any more. -/
def State.superseded (s : State) (n k : Nat) : Bool :=
  let d (j : Nat) : Nat := mapGet (fun _ => 0) (s.ingest n).doneAt j
  (List.range (s.planeCount n)).any fun j => j != k && s.planeState n j == psComplete && decide (d k < d j ∧ d j < s.time.mono)

/-- The plane a new picture is written into: whether a complete one is overwritten, and the plane (R330). -/
def State.choosePlane (s : State) (n : Nat) : Option (Bool × Nat) :=
  let ks := List.range (s.planeCount n)
  match ks.find? fun k => s.planeState n k != psInUse && (s.planeState n k != psComplete || s.superseded n k) with
  | some k => some (false, k)
  | none => (ks.find? fun k => s.planeState n k == psComplete).map fun k => (true, k)

/-- Whether a plane is still in use at the span clock's present instant: by the transits it was selected for, or
by the instant the outputs of its plan frame launch. -/
def State.planeHeld (s : State) (n k : Nat) : Bool :=
  s.planeState n k == psInUse && (mapGet (fun _ => 0) (s.ingest n).useLeft k != 0 ||
    decide (s.time.mono < mapGet (fun _ => 0) (s.ingest n).useEnd k))

/-- The transit whose picture a timestamp names in stripe mode, if the unit takes its packets now (R331). -/
def State.stripeTransit (s : State) (n ts : Nat) : Option Nat :=
  match s.time.transit with
  | none => none
  | some (t, _) =>
    if rtpTime s.rate t = ts then some t
    else if rtpTime s.rate (t + 1) = ts then
      let k := (t + 1) % max 1 (s.planeCount n)
      if s.planeHeld n k then none else some (t + 1)
    else none

/-- A new picture begins: it gets its plane (R330, R331). -/
def State.beginPicture (s : State) (n ts : Nat) (stripe : Option Nat) : State :=
  let x := s.ingest n
  let c : Option (Bool × Nat) := match stripe with
    | some t => some (false, t % max 1 (s.planeCount n))
    | none => s.choosePlane n
  let pic (p : Option Nat) : State := s.modIngest n fun y => { y with
    pics := (y.pics ++ [(⟨ts, x.serial, p, false⟩ : Pic)]).drop (y.pics.length - 7)
    serial := x.serial + 1 }
  match c with
  | none => ((pic none).incFld (INGEST_DISCARD_COUNT_COUNT.inst n) 1).raise (ingestPage n) 9 1
  | some (hit, k) =>
    let s1 := (pic (some k)).modIngest n fun y => { y with holds := mapSet (fun _ => 0) y.holds k x.serial }
    let s2 := if hit then (s1.incFld (INGEST_OVERWRITE_COUNT_COUNT.inst n) 1).raise (ingestPage n) 9 0 else s1
    let s3 := if s2.planeState n k = psInUse then s2 else s2.setPlane n k psWriting
    (((s3.setFld ((INGEST_PLANE_STAT_INCOMPLETE.inst n).nth k) 0).setFld ((INGEST_PLANE_STAT_MARKER_LOST.inst n).nth k) 0).setFld
      (INGEST_STATUS_WRITE.inst n) k).setBit (INGEST_STATUS_WRITING.inst n) true

/-- A picture is complete at `stamp` (R329). -/
def State.completePicture (s : State) (n serial stamp : Nat) (lost : Bool) : State :=
  match (s.ingest n).pics.find? fun p => p.serial == serial && !p.done with
  | none => s
  | some p =>
    let s1 := (s.modIngest n fun y => { y with pics := y.pics.map fun q => if q.serial = serial then { q with done := true } else q }).incFld
      (INGEST_FRAMES_COUNT.inst n) 1
    let s2 := (if lost then s1.incFld (INGEST_MARKER_LOST_COUNT.inst n) 1 else s1).setBit (INGEST_STATUS_WRITING.inst n) false
    match p.plane with
    | none => s2
    | some k =>
      let s3 := if s2.planeState n k = psInUse then s2 else s2.setPlane n k psComplete
      let s4 := if lost then s3.setFld ((INGEST_PLANE_STAT_MARKER_LOST.inst n).nth k) 1 else s3
      (s4.setFld ((INGEST_PLANE_DONE_ST32.inst n).nth k) (st32Of (stamp / unitsPerNs))).modIngest n fun y => { y with
        doneAt := mapSet (fun _ => 0) y.doneAt k s.time.mono
        started := y.started.or (some s.time.mono) }

/-! Packets (R327, R328). -/

/-- A packet as the unit reads it: sequence number, timestamp, marker, SRDs with their data. -/
structure RtpIn where
  q : Nat
  ts : Nat
  marker : Bool
  pt : Nat
  ssrc : Nat
  srds : List (Srd × List Byte)
  deriving DecidableEq, Repr

/-- The SRD headers from offset `o` on. -/
def srdHeads (bs : List Byte) (o fuel : Nat) : List Srd × Nat :=
  match fuel with
  | 0 => ([], o)
  | k + 1 =>
    let x : Srd := ⟨beField bs o 2, beField bs (o + 2) 2, beField bs (o + 4) 2 % 32768⟩
    if beField bs (o + 4) 2 / 32768 = 1 then
      let r := srdHeads bs (o + 6) k
      (x :: r.1, r.2)
    else ([x], o + 6)

/-- The SRDs beside their data. -/
def srdData (l : List Srd) (bs : List Byte) : List (Srd × List Byte) :=
  match l with
  | [] => []
  | x :: t => (x, bs.take x.n) :: srdData t (bs.drop x.n)

/-- The RTP packet of a frame; none where its headers do not agree with its length (R327). -/
def rtpOf (frame : List Byte) : Option RtpIn :=
  let u := udpPayload frame
  let b0 := beField u 0 1
  let h0 := 12 + 4 * (b0 % 16)
  let h := if b0.testBit 4 then h0 + 4 + 4 * beField u (h0 + 2) 2 else h0
  let pad := if b0.testBit 5 then beField u (u.length - 1) 1 else 0
  let pay := (u.drop h).take (u.length - h - pad)
  let heads := srdHeads pay 2 (pay.length / 6)
  let data := pay.drop heads.2
  if isUdp frame ∧ b0 / 64 = 2 ∧ h + pad + 8 ≤ u.length ∧ (heads.1.map fun x => x.n).sum = data.length ∧ heads.2 ≤ pay.length then
    some ⟨beField pay 0 2 * 65536 + beField u 2 2, beField u 4 4, (beField u 1 1).testBit 7, beField u 1 1 % 128, beField u 8 4,
      srdData heads.1 data⟩
  else none

/-- Whether an SRD lies within the picture on pgroup boundaries (R327). -/
def srdOk (f width height : Nat) (x : Srd) : Bool :=
  let g := fmtPixels f
  x.n % fmtBytes f == 0 && decide (0 < x.n) && x.off % g == 0 && decide (x.off + x.n / fmtBytes f * g ≤ width) &&
    decide (x.row < fmtRows f height)

/-- Whether the unit takes a packet as far as its contents go (R327). -/
def State.rtpGood (s : State) (n : Nat) (p : RtpIn) : Bool :=
  p.pt == s.act (INGEST_FORMAT_PT.inst n) && (s.act (INGEST_CTRL_SSRC_EN.inst n) == 0 || p.ssrc == s.act (INGEST_SSRC_SSRC.inst n)) &&
    p.srds.all fun x => srdOk (s.act (INGEST_FORMAT_FMT.inst n)) (s.act (INGEST_SIZE_WIDTH.inst n)) (s.act (INGEST_SIZE_HEIGHT.inst n)) x.1

/-- The writes of one SRD into a plane (R326, R327). -/
def State.writeSrd (s : State) (n plane : Nat) (x : Srd) (data : List Byte) : State :=
  let f := s.act (INGEST_FORMAT_FMT.inst n)
  let g := fmtBytes f
  let a := s.planeAddr n plane
  (List.range (data.length / g)).foldl (fun t i =>
    (groupWrites f (s.act (INGEST_PITCH_BYTES.inst n)) (s.act (INGEST_CHROMA_OFF_PAGES.inst n) * 4096) (x.off + i * fmtPixels f) x.row
      (groupSamples f ((data.drop (i * g)).take g))).foldl (fun u w =>
        let bs := samplesBytes w.2
        if u.inDram (a + w.1) bs.length then u.writeDram (a + w.1) bs else u) t) s

/-- The stripe of an SRD row. -/
def stripeOfRow (f height stripes row : Nat) : Nat :=
  let line := if f = 1 then 2 * row else row
  line / max 1 (height / max 1 stripes)

/-- Sequence numbers at least 4,096 below the highest taken are judged: the missing ones are counted and
their planes marked (R328). -/
def State.judgeMissing (s : State) (n : Nat) : State :=
  let x := s.ingest n
  match x.high with
  | none => s
  | some h =>
    if h < x.base + 4096 then s
    else
      let top := h - 4096
      let inside := x.got.filter fun g => decide (x.base ≤ g.1 ∧ g.1 ≤ top)
      let has (q : Nat) : Bool := inside.any fun g => g.1 == q
      let lost := top + 1 - x.base - inside.length
      let first : List (Nat × Nat) := if ¬ has x.base ∧ ¬ x.missRun then [(x.base, x.below)] else []
      let runs := first ++ (inside.filter fun g => decide (g.1 < top) && !has (g.1 + 1)).map fun g => (g.1 + 1, g.2)
      let hit := runs.map (fun r => r.2) ++ (if ¬ has x.base then [x.below] else [])
      let s1 := s.incFld (INGEST_MISSING_COUNT.inst n) lost
      let s2 := (List.range 4).foldl (fun t k =>
        let z := mapGet (fun _ => 0) x.holds k
        if 0 < z ∧ hit.contains z then t.setFld ((INGEST_PLANE_STAT_INCOMPLETE.inst n).nth k) 1 else t) s1
      let s3 := runs.foldl (fun t r => t.raise (ingestPage n) 11 (r.1 % 2 ^ 32)) s2
      s3.modIngest n fun y => { y with
        base := top + 1
        missRun := !has top
        below := match inside.getLast? with | some g => g.2 | none => x.below
        got := x.got.filter fun g => decide (top ≤ g.1) }

/-- Bytes of a packet count towards its stripes (R331). -/
def State.countStripes (s : State) (n t : Nat) (l : List (Srd × List Byte)) : State :=
  let st := match s.plan.active with | some p => p.stripes | none => 1
  let f := s.act (INGEST_FORMAT_FMT.inst n)
  l.foldl (fun u x =>
    let k := t * 64 + stripeOfRow f (s.act (INGEST_SIZE_HEIGHT.inst n)) st x.1.row
    u.modIngest n fun y => { y with
      stripes := mapSet (fun _ => 0) (y.stripes.filter fun z => decide ((t - 2) * 64 ≤ z.1)) k (mapGet (fun _ => 0) y.stripes k + x.2.length) }) s

/-- The unit takes a first copy (R328, R329): its picture, its data, the completion. -/
def State.takePacket (s : State) (n : Nat) (p : RtpIn) (q stamp : Nat) (stripe : Option Nat) : State :=
  let s1 := match (s.ingest n).pics.find? fun z => z.ts == p.ts with
    | some _ => s
    | none =>
      let t := match (s.ingest n).pics.getLast? with
        | some z => s.completePicture n z.serial stamp true
        | none => s
      t.beginPicture n p.ts stripe
  let x := s1.ingest n
  match x.pics.find? fun z => z.ts == p.ts with
  | none => s1
  | some z =>
    let s2 := match z.plane with
      | some k => if mapGet (fun _ => 0) x.holds k = z.serial then p.srds.foldl (fun (t : State) (d : Srd × List Byte) => t.writeSrd n k d.1 d.2) s1 else s1
      | none => s1
    let s3 := match stripe with | some t => s2.countStripes n t p.srds | none => s2
    let s4 := s3.modIngest n fun y => { y with
      got := (y.got.filter fun (g : Nat × Nat) => decide (g.1 < q)) ++ [(q, z.serial)] ++ y.got.filter fun (g : Nat × Nat) => decide (q < g.1)
      high := match y.high with | some h => some (max h q) | none => some q
      base := match y.high with | some _ => y.base | none => q }
    let s5 := s4.judgeMissing n
    if p.marker then s5.completePicture n z.serial stamp false else s5

/-- A frame handed to the unit (R324, R327, R328). -/
def State.ingestFrame (s : State) (n : Nat) (i : RxInfo) : State :=
  if s.act (INGEST_CTRL_EN.inst n) = 0 then s
  else if i.trunc then s.incFld (INGEST_TRUNC_DROP_COUNT.inst n) 1
  else
    let bad := s.incFld (INGEST_BAD_PKT_COUNT.inst n) 1
    match rtpOf i.bytes with
    | none => bad
    | some p =>
      let stripe := if s.stripeMode then s.stripeTransit n p.ts else none
      if ¬ s.rtpGood n p ∨ (s.stripeMode ∧ stripe.isNone) then bad
      else
        let x := s.ingest n
        let q := match x.high with
          | none => 2 ^ 32 + p.q
          | some h => ((h : Int) + natSigned 32 ((p.q + 2 ^ 32 - h % 2 ^ 32) % 2 ^ 32)).toNat
        match x.high with
        | none => s.takePacket n p q i.stamp stripe
        | some h =>
          if q + 4096 < h then s.incFld (INGEST_LATE_PKT_COUNT.inst n) 1
          else if x.got.any fun g => g.1 == q then s.incFld (INGEST_DUP_COUNT_COUNT.inst n) 1
          else s.takePacket n p q i.stamp stripe

/-! The plane selector (R51, R330, R331). -/

/-- A transit counts for the planes in use; those whose use is over are free again (R330, R55). -/
def State.freePlanes (s : State) (n : Nat) : State :=
  (List.range 4).foldl (fun (u : State) k =>
    let v := u.modIngest n fun y => { y with useLeft := mapSet (fun _ => 0) y.useLeft k (mapGet (fun _ => 0) y.useLeft k - 1) }
    if v.planeState n k = psInUse ∧ v.planeHeld n k = false then v.setPlane n k psFree else v) s

/-- The standard selection of unit `n` at transit `t`: the plane handed over. A plane is in use until the second
transit after the one that selects it, whatever their numbers (R39, R330). -/
def State.selectStandard (s : State) (n t : Nat) : Nat × State :=
  let x := s.ingest n
  let d (k : Nat) : Nat := mapGet (fun _ => 0) x.doneAt k
  let s0 := s.freePlanes n
  let done := (List.range (s.planeCount n)).filter fun k => s.planeState n k == psComplete && decide (d k < s.time.mono)
  let best := done.foldl (fun m k => match m with | none => some k | some j => if d j < d k then some k else some j) none
  let use (u : State) (k : Nat) : State := ((u.setPlane n k psInUse).setFld (INGEST_STATUS_SEL.inst n) k).modIngest n fun y => { y with
    useLeft := mapSet (fun _ => 0) y.useLeft k 2
    useEnd := mapSet (fun _ => 0) y.useEnd k 0
    selected := true
    sel := k }
  match best with
  | some k =>
    let s1 := done.foldl (fun u j => if j = k then u else u.setPlane n j psFree) s0
    (k, use s1 k)
  | none =>
    let before : Bool := match x.started with | some a => decide (a < s.time.mono) | none => false
    if ¬ before then (0, s0.setFld (INGEST_STATUS_SEL.inst n) 0)
    else
      let s1 := (s0.incFld (INGEST_REPEAT_COUNT_COUNT.inst n) 1).raise (ingestPage n) 8 (lo32 t + x.sel * 2 ^ 32)
      (x.sel, if x.selected then use s1 x.sel else s1)

/-- The stripe-mode selection at transit `t` (R331); the plane is in use until the outputs of its plan
frame launch (R55). -/
def State.selectStripe (s : State) (n t : Nat) : Nat × State :=
  let k := t % max 1 (s.planeCount n)
  let st := match s.plan.active with | some p => p.stripes | none => 1
  let per := s.rate.2 * unitsPerSec / s.rate.1
  let s0 := s.freePlanes n
  (k, ((s0.setPlane n k psInUse).setFld (INGEST_STATUS_SEL.inst n) k).modIngest n fun y => { y with
    useLeft := mapSet (fun _ => 0) y.useLeft k 0
    useEnd := mapSet (fun _ => 0) y.useEnd k (s.time.mono + per + per / max 1 st)
    selected := true
    sel := k })

/-- The plane selectors at transit `t` (PLANE_SELECT, R51): the planes handed to the starting plan frame. -/
def State.selectPlanes (s : State) (t : Nat) : State :=
  let r := (List.range 8).foldl (fun (q : List (Nat × Nat) × State) n =>
    let u := if q.2.act (INGEST_CTRL_EN.inst n) = 0 then (0, q.2)
      else if q.2.stripeMode then q.2.selectStripe n t else q.2.selectStandard n t
    (mapSet (fun _ => 0) q.1 n (u.2.planeAddr n u.1), u.2)) ([], s)
  { r.2 with plan := { r.2.plan with planes := r.1 } }

/-- STRIPE_LATE (R54, R331): stripe `q` of `st` of the picture of transit `t` starts. The event's frame number is `t`, the
transit the picture is aligned to, not the plan frame that renders it (log entry 25). -/
def State.stripeLate (s : State) (t q st : Nat) : State :=
  (List.range 8).foldl (fun u n =>
    if u.act (INGEST_CTRL_EN.inst n) = 0 then u
    else
      let f := u.act (INGEST_FORMAT_FMT.inst n)
      let h := u.act (INGEST_SIZE_HEIGHT.inst n)
      let rows := ((List.range (fmtRows f h)).filter fun r => stripeOfRow f h st r == q).length
      if mapGet (fun _ => 0) (u.ingest n).stripes (t * 64 + q) < rows * fmtRowBytes f (u.act (INGEST_SIZE_WIDTH.inst n)) then
        (u.incFld (INGEST_STRIPE_LATE_COUNT.inst n) 1).raise (ingestPage n) 10 (q + lo32 t * 2 ^ 5)
      else u) s

/-! Commits (R325, R326). -/

/-- Whether a size keeps the limits of R325 at a rate. -/
def sizeOk (f w h num den : Nat) : Bool :=
  w % fmtPixels f == 0 && (f != 1 || h % 2 == 0) && decide (0 < w ∧ 0 < h) &&
    (if 60 * den < num then decide (w ≤ 1920 ∧ h ≤ 1080 ∧ num ≤ 120 * den) else decide (w ≤ 4096 ∧ h ≤ 2160))

/-- REASON a commit of unit `n` is refused with; 0 for none (R325, R326, Table 10-4). -/
def State.ingestCommit (s : State) (n : Nat) : Nat :=
  let f := s.fld (INGEST_FORMAT_FMT.inst n)
  let w := s.fld (INGEST_SIZE_WIDTH.inst n)
  let h := s.fld (INGEST_SIZE_HEIGHT.inst n)
  let num := s.fld (INGEST_RATE_NUM.inst n)
  let den := s.fld (INGEST_RATE_DEN.inst n)
  let pitch := s.fld (INGEST_PITCH_BYTES.inst n)
  let stride := s.fld (INGEST_PLANE_STRIDE_PAGES.inst n) * 4096
  let coff := s.fld (INGEST_CHROMA_OFF_PAGES.inst n) * 4096
  let count := s.fld (INGEST_PLANE_COUNT_COUNT.inst n)
  let row := if fmtYuv f then 2 * w else 6 * w
  let size := if fmtYuv f then max (h * pitch) (coff + fmtRows f h * pitch) else h * pitch
  -- bits per second of the enabled units, a fraction
  let total := (List.range 8).foldl (fun (q : Nat × Nat) k =>
    let g (x : Fld) : Nat := if k = n then s.fld (x.inst n) else s.act (x.inst k)
    let d := max 1 (g INGEST_RATE_DEN)
    let a := g INGEST_CTRL_EN * g INGEST_SIZE_WIDTH * g INGEST_SIZE_HEIGHT * fmtBpp (g INGEST_FORMAT_FMT) * g INGEST_RATE_NUM
    (q.1 * d + a * q.2, q.2 * d)) (0, 1)
  if 5 < f ∨ count < 2 ∨ 4 < count then 3
  else if den = 0 ∨ ¬ sizeOk f w h num den ∨ pitch % 64 ≠ 0 ∨ pitch < row ∨ stride < size ∨ 40000000000 * total.2 < total.1 then 3
  else 0

/-- A commit of unit `n` has come into force; `before` is the state before it. A unit switched on starts anew. -/
def State.ingestTaken (s before : State) (n : Nat) : State :=
  if s.act (INGEST_CTRL_EN.inst n) = 1 ∧ before.act (INGEST_CTRL_EN.inst n) = 0 then
    let s1 := (List.range 4).foldl (fun t k => t.setPlane n k psFree) s
    { s1 with ingests := mapSet (fun _ => IngestS.idle) s1.ingests n IngestS.idle }.setBit (INGEST_STATUS_WRITING.inst n) false
  else s

end Sys2Proof.Machine
end

