-- ==== Sys2Proof/Machine/Load.lean ====
section
/-! DEFINITION. Plan images (spec/05): the reading of an image, the checks of the loader, staging, and the meanings of its commands (R171 to R192, R350, R351, R472). -/

namespace Sys2Proof.Machine

open Sys2Proof

/-- The PLAN page (R209). -/
def planPage : Nat := 4

/-! Refusal reasons (LOAD_STATUS.REASON). -/

def lrMagic : Nat := 1
def lrVersion : Nat := 2
def lrTarget : Nat := 3
def lrSize : Nat := 4
def lrCrc : Nat := 5
def lrSignature : Nat := 6
def lrKey : Nat := 7
def lrSection : Nat := 8
def lrRate : Nat := 9
def lrLap : Nat := 10
def lrDesc : Nat := 11
def lrWindow : Nat := 12
def lrBanksched : Nat := 13
def lrEmit : Nat := 14
def lrDegrade : Nat := 15
def lrAdmit : Nat := 16
def lrSeamless : Nat := 17
def lrBusy : Nat := 18
def lrDram : Nat := 19

/-- The SECTION of a failure that no directory entry carries (R189). -/
def noEntry : Nat := 0xFF

/-- LOAD_STATUS.STATE codes. -/
def lsIdle : Nat := 0
def lsChecking : Nat := 1
def lsStaging : Nat := 2
def lsStaged : Nat := 3
def lsRefused : Nat := 4
def lsAborted : Nat := 5

/-! The image (R171, R172). -/

/-- A directory entry (Table 05-2), with its index. -/
structure DirEnt where
  at_ : Nat
  type : Nat
  index : Nat
  off : Nat
  size : Nat
  crc : Nat
  deriving DecidableEq, Repr

/-- Header fields (Table 05-1). -/
def hSlots (b : List Byte) : Nat := leField b 0x0E 1
def hStripe (b : List Byte) : Bool := leField b 0x0F 1 == 1
def hStripes (b : List Byte) : Nat := leField b 0x28 1
def hDegrade (b : List Byte) : Nat := leField b 0x29 1
def hSize (b : List Byte) : Nat := leField b 0x2C 4
def hCount (b : List Byte) : Nat := leField b 0x30 2
def hRateLo (b : List Byte) : Nat × Nat := (leField b 0x10 4, leField b 0x14 4)
def hRateHi (b : List Byte) : Nat × Nat := (leField b 0x18 4, leField b 0x1C 4)
def hLead (b : List Byte) : Nat := if leField b 0x20 4 = 0 then 300000 else leField b 0x20 4
def hGuard (b : List Byte) : Nat := leField b 0x24 4

/-- Whether `n` bytes at `off` are 0. -/
def zeros (b : List Byte) (off n : Nat) : Bool := ((b.drop off).take n).all fun x => x == 0

/-- Step 1 of R189 on the header, in its order, the place in DRAM apart; `rev` is SYS.SILICON_REV. -/
def headerFault (b : List Byte) (baseRev metalRev : Nat) : Option Nat :=
  if b.take 8 ≠ ascii "BILTISPL" then some lrMagic
  else if leField b 8 1 ≠ 1 ∨ leField b 9 1 ≠ 0 ∨ ¬ zeros b 0x32 2 ∨ ¬ zeros b 0x60 32 then some lrVersion
  else if leField b 0x0B 1 ≠ baseRev ∨ metalRev < leField b 0x0A 1 then some lrTarget
  else if leField b 0x0C 2 ≠ 0x80 ∨ 64 * 2 ^ 20 < hSize b ∨ hCount b < 4 ∨ 64 < hCount b then some lrSize
  else none

/-- The directory of an image. -/
def directory (b : List Byte) : List DirEnt :=
  (List.range (hCount b)).map fun i =>
    let o := 0x80 + 16 * i
    ⟨i, leField b o 2, leField b (o + 2) 2, leField b (o + 4) 4, leField b (o + 8) 4, leField b (o + 12) 4⟩

/-- Section types. -/
def dtCode : Nat := 1
def dtLaps : Nat := 2
def dtDesc : Nat := 3
def dtWindows : Nat := 4
def dtBanks : Nat := 5
def dtEmit : Nat := 6
def dtLevels : Nat := 7
def dtFixtures : Nat := 8
def dtSignature : Nat := 0xFFF

/-- Whether a section belongs to one slot. -/
def DirEnt.slotted (d : DirEnt) : Bool := d.type == dtCode || d.type == dtLaps || d.type == dtDesc

/-- Whether a section is an annotation (R172). -/
def DirEnt.note (d : DirEnt) : Bool := decide (0x80 ≤ d.type ∧ d.type ≤ 0xFF)

/-- Whether two sections share a byte. -/
def DirEnt.meets (a b : DirEnt) : Bool :=
  decide (a.off < b.off + b.size ∧ b.off < a.off + a.size ∧ 0 < a.size ∧ 0 < b.size)

/-- Whether a directory entry keeps R171, R172 and R188 beside the ones before it. -/
def entryOk (b : List Byte) (dir : List DirEnt) (d : DirEnt) : Bool :=
  let before := dir.filter fun x => decide (x.at_ < d.at_)
  ((decide (1 ≤ d.type ∧ d.type ≤ 8)) || d.note || d.type == dtSignature) &&
    (if d.slotted then decide (d.index < hSlots b) else d.index == 0) &&
    d.off % 64 == 0 && decide (0x80 + 16 * hCount b ≤ d.off ∧ d.off + d.size ≤ hSize b) &&
    before.all (fun x => !x.meets d && (d.note || x.type != d.type || (d.slotted && x.index != d.index))) &&
    (d.type != dtLevels || hDegrade b != 0) &&
    (d.type != dtSignature || (d.at_ + 1 == hCount b && d.size == 64 && d.off + 64 == hSize b))

/-- The section of a type and index. -/
def findSect (dir : List DirEnt) (type index : Nat) : Option DirEnt :=
  dir.find? fun d => d.type == type && d.index == index

/-- Whether the directory has every section R172 requires. -/
def sectsComplete (b : List Byte) (dir : List DirEnt) : Bool :=
  ((List.range (hSlots b)).all fun k => (findSect dir dtCode k).isSome && (findSect dir dtLaps k).isSome) &&
    [dtWindows, dtBanks, dtEmit, dtSignature].all (fun t => (findSect dir t 0).isSome) &&
    (hDegrade b == 0 || (findSect dir dtLevels 0).isSome)

/-- The bytes of a section. -/
def sectBytes (b : List Byte) (d : DirEnt) : List Byte := (b.drop d.off).take d.size

/-- The bytes of the section of a type and index; none gives the empty list. -/
def sectOf (b : List Byte) (dir : List DirEnt) (type index : Nat) : List Byte :=
  match findSect dir type index with | some d => sectBytes b d | none => []

/-- Whether a section's CRC is right; a SIGNATURE entry holds 0 (Table 05-2). -/
def crcOk (b : List Byte) (d : DirEnt) : Bool :=
  if d.type = dtSignature then d.crc == 0 else crc32 (sectBytes b d) == d.crc

/-- Step 2 of R189; `caps` is PLAN.CAPS.SLOTS (R477). -/
def dirFault (b : List Byte) (caps : Nat) : Option (Nat × Nat) :=
  let dir := directory b
  if hSlots b = 0 ∨ caps < hSlots b then some (lrSection, noEntry)
  else match dir.find? fun d => !entryOk b dir d with
    | some d => some (lrSection, d.at_)
    | none =>
      if ¬ sectsComplete b dir then some (lrSection, noEntry)
      else (dir.find? fun d => !crcOk b d).map fun d => (lrCrc, d.at_)

/-! Section contents. -/

/-- `n` consecutive records of `w` bytes as numbers, from `off` on. -/
def records (b : List Byte) (off w n : Nat) : List Nat := (List.range n).map fun i => leField b (off + w * i) w

/-- The bundles of a CODE section (R173). -/
def codeOf (b : List Byte) : List Bundle := (records b 0 16 (b.length / 16)).map fun v => BitVec.ofNat 128 v

/-- A lap table entry from its 64 bits (Table 05-3). -/
def lapOf (v : Nat) : LapEnt where
  steps := natBits v 0 13
  level := natBits v 16 4
  stripe := v.testBit 20
  addr := natBits v 32 13
  fence := natBits v 48 16

/-- The raw lap entries of a LAPS section. -/
def lapWords (b : List Byte) : List Nat := records b 32 8 (leField b 0 2)

/-- Whether the laps of level `j` form runs of even length (R175). -/
def evenRuns (l : List LapEnt) (j : Nat) : Bool :=
  let r := l.foldl (fun (p : Bool × Nat) x => if x.level = j then (p.1, p.2 + 1) else (p.1 && p.2 % 2 == 0, 0)) (true, 0)
  r.1 && r.2 % 2 == 0

/-- Whether a save slot lies in one bank with its 4,352 bytes (R175). -/
def saveOk (a : Nat) : Bool := natBits a 0 6 == 0 && natBits a 23 9 == 0 && decide (natBits a 0 18 + 4352 ≤ 2 ^ 18)

/-- Whether a LAPS section keeps Table 05-3 and R175. -/
def lapsOk (b : List Byte) (degrade : Nat) (stripe : Bool) (stripes : Nat) : Bool :=
  let n := leField b 0 2
  let ws := lapWords b
  let laps := ws.map lapOf
  let sa := leField b 8 4
  let sb := leField b 12 4
  decide (1 ≤ n ∧ n ≤ 8192) && b.length == 32 + 8 * n && zeros b 6 2 && zeros b 0x10 16 &&
    decide (leField b 4 2 < 8192) && saveOk sa && saveOk sb && !(decide (sa < sb + 4352 ∧ sb < sa + 4352)) &&
    ws.all (fun v => natBits v 13 3 == 0 && natBits v 21 11 == 0 && natBits v 45 3 == 0) &&
    laps.all (fun l => decide (1 ≤ l.steps ∧ l.steps ≤ 6144 ∧ l.level ≤ degrade)) &&
    (match laps with | l :: _ => l.addr == leField b 2 2 && l.level == 0 && (!stripe || l.stripe) | [] => false) &&
    (List.range degrade).all (fun j => evenRuns laps (j + 1)) &&
    (laps.filter fun l => l.stripe).length == (if stripe then stripes else 0)

/-- The words of a DESC section, four to a descriptor. -/
def descQuads (b : List Byte) : List (Nat × Nat × Nat × Nat) :=
  (List.range (b.length / 32)).map fun i =>
    (leField b (32 * i) 8, leField b (32 * i + 8) 8, leField b (32 * i + 16) 8, leField b (32 * i + 24) 8)

/-- Whether a DESC section keeps R177. -/
def descsOk (b : List Byte) : Bool :=
  b.length % 32 == 0 && decide (b.length / 32 ≤ 4096) && (descQuads b).all fun q => descWordsOk q.1 q.2.1 q.2.2.1 q.2.2.2

/-- The tables of slot `k`. -/
def slotOf (b : List Byte) (dir : List DirEnt) (k : Nat) : SlotTab :=
  let l := sectOf b dir dtLaps k
  { entry := natBits (leField l 2 2) 0 13
    fend := natBits (leField l 4 2) 0 13
    saveA := leField l 8 4
    saveB := leField l 12 4
    laps := (lapWords l).map lapOf
    desc := (findSect dir dtDesc k).map fun d =>
      (descQuads (sectBytes b d)).map fun q => descOfWords q.1 q.2.1 q.2.2.1 q.2.2.2
    code := codeOf (sectOf b dir dtCode k) }

/-- A window entry from its two words (Table 05-5). -/
def winOf (w0 w1 : Nat) : WinEnt where
  timed := natBits w0 0 8 == 2
  slot := natBits w0 8 3
  ch := natBits w0 11 1
  startLap := natBits w0 16 13
  endLap := natBits w0 32 13
  page := natBits w0 8 10
  share := natBits w0 48 8
  startNs := natSigned 32 (natBits w1 0 32)
  lengthNs := natBits w1 32 32

/-- The word pairs of a WINDOWS section. -/
def winWords (b : List Byte) : List (Nat × Nat) :=
  (List.range (b.length / 16)).map fun i => (leField b (16 * i) 8, leField b (16 * i + 8) 8)

/-- Whether a page is a TIMED-window client, and an output of an emit entry (R180, Table 05-6). -/
def isClient (p : Nat) : Bool :=
  let b := pageBase p
  b == 0x90 || b == 0x80 || b == 0x68 || b == 0x70 || b == 0xB0

/-- Whether one window entry keeps Table 05-5 and R180. -/
def winOk (slots : Nat) (q : Nat × Nat) : Bool :=
  let w := winOf q.1 q.2
  decide (1 ≤ w.share ∧ w.share ≤ 192) && natBits q.1 56 8 == 0 &&
    (if natBits q.1 0 8 = 1 then
      natBits q.1 12 4 == 0 && natBits q.1 29 3 == 0 && natBits q.1 45 3 == 0 && q.2 == 0 &&
        decide (w.startLap ≤ w.endLap ∧ w.slot < slots)
    else natBits q.1 0 8 == 2 && natBits q.1 18 30 == 0 && isClient w.page)

/-- `⌊d · den / num⌋`: how many whole periods of `num` / `den` ns lie in `d` ns. -/
def periodsIn (d : Int) (p : Nat × Nat) : Int := (d * p.2) / p.1

/-- The SHARE sum of the TIMED windows open at the start of window `w`, at period `p` (R180). -/
def openShare (l : List WinEnt) (p : Nat × Nat) (w : WinEnt) : Nat :=
  (l.map fun x =>
    let d := w.startNs - x.startNs
    (periodsIn d p - periodsIn (d - x.lengthNs) p).toNat * x.share).sum

/-- The periods, as fractions of ns, at which the count of open windows can change between two ends. -/
def breakPeriods (l : List WinEnt) (lo hi : Nat × Nat) : List (Nat × Nat) :=
  let ds := l.flatMap fun w => l.flatMap fun x =>
    [(w.startNs - x.startNs).natAbs, (w.startNs - x.startNs - x.lengthNs).natAbs]
  ds.flatMap fun d => ((List.range (d * lo.2 / lo.1 + 1)).map fun k => (d, k + 1)).filter fun q =>
    decide (0 < q.1 ∧ lo.1 * q.2 ≤ q.1 * lo.2 ∧ q.1 * hi.2 ≤ hi.1 * q.2)

/-- The pool of the TIMED windows over every period from `lo` to `hi` (R180): the largest sum at the ends,
at each period where a count changes, and between any two of these. -/
def timedPool (l : List WinEnt) (lo hi : Nat × Nat) : Nat :=
  let ps := lo :: hi :: breakPeriods l lo hi
  let mids := ps.flatMap fun a => ps.map fun b => (a.1 * b.2 + b.1 * a.2, 2 * a.2 * b.2)
  ((ps ++ mids).flatMap fun p => l.map fun w => openShare l p w).foldl max 0

/-- The wheel slots of a channel: the largest SHARE among its LAP windows (R180). -/
def chanSet (l : List WinEnt) (slot ch : Nat) : Nat :=
  ((l.filter fun w => !w.timed && w.slot == slot && w.ch == ch).map fun w => w.share).foldl max 0

/-- The period of a rate in ns, as a fraction. -/
def periodFrac (r : Nat × Nat) : Nat × Nat := (1000000000 * r.2, r.1)

/-- Whether a WINDOWS section keeps R179 and R180. -/
def windowsOk (b : List Byte) (slots : Nat) (lo hi : Nat × Nat) : Bool :=
  let qs := winWords b
  let l := qs.map fun q => winOf q.1 q.2
  let laps := (l.filter fun w => !w.timed).zip (List.range l.length)
  b.length % 16 == 0 && qs.all (winOk slots) &&
    (laps.all fun w => laps.all fun x => w.2 == x.2 || w.1.slot != x.1.slot || w.1.ch != x.1.ch ||
      decide (w.1.endLap < x.1.startLap ∨ x.1.endLap < w.1.startLap)) &&
    decide (((List.range 8).flatMap fun k => [chanSet l k 0, chanSet l k 1]).sum +
      timedPool (l.filter fun w => w.timed) (periodFrac hi) (periodFrac lo) ≤ 192)

/-- A bank schedule entry from its 64 bits (R183). -/
def bankEntOf (v : Nat) : BankEnt where
  bank := natBits v 0 5
  owner := natBits v 8 8
  slot := natBits v 16 3
  lap := natBits v 19 13
  frameStart := v.testBit 32

/-- Owner codes a bank schedule may give (R183, Table 06-2). -/
def planOwnerOk (c : Nat) : Bool := c == 0 || c == 2 || decide (8 ≤ c ∧ c ≤ 0x30)

/-- Whether a BANKS section keeps R183. -/
def banksOk (b : List Byte) (slots : List SlotTab) : Bool :=
  b.length % 8 == 0 && (records b 0 8 (b.length / 8)).all fun v =>
    let e := bankEntOf v
    natBits v 5 3 == 0 && natBits v 33 31 == 0 && planOwnerOk e.owner && (!e.frameStart || (e.slot == 0 && e.lap == 0)) &&
      (slots.zip (List.range slots.length)).all fun t =>
        !(natBits t.1.saveA 18 5 == e.bank || natBits t.1.saveB 18 5 == e.bank) || e.owner == 8 + t.2

/-- An emit entry from its three words (Table 05-6). -/
def emitOf (w0 w1 w2 : Nat) : EmitEnt where
  page := natBits w0 0 10
  arg := natBits w0 16 16
  offset := natSigned 32 (natBits w0 32 32)
  source := natBits w1 0 40
  baseSel := natBits w1 40 5
  readySlot := natBits w1 48 3
  readyLap := natBits w1 51 13
  lead := natBits w2 0 32
  level := natBits w2 32 4
  noReady := w2.testBit 36

/-- The output an emit entry names (R185). -/
def EmitEnt.output (e : EmitEnt) : Nat × Nat :=
  let b := pageBase e.page
  (e.page, if b = 0x70 then e.arg % 256 else if b = 0xB0 then e.arg % 16 else 0)

/-- The words of an EMIT section. -/
def emitWords (b : List Byte) : List (Nat × Nat × Nat) :=
  (List.range (b.length / 24)).map fun i => (leField b (24 * i) 8, leField b (24 * i + 8) 8, leField b (24 * i + 16) 8)

/-- Whether an EMIT section keeps R184 and R185. -/
def emitOk (b : List Byte) (slots : List SlotTab) (degrade lead : Nat) (hi : Nat × Nat) : Bool :=
  let qs := emitWords b
  let l := qs.map fun q => emitOf q.1 q.2.1 q.2.2
  let outs := (l.map fun e => e.output).zip (List.range l.length)
  b.length % 24 == 0 && decide (l.length ≤ 8192) &&
    qs.all (fun q =>
      let e := emitOf q.1 q.2.1 q.2.2
      natBits q.1 10 6 == 0 && natBits q.2.1 45 3 == 0 && natBits q.2.2 37 27 == 0 && isClient e.page &&
        decide (e.baseSel ≤ 9 ∨ e.baseSel = 0x1F) && decide (2 * e.offset.natAbs * hi.1 < 1000000000 * hi.2) &&
        decide (e.lead ≤ lead ∧ e.level ≤ degrade) &&
        (e.noReady || (match slots[e.readySlot]? with | some t => decide (e.readyLap < t.laps.length) | none => false))) &&
    outs.all fun x => outs.all fun y => x.2 == y.2 || x.1 != y.1

/-- Whether a NAME is ASCII padded with NUL. -/
def nameOk (n : List Byte) : Bool := n.all (fun x => x.toNat < 128) && (n.dropWhile fun x => x != 0).all fun x => x == 0

/-- Whether a LEVELS section keeps R187. -/
def levelsOk (b : List Byte) (degrade : Nat) : Bool :=
  b.length == 32 * degrade && (List.range degrade).all fun j =>
    zeros b (32 * j + 24) 8 && nameOk ((b.drop (32 * j)).take 24)

/-! Fixtures (R350, R351). -/

/-- Slots an attribute takes: two in the 16-bit widths. -/
def attrWidth (v : Nat) : Nat := if natBits v 0 2 = 1 ∨ natBits v 0 2 = 2 then 2 else 1

/-- The attributes of profile `p`: the raw 16 bits of each. -/
def profileAttrs (b : List Byte) (p : Nat) : List Nat :=
  let o := leField b 4 4 + 136 * p
  records b (o + 8) 2 (natBits (leField b o 8) 0 6 + 1)

/-- FOOTPRINT of profile `p`. -/
def profileFoot (b : List Byte) (p : Nat) : Nat := natBits (leField b (leField b 4 4 + 136 * p) 8) 6 10

/-- Whether profile `p` keeps Table 10-14 and R351. -/
def profileOk (b : List Byte) (p : Nat) : Bool :=
  let h := leField b (leField b 4 4 + 136 * p) 8
  let f := profileFoot b p
  natBits h 16 48 == 0 && decide (1 ≤ f ∧ f ≤ 512) && ((profileAttrs b p).map attrWidth).sum == f &&
    (profileAttrs b p).all fun a => natBits a 3 5 == 0

/-- The fixtures of a section as numbers. -/
def fixtures (b : List Byte) : List Nat := records b 0x10 8 (leField b 0 2)

/-- The output of a fixture: DMX or universe, and its number. -/
def fixtureOut (v : Nat) : Bool × Nat := (v.testBit 16, natBits v 0 16)

/-- Whether a FIXTURES section keeps R350 and R351. -/
def fixturesOk (b : List Byte) : Bool :=
  let n := leField b 0 2
  let m := leField b 2 2
  let po := leField b 4 4
  let fs := (fixtures b).zip (List.range n)
  let foot (v : Nat) : Nat := profileFoot b (natBits v 52 12)
  let start (v : Nat) : Nat := natBits v 17 10
  decide (1 ≤ n ∧ n ≤ 16384 ∧ 1 ≤ m ∧ m ≤ 4096) && po % 8 == 0 && zeros b 8 8 &&
    decide (0x10 + 8 * n ≤ b.length ∧ po + 136 * m ≤ b.length) && (List.range m).all (profileOk b) &&
    (fs.all fun q =>
      let v := q.1
      natBits v 27 5 == 0 && decide (natBits v 52 12 < m) && decide (1 ≤ start v ∧ start v + foot v - 1 ≤ 512) &&
        (if v.testBit 16 then decide (natBits v 0 16 ≤ 15) else decide (1 ≤ natBits v 0 16 ∧ natBits v 0 16 ≤ 63999)) &&
        decide (natBits v 32 20 + ((profileAttrs b (natBits v 52 12)).length - 1) ≤ 2 ^ 20 - 1)) &&
    fs.all fun q => fs.all fun r => q.2 == r.2 || fixtureOut q.1 != fixtureOut r.1 ||
      decide (start q.1 + foot q.1 ≤ start r.1 ∨ start r.1 + foot r.1 ≤ start q.1)

/-! The tables of an image and the later steps of R189. -/

/-- The plan tables of an image. -/
def tabsOf (b : List Byte) : PlanTabs :=
  let dir := directory b
  { id := leField b 0x34 4
    slots := (List.range (hSlots b)).map (slotOf b dir)
    stripe := hStripe b
    rateLo := hRateLo b
    rateHi := hRateHi b
    outputLead := hLead b
    stripeGuard := hGuard b
    stripes := hStripes b
    degrade := hDegrade b
    windows := (winWords (sectOf b dir dtWindows 0)).map fun q => winOf q.1 q.2
    banks := (records (sectOf b dir dtBanks 0) 0 8 ((sectOf b dir dtBanks 0).length / 8)).map bankEntOf
    emit := (emitWords (sectOf b dir dtEmit 0)).map fun q => emitOf q.1 q.2.1 q.2.2
    digest := sha256 b
    fixtures := sectOf b dir dtFixtures 0 }

/-- Step 3 of R189: the key slot (R472), then the signature (R188). -/
def State.signFault (s : State) (b : List Byte) : Option Nat :=
  let ks := leField b 0x2A 1
  let n := hSize b - 64
  if 63 < ks ∨ s.ksState ks ≠ 1 ∨ polType (s.ksPolicy ks) ≠ 5 ∨ ¬ (s.ksPolicy ks).testBit 10 then some lrKey
  else if leField b 0x2B 1 ≠ 1 then some lrSignature
  else if ecdsaVerify (s.slotNow ks).pub (sha256 (b.take n)) (bytesValBE ((b.drop n).take 32)) (bytesValBE (b.drop (n + 32))) then none
  else some lrSignature

/-- Step 4 of R189: rates, output lead and stripe fields (R34, R53). -/
def rateFault (b : List Byte) (rate : Nat × Nat) : Bool :=
  let lo := hRateLo b
  let hi := hRateHi b
  let lead := hLead b
  !(rateOk lo.1 lo.2 && rateOk hi.1 hi.2 && rateLe lo hi && rateLe lo rate && rateLe rate hi &&
    decide (20000 ≤ lead ∧ lead ≤ 4000000 ∧ 2 * lead * hi.1 < 1000000000 * hi.2) && decide (leField b 0x0F 1 ≤ 1) &&
    (if hStripe b then decide (2 ≤ hStripes b ∧ hStripes b ≤ 32) else hStripes b == 0 && hGuard b == 0))

/-- Step 5 of R189 on one section: its reason, if it breaks a rule. -/
def sectFault (b : List Byte) (p : PlanTabs) (d : DirEnt) : Option Nat :=
  let x := sectBytes b d
  if d.type = dtCode then (if d.size % 16 = 0 ∧ d.size ≤ 131072 then none else some lrSection)
  else if d.type = dtLaps then (if lapsOk x p.degrade p.stripe p.stripes then none else some lrLap)
  else if d.type = dtDesc then (if descsOk x then none else some lrDesc)
  else if d.type = dtWindows then (if windowsOk x p.slots.length p.rateLo p.rateHi then none else some lrWindow)
  else if d.type = dtBanks then (if banksOk x p.slots then none else some lrBanksched)
  else if d.type = dtEmit then (if emitOk x p.slots p.degrade p.outputLead p.rateHi then none else some lrEmit)
  else if d.type = dtLevels then (if levelsOk x p.degrade then none else some lrDegrade)
  else if d.type = dtFixtures then (if fixturesOk x then none else some lrSection)
  else none

/-- Step 5 of R189: the first section in directory order that breaks a rule. -/
def sectsFault (b : List Byte) (p : PlanTabs) : Option (Nat × Nat) :=
  (directory b).findSome? fun d => (sectFault b p d).map fun r => (r, d.at_)

/-- A spare segment with SEG_OK of an engine (R190). -/
def State.spareSeg (s : State) (e : Nat) : Option Nat :=
  let used := s.fld (ENG_SEG_MAP_SEG.inst e)
  (List.range 4).find? fun k => k != used && (s.fld (ENG_SEG_MAP_SEG_OK.inst e)).testBit k &&
    !(s.plan.segDue.any fun r => s.slotEngine r.1 == e && r.2 == k)

/-- Whether some in-service engine has no spare segment (R190). -/
def State.seamless (s : State) : Bool :=
  (List.range 10).all fun e => s.fld (ENG_STATUS_ROLE.inst e) != 0 || (s.spareSeg e).isSome

/-- Steps 2 to 5 and 7 of R189 on the whole image; step 6 is apart. -/
def State.imageFault (s : State) (b : List Byte) : Option (Nat × Nat) :=
  match dirFault b (s.fld PLAN_CAPS_SLOTS) with
  | some r => some r
  | none =>
    match s.signFault b with
    | some r => some (r, hCount b - 1)
    | none => if rateFault b s.rate then some (lrRate, noEntry) else sectsFault b (tabsOf b)

/-! LOAD_STATUS and staging. -/

/-- `s` with the plan sequencer changed by `f`. -/
def State.modPlan (s : State) (f : PlanS → PlanS) : State := { s with plan := f s.plan }

/-- LOAD_STATUS. -/
def State.loadStatus (s : State) (st reason sect : Nat) : State :=
  ((s.setFld PLAN_LOAD_STATUS_STATE st).setFld PLAN_LOAD_STATUS_REASON reason).setFld PLAN_LOAD_STATUS_SECTION sect

/-- The banks a plan names (R217). -/
def PlanTabs.bankList (p : PlanTabs) : List Nat := p.banks.map fun b => b.bank

/-- Whether the active or the staged plan names a bank (R217). -/
def State.isPlanBank (s : State) (b : Nat) : Bool :=
  (match s.plan.active with | some p => p.bankList.contains b | none => false) ||
    (match s.plan.staged with | some p => p.bankList.contains b | none => false)

/-- PLAN_BANK follows the active and the staged plan. -/
def State.planBanks (s : State) : State :=
  (List.range 32).foldl (fun t b => t.setBit (BANK_STATUS_PLAN_BANK.inst b) (s.isPlanBank b)) s

/-- A load is refused (R189). -/
def State.refuseLoad (s : State) (reason sect : Nat) : State :=
  ((s.loadStatus lsRefused reason sect).modPlan fun p => { p with loading := none, checked := none }).raise planPage 9
    (reason + sect * 2 ^ 5)

/-- Bundles of a section in segment `seg`, NOP beyond them (R173). -/
def EngS.loadSeg (x : EngS) (seg : Nat) (code : List Bundle) : EngS :=
  let base := seg * 8192
  let out (p : Nat) : Bool := !(decide (base ≤ p ∧ p < base + 8192))
  { x with
    imem := mapSetList (fun _ => (0 : Bundle)) (x.imem.filter fun p => out p.1) base (code.take 8192)
    imemErr := x.imemErr.filter fun p => out p.1 }

/-- IMAGE_ADDR. -/
def State.imageAddr (s : State) : Nat := s.pair PLAN_IMAGE_ADDR_LO_ADDR PLAN_IMAGE_ADDR_HI_ADDR

/-- A staged plan is discarded. -/
def State.dropStaged (s : State) : State :=
  ((s.modPlan fun p => { p with staged := none, stagedSeg := [], copyDue := [] }).setFld PLAN_STAGED_ID_ID 0).planBanks

/-- A write of LOAD_CMD (R189): ABORT first, then LOAD. -/
def State.loadCmd (s : State) (v : Word) : State :=
  let busy (t : State) : Bool := (t.plan.loading).isSome
  let s1 := if v.getLsbD 1 ∧ busy s then
      (s.loadStatus lsAborted 0 0).modPlan fun p => { p with loading := none, checked := none }
    else s
  if v.getLsbD 0 then
    if busy s1 then s1.raise planPage 9 (lrBusy + noEntry * 2 ^ 5)
    else
      let s2 := if s1.fld PLAN_LOAD_STATUS_STATE = lsStaged then s1.dropStaged else s1
      let s3 := ((s2.loadStatus lsChecking 0 0).setBit PLAN_LOAD_STATUS_FITS_WORST false).modPlan fun p =>
        { p with loading := some (s.imageAddr, false), stopOk := v.getLsbD 2 }
      s3.avsFloor
  else s1

/-- The header as the loader reads it, before the rest: reason, bytes, state. -/
def State.readHeader (s : State) (a : Nat) : Option Nat × List Byte × State :=
  if a % 64 ≠ 0 then (some lrDram, [], s)
  else if ¬ s.inDram a 128 then (some lrDram, [], s)
  else
    let r := s.readDram a 128
    if r.2.1 then (some lrDram, [], r.2.2)
    else match headerFault r.1 (s.fld SYS_SILICON_REV_BASE_REV) (s.fld SYS_SILICON_REV_METAL_REV) with
      | some k => (some k, [], r.2.2)
      | none =>
        if ¬ s.inDram a (hSize r.1) then (some lrDram, [], r.2.2)
        else if 15 < hDegrade r.1 then (some lrDegrade, [], r.2.2)
        else (none, r.1, r.2.2)

/-- The end of CHECKING (R189): steps 1 to 6, and whether staging has room (R190). -/
def State.checkLoad (s : State) (a : Nat) : State :=
  let h := s.readHeader a
  match h.1 with
  | some k => h.2.2.refuseLoad k noEntry
  | none =>
    let r := h.2.2.readDram a (hSize h.2.1)
    let s1 := r.2.2
    if r.2.1 then s1.refuseLoad lrDram noEntry
    else match s1.imageFault r.1 with
      | some f => s1.refuseLoad f.1 f.2
      | none =>
        let p := tabsOf r.1
        let s2 := s1.setBit PLAN_LOAD_STATUS_FITS_WORST (decide (0 ≤ p.margin s1.rate p.degrade 1600))
        if p.margin s1.rate p.degrade s1.tAdm < 0 then s2.refuseLoad lrAdmit noEntry
        else if ¬ s2.seamless ∧ ¬ s2.plan.stopOk then s2.refuseLoad lrSeamless noEntry
        else (s2.loadStatus lsStaging 0 0).modPlan fun q => { q with loading := some (a, true), checked := some p }

/-- The code of slot `k` goes into a spare segment of the engine that serves it (R190); a LOST slot has none. -/
def State.stageSlot (s : State) (k : Nat) (t : SlotTab) : State :=
  let e := s.slotEngine k
  match (if s.fld (PLAN_SLOT_STATE.nth k) = 3 then none else s.spareSeg e) with
  | some seg =>
    (s.modEng e fun x => x.loadSeg seg t.code).modPlan fun q =>
      { q with stagedSeg := (q.stagedSeg.filter fun r => r.1 != k) ++ [(k, seg)] }
  | none => s

/-- Segments whose corrected errors have reached ROW_CORR_LIMIT in the hour are no longer good (R488). -/
def State.dropSegs (s : State) : State :=
  s.groom.segCorr.foldl (fun t q =>
    let f := (ENG_SEG_MAP_SEG_OK.inst (q.1 / 4)).one (q.1 % 4)
    if max (s.fld GROOM_ROW_CORR_LIMIT_COUNT) 1 ≤ q.2 ∧ t.bit f then (t.setBit f false).raise 7 10 (q.1 / 4 + q.1 % 4 * 2 ^ 4) else t) s

/-- Staging ends (R190): the image is read a second time, tables and code are in place. -/
def State.stageLoad (s : State) (a : Nat) (p : PlanTabs) : State :=
  let h := s.dropSegs.readDram a 128
  let r := h.2.2.readDram a (hSize h.1)
  if r.2.1 then r.2.2.refuseLoad lrDram noEntry
  else
    let s0 := p.bankList.foldl (fun (t : State) (b : Nat) => t.endBorrow b) r.2.2
    let s1 := (p.slots.zip (List.range p.slots.length)).foldl (fun t q => t.stageSlot q.2 q.1) s0
    let s2 := s1.modPlan fun q => { q with loading := none, checked := none, staged := some p }
    ((((s2.setFld PLAN_STAGED_ID_ID p.id).loadStatus lsStaged 0 0).planBanks)).raise planPage 8 p.id

/-! The meanings. -/

/-- PLAN_LOAD (R189). -/
def execPlanLoad (q : Req) (v : Word) (s : State) : Host.Outcome State Fault Refusal :=
  .next (s.write q planPage 0x048 v fun t => t.loadCmd v)

/-- PLAN_ABORT (R189). -/
def execPlanAbort (q : Req) (v : Word) (s : State) : Host.Outcome State Fault Refusal :=
  .next (s.write q planPage 0x048 v fun t => t.loadCmd v)

/-- LOAD_CHECK_END (R189). -/
def execLoadCheckEnd (s : State) : Host.Outcome State Fault Refusal :=
  match s.plan.loading with
  | some (a, false) => .next (s.checkLoad a)
  | _ => .next s

/-- LOAD_DONE (R190). -/
def execLoadDone (s : State) : Host.Outcome State Fault Refusal :=
  match s.plan.loading, s.plan.checked with
  | some (a, true), some p => .next (s.stageLoad a p)
  | _, _ => .next s

end Sys2Proof.Machine
end

