-- ==== Sys2Proof/Machine/Egress.lean ====
section
/-! DEFINITION. Emit sources, the patch stage (R350 to R352) and video egress (spec/10, R332 to R335). -/

namespace Sys2Proof.Machine

open Sys2Proof

/-! Emit sources (Table 05-6) and their data. -/

/-- The DRAM address an entry's SOURCE and BASE_SEL name in a plan frame. An entry has no ALT_OFFSET, so
the step of PINGPONG is a free value (log entry 25). -/
def State.emitBase (s : State) (f : FrameRun) (e : EmitEnt) : Nat :=
  if e.baseSel = 0 then e.source
  else if e.baseSel = 9 then e.source + s.freeVal % 2 ^ 40 * (f.n % 2)
  else mapGet (fun _ => 0) f.planes (e.baseSel - 1) + e.source

/-- One word an emit read takes from a bank (Tables 06-1 and 06-3): 0 where it is uncorrectable, or where the bank is
not owned by EMIT, which is foreign. -/
def State.emitWord (s : State) (b off : Nat) : Nat × State :=
  let t := s.stallServed b off 2
  if ownerAdmits (s.owner b) .emit then
    let r := t.sRead b off 2
    (if r.2.1 then 0 else r.1.toNat, r.2.2)
  else (0, t.foreign b off 2 false)

/-- `n` bytes an emit read takes from address `a`, of the banks or of DRAM; bytes outside usable DRAM, or of a word that
reads uncorrectable, read 0 (log entry 25). -/
def State.emitBytes (s : State) (bank : Bool) (a n : Nat) : List Byte × State :=
  let r := (List.range ((a % 8 + n + 7) / 8)).foldl (fun (q : List Byte × State) i =>
    let w := a / 8 * 8 + 8 * i
    let x := if bank then q.2.emitWord (natBits w 18 5) (natBits w 0 18)
      else if q.2.inDram w 8 then
        let d := q.2.readDramWord w
        (if d.2.1 then 0 else d.1, d.2.2)
      else (0, q.2)
    (q.1 ++ valBytes 8 x.1, x.2)) ([], s)
  ((r.1.drop (a % 8)).take n, r.2)

/-- The address an entry's source starts at in a plan frame, of the banks or of DRAM. -/
def State.emitAddr (s : State) (f : FrameRun) (e : EmitEnt) : Nat := if e.baseSel = 0x1F then e.source else s.emitBase f e

/-- `n` bytes at `off` of an entry's source. -/
def State.sourceBytes (s : State) (f : FrameRun) (e : EmitEnt) (off n : Nat) : List Byte × State :=
  s.emitBytes (e.baseSel == 0x1F) (s.emitAddr f e + off) n

/-- The value of an attribute as its slots carry it (Table 10-14). -/
def attrSlots (a v : Nat) : List Byte :=
  let x := if a.testBit 2 then 0xFFFF - v else v
  if natBits a 0 2 = 0 then [BitVec.ofNat 8 (x / 256)]
  else if natBits a 0 2 = 1 then [BitVec.ofNat 8 (x / 256), BitVec.ofNat 8 x]
  else if natBits a 0 2 = 2 then [BitVec.ofNat 8 x, BitVec.ofNat 8 (x / 256)]
  else [BitVec.ofNat 8 (natBits a 8 8)]

/-- The slots of a fixture's attributes from the `i`-th on (R350). -/
def State.fixtureSlots (s : State) (f : FrameRun) (e : EmitEnt) (base i : Nat) (l : List Nat) : List Byte × State :=
  match l with
  | [] => ([], s)
  | a :: t =>
    let r := if natBits a 0 2 = 3 then ([0, 0], s) else s.sourceBytes f e (2 * (base + i)) 2
    let rest := r.2.fixtureSlots f e base (i + 1) t
    (attrSlots a (bytesVal r.1) ++ rest.1, rest.2)

/-- The 512 slots of a patched output (R352): a slot no fixture covers is 0. -/
def State.patchSlots (s : State) (f : FrameRun) (e : EmitEnt) (dmx : Bool) (out : Nat) : List Byte × State :=
  let b := f.plan.fixtures
  ((fixtures b).filter fun v => fixtureOut v == (dmx, out)).foldl (fun (q : List Byte × State) v =>
    let r := q.2.fixtureSlots f e (natBits v 32 20) 0 (profileAttrs b (natBits v 52 12))
    (putBytes q.1 (natBits v 17 10 - 1) r.1, r.2)) (List.replicate 512 0, s)

/-! Egress units. -/

/-- The page of egress unit `n`. -/
def egressPage (n : Nat) : Nat := 0x68 + n

/-- The pictures unit `n` sends, oldest first. -/
def State.egress (s : State) (n : Nat) : List EgressJob := mapGet (fun _ => []) s.egresses n

/-- `s` with the pictures of unit `n` set. -/
def State.setEgress (s : State) (n : Nat) (l : List EgressJob) : State :=
  { s with egresses := mapSet (fun _ => []) s.egresses n l }

/-- A unit's settings, read through `g` from the shadow or in force: rows, row bytes, packets (R333). -/
def egRows (g : Fld → Nat) : Nat := fmtRows (g EGRESS_FORMAT_FMT) (g EGRESS_SIZE_HEIGHT)
def egRowBytes (g : Fld → Nat) : Nat := fmtRowBytes (g EGRESS_FORMAT_FMT) (g EGRESS_SIZE_WIDTH)
def ceilDiv (a b : Nat) : Nat := (a + b - 1) / max 1 b
def egPackets (g : Fld → Nat) : Nat :=
  if g EGRESS_TX_SPAN = 1 then ceilDiv (egRows g * egRowBytes g) (g EGRESS_TX_SEG_PAYLOAD)
  else egRows g * ceilDiv (egRowBytes g) (g EGRESS_TX_SEG_PAYLOAD)

/-- Due offset of packet `k` from launch, in units of 2^-16 ns (R334). -/
def egDue (g : Fld → Nat) (rate : Nat × Nat) (k : Nat) : Nat :=
  g EGRESS_TRO_NS_NS * unitsPerNs +
    k * rate.2 * unitsPerSec * g EGRESS_ACTIVE_NUM / max 1 (rate.1 * g EGRESS_ACTIVE_DEN * egPackets g)

/-- The SRDs of packet `k` and the offset of its data in the picture's bytes (R308, R333). -/
def egSrds (g : Fld → Nat) (d : TxDesc) (k : Nat) : List Srd :=
  let rb := egRowBytes g
  let seg := g EGRESS_TX_SEG_PAYLOAD
  if g EGRESS_TX_SPAN = 1 then
    let pos := k * seg
    (srdFrame d (pos / max 1 rb) (pos % max 1 rb) (min seg (egRows g * rb - pos)) (egRows g * rb - pos) 2).1
  else
    let per := ceilDiv rb seg
    let byte := k % max 1 per * seg
    (srdFrame d (k / max 1 per) byte (min seg (rb - byte)) (rb - byte) 1).1

/-- A 16-bit sample narrowed to `b` bits (R332). -/
def narrowSample (b v : Nat) : Nat := min ((v + (if b < 16 then 2 ^ (15 - b) else 0)) / 2 ^ (16 - b)) (2 ^ b - 1)

/-- Samples packed into a pgroup, big-endian bits first. -/
def packGroup (b : Nat) (l : List Nat) : List Byte :=
  let v := l.foldl (fun a x => a * 2 ^ b + x) 0
  valBytesBE (l.length * b / 8) v

/-- Source samples from bytes, two or four components of two bytes. -/
def sampleAt (bs : List Byte) (i : Nat) : Nat := bytesVal ((bs.drop (2 * i)).take 2)

/-- The bytes of `n` bytes of one SRD row from pixel `x` on, read from the picture at `a` (R326, R332). -/
def State.egRow (s : State) (g : Fld → Nat) (bank : Bool) (a row x n : Nat) : List Byte × State :=
  let f := g EGRESS_FORMAT_FMT
  let b := fmtDepth f
  let pitch := g EGRESS_PITCH_BYTES
  let coff := g EGRESS_CHROMA_OFF_PAGES * 4096
  let groups := n / max 1 (fmtBytes f)
  let px := groups * fmtPixels f
  let rd (t : State) (ad len : Nat) : List Byte × State := t.emitBytes bank ad len
  let ns (v : Nat) : Nat := narrowSample b v
  if f = 0 then
    let y := rd s (a + row * pitch + 2 * x) (2 * px)
    let c := rd y.2 (a + coff + row * pitch + 4 * (x / 2)) (2 * px)
    ((List.range groups).flatMap fun i =>
      packGroup b [ns (sampleAt c.1 (2 * i)), ns (sampleAt y.1 (2 * i)), ns (sampleAt c.1 (2 * i + 1)), ns (sampleAt y.1 (2 * i + 1))], c.2)
  else if f = 1 then
    let y0 := rd s (a + 2 * row * pitch + 2 * x) (2 * px)
    let y1 := rd y0.2 (a + (2 * row + 1) * pitch + 2 * x) (2 * px)
    let c := rd y1.2 (a + coff + row * pitch + 4 * (x / 2)) (2 * px)
    ((List.range groups).flatMap fun i =>
      let l (k : Nat) : List Nat := [ns (sampleAt y0.1 (4 * i + 2 * k)), ns (sampleAt y0.1 (4 * i + 2 * k + 1)),
        ns (sampleAt y1.1 (4 * i + 2 * k)), ns (sampleAt y1.1 (4 * i + 2 * k + 1)),
        ns (sampleAt c.1 (4 * i + 2 * k)), ns (sampleAt c.1 (4 * i + 2 * k + 1))]
      packGroup b (l 0 ++ l 1), c.2)
  else
    let w := if g EGRESS_FORMAT_SRC = 3 then 4 else 3
    let p := rd s (a + row * pitch + 2 * w * x) (2 * w * px)
    ((List.range groups).flatMap fun i =>
      packGroup b ((List.range (fmtPixels f)).flatMap fun j =>
        (List.range 3).map fun k => ns (sampleAt p.1 (w * (i * fmtPixels f + j) + k))), p.2)

/-- The data of a packet's SRDs. -/
def State.egData (s : State) (g : Fld → Nat) (bank : Bool) (a : Nat) (l : List Srd) : List Byte × State :=
  match l with
  | [] => ([], s)
  | x :: t =>
    let r := s.egRow g bank a x.row x.off x.n
    let q := r.2.egData g bank a t
    (r.1 ++ q.1, q.2)

/-- The send the unit's settings describe (R333). -/
def egDesc (g : Fld → Nat) (seq : Nat) : TxDesc :=
  let f := g EGRESS_FORMAT_FMT
  let w0 := g EGRESS_TX_HDR_LEN * 2 ^ 40 + 3 * 2 ^ 48 + g EGRESS_TX_SPAN * 2 ^ 51 + g EGRESS_TX_UDP_CSUM * 2 ^ 52 + 2 ^ 53
  ⟨[w0, 0, g EGRESS_TX_SEG_PAYLOAD * 2 ^ 32, seq, egRowBytes g + fmtBytes f * 2 ^ 48 + fmtPixels f * 2 ^ 56, 0]⟩

/-- The settings of unit `n` in force. -/
def State.egAct (s : State) (n : Nat) : Fld → Nat := fun f => s.act (f.inst n)

/-- Address of the template of leg `leg`. -/
def State.egTemplate (s : State) (n leg : Nat) : Nat := s.actPair (EGRESS_TEMPLATE_LO_ADDR.inst n) (EGRESS_TEMPLATE_HI_ADDR.inst n) / 64 * 64 + 128 * leg

/-- A template as read, whether it can be used (R307). -/
def State.readTemplate (s : State) (n leg : Nat) : List Byte × Bool × State :=
  let len := s.act (EGRESS_TX_HDR_LEN.inst n)
  let a := s.egTemplate n leg
  if s.inDram a len then
    let r := s.readDram a len
    (r.1, templateOk 3 r.1 && !r.2.1, r.2.2)
  else ([], false, s)

/-- The fetch of an egress entry (R332, R335): a ready picture waits for its packets' due instants. -/
def State.egressFetch (s : State) (n : Nat) (f : FrameRun) (e : EmitEnt) (ready shed : Bool) (launch : Nat) : State :=
  if s.act (EGRESS_CTRL_EN.inst n) = 0 ∨ shed then s
  else if ¬ ready then s.incFld (EGRESS_FRAMES_SKIPPED_COUNT.inst n) 1
  else
    let t1 := s.readTemplate n 0
    let t2 := if s.act (EGRESS_TX_PAIR.inst n) = 1 then t1.2.2.readTemplate n 1 else ([], true, t1.2.2)
    if ¬ t1.2.1 ∨ ¬ t2.2.1 then t2.2.2.raise (egressPage n) 8 (lo32 f.n)
    else
      let s1 := t2.2.2
      let ts := (intBits 32 (rtpTime s.rate (f.plan.emitTransit f.n) + s.actInt (EGRESS_TS_OFFSET_TICKS.inst n)))
      (if e.baseSel = 9 then s1.takeFree else s1).setEgress n
        (s1.egress n ++ [⟨f.n, launch, s1.rate, ts, e.baseSel == 0x1F, s1.emitAddr f e, 0⟩])

/-- A seam opens at `ta`: of the pictures only those launched by then go on (R40). -/
def State.egressSeam (s : State) (ta : Nat) : State :=
  (List.range 8).foldl (fun (t : State) n => t.setEgress n ((t.egress n).filter fun j => decide (j.launch ≤ ta))) s

/-- The launch of an egress entry: the picture is in progress. -/
def State.egressLaunch (s : State) (n frame : Nat) : State :=
  if (s.egress n).any fun j => j.frame == frame then s.setBit (EGRESS_STATUS_SENDING.inst n) true else s

/-- Frames sent under a context count on it (Table 10-2). -/
def State.countFlow (s : State) (typ unit : Nat) : State :=
  (List.range 256).foldl (fun t c =>
    if t.act (FLOW_FLOW_CFG_TYPE.nth c) = typ ∧ t.act (FLOW_FLOW_CFG_UNIT.nth c) = unit then t.incFld (FLOW_FLOW_PKTS_COUNT.nth c) 1 else t) s

/-- The next packet of unit `n`'s oldest picture is handed to its port (R333 to R335). -/
def State.egressHand (s : State) (n : Nat) (j : EgressJob) : State :=
  let g := s.egAct n
  let total := egPackets g
  let seq := s.fld (EGRESS_SEQ32_SEQ.inst n)
  let d := egDesc g ((seq + 2 ^ 32 - j.next % 2 ^ 32) % 2 ^ 32)
  let l := egSrds g d j.next
  let r := s.egData g j.bank j.base l
  let due := j.launch + egDue g j.rate j.next
  let port := s.act (EGRESS_TX_PORT.inst n)
  let leg (t : State) (k : Nat) : State :=
    let tp := t.readTemplate n k
    let o := l3Off tp.1
    let tb := putBytes tp.1 (o + ipLen tp.1 o + 12) (valBytesBE 4 j.ts)
    tp.2.2.handFrame (port + k) 1 due (d.frame tb j.next total (srdHeader (natBits seq 16 16) false l) r.1)
  let s1 := leg r.2 0
  let s2 := if g EGRESS_TX_PAIR = 1 then leg s1 1 else s1
  let s3 := (s2.incFld (EGRESS_SEQ32_SEQ.inst n) 1).countFlow 3 n
  let rest := (s.egress n).drop 1
  if total ≤ j.next + 1 then
    ((s3.setEgress n rest).incFld (EGRESS_FRAMES_SENT_COUNT.inst n) 1).setBit (EGRESS_STATUS_SENDING.inst n)
      (rest.any fun x => decide (x.launch ≤ s.time.now))
  else s3.setEgress n ({ j with next := j.next + 1 } :: rest)

/-- EGRESS_PACKET_HANDOVER (R335): the oldest picture's next packet is due within 20 µs. -/
def execEgressPacketHandover (n : Nat) (s : State) : Host.Outcome State Fault Refusal :=
  match s.egress n with
  | j :: _ =>
    .next (if j.launch + egDue (s.egAct n) j.rate j.next ≤ s.time.now + 20000 * unitsPerNs then s.egressHand n j else s)
  | [] => .next s

/-! Low-power idle (R311). -/

/-- The instant of the next paced frame of port `p`: of those handed to it, and of the pictures in progress. -/
def State.nextPaced (s : State) (p : Nat) : Option Nat :=
  ((List.range 8).flatMap fun n =>
    if s.act (EGRESS_TX_PORT.inst n) = p ∨ (s.act (EGRESS_TX_PAIR.inst n) = 1 ∧ s.act (EGRESS_TX_PORT.inst n) + 1 = p) then
      (s.egress n).map fun j => j.launch + egDue (s.egAct n) j.rate j.next
    else []).foldl (fun m a => match m with | some b => some (min a b) | none => some a) (s.net p).firstPaced

/-- Whether the transmitter may enter low-power idle. -/
def State.lpiMay (s : State) (p : Nat) : Bool :=
  let n := s.net p
  let m := s.netMode p
  s.netUp p && decide (2 ≤ m ∧ m ≤ 4) && s.bit (NET_LPI_CFG_EN.inst p) && !(s.fld TIME_PTP_CFG_PORT_EN).testBit p &&
    decide (n.idleSince + s.fld (NET_LPI_CFG_IDLE_US.inst p) * 1000 * unitsPerNs ≤ s.time.mono) && n.buf.isEmpty && n.queue.isEmpty &&
    match s.nextPaced p with
    | some a => decide (s.time.now + (s.fld (NET_LPI_WAKE_NS_NS.inst p) + 2000) * unitsPerNs < a)
    | none => true

/-- Whether it must leave it. -/
def State.lpiMust (s : State) (p : Nat) : Bool :=
  ((s.net p).buf.any fun f => f.src != 1) ||
    match s.nextPaced p with
    | some a => decide (a ≤ s.time.now + s.fld (NET_LPI_WAKE_NS_NS.inst p) * unitsPerNs)
    | none => false

/-- LPI_ENTER (R311). -/
def execLpiEnter (p : Nat) (s : State) : Host.Outcome State Fault Refusal :=
  .next (if s.lpiMay p then s.setBit (NET_STATUS_TX_LPI.inst p) true else s)

/-- LPI_EXIT (R311). -/
def execLpiExit (p : Nat) (s : State) : Host.Outcome State Fault Refusal :=
  .next (if s.bit (NET_STATUS_TX_LPI.inst p) ∧ s.lpiMust p then s.setBit (NET_STATUS_TX_LPI.inst p) false else s)

/-- PACKETS and TRS_PS in force (R333, R334). -/
def State.egressSync (s : State) (n : Nat) : State :=
  let g := s.egAct n
  let k := egPackets g
  (s.setFld (EGRESS_PACKETS_N.inst n) k).setFld (EGRESS_TRS_PS_PS.inst n)
    (if k = 0 ∨ s.rate.1 = 0 ∨ g EGRESS_ACTIVE_DEN = 0 then 0
     else 1000000000000 * s.rate.2 * g EGRESS_ACTIVE_NUM / (s.rate.1 * g EGRESS_ACTIVE_DEN * k))

/-- REASON a commit of unit `n` is refused with; 0 for none (R325, R332 to R334, Table 10-6). -/
def State.egressCommit (s : State) (n : Nat) : Nat :=
  let g (f : Fld) : Nat := s.fld (f.inst n)
  let f := g EGRESS_FORMAT_FMT
  let src := g EGRESS_FORMAT_SRC
  let w := g EGRESS_SIZE_WIDTH
  let h := g EGRESS_SIZE_HEIGHT
  let seg := g EGRESS_TX_SEG_PAYLOAD
  let hdr := g EGRESS_TX_HDR_LEN
  let srds := egSrds g (egDesc g 0) (egPackets g - 1)
  let num := g EGRESS_ACTIVE_NUM
  let den := g EGRESS_ACTIVE_DEN
  let port := g EGRESS_TX_PORT
  let agree := if f = 0 then src == 1 else if f = 1 then src == 2 else src == 0 || src == 3
  let wire := psUnits ((hdr + 2 + 6 * srds.length + (srds.map fun x => x.n).sum + 24) * 8 * s.bitPs port)
  let last := egDue g s.rate (egPackets g - 1) + wire
  let room := s.rate.2 * unitsPerSec * num / max 1 (s.rate.1 * den)
  if 5 < f ∨ ¬ agree ∨ hdr < 54 ∨ 128 < hdr ∨ seg = 0 ∨ 9000 < seg ∨ seg % max 1 (fmtBytes f) ≠ 0 ∨ den = 0 ∨ den < num ∨
      (g EGRESS_TX_PAIR = 1 ∧ port % 2 = 1) ∨ egRowBytes g < seg ∨ ¬ sizeOk f w h s.rate.1 (max 1 s.rate.2) ∨ room < last then 3
  else 0

end Sys2Proof.Machine
end

