-- ==== Sys2Proof/Machine/TimeBase.lean ====
section
/-! DEFINITION. The time base (spec/03, R85 to R110): its tick, corrections and the step guard, the servo, the PTP engine, glide, and the meanings of its commands. -/

namespace Sys2Proof.Machine

open Sys2Proof

/-! STATE codes of TIME.STATUS (Table 03-1). -/
def tsUnset : Nat := 0
def tsFree : Nat := 1
def tsAcquire : Nat := 2
def tsLocked : Nat := 3
def tsGlide : Nat := 4
def tsHeld : Nat := 5

/-- TIME.STATUS.STATE. -/
def State.timeState (s : State) : Nat := s.fld TIME_STATUS_STATE

/-- `s` with the time base's own data changed. -/
def State.modTime (s : State) (f : TimeS → TimeS) : State := { s with time := f s.time }

/-- STATE changes; LOCKED and UNLOCKED are raised as Table 03-5 gives. -/
def State.setTimeState (s : State) (st : Nat) : State :=
  let old := s.timeState
  let s1 := s.setFld TIME_STATUS_STATE st
  if st = tsLocked ∧ old ≠ tsLocked then s1.raise 2 8 (s.fld TIME_OFFSET_NS_NS)
  else if old = tsLocked ∧ st ≠ tsLocked then s1.raise 2 9 st
  else s1

/-- Offsets in whole ns, halves away from zero (R96). -/
def roundNs (o : Int) : Int := roundDiv o unitsPerNs

/-- A signed value saturated to `w` bits. -/
def satInt (w : Nat) (i : Int) : Int := clampInt (-(2 ^ (w - 1) - 1)) (2 ^ (w - 1) - 1) i

/-- Denominator of the frequency scale: 256 · 10^9 units of 1/256 ppb. -/
def ppbScale : Nat := 256000000000

/-- The TIME grid's nominal tick, 1.25 ns, in units of 2^-16 ns (R86). -/
def tickUnits : Nat := 81920

/-- The frequency the time base runs at: GLIDE_FREQ in GLIDE and HELD (R102, R107), else FREQ_ADJ. -/
def State.freqNow (s : State) : Int :=
  if s.timeState = tsGlide ∨ s.timeState = tsHeld then s.sfld TIME_GLIDE_FREQ_ADJ else s.sfld TIME_FREQ_ADJ_ADJ

/-- Whether a software correction is being slewed: not while HELD, when the time base runs at GLIDE_FREQ
(R102; log entry 34). -/
def State.slewing (s : State) : Bool := s.time.swRem != 0 && s.timeState != tsHeld

/-- The slew of a software correction, at exactly CARVE_MAX until absorbed (R101). -/
def State.slewNow (s : State) : Int :=
  if ¬ s.slewing then 0
  else
    let m : Int := s.fld TIME_CARVE_MAX_PPB * 256
    if s.time.swForward then m else -m

/-- A mark of the tick unit reaches the scheduler's elastic buffer (R253, R255): one that arrives while
an earlier tick mark waits is held and counted. -/
def State.tickMark (s : State) (n : Nat) : State :=
  if n = 0 then s
  else
    let held := s.marks.any fun m => match m with | .tick _ => true | _ => false
    let s1 := { s with marks := s.marks ++ [.tick n] }
    if held then (s1.incFld SCHED_TICK_BEHIND_COUNT 1).raise 5 10 (s.fld SCHED_TICK_NOW_TICKS) else s1

/-- Tick instants after `a` and up to `b`, both in units of 2^-16 ns (R253). -/
def State.tickInstants (s : State) (a b : Nat) : Nat :=
  let p := s.act SCHED_TICK_CFG_US * 1000 * unitsPerNs
  b / p - a / p

/-- The suspension of the step guard for a software correction ends once what is left of it lies within the
threshold (R103). -/
def State.carveDone (s : State) : State :=
  if s.time.carveOpen ∧ s.time.carveSoft ∧ s.time.swRem ≤ s.fld TIME_STEP_THRESH_NS * unitsPerNs * ppbScale then
    (s.modTime fun t => { t with carveOpen := false, carveSoft := false }).setBit TIME_CTRL_CARVE_AUTH false
  else s

/-- One tick of the TIME grid (R86): the increment is the nominal tick scaled by the frequency in
force; a running software slew and a running glide are accounted. -/
def State.tick (s : State) : State :=
  let num : Int := s.time.res + tickUnits * ((ppbScale : Int) + s.freqNow + s.slewNow)
  let inc := num.toNat / ppbScale
  let used := if s.slewing then tickUnits * (s.fld TIME_CARVE_MAX_PPB * 256) else 0
  let pulseOver := match s.time.fsyncEnd with | some e => decide (e ≤ s.time.mono + inc) | none => false
  let s1 := s.modTime fun t => { t with
    now := t.now + inc
    mono := t.mono + inc
    res := num.toNat % ppbScale
    swRem := t.swRem - used
    glideUnits := if s.timeState = tsGlide then t.glideUnits + inc else t.glideUnits
    fsyncEnd := if pulseOver then none else t.fsyncEnd }
  let s2 := if s.timeState = tsGlide then
      s1.setFld TIME_GLIDE_AGE_MS_MS (min (s1.time.glideUnits / (unitsPerNs * 1000000)) (2 ^ 32 - 1))
    else s1
  let s3 := (if pulseOver then s2.emit (.pin 16 (s.bit TRIG_FSYNC_CFG_OUT_POL)) else s2).carveDone
  s3.tickMark (s.tickInstants s.time.now (s.time.now + inc))

/-! The servo (R98, R99). -/

/-- GLIDE_FREQ: the mean of FREQ_ADJ over the last 16 samples accepted in LOCKED (R107). -/
def State.glideFreq (s : State) : Int :=
  match s.time.adjHist with
  | [] => s.sfld TIME_FREQ_ADJ_ADJ
  | l => roundDiv l.sum l.length

/-- The servo is put in ACQUIRE; the integral term and FREQ_ADJ are kept (R98). -/
def State.servoAcquire (s : State) : State :=
  (s.modTime fun t => { t with servoLocked := false, lockRun := 0, unlockRun := 0 }).setTimeState tsAcquire

/-- The lock counters after an accepted sample (R98). -/
def State.servoLock (s : State) (o : Int) : State :=
  if s.timeState = tsLocked then
    let run := if (s.fld TIME_UNLOCK_NS_NS * unitsPerNs : Int) < |o| then s.time.unlockRun + 1 else 0
    let s1 := s.modTime fun t => { t with unlockRun := run }
    if run = 4 then s1.servoAcquire else s1
  else if s.timeState = tsAcquire then
    let run := if |o| ≤ (s.fld TIME_LOCK_CFG_LOCK_NS * unitsPerNs : Int) then s.time.lockRun + 1 else 0
    let s1 := s.modTime fun t => { t with lockRun := run }
    if max (s.fld TIME_LOCK_CFG_LOCK_COUNT) 1 ≤ run then
      (s1.modTime fun t => { t with servoLocked := true, everLocked := true, unlockRun := 0 }).setTimeState tsLocked
    else s1
  else s

/-- The proportional-integral update of an accepted sample within the guard (R98, R99). The span since
the previous accepted sample is a free value where there is none or it is zero (log entry 7). -/
def State.servoUpdate (s : State) (o : Int) : State :=
  if s.bit TIME_CTRL_SW_SERVO then s.modTime fun t => { t with
    prevSample := some t.mono
    adjHist := if s.timeState = tsLocked then (t.adjHist ++ [s.sfld TIME_FREQ_ADJ_ADJ]).drop (t.adjHist.length - 15)
      else t.adjHist }
  else
    let ts0 := match s.time.prevSample with | some p => s.time.mono - p | none => 0
    let known : Bool := ts0 != 0
    let ts : Nat := if known then ts0 else s.freeVal % 2 ^ 64 + 1
    let s := if known then s else s.takeFree
    let acq := s.timeState == tsAcquire
    let kp : Int := if acq then s.fld TIME_GAIN_ACQ_KP else s.fld TIME_GAIN_LOCK_KP
    let ki : Int := if acq then s.fld TIME_GAIN_ACQ_KI else s.fld TIME_GAIN_LOCK_KI
    let integ := if s.time.clampedLast ∧ o.sign = s.time.lastO.sign then s.time.integ else s.time.integ + ki * o
    let x := -(kp * o + integ) * 1000000000
    let den : Nat := 256 * ts
    let lim : Int := s.fld TIME_CARVE_MAX_PPB * 256
    let clamped := lim * den < |x|
    let raw := roundDiv x den
    let f := if clamped then (if 0 ≤ x then lim else -lim) else raw
    let s1 := s.setInt TIME_FREQ_ADJ_ADJ f
    let s2 := s1.modTime fun t => { t with
      integ := integ
      lastO := o
      clampedLast := clamped
      prevSample := some t.mono
      adjHist := if s.timeState = tsLocked then (t.adjHist ++ [f]).drop (t.adjHist.length - 15) else t.adjHist }
    let s3 := if clamped then s2.raise 2 17 (intBits 32 (satInt 32 raw)) else s2
    s3.servoLock o

/-! Transits and the direct set of time (R87). -/

/-- The signed offset of EACH_TRANSIT trigger `n`, in units of 2^-16 ns (Table 03-6). -/
def State.trgOffset (s : State) (n : Nat) : Int := s.sfld (TRIG_TRG_TIME_TIME.nth n) * unitsPerNs

/-- EACH_TRANSIT occurrences when the next transit becomes known anew: the one of the transit at
instant `inst` is passed over unless it lies after `at_` (R113); one of the last transit that has not come yet
stays due, since that transit exists. -/
def State.rejudgeEach (s : State) (inst at_ : Nat) : State :=
  let us := s.trig.units.map fun (n, u) =>
    (n, if s.fld (TRIG_TRG_CFG_MODE.nth n) = 2 then
          { u with doneNext := decide ((inst : Int) + s.trgOffset n ≤ at_) }
        else u)
  { s with trig := { s.trig with units := us } }

/-- The next transit becomes the first alignment point at or after `now` + P / 2 (R87, R106). -/
def State.nextFromNow (s : State) : State :=
  let m := firstAlignment s.rate s.time.now unitsPerSec
  let inst := transitInstant s.rate m
  (s.modTime fun t => { t with nextTransit := some (m, inst) }).rejudgeEach inst s.time.now

/-- Frames of a rate that have begun before instant `t`, as the last of them (R121). -/
def lastBegun (r : Nat × Nat) (t : Nat) : Option Nat :=
  let n := (t * r.1 + r.2 * unitsPerSec - 1) / (r.2 * unitsPerSec)
  if n = 0 then none else some (n - 1)

/-- LTC rates by code (Table 03-9). -/
def ltcRate (code : Nat) : Nat × Nat :=
  if code = 0 then (24, 1) else if code = 1 then (25, 1) else if code = 2 then (30000, 1001) else (30, 1)

/-- LTC_OUT waits for the next alignment instant: frames begun before now are passed over (R121, R122). -/
def State.ltcSkip (s : State) : State :=
  s.modTime fun t => { t with ltcLast := lastBegun (ltcRate (s.fld TIME_LTC_OUT_CFG_RATE)) t.now }

/-! Glide and hold (R102, R107). -/

/-- A glide begins: GLIDE_FREQ is formed, STATE reads GLIDE, GLIDE_ENTER names the source lost. A glide that
begins while HELD drops the held correction and its authorisation (log entry 34). -/
def State.enterGlide (s : State) (lost : Nat) : State :=
  if s.timeState = tsGlide ∨ s.timeState = tsUnset then s
  else
    let g := if s.timeState = tsHeld then s.sfld TIME_GLIDE_FREQ_ADJ else s.glideFreq
    let s1 := ((s.setInt TIME_GLIDE_FREQ_ADJ g).setFld TIME_GLIDE_AGE_MS_MS 0).modTime fun t =>
      { t with glideUnits := 0, glidePassed := false, held := none }
    ((s1.setBit TIME_CTRL_STEP_AUTH false).setTimeState tsGlide).raise 2 10 lost

/-- While FORCE_GLIDE is 1 the time base glides, whatever state it would be in (R107). -/
def State.forceGlide (s : State) : State :=
  if s.bit TIME_CTRL_FORCE_GLIDE then s.enterGlide (s.fld TIME_STATUS_SOURCE_IN_USE) else s

/-- The time is set directly, whatever the size and sign of the difference (R87). What of the old count lies
ahead keeps its full count: a trigger armed while UNSET whose target the new time has passed acts at once and
is not late (log entry 34). -/
def State.setTimeDirect (s : State) (units : Nat) : State :=
  let s1 := s.modTime fun t => { t with
    now := units
    res := 0
    lastAnchor := (units + unitsPerSec - 1) / unitsPerSec - 1
    lastAccepted := none
    outRun := 0
    lastSource := t.mono }
  let s2 := s1.nextFromNow.ltcSkip
  (if s2.fld TIME_STATUS_SOURCE_IN_USE = 0 then s2.setTimeState tsFree else s2.servoAcquire).forceGlide

/-- A correction beyond the threshold is refused: STATE becomes HELD with one CORR_REFUSED per entry;
a later one replaces the correction held, and a backward one takes a STEP_AUTH back (R102, R103, Table 03-4);
a software correction replaces what is left of the one before it (R101). -/
def State.hold (s : State) (o : Int) (sw : Bool) : State :=
  let s1 := (s.modTime fun t => { t with held := some ⟨o, sw⟩, swRem := if sw then 0 else t.swRem }).setBit TIME_STATUS_HELD_DIR (decide (0 < o))
  if s.timeState = tsHeld then (if 0 < o then s1.setBit TIME_CTRL_STEP_AUTH false else s1)
  else
    let g := if s.timeState = tsGlide then s1.sfld TIME_GLIDE_FREQ_ADJ else s1.glideFreq
    ((s1.setInt TIME_GLIDE_FREQ_ADJ g).setTimeState tsHeld).raise 2 13 (intBits 41 (satInt 41 (roundNs o)))

/-- The hold ends: nothing stays held or authorised (R102, R103). -/
def State.endHold (s : State) : State :=
  (((s.modTime fun t => { t with held := none }).setBit TIME_CTRL_STEP_AUTH false).servoAcquire).forceGlide

/-- The threshold of the step guard in units of 2^-16 ns. -/
def State.stepThresh (s : State) : Int := s.fld TIME_STEP_THRESH_NS * unitsPerNs

/-- A grandmaster chosen is compared with the last one in use: MASTER_CHANGE or PATH_CHANGE (Table
03-5, R109). -/
def State.checkMaster (s : State) : State :=
  match s.time.inUse with
  | none => s
  | some m =>
    let news (s : State) : State :=
      (s.modTime fun t => { t with lastGm := some m.gm, lastPort := m.port }).setPair
        TIME_GM_ID_LO_ID TIME_GM_ID_HI_ID m.gm
    let acq (s : State) : State := if s.timeState = tsLocked then s.servoAcquire else
      s.modTime fun t => { t with servoLocked := false, lockRun := 0 }
    if s.time.lastGm ≠ some m.gm then
      acq ((news s).raise 2 15 (lo32 m.gm + m.port * 2 ^ 32))
    else if s.time.lastPort ≠ m.port then acq ((news s).raise 2 16 m.port)
    else s

/-- The first accepted sample after a glide ends it (R109). -/
def State.glideExit (s : State) : State :=
  if s.timeState = tsGlide then
    let s1 := s.servoAcquire.raise 2 11 (s.fld TIME_GLIDE_AGE_MS_MS)
    if s1.fld TIME_STATUS_SOURCE_IN_USE = 1 then s1.checkMaster else s1
  else s

/-- An accepted offset sample is judged by Table 03-4. -/
def State.judgeSample (s : State) (o : Int) : State :=
  if |o| ≤ s.stepThresh then
    let s1 := if s.time.carveOpen then
        (s.modTime fun t => { t with carveOpen := false, carveSoft := false }).setBit TIME_CTRL_CARVE_AUTH false else s
    let s2 := if s1.timeState = tsHeld then s1.endHold
      else if s1.timeState = tsFree then s1.servoAcquire else s1
    s2.servoUpdate o
  else if s.time.carveOpen then s.servoUpdate o
  else (s.hold o false).modTime fun t => { t with prevSample := some t.mono }

/-- An accepted offset sample of any source (R101, Table 03-4): it sets the time while UNSET, else it
is published, ends a glide, and is judged. -/
def State.acceptSample (s : State) (o : Int) : State :=
  let v := intBits 32 (satInt 32 (roundNs o))
  let s1 := (s.setFld TIME_OFFSET_NS_NS v).modTime fun t =>
    { t with lastAccepted := some o, outRun := 0, lastSource := t.mono }
  let s2 := if s1.bit TIME_CTRL_OFFSET_REC_EN then s1.recordOnly 2 0x22 v else s1
  let s3 := if s2.fld TIME_STATUS_SOURCE_IN_USE = 1 then s2.setBit TIME_STATUS_TRACEABLE true else s2
  if s3.timeState = tsUnset then
    (s3.setTimeDirect ((s3.time.now : Int) - o).toNat).modTime fun t => { t with prevSample := some t.mono }
  else s3.glideExit.judgeSample o

/-- The outlier test of R97: a sample beyond OUTLIER_NS of the last accepted one is discarded, at most
three in a row. -/
def State.outlier (s : State) (o : Int) : Bool :=
  s.fld TIME_OUTLIER_NS_NS != 0 && s.time.outRun < 3 &&
    (match s.time.lastAccepted with
      | some a => decide ((s.fld TIME_OUTLIER_NS_NS * unitsPerNs : Int) < |o - a|)
      | none => false)

/-- An offset sample from source `src`: taken only from the source in use, outside a forced glide; an outlier of
any source is discarded and counted (R97). -/
def State.offsetSample (s : State) (src : Nat) (o : Int) : State :=
  if s.fld TIME_STATUS_SOURCE_IN_USE = src ∧ ¬ s.bit TIME_CTRL_FORCE_GLIDE then
    if s.outlier o then
      (s.incFld TIME_OUTLIER_COUNT_COUNT 1).modTime fun t => { t with outRun := t.outRun + 1 }
    else s.acceptSample o
  else s

/-- A software correction (R100, R101, R110): slewed at CARVE_MAX within the threshold or while the guard is
suspended (R103), else held. -/
def State.softCorrection (s : State) (o : Int) : State :=
  if s.timeState = tsUnset then s.setTimeDirect ((s.time.now : Int) - o).toNat
  else if |o| ≤ s.stepThresh ∨ s.time.carveOpen then
    s.modTime fun t => { t with swRem := o.natAbs * ppbScale, swForward := decide (o < 0) }
  else s.hold o true

/-- The source that steers, while a glide ends only with an accepted sample (R109) and a hold only as R102 and R103
give, but for NONE, which is FREE (R93). CAMLEK overrides SOURCE on a moon whose planet link is up (R93). -/
def State.setSource (s : State) (src : Nat) : State :=
  if s.fld TIME_STATUS_SOURCE_IN_USE = src then s
  else
    let s1 := (s.setFld TIME_STATUS_SOURCE_IN_USE src).modTime fun t =>
      { t with lastSource := t.mono, lastAccepted := none, outRun := 0 }
    let s2 := if src = 1 ∨ src = 2 then s1 else s1.setBit TIME_STATUS_TRACEABLE false
    if s2.timeState = tsUnset then s2
    else if src = 0 then
      if s2.timeState = tsGlide ∧ s2.bit TIME_CTRL_FORCE_GLIDE then s2
      else (((s2.modTime fun t => { t with held := none }).setBit TIME_CTRL_STEP_AUTH false).setTimeState tsFree).forceGlide
    else if s2.timeState = tsGlide ∨ s2.timeState = tsHeld then s2
    else s2.servoAcquire

/-- Whether the device is a moon with a path to its planet: then CAMLEK steers (R3, R93, R438). -/
def State.moonUp (s : State) : Bool :=
  !s.bit CL_GROUP_STATUS_PLANET && s.bit CL_UPSTREAM_VALID

/-- SOURCE_IN_USE follows SOURCE and the group (R93). -/
def State.pickSource (s : State) : State :=
  s.setSource (if s.moonUp then 2 else s.fld TIME_CTRL_SOURCE)

/-- A step authorised on the planet of a group is sent to the moons in a STEP cell that names Ta
(R440), the next transit or, where its mark is pending, the one after (R105). -/
def State.floodStep (s : State) (pend : Bool) : State :=
  match s.time.held, s.time.nextTransit with
  | some h, some t =>
    if s.isPlanet ∧ 1 < s.fld CL_GROUP_STATUS_MEMBERS then
      s.flood 4 (intBits 40 (roundNs (-h.o)) + (t.1 + if pend then 1 else 0) % 2 ^ 24 * 2 ^ 40)
    else s
  | _, _ => s

/-- The mark of the next transit is pending at the TIME page arbiter. -/
def State.transitPending (s : State) : Bool :=
  match s.time.nextTransit with | some t => decide (t.2 ≤ s.time.now) | none => false

/-- A write of TIME.CTRL (Table 03-1, R103, R107, R110). A write that meets the mark at which an authorised step
is applied leaves STEP_AUTH to it (R103, R105). -/
def State.writeTimeCtrl (s : State) (v : Word) : State :=
  let w := v.toNat
  let b (k : Nat) : Bool := natBits w k 1 == 1
  let wasSw := s.bit TIME_CTRL_SW_SERVO
  let wasGlide := s.bit TIME_CTRL_FORCE_GLIDE
  let s1 := (((s.setFld TIME_CTRL_SOURCE (natBits w 0 2)).setBit TIME_CTRL_SW_SERVO (b 2)).setBit
    TIME_CTRL_ANCHOR_EN (b 3)).setBit TIME_CTRL_OFFSET_REC_EN (b 4)
  let s2 := (s1.setBit TIME_CTRL_FORCE_GLIDE (b 7)).pickSource
  -- FORCE_GLIDE (R107)
  let s3 := if b 7 ∧ ¬ wasGlide then s2.enterGlide (s2.fld TIME_STATUS_SOURCE_IN_USE)
    else if ¬ b 7 ∧ wasGlide ∧ s2.timeState = tsGlide ∧ s2.fld TIME_STATUS_SOURCE_IN_USE = 0 then
      s2.setTimeState tsFree
    else s2
  -- SW_SERVO handed back (R110)
  let s4 := if wasSw ∧ ¬ b 2 ∧ s3.timeState = tsLocked then s3.servoAcquire
    else if wasSw ∧ ¬ b 2 then s3.modTime fun t => { t with servoLocked := false, lockRun := 0 } else s3
  -- STEP_AUTH (R103)
  let auth := b 5 && s4.timeState == tsHeld && !s4.bit TIME_STATUS_HELD_DIR
  let pend := s4.transitPending
  let s5 := if pend ∧ s4.bit TIME_CTRL_STEP_AUTH ∧ ¬ s4.time.stepSkip then s4 else if auth ∧ ¬ s4.bit TIME_CTRL_STEP_AUTH then
      ((s4.floodStep pend).modTime fun t => { t with stepSkip := pend }).setBit TIME_CTRL_STEP_AUTH true
    else s4.setBit TIME_CTRL_STEP_AUTH auth
  -- CARVE_AUTH (R103)
  if b 6 then
    if s5.time.carveOpen then s5
    else match s5.time.held with
      | some h =>
        if s5.timeState = tsHeld then
          let s6 := s5.endHold
          let s7 := (s6.setBit TIME_CTRL_CARVE_AUTH true).modTime fun t => { t with carveOpen := true, carveSoft := h.sw }
          if h.sw then s7.modTime fun t => { t with swRem := h.o.natAbs * ppbScale, swForward := decide (h.o < 0) }
          else s7
        else s5
      | none => s5
  else (s5.setBit TIME_CTRL_CARVE_AUTH false).modTime fun t => { t with carveOpen := false, carveSoft := false }

/-- A write of TIME.FREQ_ADJ: only while SW_SERVO is 1, limited to ±CARVE_MAX (R110); limiting a write raises no
CARVE_LIMIT (log entry 34). -/
def State.writeFreqAdj (s : State) (v : Word) : State :=
  if s.bit TIME_CTRL_SW_SERVO then
    let lim : Int := s.fld TIME_CARVE_MAX_PPB * 256
    s.setInt TIME_FREQ_ADJ_ADJ (clampInt (-lim) lim (natSigned 32 v.toNat))
  else s

/-- FREQ_ADJ never exceeds ±CARVE_MAX, whatever CARVE_MAX is written (R99). -/
def State.freqLimit (s : State) : State :=
  let lim : Int := s.fld TIME_CARVE_MAX_PPB * 256
  s.setInt TIME_FREQ_ADJ_ADJ (clampInt (-lim) lim (s.sfld TIME_FREQ_ADJ_ADJ))

/-- A write of TIME.SW_OFFSET_NS: a correction of o = −value while SW_SERVO is 1 (R110). -/
def State.writeSwOffset (s : State) (v : Word) : State :=
  if s.bit TIME_CTRL_SW_SERVO then s.softCorrection (-(natSigned 32 v.toNat * unitsPerNs)) else s

/-- The time offered by SET_NS, SET_SEC_LO and SET_SEC_HI, in units of 2^-16 ns (R100). -/
def State.setTimeValue (s : State) : Nat :=
  ((s.fld TIME_SET_SEC_LO_SEC + s.fld TIME_SET_SEC_HI_SEC * 2 ^ 32) * 1000000000 + s.fld TIME_SET_NS_NS) * unitsPerNs

/-- A write of TIME.SET_SEC_HI offers the set time as a correction, or sets the time while UNSET (R100). -/
def State.writeSetSecHi (s : State) (q : Req) (v : Word) : State :=
  let s1 := s.storePair q 2 0x0A0 v
  s1.softCorrection ((s1.time.now : Int) - s1.setTimeValue)

/-! The PTP engine (R94 to R97). -/

/-- Seconds of a message interval 2^k, in units of 2^-16 ns. -/
def intervalUnits (k : Int) : Nat :=
  if 0 ≤ k then unitsPerSec * 2 ^ k.toNat else unitsPerSec / 2 ^ (-k).toNat

/-- Whether the engine takes messages of a domain on a port (Table 03-3): it runs while PTP steers, so not on a
moon that steers from CAMLEK (R93). -/
def State.ptpTakes (s : State) (port domain : Nat) : Bool :=
  s.fld TIME_STATUS_SOURCE_IN_USE == 1 && (s.fld TIME_PTP_CFG_PORT_EN).testBit port &&
    s.fld TIME_PTP_CFG_DOMAIN == domain

/-- A master is qualified by two Announce messages within four of its intervals (IEEE 1588-2019
9.3.2.4.4, log entry 8). -/
def Master.qualified (m : Master) (now : Nat) : Bool :=
  2 ≤ (m.heard.filter fun h => now - h ≤ 4 * intervalUnits m.interval).length

/-- Lexicographic order of data sets: the smaller is the better. -/
def rankLt : List Nat → List Nat → Bool
  | [], [] => false
  | [], _ => true
  | _, [] => false
  | a :: s, b :: t => a < b || (a == b && rankLt s t)

/-- The better of two qualified masters; equal ones keep the present slave port, else take the lowest
port (R94). -/
def betterMaster (port : Nat) (a b : Master) : Master :=
  if rankLt a.rank b.rank then a
  else if rankLt b.rank a.rank then b
  else if a.port = port then a
  else if b.port = port then b
  else if a.port ≤ b.port then a else b

/-- The best-master comparison (R94) over the qualified masters heard on an enabled port in the domain. -/
def State.bestMaster (s : State) : Option Master :=
  (s.time.masters.filter fun m => m.qualified s.time.mono && s.ptpTakes m.port m.domain).foldl
    (fun best m => match best with
      | none => some m
      | some b => some (betterMaster s.time.lastPort b m)) none

/-- On a path other than the one the delay was measured on, a new delay must be measured first (R96, Table 03-4). -/
def State.newPath (s : State) (m : Master) : State :=
  let s1 := s.modTime fun t => { t with lastSync := none, syncWait := none, delayReq := none }
  if s1.time.delayPath = some (m.clock, m.port) then s1
  else (s1.modTime fun t => { t with delay := none, delayPath := none }).setBit TIME_STATUS_DELAY_VALID false

/-- The outcome of a comparison takes effect; while gliding, the change is told by the first accepted
sample (R109). A master taken has been heard when its last Announce came (R107). -/
def State.takeBest (s : State) : State :=
  match s.bestMaster with
  | none => s
  | some m =>
    let same : Bool := match s.time.inUse with
      | some u => u.clock == m.clock && u.port == m.port
      | none => false
    let s1 := s.modTime fun t => { t with inUse := some m }
    if same then s1
    else
      let s2 := (s1.newPath m).modTime fun t => { t with lastAnnounce := m.heard.headD t.mono }
      if s2.timeState = tsGlide then s2 else s2.checkMaster

/-- The master in use is lost: another qualified one is taken, or the time base glides (R107). -/
def State.loseMaster (s : State) : State :=
  match s.time.inUse with
  | none => s
  | some u =>
    let s1 := s.modTime fun t => { t with
      inUse := none
      masters := t.masters.filter fun m => !(m.clock == u.clock && m.port == u.port && m.domain == u.domain) }
    let s2 := s1.takeBest
    match s2.time.inUse with
    | some _ => s2
    | none => if s2.fld TIME_STATUS_SOURCE_IN_USE = 1 then s2.enterGlide 1 else s2

/-- A master in use that a change of PORT_EN or DOMAIN leaves outside what the engine takes is lost at the next
message the engine handles (Table 03-3). -/
def State.ptpConfig (s : State) : State :=
  match s.time.inUse with
  | some u => if s.ptpTakes u.port u.domain then s else s.loseMaster
  | none => s

/-- A list of words stored into consecutive registers. -/
def State.setWords (s : State) (page off : Nat) (ws : List Word) : State :=
  match ws with
  | [] => s
  | w :: t => (s.setReg (regKey page off) w).setWords page (off + 4) t

/-- An Announce message (R94, R95). The table holds eight masters: a ninth is not kept, and one that has gone
silent stays in it, unqualified (log entry 34). -/
def State.announce (s0 : State) (m : Announce) : State :=
  if s0.ptpTakes m.port m.domain then
    let s := s0.ptpConfig
    let isInUse := match s.time.inUse with
      | some u => u.clock == m.clock && u.port == m.port
      | none => false
    if -3 ≤ m.logInterval ∧ m.logInterval ≤ 4 then
      let s0 := if m.smtlv = [] then s else s.setWords 2 0x0C0 (m.smtlv.take 12)
      let here (x : Master) : Bool := x.clock == m.clock && x.port == m.port && x.domain == m.domain
      let heard := match s.time.masters.find? here with | some x => x.heard | none => []
      let new : Master := ⟨m.port, m.domain, m.clock, m.srcPort, m.logInterval,
        [m.prio1, m.clockClass, m.accuracy, m.variance, m.prio2, m.gm, m.steps, m.clock, m.srcPort],
        m.gm, (s.time.mono :: heard).take 2⟩
      let known := s.time.masters.any here
      let s1 := s0.modTime fun t => { t with
        masters := if known then t.masters.map (fun x => if here x then new else x)
          else if t.masters.length < 8 then t.masters ++ [new] else t.masters
        inUse := if isInUse then some new else t.inUse
        lastAnnounce := if isInUse then t.mono else t.lastAnnounce }
      s1.takeBest
    else if isInUse then s.loseMaster else s
  else s0

/-- An offset sample of the PTP exchange: none until DELAY_VALID is 1 (R96). -/
def State.ptpSample (s : State) (t1 t2 : Int) : State :=
  let s1 := s.modTime fun t => { t with lastSync := some (t1, t2), syncWait := none }
  match s1.time.delay with
  | some d => s1.offsetSample 1 ((t2 - t1) - d)
  | none => s1

/-- Whether a message comes from the master in use on the slave port. -/
def State.fromMaster (s : State) (port clock : Nat) : Bool :=
  match s.time.inUse with
  | some u => u.port == port && u.clock == clock && s.ptpTakes u.port u.domain
  | none => false

/-- A Sync message (R94, R96); the addresses of the master in use are taken from it (R296). -/
def State.sync (s : State) (m : PtpSync) : State :=
  if ¬ s.ptpTakes m.port m.domain then s
  else if s.fromMaster m.port m.clock ∧ -7 ≤ m.logInterval ∧ m.logInterval ≤ 1 then
    let s1 := s.modTime fun t => { t with peer := some (m.port, m.clock, m.mac, m.ip) }
    if m.twoStep then s1.modTime fun t => { t with syncWait := some m }
    else s1.ptpSample (m.t1 + m.corr) m.t2
  else s.ptpConfig

/-- A Follow_Up carrying t1 of the waiting two-step Sync (R96). -/
def State.followUp (s : State) (m : PtpFollowUp) : State :=
  if ¬ s.ptpTakes m.port m.domain then s
  else if s.fromMaster m.port m.clock then
    match s.time.syncWait with
    | some y => if y.seq = m.seq ∧ y.port = m.port then s.ptpSample (m.t1 + m.corr + y.corr) y.t2 else s
    | none => s
  else s.ptpConfig

/-- A Delay_Resp carrying t4 completes a path delay measurement (R96). -/
def State.delayResp (s : State) (m : PtpDelayResp) : State :=
  if ¬ s.ptpTakes m.port m.domain then s
  else if s.fromMaster m.port m.clock then
    match s.time.delayReq, s.time.lastSync with
    | some (seq, t3), some (t1, t2) =>
      if seq = m.seq then
        let sample := ((t2 - t1) + (m.t4 - m.corr - t3)) / 2
        let d := match s.time.delay with
          | none => sample
          | some d => d + (sample - d) / 2 ^ s.fld TIME_DELAY_SHIFT_SHIFT
        ((s.modTime fun t => { t with delay := some d, delayPath := some (m.clock, m.port) }).setFld TIME_PATH_DELAY_NS_NS (intBits 32 (roundNs d))).setBit
          TIME_STATUS_DELAY_VALID true
      else s
    | _, _ => s
  else s.ptpConfig

/-! Meanings. -/

/-- ANCHOR (R90): once per second of PTP time, carrying the exact instant. -/
def execAnchor (s : State) : Host.Outcome State Fault Refusal :=
  let sec := s.time.now / unitsPerSec
  if s.timeState ≠ tsUnset ∧ s.time.lastAnchor < sec then
    let n := sec * 1000000000
    let s1 := s.modTime fun t => { t with lastAnchor := sec }
    .next (if s.bit TIME_CTRL_ANCHOR_EN then s1.pushRec 2 0x20 (n / 2 ^ 32) false n else s1)
  else .next s

/-- The snapshots a read of TIME.NOW_NS takes (R88). -/
def State.readNowNs (s : State) (q : Req) : Nat × State :=
  let sec := s.nowNs / 1000000000
  let s1 := ((s.setSnap q TIME_NOW_SEC_LO_SEC_LO.key (BitVec.ofNat 32 sec)).setSnap q TIME_NOW_SEC_HI_SEC_HI.key
    (BitVec.ofNat 32 (sec / 2 ^ 32 % 2 ^ 16))).setSnap q TIME_NOW_FRAC_FRAC.key
      (BitVec.ofNat 32 (s.time.now % unitsPerNs))
  (s.nowNs % 1000000000, s1)

/-- NOW_NS_READ (R88). -/
def execNowNsRead (q : Req) (s : State) : Host.Outcome State Fault Refusal :=
  .next (s.serveRead q 2 0x040 fun t =>
    let r := t.readNowNs q
    r.2.emit (.data q [BitVec.ofNat 32 r.1]))

/-- ANNOUNCE_RX (R94, R95). -/
def execAnnounceRx (m : Announce) (s : State) : Host.Outcome State Fault Refusal := .next (s.announce m)

/-- SYNC_RX (R96). -/
def execSyncRx (m : PtpSync) (s : State) : Host.Outcome State Fault Refusal := .next (s.sync m)

/-- FOLLOW_UP_RX (R96). -/
def execFollowUpRx (m : PtpFollowUp) (s : State) : Host.Outcome State Fault Refusal := .next (s.followUp m)

/-- DELAY_RESP_RX (R96). -/
def execDelayRespRx (m : PtpDelayResp) (s : State) : Host.Outcome State Fault Refusal := .next (s.delayResp m)

/-- SET_SEC_HI_WRITE (R100). -/
def execSetSecHiWrite (q : Req) (v : Word) (s : State) : Host.Outcome State Fault Refusal :=
  .next (s.write q 2 0x0A0 v fun t => t.writeSetSecHi q v)

/-- SW_OFFSET_WRITE (R110). -/
def execSwOffsetWrite (q : Req) (v : Word) (s : State) : Host.Outcome State Fault Refusal :=
  .next (s.write q 2 0x0A4 v fun t => t.writeSwOffset v)

/-- FREQ_ADJ_WRITE (R110). -/
def execFreqAdjWrite (q : Req) (v : Word) (s : State) : Host.Outcome State Fault Refusal :=
  .next (s.write q 2 0x080 v fun t => t.writeFreqAdj v)

/-- SW_CORRECTION_ABSORBED (R101): nothing is left to slew, and the slew ends. The tick that leaves
nothing has already ended it, so only the direction is dropped. -/
def execSwCorrectionAbsorbed (s : State) : Host.Outcome State Fault Refusal :=
  .next (if s.time.swRem = 0 then s.modTime fun t => { t with swForward := false } else s)

/-- STEP_AUTH_WRITE (R103): a write of TIME.CTRL whose STEP_AUTH bit is the one meant. -/
def execStepAuthWrite (q : Req) (v : Word) (s : State) : Host.Outcome State Fault Refusal :=
  .next (s.write q 2 0x008 v fun t => t.writeTimeCtrl v)

/-- CARVE_AUTH_WRITE (R103): a write of TIME.CTRL whose CARVE_AUTH bit is the one meant. -/
def execCarveAuthWrite (q : Req) (v : Word) (s : State) : Host.Outcome State Fault Refusal :=
  .next (s.write q 2 0x008 v fun t => t.writeTimeCtrl v)

/-- FORCE_GLIDE_WRITE (R107): a write of TIME.CTRL whose FORCE_GLIDE bit is the one meant. -/
def execForceGlideWrite (q : Req) (v : Word) (s : State) : Host.Outcome State Fault Refusal :=
  .next (s.write q 2 0x008 v fun t => t.writeTimeCtrl v)

/-- SW_SERVO_WRITE (R110): a write of TIME.CTRL whose SW_SERVO bit is the one meant. -/
def execSwServoWrite (q : Req) (v : Word) (s : State) : Host.Outcome State Fault Refusal :=
  .next (s.write q 2 0x008 v fun t => t.writeTimeCtrl v)

/-- The span without an accepted sample after which the source in use is lost (R107, R439). -/
def State.lossSpan (s : State) : Nat :=
  match s.fld TIME_STATUS_SOURCE_IN_USE with
  | 2 => s.fld CL_LOSS_US_US * 1000 * unitsPerNs
  | 3 => 2 * s.rate.2 * unitsPerSec / s.rate.1
  | _ => 0

/-- GLIDE_TIMEOUT (R107): the source in use delivered no accepted sample for its span. -/
def execGlideTimeout (s : State) : Host.Outcome State Fault Refusal :=
  let src := s.fld TIME_STATUS_SOURCE_IN_USE
  let lost := match src with
    | 0 => false
    | 1 => s.time.inUse == none && s.bestMaster == none
    | _ => decide (s.lossSpan ≤ s.time.mono - s.time.lastSource)
  .next (if lost then s.enterGlide src else s)

/-- GLIDE_LIMIT (R108). -/
def execGlideLimit (s : State) : Host.Outcome State Fault Refusal :=
  let lim := s.fld TIME_GLIDE_LIMIT_S_S
  if s.timeState = tsGlide ∧ lim ≠ 0 ∧ ¬ s.time.glidePassed ∧ lim * 1000 < s.fld TIME_GLIDE_AGE_MS_MS then
    let s1 := (s.modTime fun t => { t with glidePassed := true }).setBit TIME_STATUS_TRACEABLE false
    .next (s1.raise 2 12 (s.fld TIME_GLIDE_AGE_MS_MS))
  else .next s

/-- ANNOUNCE_RECEIPT_TIMEOUT (R107). -/
def execAnnounceReceiptTimeout (s : State) : Host.Outcome State Fault Refusal :=
  match s.time.inUse with
  | none => .next s
  | some u =>
    let span := s.fld TIME_PTP_CFG_ANNOUNCE_TIMEOUT * intervalUnits u.interval
    .next (if span ≤ s.time.mono - s.time.lastAnnounce then s.loseMaster else s)

end Sys2Proof.Machine
end

