-- ==== Sys2Proof/Machine/Camlek.lean ====
section
/-! DEFINITION. Camlek links (spec/14): the transmit arbiter, link reception and retry, lanes, link loss, time exchanges, lane rates. -/

namespace Sys2Proof.Machine

open Sys2Proof

/-! Receive windows (R445). -/

/-- The full number of an emitting transit from its low 16 bits: the one nearest to the frame in progress. -/
def State.fullFrame (s : State) (low : Nat) : Nat := ((s.frameNo : Int) + natSigned 16 ((low + 2 ^ 16 - s.frameNo % 2 ^ 16) % 2 ^ 16)).toNat

/-- Frame `t` as window `w` has it. -/
def State.rxFrame (s : State) (w t : Nat) : RxFrame := mapGet (fun _ => (⟨[], none⟩ : RxFrame)) s.rxFrames (16 * t + w)
def State.setRxFrame (s : State) (w t : Nat) (x : RxFrame) : State :=
  { s with rxFrames := mapSet (fun _ => (⟨[], none⟩ : RxFrame)) s.rxFrames (16 * t + w) x }

/-- Bytes of a set of window `w`, and the address of the set of frame `t`. -/
def State.winSet (s : State) (w : Nat) : Nat := s.act (CL_RXWIN_SET_BYTES.nth w)
def State.winAddr (s : State) (w t : Nat) : Nat :=
  s.act (CL_RXWIN_BASE_LO_BASE.nth w) * 64 + s.act (CL_RXWIN_BASE_HI_BASE.nth w) * 2 ^ 32 + (t + 1) % 2 * s.winSet w

/-- Number of the CL tick, 2.56 ns, that an instant of the time base lies in. -/
def clTickOf (t : Nat) : Nat := t * 100 / (256 * unitsPerNs)

/-- A cell of frame `t` is late: the CL tick of transit t + 1 has come (R445). -/
def State.cellLate (s : State) (t : Nat) : Bool :=
  decide (t < s.frameNo) ||
    match s.time.nextTransit with
    | some (n, at_) => decide (t < n ∧ clTickOf at_ ≤ clTickOf s.time.now)
    | none => false

/-- A FRAME cell is delivered: its units are written unless it is late; units outside the set are dropped
(log entry 29). -/
def State.deliverFrame (s : State) (c : Cell) : State :=
  let t := s.fullFrame c.frame
  if s.winSet c.rxwin = 0 then s
  else if s.cellLate t then s.incFld CL_LATE_CELLS_COUNT 1
  else
    let x := s.rxFrame c.rxwin t
    let a := s.winAddr c.rxwin t + 64 * c.unit
    if 64 * c.unit + c.data.length ≤ s.winSet c.rxwin ∧ s.inDram a c.data.length then
      let new := ((List.range (cellUnits c)).map fun i => c.unit + i).filter fun u => !x.units.contains u
      (s.writeDram a c.data).setRxFrame c.rxwin t { x with units := x.units ++ new }
    else s

/-- A FRAME_END is delivered (Table 14-3). -/
def State.deliverEnd (s : State) (c : Cell) : State :=
  let w := natBits (cellContent c) 0 4
  let t := s.fullFrame c.frame
  if s.winSet w = 0 then s
  else if s.cellLate t then s.incFld CL_LATE_CELLS_COUNT 1
  else s.setRxFrame w t { s.rxFrame w t with ended := some (natBits (cellContent c) 4 24, (cellContent c).testBit 28) }

/-- Window `w` judges frame `t` (R445). -/
def State.judgeWindow (s : State) (t w : Nat) : State :=
  if s.winSet w = 0 then s
  else
    let x := s.rxFrame w t
    let empty : Bool := match x.ended with | some (_, e) => e | none => false
    let done : Bool := match x.ended with | some (n, _) => (List.range n).all fun u => x.units.contains u | none => false
    let a := s.winAddr w t + s.winSet w - 64
    let w0 := lo32 t + (if done then 2 ^ 32 else 0) + if empty then 2 ^ 33 else 0
    let row := valBytes 8 w0 ++ valBytes 8 x.units.length ++ List.replicate 48 0
    let s1 := if s.inDram a 64 then s.writeDram a row else s
    let s2 := ((s1.setFld (CL_RXWIN_STAT_FRAME.nth w) t).setBit (CL_RXWIN_STAT_COMPLETE.nth w) done).setBit (CL_RXWIN_STAT_EMPTY.nth w) empty
    if done then s2
    else (s2.incFld CL_RX_LATE_COUNT_COUNT 1).raise (clPage 0) 18 (w + (if empty then 2 ^ 4 else 0) + lo32 t * 2 ^ 5)

/-- The windows judge the frame that ends at transit `m`; what belongs to it or before is forgotten. -/
def State.judgeWindows (s : State) (m : Nat) : State :=
  let s1 := (List.range 16).foldl (fun (t : State) (w : Nat) => t.judgeWindow (m - 1) w) s
  { s1 with rxFrames := s1.rxFrames.filter fun q => decide (m ≤ q.1 / 16) }

/-! Unicast cells at a hop (R443). -/

/-- A cell is delivered here. -/
def State.deliver (s : State) (c : Cell) : State :=
  if c.ctrl then (if (cellKind c) = 1 then s.deliverEnd c else s) else s.deliverFrame c

/-- A cell whose port `p` is not UP takes this device's own shortest route; one without a route is dropped
(log entry 29). -/
def State.detour (s : State) (p : Nat) (c : Cell) : State :=
  if c.dest = s.member then s.deliver c
  else
    match routeTo s.groupLinks 8 s.member c.dest with
    | [] => s
    | q :: l =>
      let s1 := s.incFld (CL_DETOURS_COUNT.inst p) 1
      let s2 := if (s.cl p).detoured.contains c.dest then s1
        else (s1.modCl p fun x => { x with detoured := x.detoured ++ [c.dest] }).raise (clPage p) 13 c.dest
      s2.queueCell q { c with hops := l.length, route := packRoute l } true

/-- A cell leaves through port `p`, or is detoured. -/
def State.sendVia (s : State) (p : Nat) (c : Cell) (fwd : Bool) : State := if s.clIsUp p then s.queueCell p c fwd else s.detour p c

/-- A unicast cell arrived on port `p`. -/
def State.hop (s : State) (p : Nat) (c : Cell) : State :=
  if c.hops = 0 then (if c.dest = s.member then s.deliver c else s.incFld (CL_MISROUTE_COUNT.inst p) 1)
  else s.sendVia (c.route % 4) { c with hops := c.hops - 1, route := c.route / 4 } true

/-! Link reception and retry (R442). -/

/-- The expected link sequence number is asked for again. -/
def State.askRetry (s : State) (p : Nat) : State :=
  (s.modCl p fun x => { x with retryAt := match x.retryAt with | some t => some t | none => some s.time.mono }).queueBlock p 3 0x33 [(s.cl p).seqRx]

/-- A cell with link sequence number `seq` arrives on port `p`, its CRC right or not: whether it is taken. -/
def State.linkRx (s : State) (p seq : Nat) (ok : Bool) (c : Cell) : Bool × State :=
  if ¬ s.clIsUp p then (false, s)
  else if ¬ ok then (false, (s.incFld (CL_CRC_ERR_COUNT.inst p) 1).askRetry p)
  else if seq % 2 ^ 16 = (s.cl p).seqRx then
    (true, (s.incFld (CL_CELLS_RX_COUNT.inst p) 1).modCl p fun x => { x with
      seqRx := (x.seqRx + 1) % 2 ^ 16, retryAt := none, rxUnits := x.rxUnits + (cellUnits c) })
  else if ((s.cl p).seqRx + 2 ^ 16 - seq % 2 ^ 16) % 2 ^ 16 < 2 ^ 15 then (false, s)
  else (false, s.askRetry p)

/-- A flooded cell: dropped if seen before, else forwarded on every other UP port; whether it is news. -/
def State.floodRx (s : State) (p : Nat) (c : Cell) : Bool × State :=
  let old := mapGet (fun _ => []) s.group.seen (cellOrigin c)
  if old.contains (cellSeq c) ∨ (cellOrigin c) = s.member then (false, s)
  else
    let s1 := s.modGroup fun g => { g with seen := mapSet (fun _ => []) g.seen (cellOrigin c) (((cellSeq c) :: old).take 255) }
    (true, ((List.range 4).filter fun q => s.clIsUp q && q != p).foldl (fun (t : State) (q : Nat) => t.queueCell q c true) s1)

/-- CELL_RX (R443). -/
def execCellRx (p seq : Nat) (ok : Bool) (c : Cell) (s : State) : Host.Outcome State Fault Refusal :=
  .next (if c.bcast then s
    else
      let r := s.linkRx p seq ok c
      if r.1 then r.2.hop p c else r.2)

/-- FRAME_END (R445): the control cell at the window's member. -/
def execFrameEnd (p seq : Nat) (ok : Bool) (c : Cell) (s : State) : Host.Outcome State Fault Refusal :=
  .next (if c.bcast ∨ ¬ c.ctrl ∨ (cellKind c) ≠ 1 then s
    else
      let r := s.linkRx p seq ok c
      if r.1 then r.2.hop p c else r.2)

/-- ACK_SEND (R442). -/
def execAckSend (p : Nat) (s : State) : Host.Outcome State Fault Refusal :=
  .next (if s.clIsUp p then s.queueBlock p 3 0x2D [((s.cl p).seqRx + 2 ^ 16 - 1) % 2 ^ 16] else s)

/-- Link sequence numbers up to `seq` are acknowledged. -/
def acked (seq k : Nat) : Bool := decide ((seq + 2 ^ 16 - k) % 2 ^ 16 < 2 ^ 15)

/-- ACK_RX (R442). -/
def execAckRx (p seq : Nat) (s : State) : Host.Outcome State Fault Refusal :=
  .next (if s.clIsUp p then s.modCl p fun x => { x with
      retry := x.retry.filter fun q => !acked (seq % 2 ^ 16) q.1
      replay := x.replay.filter fun q => !acked (seq % 2 ^ 16) q.1 }
    else s)

/-- RETRY_REQ_RX (R442): replay from the number named. -/
def execRetryReqRx (p seq : Nat) (s : State) : Host.Outcome State Fault Refusal :=
  .next (if s.clIsUp p then
      (s.incFld (CL_RETRIES_COUNT.inst p) 1).modCl p fun x => { x with
        replay := x.retry.filter fun q => q.1 == seq % 2 ^ 16 || !acked (seq % 2 ^ 16) q.1 }
    else s)

/-! The transmit arbiter (R443). -/

/-- The block of the highest class waiting, oldest first. -/
def firstBlock (l : List (Nat × Nat × List Nat)) : Option (Nat × Nat × List Nat) :=
  l.foldl (fun m b => match m with | none => some b | some x => if b.1 < x.1 then some b else some x) none

/-- A cell on the lanes: CELL_START, header, units, CELL_END. -/
def State.emitCell (s : State) (p seq : Nat) (c : Cell) : State :=
  s.emit (.cl p 0x78 ([seq, (cellHeader c), (cellUnits c), crc32 (valBytes 8 (cellHeader c) ++ c.data)] ++ c.data.map fun b => b.toNat))

/-- A cell is sent for the first time: it takes the next link sequence number and the retry buffer. -/
def State.sendCell (s : State) (p : Nat) (c : Cell) : State :=
  let k := (s.cl p).seqTx
  ((s.modCl p fun x => { x with seqTx := (k + 1) % 2 ^ 16, retry := x.retry ++ [(k, c)], txUnits := x.txUnits + (cellUnits c) }).incFld
    (CL_CELLS_TX_COUNT.inst p) 1).emitCell p k c

/-- Bytes of unacknowledged cells. -/
def ClS.retryBytes (x : ClS) : Nat := (x.retry.map fun q => 64 * cellUnits q.2).sum

/-- The FRAME cell that goes next: the oldest, a forwarded one first in the same tick. -/
def ClS.nextFrame (x : ClS) : Option (Nat × TxCell) :=
  match x.frames with
  | [] => none
  | h :: _ =>
    match (x.frames.zip (List.range x.frames.length)).find? fun q => q.1.at_ == h.at_ && q.1.fwd with
    | some (t, i) => some (i, t)
    | none => some (0, h)

/-- The stamp of now, 48 bits (Table 14-1). -/
def State.stamp (s : State) : Nat := s.time.now % 2 ^ 48

/-- A TIME block leaves: its send stamp is kept (R437). -/
def State.sendTime (s : State) (p : Nat) : State :=
  let x := s.cl p
  (s.modCl p fun y => { y with
    xno := (y.xno + 1) % 256
    sentAt := (y.sentAt.filter fun q => q.1 != y.xno) ++ [(y.xno, s.stamp)]
    lastSent := s.stamp }).emit (.cl p 0x66 [x.xno, x.lastSent])

/-- CL_TRANSMIT_ARBITER (R443). -/
def execClTransmitArbiter (p : Nat) (s : State) : Host.Outcome State Fault Refusal :=
  let x := s.cl p
  let full := decide (32768 < x.retryBytes + 256)
  .next (if 4 ≤ p ∨ x.relock ∨ s.clState p < clAlign ∨ clUp < s.clState p then s
    else
      match firstBlock x.blocks with
      | some b =>
        let s1 := s.modCl p fun y => { y with blocks := y.blocks.erase b }
        if b.2.1 = 0x66 then s1.sendTime p else s1.emit (.cl p b.2.1 b.2.2)
      | none =>
        match x.replay with
        | r :: l => ((s.modCl p fun y => { y with replay := l }).emitCell p r.1 r.2)
        | [] =>
          if full then s
          else
            match x.ctl with
            | t :: l => (s.modCl p fun y => { y with ctl := l }).sendCell p t.cell
            | [] =>
              match x.nextFrame with
              | some (i, t) => (s.modCl p fun y => { y with frames := y.frames.eraseIdx i }).sendCell p t.cell
              | none => s)

/-! Time exchanges (R437 to R439). -/

/-- The signed difference of two 48-bit stamps. -/
def stampDiff (a b : Nat) : Int := natSigned 48 ((a + 2 ^ 48 - b % 2 ^ 48) % 2 ^ 48)

/-- TIME_BLOCK_SEND (R437). -/
def execTimeBlockSend (p : Nat) (s : State) : Host.Outcome State Fault Refusal :=
  let x := s.cl p
  let due := decide (x.timeAt + s.fld CL_TIME_CFG_SAMPLE_US * 1000 * unitsPerNs ≤ s.time.mono)
  .next (if s.clState p = clMeasure ∨ (s.clIsUp p ∧ due) then
      if p < 4 then (s.modCl p fun y => { y with timeAt := s.time.mono }).queueBlock p 0 0x66 [] else s
    else s)

/-- TIME_BLOCK_RX (R437): exchange number, the stamp it carries of the previous block's departure, its own
arrival here. -/
def execTimeBlockRx (p no prev arrival : Nat) (s : State) : Host.Outcome State Fault Refusal :=
  .next (if p < 4 ∧ (s.clState p = clMeasure ∨ s.clIsUp p) then
      (s.modCl p fun x => { x with
        peerPair := match x.peerAt with | some t4 => some (prev % 2 ^ 48, t4) | none => x.peerPair
        peerAt := some (arrival % 2 ^ 48) }).queueBlock p 1 0x6A [no % 256, arrival % 2 ^ 48]
    else s)

/-- DELAY_PS and LENGTH of a port (R437). -/
def State.showDelay (s : State) (p : Nat) (d : Int) : State :=
  let ps := (roundDiv (d * 1000) unitsPerNs).toNat
  (s.setFld (CL_DELAY_PS_PS.inst p) ps).setFld (CL_LENGTH_MM.inst p)
    (roundDiv ((ps * s.fld (CL_LENGTH_VF_PCT.inst p) * 299792458 : Nat) : Int) 100000000000).toNat

/-- The offset sample of an exchange with the upstream (R438): departure there and arrival here of its last
TIME block. -/
def State.upstreamSample (s : State) (t3 t4 : Nat) (d : Int) (up : UpInfo) : State :=
  let o : Int := if s.timeState = tsUnset then ((s.time.now : Int) - stampDiff s.stamp t4) - (up.full + d) else stampDiff t4 t3 - d
  let s1 := (s.setBit TIME_STATUS_DELAY_VALID true).offsetSample 2 o
  if s1.fld TIME_STATUS_SOURCE_IN_USE = 2 then (s1.setBit TIME_STATUS_TRACEABLE up.trace).setPair TIME_GM_ID_LO_ID TIME_GM_ID_HI_ID up.gm else s1

/-- TIME_RPT_RX (R438). -/
def execTimeRptRx (p no stamp : Nat) (up : UpInfo) (s : State) : Host.Outcome State Fault Refusal :=
  let x := s.cl p
  match x.sentAt.find? fun q => q.1 == no % 256, x.peerPair with
  | some (_, t1), some (t3, t4) =>
    .next (if p < 4 ∧ (s.clState p = clMeasure ∨ s.clIsUp p) then
        let sample : Int := (stampDiff t4 t1 - stampDiff t3 (stamp % 2 ^ 48)) / 2
        let d : Int := match x.delay with | none => sample | some v => v + (sample - v) / 16
        let s1 := (s.modCl p fun y => { y with
          delay := some d
          exch := y.exch + 1
          sentAt := y.sentAt.filter fun q => q.1 != no % 256 }).showDelay p d
        if s.clIsUp p ∧ ¬ s.isPlanet ∧ s.bit CL_UPSTREAM_VALID ∧ s.fld CL_UPSTREAM_PORT = p then s1.upstreamSample t3 t4 d up else s1
      else s)
  | _, _ => .next s

/-! Lane rates (R446). -/

/-- Bytes of FRAME data a frame holds at rate code `r`: the 64b/66b payload of four lanes, 32 of 35 blocks. -/
def State.clCapacity (s : State) (r : Nat) : Nat :=
  3125000000 * 2 ^ r * 4 * 64 * 32 * s.rate.2 / (66 * 35 * 8 * max 1 s.rate.1)

/-- FRAME bytes a plan sends over a port per frame. -/
def State.planTraffic (s : State) (p : Nat) (t : Option PlanTabs) : Nat :=
  match t with
  | some x => ((x.emit.filter fun e => e.page == clPage p).map fun e => 64 * s.act ((CL_TXWIN_LEN_UNITS.inst p).nth (natBits e.arg 0 4))).sum
  | none => 0

/-- MAX_RATE of this end. -/
def State.maxRate (s : State) (p : Nat) : Nat := min 2 (s.fld (CL_CTRL_MAX_RATE.inst p))

/-- MAX_RATE of the peer (R436). -/
def State.peerMaxRate (s : State) (p : Nat) : Nat := min 2 (natBits (mapGet (fun _ => 0) (s.cl p).caps 3) 2 2)

/-- The rate code this end would propose now. -/
def State.wantedRate (s : State) (p : Nat) : Option Nat :=
  let r := s.fld (CL_STATUS_RATE.inst p)
  let top := min (s.maxRate p) (s.peerMaxRate p)
  let last := 64 * (s.cl p).last
  let staged := s.planTraffic p s.plan.staged
  let active := s.planTraffic p s.plan.active
  if s.clCapacity r * 90 < last * 100 ∨ s.clCapacity r < staged then
    (List.range 3).find? fun c => decide (r < c ∧ c ≤ top ∧ last ≤ s.clCapacity c ∧ staged ≤ s.clCapacity c)
  else if 0 < r ∧ max 1 (s.fld (CL_STEP_CFG_STEP_FRAMES.inst p)) ≤ (s.cl p).lowRun ∧ active ≤ s.clCapacity (r - 1) ∧ staged ≤ s.clCapacity (r - 1) then
    some (r - 1)
  else none

/-- The transit at which an armed plan switch is made, if it names one. -/
def State.switchAt (s : State) : Option Nat :=
  let u := s.unit 4
  if ¬ s.armed 4 ∨ ¬ s.bit PLAN_SWITCH_SWITCH then none
  else if u.mode = mdTransitN then some u.target
  else s.time.nextTransit.map fun t => if u.skip then t.1 + 1 else t.1

/-- Whether a step to code `c` may be proposed for transit `n`: one that only a staged plan needs is made at its switch
transit (R446). -/
def State.rateAt (s : State) (p c n : Nat) : Bool :=
  let r := s.fld (CL_STATUS_RATE.inst p)
  decide (c < r ∨ s.clCapacity r * 90 < 64 * (s.cl p).last * 100) || s.switchAt == some n

/-- RATE_PROPOSE (R446): for transit `n`. -/
def execRatePropose (p n : Nat) (s : State) : Host.Outcome State Fault Refusal :=
  match s.wantedRate p with
  | some c =>
    .next (if s.clIsUp p ∧ s.bit (CL_CTRL_STEP_EN.inst p) ∧ ¬ s.inSeam ∧ (s.cl p).proposed = none ∧ (s.cl p).agreed = none ∧ s.rateAt p c n ∧
        s.time.now + 100000 * unitsPerNs ≤ transitInstant s.rate n then
        (s.modCl p fun x => { x with proposed := some (c, lo32 n) }).queueBlock p 3 0x99 [c, lo32 n, 1]
      else s)
  | none => .next s

/-- RATE_BLOCK_RX (R446): rate code, transit, kind of the peer's block. -/
def execRateBlockRx (p code n kind : Nat) (s : State) : Host.Outcome State Fault Refusal :=
  let x := s.cl p
  let c := code % 4
  let m := lo32 n
  let answer (t : State) (k : Nat) : State := t.queueBlock p 3 0x99 [c, m, k]
  .next (if ¬ s.clIsUp p then s
    else if kind = 1 then
      let mine := x.proposed.isSome && decide (s.clDeviceId < s.peerId p)
      let fits := decide (c ≤ s.maxRate p ∧ s.planTraffic p s.plan.active ≤ s.clCapacity c)
      let ahead := decide ((m + 2 ^ 32 - lo32 s.frameNo) % 2 ^ 32 < 2 ^ 31 ∧ m ≠ lo32 s.frameNo)
      if ¬ mine ∧ s.bit (CL_CTRL_STEP_EN.inst p) ∧ fits ∧ ahead ∧ ¬ s.inSeam ∧ x.agreed = none then
        answer (s.modCl p fun y => { y with proposed := none, agreed := some (c, m) }) 2
      else answer s 3
    else if kind = 2 then
      (if x.proposed = some (c, m) then s.modCl p fun y => { y with proposed := none, agreed := some (c, m) } else s)
    else if kind = 3 then (if x.proposed = some (c, m) then s.modCl p fun y => { y with proposed := none } else s)
    else s)

/-- RATE_RELOCK_DONE (R446). -/
def execRateRelockDone (p : Nat) (s : State) : Host.Outcome State Fault Refusal :=
  match (s.cl p).agreed with
  | some (c, n) =>
    .next (if p < 4 ∧ (s.cl p).relock then
        ((s.modCl p fun x => { x with relock := false, agreed := none, lowRun := 0 }).incFld (CL_RATE_STEPS_COUNT.inst p) 1).raise (clPage p) 11 (c + n * 4)
      else s)
  | none => .next s

/-- A transit at a port: utilisation of the frame that ended, an agreed rate step (R446); one whose transit a seam has
skipped is not made. -/
def State.clTransitAt (s : State) (m p : Nat) : State :=
  if s.clIsUp p then
    let x := s.cl p
    let r := s.fld (CL_STATUS_RATE.inst p)
    let cap := max 1 (s.clCapacity r)
    let pct (b : Nat) : Nat := min 255 (b * 100 / cap)
    let big := max x.txUnits x.rxUnits
    let low := 0 < r ∧ 64 * big * 100 ≤ s.fld (CL_STEP_CFG_LOW_PCT.inst p) * s.clCapacity (r - 1)
    let s1 := ((s.setFld (CL_UTIL_TX_PCT.inst p) (pct (64 * x.txUnits))).setFld (CL_UTIL_RX_PCT.inst p) (pct (64 * x.rxUnits))).setFld
      (CL_UTIL_PLAN_PCT.inst p) (pct (s.planTraffic p s.plan.active))
    let s2 := s1.modCl p fun y => { y with txUnits := 0, rxUnits := 0, last := big, lowRun := if low then y.lowRun + 1 else 0 }
    let gone (n : Nat) : Bool := n != lo32 m && decide ((lo32 m + 2 ^ 32 - n) % 2 ^ 32 < 2 ^ 31)
    let s3 := match x.proposed with | some (_, n) => if gone n then s2.modCl p fun y => { y with proposed := none } else s2 | none => s2
    match x.agreed with
    | some (c, n) =>
      if x.relock then s3
      else if n = lo32 m then (s3.setFld (CL_STATUS_RATE.inst p) c).modCl p fun y => { y with relock := true }
      else if gone n then s3.modCl p fun y => { y with agreed := none }
      else s3
    | none => s3
  else s

/-! Frame traffic (R444). -/

/-- The cells of a transmit window. -/
def frameCells (dest hops route w fr : Nat) (bs : List Byte) (fuel unit : Nat) : List Cell :=
  match fuel, bs with
  | 0, _ => []
  | _, [] => []
  | k + 1, l => ⟨dest, hops, route, false, false, w, unit, fr, l.take 256⟩ :: frameCells dest hops route w fr (l.drop 256) k (unit + 4)

/-- An emit entry on page CLn launches at emitting transit `t`: its window, or FRAME_END alone with EMPTY
where the data is not ready (R444). -/
def State.clLaunch (s : State) (n t : Nat) (f : FrameRun) (e : EmitEnt) (ready : Bool) : State :=
  let k := natBits e.arg 0 4
  let a (x : Fld) : Nat := s.act ((x.inst n).nth k)
  let units := if ready then a CL_TXWIN_LEN_UNITS else 0
  let hops := a CL_TXWIN_ROUTE_HOPS - 1
  let route := a CL_TXWIN_ROUTE_ROUTE
  let w := a CL_TXWIN_ROUTE_RXWIN
  let fr := t % 2 ^ 16
  let r0 := s.sourceBytes f e 0 (64 * units)
  let r := (r0.1, if ready ∧ e.baseSel = 9 then r0.2.takeFree else r0.2)
  let endCell : Cell := ⟨a CL_TXWIN_ROUTE_DEST, hops, route, true, false, w, 0, fr,
    ctlData 1 s.member s.group.oseq (w + units * 2 ^ 4 + if ready then 0 else 2 ^ 28)⟩
  let s1 := r.2.modGroup fun g => { g with oseq := (g.oseq + 1) % 256 }
  (frameCells (a CL_TXWIN_ROUTE_DEST) hops route w fr r.1 (units + 1) 0 ++ [endCell]).foldl (fun (u : State) (c : Cell) => u.sendVia n c false) s1

end Sys2Proof.Machine
end

