-- ==== Sys2Proof/Machine/CamlekGroup.lean ====
section
/-! DEFINITION. Camlek groups (spec/14): membership, election, upstream, flooded control cells, training, lanes and link loss, and the meanings of their commands. -/

namespace Sys2Proof.Machine

open Sys2Proof

/-! Upstream and presence (R433, R438, R447, R448). -/

/-- DEVICE_IDs of the group in member order: the planet, then the moons ascending (R433). -/
def memberOrder (planet : Nat) (ids : List Nat) : List Nat :=
  planet :: (ids.filter fun i => i != planet).mergeSort fun a b => decide (a ≤ b)

/-- The group's DEVICE_IDs, the device's own among them. -/
def State.groupIds (s : State) : List Nat := if s.group.ids.contains s.clDeviceId then s.group.ids else s.clDeviceId :: s.group.ids

/-- PEER_MEMBER of every port follows the numbering. -/
def State.numberPeers (s : State) (order : List Nat) : State :=
  (List.range 4).foldl (fun (t : State) (p : Nat) =>
    match order.findIdx? fun i => i == t.peerId p with
    | some k => if t.clIsUp p then t.setFld (CL_STATUS_PEER_MEMBER.inst p) k else t
    | none => t) s

/-- The path to the planet is lost: the moon glides at once (R448). -/
def State.losePath (s : State) : State :=
  let s1 := (s.setBit CL_UPSTREAM_VALID false).modGroup fun g => { g with lossAt := some s.time.mono }
  if s1.fld TIME_STATUS_SOURCE_IN_USE = 2 then s1.enterGlide 2 else s1

/-- A change of upstream is a PATH_CHANGE (R438). -/
def State.changePath (s : State) (p : Nat) : State :=
  let s1 := (s.setBit TIME_STATUS_DELAY_VALID false).raise 2 16 p
  if s1.timeState = tsLocked then s1.servoAcquire else s1

/-- Upstream, reachable members and SOURCE_IN_USE follow the links. -/
def State.regroup (s : State) : State :=
  let links := s.groupLinks
  let me := s.member
  let n := s.fld CL_GROUP_STATUS_MEMBERS
  let reach := (List.range n).filter fun m => decide ((hopsTo links m).getD me 99 < 99)
  let mask := (reach.map fun m => 2 ^ m).sum
  let s1 := s.setFld CL_GROUP_STATUS_PRESENT mask
  let s2 := if mask = s.fld CL_GROUP_STATUS_PRESENT then s1 else s1.raise (clPage 0) 17 mask
  if s2.isPlanet then
    ((s2.setBit CL_UPSTREAM_VALID false).setFld CL_UPSTREAM_HOPS 0).modGroup fun g => { g with lossAt := none }
  else
    match nextHop links me 0 with
    | none => if s2.bit CL_UPSTREAM_VALID ∨ s2.group.lossAt.isNone then s2.losePath else s2
    | some (p, _) =>
      let was := s2.bit CL_UPSTREAM_VALID
      let old := s2.fld CL_UPSTREAM_PORT
      let s3 := ((s2.setFld CL_UPSTREAM_PORT p).setFld CL_UPSTREAM_HOPS ((hopsTo links 0).getD me 0)).setBit CL_UPSTREAM_VALID true
      let s4 := (s3.modGroup fun g => { g with lossAt := none }).pickSource
      if was ∧ old ≠ p then s4.changePath p else s4

/-! Elections (R432). -/

/-- The better candidate: highest PLANET_PRIO, then lowest DEVICE_ID. -/
def betterCand (a b : Nat × Nat) : Nat × Nat := if b.1 < a.1 ∨ (a.1 = b.1 ∧ a.2 ≤ b.2) then a else b

/-- The links of the members that stay, under their new numbers. -/
def moveLinks (old new : List Nat) (l : List (Nat × Nat × Nat)) : List (Nat × Nat × Nat) :=
  let place (m : Nat) : Option Nat := match old[m]? with | some i => new.findIdx? fun j => j == i | none => none
  l.filterMap fun k => match place k.1, place k.2.2 with | some a, some b => some (a, k.2.1, b) | _, _ => none

/-- The members are numbered with planet `w` (R433). -/
def State.renumber (s : State) (w : Nat) (ids : List Nat) : State :=
  let order := memberOrder w ids
  let me := match order.findIdx? fun i => i == s.clDeviceId with | some k => k | none => 0
  let s1 := (s.modGroup fun g => { g with
    ids := ids, links := moveLinks (memberOrder s.planetId s.groupIds) order g.links, seen := [] }).setFld CL_GROUP_STATUS_MEMBER me
  let s2 := (((s1.setFld CL_GROUP_STATUS_MEMBERS (min 8 order.length)).setBit CL_GROUP_STATUS_PLANET (w == s.clDeviceId)).setPair
    CL_PLANET_ID_LO_ID CL_PLANET_ID_HI_ID w)
  s2.numberPeers order

/-- Members reachable over the links the device knows. -/
def State.reachable (s : State) : List Nat :=
  (List.range 8).filter fun m => decide ((hopsTo s.groupLinks m).getD s.member 99 < 99)

/-- Members that `before` reached and the device reaches no more have left the group: it is the set of devices
joined by UP links (R431), numbered afresh (R433). A moon without a path to its planet keeps its numbers until
the election (R448). -/
def State.leave (s before : State) : State :=
  let order := memberOrder s.planetId s.groupIds
  let lost := (before.reachable.filter fun m => !s.reachable.contains m).filterMap fun m => order[m]?
  if lost.isEmpty ∨ lost.contains s.planetId then s
  else s.renumber s.planetId (s.groupIds.filter fun i => !lost.contains i)

/-- RATE_COMMIT of the planet for transit `n` (Table 14-3). -/
def State.floodRate (s : State) (num den n : Nat) : State := s.flood 3 (num % 2 ^ 20 + den % 2 ^ 16 * 2 ^ 20 + n % 2 ^ 28 * 2 ^ 36)

/-- An election is decided: the planet, the numbers, the time (R432, R433, R448). -/
def State.decideElection (s : State) : State :=
  match s.group.cands with
  | [] => s
  | c :: l =>
    let w := (l.foldl betterCand c).2
    let old := s.planetId
    let peers := ((List.range 4).filter fun p => s.clIsUp p).map fun p => s.peerId p
    let ids := (s.group.cands.map (fun q => q.2) ++ peers ++ (if s.group.lossAt.isSome then [] else s.groupIds) ++ [s.clDeviceId]).eraseDups
    let s1 := ((s.renumber w ids).setBit CL_GROUP_STATUS_ELECTING false).modGroup fun g => { g with
      cands := [], expect := 0, lossAt := none, joining := w != old && w != s.clDeviceId }
    let s2 := s1.setFld CL_GROUP_STATUS_PLANET_MEMBER 0
    let s3 := if w = old then s2 else s2.raise (clPage 0) 16 (s2.member + if s2.isPlanet then 8 else 0)
    let s4 := (s3.regroup.pickSource).floodTopology
    match s4.time.nextTransit with
    | some t => if s4.isPlanet ∧ 1 < ids.length then s4.floodRate s4.rate.1 s4.rate.2 t.1 else s4
    | none => s4

/-- The election is decided once every candidate has been heard. -/
def State.tryElection (s : State) : State :=
  if s.bit CL_GROUP_STATUS_ELECTING ∧ s.group.expect ≤ s.group.cands.length then s.decideElection else s

/-- A candidate is heard. -/
def State.candidate_ (s : State) (prio id : Nat) : State :=
  s.modGroup fun g => { g with cands := if g.cands.any (fun q => q.2 == id) then g.cands else g.cands ++ [(prio, id)] }

/-- This device stands: it is a candidate, and its ELECT cell is flooded. -/
def State.standForElection (s : State) : State :=
  (s.candidate_ (s.act CL_GROUP_CFG_PLANET_PRIO) s.clDeviceId).flood 5 (s.act CL_GROUP_CFG_PLANET_PRIO + s.clDeviceId * 2 ^ 8)

/-- An election begins: between two planets, or among all members still reachable after a loss. -/
def State.beginElection (s : State) : State :=
  if s.bit CL_GROUP_STATUS_ELECTING then s
  else
    let loss := s.group.lossAt.isSome
    let reach := ((List.range 8).filter fun m => (s.fld CL_GROUP_STATUS_PRESENT).testBit m).length
    let s1 := (s.setBit CL_GROUP_STATUS_ELECTING true).modGroup fun g => { g with cands := [], expect := if loss then reach else 2 }
    if loss ∨ s.isPlanet then s1.standForElection else s1

/-- PLANET_LOSS_TIMEOUT (R448). -/
def execPlanetLossTimeout (s : State) : Host.Outcome State Fault Refusal :=
  match s.group.lossAt with
  | some t => .next (if t + 100000 * unitsPerNs ≤ s.time.mono ∧ ¬ s.bit CL_GROUP_STATUS_ELECTING then s.beginElection.tryElection else s)
  | none => .next s

/-! Flooded cells (R440, R441). -/

/-- A flooded cell of kind `k` arrives on port `p`: `f` where it is news. -/
def State.floodCell (s : State) (p seq : Nat) (ok : Bool) (c : Cell) (k : Nat) (f : State → State) : State :=
  if ¬ c.bcast ∨ ¬ c.ctrl ∨ cellKind c ≠ k then s
  else
    let r := s.linkRx p seq ok c
    if r.1 then
      let n := r.2.floodRx p c
      if n.1 then f n.2 else n.2
    else r.2

/-- ELECT (R432). -/
def execElect (p seq : Nat) (ok : Bool) (c : Cell) (s : State) : Host.Outcome State Fault Refusal :=
  .next (s.floodCell p seq ok c 5 fun t =>
    ((t.beginElection).candidate_ (natBits (cellContent c) 0 8) (natBits (cellContent c) 8 48)).tryElection)

/-- The links a TOPOLOGY cell reports of its origin. -/
def topologyLinks (m v : Nat) : List (Nat × Nat × Nat) :=
  ((List.range 4).filter fun p => v.testBit (8 * p + 3)).map fun p => (m, p, natBits v (8 * p) 3)

/-- TOPOLOGY (R447): routes, upstream, membership; `ids` are DEVICE_IDs of members that the device learns
of (log entry 29). -/
def execTopology (p seq : Nat) (ok : Bool) (c : Cell) (ids : List Nat) (s : State) : Host.Outcome State Fault Refusal :=
  .next (s.floodCell p seq ok c 2 fun t =>
    let all := (t.groupIds ++ ids).eraseDups
    let t1 := if all.length ≤ t.groupIds.length ∨ 8 < all.length then t else t.renumber t.planetId all
    (t1.modGroup fun g => { g with links := (g.links.filter fun l => l.1 != cellOrigin c) ++ topologyLinks (cellOrigin c) (cellContent c) }).leave t1 |>.regroup)

/-- RATE_COMMIT (R440): a moon takes the rate at the transit named. -/
def execRateCommit (p seq : Nat) (ok : Bool) (c : Cell) (s : State) : Host.Outcome State Fault Refusal :=
  .next (s.floodCell p seq ok c 3 fun t =>
    let v := cellContent c
    if t.isPlanet then t else t.modGroup fun g => { g with rate := some (natBits v 0 20, natBits v 20 16, natBits v 36 28) })

/-- STEP (R440): a moon applies the planet's step at Ta. -/
def execGroupStep (p seq : Nat) (ok : Bool) (c : Cell) (s : State) : Host.Outcome State Fault Refusal :=
  .next (s.floodCell p seq ok c 4 fun t =>
    let v := cellContent c
    if t.isPlanet then t else t.modGroup fun g => { g with step := some (natBits v 0 40, natBits v 40 24) })

/-! Link loss (R447). -/

/-- A link leaves UP or a training state; `to` is its state now. Its cells take a detour. -/
def State.linkDown (s : State) (p st : Nat) : State :=
  if s.clState p = clDown ∨ s.clState p = clFailed then s
  else
    let x := s.cl p
    let wasUp := s.clIsUp p
    let s1 := ((s.setClState p st).setFld (CL_STATUS_LANE_OK.inst p) 0).modCl p fun y => { ClS.idle with marks := y.marks, xno := y.xno }
    if wasUp then
      let s2 := ((s1.raise (clPage p) 9 st).leave s).regroup.floodTopology
      let cells := (x.retry.map fun q => q.2) ++ (x.ctl.map fun t => t.cell) ++ (x.frames.map fun t => t.cell)
      (cells.filter fun c => !c.bcast).foldl (fun (t : State) (c : Cell) => t.detour p c) s2
    else s1

/-- CL_LINK_DOWN (R447): two or more lanes have been without block lock for 1 µs; a link in training or FOREIGN goes DOWN
too. -/
def execClLinkDown (p : Nat) (s : State) : Host.Outcome State Fault Refusal :=
  .next (if p < 4 ∧ clAlign ≤ s.clState p ∧ s.clState p ≤ clForeign then s.linkDown p clDown else s)

/-- RETRY_TIMEOUT (R442). -/
def execRetryTimeout (p : Nat) (s : State) : Host.Outcome State Fault Refusal :=
  match (s.cl p).retryAt with
  | some t => .next (if s.clIsUp p ∧ t + 16000 * unitsPerNs ≤ s.time.mono then s.linkDown p clDown else s)
  | none => .next s

/-! Training (R431, R436). -/

/-- The capability words this device sends (R436). -/
def State.capWord (s : State) (p i : Nat) : Nat :=
  let id := s.clDeviceId
  if i = 0 then id % 2 ^ 32 else if i = 1 then id / 2 ^ 32
  else if i = 2 then s.act CL_GROUP_CFG_GROUP_ID + s.act CL_GROUP_CFG_PLANET_PRIO * 2 ^ 16
  else if i = 3 then p + s.maxRate p * 4 + s.fld (CL_STATUS_LANE_OK.inst p) * 2 ^ 4 + (if s.bit TIME_STATUS_TRACEABLE then 2 ^ 9 else 0)
  else if i = 4 then s.planetId % 2 ^ 32 else if i = 5 then s.planetId / 2 ^ 32
  else s.fld CL_GROUP_STATUS_MEMBERS

/-- The capability words go out in TRAIN blocks. -/
def State.sendCaps (s : State) (p : Nat) : State :=
  (List.range 7).foldl (fun (t : State) (i : Nat) => t.emit (.cl p 0x55 [clExchange, i, t.capWord p i])) s

/-- The words of the peer are complete: FOREIGN, or the measurement begins at the lower MAX_RATE. -/
def State.capsDone (s : State) (p : Nat) : State :=
  let w (i : Nat) : Nat := mapGet (fun _ => 0) (s.cl p).caps i
  let id := w 0 + w 1 % 2 ^ 16 * 2 ^ 32
  let planet := w 4 + w 5 % 2 ^ 16 * 2 ^ 32
  let s1 := (s.setPair (CL_PEER_ID_LO_ID.inst p) (CL_PEER_ID_HI_ID.inst p) id).setFld (CL_STATUS_PEER_PORT.inst p) (natBits (w 3) 0 2)
  if natBits (w 2) 0 16 ≠ s.act CL_GROUP_CFG_GROUP_ID then (s1.setClState p clForeign).raise (clPage p) 12 0
  else if planet ≠ s.planetId ∧ 8 < s.fld CL_GROUP_STATUS_MEMBERS + w 6 then (s1.setClState p clForeign).raise (clPage p) 12 1
  else ((s1.setClState p clMeasure).setFld (CL_STATUS_RATE.inst p) (min (s.maxRate p) (s1.peerMaxRate p))).modCl p fun x => { x with exch := 0 }

/-- A link reaches UP (R436): it joins the group, or two groups elect their planet (R432). -/
def State.linkUp (s : State) (p : Nat) : State :=
  let w (i : Nat) : Nat := mapGet (fun _ => 0) (s.cl p).caps i
  let planet := w 4 + w 5 % 2 ^ 16 * 2 ^ 32
  let s1 := (s.setClState p clUp).modCl p fun x => { x with seqTx := 0, seqRx := 0, retry := [], replay := [], retryAt := none, detoured := [], timeAt := s.time.mono }
  let s2 := s1.numberPeers (memberOrder s1.planetId s1.groupIds)
  let s3 := s2.raise (clPage p) 8 (s2.fld (CL_STATUS_RATE.inst p) + s2.fld (CL_STATUS_PEER_PORT.inst p) * 4 + s2.fld (CL_STATUS_PEER_MEMBER.inst p) * 16)
  if planet = s3.planetId then
    let all := (s3.groupIds ++ [s3.peerId p]).eraseDups
    (if all.length = s3.groupIds.length then s3 else s3.renumber s3.planetId all).regroup.floodTopology
  else s3.floodTopology.beginElection.tryElection

/-- CL_TRAINING_PROGRESS (R436). -/
def execClTrainingProgress (p : Nat) (t : TrainStep) (s : State) : Host.Outcome State Fault Refusal :=
  let st := s.clState p
  let clear := !(s.reg (regKey (clPage p) 0x10)).getLsbD 6
  .next (if 4 ≤ p ∨ ¬ s.bit (CL_CTRL_EN.inst p) ∨ s.bit SYS_STATUS_RECOVERY then s
    else match t with
      | .signal =>
        if st = clDown ∨ (st = clFailed ∧ clear) then (s.setClState p clSignal).modCl p fun x => { ClS.idle with trainAt := s.time.mono, marks := x.marks, xno := x.xno }
        else s
      | .clock => if st = clSignal then s.setClState p clAlign else s
      | .aligned skew =>
        if st = clAlign then
          (((s.setClState p clExchange).setFld (CL_STATUS_LANE_OK.inst p) 31).setFld (CL_SKEW_PS_PS.inst p) (min skew 65535)).setFld
            (CL_STATUS_SPARE_FOR.inst p) 7 |>.sendCaps p
        else s
      | .word i v =>
        if st = clExchange ∧ i < 7 then
          let s1 := s.modCl p fun x => { x with caps := (x.caps.filter fun q => q.1 != i) ++ [(i, v % 2 ^ 32)] }
          if 7 ≤ (s1.cl p).caps.length then s1.capsDone p else s1
        else s
      | .measured => if st = clMeasure ∧ 64 ≤ (s.cl p).exch then s.linkUp p else s)

/-- CL_TRAIN_TIMEOUT (R436). -/
def execClTrainTimeout (p : Nat) (s : State) : Host.Outcome State Fault Refusal :=
  let st := s.clState p
  .next (if p < 4 ∧ clSignal ≤ st ∧ st ≤ clMeasure ∧ (s.cl p).trainAt + 5000000 * unitsPerNs ≤ s.time.mono then s.linkDown p clDown else s)

/-! Lanes (R435). -/

/-- The lane map as LANE_MARK carries it. -/
def mapWord (l : List Nat) : Nat := ((l.zip (List.range 5)).map fun q => q.1 * 2 ^ (3 * q.2)).sum

/-- The spare takes the failed lane's place. -/
def State.spareIn (s : State) (p lane : Nat) : State :=
  let s1 := s.modCl p fun x => { x with map := x.map.map (fun l => if l = lane then 4 else if l = 4 then lane else l), failed := none, peerSaw := false }
  ((s1.setFld (CL_STATUS_SPARE_FOR.inst p) lane).incFld (CL_LANE_SWAPS_COUNT.inst p) 1).raise (clPage p) 10 lane

/-- LANE_MARK_SEND (R435): with the first marker after the peer's has reported the failure the spare comes in. -/
def execLaneMarkSend (p : Nat) (s : State) : Host.Outcome State Fault Refusal :=
  let x := s.cl p
  .next (if p < 4 ∧ clAlign ≤ s.clState p ∧ s.clState p ≤ clUp then
      let s1 := match x.failed with
        | some l => if x.peerSaw then s.spareIn p l else s
        | none => s
      (s1.modCl p fun y => { y with marks := (y.marks + 1) % 2 ^ 24 }).queueBlock p 2 0x4B
        [x.marks, s.fld (CL_STATUS_RATE.inst p), mapWord (s1.cl p).map]
    else s)

/-- LANE_MARK_RX (R435): the markers' largest skew, and the lane the peer reports as failed. -/
def execLaneMarkRx (p lane skew : Nat) (fail : Option Nat) (s : State) : Host.Outcome State Fault Refusal :=
  .next (if p < 4 ∧ lane < 5 ∧ clAlign ≤ s.clState p ∧ s.clState p ≤ clUp then
      let s1 := s.setFld (CL_SKEW_PS_PS.inst p) (min skew 65535)
      match fail with
      | some l =>
        if s.fld (CL_STATUS_SPARE_FOR.inst p) = 7 ∧ l < 4 then
          (s1.setBit ((CL_STATUS_LANE_OK.inst p).one l) false).modCl p fun x => { x with failed := some l, peerSaw := true }
        else s1
      | none => s1
    else s)

/-- LANE_FAIL (R435): a second failure with the spare in use takes the link down. -/
def execLaneFail (p lane : Nat) (s : State) : Host.Outcome State Fault Refusal :=
  let x := s.cl p
  .next (if p < 4 ∧ lane < 5 ∧ s.clIsUp p ∧ (s.fld (CL_STATUS_LANE_OK.inst p)).testBit lane then
      let s1 := s.setBit ((CL_STATUS_LANE_OK.inst p).one lane) false
      let active := (x.map.take 4).contains lane
      let ok := s1.fld (CL_STATUS_LANE_OK.inst p)
      if ¬ active then s1
      else if s.fld (CL_STATUS_SPARE_FOR.inst p) ≠ 7 ∨ x.failed.isSome ∨ ¬ ok.testBit 4 then
        (s1.linkDown p clFailed).raise (clPage p) 6 ok
      else s1.modCl p fun y => { y with failed := some lane }
    else s)

/-! What other commands do to the ports. -/

/-- Transit `m` at the Camlek ports: windows judge, utilisation, rate steps (R445, R446). -/
def State.clTransit (s : State) (m : Nat) : State :=
  (List.range 4).foldl (fun (t : State) (p : Nat) => t.clTransitAt m p) (if 0 < m then s.judgeWindows m else s)

/-- EN of a port has been written: a port without EN is DOWN (R431). -/
def State.clCtrl (s : State) (p : Nat) : State :=
  if s.bit (CL_CTRL_EN.inst p) then s else if s.clState p = clFailed then s.setClState p clDown else s.linkDown p clDown

/-- A commit of a CL page has been taken: a change of GROUP_ID takes the links DOWN (R449). -/
def State.clTaken (s before : State) (p : Nat) : State :=
  if p = 0 ∧ s.act CL_GROUP_CFG_GROUP_ID ≠ before.act CL_GROUP_CFG_GROUP_ID then
    (List.range 4).foldl (fun (t : State) (q : Nat) => t.linkDown q clDown) s
  else s

/-- REASON of a refused commit of a CL page; 0 for none (Table 14-4). -/
def State.clCommit (s : State) (p : Nat) : Nat :=
  let wins := (List.range 16).all fun k => s.fld ((CL_TXWIN_ROUTE_HOPS.inst p).nth k) != 0
  let sets := p != 0 || (List.range 16).all fun w =>
    let b := s.fld (CL_RXWIN_SET_BYTES.nth w)
    b == 0 || (decide (128 ≤ b ∧ b ≤ 16777216) && b % 64 == 0)
  if wins ∧ sets then 0 else 3

end Sys2Proof.Machine
end

