-- ==== Sys2Proof/Machine/Fifo.lean ====
section
/-! DEFINITION. Spill FIFOs and the host queues (spec/08): pushing, popping, marks, the FIFO arbiter's requests, HDMA, the command unit and the event queue, and the meanings of their commands but for the register writes of CMD_WRITE. -/

namespace Sys2Proof.Machine

open Sys2Proof

/-- The page of FIFO `n` (R289). -/
def fifoPage (n : Nat) : Nat := 0x40 + n

/-- End codes (Table 08-1). -/
def endHost : Nat := 1
def endHdma : Nat := 2
def endDevice : Nat := 3

/-- FIFO `n` beside its page. -/
def State.fifo (s : State) (n : Nat) : FifoS := mapGet (fun _ => FifoS.idle) s.fifos n

/-- `s` with FIFO `n` changed by `f`. -/
def State.modFifo (s : State) (n : Nat) (f : FifoS → FifoS) : State :=
  { s with fifos := mapSet (fun _ => FifoS.idle) s.fifos n (f (s.fifo n)) }

/-- Whether a ring is configured (R260). -/
def State.fifoRing (s : State) (n : Nat) : Bool := s.act (FIFO_RING_SIZE_LOG2.inst n) != 0

/-- The capacity C (R260). -/
def State.fifoCap (s : State) (n : Nat) : Nat := if s.fifoRing n then 2 ^ s.act (FIFO_RING_SIZE_LOG2.inst n) / 8 else 256

/-- Words present. -/
def State.fifoLevel (s : State) (n : Nat) : Nat := (s.fifo n).words.length

/-- RD_POS, WR_POS, MARK_POS. -/
def State.rdPos (s : State) (n : Nat) : Nat := s.fld (FIFO_RD_POS_POS.inst n)
def State.wrPos (s : State) (n : Nat) : Nat := s.fld (FIFO_WR_POS_POS.inst n)
def State.markPos (s : State) (n : Nat) : Nat := s.fld (FIFO_MARK_POS_POS.inst n)

/-- Words popped since the mark. -/
def State.sinceMark (s : State) (n : Nat) : Nat := (s.rdPos n + 2 ^ 32 - s.markPos n) % 2 ^ 32

/-- RETAINED (R278). -/
def State.retained (s : State) (n : Nat) : Nat :=
  if s.bit (FIFO_STATUS_MARK_VALID.inst n) ∧ (s.fifo n).retain then s.sinceMark n else 0

/-- Space, HELD apart (R268). -/
def State.fifoRoom (s : State) (n : Nat) : Nat := s.fifoCap n - s.fifoLevel n - s.retained n

/-- SPACE (R268). -/
def State.fifoSpace (s : State) (n : Nat) : Nat := if s.bit (FIFO_STATUS_HELD.inst n) then 0 else s.fifoRoom n

/-- LEVEL, SPACE, RETAINED and STATUS follow the words (Table 08-5). -/
def State.fifoSync (s : State) (n : Nat) : State :=
  let l := s.fifoLevel n
  let sp := s.fifoSpace n
  (((((s.setFld (FIFO_LEVEL_WORDS.inst n) l).setFld (FIFO_SPACE_WORDS.inst n) sp).setFld (FIFO_RETAINED_WORDS.inst n)
    (s.retained n)).setBit (FIFO_STATUS_EMPTY.inst n) (l == 0)).setBit (FIFO_STATUS_FULL.inst n) (sp == 0)).setBit
    (FIFO_STATUS_RING.inst n) (s.fifoRing n)

/-- DRAM address of the word at position `pos` in the ring (R260). -/
def State.ringAddr (s : State) (n pos : Nat) : Nat :=
  s.act (FIFO_RING_BASE_LO_BASE.inst n) * 65536 + s.act (FIFO_RING_BASE_HI_BASE.inst n) * 2 ^ 32 + 8 * (pos % s.fifoCap n)

/-- Whether a push has overwritten the mark (R278). -/
def State.markCheck (s : State) (n : Nat) : State :=
  if s.bit (FIFO_STATUS_MARK_VALID.inst n) ∧ ¬ (s.fifo n).retain ∧ ¬ s.bit (FIFO_STATUS_MARK_LOST.inst n) ∧
      s.fifoCap n < (s.wrPos n + 2 ^ 32 - s.markPos n) % 2 ^ 32 then
    (s.setBit (FIFO_STATUS_MARK_LOST.inst n) true).raise (fifoPage n) 12 (s.markPos n)
  else s

/-- One word is accepted: it takes its place in the ring where there is one (R260, R261); a word beyond
the two stages is read back from there. -/
def State.acceptWord (s : State) (n : Nat) (w : DWord) : State :=
  let x := s.fifo n
  let s1 := if s.fifoRing n then s.writeDramWord (s.ringAddr n (s.wrPos n)) ((valBytes 8 w.toNat).map some) else s
  let e : Option DWord := if 256 ≤ x.words.length then none else some w
  let s2 := s1.modFifo n fun y => { y with
    words := y.words ++ [e]
    idleAt := if x.words.isEmpty then s.time.mono else y.idleAt
    idleUp := if x.words.isEmpty then false else y.idleUp }
  (s2.incFld (FIFO_WR_POS_POS.inst n) 1).markCheck n

/-- Words are accepted in order. -/
def State.acceptWords (s : State) (n : Nat) (ws : List DWord) : State := (ws.foldl (fun t w => t.acceptWord n w) s).fifoSync n

/-- Whether a waiting push finds no space and FULL has not been set for it (R268). -/
def State.finds (s : State) (n : Nat) (k : Stall) : Bool := !k.full && decide (s.fifoSpace n < k.words.length)

/-- FULL is set once for each push that waits for space; its stall begins there (R268, R270). -/
def State.noteFull (s : State) (n : Nat) : State :=
  ((s.fifo n).stalls.filter (s.finds n)).foldl (fun (t : State) (k : Stall) => t.raise (fifoPage n) 9 k.prod)
    (s.modFifo n fun x => { x with
      stalls := x.stalls.map fun k => if s.finds n k then { k with full := true, since := s.time.mono } else k })

/-- A push of `ws` in one handshake, with single words `behind` it, waits (R268). -/
def State.waitPush (s : State) (n prod req : Nat) (ws behind : List DWord) : State :=
  (s.modFifo n fun x => { x with stalls := x.stalls ++ [⟨prod, req, ws, behind, s.time.mono, false⟩] }).noteFull n

/-- A host push by requester `q` (R264, R268, R270); a word of a requester that waits here already follows it (log
entry 22). -/
def State.hostPush (s : State) (q : Req) (n : Nat) (w : DWord) : State :=
  if 1 ≤ s.fifoSpace n ∧ (s.fifo n).stalls.isEmpty then
    (s.acceptWords n [w]).setBit (FIFO_STATUS_DROPPING.inst n) false
  else if (s.fifo n).stalls.any fun k => k.prod == endHost && k.req == reqCode q then
    s.modFifo n fun x => { x with
      stalls := x.stalls.map fun k => if k.prod == endHost && k.req == reqCode q then { k with behind := k.behind ++ [w] } else k }
  else if s.bit (FIFO_STATUS_DROPPING.inst n) ∧ s.fifoSpace n = 0 then s.incFld (FIFO_PUSH_DROP_COUNT_COUNT.inst n) 1
  else s.waitPush n endHost (reqCode q) [w] []

/-- Whether the producer end is `e`, in force. -/
def State.prodIs (s : State) (n e : Nat) : Bool := s.act (FIFO_BIND_PROD.inst n) == e
def State.consIs (s : State) (n e : Nat) : Bool := s.act (FIFO_BIND_CONS.inst n) == e

/-- A push or pop by an end that is not bound (R264); requester 1 PCIe, 2 MSPI, 3 HDMA. -/
def State.endRefused (s : State) (n : Nat) (push : Bool) (r : Nat) : State :=
  s.raise (fifoPage n) 14 ((if push then 1 else 0) + r * 2)

/-- A write of the high dword of word `k` of PUSH_WIN (R264); the low dword is the requester's held one. -/
def State.pushWin (s : State) (q : Req) (n k : Nat) (hi : Word) : State :=
  let lo := s.snap q (regKey (fifoPage n) (0x100 + 8 * k))
  let w := BitVec.ofNat 64 (lo.toNat + hi.toNat * 2 ^ 32)
  if s.prodIs n endHost then s.hostPush q n w else s.endRefused n true (reqCode q)

/-- A write of the low dword of word `k` of PUSH_WIN (R264). -/
def State.pushLow (s : State) (q : Req) (n k : Nat) (lo : Word) : State :=
  s.setSnap q (regKey (fifoPage n) (0x100 + 8 * k)) lo

/-- A group of words of a device producer, accepted whole or not at all (R272). -/
def State.devPush (s : State) (n : Nat) (ws : List DWord) : Option State :=
  if s.prodIs n endDevice ∧ ws.length ≤ s.fifoSpace n ∧ (s.fifo n).stalls.isEmpty then some (s.acceptWords n ws) else none

/-- The poisoned head word where it has been read back already. -/
def State.headPoison (s : State) (n : Nat) : Option DWord :=
  match (s.fifo n).headBad with
  | some b => if b.1 = s.rdPos n then some b.2 else none
  | none => none

/-- The word at the head: data, whether it is uncorrectable, the state after its delivery (R266). A word is read
back from the ring once: a good one then stands in the head stage, an uncorrectable one is counted and reported then. -/
def State.headWord (s : State) (n : Nat) : DWord × Bool × State :=
  match (s.fifo n).words with
  | [] => (0, false, s)
  | some w :: _ => (w, false, s)
  | none :: t =>
    match s.headPoison n with
    | some d => (d, true, s)
    | none =>
      let r := s.readDramWord (s.ringAddr n (s.rdPos n))
      let d : DWord := BitVec.ofNat 64 r.1
      if r.2.1 then
        (d, true, ((r.2.2.modFifo n fun x => { x with headBad := some (s.rdPos n, d) }).incFld
          (FIFO_POISON_COUNT_COUNT.inst n) 1).raise (fifoPage n) 5 (s.rdPos n))
      else (d, false, r.2.2.modFifo n fun x => { x with words := some d :: t })

/-- The head leaves (R267, R274). -/
def State.dropHead (s : State) (n : Nat) : State :=
  ((s.modFifo n fun x => { x with
      words := x.words.drop 1
      idleAt := s.time.mono
      idleUp := false
      headBad := none }).incFld (FIFO_RD_POS_POS.inst n) 1).fifoSync n

/-- A pop (R264): data, poison, state. -/
def State.popWord (s : State) (n : Nat) : DWord × Bool × State :=
  let r := s.headWord n
  (r.1, r.2.1, r.2.2.dropHead n)

/-- Pops of `k` words. -/
def State.popWords (s : State) (n k : Nat) : List DWord × Bool × State :=
  match k with
  | 0 => ([], false, s)
  | j + 1 =>
    let r := s.popWord n
    let t := r.2.2.popWords n j
    (r.1 :: t.1, r.2.1 || t.2.1, t.2.2)

/-- What a software read of POP_LO or PEEK_LO delivers: data, poison, state (R264, R265). -/
def State.hostWordRead (s : State) (q : Req) (n : Nat) (pop : Bool) : DWord × Bool × State :=
  if ¬ s.consIs n endHost then (0, false, s.endRefused n false (reqCode q))
  else if (s.fifo n).words.isEmpty then (0, false, s.incFld (FIFO_UNDERRUN_COUNT_COUNT.inst n) 1)
  else if pop then s.popWord n else s.headWord n

/-- A read of POP_LO or PEEK_LO: the low half is returned, the high half kept (R62, R266). -/
def State.fifoRead (s : State) (q : Req) (n : Nat) (pop : Bool) : Word × Bool × State :=
  let r := s.hostWordRead q n pop
  let k := regKey (fifoPage n) (if pop then 0x144 else 0x14C)
  (r.1.extractLsb' 0 32, r.2.1, r.2.2.setSnap q k (r.1.extractLsb' 32 32))

/-- The completion of a register read; a poisoned one carries the EP bit on PCIe (R266). -/
def State.answer (s : State) (q : Req) (w : Word) (poison : Bool) : State :=
  s.emit (if poison ∧ q = .pcie then .poisoned [w] else .data q [w])

/-! Marks and flushes (R275 to R279). -/

/-- MARK_SET. -/
def State.setMark (s : State) (n : Nat) : State :=
  if s.fifoRing n then
    let s1 := ((s.setFld (FIFO_MARK_POS_POS.inst n) (s.rdPos n)).setBit (FIFO_STATUS_MARK_VALID.inst n) true).setBit
      (FIFO_STATUS_MARK_LOST.inst n) false
    (s1.modFifo n fun x => { x with retain := s.bit (FIFO_CTRL_RETAIN.inst n) }).fifoSync n
  else s.raise (fifoPage n) 13 3

/-- REWIND. -/
def State.rewindFifo (s : State) (n : Nat) : State :=
  if ¬ s.bit (FIFO_STATUS_MARK_VALID.inst n) then s.raise (fifoPage n) 13 1
  else if s.bit (FIFO_STATUS_MARK_LOST.inst n) then s.raise (fifoPage n) 13 2
  else
    let k := s.sinceMark n
    let s1 := s.modFifo n fun x => { x with
      words := List.replicate k none ++ x.words
      idleAt := s.time.mono
      headBad := none }
    (s1.setFld (FIFO_RD_POS_POS.inst n) (s.markPos n)).fifoSync n

/-- MARK_CLEAR. -/
def State.clearMark (s : State) (n : Nat) : State :=
  ((s.setBit (FIFO_STATUS_MARK_VALID.inst n) false).setBit (FIFO_STATUS_MARK_LOST.inst n) false).fifoSync n

/-- FLUSH (R275). -/
def State.flushFifo (s : State) (n : Nat) : State :=
  let l := s.fifoLevel n
  let s1 := (s.modFifo n fun x => { x with words := [], idleUp := false, headBad := none }).incFld (FIFO_RD_POS_POS.inst n) l
  ((s1.clearMark n).setFld (FIFO_FLUSH_WORDS_WORDS.inst n) l).raise (fifoPage n) 15 l

/-- The control requests of a write of FIFOn.CTRL: FLUSH, FLUSH_AND_HOLD, OPEN (R275, R276). -/
def State.fifoFlow (s : State) (n : Nat) (v : Word) : State :=
  let s1 := if v.getLsbD 0 then s.flushFifo n else s
  let s2 := if v.getLsbD 1 then (((s1.flushFifo n).setBit (FIFO_STATUS_HELD.inst n) true).fifoSync n).noteFull n else s1
  if v.getLsbD 2 then (s2.setBit (FIFO_STATUS_HELD.inst n) false).fifoSync n else s2

/-- A write of FIFOn.CTRL (Table 08-5): the consumer's requests, then the control ones (Table 08-4). -/
def State.fifoCtrl (s : State) (n : Nat) (v : Word) : State :=
  let b (i : Nat) : Bool := v.getLsbD i
  let s0 := s.setBit (FIFO_CTRL_RETAIN.inst n) (b 6)
  let s1 := if b 3 then s0.setMark n else s0
  let s2 := if b 4 then s1.rewindFifo n else s1
  let s3 := if b 5 then s2.clearMark n else s2
  s3.fifoFlow n v

/-- A write of FIFOn.CTRL by a requester. -/
def State.writeFifoCtrl (s : State) (q : Req) (n : Nat) (v : Word) : State :=
  s.write q (fifoPage n) 0x008 v fun t => t.fifoCtrl n v

/-- The idle timer of a non-empty FIFO expires (R274). -/
def State.fifoIdle (s : State) (n : Nat) : State :=
  let x := s.fifo n
  let lim := s.fld (FIFO_IDLE_TIMEOUT_US.inst n)
  if lim ≠ 0 ∧ ¬ x.words.isEmpty ∧ ¬ x.idleUp ∧ x.idleAt + lim * 1000 * unitsPerNs ≤ s.time.mono then
    (s.modFifo n fun y => { y with idleUp := true }).raise (fifoPage n) 8 (s.fifoLevel n)
  else s

/-! The commit of a FIFO page (R263). -/

/-- FIFO number of the HDMA task running, if it moves FIFO words. -/
def State.hdmaFifo (s : State) : Option Nat :=
  match s.unitCtx 42 with
  | some c => let w1 := (s.ctx c).w1; if natBits w1 0 2 < 2 then some (natBits w1 4 4) else none
  | none => none

/-- Whether Table 08-2 allows the ends (R263). -/
def endsOk (n prod cons : Nat) : Bool :=
  let sel (e : Nat) : Bool := e == endHost || e == endHdma
  if n = 0 then sel prod && cons == endDevice
  else if n ≤ 4 then prod == endDevice && sel cons
  else decide (prod ≤ 3 ∧ cons ≤ 3)

/-- The REASON a commit of FIFO `n` would be refused with; 0 for none (R263). -/
def State.fifoCommit (s : State) (n : Nat) : Nat :=
  let lg := s.fld (FIFO_RING_SIZE_LOG2.inst n)
  let changed := decide (lg ≠ s.act (FIFO_RING_SIZE_LOG2.inst n) ∨
    s.fld (FIFO_RING_BASE_LO_BASE.inst n) ≠ s.act (FIFO_RING_BASE_LO_BASE.inst n) ∨
    s.fld (FIFO_RING_BASE_HI_BASE.inst n) ≠ s.act (FIFO_RING_BASE_HI_BASE.inst n))
  if ¬ endsOk n (s.fld (FIFO_BIND_PROD.inst n)) (s.fld (FIFO_BIND_CONS.inst n)) then 3
  else if ¬ (lg = 0 ∨ (16 ≤ lg ∧ lg ≤ 30)) then 3
  else if s.hdmaFifo = some n then 7
  else if changed ∧ (s.fifoLevel n ≠ 0 ∨ s.retained n ≠ 0 ∨ ¬ s.bit (FIFO_STATUS_HELD.inst n)) then 7
  else 0

/-! Host transfers (R280, R281). -/

/-- Unit number of HDMA. -/
def hdmaUnit : Nat := 42

/-- RESULT codes (R281). -/
def hrOk : Nat := 0
def hrEmpty : Nat := 1
def hrHost : Nat := 2
def hrPoison : Nat := 3
def hrBadFifo : Nat := 4
def hrRange : Nat := 5

/-- The end of an HDMA task (R280, R281): BYTES_DONE, then the report to the dispatch arbiter. -/
def State.hdmaEnd (s : State) (n result : Nat) : State :=
  let s1 := (s.schedWrite (s.ctxDesc n) 6 s.hdmaDone).2
  let s2 := { s1 with hdmaDone := 0 }
  if result ≤ hrEmpty then s2.modSched fun x => { x with done := x.done ++ [(hdmaUnit, result)] }
  else s2.modSched fun x => { x with faults := x.faults ++ [(hdmaUnit, ecUnit, result)] }

/-- Whether the HDMA task's end is already reported. -/
def State.hdmaReported (s : State) : Bool :=
  (s.sched.done.any fun p => p.1 == hdmaUnit) || s.sched.faults.any fun p => p.1 == hdmaUnit

/-- More bytes moved; the task ends with the last. -/
def State.hdmaMoved (s : State) (n len k : Nat) : State :=
  let s1 := { s with hdmaDone := s.hdmaDone + k }
  if len ≤ s1.hdmaDone then s1.hdmaEnd n hrOk else s1

/-- The poisoned words among the next `k`, by place: how many good ones stand before the first (R281). -/
def State.goodRun (s : State) (n k : Nat) : Nat :=
  let x := (s.fifo n).words.take k
  ((x.zip (List.range k)).takeWhile fun q =>
    q.1.isSome || (s.dramErrAt (s.ringAddr n ((s.rdPos n + q.2) % 2 ^ 32)) != 2 &&
      !(q.2 == 0 && (s.headPoison n).isSome))).length

/-- FIFO_TO_HOST, a FIFO whose consumer is not HDMA refusing it (R264, R280): one burst of up to `room` bytes to host memory. -/
def State.hdmaFromFifo (s : State) (c f addr len room : Nat) (wait : Bool) : State :=
  if ¬ s.consIs f endHdma then (s.endRefused f false 3).hdmaEnd c hrBadFifo
  else
    let k := min (room / 8) (s.fifoLevel f)
    if k = 0 then (if wait then s else s.hdmaEnd c hrEmpty)
    else
      let g := s.goodRun f k
      let r := s.popWords f g
      let s1 := if g = 0 then s else r.2.2.emit (.hostWrite addr (r.1.flatMap fun w => valBytes 8 w.toNat))
      if g < k then (({ s1 with hdmaDone := s1.hdmaDone + 8 * g }.headWord f).2.2).hdmaEnd c hrPoison
      else s1.hdmaMoved c len (8 * g)

/-- HOST_TO_FIFO, a FIFO whose producer is not HDMA refusing it (R264, R280): the words read from host memory are
pushed one by one; those that find no space wait. -/
def State.hdmaToFifo (s : State) (c f len : Nat) (ws : List DWord) (err : Bool) : State :=
  if ¬ s.prodIs f endHdma then (s.endRefused f true 3).hdmaEnd c hrBadFifo
  else if ¬ (s.fifo f).stalls.isEmpty then s
  else if err then s.hdmaEnd c hrHost
  else
    let k := min ws.length (s.fifoSpace f)
    let s1 := s.acceptWords f (ws.take k)
    let s2 := match ws.drop k with
      | [] => s1
      | w :: rest => s1.waitPush f endHdma 0 [w] rest
    s2.hdmaMoved c len (8 * k)

/-- One burst of the running HDMA task (R281): `data` and `err` are what a read of host memory returns. -/
def State.hdmaStep (s : State) (data : List DWord) (err : Bool) : State :=
  match s.unitCtx hdmaUnit with
  | none => s
  | some c =>
    if s.hdmaReported then s
    else
      let w1 := (s.ctx c).w1
      let p := s.unitParams hdmaUnit
      let dir := natBits w1 0 2
      let f := natBits w1 4 4
      let len := natBits (p.getD 2 0) 0 32 / 8 * 8
      let addr := (p.getD 0 0) / 8 * 8 + s.hdmaDone
      let da := natBits (p.getD 1 0) 0 40 / 8 * 8
      let room := min (len - s.hdmaDone) (64 - addr % 64)
      if len = 0 then s.hdmaEnd c hrRange
      else if dir = 0 then s.hdmaFromFifo c f addr len room (w1.testBit 8)
      else if dir = 1 then
        s.hdmaToFifo c f len (data.take (room / 8)) err
      else if ¬ s.inDram da len then s.hdmaEnd c hrRange
      else if dir = 2 then
        let r := s.readDram (da + s.hdmaDone) room
        if r.2.1 then r.2.2.hdmaEnd c hrPoison
        else (r.2.2.emit (.hostWrite addr r.1)).hdmaMoved c len room
      else if err then s.hdmaEnd c hrHost
      else
        let bs := (data.take (room / 8)).flatMap fun w => valBytes 8 w.toNat
        (s.writeDram (da + s.hdmaDone) bs).hdmaMoved c len bs.length

/-- The waiting push the arbiter takes next: the first in arrival order, but where PCIe and MSPI both wait the two
alternate (R273). -/
def State.nextStall (s : State) (n : Nat) : Option (Stall × Bool) :=
  match (s.fifo n).stalls with
  | [] => none
  | k :: t =>
    match t.find? fun m => k.req + m.req == 3 with
    | none => some (k, false)
    | some m => if k.req = (if (s.fifo n).turn then 1 else 2) then some (k, true) else some (m, true)

/-- What follows a push that waited: a word of HDMA counts as moved, an RDM record is written, a host push that found
space clears DROPPING (R268, R270, R281, Table 08-3). -/
def State.pushed (s : State) (n : Nat) (k : Stall) : State :=
  if k.prod = endHost then s.setBit (FIFO_STATUS_DROPPING.inst n) false
  else if k.prod = endHdma then
    match s.unitCtx hdmaUnit with
    | some c => s.hdmaMoved c (natBits ((s.unitParams hdmaUnit).getD 2 0) 0 32 / 8 * 8) (8 * k.words.length)
    | none => s
  else if n = 3 then
    let p := natBits (match k.words with | w :: _ => w.toNat | [] => 0) 8 4
    (s.rdmWritten p).responderWritten p k.words
  else s

/-- The stalls left when `k` has been taken: the next word behind it is presented after the others. -/
def Stall.leave (k : Stall) (l : List Stall) (now : Nat) : List Stall :=
  l.erase k ++ match k.behind with | w :: ws => [{ k with words := [w], behind := ws, since := now, full := false }] | [] => []

/-- A waiting push completes where it finds space (R268, R270, R273). -/
def State.completePush (s : State) (n : Nat) : State :=
  match s.nextStall n with
  | none => s
  | some (k, tie) =>
    if k.words.length ≤ s.fifoSpace n then
      ((((s.modFifo n fun x => { x with stalls := k.leave x.stalls s.time.mono, turn := x.turn != tie }).acceptWords n k.words).pushed n
        k)).noteFull n
    else s

/-- Whether a host push has stalled for PUSH_STALL_LIMIT (R270). -/
def State.stallOver (s : State) (n : Nat) (k : Stall) : Bool :=
  k.prod == endHost && k.full && decide (s.fifoSpace n = 0 ∧
    k.since + s.fld (FIFO_PUSH_STALL_LIMIT_US.inst n) * 1000 * unitsPerNs ≤ s.time.mono)

/-- A host push that has stalled for PUSH_STALL_LIMIT is discarded; the words behind it, which find no space while
DROPPING is set, are discarded with it (R270). -/
def State.expirePush (s : State) (n : Nat) : State :=
  match (s.fifo n).stalls.find? (s.stallOver n) with
  | none => s
  | some k =>
    let s1 := (s.modFifo n fun x => { x with stalls := x.stalls.erase k }).incFld (FIFO_PUSH_DROP_COUNT_COUNT.inst n) 1
    ((s1.setBit (FIFO_STATUS_DROPPING.inst n) true).raise (fifoPage n) 10 (s1.fld (FIFO_PUSH_DROP_COUNT_COUNT.inst n))).incFld
      (FIFO_PUSH_DROP_COUNT_COUNT.inst n) k.behind.length

/-! The event queue (R81, R91, R286). -/

/-- Whether a record is an anchor or a step anchor (R90, R106). -/
def RecReq.anchor (r : RecReq) : Bool := r.page == 2 && (r.code == 0x20 || r.code == 0x21)

/-- Whether R91 lets the event arbiter take a record before the others that wait. -/
def State.mayTake (s : State) (r : RecReq) : Bool :=
  s.recQ.all fun x => x == r ||
    (if r.anchor then !(x.rim && decide (x.at_ < r.at_)) else !(x.anchor && decide (x.at_ ≤ if r.rim then r.at_ else s.nowNs)))

/-- EVT_HELD follows the buffer. -/
def State.evtSync (s : State) : State := s.setFld (FIFO_EVT_HELD_RECORDS.inst 1) s.evtBuf.length

/-- The two words of a record with sequence number `seq` (R81). -/
def State.recWords (s : State) (r : RecReq) (seq : Nat) : DWord × DWord :=
  let at_ := if r.rim then r.at_ else s.nowNs
  (BitVec.ofNat 64 (seq + st32Of at_ * 2 ^ 32),
    BitVec.ofNat 64 (r.page + r.code * 2 ^ 10 + (r.arg + if r.forced then 2 ^ 41 else 0) * 2 ^ 22))

/-- One more command is executed (R285). -/
def State.executed (s : State) (c : CmdS) : State :=
  let s1 := ({ s with cmds := s.cmds.drop 1 }).setFld FIFO_LAST_EXECUTED_SEQ c.seq
  if c.doneRec then s1.recordOnly (fifoPage 0) 0x21 (c.seq + if c.failed then 2 ^ 32 else 0) else s1

/-- The command at the head of those accepted, if it has class `cls`. -/
def State.headCmd (s : State) (cls : Nat) : Option CmdS :=
  match s.cmds with | c :: _ => if c.cls = cls then some c else none | [] => none

/-- A MARK whose record the event arbiter takes is executed (R285). -/
def State.markTaken (s : State) (r : RecReq) : State :=
  match s.headCmd 3 with
  | some c => if c.made = 1 ∧ r.page = fifoPage 0 ∧ r.code = 0x20 then s.executed c else s
  | none => s

/-- The event arbiter numbers a record and holds or drops it (R81, R286). -/
def State.holdRecord (s : State) (r : RecReq) : State :=
  let seq := s.fld (FIFO_EVT_NEXT_SEQ_SEQ.inst 1)
  let s1 := s.incFld (FIFO_EVT_NEXT_SEQ_SEQ.inst 1) 1
  let w := s.recWords r seq
  let plain := (s.evtBuf.filter fun b => !b.2.2).length
  let spare := s.evtBuf.length - plain
  if plain < 64 then { s1 with evtBuf := s1.evtBuf ++ [(w.1, w.2, false)], evtDrop := false }.evtSync
  else if r.anchor ∧ spare < 8 then { s1 with evtBuf := s1.evtBuf ++ [(w.1, w.2, true)], evtDrop := false }.evtSync
  else
    let s2 := s1.incFld (FIFO_DEV_DROP_COUNT_COUNT.inst 1) 1
    if s.evtDrop then s2
    else ({ s2 with evtDrop := true }).raise (fifoPage 1) 11 (s2.fld (FIFO_DEV_DROP_COUNT_COUNT.inst 1))

/-- The event arbiter takes record `k` of those waiting, if R91 lets it (R81, R286). -/
def State.takeRecord (s : State) (k : Nat) : State :=
  match s.recQ[k]? with
  | none => s
  | some r =>
    if s.mayTake r then (({ s with recQ := s.recQ.eraseIdx k }).holdRecord r).markTaken r else s

/-- A record of FIFO `n`'s device producer finds no space: FULL is set once for its wait (R268, Table 08-3). -/
def State.devWaits (s : State) (n : Nat) : State :=
  if (s.fifo n).waiting then s else (s.modFifo n fun x => { x with waiting := true }).raise (fifoPage n) 9 endDevice

/-- A record of FIFO `n`'s device producer that waited has been taken. -/
def State.devTaken (s : State) (n : Nat) : State := s.modFifo n fun x => { x with waiting := false }

/-- A record waiting in the arbiter's buffer goes into FIFO1 (R286). -/
def State.pushRecord (s : State) : State :=
  match s.evtBuf with
  | [] => s
  | (a, b, _) :: t =>
    match s.devPush 1 [a, b] with
    | some s1 => ({ s1 with evtBuf := t }.evtSync).devTaken 1
    | none => s.devWaits 1

/-- A trace record goes into FIFO2 (R259). -/
def State.pushTrace (s : State) : State :=
  match s.sched.trace with
  | [] => s
  | (a, b) :: t =>
    match s.devPush 2 [a, b] with
    | some s1 => (s1.modSched fun x => { x with trace := t }).devTaken 2
    | none => s.devWaits 2

/-! The command unit (R282 to R285). -/

/-- Whether a word 0 names a record (R284): class, length and flags of Table 08-7. -/
def cmdWordOk (w : Nat) : Bool :=
  let cls := natBits w 32 8
  let len := natBits w 40 8
  decide (2 ≤ len ∧ len ≤ 8) && decide (cls ≤ 3) && (cls == 2 || len == 2) && natBits w 49 15 == 0

/-- Whether the word at place `i` of FIFO0 would be poisoned, and its content. -/
def State.peekAt (s : State) (n i : Nat) : DWord × Bool :=
  match (s.fifo n).words[i]? with
  | some (some w) => (w, false)
  | some none =>
    let a := s.ringAddr n ((s.rdPos n + i) % 2 ^ 32)
    (BitVec.ofNat 64 (s.dramWord a), s.dramErrAt a == 2 || (i == 0 && (s.headPoison n).isSome))
  | none => (0, false)

/-- A bad record word is stepped over (R284). -/
def State.badWord (s : State) : State :=
  let pos := s.rdPos 0
  ((s.popWord 0).2.2.incFld FIFO_CMD_BAD_WORDS_COUNT 1).raise (fifoPage 0) 16 pos

/-- The command unit examines FIFO0 until it has accepted a record or finds none whole (R282, R284). -/
def State.acceptCmd (s : State) (fuel : Nat) : State :=
  match fuel with
  | 0 => s
  | k + 1 =>
    let lev := s.fifoLevel 0
    if lev = 0 ∨ 4 ≤ s.cmds.length then s
    else
      let h := s.peekAt 0 0
      let w := h.1.toNat
      if h.2 ∨ ¬ cmdWordOk w then s.badWord.acceptCmd k
      else
        let len := natBits w 40 8
        if lev < len then s
        else if (List.range len).any fun i => (s.peekAt 0 i).2 then s.badWord.acceptCmd k
        else
          let q := natBits w 0 32
          let last := s.fld FIFO_LAST_ACCEPTED_SEQ
          let d := (q + 2 ^ 32 - last) % 2 ^ 32
          let r := s.popWords 0 len
          if d = 0 ∨ 2 ^ 31 ≤ d then (r.2.2.raise (fifoPage 0) 17 q).acceptCmd k
          else
            let s1 := if d = 1 then r.2.2 else r.2.2.raise (fifoPage 0) 18 ((last + 1) % 2 ^ 32)
            let c : CmdS := ⟨q, natBits w 32 8, r.1.drop 1, w.testBit 48, false, 0⟩
            let s2 := { s1 with cmds := s1.cmds ++ [c] }.setFld FIFO_LAST_ACCEPTED_SEQ q
            if c.cls = 0 ∧ s.cmds.isEmpty then s2.executed c else s2

/-- Number of the FIFO0 requester at the dispatch arbiter (Table 07-6). -/
def fifo0Req : Nat := 3

/-- A MARK makes its CMD_MARK record and is executed as the event arbiter takes it: at once where R91 lets it and
where the page records nothing (R285). -/
def State.execMark (s : State) (c : CmdS) : State :=
  let n := s.recQ.length
  let s1 := { s with cmds := { c with made := 1 } :: s.cmds.drop 1 }.recordOnly (fifoPage 0) 0x20 c.seq
  if s1.recQ.length = n then s1.executed c else s1.takeRecord n

/-! The meanings. -/

/-- HDMA_BURST (R281). -/
def execHdmaBurst (data : List DWord) (err : Bool) (s : State) : Host.Outcome State Fault Refusal := .next (s.hdmaStep data err)

/-- COMMAND_ACCEPT (R284). -/
def execCommandAccept (s : State) : Host.Outcome State Fault Refusal := .next (s.acceptCmd (s.fifoLevel 0 + 1))

/-- CMD_NOP (R282). -/
def execCmdNop (s : State) : Host.Outcome State Fault Refusal :=
  match s.headCmd 0 with | some c => .next (s.executed c) | none => .next s

/-- CMD_TASK (R282): the dispatch arbiter takes it as requester FIFO0. -/
def execCmdTask (together : List (Nat × Nat)) (s : State) : Host.Outcome State Fault Refusal :=
  match s.headCmd 1 with
  | some c =>
    let w := (c.words.getD 0 0).toNat
    .next ((s.taskCmd fifo0Req (natBits w 0 8) (natBits w 8 4) together).executed c)
  | none => .next s

/-- CMD_MARK (R285); a MARK whose record waits already is executed by EVENT_RECORD_TAKE. -/
def execCmdMark (s : State) : Host.Outcome State Fault Refusal :=
  match s.headCmd 3 with | some c => .next (if c.made = 1 then s else s.execMark c) | none => .next s

/-- EVENT_RECORD_TAKE (R81, R91). -/
def execEventRecordTake (k : Nat) (s : State) : Host.Outcome State Fault Refusal := .next (s.takeRecord k)

/-- EVENT_RECORD_PUSH (R286). -/
def execEventRecordPush (s : State) : Host.Outcome State Fault Refusal := .next s.pushRecord

/-- TRACE_RECORD_PUSH (R259). -/
def execTraceRecordPush (s : State) : Host.Outcome State Fault Refusal := .next s.pushTrace

end Sys2Proof.Machine
end

