-- ==== Sys2Proof/Machine/Sacn.lean ====
section
/-! DEFINITION. sACN (spec/10, R336 to R340): reception and merge, receive snapshots, transmit and keep-alive, and what becomes of a frame handed to a flow context (R322 to R324). -/

namespace Sys2Proof.Machine

open Sys2Proof

/-- The pages of the sACN unit and of the flow contexts. -/
def sacnPage : Nat := 0x70
def flowPage : Nat := 0x58

/-- `s` with the sACN unit changed by `f`. -/
def State.modSacn (s : State) (f : SacnS → SacnS) : State := { s with sacn := f s.sacn }

/-- Context types (Table 10-1). -/
def ftVideoRx : Nat := 1
def ftSacnRx : Nat := 2
def ftVideoTx : Nat := 3
def ftSacnTx : Nat := 4
def ftPtp : Nat := 5

/-- A context's type, first universe and number of universes in force. -/
def State.flowType (s : State) (c : Nat) : Nat := s.act (FLOW_FLOW_CFG_TYPE.nth c)
def State.flowFirst (s : State) (c : Nat) : Nat := s.act (FLOW_FLOW_ARG_UNIV_FIRST.nth c)
def State.flowCount (s : State) (c : Nat) : Nat := s.act (FLOW_FLOW_CFG_UNIV_COUNT_M1.nth c) + 1

/-- The universes received, in the order of their set: by context, then by universe (R338). -/
def State.rxUnivs (s : State) : List Nat :=
  (List.range 256).flatMap fun c => if s.flowType c = ftSacnRx then (List.range (s.flowCount c)).map fun j => s.flowFirst c + j else []

/-- A universe of the merge. -/
def State.univ (s : State) (u : Nat) : SacnUniv := mapGet (fun _ => SacnUniv.idle) s.sacn.univs u

/-- `s` with a universe replaced. -/
def State.setUniv (s : State) (u : Nat) (x : SacnUniv) : State :=
  s.modSacn fun y => { y with univs := mapSet (fun _ => SacnUniv.idle) y.univs u x }

/-! Reception (R336, R337). -/

/-- The packet identifier of ACN. -/
def acnId : List Byte := [0x41, 0x53, 0x43, 0x2D, 0x45, 0x31, 0x2E, 0x31, 0x37, 0, 0, 0]

/-- The largest priority among sources. -/
def topPrio (l : List SacnSrc) : Nat := l.foldl (fun m x => max m x.prio) 0

/-- The merged value of a universe: values and number of slots (R337). -/
def mergeUniv (ltp : Bool) (l : List SacnSrc) : List Byte × Nat :=
  let top := l.filter fun x => x.prio == topPrio l
  if ltp then
    match top.foldl (fun (m : Option SacnSrc) x => match m with | none => some x | some y => if y.order < x.order then some x else m) none with
    | some x => (x.slots ++ List.replicate (512 - x.slots.length) 0, x.slots.length)
    | none => (List.replicate 512 0, 0)
  else
    ((List.range 512).map fun i => top.foldl (fun (m : Byte) x => let v := x.slots.getD i 0; if m.toNat < v.toNat then v else m) 0,
      top.foldl (fun m x => max m x.slots.length) 0)

/-- A universe takes its merged value from its sources; with none left, LOSS decides (R337). -/
def State.remerge (s : State) (u : Nat) (x : SacnUniv) : State :=
  if x.srcs.isEmpty then
    let m := if s.bit SACN_RX_CFG_LOSS then List.replicate 512 0 else x.merged
    (s.setUniv u { x with merged := m }).raise sacnPage 8 u
  else
    let m := mergeUniv (s.bit SACN_RX_CFG_MERGE) x.srcs
    s.setUniv u { x with merged := m.1, slots := m.2, prio := some (topPrio x.srcs) }

/-- RX_CFG is written: every universe with a source has the value its MERGE gives (R337). -/
def State.writeRxCfg (s : State) (v : Word) : State :=
  let t := s.storeReg sacnPage 0x09C v
  t.modSacn fun y => { y with univs := y.univs.map fun q =>
    if q.2.srcs.isEmpty then q
    else
      let m := mergeUniv (t.bit SACN_RX_CFG_MERGE) q.2.srcs
      (q.1, { q.2 with merged := m.1, slots := m.2 }) }

/-- The lowest tracked source, the oldest where several tie (R337). -/
def lowestSrc (l : List SacnSrc) : Option SacnSrc :=
  l.foldl (fun (m : Option SacnSrc) x => match m with | none => some x | some y => if x.prio < y.prio then some x else m) none

/-- A source's data packet is taken into its universe (R336, R337). -/
def State.mergePacket (s : State) (u : Nat) (cid : List Byte) (prio seq : Nat) (slots : List Byte) (term : Bool) : State :=
  let x := s.univ u
  let src : SacnSrc := ⟨cid, prio, seq, slots, s.sacn.count, s.time.mono⟩
  match x.srcs.find? fun y => y.cid == cid with
  | some y =>
    let d := natSigned 8 ((seq + 256 - y.seq) % 256)
    if d ≤ 0 ∧ -20 < d then s.incFld SACN_RX_SEQ_DROP_COUNT 1
    else
      let s1 := (s.incFld SACN_RX_PKTS_COUNT 1).modSacn fun z => { z with count := z.count + 1 }
      if term then s1.remerge u { x with srcs := x.srcs.filter (fun z => z.cid != cid), last := some s.st32 }
      else s1.remerge u { x with srcs := x.srcs.map (fun z => if z.cid = cid then src else z), last := some s.st32 }
  | none =>
    if term then s.incFld SACN_RX_PKTS_COUNT 1
    else
      let s1 := (s.incFld SACN_RX_PKTS_COUNT 1).modSacn fun z => { z with count := z.count + 1 }
      let join (l : List SacnSrc) : State :=
        (s1.remerge u { x with srcs := l ++ [src], last := some s.st32 }).raise sacnPage 9 (u + prio * 2 ^ 16)
      if x.srcs.length < 4 then join x.srcs
      else
        match lowestSrc x.srcs with
        | some y => if y.prio < prio then join (x.srcs.filter fun z => z.cid != y.cid)
            else (s.incFld SACN_SRC_FULL_COUNT 1).raise sacnPage 10 u
        | none => s

/-- The checks of R336 on a UDP payload for context `c`: taken, bad or other. -/
def State.takeSacn (s : State) (c : Nat) (b : List Byte) : State :=
  let root := beField b 18 4
  let frame := beField b 40 4
  let opts := beField b 112 1
  let u := beField b 113 2
  let n := beField b 123 2
  let good := (b.drop 4).take 12 == acnId && root == 4 && frame == 2 && beField b 117 1 == 2 && beField b 118 1 == 0xA1 &&
    beField b 119 2 == 0 && beField b 121 2 == 1 && decide (1 ≤ n ∧ n ≤ 513 ∧ 125 + n ≤ b.length) &&
    decide (s.flowFirst c ≤ u ∧ u < s.flowFirst c + s.flowCount c)
  if (root = 8) ∨ (good ∧ (opts.testBit 7 ∨ beField b 125 1 ≠ 0)) then s.incFld SACN_RX_OTHER_COUNT 1
  else if ¬ good then s.incFld SACN_RX_BAD_COUNT 1
  else s.mergePacket u ((b.drop 22).take 16) (beField b 108 1) (beField b 111 1) ((b.drop 126).take (n - 1)) (opts.testBit 6)

/-- Whether packets of this tick belong to the next snapshot: one is being written, or the transit of this
tick has come (R338). -/
def State.snapHolds (s : State) (snap : Option Nat) : Bool :=
  snap.isSome || (match s.time.nextTransit with | some (_, t) => decide (t ≤ s.time.now) | none => false)

/-- A packet handed to an SACN_RX context (R324, R336, R338). -/
def State.sacnFrame (s : State) (c : Nat) (i : RxInfo) : State :=
  if i.trunc ∨ ¬ isUdp i.bytes then s.incFld SACN_RX_BAD_COUNT 1
  else if s.snapHolds s.sacn.snap then s.modSacn fun z => { z with held := z.held ++ [(c, udpPayload i.bytes)] }
  else s.takeSacn c (udpPayload i.bytes)

/-! Flow contexts (R322, R324). -/

/-- A frame no unit takes (R322). -/
def State.strayFrame (s : State) (c p : Nat) : State :=
  (s.incFld FLOW_STRAY_COUNT_COUNT 1).raise flowPage 8 (c + p * 2 ^ 8)

/-- What becomes of a frame of port `p` handed to its flow context. -/
def State.flowFrame (p : Nat) (i : RxInfo) (s : State) : State :=
  let c := i.flow
  let taken := s.incFld (FLOW_FLOW_PKTS_COUNT.nth c) 1
  let unit := s.act (FLOW_FLOW_CFG_UNIT.nth c)
  if s.flowType c = ftVideoRx then taken.ingestFrame unit i
  else if s.flowType c = ftSacnRx then taken.sacnFrame c i
  else if s.flowType c = ftPtp ∧ s.act ((NET_RXQ_CFG_CONSUMER.inst p).nth unit) = 0 then taken.ringRx p { i with queue := unit }
  else s.strayFrame c p

/-- Whether two ranges of universes overlap. -/
def rangesMeet (a n b m : Nat) : Bool := decide (a < b + m ∧ b < a + n)

/-- REASON a commit of the FLOW page is refused with; 0 for none (R323, Table 10-2). -/
def State.flowCommit (s : State) : Nat :=
  let f (x : Fld) (c : Nat) : Nat := s.fld (x.nth c)
  let ty (c : Nat) : Nat := f FLOW_FLOW_CFG_TYPE c
  let first (c : Nat) : Nat := f FLOW_FLOW_ARG_UNIV_FIRST c
  let n (c : Nat) : Nat := f FLOW_FLOW_CFG_UNIV_COUNT_M1 c + 1
  let cs := List.range 256
  let of (t : Nat) : List Nat := cs.filter fun c => ty c == t
  let pairs (t : Nat) (bad : Nat → Nat → Bool) : Bool := (of t).any fun a => (of t).any fun b => decide (a < b) && bad a b
  let unitMeet (a b : Nat) : Bool := f FLOW_FLOW_CFG_UNIT a == f FLOW_FLOW_CFG_UNIT b
  let univMeet (a b : Nat) : Bool := rangesMeet (first a) (n a) (first b) (n b)
  let ports (c : Nat) : List Nat := let p := f FLOW_FLOW_CFG_PORT c; if f FLOW_FLOW_CFG_PAIR c = 1 then [p, p + 1] else [p]
  let portMeet (a b : Nat) : Bool := (ports a).any fun x => (ports b).contains x
  let univ (c : Nat) : Bool := ty c == ftSacnRx || ty c == ftSacnTx
  let total (t : Nat) : Nat := ((of t).map n).sum
  if cs.any (fun c => decide (5 < ty c ∨ 200 < f FLOW_FLOW_CFG_PRIO c)) ∨ pairs ftVideoRx unitMeet ∨ pairs ftVideoTx unitMeet ∨
      cs.any (fun c => univ c && (first c == 0 || decide (63999 < first c + n c - 1))) ∨ pairs ftSacnRx univMeet ∨
      pairs ftSacnTx (fun a b => portMeet a b && univMeet a b) ∨ 1024 < total ftSacnRx ∨ 4096 < total ftSacnTx ∨
      cs.any (fun c => f FLOW_FLOW_CFG_PAIR c == 1 && f FLOW_FLOW_CFG_PORT c % 2 == 1) then 3
  else 0

/-! Transmit (R339, R340). -/

/-- Bytes of words, least significant byte of the first word first. -/
def State.regBytes (s : State) (f : Fld) (n : Nat) : List Byte := (List.range n).flatMap fun i => valBytes 4 (s.fld (f.nth i))

/-- An E1.31 data packet (R339, ANSI E1.31). -/
def State.e131 (s : State) (t : SacnTx) (seq : Nat) : List Byte :=
  valBytesBE 2 0x10 ++ valBytesBE 2 0 ++ acnId ++ valBytesBE 2 (0x7000 + 622) ++ valBytesBE 4 4 ++ s.regBytes SACN_CID_CID 4 ++
    valBytesBE 2 (0x7000 + 600) ++ valBytesBE 4 2 ++ s.regBytes SACN_NAME_NAME 16 ++ [BitVec.ofNat 8 t.prio] ++ valBytesBE 2 0 ++
    [BitVec.ofNat 8 seq, if t.term then 0x40 else 0] ++ valBytesBE 2 t.univ ++
    valBytesBE 2 (0x7000 + 523) ++ [2, 0xA1] ++ valBytesBE 2 0 ++ valBytesBE 2 1 ++ valBytesBE 2 513 ++ [0] ++ t.slots

/-- The frame of a packet on a port; the identification of its IPv4 header is a free value (log entry 25). -/
def State.sacnEther (s : State) (p : Nat) (t : SacnTx) (pay : List Byte) : List Byte :=
  let f (x : Fld) : Nat := s.fld x
  let tag := if s.bit SACN_TX_CFG_VLAN_EN then valBytesBE 2 0x8100 ++ valBytesBE 2 (f SACN_TX_CFG_PCP * 8192 + f SACN_TX_CFG_VID) else []
  let mac := valBytesBE 2 (s.fld (NET_MAC_ADDR_HI_ADDR.inst p)) ++ valBytesBE 4 (s.fld (NET_MAC_ADDR_LO_ADDR.inst p))
  let dst : List Byte := [239, 255, BitVec.ofNat 8 (t.univ / 256), BitVec.ofNat 8 t.univ]
  let ip0 : List Byte := [0x45, BitVec.ofNat 8 (f SACN_TX_CFG_DSCP * 4)] ++ valBytesBE 2 (28 + pay.length) ++ valBytesBE 2 s.freeVal ++
    valBytesBE 2 0 ++ [BitVec.ofNat 8 (f SACN_TX_CFG_TTL), 17] ++ valBytesBE 2 0 ++ valBytesBE 4 (s.fld (NET_IPV4_ADDR_ADDR.inst p)) ++ dst
  let ip := putBytes ip0 10 (valBytesBE 2 (inetSum ip0))
  let udp := valBytesBE 2 5568 ++ valBytesBE 2 5568 ++ valBytesBE 2 (8 + pay.length) ++ valBytesBE 2 0
  let eth : List Byte := [0x01, 0x00, 0x5E, 0x7F, BitVec.ofNat 8 (t.univ / 256), BitVec.ofNat 8 t.univ] ++ mac ++ tag ++ valBytesBE 2 0x0800
  let b := eth ++ ip ++ udp ++ pay
  putBytes b (eth.length + 26) (valBytesBE 2 (udpSum b eth.length (eth.length + 20)))

/-- The last packet of a context's universe with its instant. -/
def State.sacnLast (s : State) (ctx univ : Nat) : Option (Nat × SacnTx) :=
  match s.sacn.last.find? fun r => r.1 == ctx * 65536 + univ with
  | some r => some (r.2.1, r.2.2)
  | none => none

/-- A packet of a universe is sent on its port or pair with the next sequence number (R339). -/
def State.sacnSend (s : State) (t : SacnTx) : State :=
  let seq := mapGet (fun _ => 0) s.sacn.seq t.univ
  let pay := s.e131 t seq
  let leg (u : State) (p : Nat) : State := (u.handFrame p 3 0 (u.sacnEther p t pay)).takeFree
  let s1 := leg s t.port
  let s2 := if t.pair then leg s1 (t.port + 1) else s1
  let s3 := (s2.incFld SACN_TX_PKTS_COUNT 1).incFld (FLOW_FLOW_PKTS_COUNT.nth t.ctx) 1
  s3.modSacn fun z => { z with
    seq := mapSet (fun _ => 0) z.seq t.univ ((seq + 1) % 256)
    last := (z.last.filter fun r => r.1 != t.ctx * 65536 + t.univ) ++ [(t.ctx * 65536 + t.univ, s.time.mono, t)] }

/-- The fetch of an entry of the sACN page (R339): the slots of each universe of its context. -/
def State.sacnFetch (s : State) (f : FrameRun) (e : EmitEnt) (ready : Bool) : State :=
  let c := natBits e.arg 0 8
  if ¬ ready ∨ s.flowType c ≠ ftSacnTx then s
  else
    let r := (List.range (s.flowCount c)).foldl (fun (q : List (List Byte) × State) j =>
      let x := if e.arg.testBit 8 then q.2.patchSlots f e false (s.flowFirst c + j) else q.2.sourceBytes f e (512 * j) 512
      (q.1 ++ [x.1], x.2)) ([], s)
    (if e.baseSel = 9 then r.2.takeFree else r.2).modSacn fun z => { z with fetched := z.fetched ++ [(f.n, c, r.1)] }

/-- The launch of an entry of the sACN page at span-clock instant `at_` (R339). -/
def State.sacnLaunch (s : State) (frame : Nat) (e : EmitEnt) (at_ : Nat) : State :=
  let c := natBits e.arg 0 8
  match s.sacn.fetched.find? fun r => r.1 == frame && r.2.1 == c with
  | none => s
  | some r =>
    let l := (r.2.2.zip (List.range r.2.2.length)).map fun q =>
      (⟨at_ + q.2 * s.fld SACN_SPACING_NS_NS * unitsPerNs, c, s.flowFirst c + q.2, q.1, false, s.act (FLOW_FLOW_CFG_PRIO.nth c),
        s.act (FLOW_FLOW_CFG_PORT.nth c), s.act (FLOW_FLOW_CFG_PAIR.nth c) == 1⟩ : SacnTx)
    s.modSacn fun z => { z with
      fetched := z.fetched.filter fun x => !(decide (x.1 ≤ frame) && x.2.1 == c)
      queue := z.queue ++ l }

/-- SACN_TX_PACKET (R339, R340): the packet due first is handed to its port. -/
def execSacnTxPacket (s : State) : Host.Outcome State Fault Refusal :=
  match s.sacn.queue.foldl (fun (m : Option SacnTx) x => match m with | none => some x | some y => if x.due < y.due then some x else m) none with
  | some t =>
    if t.due ≤ s.time.mono then
      let s1 := (s.modSacn fun z => { z with queue := z.queue.erase t }).sacnSend t
      .next (if t.term then s1.incFld SACN_TX_TERMINATED_COUNT 1 else s1)
    else .next s
  | none => .next s

/-- SACN_KEEPALIVE (R340): universe `j` of context `ctx` has been silent for KEEPALIVE_MS. -/
def execSacnKeepalive (ctx j : Nat) (s : State) : Host.Outcome State Fault Refusal :=
  let ms := s.fld SACN_KEEPALIVE_MS_MS
  match s.sacnLast ctx (s.flowFirst ctx + j) with
  | some (at_, t) =>
    .next (if ms ≠ 0 ∧ s.flowType ctx = ftSacnTx ∧ j < s.flowCount ctx ∧ ¬ t.term ∧ at_ + ms * 1000000 * unitsPerNs ≤ s.time.mono then
      (s.sacnSend t).incFld SACN_TX_KEEPALIVE_COUNT 1 else s)
  | none => .next s

/-- SACN_SOURCE_TIMEOUT (R337): LOSS_MS has passed with no packet from a source. -/
def execSacnSourceTimeout (univ : Nat) (cid : List Byte) (s : State) : Host.Outcome State Fault Refusal :=
  let x := s.univ univ
  match x.srcs.find? fun y => y.cid == cid with
  | some y =>
    .next (if y.at_ + s.fld SACN_RX_CFG_LOSS_MS * 1000000 * unitsPerNs ≤ s.time.mono then
      s.remerge univ { x with srcs := x.srcs.filter fun z => z.cid != cid } else s)
  | none => .next s

/-! Receive snapshots (R338). -/

/-- The status row behind a universe's slots: the fields no packet has given are free values (log entry 25). -/
def State.statusRow (s : State) (slots : Nat) (srcs prio last : Option Nat) : List Byte × State :=
  let pick (t : State) (v : Option Nat) : Nat × State := match v with | some n => (n, t) | none => (t.freeVal, t.takeFree)
  let a := pick s srcs
  let b := pick a.2 prio
  let c := pick b.2 last
  (valBytes 2 slots ++ valBytes 1 a.1 ++ valBytes 1 b.1 ++ valBytes 4 c.1 ++ List.replicate 56 0, c.2)

/-- 576 bytes of a set are written where they lie in usable DRAM; the unused rest of the status row is kept. -/
def State.writeSet (s : State) (a : Nat) (slots : List Byte) (row : List Byte) : State :=
  let s1 := if s.inDram a 512 then s.writeDram a slots else s
  if s1.inDram (a + 512) 8 then s1.writeDram (a + 512) (row.take 8) else s1

/-- The sACN set for plan frame `m`; the slots of a universe no packet has reached are free bytes (log entry 25). -/
def State.writeSacnSet (s : State) (m : Nat) : State :=
  let us := s.rxUnivs
  let base := s.pair SACN_RX_BASE_LO_ADDR SACN_RX_BASE_HI_ADDR / 64 * 64 + m % 2 * (576 * us.length)
  (us.zip (List.range us.length)).foldl (fun t q =>
    let x := t.univ q.1
    let r := t.statusRow x.slots (some x.srcs.length) (if x.srcs.isEmpty then none else x.prio) x.last
    if x.last.isSome then r.2.writeSet (base + 576 * q.2) x.merged r.1
    else r.2.takeFree.writeSet (base + 576 * q.2) (valBytes 512 r.2.freeVal) r.1) s

/-- The end of the sACN snapshot write: held packets are applied. -/
def State.sacnSnapDone (s : State) : State :=
  match s.sacn.snap with
  | none => s
  | some m =>
    let s1 := s.writeSacnSet m
    let s2 := s1.modSacn fun z => { z with snap := none, held := [] }
    s.sacn.held.foldl (fun t h => t.takeSacn h.1 h.2) s2

/-- A transit gives each receiving unit the plan frame its next snapshot is for (R338). -/
def State.sacnSnapshot (s : State) (m : Nat) : State :=
  if s.rxUnivs.isEmpty then s else s.modSacn fun z => { z with snap := some m }

/-! Commits of the FLOW page (R323, R340). -/

/-- The universes context `c` sends. -/
def State.txUnivs (s : State) (c : Nat) : List Nat :=
  if s.flowType c = ftSacnTx then (List.range (s.flowCount c)).map fun j => s.flowFirst c + j else []

/-- A commit of the FLOW page has come into force; `before` is the state before it: universes that leave
a transmit context are terminated, those received no more are forgotten. -/
def State.flowTaken (s before : State) : State :=
  let gap := s.fld SACN_SPACING_NS_NS * unitsPerNs
  let gone := (List.range 256).flatMap fun c => ((before.txUnivs c).filter fun u => !(s.txUnivs c).contains u).map fun u => (c, u)
  let packets := gone.flatMap fun q =>
    let slots := match before.sacnLast q.1 q.2 with | some (_, t) => t.slots | none => List.replicate 512 (BitVec.ofNat 8 s.freeVal)
    (List.range 3).map fun i =>
      (⟨s.time.mono + i * gap, q.1, q.2, slots, true, before.act (FLOW_FLOW_CFG_PRIO.nth q.1), before.act (FLOW_FLOW_CFG_PORT.nth q.1),
        before.act (FLOW_FLOW_CFG_PAIR.nth q.1) == 1⟩ : SacnTx)
  let rx := s.rxUnivs
  let s1 := if packets.isEmpty then s else s.takeFree
  (s1.modSacn fun z => { z with
    univs := z.univs.filter fun q => rx.contains q.1
    queue := (z.queue.filter fun t => t.term || !(gone.contains (t.ctx, t.univ))) ++ packets }).setFld SACN_RX_SET_BYTES_BYTES (576 * rx.length)

end Sys2Proof.Machine
end

