-- ==== Sys2Proof/Machine/Dmx.lean ====
section
/-! DEFINITION. DMX512-A and RDM (spec/10, R341 to R349): launches, reception, the RDM controller and responder, and the meanings of their commands. -/

namespace Sys2Proof.Machine

open Sys2Proof

/-! RDM messages (ANSI E1.20). -/

/-- The 16-bit sum of bytes as a message carries it. -/
def rdmSum (bs : List Byte) : List Byte := valBytesBE 2 ((bs.map fun b => b.toNat).sum)

/-- The UID of a port. -/
def State.dmxUid (s : State) (n : Nat) : Nat := s.act (DMX_UID_HI_UID.inst n) * 2 ^ 32 + s.act (DMX_UID_LO_UID.inst n)

/-- A message without its checksum: destination, source, transaction number, port or response type, message
count, sub-device, command class, PID, data. -/
def rdmMessage (dst src tn kind count sub cls pid : Nat) (data : List Byte) : List Byte :=
  [0xCC, 0x01, BitVec.ofNat 8 (24 + data.length)] ++ valBytesBE 6 dst ++ valBytesBE 6 src ++
    [BitVec.ofNat 8 tn, BitVec.ofNat 8 kind, BitVec.ofNat 8 count] ++ valBytesBE 2 sub ++ [BitVec.ofNat 8 cls] ++ valBytesBE 2 pid ++
    [BitVec.ofNat 8 data.length] ++ data

/-- The request of a discovery unique branch (R348); the port identifier is a free value (log entry 25). -/
def State.dubRequest (s : State) (n lower upper : Nat) : List Byte :=
  rdmMessage (2 ^ 48 - 1) (s.dmxUid n) (s.dmx n).tn s.freeVal 0 0 0x10 1 (valBytesBE 6 lower ++ valBytesBE 6 upper)

/-! Records (Table 10-11). -/

/-- Outcomes. -/
def roOk : Nat := 0
def roNoResponse : Nat := 1
def roChecksum : Nat := 2
def roFraming : Nat := 3
def roCut : Nat := 4
def roDubUid : Nat := 5
def roDubCollision : Nat := 6
def roBroadcast : Nat := 7
def roRequestIn : Nat := 8
def roQmsgSent : Nat := 9

/-- 64-bit words of bytes, the first byte least significant. -/
def wordsOf (bs : List Byte) : List DWord :=
  (List.range ((bs.length + 7) / 8)).map fun i => BitVec.ofNat 64 (bytesVal ((bs.drop (8 * i)).take 8))

/-- A record for FIFO3. -/
def rdmRecord (ctx port outcome st32 : Nat) (bs : List Byte) : List DWord :=
  BitVec.ofNat 64 (ctx + port * 2 ^ 8 + outcome * 2 ^ 12 + bs.length % 512 * 2 ^ 16 + st32 % 2 ^ 32 * 2 ^ 32) :: wordsOf bs

/-- A record goes to FIFO3; the task, if there is one to end, ends with its write (Table 08-3). -/
def State.rdmPush (s : State) (n : Nat) (ws : List DWord) (fin : Option (Nat × Bool)) : State :=
  match s.devPush 3 ws with
  | some t => (match fin with | some (r, f) => t.rdmReport n r f | none => t).responderWritten n ws
  | none => (s.modDmx n fun x => { x with ending := if fin.isSome then fin else x.ending }).waitPush 3 endDevice 0 ws []

/-- A transaction ends (R346): its record, its outcome, the line idle from now on. -/
def State.rdmEnd (s : State) (n : Nat) (r : RdmRun) (outcome st32 : Nat) (bs : List Byte) : State :=
  let fault := !(outcome == roOk || outcome == roNoResponse || outcome == roDubUid || outcome == roBroadcast)
  let s1 := ((s.modDmx n fun x => { x with rdm := none, idleAt := s.time.mono }).setBit (DMX_STATUS_RDM_ACTIVE.inst n) false)
  let s2 := if fault then s1.rdmFailed n r.ctx outcome else s1
  s2.rdmPush n (rdmRecord r.ctx n outcome st32 bs) (some (outcome, fault))

/-! Launches (R342). -/

/-- Slots of a packet: its start code, then its data slots. -/
def State.dmxSend (s : State) (n : Nat) (slots : List Byte) : State :=
  let us := s.dmxPacketUs n (slots.length - 1)
  let s1 := (s.modDmx n fun x => { x with busyEnd := s.time.mono + usUnits us, last := some slots, fetched := none }).setBit
    (DMX_STATUS_LINE_BUSY.inst n) true
  (s1.incFld (DMX_TX_PACKETS_COUNT.inst n) 1).emit (.dmx n slots)

/-- The fetch of an entry of a DMX page (R342, R352). -/
def State.dmxFetch (s : State) (n : Nat) (f : FrameRun) (e : EmitEnt) (ready : Bool) : State :=
  let k := natBits e.arg 0 10
  if ¬ ready ∨ s.dmxRole n ≠ drController ∨ ¬ s.dmxTurn n (f.plan.emitTransit f.n) then s
  else
    let r := if e.arg.testBit 10 then s.patchSlots f e true n else s.sourceBytes f e 0 k
    (if e.baseSel = 9 then r.2.takeFree else r.2).modDmx n fun x => { x with
      fetched := some (f.n, BitVec.ofNat 8 (s.act (DMX_TX_CFG_START_CODE.inst n)) :: r.1.take k) }

/-- The launch of an entry of a DMX page for plan frame `f` (R342, R346); `cut` is what a response still
coming in has given. -/
def State.dmxLaunch (s : State) (n : Nat) (f : FrameRun) (cut : RdmIn) : State :=
  if s.dmxRole n ≠ drController ∨ ¬ s.dmxTurn n (f.plan.emitTransit f.n) then s
  else if s.time.mono < (s.dmx n).busyEnd then
    (s.incFld (DMX_SKIP_BUSY_COUNT.inst n) 1).raise (dmxPage n) 8 (lo32 f.n)
  else
    let s1 := match (s.dmx n).rdm with | some r => s.rdmEnd n r roCut cut.st32 cut.bytes | none => s
    match (s1.dmx n).fetched, (s1.dmx n).last with
    | some (m, l), last => if m = f.n then s1.dmxSend n l else (match last with | some o => s1.dmxSend n o | none => s1)
    | none, some o => s1.dmxSend n o
    | none, none => s1

/-- DMX_PACKET_END (R342, R346): the last slot of the packet or request on the line ends. -/
def execDmxPacketEnd (n : Nat) (s : State) : Host.Outcome State Fault Refusal :=
  let x := s.dmx n
  if s.bit (DMX_STATUS_LINE_BUSY.inst n) ∧ x.busyEnd ≤ s.time.mono then
    let s1 := (s.setBit (DMX_STATUS_LINE_BUSY.inst n) false).modDmx n fun y => { y with idleAt := s.time.mono }
    match x.rdm with
    | some r =>
      if r.sending then
        let s2 := s1.modDmx n fun y => { y with rdm := some { r with sending := false } }
        .next (if r.kind = rkBroadcast then s2.rdmEnd n r roBroadcast s.st32 [] else s2)
      else .next s1
    | none => .next s1
  else .next s

/-! Reception (R343). -/

/-- A packet is the last accepted. -/
def State.dmxAccept (s : State) (n : Nat) (slots : List Byte) (st : Nat) : State :=
  s.modDmx n fun x => { x with rx := some (slots, st) }

/-- DMX_RX_PACKET (R343). -/
def execDmxRxPacket (n : Nat) (packet : DmxIn) (s : State) : Host.Outcome State Fault Refusal :=
  let role := s.dmxRole n
  if n < 16 ∧ (role = drInput ∨ role = drResponder) then
    if packet.start = 0xCC ∧ role = drResponder then .next s
    else if packet.start % 256 ≠ 0 then .next (s.incFld (DMX_RX_OTHER_COUNT.inst n) 1)
    else if packet.breakUs < 88 ∨ packet.mabUs < 8 ∨ ¬ packet.framed ∨ 512 < packet.slots.length then
      .next (s.incFld (DMX_RX_BAD_COUNT.inst n) 1)
    else
      let s1 := ((s.incFld (DMX_RX_PACKETS_COUNT.inst n) 1).setBit (DMX_STATUS_RX_VALID.inst n) true).modDmx n fun x => { x with rxAt := s.time.mono }
      .next (if s.snapHolds (s.dmx n).snap then s1.modDmx n fun x => { x with held := some (packet.slots, s.st32) }
        else s1.dmxAccept n packet.slots s.st32)
  else .next s

/-- DMX_RX_TIMEOUT (R343): 1 s with no accepted packet. -/
def execDmxRxTimeout (n : Nat) (s : State) : Host.Outcome State Fault Refusal :=
  .next (if s.bit (DMX_STATUS_RX_VALID.inst n) ∧ (s.dmx n).rxAt + usUnits 1000000 ≤ s.time.mono then
    (s.setBit (DMX_STATUS_RX_VALID.inst n) false).raise (dmxPage n) 12 0 else s)

/-- A transit gives a receiving port the plan frame its next snapshot is for (R338, R343). -/
def State.dmxSnapshot (s : State) (n m : Nat) : State :=
  if s.dmxRole n = drInput ∨ s.dmxRole n = drResponder then s.modDmx n fun x => { x with snap := some m } else s

/-- The end of a port's snapshot write (R338, R343); slots the packet did not hold are free bytes (log entry 25). -/
def State.dmxSnapDone (s : State) (n : Nat) : State :=
  match (s.dmx n).snap with
  | none => s
  | some m =>
    let a := s.actPair (DMX_RX_BASE_LO_ADDR.inst n) (DMX_RX_BASE_HI_ADDR.inst n) / 64 * 64 + m % 2 * 576
    let x := (s.dmx n).rx.getD ([], 0)
    let slots := x.1 ++ valBytes (512 - x.1.length) s.freeVal
    let r := s.takeFree.statusRow x.1.length none none (if (s.dmx n).rx.isSome then some x.2 else none)
    let s1 := (r.2.writeSet a slots r.1).modDmx n fun y => { y with snap := none, held := none }
    match (s.dmx n).held with | some (l, st) => s1.dmxAccept n l st | none => s1

/-- SNAPSHOT_WRITE_DONE (R338): units 0 to 15 are the DMX ports, 16 the sACN merge. -/
def execSnapshotWriteDone (unit : Nat) (s : State) : Host.Outcome State Fault Refusal :=
  .next (if unit < 16 then s.dmxSnapDone unit else if unit = 16 then s.sacnSnapDone else s)

/-! The RDM controller (R344 to R348). -/

/-- The request of a port's task: its bytes with the checksum; none where the descriptor or the request
breaks Table 10-10. -/
def State.rdmRequest (s : State) (n kind : Nat) (p : List Nat) : Option (List Byte) × State :=
  let w2 := p.getD 0 0
  let w3 := p.getD 1 0
  let w4 := p.getD 2 0
  let rest := p.getD 3 0 = 0 ∧ p.getD 4 0 = 0
  if kind = rkDub then
    let m := s.dubRequest n (natBits w3 0 48) (natBits w4 0 48)
    (if w2 = 0 ∧ natBits w3 48 16 = 0 ∧ natBits w4 48 16 = 0 ∧ rest then some (m ++ rdmSum m) else none, s.takeFree)
  else
    let len := w3
    if natBits w2 40 24 = 0 ∧ 24 ≤ len ∧ len ≤ 255 ∧ w4 = 0 ∧ rest ∧ s.inDram w2 len then
      let r := s.readDram w2 len
      (if beField r.1 2 1 = len then some (r.1 ++ rdmSum r.1) else none, r.2.2)
    else (none, s)

/-- Whether the gap arbiter may start a request now (R345). -/
def State.rdmGapOk (s : State) (n kind : Nat) (p : List Nat) : Bool :=
  let x := s.dmx n
  decide (x.busyEnd ≤ s.time.mono ∧ x.idleAt + usUnits 176 ≤ s.time.mono) && x.rdm.isNone && x.ending.isNone &&
    match s.dmxNext n with
    | some t => decide (s.time.now + usUnits (s.rdmNeedUs n kind (rdmLen p kind)) ≤ t)
    | none => true

/-- RDM_REQUEST_START (R345): the request break of the port's task starts, its commit point. A request that
breaks Table 10-10 is not sent: its task ends FAULTED with a free RESULT (log entry 25). -/
def execRdmRequestStart (n : Nat) (s : State) : Host.Outcome State Fault Refusal :=
  match s.unitCtx (dmxUnit n) with
  | none => .next s
  | some c =>
    let kind := natBits (s.ctx c).w1 0 2
    let p := s.unitParams (dmxUnit n)
    if s.dmxRole n = drController ∧ ¬ s.sched.commit.contains (dmxUnit n) ∧ s.rdmGapOk n kind p then
      let r := s.rdmRequest n kind p
      match r.1 with
      | none => .next (((r.2.takeFree).rdmFailed n c (r.2.freeVal % 16)).rdmReport n (r.2.freeVal % 65536) true)
      | some m =>
        let e := s.time.mono + usUnits (s.rdmReqUs n (m.length - 2))
        let s1 := (r.2.modSched fun x => { x with commit := x.commit ++ [dmxUnit n] }).modDmx n fun x => { x with
          rdm := some ⟨c, kind, e, true⟩
          busyEnd := e
          tn := (x.tn + 1) % 256 }
        let s2 := (s1.setBit (DMX_STATUS_LINE_BUSY.inst n) true).setBit (DMX_STATUS_RDM_ACTIVE.inst n) true
        .next ((s2.incFld (DMX_RDM_TX_COUNT.inst n) 1).emit (.dmx n m))
    else .next s

/-- The UID of a discovery response, if it decodes with its checksum (R348). -/
def dubUid (bs : List Byte) : Option (List Byte) :=
  let b := bs.dropWhile fun x => x == 0xFE
  let e := (b.drop 1).take 16
  let dec (i : Nat) : Byte := (e.getD (2 * i) 0) &&& (e.getD (2 * i + 1) 0)
  let uid := (List.range 6).map dec
  let sum := ((e.take 12).map fun x => x.toNat).sum
  if bs.length - b.length ≤ 7 ∧ beField b 0 1 = 0xAA ∧ b.length = 17 ∧ [dec 6, dec 7] = valBytesBE 2 sum ∧
      (List.range 8).all (fun i => (e.getD (2 * i) 0) ||| 0xAA == e.getD (2 * i) 0 && (e.getD (2 * i + 1) 0) ||| 0x55 == e.getD (2 * i + 1) 0) then
    some uid
  else none

/-- The outcome of a response (R346, R348). -/
def rdmOutcome (kind : Nat) (r : RdmIn) : Nat × List Byte :=
  if kind = rkDub then
    match (if r.framed then dubUid r.bytes else none) with
    | some u => (roDubUid, u)
    | none => (roDubCollision, r.bytes.take 257)
  else
    let len := beField r.bytes 2 1
    let b := r.bytes.take 257
    if ¬ r.framed ∨ r.bytes.length ≠ len + 2 ∨ beField r.bytes 0 2 ≠ 0xCC01 then (roFraming, b)
    else if r.bytes.drop len = rdmSum (r.bytes.take len) then (roOk, b)
    else (roChecksum, b)

/-- RDM_RESPONSE (R346). -/
def execRdmResponse (n : Nat) (r : RdmIn) (s : State) : Host.Outcome State Fault Refusal :=
  match (s.dmx n).rdm with
  | some x =>
    .next (if x.sending ∨ x.kind = rkBroadcast then s
      else s.rdmEnd n x (rdmOutcome x.kind r).1 r.st32 (rdmOutcome x.kind r).2)
  | none => .next s

/-- RDM_RESPONSE_TIMEOUT (R346): nothing has started within RESP_WAIT_US. -/
def execRdmResponseTimeout (n : Nat) (s : State) : Host.Outcome State Fault Refusal :=
  match (s.dmx n).rdm with
  | some x =>
    .next (if ¬ x.sending ∧ x.kind ≠ rkBroadcast ∧ x.reqEnd + usUnits (s.act (DMX_RESP_WAIT_US_US.inst n)) ≤ s.time.mono then
      s.rdmEnd n x roNoResponse (st32Of ((s.time.now - (s.time.mono - x.reqEnd)) / unitsPerNs)) [] else s)
  | none => .next s

/-! The responder (R349). -/

/-- Encoded bytes of a discovery response. -/
def encodeDisc (bs : List Byte) : List Byte := bs.flatMap fun b => [b ||| 0xAA, b ||| 0x55]

/-- The discovery response of a UID: preamble, separator, UID and checksum (R348, R349). -/
def discResponse (uid : Nat) : List Byte :=
  let e := encodeDisc (valBytesBE 6 uid)
  List.replicate 7 0xFE ++ [0xAA] ++ e ++ encodeDisc (rdmSum e)

/-- The answer of a port to request `b` addressed to it (R349), without its message count and checksum, and whether it
takes the store's head. -/
def State.rdmAnswer (s : State) (n : Nat) (b : List Byte) : List Byte × Bool :=
  let src := beField b 9 6
  let tn := beField b 15 1
  let sub := beField b 18 2
  let cls := beField b 20 1
  let pid := beField b 21 2
  let msg (kind p : Nat) (d : List Byte) : List Byte := rdmMessage src (s.dmxUid n) tn kind 0 sub ((cls + 1) % 256) p d
  if cls = 0x10 ∧ (pid = 2 ∨ pid = 3) then (msg 0 pid (valBytesBE 2 0), false)
  else if cls = 0x20 ∧ pid = 0x0020 then
    match (s.dmx n).store with
    | [] => (msg 0 0x0030 [], false)
    | a :: _ => (putBytes (putBytes a 3 (valBytesBE 6 src)) 15 [BitVec.ofNat 8 tn], true)
  else (msg 1 pid (valBytesBE 2 (s.act (DMX_RESP_CFG_ACK_TIMER.inst n))), false)

/-- An answer as it goes on the line: a message gets its count, the store's level without the answer itself, and its
checksum (R349, log entry 25); a discovery response has neither. -/
def State.finishAnswer (s : State) (n : Nat) (b : List Byte) (q : Bool) : List Byte :=
  if beField b 0 1 = 0xCC then
    let m := putBytes b 17 [BitVec.ofNat 8 ((s.dmx n).store.length - (if q then 1 else 0))]
    m ++ rdmSum m
  else b

/-- RDM_REQUEST_IN (R349). -/
def execRdmRequestIn (n : Nat) (bytes : List Byte) (s : State) : Host.Outcome State Fault Refusal :=
  let len := beField bytes 2 1
  let dst := beField bytes 3 6
  let cls := beField bytes 20 1
  let pid := beField bytes 21 2
  let uid := s.dmxUid n
  let all := decide (dst = 2 ^ 48 - 1 ∨ dst = uid / 2 ^ 32 * 2 ^ 32 + (2 ^ 32 - 1))
  let good := beField bytes 0 2 == 0xCC01 && (cls == 0x10 || cls == 0x20 || cls == 0x30) && bytes.length == len + 2 && decide (24 ≤ len) && bytes.drop len == rdmSum (bytes.take len)
  if n < 16 ∧ s.dmxRole n = drResponder ∧ good ∧ (dst = uid ∨ all) then
    let due := s.time.mono + usUnits (s.act (DMX_RESP_CFG_TURN_US.inst n))
    let answer (t : State) (b : List Byte) (q : Bool) : State := t.modDmx n fun x => { x with answer := some (b, due, q) }
    if cls = 0x10 ∧ pid = 1 then
      .next (if beField bytes 24 6 ≤ uid ∧ uid ≤ beField bytes 30 6 ∧ ¬ s.bit (DMX_STATUS_MUTED.inst n) then answer s (discResponse uid) false else s)
    else if cls = 0x10 then
      let s1 := if pid = 2 then s.setBit (DMX_STATUS_MUTED.inst n) true else if pid = 3 then s.setBit (DMX_STATUS_MUTED.inst n) false else s
      .next (if all then s1 else answer s1 (s.rdmAnswer n bytes).1 false)
    else
      let s1 := s.rdmPush n (rdmRecord 0 n roRequestIn s.st32 bytes) none
      let a := s.rdmAnswer n bytes
      .next (if all then s1 else answer s1 a.1 a.2)
  else .next s

/-- RDM_RESPONDER_ANSWER (R349): TURN_US has passed. -/
def execRdmResponderAnswer (n : Nat) (s : State) : Host.Outcome State Fault Refusal :=
  match (s.dmx n).answer with
  | some (a, due, q) =>
    let b := s.finishAnswer n a q
    if due ≤ s.time.mono then
      let s1 := (s.modDmx n fun x => { x with answer := none, store := if q then x.store.drop 1 else x.store }).emit (.dmx n b)
      .next (if q then (s1.setFld (DMX_QMSG_LEVEL_COUNT.inst n) (s1.dmx n).store.length).rdmPush n (rdmRecord 0 n roQmsgSent s.st32 b) none
        else s1)
    else .next s
  | none => .next s

/-- An answer is pushed into the store (R349). -/
def State.qmsgPush (s : State) (n len : Nat) : State :=
  let a := s.pair (DMX_QMSG_ADDR_LO_ADDR.inst n) (DMX_QMSG_ADDR_HI_ADDR.inst n)
  if len < 24 ∨ 255 < len ∨ ¬ s.inDram a len then s
  else if 8 ≤ (s.dmx n).store.length then s.raise (dmxPage n) 11 0
  else
    let r := s.readDram a len
    let s1 := r.2.2.modDmx n fun x => { x with store := x.store ++ [r.1] }
    s1.setFld (DMX_QMSG_LEVEL_COUNT.inst n) (s1.dmx n).store.length

/-- QMSG_PUSH (R349). -/
def execQmsgPush (q : Req) (n : Nat) (v : Word) (s : State) : Host.Outcome State Fault Refusal :=
  .next (if n < 16 then s.write q (dmxPage n) 0x06C v fun t => t.qmsgPush n (natBits v.toNat 0 9) else s)

/-- REASON a commit of port `n` is refused with; 0 for none (Table 10-12). -/
def State.dmxCommit (s : State) (n : Nat) : Nat :=
  let g (f : Fld) : Nat := s.fld (f.inst n)
  let within (f : Fld) (a b : Nat) : Bool := decide (a ≤ g f ∧ g f ≤ b)
  if within DMX_TX_TIMING_BREAK_US 92 1000 ∧ within DMX_TX_TIMING_MAB_US 12 1000 ∧ within DMX_TX_TIMING_MTBS_US 0 100 ∧
      g DMX_TX_CFG_PHASE ≤ g DMX_TX_CFG_DIV_M1 ∧ within DMX_RESP_WAIT_US_US 2000 4000 ∧ within DMX_RESP_MAX_US_US 500 15000 ∧
      within DMX_RESP_CFG_TURN_US 176 2000 ∧ 1 ≤ g DMX_RESP_CFG_ACK_TIMER then 0
  else 3

end Sys2Proof.Machine
end

