-- ==== Sys2Proof/Machine/Plan.lean ====
section
/-! DEFINITION. The plan sequencer and the lap watch (spec/05): the switch, frame starts, laps, detection, reserve take-over, and the meanings of their commands (R190 to R208). -/

namespace Sys2Proof.Machine

open Sys2Proof

/-! Slots (Table 05-9). -/

/-- STATE codes of PLAN.SLOT_n. -/
def ssUnused : Nat := 0
def ssRun : Nat := 1
def ssTaken : Nat := 2
def ssLost : Nat := 3

/-- STATE of slot `k`. -/
def State.slotState (s : State) (k : Nat) : Nat := s.fld (PLAN_SLOT_STATE.nth k)

/-- `s` with STATE of slot `k` set. -/
def State.setSlotState (s : State) (k v : Nat) : State := s.setFld (PLAN_SLOT_STATE.nth k) v

/-- ROLE codes (R124). -/
def roleIn : Nat := 0
def roleReserve : Nat := 1
def roleRetired : Nat := 2
def roleTest : Nat := 3

/-- ROLE of engine `e`. -/
def State.role (s : State) (e : Nat) : Nat := s.fld (ENG_STATUS_ROLE.inst e)

/-- An engine that enters service shows no fault and no completed descriptor of its earlier service (Tables 04-8,
04-4). -/
def State.enterService (s : State) (e : Nat) : State :=
  (s.setFld (ENG_FAULT_INFO_CODE.inst e) 0).modEng e fun x => { x with sc0 := { x.sc0 with last := 0 }, sc1 := { x.sc1 with last := 0 } }

/-- An engine takes a role and a slot; ROLE_CHANGE where one changes (Table 04-10). -/
def State.setRole (s : State) (e role slot : Nat) : State :=
  let s1 := (s.setFld (ENG_STATUS_ROLE.inst e) role).setFld (ENG_STATUS_SLOT.inst e) slot
  let s2 := if role = roleIn ∧ s.role e ≠ roleIn then s1.enterService e else s1
  if s.role e = role ∧ s.engSlot e = slot % 8 then s2 else s2.raise (engPage e) 9 (role + slot * 4)

/-- The reserve engine of a group while it is available: ROLE RESERVE or TEST (R206). -/
def State.reserveOf (s : State) (g : Nat) : Option Nat :=
  match s.plan.reserve.find? fun q => q.1 == g with
  | some q => if s.role q.2 = roleReserve ∨ s.role q.2 = roleTest then some q.2 else none
  | none => none

/-- `s` with SHADOWED of every slot of the running plan following its group's reserve (R206, R208, R487). -/
def State.shadowSync (s : State) : State :=
  (List.range 8).foldl (fun t k =>
    t.setBit (PLAN_SLOT_SHADOWED.nth k)
      ((s.reserveOf (k / 4)).isSome && s.slotState k == ssRun && !s.bit PLAN_STATUS_RESHADOW_PENDING)) s

/-- Every V, S and P register of an engine is undefined (R176, R206): free values. -/
def State.undefRegs (s : State) (e : Nat) (keep : Nat → Bool) : State :=
  let f (i : Nat) : Nat := Config.freeValue (s.free + i)
  let s1 := s.modEng e fun x => (List.range 64).foldl (fun y i =>
    if keep i then y else y.put (.v i) (2 ^ 512 - 1) (f i)) x
  { s1 with free := s1.free + 64 }

/-- The S and P registers of an engine are undefined. -/
def State.undefScalars (s : State) (e : Nat) : State :=
  let f (i : Nat) : Nat := Config.freeValue (s.free + i)
  let s1 := s.modEng e fun x =>
    let y := (List.range 32).foldl (fun z i => z.put (.s i) (2 ^ 32 - 1) (f i)) x
    (List.range 8).foldl (fun z i => z.put (.p i) (2 ^ 32 - 1) (f (32 + i))) y
  { s1 with free := s1.free + 40 }

/-! The switch (R190 to R192). -/

/-- Whether a switch would be refused with BLOCK at rate `rate` (R190, R191). -/
def State.switchBlocked (s : State) (rate : Nat × Nat) : Bool :=
  match s.plan.staged with
  | none => true
  | some p => !p.admits rate || (!s.plan.copyDue.isEmpty && !s.plan.stopOk)

/-- The engine of slot `k` changes to its staged segment (R191). -/
def State.changeSeg (s : State) (k seg : Nat) : State :=
  let e := s.slotEngine k
  (s.setFld (ENG_SEG_MAP_SEG.inst e) seg).setBit (ENG_STATUS_CODE_VALID.inst e) true

/-- Whether an engine is in the middle of a frame. -/
def State.engBusy (s : State) (e : Nat) : Bool := s.engState e != esIdle && s.engState e != esFaulted

/-- The slots of a plan whose code a stop-mode switch writes at the switch (R190, R192): LOST slots have no engine. -/
def State.unstaged (s : State) (p : PlanTabs) : List Nat :=
  (List.range p.slots.length).filter fun k => s.slotState k != ssLost && !(s.plan.stagedSeg.any fun r => r.1 == k)

/-- The frame due after a switch: that of the new plan at the transit of the switch (R191, R202). -/
def State.dueFrame (s : State) (p : PlanTabs) : Option Nat :=
  if s.bit SYS_STATUS_RECOVERY then none else s.time.transit.map fun t => p.frameOf t.1

/-- A switch is taken (R191, R192). Engines in the middle of a frame change their segment at their next
frame start (log entry 20). -/
def State.planSwitch (s : State) : State :=
  match s.plan.staged with
  | none => s
  | some p =>
    let n := p.slots.length
    let write := s.unstaged p
    let old := match s.plan.active with | some a => a.bankList | none => []
    let kept := if s.plan.newPlan then s.plan.oldBanks else []
    let busy := s.plan.stagedSeg.filter fun r => s.engBusy (s.slotEngine r.1)
    let s1 := (s.plan.stagedSeg.filter fun r => !s.engBusy (s.slotEngine r.1)).foldl (fun t r => t.changeSeg r.1 r.2) s
    let s2 := s1.modPlan fun q => { q with
      active := some p
      staged := none
      stagedSeg := []
      segDue := busy
      copyDue := []
      stopWriting := !write.isEmpty
      writeDue := write
      newPlan := true
      oldBanks := old ++ kept
      frameDue := s.dueFrame p }
    let s3 := (List.range 8).foldl (fun t k =>
      if n ≤ k then t.setSlotState k ssUnused
      else if t.slotState k = ssUnused then t.setSlotState k ssRun else t) s2
    let s4 := ((s3.measPlan p.digest).planSwitched n).setBit PLAN_STATUS_RESHADOW_PENDING true
    let s5 := (s4.shadowSync.setFld PLAN_STATUS_STATE (if write.isEmpty then 1 else 3)).loadStatus lsIdle 0 0
    let s6 := ((s5.setFld PLAN_ACTIVE_ID_ID p.id).setFld PLAN_STAGED_ID_ID 0).incFld PLAN_GEN_COUNT 1
    let s7 := ((s6.setFld PLAN_SWITCH_SWITCH 0).setAct PLAN_SWITCH_SWITCH 0).planBanks
    s7.raise planPage 10 p.id

/-- Slot `k` has another engine, or none: staged segments of the old one are of no use (R190). -/
def PlanS.dropSlot (q : PlanS) (k : Nat) : PlanS :=
  { q with
    stagedSeg := q.stagedSeg.filter fun r => r.1 != k
    segDue := q.segDue.filter fun r => r.1 != k
    copyDue := q.copyDue.filter fun j => j != k }

/-- Another engine serves slot `k`: the code a staged plan has for it is to be written again (R190). -/
def State.unstage (s : State) (k : Nat) : State :=
  s.modPlan fun q => match q.staged with
    | some p => if k < p.slots.length then { q.dropSlot k with copyDue := (q.dropSlot k).copyDue ++ [k] } else q.dropSlot k
    | none => q.dropSlot k

/-- The staged code of slot `k` is written into a segment of its reserve other than k mod 4 (R190). -/
def State.copyStaged (s : State) (k : Nat) : State :=
  let e := s.slotEngine k
  match s.plan.staged with
  | none => s
  | some p =>
    match p.slots[k]?, (List.range 4).find? fun g => g != k % 4 && (s.fld (ENG_SEG_MAP_SEG_OK.inst e)).testBit g with
    | some t, some seg =>
      (s.modEng e fun x => x.loadSeg seg t.code).modPlan fun q => { q with
        stagedSeg := q.stagedSeg ++ [(k, seg)]
        copyDue := q.copyDue.filter fun j => j != k }
    | _, _ => s

/-- The reserve of group `g` takes the code of the slots it shadows (R126, R192). -/
def State.loadReserve (s : State) (g : Nat) : State :=
  match s.reserveOf g, s.plan.active with
  | some e, some p =>
    (List.range 4).foldl (fun t j =>
      match p.slots[4 * g + j]? with
      | some tab => t.modEng e fun x => x.loadSeg j tab.code
      | none => t) (s.setBit (ENG_STATUS_CODE_VALID.inst e) true)
  | _, _ => s

/-- The reserves are loaded with the active plan (R192). -/
def State.reshadow (s : State) : State :=
  (((s.loadReserve 0).loadReserve 1).setBit PLAN_STATUS_RESHADOW_PENDING false).shadowSync.raise planPage 21 0

/-- A stop-mode switch has written the in-service code of the slots that had none staged (R192). -/
def State.stopWritten (s : State) : State :=
  match s.plan.active with
  | none => s
  | some p =>
    let s1 := s.plan.writeDue.foldl (fun t k =>
      match p.slots[k]? with
      | some tab =>
        let e := t.slotEngine k
        (t.modEng e fun x => x.loadSeg (t.fld (ENG_SEG_MAP_SEG.inst e)) tab.code).setBit (ENG_STATUS_CODE_VALID.inst e) true
      | none => t) s
    (s1.modPlan fun q => { q with stopWriting := false, writeDue := [] }).setFld PLAN_STATUS_STATE
      (if s.fld PLAN_STATUS_STATE = 3 then 1 else s.fld PLAN_STATUS_STATE)

/-! The lap watch (R204). -/

/-- The watch of slot `k`. -/
def State.watch (s : State) (k : Nat) : LapWatch := mapGet (fun _ => (⟨0, 0, false, false⟩ : LapWatch)) s.plan.watch k

/-- `s` with the watch of slot `k` replaced. -/
def State.setWatch (s : State) (k : Nat) (w : LapWatch) : State :=
  s.modPlan fun q => { q with watch := mapSet (fun _ => (⟨0, 0, false, false⟩ : LapWatch)) q.watch k w }

/-- The tables of slot `k` in the frame it is in. -/
def State.slotTab (s : State) (k : Nat) : Option SlotTab :=
  match (s.eng (s.slotEngine k)).tab with
  | some t => some t
  | none => match s.plan.active with | some p => p.slots[k]? | none => none

/-- Lap `j` of slot `k` starts at `at_` (ps of the span clock): its due instant (R204). -/
def State.lapDue (s : State) (k j at_ : Nat) : State :=
  match s.slotTab k with
  | none => s
  | some t =>
    match nextLap t (s.eng (s.slotEngine k)).shed j with
    | none => s.setWatch k { s.watch k with active := false }
    | some n =>
      match t.laps[n]? with
      | some l =>
        let step := match s.plan.maxSample with | some m => max m s.plan.t | none => s.plan.t
        s.setWatch k ⟨n, at_ + lapPs step l, (s.watch k).lifted, true⟩
      | none => s

/-- Marks an emit entry of a frame. -/
def FrameRun.setEmit (f : FrameRun) (i : Nat) (r : EmitRun) : FrameRun :=
  { f with emits := mapSet (fun _ => (⟨none, none, false⟩ : EmitRun)) f.emits i r }

/-- What became of emit entry `i` of a frame. -/
def FrameRun.emitAt (f : FrameRun) (i : Nat) : EmitRun := mapGet (fun _ => (⟨none, none, false⟩ : EmitRun)) f.emits i

/-- The lap whose end makes an entry ready in a frame: READY_LAP, or the last lap of its slot before it
that runs (R186). -/
def FrameRun.readyLap (f : FrameRun) (e : EmitEnt) : Option Nat :=
  match f.plan.slots[e.readySlot]? with
  | none => none
  | some t => ((List.range (e.readyLap + 1)).filter fun j =>
      match t.laps[j]? with | some l => lapRuns f.shed l | none => false).getLast?

/-- The ready marks of the end of lap `lap` of slot `k` in a frame (R186). -/
def FrameRun.marks (f : FrameRun) (k lap now : Nat) : FrameRun :=
  (f.plan.emit.zip (List.range f.plan.emit.length)).foldl (fun g e =>
    if e.1.readySlot = k ∧ ¬ e.1.noReady ∧ g.readyLap e.1 = some lap ∧ (g.emitAt e.2).readyAt = none then
      g.setEmit e.2 { g.emitAt e.2 with readyAt := some now }
    else g) f

/-- The ready marks of the end of lap `lap` of slot `k` in the frame with low number bits `fr` (R186). -/
def State.readyMarks (s : State) (k lap fr : Nat) : State :=
  let fs := s.plan.frames.map fun f => if lo32 f.n = fr ∧ ¬ f.skipped then f.marks k lap s.time.mono else f
  s.modPlan fun q => { q with frames := fs }

/-- The lap watch takes a notice of frame `fr` (R204, R186): one of an earlier frame than the slot is in moves no due
instant. -/
def State.takeNotice (s : State) (k lap fr : Nat) : State :=
  let s1 := s.readyMarks k lap fr
  if s.slotState k = ssLost ∨ s.fld (ENG_FRAME_NOW_FRAME_LO.inst (s.slotEngine k)) ≠ fr then s1 else s1.lapDue k (lap + 1) s.monoPs

/-! Slots lost (R208, R246). -/

/-- Slot `k` becomes LOST at lap `lap`: its tasks end; its bank entries go on at their frame positions,
which the watch keeps (log entry 20). -/
def State.loseSlot (s : State) (k lap : Nat) : State :=
  (((s.setSlotState k ssLost).shadowSync).slotTasksLost k).raise planPage 16 (k + lap * 2 ^ 3)

/-! Take-over (R206). -/

/-- After an uncorrectable instruction word its segment is no longer good (Table 16-3). -/
def State.segLost (s : State) (e : Nat) : State :=
  if s.engState e = esFaulted ∧ s.fld (ENG_FAULT_INFO_CODE.inst e) = fcImemUncorr then
    s.setBit ((ENG_SEG_MAP_SEG_OK.inst e).one (s.fld (ENG_SEG_MAP_SEG.inst e))) false
  else s

/-- A retirement counts; the RETIRE_LIMIT-th is for good (R487). -/
def State.countRetire (s : State) (e : Nat) : State :=
  let s1 := (s.satFld (GROOM_ENG_RETIRE_COUNT.nth e) 1)
  let s2 := { s1 with groom := { s1.groom with passes := mapSet (fun _ => 0) s1.groom.passes e 0 } }
  if max (s.fld GROOM_RETURN_RETIRE_LIMIT) 1 ≤ s2.fld (GROOM_ENG_RETIRE_COUNT.nth e) then s2.setBit (GROOM_ENG_RETIRE_PERMANENT.nth e) true else s2

/-- A channel of a retired engine stops at its next burst boundary (R206): how many bursts of the descriptor in
progress have moved by then is a free value. -/
def State.stopChan (s : State) (e ch : Nat) : State :=
  match (s.eng e).descNow ch with
  | none => s
  | some (num, d) =>
    let l := (descBursts d (s.descBase (s.fld (ENG_FRAME_NOW_FRAME_LO.inst e)) d)).takeWhile fun q => !s.borrowed (natBits d.bank 18 5) q.1
    s.takeFree.runBursts (s.engSlot e) ch num d (l.take (s.freeVal % (l.length + 1)))

/-- The faulted engine stops: RETIRED, channels stopped and empty, its retirement counted (R206, R487). -/
def State.retire (s : State) (e : Nat) : State :=
  let s1 := (((s.segLost e).stopChan e 0).stopChan e 1).modEng e fun x => { x with
    sc0 := { x.sc0 with queue := [] }
    sc1 := { x.sc1 with queue := [] }
    window := none
    branch := none
    pend := [] }
  let s2 := if s1.engState e = esFaulted then s1 else s1.setEngState e esIdle
  ((s2.countRetire e).modPlan fun q => { q with restoring := q.restoring.filter fun r => r.1 != e }).setRole e
    roleRetired (s.engSlot e)

/-- The address of the save slot's record if it is valid for the frame, with its lap (R161, R206). -/
def State.recordAt (s : State) (a frame : Nat) : Option (Nat × Nat) × State :=
  let b := natBits a 18 5
  let r0 := s.readWord b (natBits a 0 18) 0
  let r3 := r0.2.2.readWord b (natBits a 0 18 + 192) 0
  let w := r0.1.toNat
  (if ¬ r0.2.1 ∧ ¬ r3.2.1 ∧ r0.1 = r3.1 ∧ natBits w 0 32 = frame then some (natBits w 32 13, a) else none, r3.2.2)

/-- The record the reserve resumes from: the valid one with the highest lap (R206). -/
def State.chooseRecord (s : State) (a b frame : Nat) : Option (Nat × Nat) × State :=
  let x := s.recordAt a frame
  let y := x.2.recordAt b frame
  (match x.1, y.1 with
    | some p, some q => if p.1 < q.1 then some q else some p
    | some p, none => some p
    | none, r => r, y.2)

/-- Steps 1 to 3 of R206: engine `r` takes slot `k` from the engine that served it. -/
def State.claim (s : State) (k r : Nat) : State :=
  let e := s.slotEngine k
  let x := s.eng e
  let s1 := ((s.unitsLost k).retire e).unstage k
  let s2 := { s1 with engTest := s1.engTest.filter fun j => j != r }
  let s3 := (s2.setFld (PLAN_SLOT_ENGINE.nth k) r).setSlotState k ssTaken
  let s4 := (s3.setRole r roleIn k).setFld (ENG_SEG_MAP_SEG.inst r) (k % 4)
  let s5 := ((s4.setFld (ENG_LAP_SAVE_A_ADDR.inst r) (s.fld (ENG_LAP_SAVE_A_ADDR.inst e))).setFld
    (ENG_LAP_SAVE_B_ADDR.inst r) (s.fld (ENG_LAP_SAVE_B_ADDR.inst e))).setFld (ENG_FRAME_NOW_FRAME_LO.inst r)
    (s.fld (ENG_FRAME_NOW_FRAME_LO.inst e))
  (s5.modEng r fun y => { y with
    tab := x.tab
    banks := x.banks
    windows := x.windows
    port := none
    shed := x.shed
    loops := []
    branch := none
    inDelay := false
    pend := []
    window := none
    mark := none
    atFend := false
    padFrame := 0
    lastIssue := s.time.mono }).shadowSync

/-- The lap watch calls a take-over of slot `k` (R206, R208, R192). -/
def State.takeOver (s : State) (k cause : Nat) : State :=
  let lap := s.fld (ENG_LAP_NOW_LAP.inst (s.slotEngine k))
  if s.bit PLAN_STATUS_RESHADOW_PENDING ∧ (s.reserveOf (k / 4)).isSome then
    ((((s.unitsLost k).retire (s.slotEngine k)).unstage k).loseSlot k lap).modPlan fun q => { q with heldFaults := q.heldFaults ++ [(k, cause)] }
  else
    match s.reserveOf (k / 4) with
    | none => (((s.unitsLost k).retire (s.slotEngine k)).modPlan fun q => q.dropSlot k).loseSlot k lap
    | some r =>
      let e := s.slotEngine k
      let s1 := s.claim k r
      let c := s1.chooseRecord (s.fld (ENG_LAP_SAVE_A_ADDR.inst e)) (s.fld (ENG_LAP_SAVE_B_ADDR.inst e))
        (s.fld (ENG_FRAME_NOW_FRAME_LO.inst e))
      ((c.2.setEngState r esResuming).setWatch k { s.watch k with active := false }).modPlan fun q => { q with
        restoring := q.restoring ++ [(r, e, cause, c.1.map fun p => p.2)] }

/-- A take-over is complete: TAKEOVER and its count (R206). -/
def State.takenOver (s : State) (k old new lap cause : Nat) : State :=
  (s.incFld PLAN_TAKEOVERS_COUNT 1).raise planPage 15 (k + old * 2 ^ 3 + new * 2 ^ 7 + lap * 2 ^ 11 + cause * 2 ^ 24)

/-- The words of row `row` of the record at `a`: values, whether one was uncorrectable, state. -/
def State.recordRow (s : State) (a row : Nat) : List Nat × Bool × State :=
  s.loadWords (natBits a 18 5) ((List.range 8).map fun j => (natBits a 0 18 + 64 * row + 8 * j, 0, 0))

/-- Registers of a kind from words that hold two each. -/
def putPairs (d : Nat → Dest) (x : EngS) (ws : List Nat) (n0 : Nat) : EngS :=
  (ws.zip (List.range ws.length)).foldl (fun y q =>
    (y.put (d (n0 + 2 * q.2)) (2 ^ 32 - 1) (natBits q.1 0 32)).put (d (n0 + 2 * q.2 + 1)) (2 ^ 32 - 1) (natBits q.1 32 32)) x

/-- The V rows of the saved groups. -/
def State.restoreRows (s : State) (r a : Nat) (ns : List Nat) : State :=
  ns.foldl (fun t n =>
    let w := t.recordRow a (4 + n)
    w.2.2.modEng r fun x => x.put (.v n) (2 ^ 512 - 1) (((w.1.zip (List.range 8)).map fun q => q.1 * 2 ^ (64 * q.2)).sum)) s

/-- The reserve `r` restores the record at `a` (R160, R206): loop levels, P, S, saved V groups, RESUME; V
registers outside the saved groups are undefined. The lap it resumes. -/
def State.restore (s : State) (r a : Nat) : Nat × State :=
  let w0 := s.recordRow a 0
  let w1 := w0.2.2.recordRow a 1
  let w2 := w1.2.2.recordRow a 2
  let h := w0.1.getD 0 0
  let c := w0.1.getD 1 0
  let n := natBits c 13 2
  let counts := w0.1.getD 2 0
  let addrs := w0.1.getD 3 0
  let lvl (k : Nat) : Loop := ⟨natBits addrs (32 * k) 13, natBits addrs (32 * k + 16) 13, natBits counts (32 * k) 32⟩
  let g := natBits h 45 8
  let s1 := (w2.2.2.undefRegs r fun _ => false).modEng r fun x =>
    let y := putPairs .s (putPairs .s (putPairs .p x (w0.1.drop 4) 0) w1.1 0) w2.1 16
    { y with pc := natBits c 0 13, loops := ((List.range n).map lvl).reverse }
  let s2 := (s1.restoreRows r a (vgrpRegs g)).countStep r (8 + 8 * vgrpCount g) false
  (natBits h 32 13 + 1, s2)

/-- The lap engine `r` resumes at from lap `k` on: the first that runs, or the number of laps where none does. -/
def State.lapFrom (s : State) (r k : Nat) : Nat :=
  match (s.eng r).tab with
  | some t => (match nextLap t (s.eng r).shed k with | some j => j | none => t.laps.length)
  | none => k

/-- The reserve resumes (R206, step 6). -/
def State.resumeEng (s : State) (r old cause : Nat) (rec : Option Nat) : State :=
  let k := s.engSlot r
  let x : Nat × State := match rec with
    | some a => s.restore r a
    | none =>
      let s1 := ((s.undefRegs r fun _ => false).undefScalars r).modEng r fun y => { y with
        pc := match y.tab with | some t => t.entry | none => 0 }
      (0, s1)
  let s2 := (x.2.modPlan fun q => { q with restoring := q.restoring.filter fun p => p.1 != r }).beginLap r x.1
  let s3 := (s2.modEng r fun y => { y with lastIssue := s.time.mono }).lapDue k x.1 s.monoPs
  s3.takenOver k old r (s.lapFrom r x.1) cause

/-! Frame starts (R199 to R203). -/

/-- Sheds levels until the frame fits or none is left (R199). -/
def PlanTabs.shedFor (p : PlanTabs) (rate : Nat × Nat) (t s n : Nat) : Nat :=
  match n with
  | 0 => s
  | k + 1 => if s < p.degrade ∧ p.margin rate s t < 0 then p.shedFor rate t (s + 1) k else s

/-- The outcome of R199: skipped or not, levels shed, `ok` after. -/
def admitFrame (p : PlanTabs) (rate : Nat × Nat) (t shed ok shedMin restorePct restoreFrames : Nat) : Bool × Nat × Nat :=
  let s := p.shedFor rate t (max shed shedMin) p.degrade
  if p.margin rate s t < 0 then (true, s, 0)
  else if shedMin < s ∧ s = shed ∧ pctOf (p.avail rate) restorePct ≤ p.margin rate (s - 1) t then
    if restoreFrames ≤ ok + 1 then (false, s - 1, 0) else (false, s, ok + 1)
  else (false, s, 0)

/-- The shed count changes: LEVEL_SHED or LEVEL_RESTORED (R199). -/
def State.setShed (s : State) (n ok : Nat) : State :=
  let old := s.plan.shed
  let s1 := (s.setFld PLAN_STATUS_SHED n).modPlan fun q => { q with shed := n, ok := ok }
  if old < n then s1.raise planPage 12 n else if n < old then s1.raise planPage 13 n else s1

/-- The banks of a new plan at its first frame start (R222). -/
def State.switchBanks (s : State) (p : PlanTabs) : State :=
  if s.plan.newPlan then
    let names := p.bankList
    let s1 := (s.plan.oldBanks.filter fun b => !names.contains b).foldl (fun t b => t.handover b 0 2) s
    let s2 := ((List.range 32).filter fun b => names.contains b).foldl (fun t b => t.handover b 0 2) s1
    s2.modPlan fun q => { q with newPlan := false, oldBanks := [] }
  else s

/-- The bank entries of a frame start: FRAME_START, and those whose slot runs no lap that far (R183). -/
def State.startBanks (s : State) (p : PlanTabs) (shed : Nat) : State :=
  (p.banks.filter fun b => b.frameStart || (match p.slots[b.slot]? with
    | some t => (entryLap t shed b).isNone
    | none => true)).foldl (fun t b => t.handover b.bank b.owner 1) s

/-- A frame start finds the engine of slot `k` in the middle of a frame (R203). -/
def State.overrun (s : State) (k : Nat) : State :=
  let e := s.slotEngine k
  if s.engBusy e then
    let lap := s.fld (ENG_LAP_NOW_LAP.inst e)
    let s0 := s.scPauses k
    let s1 := match (s.eng e).kernelWin with
      | some (_, x) => s0.faultTask x.ctx ecLost 0
      | none => s0
    let s2 := ((s1.undefRegs e fun _ => false).undefScalars e).setEngState e esIdle
    (s2.schedSync).raise planPage 18 (k + lap * 2 ^ 3)
  else s

/-- The engine of slot `k` starts frame `f` at ENTRY (R202). -/
def State.startSlot (s : State) (f k shed : Nat) (p : PlanTabs) (t : SlotTab) : State :=
  let s0 := match s.plan.segDue.find? fun r => r.1 == k with
    | some r => (s.changeSeg k r.2).modPlan fun q => { q with segDue := q.segDue.filter fun x => x.1 != k }
    | none => s
  let e := s0.slotEngine k
  let s1 := ((s0.setFld (ENG_FRAME_NOW_FRAME_LO.inst e) (lo32 f)).setFld (ENG_LAP_SAVE_A_ADDR.inst e) t.saveA).setFld
    (ENG_LAP_SAVE_B_ADDR.inst e) t.saveB
  let s2 := s1.modEng e fun x => { x with
    tab := some t
    banks := p.banks
    windows := p.windows
    port := none
    shed := shed
    pc := t.entry
    loops := []
    branch := none
    inDelay := false
    pend := []
    window := none
    mark := none
    atFend := false
    padFrame := 0
    lastIssue := s.time.mono }
  (s2.setWatch k ⟨0, 0, false, false⟩).beginLap e 0 |>.lapDue k 0 (s.monoPs + 100000)

/-- A LOST slot at a frame start: no lap runs; its watch keeps the frame positions of its bank entries. -/
def State.startLost (s : State) (k shed : Nat) (p : PlanTabs) (t : SlotTab) : State :=
  let s1 := s.modEng (s.slotEngine k) fun x => { x with tab := some t, banks := p.banks, windows := p.windows, shed := shed }
  (s1.setWatch k ⟨0, 0, false, false⟩).lapDue k 0 (s.monoPs + 100000)

/-- Faults pending or held at a frame start (R192, R203): the reserve of slot `k` takes it for the new frame. -/
def State.takeAtStart (s : State) (k cause : Nat) : State :=
  match s.reserveOf (k / 4) with
  | none => (((s.unitsLost k).retire (s.slotEngine k)).modPlan fun q => q.dropSlot k).loseSlot k 0
  | some r =>
    let e := s.slotEngine k
    let s1 := s.claim k r
    (((s1.undefRegs r fun _ => false).undefScalars r).setEngState r esIdle).takenOver k e r 0 cause

/-- The pending reports of in-service engines and the held faults are taken (R192, R203). -/
def State.faultsAtStart (s : State) : State :=
  let reps := s.plan.reports.filter fun r => s.role r.1 == roleIn && s.slotEngine (s.engSlot r.1) == r.1
  let s1 := s.modPlan fun q => { q with reports := q.reports.filter fun r => !(reps.any fun x => x == r) }
  let s2 := reps.foldl (fun t r =>
    if t.bit PLAN_STATUS_RESHADOW_PENDING then t.takeOver (t.engSlot r.1) r.2.1 else t.takeAtStart (t.engSlot r.1) r.2.1) s1
  if s2.bit PLAN_STATUS_RESHADOW_PENDING then s2
  else
    let held := s2.plan.heldFaults
    held.foldl (fun t h => t.takeAtStart h.1 h.2) (s2.modPlan fun q => { q with heldFaults := [] })

/-- The engines start (R202, R203). -/
def State.startEngines (s : State) (f : Nat) (p : PlanTabs) (shed : Nat) : State :=
  (p.slots.zip (List.range p.slots.length)).foldl (fun t q =>
    if t.slotState q.2 = ssLost then t.startLost q.2 shed p q.1
    else if t.slotState q.2 = ssUnused then t
    else (t.overrun q.2).startSlot f q.2 shed p q.1) s

/-- Frames whose outputs cannot be pending any more are forgotten. -/
def keepFrames (l : List FrameRun) (f : Nat) : List FrameRun := l.filter fun x => decide (f < x.n + 4)

/-- The bank steps of a frame start whose frame is skipped (R222): no lap runs, and the FRAME_START entries apply. -/
def State.skipBanks (s : State) (p : PlanTabs) : State :=
  (p.banks.filter fun b => b.frameStart).foldl (fun t b => t.handover b.bank b.owner 1) (s.switchBanks p)

/-- A frame is skipped (R201). -/
def State.skipFrame (s : State) (f : Nat) (p : PlanTabs) : State :=
  let s1 := (s.skipBanks p).modPlan fun q => { q with frames := keepFrames q.frames f ++ [⟨f, p.launchBase s.rate (p.emitTransit f), p, q.shed, true, q.planes, []⟩] }
  (s1.incFld PLAN_FRAMES_SKIPPED_COUNT 1).raise planPage 14 (lo32 f)

/-- The MARGIN record of a frame start (Table 05-10). -/
def State.marginRec (s : State) (margin : Int) (crit shed : Nat) (skipped : Bool) : State :=
  if s.bit PLAN_CTRL_MARGIN_REC_EN then
    s.recordOnly planPage 0x20 (intBits 32 (margin / 1000) + crit * 2 ^ 32 + shed * 2 ^ 35 + (if skipped then 2 ^ 39 else 0))
  else s

/-- The registers of every frame start (Table 05-9). -/
def State.startRegs (s : State) (p : PlanTabs) (t : Nat) : State :=
  (s.setFld PLAN_T_ADM_PS_PS t).setInt PLAN_AVAIL_NS_NS (p.avail s.rate / 1000)

/-- The registers of a frame that runs (R199). -/
def State.frameRegs (s : State) (p : PlanTabs) (shed t : Nat) : State :=
  let c := p.crit shed t
  let s1 := s.setFld PLAN_NEED_NS_NS ((c.2.2 + 999) / 1000)
  ((s1.setInt PLAN_MARGIN_NS_NS (p.margin s.rate shed t / 1000)).setFld PLAN_CRIT_SLOT c.1).setFld PLAN_CRIT_STRIPE c.2.1

/-- The warning of R200 for a frame that runs. -/
def State.warnMargin (s : State) (p : PlanTabs) (shed t : Nat) : State :=
  let m := p.margin s.rate shed t
  let low := decide (m < pctOf (p.avail s.rate) (s.fld PLAN_MARGIN_CFG_WARN_PCT))
  let s1 := s.modPlan fun q => { q with wasLow := low }
  if low ∧ ¬ s.plan.wasLow then s1.raise planPage 11 (intBits 32 (m / 1000)) else s1

/-- Engines loaded for a LOST slot serve it from this frame start (R487); one whose slot is no longer LOST
becomes a cold spare. -/
def State.takeReturned (s : State) (p : PlanTabs) : State :=
  s.groom.returned.foldl (fun t r =>
    match p.slots[r.2]? with
    | some tab =>
      if t.slotState r.2 = ssLost then
        let seg := t.fld (ENG_SEG_MAP_SEG.inst r.1)
        let s1 := (((t.modEng r.1 fun x => x.loadSeg seg tab.code).setFld (PLAN_SLOT_ENGINE.nth r.2) r.1).setSlotState r.2 ssRun).unstage r.2
        (((s1.setRole r.1 roleIn r.2).setBit (ENG_STATUS_CODE_VALID.inst r.1) true).setEngState r.1 esIdle).shadowSync.raise 7 8 r.1
      else (t.setRole r.1 roleTest r.2).raise 7 8 (r.1 + 3 * 2 ^ 4)
    | none => (t.setRole r.1 roleTest r.2).raise 7 8 (r.1 + 3 * 2 ^ 4))
    { s with groom := { s.groom with returned := [] } }

/-- A plan frame starts (R199). Every frame start has its MARGIN record, one that a stop-mode switch skips too (R192,
R200). -/
def State.frameStart (s00 : State) (f : Nat) (p : PlanTabs) : State :=
  let s0 := s00.takeReturned p
  let sa := s0.modPlan fun q => { q with frameDue := none, maxSample := none, frameAt := s0.time.now, stripeNext := 1 }
  let t := sa.tAdm
  let s := sa.startRegs p t
  let shed := min s.plan.shed p.degrade
  if s.plan.stopWriting then
    (s.marginRec (p.margin s.rate shed t) (p.crit shed t).1 shed true).skipFrame f p
  else
    let shedMin := min (s.act PLAN_SHED_MIN_LEVELS) p.degrade
    let a := admitFrame p s.rate t shed s.plan.ok shedMin (s.fld PLAN_MARGIN_CFG_RESTORE_PCT)
      (s.fld PLAN_MARGIN_CFG_RESTORE_FRAMES)
    let m := p.margin s.rate a.2.1 t
    let s1 := ((s.modPlan fun q => { q with t := t }).setShed a.2.1 a.2.2).marginRec m (p.crit a.2.1 t).1 a.2.1 a.1
    if a.1 then
      (s1.skipFrame f p).avsFrame true a.2.1
    else
      let s2 := ((s1.frameRegs p a.2.1 t).warnMargin p a.2.1 t).modPlan fun q => { q with
        frames := keepFrames q.frames f ++ [⟨f, p.launchBase s.rate (p.emitTransit f), p, a.2.1, false, q.planes, []⟩] }
      let s3 := (s2.switchBanks p).startBanks p a.2.1
      let s4 := (s3.faultsAtStart).startEngines f p a.2.1
      s4.avsFrame (decide (m < pctOf (p.avail s.rate) s.upPct ∨ s.plan.shed < a.2.1)) a.2.1

/-- Stripe `q`'s laps may start (R202): engines waiting at its STRIPE_START lap go on. -/
def State.stripeStart (s : State) (q : Nat) : State :=
  let s1 := s.modPlan fun x => { x with stripeNext := max x.stripeNext (q + 1) }
  (List.range 10).foldl (fun t e =>
    let x := t.eng e
    if x.stripeWait ∧ t.engState e = esFence then
      match x.tab with
      | some tab =>
        if stripeOf tab (t.fld (ENG_LAP_NOW_LAP.inst e)) < s1.plan.stripeNext then
          (t.setEngState e esRun).modEng e fun z => { z with stripeWait := false, lastIssue := s.time.mono }
        else t
      | none => t
    else t) s1

/-- A frame position of a LOST slot's lap has come: its bank entries apply (R208). -/
def State.lostLap (s : State) (k : Nat) (w : LapWatch) : State :=
  let s1 := match s.slotTab k with
    | some t => s.lapBanks (s.eng (s.slotEngine k)) t k w.lap
    | none => s
  s1.lapDue k (w.lap + 1) w.due

/-! The meanings. -/

/-- STAGED_CODE_COPY (R190). -/
def execStagedCodeCopy (slot : Nat) (s : State) : Host.Outcome State Fault Refusal :=
  .next (if s.plan.copyDue.contains slot then s.copyStaged slot else s)

/-- RESHADOWED (R192). -/
def execReshadowed (s : State) : Host.Outcome State Fault Refusal :=
  .next (if s.bit PLAN_STATUS_RESHADOW_PENDING then s.reshadow else s)

/-- STOP_MODE_WRITE_DONE (R192). -/
def execStopModeWriteDone (s : State) : Host.Outcome State Fault Refusal :=
  .next (if s.plan.stopWriting then s.stopWritten else s)

/-- LAP_MARK_NOTICE (R204). -/
def execLapMarkNotice (s : State) : Host.Outcome State Fault Refusal :=
  match s.plan.notices with
  | [] => .next s
  | n :: t => .next ((s.modPlan fun q => { q with notices := t }).takeNotice n.1 n.2.1 n.2.2)

/-- FAULT_REPORT (R206). -/
def execFaultReport (s : State) : Host.Outcome State Fault Refusal :=
  match s.plan.reports with
  | [] => .next s
  | r :: t =>
    let s1 := s.modPlan fun q => { q with reports := t }
    .next (if s.role r.1 = roleIn ∧ s.slotEngine (s.engSlot r.1) = r.1 then s1.takeOver (s.engSlot r.1) r.2.1 else s1)

/-- STALL_DETECT (R204): no step for 2 µs outside fence wait, save and IDLE. -/
def execStallDetect (slot : Nat) (s : State) : Host.Outcome State Fault Refusal :=
  let e := s.slotEngine slot
  let st := s.engState e
  .next (if (s.slotState slot = ssRun ∨ s.slotState slot = ssTaken) ∧ st ≠ esFence ∧ st ≠ esSave ∧ st ≠ esIdle ∧ st ≠ esFaulted ∧
      (s.eng e).lastIssue + 2000 * unitsPerNs ≤ s.time.mono then s.takeOver slot 0x10 else s)

/-- LAP_DUE (R204): a due instant has passed. -/
def execLapDue (slot : Nat) (s : State) : Host.Outcome State Fault Refusal :=
  let w := s.watch slot
  if w.active ∧ w.due ≤ s.monoPs then
    if s.slotState slot = ssLost then .next (s.lostLap slot w)
    else if w.lifted then .next s
    else if s.engState (s.slotEngine slot) = esFence then
      .next (((s.setWatch slot { w with lifted := true }).incFld PLAN_FENCE_LATE_COUNT_COUNT 1).raise planPage 17 (slot + w.lap * 2 ^ 3))
    else .next (s.takeOver slot 0x11)
  else .next s

/-- RESTORE_DONE (R206). -/
def execRestoreDone (e : Nat) (s : State) : Host.Outcome State Fault Refusal :=
  match s.plan.restoring.find? fun r => r.1 == e with
  | some r => .next (if s.engState e = esResuming then s.resumeEng e r.2.1 r.2.2.1 r.2.2.2 else s)
  | none => .next s

end Sys2Proof.Machine
end

