-- ==== Sys2Proof/Machine/Exact.lean ====
section
/-! DEFINITION. Exact rounding of roots, powers and logarithms, as the curves, the master fader and the thermistor correction need them (R393, R394, R405). -/

namespace Sys2Proof.Machine

open Sys2Proof

/-- The largest number of the form `acc` plus `k` low bits that satisfies a falling predicate. -/
def bitSearch (p : Nat → Bool) (k acc : Nat) : Nat :=
  match k with
  | 0 => acc
  | j + 1 => if p (acc + 2 ^ j) then bitSearch p j (acc + 2 ^ j) else bitSearch p j acc

/-- The nearest whole number to the quantity X below 2^`bits`, `le m` saying whether m ≤ 2 X. -/
def roundBy (bits : Nat) (le : Nat → Bool) : Nat := bitSearch (fun n => le (2 * n - 1)) bits 0

/-- Integer square root, rounded down. -/
def isqrt (v : Nat) : Nat := bitSearch (fun n => decide (n * n ≤ v)) (Nat.log2 v / 2 + 1) 0

/-- The square root of `n` / `d` rounded to the nearest whole number. -/
def sqrtRound (n d : Nat) : Nat := roundBy 64 fun m => decide (m * m * d ≤ 4 * n)

/-- `n` / `d` to the nearest whole number, halves up. -/
def halfUp (n : Int) (d : Nat) : Int := (2 * n + d) / (2 * d)

/-! Curve generators (R393); `x` is in 0 … 65,535. -/

/-- GAMMA: 65,535 · (x / 65,535)^(1 + q / 256). -/
def gammaKnot (q x : Nat) : Nat :=
  let full := 65535
  roundBy 17 fun m => decide (m ^ 256 * full ^ q ≤ 2 ^ 256 * x ^ (256 + q))

/-- CIE_LSTAR, with L = 100 x / 65,535. -/
def lstarKnot (x : Nat) : Nat :=
  if 8 * 65535 < 100 * x then
    -- Y = ((100 x + 16 · 65,535) / (116 · 65,535))^3
    let n := 100 * x + 16 * 65535
    let d := 116 * 65535
    (2 * 65535 * n ^ 3 + d ^ 3) / (2 * d ^ 3)
  -- 65,535 · (100 x / 65,535) / 903.3 = 1,000 x / 9,033
  else (2 * 1000 * x + 9033) / (2 * 9033)

/-- Whether (`a` / `b`)^`e` ≤ 2^`k`. -/
def powLe (a b e k : Nat) : Bool := decide (a ^ e ≤ b ^ e * 2 ^ k)

/-- LOG: 65,535 · (2^(r x / 65,535) − 1) / (2^r − 1). -/
def logKnot (r x : Nat) : Nat :=
  -- m ≤ 2 X  iff  (m (2^r − 1) + 131,070)^65,535 ≤ 131,070^65,535 · 2^(r x)
  roundBy 17 fun m => powLe (m * (2 ^ r - 1) + 131070) 131070 65535 (r * x)

/-- A knot of a generated curve: GEN_CFG's TYPE, GAMMA_Q and RANGE. -/
def genKnot (ty q r x : Nat) : Nat :=
  if ty = 0 then gammaKnot (min q 512) x else if ty = 1 then lstarKnot x
  else if ty = 2 then logKnot (if 4 ≤ r ∧ r ≤ 20 then r else 12) x else x

/-- The master level of step `j` of `k` from `l0` to `t` (R394): equal steps of the logarithm. -/
def rampLevel (l0 t j k : Nat) : Nat :=
  if k ≤ j then t
  else roundBy 17 fun m => decide (m ^ k ≤ 2 ^ k * max l0 1 ^ (k - j) * max t 1 ^ j)

/-! Logarithms, to 192 fraction bits (log entry 27). -/

/-- 2 · atanh(`n` / `d`) scaled by 2^192, from 140 terms. -/
def atanh2 (n : Int) (d : Nat) : Int :=
  let z : Int := n * 2 ^ 192 / d
  let z2 := z * z / 2 ^ 192
  (((List.range 140).foldl (fun (q : Int × Int) i => (q.1 + 2 * q.2 / (2 * i + 1), q.2 * z2 / 2 ^ 192)) (0, z)).1)

/-- ln 2 scaled by 2^192. -/
def ln2Fix : Int := atanh2 1 3

/-- ln(`n` / `d`) scaled by 2^192. -/
def lnFix (n d : Nat) : Int :=
  let e : Int := (Nat.log2 n : Int) - Nat.log2 d
  let a := if 0 ≤ e then n else n * 2 ^ (-e).toNat
  let b := if 0 ≤ e then d * 2 ^ e.toNat else d
  e * ln2Fix + atanh2 ((a : Int) - b) (a + b)

end Sys2Proof.Machine
end

