-- ==== Sys2Proof/Machine/ScanCfg.lean ====
section
/-! DEFINITION. Settings of the scan ports and their LED blocks (spec/11, spec/12): timing, scan scripts, shift times, and the checks of a commit. -/

namespace Sys2Proof.Machine

open Sys2Proof

/-- Pages of port `n`. -/
def scanPage (n : Nat) : Nat := 0x90 + n
def ledPage (n : Nat) : Nat := 0xA0 + n

/-- Port `n` and its LED block beside their pages. -/
def State.scan (s : State) (n : Nat) : ScanS := mapGet (fun _ => ScanS.idle) s.scans n
def State.led (s : State) (n : Nat) : LedS := mapGet (fun _ => LedS.idle) s.leds n

/-- `s` with port `n` or its LED block changed by `f`. -/
def State.modScan (s : State) (n : Nat) (f : ScanS → ScanS) : State :=
  { s with scans := mapSet (fun _ => ScanS.idle) s.scans n (f (s.scan n)) }
def State.modLed (s : State) (n : Nat) (f : LedS → LedS) : State :=
  { s with leds := mapSet (fun _ => LedS.idle) s.leds n (f (s.led n)) }

/-- The settings a rule is read with: the value of each field of the SCAN and LED pages of one port, the
script word at an address of the half in force, and the frame rate. -/
structure PortCfg where
  f : Fld → Nat
  word : Nat → Nat
  num : Nat
  den : Nat

/-! Geometry and timing (R354 to R358). -/

def PortCfg.bMode (c : PortCfg) : Bool := c.f SCAN_MODE_DRIVE == 1
def PortCfg.free (c : PortCfg) : Bool := c.f SCAN_MODE_LOCK == 1
def PortCfg.host (c : PortCfg) : Bool := c.f SCAN_MODE_SOURCE == 1
def PortCfg.lanes (c : PortCfg) : Nat := c.f SCAN_MODE_LANES_M1 + 1
def PortCfg.lines (c : PortCfg) : Nat := c.f SCAN_MODE_LINES_M1 + 1
def PortCfg.width (c : PortCfg) : Nat := c.f SCAN_GEOM_WIDTH
def PortCfg.colours (c : PortCfg) : Nat := if c.f LED_PROFILE_W_CH = 1 then 4 else 3

/-- CHAIN_CH, the outputs of a chain (R380). -/
def PortCfg.chain (c : PortCfg) : Nat :=
  let k := max 1 (c.f LED_PROFILE_CHIP_CH)
  k * ((c.width * c.colours + k - 1) / k)

/-- CHMAP of a colour. -/
def PortCfg.chmap (c : PortCfg) (i : Nat) : Nat := natBits (c.f LED_PROFILE_CHMAP) (2 * i) 2

/-- F as a fraction of a nanosecond: numerator and denominator. -/
def PortCfg.period (c : PortCfg) : Nat × Nat :=
  if c.free then (c.f SCAN_FREE_PERIOD_NS_NS, 1) else (1000000000 * c.den, max 1 c.num)

/-- F in units of 2^-16 ns, truncated. -/
def PortCfg.periodUnits (c : PortCfg) : Nat := c.period.1 * unitsPerNs / c.period.2

/-- Start of slot `j` after the frame start, in ticks (R357). -/
def PortCfg.slotTicks (c : PortCfg) (passes j : Nat) : Nat :=
  j * c.period.1 / max 1 (passes * c.lines * 2 * c.period.2)

/-- The shortest slot in ticks; the longest is at most one longer. -/
def PortCfg.slotMin (c : PortCfg) (passes : Nat) : Nat := c.slotTicks passes 1

/-- The frame eclipse in ns (R358). -/
def PortCfg.eclipse (c : PortCfg) : Nat := c.f SCAN_LATCH_LEAD_NS_NS + c.f SCAN_PHASE_NS_NS

/-! Scan scripts (R382, R383, Table 12-2). -/

def opEnd : Nat := 0
def opShiftData : Nat := 1
def opShiftConst : Nat := 2
def opShiftGain : Nat := 3
def opLatch : Nat := 4
def opGoe : Nat := 5
def opRow : Nat := 6
def opWait : Nat := 7
def opLoop : Nat := 8
def opEndLoop : Nat := 9
def opRead : Nat := 10
def opShiftProbe : Nat := 11
def opPulse : Nat := 12

/-- OP of a word. -/
def opOf (w : Nat) : Nat := w / 2 ^ 28

/-- Entry of a section; none where it is empty. -/
def PortCfg.entry (c : PortCfg) (x : Sect) : Option Nat :=
  let e := match x with
    | .init => c.f LED_ENTRY_0_INIT
    | .flip => c.f LED_ENTRY_0_FLIP
    | .hold => c.f LED_ENTRY_0_HOLD
    | .line => c.f LED_ENTRY_0_LINE
    | .lineBlock => c.f LED_ENTRY_1_LINE_BLOCK
    | .gain => c.f LED_ENTRY_1_GAIN
    | .readback => c.f LED_ENTRY_1_READBACK
    | .probe => c.f LED_ENTRY_1_PROBE
  if e = 0xFF then none else some e

/-- Outputs a SHIFT_DATA shifts when `pos` of the line's chain have gone. -/
def PortCfg.dataCount (c : PortCfg) (w pos : Nat) : Nat :=
  if natBits w 0 16 = 0 then c.chain - pos else natBits w 0 16

/-- Bits of a READ. -/
def PortCfg.readBits (c : PortCfg) (w : Nat) : Nat :=
  if natBits w 0 16 = 0 then c.chain * (if c.f LED_PROFILE_READ2 = 1 then 2 else 1) else natBits w 0 16

/-- Duration of a command in ticks (Table 12-2). -/
def PortCfg.opTicks (c : PortCfg) (w pos : Nat) : Nat :=
  let clk := 2 * c.f SCAN_SCLK_SCLK_HALF
  let op := opOf w
  if op = opShiftData then c.dataCount w pos * c.f LED_PROFILE_DATA_BITS * clk
  else if op = opShiftConst then (natBits w 16 4 + 1) * clk
  else if op = opShiftGain then 16 * clk
  else if op = opLatch then natBits w 0 8 * clk
  else if op = opGoe then 1
  else if op = opRow then
    if natBits w 0 2 = 2 then natBits w 8 16 else if c.f SCAN_MODE_ROW_SERIAL = 1 then 4 else 1
  else if op = opWait then natBits w 0 16
  else if op = opRead then c.readBits w * clk
  else if op = opShiftProbe then c.chain * clk
  else if op = opPulse then c.f LED_DETECT_DETECT_TICKS
  else 0

/-- The LAT window of a command in ticks. -/
def PortCfg.latTicks (c : PortCfg) (w : Nat) : Nat :=
  let clk := 2 * c.f SCAN_SCLK_SCLK_HALF
  let op := opOf w
  if op = opShiftData ∨ op = opShiftGain then natBits w 16 8 * clk
  else if op = opShiftConst then natBits w 20 8 * clk
  else if op = opLatch then natBits w 0 8 * clk
  else 0

/-- Whether a command may stand in a section (Table 12-2). -/
def PortCfg.opOk (c : PortCfg) (x : Sect) (w pos : Nat) : Bool :=
  let op := opOf w
  decide (op ≤ 12) && (op != opShiftData || (x == .lineBlock && decide (natBits w 16 8 ≤ c.dataCount w pos * c.f LED_PROFILE_DATA_BITS))) &&
    (op != opShiftGain || decide (natBits w 16 8 ≤ 16)) && (op != opLatch || natBits w 0 8 != 0) && (op != opWait || natBits w 0 16 != 0) &&
    (op != opLoop || natBits w 0 8 != 0)

/-- A section walked from word `pc`: whether it is well formed, its duration, its longest LAT window. -/
def PortCfg.walk (c : PortCfg) (x : Sect) (fuel pc pos : Nat) (loop : Option (Nat × Nat)) (dur lat : Nat) : Bool × Nat × Nat :=
  match fuel with
  | 0 => (false, dur, lat)
  | k + 1 =>
    if 256 ≤ pc then (false, dur, lat)
    else
      let w := c.word pc
      let op := opOf w
      if ¬ c.opOk x w pos then (false, dur, lat)
      else if op = opEnd then (loop.isNone, dur, lat)
      else if op = opLoop then
        if loop.isSome then (false, dur, lat) else c.walk x k (pc + 1) pos (some (pc + 1, natBits w 0 8)) dur lat
      else if op = opEndLoop then
        match loop with
        | none => (false, dur, lat)
        | some (st, n) => if n ≤ 1 then c.walk x k (pc + 1) pos none dur lat else c.walk x k st pos (some (st, n - 1)) dur lat
      else
        c.walk x k (pc + 1) (if op = opShiftData then pos + c.dataCount w pos else pos) loop (dur + c.opTicks w pos) (max lat (c.latTicks w))

/-- A section: whether it is well formed, its duration, its longest LAT window; an empty one lasts 0. -/
def PortCfg.sect (c : PortCfg) (x : Sect) : Bool × Nat × Nat :=
  match c.entry x with
  | none => (true, 0, 0)
  | some e => c.walk x 66000 e 0 none 0 0

/-- Duration and LAT window of a section. -/
def PortCfg.dur (c : PortCfg) (x : Sect) : Nat := (c.sect x).2.1
def PortCfg.lat (c : PortCfg) (x : Sect) : Nat := (c.sect x).2.2

/-- The formula of R386 for `ts` ticks with longest LAT window `w`. -/
def PortCfg.shiftOf (c : PortCfg) (ts w : Nat) : Nat :=
  let le := c.f SCAN_LINE_ECLIPSE_TICKS
  let room := c.slotMin (max 1 (c.f SCAN_PASSES_PASSES)) - le - w
  2 * (ts + (if ts = 0 then 0 else (ts + room - 1) / max 1 room * (le + w)))

/-- Ts of the frame-eclipse sections, and their longest LAT window (R386). -/
def PortCfg.ts (c : PortCfg) : Nat :=
  (if c.bMode then 0 else c.dur .lineBlock * c.lines) + c.dur .gain + c.dur .readback
def PortCfg.tw (c : PortCfg) : Nat := max (if c.bMode then 0 else c.lat .lineBlock) (max (c.lat .gain) (c.lat .readback))

/-- Time the eclipse sections need, in ns, and whether a LAT window fits between two eclipses. -/
def PortCfg.shiftNs (c : PortCfg) : Nat := c.shiftOf c.ts c.tw
def PortCfg.roomOk (c : PortCfg) : Bool :=
  c.ts == 0 || decide (c.f SCAN_LINE_ECLIPSE_TICKS + c.tw < c.slotMin (max 1 (c.f SCAN_PASSES_PASSES)))

/-- Ticks of a slot the drive uses (R388, R390): the rest is the idle tail. -/
def PortCfg.usedTicks (c : PortCfg) : Nat :=
  let le := c.f SCAN_LINE_ECLIPSE_TICKS
  if c.bMode then
    let sh := c.chain * 2 * c.f SCAN_SCLK_SCLK_HALF
    let gap := c.f LED_BPLANE_PLANE_GAP
    le + sh + gap + ((List.range (c.f LED_BPLANE_BITS)).map fun k => max (c.f LED_BPLANE_UNIT * 2 ^ k) (if k = 0 then 0 else sh) + gap).sum
  else le + c.f LED_GCLK_GCLK_PER_LINE * 2 * c.f LED_GCLK_GCLK_HALF

/-- Bytes the port reads for one picture (R364). -/
def PortCfg.fetchBytes (c : PortCfg) : Nat :=
  let h := c.lanes * c.lines
  let f := c.f SCAN_FORMAT_FMT
  if f = 0 then 6 * c.width * h else if f = 1 then 8 * c.width * h
  else 2 * c.width * h + 4 * ((c.width + 1) / 2) * (if f = 3 then (h + 1) / 2 else h)

/-! Checks of a commit. -/

/-- Whether the fields of the SCAN page lie in their ranges (Table 11-5, R361, R363, R368). -/
def PortCfg.scanFields (c : PortCfg) : Bool :=
  let within (f : Fld) (a b : Nat) : Bool := decide (a ≤ c.f f ∧ c.f f ≤ b)
  let yuv := decide (2 ≤ c.f SCAN_FORMAT_FMT)
  within SCAN_PASSES_PASSES 1 4095 && within SCAN_SCLK_SCLK_HALF 4 255 && within SCAN_LINE_ECLIPSE_TICKS 10 5000 &&
    within SCAN_LATCH_LEAD_NS_NS 20000 4000000 && within SCAN_FREE_PERIOD_NS_NS 4000000 50000000 && within SCAN_GEOM_WIDTH 1 8192 &&
    within SCAN_HOLD_CFG_AFTER 1 4095 && c.f SCAN_PITCH_BYTES % 64 == 0 &&
    (!yuv || (c.f SCAN_SRC_ORIGIN_X % 2 == 0 && c.f SCAN_FORMAT_MATRIX_EN == 1)) &&
    (c.f SCAN_FORMAT_FMT != 3 || c.f SCAN_SRC_ORIGIN_Y % 2 == 0) && !(c.free && !c.host)

/-- Whether the fields of the LED page lie in their ranges (Table 12-4, R380). -/
def PortCfg.ledFields (c : PortCfg) : Bool :=
  let within (f : Fld) (a b : Nat) : Bool := decide (a ≤ c.f f ∧ c.f f ≤ b)
  let maps := (List.range c.colours).map c.chmap
  within LED_PROFILE_CHIP_CH 1 48 && within LED_PROFILE_DATA_BITS 8 16 && within LED_PROFILE_GAIN_BITS 1 8 &&
    within LED_GCLK_GCLK_HALF 2 255 && within LED_GCLK_GCLK_PER_LINE 1 65535 && within LED_DETECT_DETECT_TICKS 1 65535 &&
    within LED_BPLANE_BITS 1 16 && within LED_BPLANE_PLANE_GAP 4 255 && within LED_BPLANE_UNIT 1 65535 &&
    within LED_DIAG_CFG_AGE_LIMIT 1 254 && within LED_DIAG_CFG_CONFIRM 1 15 && within LED_DIAG_CFG_INTERVAL 1 65535 &&
    within LED_PROBE_CFG_PROBE_MAX 1 4096 && within LED_DERATE_CFG_SLOPE 0 625 && within LED_DERATE_CFG_FLOOR 10 100 &&
    within LED_DERATE_HYST_HYST 0 240 && maps.all (fun m => decide (m < c.colours)) && maps.Nodup

/-- Whether the two pages agree (R355, R357, R358, R360, R374, R383 to R390, R399). -/
def PortCfg.agree (c : PortCfg) : Bool :=
  let p := c.f SCAN_PASSES_PASSES
  let hp := c.f SCAN_HOLD_CFG_PASSES
  let le := c.f SCAN_LINE_ECLIPSE_TICKS
  let slot := c.slotMin (max 1 p)
  let pixels := c.width * c.lanes * c.lines
  let ecl := c.eclipse
  decide (pixels ≤ (if ¬ c.bMode then 131072 else if c.colours = 3 then 8192 else 6144)) && decide (2 * le ≤ slot) &&
    decide ((ecl + 2000) * c.period.2 ≤ c.period.1) && decide (hp ≤ p) && (hp == 0 || decide (2 * le ≤ c.slotMin hp)) &&
    [Sect.init, .lineBlock, .gain, .readback, .probe, .flip, .hold, .line].all (fun x => (c.sect x).1) &&
    decide (c.dur .line + 2 ≤ le) && decide (c.usedTicks ≤ slot) && c.roomOk && decide (c.shiftNs + 2000 ≤ ecl ∨ c.ts = 0) &&
    (c.f LED_CTRL_POLICY == 0 || decide (c.usedTicks + c.dur .probe ≤ slot + 1))

/-- The script words of a half. -/
def State.scriptWord (s : State) (n half k : Nat) : Nat := s.fld ((LED_SCRIPT_CMD.inst n).nth (256 * half + k))

/-- Settings of a port from its shadows and values in force: `sc` and `ld` say which pages are read from
the shadow. -/
def State.portCfg (s : State) (n : Nat) (sc ld : Bool) : PortCfg :=
  let f (x : Fld) : Nat :=
    let k := x.inst n
    if pageBase (k.key / 4096) = 0x90 then (if sc then s.fld k else s.act k) else (if ld then s.fld k else s.act k)
  ⟨f, fun k => s.scriptWord n (f LED_SCRIPT_SEL_HALF) k, s.rate.1, s.rate.2⟩

/-- Settings of port `n` from a copy of its registers in force. -/
def State.cfgOf (s : State) (n : Nat) (l : List (Nat × Word)) : PortCfg :=
  let f (x : Fld) : Nat := let k := x.inst n; natBits (mapGet regReset l k.key).toNat k.lo k.w
  ⟨f, fun k => s.scriptWord n (f LED_SCRIPT_SEL_HALF) k, s.rate.1, s.rate.2⟩

/-- The settings of the frame in progress, and those of the incoming frame (R371). -/
def State.useCfg (s : State) (n : Nat) : PortCfg := s.cfgOf n (s.scan n).cfg
def State.inCfg (s : State) (n : Nat) : PortCfg := s.cfgOf n (s.scan n).cfgIn

/-- The registers in force of both pages of a port. -/
def State.inForceOf (s : State) (n : Nat) : List (Nat × Word) :=
  s.inForce.filter fun q => q.1 / 4096 == scanPage n || q.1 / 4096 == ledPage n

/-- Fields whose change is a mode change (R376). -/
def timingFields : List Fld :=
  [SCAN_CTRL_EN, SCAN_MODE_DRIVE, SCAN_MODE_LOCK, SCAN_MODE_SOURCE, SCAN_MODE_LANES_M1, SCAN_MODE_LINES_M1, SCAN_MODE_ROW_SERIAL,
    SCAN_PASSES_PASSES, SCAN_SCLK_SCLK_HALF, SCAN_LINE_ECLIPSE_TICKS, SCAN_LATCH_LEAD_NS_NS, SCAN_PHASE_NS_NS,
    SCAN_FREE_PERIOD_NS_NS, SCAN_GEOM_WIDTH]

/-- REASON a SCAN commit is refused with; 0 for none. `both`: the LED page is taken at the same point (R387). -/
def State.scanCommit (s : State) (n : Nat) (both : Bool) : Nat :=
  let c := s.portCfg n true both
  let old := s.inCfg n
  let moves := (s.scan n).on && timingFields.any fun f => c.f f != old.f f
  if ¬ c.scanFields ∨ ¬ c.agree then 3
  else if moves ∧ c.f SCAN_CTRL_EN = 1 ∧ s.rate.2 * 1000000000 < (old.f SCAN_PHASE_NS_NS + c.f SCAN_LATCH_LEAD_NS_NS) * s.rate.1 then 3
  else 0

/-- REASON an LED commit is refused with (R387, R393). -/
def State.ledCommit (s : State) (n : Nat) (both : Bool) : Nat :=
  let c := s.portCfg n both true
  if ¬ c.ledFields ∨ ¬ c.agree then 3
  else if s.bit (LED_STATUS_GEN_BUSY.inst n) ∧ s.fld (LED_CURVE_SEL_BANK.inst n) ≠ s.act (LED_CURVE_SEL_BANK.inst n) then 7
  else 0

/-- SHIFT_NS and FETCH_BYTES for the mode in force (R360, R364). -/
def State.scanSync (s : State) (n : Nat) : State :=
  let c := s.portCfg n false false
  (s.setFld (SCAN_SHIFT_NS_NS.inst n) (if c.bMode then 0 else c.shiftNs)).setFld (SCAN_FETCH_BYTES_BYTES.inst n) c.fetchBytes

end Sys2Proof.Machine
end

