-- ==== Sys2Proof/Machine/Led.lean ====
section
/-! DEFINITION. LED drive (spec/12): from source pixels to driver values, derating, the scan sequencer and its commands, diagnosis, chain tests, curves and scripts. -/

namespace Sys2Proof.Machine

open Sys2Proof

/-! Reading pixels (R361 to R365). -/

/-- A word that reads uncorrectable is counted (R365). -/
def State.scanPoison (s : State) (n : Nat) : State :=
  (s.incFld (SCAN_POISON_COUNT_COUNT.inst n) 1).raise (scanPage n) 5 (lo32 (s.scan n).next)

/-- The word of the source that holds byte offset `off` (R365). -/
def State.scanWord (s : State) (n base : Nat) (bank : Bool) (off : Nat) : Nat × State :=
  if bank then
    let b := natBits base 18 5
    let o := natBits (base % 2 ^ 18 + off) 0 18
    let t := s.stallServed b o 2
    if ownerAdmits (s.owner b) (.scan n) || ownerAdmits (s.owner b) .emit then
      let r := t.sRead b (o / 8 * 8) 2
      if r.2.1 then (0, r.2.2.scanPoison n) else (r.1.toNat, r.2.2)
    else (0, t.foreign b (o / 8 * 8) 2 false)
  else
    let a := (base + off) / 8 * 8
    if s.inDram a 8 then
      let r := s.readDramWord a
      if r.2.1 then (0, r.2.2.scanPoison n) else (r.1, r.2.2)
    else (0, s)

/-- `len` bytes of the source from byte offset `off` on, each word read once. -/
def State.scanBytes (s : State) (n base : Nat) (bank : Bool) (off len : Nat) : List Byte × State :=
  let a := base + off
  let r := (List.range ((a % 8 + len + 7) / 8)).foldl (fun (q : List Byte × State) i =>
    let w := q.2.scanWord n base bank (off - a % 8 + 8 * i)
    (q.1 ++ valBytes 8 w.1, w.2)) ([], s)
  ((r.1.drop (a % 8)).take len, r.2)

/-- Component `i` of 16 bits. -/
def half (bs : List Byte) (i : Nat) : Nat := bytesVal ((bs.drop (2 * i)).take 2)

/-- Chroma of pixel `x` at full horizontal resolution from its row, `k` 0 for Cb and 1 for Cr (R362). -/
def chromaAt (row : Nat → Nat → Nat) (width x k : Nat) : Nat :=
  let last := (width + 1) / 2 - 1
  if x % 2 = 0 then row (x / 2) k else (row (x / 2) k + row (min (x / 2 + 1) last) k + 1) / 2

/-- Coefficient `i`, `j` of the colour matrix. -/
def PortCfg.matrix (c : PortCfg) (i j : Nat) : Int :=
  let l := [SCAN_MATRIX_0_M00, SCAN_MATRIX_0_M01, SCAN_MATRIX_1_M02, SCAN_MATRIX_1_M10, SCAN_MATRIX_2_M11, SCAN_MATRIX_2_M12,
    SCAN_MATRIX_3_M20, SCAN_MATRIX_3_M21, SCAN_MATRIX_4_M22]
  natSigned 16 (c.f (l.getD (3 * i + j) SCAN_MATRIX_4_M22))

/-- Offset of input `j`. -/
def PortCfg.inOff (c : PortCfg) (j : Nat) : Nat :=
  c.f (if j = 0 then SCAN_IN_OFF_0_OFF0 else if j = 1 then SCAN_IN_OFF_0_OFF1 else SCAN_IN_OFF_1_OFF2)

/-- The colour matrix (R363). -/
def PortCfg.colour (c : PortCfg) (l : List Nat) : List Nat :=
  if c.f SCAN_FORMAT_MATRIX_EN = 1 then
    (List.range 3).map fun i =>
      let t : Int := ((List.range 3).map fun j => c.matrix i j * ((l.getD j 0 : Nat) - (c.inOff j : Int))).sum + 4096
      (clampInt 0 65535 (t / 8192)).toNat
  else l

/-- The pixels of port row `v`, each as R, G, B and W (R354, R361 to R363). -/
def State.rowPixels (s : State) (n base : Nat) (bank : Bool) (v : Nat) : List (List Nat) × State :=
  let c := s.inCfg n
  let w := c.width
  let y := c.f SCAN_SRC_ORIGIN_Y + v
  let x0 := c.f SCAN_SRC_ORIGIN_X
  let pitch := c.f SCAN_PITCH_BYTES
  let fmt := c.f SCAN_FORMAT_FMT
  if fmt = 0 then
    let r := s.scanBytes n base bank (y * pitch + 6 * x0) (6 * w)
    ((List.range w).map fun x => c.colour ((List.range 3).map fun k => half r.1 (3 * x + k)) ++ [0], r.2)
  else if fmt = 1 then
    let r := s.scanBytes n base bank (y * pitch + 8 * x0) (8 * w)
    ((List.range w).map fun x => c.colour ((List.range 3).map fun k => half r.1 (4 * x + k)) ++ [half r.1 (4 * x + 3)], r.2)
  else
    let coff := c.f SCAN_CHROMA_OFF_PAGES * 4096
    let cw := (w + 1) / 2
    let luma := s.scanBytes n base bank (y * pitch + 2 * x0) (2 * w)
    let at_ (t : State) (cr : Nat) : List Byte × State := t.scanBytes n base bank (coff + cr * pitch + 4 * (x0 / 2)) (4 * cw)
    let lo := c.f SCAN_SRC_ORIGIN_Y / 2
    let hi := (c.f SCAN_SRC_ORIGIN_Y + c.lanes * c.lines - 1) / 2
    let c1 := if fmt = 2 then y else y / 2
    let c2 := if y % 2 = 0 then (if lo < c1 then c1 - 1 else c1) else (if c1 < hi then c1 + 1 else c1)
    let a := at_ luma.2 c1
    let b := if fmt = 2 ∨ c2 = c1 then a else at_ a.2 c2
    let row (i k : Nat) : Nat := if fmt = 2 then half a.1 (2 * i + k) else (3 * half a.1 (2 * i + k) + half b.1 (2 * i + k) + 2) / 4
    ((List.range w).map fun x => c.colour [half luma.1 x, chromaAt row w x 0, chromaAt row w x 1] ++ [0], b.2)

/-! From pixel to driver output (R380, R381, R392). -/

/-- Place of a knot. -/
def knotKey (bank curve k : Nat) : Nat := bank * 8192 + curve * 2048 + k

/-- A knot; one never written reads 0 (log entry 3). -/
def State.knot (s : State) (n bank curve k : Nat) : Nat := mapGet (fun _ => 0) (s.led n).knots (knotKey bank curve k)

/-- A curve at `x` (R392). -/
def State.curveAt (s : State) (n bank curve x : Nat) : Nat :=
  let i := x / 64
  let a : Int := s.knot n bank curve i
  let b : Int := s.knot n bank curve (i + 1)
  (a + ((b - a) * (x % 64 : Nat) + 32) / 64).toNat

/-- v3 of colour `k` (R381), with the level and residuals of the incoming frame. -/
def State.channelValue (s : State) (n k v : Nat) : Nat :=
  let c := s.inCfg n
  let v1 := s.curveAt n (c.f LED_CURVE_SEL_BANK) (natBits (c.f LED_CURVE_SEL_SEL) (2 * k) 2) v
  let v2 := (v1 * (s.led n).level + 32767) / 65535
  (v2 * (s.led n).rNext.getD k 65536 + 32768) / 65536

/-- Place of a channel: lane, scan line, output index. -/
def chanKey (lane line o : Nat) : Nat := (lane * 64 + line) * 65536 + o

/-- The values of scan line `l` of the incoming picture join those sent, lane by lane: in G-mode as sent,
in B-mode as stored (R380, R381). -/
def State.fetchLine (s : State) (n base : Nat) (bank : Bool) (l : Nat) : State :=
  let c := s.inCfg n
  (List.range c.lanes).foldl (fun t lane =>
    let r := t.rowPixels n base bank (lane * c.lines + l)
    let vals := (r.1.zip (List.range r.1.length)).flatMap fun q =>
      (List.range c.colours).map fun k =>
        let v3 := t.channelValue n k (q.1.getD k 0)
        (chanKey lane l (q.2 * c.colours + c.chmap k), if c.bMode then v3 else v3 / 2 ^ (16 - c.f LED_PROFILE_DATA_BITS))
    vals.foldl (fun u p => u.modLed n fun x => { x with sent := mapSet (fun _ => 0) x.sent p.1 p.2 }) r.2) s

/-- Every line of the incoming picture (R355, R366). -/
def State.fetchAll (s : State) (n base : Nat) (bank : Bool) : State :=
  (List.range (s.inCfg n).lines).foldl (fun t l => t.fetchLine n base bank l) s

/-! Derating (R395, R396). -/

/-- The tile temperature of port `n` as the sense block publishes it. -/
def State.tileTemp (s : State) (n : Nat) : Option Int :=
  if s.bit (SENSE_VALUE_VALID.nth n) then some (s.sfld (SENSE_VALUE_VALUE.nth n)) else none

/-- Teff after a reading (R395). -/
def teffNext (old : Option Int) (t hyst : Int) : Int :=
  match old with
  | none => t
  | some e => if e < t then t else if t < e - hyst then t + hyst else e

/-- d in 160,000ths (R395). -/
def derateOf (teff : Option Int) (knee slope floor : Nat) : Nat :=
  match teff with
  | none => 160000
  | some e => if e ≤ knee then 160000 else max (floor * 1600) (160000 - slope * (e - knee).toNat)

/-- Gain code and residual of a balance at d (R395). -/
def gainOf (bal dn bits : Nat) : Nat := (bal * dn * 2 ^ bits + 65535 * 160000 - 1) / (65535 * 160000) - 1
def residOf (bal dn bits : Nat) : Nat :=
  let d := 65535 * 160000 * (gainOf bal dn bits + 1)
  (2 * 65536 * bal * dn * 2 ^ bits + d) / (2 * d)

/-- The derating of the incoming frame (R395, R396). -/
def State.derate (s : State) (n : Nat) : State :=
  let c := s.inCfg n
  let x := s.led n
  let on := c.f LED_CTRL_DERATE_EN = 1
  let t := s.tileTemp n
  let teff := if ¬ on then none else match t with | some v => some (teffNext x.teff v (c.f LED_DERATE_HYST_HYST)) | none => x.teff
  let s1 := if on ∧ t.isNone then s.raise (ledPage n) 13 0 else s
  let dn := if on then derateOf teff (c.f LED_DERATE_CFG_KNEE) (c.f LED_DERATE_CFG_SLOPE) (c.f LED_DERATE_CFG_FLOOR) else 160000
  let bal := [c.f LED_BAL_0_R, c.f LED_BAL_0_G, c.f LED_BAL_1_B, c.f LED_BAL_1_W]
  let bits := c.f LED_PROFILE_GAIN_BITS
  let s2 := s1.modLed n fun y => { y with
    teff := teff
    gNext := bal.map fun b => gainOf b dn bits
    rNext := bal.map fun b => residOf b dn bits }
  let s3 := (s2.setFld (LED_DERATE_NOW_D.inst n) (dn * 65536 / 160000)).setBit (LED_STATUS_DERATING.inst n) (decide (dn < 160000))
  match teff with | some e => s3.setInt (LED_TEFF_T.inst n) e | none => s3

/-! The scan sequencer (R383). -/

/-- A section waits, if it is not empty. -/
def PortCfg.queue (c : PortCfg) (x : Sect) (line : Nat) : List SeqRun :=
  match c.entry x with | some e => [⟨x, e, none, line, 0, 0⟩] | none => []

/-- Whether a section is of the incoming frame's eclipse. -/
def Sect.incoming (x : Sect) : Bool := x == .lineBlock || x == .gain || x == .readback || x == .init

/-- The settings a section runs with. -/
def State.sectCfg (s : State) (n : Nat) (x : Sect) : PortCfg := if x.incoming then s.inCfg n else s.useCfg n

/-- The command the sequencer is at: the section and its word, if it may run now. -/
def State.seqAt (s : State) (n : Nat) : Option (SeqRun × Nat) :=
  match (s.led n).run with
  | [] => none
  | r :: _ => if r.free ≤ s.time.mono then some (r, (s.sectCfg n r.sect).word r.pc) else none

/-- Ticks of the SCAN grid in units of 2^-16 ns. -/
def scanUnits (t : Nat) : Nat := 2 * t * unitsPerNs

/-- The sequencer goes on behind its command: `r` after it, with the command's duration. -/
def State.seqGo (s : State) (n : Nat) (r : SeqRun) (ticks : Nat) : State :=
  s.modLed n fun x => { x with run := { r with free := s.time.mono + scanUnits ticks } :: x.run.drop 1 }

/-- A command of the section on the lanes: `f` gets the section, its word and its settings; nothing
happens where the sequencer is not at such a command. -/
def State.seqStep (s : State) (n op : Nat) (f : SeqRun → Nat → PortCfg → State → State) : State :=
  match s.seqAt n with
  | some (r, w) =>
    if n < 16 ∧ opOf w = op then
      let c := s.sectCfg n r.sect
      f r w c (s.seqGo n { r with pc := r.pc + 1 } (c.opTicks w r.pos))
    else s
  | none => s

/-- The scan line of the slot in progress. -/
def State.slotLine (s : State) (n : Nat) : Nat := ((s.scan n).slot - 1) % max 1 (s.useCfg n).lines

/-- The length of the grayscale run that GOE with GCLK starts (R388). -/
def PortCfg.grayUnits (c : PortCfg) : Nat := scanUnits (c.f LED_GCLK_GCLK_PER_LINE * 2 * c.f LED_GCLK_GCLK_HALF)

/-- GOE is driven. With the grayscale clock it ends by itself after `run`, and the idle tail follows (R388). -/
def State.driveGoe (s : State) (n : Nat) (on clk : Bool) (run : Nat) : State :=
  let x := s.led n
  let off := if on then (if clk then s.time.mono + run else x.goeOff)
    else if x.goe then (if x.gclk then min x.goeOff s.time.mono else s.time.mono) else x.goeOff
  (s.modLed n fun y => { y with goe := on, gclk := clk, goeOff := off }).emit
    (.line n 4 [if on then 1 else 0, if clk then 1 else 0])

/-- The source of the incoming picture. -/
def State.picture (s : State) (n : Nat) : Option (Nat × Bool) :=
  match (s.scan n).kind with | .taken b k _ => some (b, k) | _ => none

/-- END (R383): the section ends; the one behind it goes on. -/
def execEndOp (n : Nat) (s : State) : Host.Outcome State Fault Refusal :=
  .next (s.seqStep n opEnd fun _ _ _ t => t.modLed n fun x => { x with run := x.run.drop 1 })

/-- SHIFT_DATA (R384, R380): values of the line's chain, highest index first, lane by lane. -/
def execShiftData (n : Nat) (s : State) : Host.Outcome State Fault Refusal :=
  .next (s.seqStep n opShiftData fun r w c t =>
    let t1 := match r.pos, s.picture n with
      | 0, some (b, k) => t.fetchLine n b k r.line
      | _, _ => t
    let k := c.dataCount w r.pos
    let vals := (List.range c.lanes).flatMap fun lane =>
      (List.range k).map fun i => mapGet (fun _ => 0) (t1.led n).sent (chanKey lane r.line (c.chain - 1 - (r.pos + i)))
    (t1.modLed n fun x => { x with run := match x.run with | a :: l => { a with pos := r.pos + k } :: l | [] => [] }).emit
      (.line n 0 (natBits w 16 8 :: c.f LED_PROFILE_DATA_BITS :: vals)))

/-- SHIFT_CONST (R384). -/
def execShiftConst (n : Nat) (s : State) : Host.Outcome State Fault Refusal :=
  .next (s.seqStep n opShiftConst fun _ w _ t =>
    t.emit (.line n 1 [natBits w 20 8, natBits w 16 4 + 1, natBits w 0 (natBits w 16 4 + 1)]))

/-- SHIFT_GAIN (R384): CONST_BASE with the colour's new gain code. -/
def execShiftGain (n : Nat) (s : State) : Host.Outcome State Fault Refusal :=
  .next (s.seqStep n opShiftGain fun _ w c t =>
    let g := (s.led n).gNext.getD (natBits w 0 2) 0
    t.emit (.line n 2 [natBits w 16 8, 16,
      natSetBits (c.f LED_CONST_BASE_WORD) (natBits w 2 4) (c.f LED_PROFILE_GAIN_BITS) g % 65536]))

/-- LATCH (R384). -/
def execLatchOp (n : Nat) (s : State) : Host.Outcome State Fault Refusal :=
  .next (s.seqStep n opLatch fun _ w _ t => t.emit (.line n 3 [natBits w 0 8]))

/-- GOE (R385): only the LINE section makes it active again; ignored in that of B-mode (R390), and before the first flip
(Table 11-4). -/
def execGoeOp (n : Nat) (s : State) : Host.Outcome State Fault Refusal :=
  .next (s.seqStep n opGoe fun r w c t =>
    if r.sect = .line ∧ c.bMode then t
    else if ((s.scan n).dark ∨ r.sect ≠ .line) ∧ w.testBit 0 then t
    else t.driveGoe n (w.testBit 0) (w.testBit 0 && w.testBit 1) c.grayUnits)

/-- ROW (R384, R391). -/
def execRowOp (n : Nat) (s : State) : Host.Outcome State Fault Refusal :=
  .next (s.seqStep n opRow fun r w c t => if r.sect ≠ .line then t else
    let l := s.slotLine n
    let m := natBits w 0 2
    let v := if m = 1 then natBits w 2 6 else l
    let t1 := if m = 2 then t.emit (.line n 5 [natBits w 2 6, natBits w 8 16]) else t
    if c.f SCAN_MODE_ROW_SERIAL = 1 ∧ m = 0 then t1.emit (.line n 6 [if l = 0 then 1 else 0])
    else (t1.modLed n fun x => { x with row := v }).emit (.line n 5 [v]))

/-- WAIT (R383). -/
def execWaitOp (n : Nat) (s : State) : Host.Outcome State Fault Refusal := .next (s.seqStep n opWait fun _ _ _ t => t)

/-- LOOP (R383). -/
def execLoopOp (n : Nat) (s : State) : Host.Outcome State Fault Refusal :=
  .next (s.seqStep n opLoop fun r w _ t => t.seqGo n { r with pc := r.pc + 1, loop := some (r.pc + 1, natBits w 0 8) } 0)

/-- ENDLOOP (R383). -/
def execEndLoopOp (n : Nat) (s : State) : Host.Outcome State Fault Refusal :=
  .next (s.seqStep n opEndLoop fun r _ _ t =>
    match r.loop with
    | some (st, k) => if k ≤ 1 then t.seqGo n { r with pc := r.pc + 1, loop := none } 0 else t.seqGo n { r with pc := st, loop := some (st, k - 1) } 0
    | none => t)

/-- SHIFT_PROBE (R399). -/
def execShiftProbe (n : Nat) (s : State) : Host.Outcome State Fault Refusal :=
  .next (s.seqStep n opShiftProbe fun _ _ c t =>
    let l := s.slotLine n
    let lane := c.f LED_DIAG_CFG_READ_LANE
    t.emit (.line n 7 ((List.range c.chain).map fun i => if (s.led n).probed.contains (chanKey lane l (c.chain - 1 - i)) then 1 else 0)))

/-- PULSE (R399). -/
def execPulseOp (n : Nat) (s : State) : Host.Outcome State Fault Refusal :=
  .next (s.seqStep n opPulse fun _ _ c t =>
    (t.modLed n fun x => { x with goeOff := max x.goeOff (s.time.mono + scanUnits (c.f LED_DETECT_DETECT_TICKS)) }).emit
      (.line n 8 [c.f LED_DETECT_DETECT_TICKS]))

/-! Diagnosis (R397 to R400). -/

/-- Channel states (Table 12-3). -/
def chUnknown : Nat := 0
def chOk : Nat := 1
def chOpen : Nat := 2
def chShort : Nat := 3
def chUnverified : Nat := 4
def chLaneBad : Nat := 5

/-- PULSE of a value in ticks (R388, R390). -/
def PortCfg.pulse (c : PortCfg) (d : Nat) : Nat :=
  if c.bMode then
    let v := d / 2 ^ (16 - c.f LED_BPLANE_BITS)
    if v = 0 then 0 else c.f LED_BPLANE_UNIT * 2 ^ Nat.log2 v
  else d * c.f LED_GCLK_GCLK_PER_LINE / 2 ^ c.f LED_PROFILE_DATA_BITS * 2 * c.f LED_GCLK_GCLK_HALF

/-- Diagnosis of a channel. -/
def State.chan (s : State) (n k : Nat) : ChanS := mapGet (fun _ => ChanS.idle) (s.led n).chans k

/-- `s` with a channel's diagnosis replaced. -/
def State.setChan (s : State) (n k : Nat) (x : ChanS) : State :=
  s.modLed n fun y => { y with chans := mapSet (fun _ => ChanS.idle) y.chans k x }

/-- Verify age, saturating (R398). -/
def State.chanAge (s : State) (n k : Nat) : Nat := min 255 ((s.led n).ticks - (s.chan n k).since)

/-- The argument of a channel's event (Table 12-5). -/
def chanArg (k st : Nat) : Nat := k / 65536 / 64 + k / 65536 % 64 * 2 ^ 3 + k % 65536 * 2 ^ 9 + st * 2 ^ 23

/-- All channels of a port, in ascending lane, line and output index. -/
def PortCfg.channels (c : PortCfg) : List Nat :=
  (List.range c.lanes).flatMap fun a => (List.range c.lines).flatMap fun l => (List.range c.chain).map fun o => chanKey a l o

/-- The byte of a channel in the map (R398). -/
def State.mapAddr (s : State) (n : Nat) (c : PortCfg) (k : Nat) : Nat :=
  s.actPair (LED_DIAG_MAP_LO_ADDR.inst n) (LED_DIAG_MAP_HI_ADDR.inst n) + (k / 65536 / 64 * c.lines + k / 65536 % 64) * c.chain + k % 65536

/-- The map takes a changed state. -/
def State.writeMap (s : State) (n : Nat) (c : PortCfg) (k : Nat) : State :=
  let x := s.chan n k
  if x.st = x.map then s
  else
    let a := s.mapAddr n c k
    (if s.inDram a 1 then s.writeDram a [BitVec.ofNat 8 x.st] else s).setChan n k { x with map := x.st }

/-- The new state of a channel after a readback: verified or not, flags (Table 12-3). One that is not verified and has no
short flag leaves it, and breaks only a run of short flags. -/
def ChanS.judge (x : ChanS) (confirm tick : Nat) (verified open_ short : Bool) : ChanS :=
  let kind := if short then 3 else if verified then (if open_ then 2 else 1) else 0
  if kind = 0 then (if x.kind = chShort then { x with kind := 0, run := 0 } else x)
  else
    let run := if x.kind = kind then x.run + 1 else 1
    let y := { x with kind := kind, run := run, since := if verified then tick else x.since }
    if x.st = chLaneBad then y
    else if confirm ≤ run then { y with st := kind }
    else if x.st = chUnverified ∧ kind = 1 then { y with st := chOk }
    else y

/-- One channel is judged; its event is raised, with a record for the first 64 changes (Table 12-5). -/
def State.judgeChan (s : State) (n confirm k : Nat) (verified open_ short rec_ : Bool) : Bool × State :=
  let x := s.chan n k
  let y := x.judge confirm (s.led n).ticks verified open_ short
  let s1 := s.setChan n k y
  if x.st = y.st then (false, s1)
  else
    let ev (t : State) (b : Nat) : State := if rec_ then t.raise (ledPage n) b (chanArg k y.st) else t.raiseNoRec (ledPage n) b
    (true,
      if y.st = chOpen then ev (s1.incFld (LED_OPEN_COUNT_COUNT.inst n) 1) 8
      else if y.st = chShort then ev (s1.incFld (LED_SHORT_COUNT_COUNT.inst n) 1) 8
      else if y.st = chOk ∧ (x.st = chOpen ∨ x.st = chShort) then ev s1 9
      else s1)

/-- A readback of the whole chain judges the channels of READ_LANE, every line of each output (R397). -/
def State.judge (s : State) (n : Nat) (c : PortCfg) (flags : List Bool) : State :=
  let two := c.f LED_PROFILE_READ2 = 1
  let lane := c.f LED_DIAG_CFG_READ_LANE
  let keys := (List.range c.lines).flatMap fun l => (List.range c.chain).map fun o => chanKey lane l o
  let r := keys.foldl (fun (q : Nat × State) k =>
    let o := k % 65536
    let i := c.chain - 1 - o
    let open_ := if two then flags.getD (2 * i) false else flags.getD i false
    let short := two && flags.getD (2 * i + 1) false
    let v := mapGet (fun _ => 0) (s.led n).shown k
    let ver := decide (c.f LED_DETECT_DETECT_TICKS ≤ (s.useCfg n).pulse v) || (s.led n).probed.contains k
    let z := q.2.judgeChan n (c.f LED_DIAG_CFG_CONFIRM) k ver open_ short (decide (q.1 < 64))
    (if z.1 then q.1 + 1 else q.1, z.2)) (0, s)
  let s1 := c.channels.foldl (fun t k => t.writeMap n c k) r.2
  let stuck := flags.all (fun b => b) || flags.all fun b => !b
  s1.modLed n fun x => { x with chainReq := x.chainReq || stuck }

/-- READ (R397): the flags come in from SDI; the whole chain's are judged. -/
def execReadOp (n : Nat) (flags : List Bool) (s : State) : Host.Outcome State Fault Refusal :=
  match s.seqAt n with
  | some (_, w) =>
    .next (if natBits w 0 16 = 0 ∧ flags.length ≠ (s.inCfg n).readBits w then s
      else s.seqStep n opRead fun _ w c t => if natBits w 0 16 = 0 then t.judge n c flags else t)
  | none => .next s

/-- VERIFY_AGE_TICK (R398): channels of ports that run with DIAG_EN age. -/
def execVerifyAgeTick (n : Nat) (s : State) : Host.Outcome State Fault Refusal :=
  let c := s.useCfg n
  if n < 16 ∧ (s.scan n).on ∧ c.f LED_CTRL_DIAG_EN = 1 then
    let s1 := s.modLed n fun x => { x with ticks := x.ticks + 1 }
    .next (c.channels.foldl (fun t k =>
      let x := t.chan n k
      if (x.st = chUnknown ∨ x.st = chOk) ∧ c.f LED_DIAG_CFG_AGE_LIMIT < t.chanAge n k then
        let t1 := (t.setChan n k { x with st := chUnverified }).incFld (LED_UNVERIFIED_COUNT_COUNT.inst n) 1
        if c.f LED_CTRL_POLICY = 0 then t1.raise (ledPage n) 10 (chanArg k chUnverified) else t1
      else t) s1)
  else .next s

/-- Channels a probe may take on a line: age above AGE_LIMIT, none probed within AGE_LIMIT, oldest first, then by
index (R399). -/
def State.probeChannels (s : State) (n : Nat) (c : PortCfg) (line : Nat) : List Nat :=
  let lane := c.f LED_DIAG_CFG_READ_LANE
  let limit := c.f LED_DIAG_CFG_AGE_LIMIT
  let again (k : Nat) : Bool := match (s.chan n k).probed with | some a => decide ((s.led n).ticks < a + limit) | none => false
  let old := ((List.range c.chain).map fun o => chanKey lane line o).filter fun k => decide (limit < s.chanAge n k) && !again k
  let byAge := (List.range 256).flatMap fun i => old.filter fun k => s.chanAge n k == 255 - i
  byAge.take (c.f LED_PROBE_CFG_PROBE_MAX)

/-- A chain test with `b` bits counted until the marker was seen, none where it was not (R400). -/
def State.chainTest (s : State) (n : Nat) (c : PortCfg) (b : Option Nat) : State :=
  let k := max 1 (c.f LED_PROFILE_CHIP_CH)
  let lane := c.f LED_DIAG_CFG_READ_LANE
  let seen := match b with | some v => if v ≤ 2 * c.chain + 96 then some (v - 32) else none | none => none
  let res := match seen with | some v => if v = c.chain then 0 else if v < c.chain then 1 else 2 | none => 3
  let chips := match seen with | some v => v / k | none => 0
  let s1 := ((s.setFld (LED_CHAIN_CHIPS.inst n) chips).setBit (LED_CHAIN_VALID.inst n) true).setFld (LED_CHAIN_RESULT.inst n) res
  let keys := c.channels.filter fun q => q / 65536 / 64 == lane
  let s2 := keys.foldl (fun t q =>
    let x := t.chan n q
    if res ≠ 0 then t.setChan n q { x with st := chLaneBad }
    else if x.st = chLaneBad then t.setChan n q { x with st := chUnknown, kind := 0, run := 0 }
    else t) s1
  let s3 := (s2.modLed n fun x => { x with chainReq := false }).emit (.line n 9 [c.chain + 64, 0xA5C396E1])
  if res = 0 then s3 else s3.raise (ledPage n) 11 (lane + res * 2 ^ 3 + chips * 2 ^ 5)

/-! Registers with an effect (R382, R392, R393, R400). -/

/-- A write of LEDn.CTRL: the shadowed bits, a chain test, the curve generator. -/
def State.ledCtrl (s : State) (n : Nat) (v : Word) : State :=
  let s1 := s.storeReg (ledPage n) 0x008 v
  let s2 := if v.getLsbD 3 then s1.modLed n fun x => { x with chainReq := true } else s1
  if v.getLsbD 4 ∧ ¬ s2.bit (LED_STATUS_GEN_BUSY.inst n) then
    let g (f : Fld) : Nat := s2.fld (f.inst n)
    (s2.modLed n fun x => { x with
      gen := some (g LED_GEN_CFG_CURVE, 1 - s.act (LED_CURVE_SEL_BANK.inst n), g LED_GEN_CFG_TYPE, g LED_GEN_CFG_GAMMA_Q, g LED_GEN_CFG_RANGE, s.time.mono) }).setBit
      (LED_STATUS_GEN_BUSY.inst n) true
  else s2

/-- CHAIN_TEST_WRITE (R400). -/
def execChainTestWrite (q : Req) (n : Nat) (v : Word) (s : State) : Host.Outcome State Fault Refusal :=
  .next (if n < 16 then s.write q (ledPage n) 0x008 v fun t => t.ledCtrl n v else s)

/-- GEN (R393). -/
def execGen (q : Req) (n : Nat) (v : Word) (s : State) : Host.Outcome State Fault Refusal :=
  .next (if n < 16 then s.write q (ledPage n) 0x008 v fun t => t.ledCtrl n v else s)

/-- GEN_DONE (R393): the curve is complete. -/
def execGenDone (n : Nat) (s : State) : Host.Outcome State Fault Refusal :=
  match (s.led n).gen with
  | some (curve, bank, ty, q, r, _) =>
    let vals := (List.range 1025).map fun i => genKnot ty q r (min (64 * i) 65535)
    let s1 := s.modLed n fun x => { x with knots := mapSetList (fun _ => 0) x.knots (knotKey bank curve 0) vals, gen := none }
    .next ((s1.setBit (LED_STATUS_GEN_BUSY.inst n) false).raise (ledPage n) 15 (curve + bank * 4))
  | none => .next s

/-- Whether value `v` of a setting of port `n` is in force: as committed, or still as the port runs with it until the
frame that takes the commit (R371, R382, log entry 26). -/
def State.ledInUse (s : State) (n : Nat) (f : Fld) (v : Nat) : Bool :=
  s.act (f.inst n) == v || ((s.scan n).on && ((s.inCfg n).f f == v || (s.useCfg n).f f == v))

/-- A write of a script word (R382). -/
def State.writeScript (s : State) (n k : Nat) (v : Word) : State :=
  if s.ledInUse n LED_SCRIPT_SEL_HALF (k / 256) then s.raise (ledPage n) 16 (0x800 + 4 * k)
  else s.storeReg (ledPage n) (0x800 + 4 * k) v

/-- SCRIPT_WRITE (R382). -/
def execScriptWrite (q : Req) (n k : Nat) (v : Word) (s : State) : Host.Outcome State Fault Refusal :=
  .next (if n < 16 ∧ k < 512 then s.write q (ledPage n) (0x800 + 4 * k) v fun t => t.writeScript n k v else s)

/-- KNOT advances (R392). -/
def State.nextKnot (s : State) (n : Nat) : State :=
  let k := s.fld (LED_CURVE_IDX_KNOT.inst n)
  s.setFld (LED_CURVE_IDX_KNOT.inst n) (if 1024 ≤ k then 0 else k + 1)

/-- A write of CURVE_DATA (R392). -/
def State.writeKnot (s : State) (n : Nat) (v : Nat) : State :=
  let k := s.fld (LED_CURVE_IDX_KNOT.inst n)
  let b := s.fld (LED_CURVE_IDX_BANK.inst n)
  if s.ledInUse n LED_CURVE_SEL_BANK b then (s.raise (ledPage n) 16 k).nextKnot n
  else
    (s.modLed n fun x => { x with
      knots := mapSet (fun _ => 0) x.knots (knotKey b (s.fld (LED_CURVE_IDX_CURVE.inst n)) k) (v % 65536) }).nextKnot n

/-- A read of CURVE_DATA (R392). -/
def State.readKnot (s : State) (n : Nat) : Word × State :=
  (BitVec.ofNat 32 (s.knot n (s.fld (LED_CURVE_IDX_BANK.inst n)) (s.fld (LED_CURVE_IDX_CURVE.inst n)) (s.fld (LED_CURVE_IDX_KNOT.inst n))), s.nextKnot n)

/-- CURVE_DATA_WRITE (R392). -/
def execCurveDataWrite (q : Req) (n : Nat) (v : Word) (s : State) : Host.Outcome State Fault Refusal :=
  .next (if n < 16 then s.write q (ledPage n) 0x068 v fun t => t.writeKnot n v.toNat else s)

/-- CURVE_DATA_READ (R392). -/
def execCurveDataRead (q : Req) (n : Nat) (s : State) : Host.Outcome State Fault Refusal :=
  .next (if n < 16 then s.serveRead q (ledPage n) 0x068 fun t =>
      let r := t.readKnot n
      r.2.emit (.data q [r.1])
    else s)

end Sys2Proof.Machine
end

