-- ==== Sys2Proof/Machine/Scan.lean ====
section
/-! DEFINITION. Events of the scan ports (spec/11): latch points, frame starts, line slots, bit planes, mode changes, and what a transit, a seam or a commit does to a port. -/

namespace Sys2Proof.Machine

open Sys2Proof

/-! Where frames lie (R356, R358). -/

/-- Stripes of the active plan that the launch of a PLAN-source port depends on (R356, R377); 0 where it is
the transit itself. -/
def State.portStripes (s : State) (c : PortCfg) : Nat :=
  match s.plan.active with
  | some p => if p.stripe ∧ ¬ c.host ∧ ¬ c.free then p.stripes else 0
  | none => 0

/-- Launch instant of transit `m`, `stripes` being 0 for the transit itself (R356). -/
def State.scanLaunch (s : State) (m stripes : Nat) : Nat :=
  if stripes = 0 then transitInstant s.rate m else transitInstant (s.rate.1 * stripes, s.rate.2) (m * stripes + 1)

/-- Frame `m` is the port's next, timed by settings `c`; a latch point that has passed takes nothing. -/
def State.placeFrame (s : State) (n m : Nat) (c : PortCfg) : State :=
  let x := s.scan n
  let start := if c.free then x.t0 + m * c.f SCAN_FREE_PERIOD_NS_NS * unitsPerNs
    else s.scanLaunch m x.offs + c.f SCAN_PHASE_NS_NS * unitsPerNs
  let latch := start - c.eclipse * unitsPerNs
  s.modScan n fun y => { y with next := m, nextAt := start, latchAt := latch, latched := decide (latch < s.time.now), kind := .none }

/-- A new mode starts at transit `m` (Table 11-4). -/
def State.placeMode (s : State) (n m : Nat) (c : PortCfg) : State :=
  let s1 := s.modScan n fun y => { y with t0 := transitInstant s.rate m, offs := s.portStripes c, firstNew := true, moved := false }
  s1.placeFrame n (if c.free then 0 else m) c

/-! The latch point (R364, R369 to R371). -/

/-- The window check of R364 at the latch point of the next frame. A window opens at START_NS from the emitting transit,
in STRIPE from its launch instant (R55); while SUSPENDED no plan frame is emitted, and only one as long as a period is
open (R193). -/
def State.windowOk (s : State) (n : Nat) : Bool :=
  let x := s.scan n
  let c := s.inCfg n
  let share (k : Nat) : Bool := decide (c.fetchBytes * 1000 ≤ k * 256 * c.eclipse)
  match s.plan.active with
  | none => share 4
  | some p => p.windows.any fun w =>
      w.timed && w.page == scanPage n && share w.share &&
        (decide (c.period.1 ≤ w.lengthNs * c.period.2) ||
          (!c.free && s.fld PLAN_STATUS_STATE != 2 && (List.range 5).any fun i =>
            let a : Int := (p.launchBase s.rate (x.next + i - 2) : Int) + w.startNs * unitsPerNs
            decide (a ≤ x.latchAt ∧ (x.nextAt : Int) ≤ a + w.lengthNs * unitsPerNs)))

/-- EMIT_LATE of a port (Table 11-6). -/
def State.scanLate (s : State) (n reason : Nat) : State := s.raise (scanPage n) 3 (lo32 (s.scan n).next + reason * 2 ^ 32)

/-- The next frame will be of kind `k`. -/
def State.setKind (s : State) (n : Nat) (k : FrameKind) : State := s.modScan n fun x => { x with kind := k }

/-- A picture is at hand: the window check, then the frame is taken (Table 11-3). -/
def State.takePicture (s : State) (n base : Nat) (bank host : Bool) : State :=
  if s.windowOk n then s.setKind n (.taken base bank host)
  else ((s.setKind n .hold).raise (scanPage n) 10 (lo32 (s.scan n).next)).scanLate n 2

/-- The emit entry of the next frame breaks R369: it is counted. -/
def State.leadCheck (s : State) (n : Nat) (e : EmitEnt) : State :=
  if e.offset ≠ 0 ∨ e.lead ≠ (s.inCfg n).f SCAN_LATCH_LEAD_NS_NS ∨ e.arg ≠ 0 then
    (s.incFld (SCAN_LEAD_MISMATCH_COUNT.inst n) 1).raise (scanPage n) 11 e.lead
  else s

/-- Table 11-3 for a PLAN source: the entry is that of the plan of the frame that produced the picture (R191). -/
def State.latchPlan (s : State) (n : Nat) : State :=
  match s.plan.frames.find? fun f => f.plan.emitTransit f.n == (s.scan n).next with
  | none => s.setKind n .hold
  | some f =>
    match (f.plan.emit.zip (List.range f.plan.emit.length)).find? fun q => q.1.page == scanPage n with
    | none => s.setKind n .hold
    | some (e, k) =>
      let s1 := s.leadCheck n e
      let ready := e.noReady || (match (f.emitAt k).readyAt with | some t => decide (t < s.time.mono) | none => false)
      if e.level ≠ 0 ∧ e.level ≤ f.shed then s1.setKind n .hold
      else if f.skipped ∨ ¬ ready then
        ((s1.setKind n .hold).incFld PLAN_EMIT_NOT_READY_COUNT 1).scanLate n 1
      else s1.takePicture n (s1.emitBase f e) (e.baseSel == 0x1F) false

/-- Table 11-3 for a HOST source. -/
def State.latchHost (s : State) (n : Nat) : State :=
  if s.bit (SCAN_FLIP_INFO_PENDING.inst n) then
    let s1 := s.takePicture n (s.actPair (SCAN_FRAME_ADDR_LO_ADDR.inst n) (SCAN_FRAME_ADDR_HI_ADDR.inst n)) false true
    match (s1.scan n).kind with
    | .taken _ _ _ => (s1.setBit (SCAN_FLIP_INFO_PENDING.inst n) false).setFld (SCAN_FLIP_STATUS_FRAME.inst n) (lo32 (s.scan n).next)
    | _ => s1
  else s.setKind n .hold

/-- The master level of the incoming frame (R394). -/
def State.masterLatch (s : State) (n : Nat) : State :=
  let c := s.inCfg n
  let l0 := s.fld (LED_MASTER_NOW_LEVEL.inst n)
  s.modLed n fun x =>
    if x.fresh then
      if c.f LED_MASTER_RAMP_FRAMES = 0 then { x with fresh := false, ramp := none, level := c.f LED_MASTER_TARGET }
      else { x with fresh := false, ramp := some (l0, c.f LED_MASTER_TARGET, c.f LED_MASTER_RAMP_FRAMES, 0), level := l0 }
    else match x.ramp with
      | some (a, t, k, j) =>
        { x with ramp := if k ≤ j + 1 then none else some (a, t, k, j + 1), level := rampLevel a t (j + 1) k }
      | none => x

/-- Ticks a chain test adds to Ts (R400): CHAIN_CH + 64 zeros, then the marker and zeros up to its limit. -/
def PortCfg.testTicks (c : PortCfg) : Nat := (3 * c.chain + 160) * 2 * c.f SCAN_SCLK_SCLK_HALF

/-- The chain test of the incoming frame's eclipse, with the operand's count; deferred where the eclipse
cannot hold it (R400). -/
def State.latchTest (s : State) (n : Nat) (b : Option Nat) : State :=
  let c := s.inCfg n
  if (s.led n).chainReq then
    if c.shiftOf (c.ts + c.testTicks) c.tw + 2000 ≤ c.eclipse then s.chainTest n c b
    else s.setBit (LED_CHAIN_VALID.inst n) false
  else s

/-- Whether the next frame is a diagnosis frame, and whether its eclipse is to probe (R397, R399). -/
def State.latchDiag (s : State) (n : Nat) : State :=
  let c := s.inCfg n
  if c.f LED_CTRL_DIAG_EN = 1 then
    let k := (s.led n).diagCount + 1
    let due := decide (c.f LED_DIAG_CFG_INTERVAL ≤ k)
    let lane := c.f LED_DIAG_CFG_READ_LANE
    let old := c.channels.any fun q => q / 65536 / 64 == lane && decide (c.f LED_DIAG_CFG_AGE_LIMIT < s.chanAge n q)
    s.modLed n fun x => { x with
      diagCount := if due then 0 else k
      diag := due
      probed := []
      probeWait := due && c.f LED_CTRL_POLICY == 1 && old }
  else s.modLed n fun x => { x with diag := false, probed := [], probeWait := false }

/-- Sections of the incoming frame's eclipse wait on the lanes (R383, R386). -/
def State.latchSections (s : State) (n : Nat) : State :=
  let c := s.inCfg n
  let x := s.led n
  let taken : Bool := match (s.scan n).kind with | .taken _ _ _ => true | _ => false
  let l := (if taken ∧ ¬ c.bMode then (List.range c.lines).flatMap fun i => c.queue .lineBlock i else []) ++
    (if x.gNext ≠ x.g then c.queue .gain 0 else []) ++ (if x.diag then c.queue .readback 0 else [])
  let late := l.map fun r => { r with free := s.time.mono }
  (s.modLed n fun y => { y with run := y.run ++ late, sent := if taken then [] else y.sent }).setBit (SCAN_STATUS_FETCH.inst n) taken

/-- A latch point that has come (R358, R370, R371, R395): `take` takes the commits armed for it. -/
def State.latch (s0 : State) (n : Nat) (b : Option Nat) (take : State → State) : State :=
  let s := take s0
  let old := s.inCfg n
  let s1 := s.modScan n fun x => { x with latched := true, cfgIn := s.inForceOf n }
  let c := s1.inCfg n
  let s2 := ((s1.masterLatch n).derate n).setBit (SCAN_STATUS_ECLIPSE.inst n) true
  if timingFields.any (fun f => c.f f != old.f f) ∨ (s.scan n).moved then
    s2.setKind n (if c.f SCAN_CTRL_EN = 1 ∧ ¬ s.bit SYS_STATUS_RECOVERY then .blank else .off)
  else
    let s3 := if c.host then s2.latchHost n else s2.latchPlan n
    ((s3.latchDiag n).latchSections n).latchTest n b

/-- Whether the latch point of the next frame has come: none falls inside a seam (R378). -/
def State.latchDue (s : State) (n : Nat) : Bool :=
  let x := s.scan n
  x.on && !x.latched && !x.seam && decide (x.latchAt ≤ s.time.now)

/-! Frame starts (R356, R366, R373 to R376). -/

/-- The lanes run a section at the frame start, before what waits. -/
def State.runSection (s : State) (n : Nat) (c : PortCfg) (x : Sect) : State :=
  s.modLed n fun y => { y with run := (c.queue x 0).map (fun r => { r with free := s.time.mono }) ++ y.run }

/-- GOE inactive, row outputs at line 0 (Table 11-4). -/
def State.darken (s : State) (n : Nat) : State :=
  let s1 := s.driveGoe n false false 0
  (s1.modLed n fun x => { x with row := 0, plane := none }).emit (.line n 5 [0])

/-- The gain codes and the master level come into force (R394, R396). -/
def State.ledFrame (s : State) (n : Nat) (flip : Bool) : State :=
  let x := s.led n
  let d := s.fld (LED_DERATE_NOW_D.inst n)
  let t := match x.teff with | some v => intBits 16 v | none => 0
  let s1 := ((s.modLed n fun y => { y with g := y.gNext }).setFld (LED_MASTER_NOW_LEVEL.inst n) x.level).setBit
    (LED_STATUS_RAMPING.inst n) x.ramp.isSome
  let s2 := s1.setFld (LED_GAIN_NOW_ALL.inst n) (((x.gNext.zip [0, 8, 16, 24]).map fun q => q.1 % 256 * 2 ^ q.2).sum)
  let s3 := if x.gNext ≠ x.g then s2.raise (ledPage n) 12 (d + t * 2 ^ 17) else s2
  if flip then (x.rNext.zip (List.range 4)).foldl (fun (u : State) (q : Nat × Nat) => u.setFld ((LED_RESID_R.inst n).nth q.2) q.1) s3 else s3

/-- The frame after the one that starts (R356). -/
def State.scheduleNext (s : State) (n : Nat) : State := s.placeFrame n ((s.scan n).frame + 1) (s.inCfg n)

/-- A flip (R359, R375). -/
def State.flip (s : State) (n : Nat) (host : Bool) : State :=
  let m := lo32 (s.scan n).frame
  let c := s.inCfg n
  let s1 := ((s.setFld (SCAN_STATUS_STATE.inst n) 1).setFld (SCAN_LAST_FLIP_ST32_ST32.inst n) s.st32).setFld
    (SCAN_LAST_FLIP_FRAME_FRAME.inst n) m
  let s2 := ((s1.incFld (SCAN_FLIP_COUNT_COUNT.inst n) 1).setBit (SCAN_STATUS_LOWERED.inst n) false).modScan n fun x =>
    { x with holdRun := 0, dark := false, flipped := true, lit := true, passes := c.f SCAN_PASSES_PASSES }
  let s3 := (s2.modLed n fun x => { x with shown := x.sent }).runSection n c .flip
  if s3.bit (SCAN_CTRL_FLIP_REC_EN.inst n) then s3.recordOnly (scanPage n) 0x20 (m + if host then 2 ^ 32 else 0) else s3

/-- A hold frame (R373, R374): the first after a flip raises HOLD_ENTER; GOE stays inactive only until the
first flip after EN (Table 11-4). -/
def State.holdFrame (s : State) (n : Nat) : State :=
  let x := s.scan n
  let m := lo32 x.frame
  let c := s.inCfg n
  let low := c.f SCAN_HOLD_CFG_PASSES
  let lower := decide (low ≠ 0 ∧ c.f SCAN_HOLD_CFG_AFTER ≤ x.holdRun)
  let was := s.bit (SCAN_STATUS_LOWERED.inst n)
  let s1 := ((s.setFld (SCAN_STATUS_STATE.inst n) 2).incFld (SCAN_HOLD_COUNT_COUNT.inst n) 1).setBit (SCAN_STATUS_LOWERED.inst n) lower
  let s2 := (s1.modScan n fun y => { y with holdRun := y.holdRun + 1, flipped := false, dark := !y.lit, passes := if lower then low else c.f SCAN_PASSES_PASSES }).runSection n c .hold
  let s3 := if x.flipped then s2.raise (scanPage n) 8 m else s2
  if lower ∧ ¬ was then s3.raise (scanPage n) 13 low else s3

/-- The port begins its next frame with the settings taken for it: counts, slots, the frame after it. -/
def State.enterFrame (s : State) (n : Nat) (state : Nat) : State :=
  let s1 := s.modScan n fun x => { x with
    cfg := x.cfgIn
    frame := x.next
    frameAt := x.nextAt
    slot := 0
    slotAt := x.nextAt }
  (((s1.incFld (SCAN_FRAME_COUNT_COUNT.inst n) 1).setFld (SCAN_STATUS_STATE.inst n) state).setBit (SCAN_STATUS_ECLIPSE.inst n) false).setBit
    (SCAN_STATUS_FETCH.inst n) false

/-- EN 1 to 0 at a frame start (Table 11-4): the lanes go low, STATE reads OFF. -/
def State.scanOff (s : State) (n : Nat) : State :=
  let s1 := (s.darken n).modScan n fun x => { x with on := false, starting := false, kind := .none, cfg := x.cfgIn, seam := false }
  (((((s1.setBit (SCAN_STATUS_LOWERED.inst n) false).modLed n fun x => { x with run := [], probeWait := false }).setFld (SCAN_STATUS_STATE.inst n) 0).setBit (SCAN_STATUS_ECLIPSE.inst n) false).setBit
    (SCAN_STATUS_FETCH.inst n) false).emit (.line n 12 [])

/-- The blank frame of a mode change (Table 11-4): old timing, then the new mode at the transit that follows. -/
def State.blankFrame (s : State) (n : Nat) : State :=
  let oldCfg := (s.scan n).cfg
  let old := s.useCfg n
  let c := s.inCfg n
  let s1 := ((((s.enterFrame n 3).incFld (SCAN_BLANK_COUNT_COUNT.inst n) 1).setBit (SCAN_STATUS_LOWERED.inst n) false).darken n).modScan n fun x => { x with cfg := oldCfg, dark := true, holdRun := 0, passes := old.f SCAN_PASSES_PASSES }
  let s2 := (s1.modLed n fun x => { x with run := (c.queue .init 0).map (fun r => { r with free := s.time.mono }), chainReq := true, probeWait := false }).ledFrame n false
  let m := if old.free then (match s.time.nextTransit with | some t => t.1 | none => s.frameNo + 1) else (s.scan n).next + 1
  s2.placeMode n m c

/-- A flip or a hold frame starts; `late`: a word of the picture has not arrived (R366). -/
def State.pictureFrame (s : State) (n : Nat) (late : Bool) : State :=
  let x := s.scan n
  let c := s.inCfg n
  let left := (s.led n).run.any fun r => r.sect == .lineBlock
  let got : Option (Nat × Bool × Bool) := match x.kind with | .taken b k h => if late ∨ left then none else some (b, k, h) | _ => none
  let fetchLate : Bool := match x.kind with | .taken _ _ _ => got.isNone | _ => false
  let s1 := s.modLed n fun y => { y with run := y.run.filter fun r => r.sect != .lineBlock }
  let s2 := if (s.led n).probeWait then (s1.modLed n fun y => { y with probeWait := false }).raise (ledPage n) 14 (lo32 x.next) else s1
  let s3 := match got with | some (b, k, _) => if c.bMode then s2.fetchAll n b k else s2 | none => s2
  let s4 := if fetchLate then s3.scanLate n 3 else s3
  let s5 := s4.enterFrame n 2
  let s6 := match got with | some (_, _, h) => s5.flip n h | none => s5.holdFrame n
  let s7 := s6.ledFrame n got.isSome
  let s8 := if x.firstNew then (s7.raise (scanPage n) 9 (lo32 x.next)).modScan n fun y => { y with firstNew := false } else s7
  s8.scheduleNext n

/-- Whether the next frame of port `n` may start: inside a seam only the frame whose start is the tick the seam
starts in (R378). -/
def State.mayStartFrame (s : State) (n : Nat) : Bool :=
  let x := s.scan n
  x.on && decide (x.nextAt ≤ s.time.now) && (!x.seam || match s.time.transit with | some t => decide (x.nextAt ≤ t.2) | none => false)

/-- Inside a seam STATE reads SEAM, whatever picture is shown (R378). -/
def State.seamState (s : State) (n : Nat) : State :=
  if (s.scan n).seam then s.setFld (SCAN_STATUS_STATE.inst n) 4 else s

/-- PORT_FRAME_START (R356). -/
def execPortFrameStart (n : Nat) (late : Bool) (s : State) : Host.Outcome State Fault Refusal :=
  .next (if n < 16 ∧ s.mayStartFrame n then
      match (s.scan n).kind with
      | .off => s.scanOff n
      | .blank => s.blankFrame n
      | _ => (s.pictureFrame n late).seamState n
    else s)

/-! Line slots (R357, R385, R386, R390, R391, R399). -/

/-- A probe in this slot's idle tail, if the port waits for one and the tail holds the section (R399). -/
def State.probeSlot (s : State) (n j : Nat) (c : PortCfg) : State :=
  let x := s.scan n
  let p := max 1 x.passes
  let tail := c.slotTicks p (j + 1) - c.slotTicks p j
  if (s.led n).probeWait ∧ x.latched ∧ c.usedTicks + c.dur .probe ≤ tail then
    let keys := s.probeChannels n c (j % max 1 c.lines)
    let at_ := s.time.mono + scanUnits c.usedTicks
    (s.modLed n fun y => { y with
      probeWait := false
      probed := keys
      run := match y.run with
        | r :: l => r :: (c.queue .probe 0).map (fun q => { q with free := at_ }) ++ l
        | [] => (c.queue .probe 0).map fun q => { q with free := at_ }
      chans := keys.foldl (fun l k => mapSet (fun _ => ChanS.idle) l k { s.chan n k with probed := some y.ticks }) y.chans }).incFld
        (LED_PROBES_COUNT.inst n) keys.length
  else s

/-- The values of plane `k` of a line on every lane, highest index first (R381, R390). -/
def State.planeBits (s : State) (n line k : Nat) (c : PortCfg) : List Nat :=
  (List.range c.lanes).flatMap fun lane => (List.range c.chain).map fun i =>
    natBits (mapGet (fun _ => 0) (s.led n).shown (chanKey lane line (c.chain - 1 - i))) (16 - c.f LED_BPLANE_BITS + k) 1

/-- Ticks of a plane shift. -/
def PortCfg.planeShift (c : PortCfg) : Nat := c.chain * 2 * c.f SCAN_SCLK_SCLK_HALF

/-- The first plane of a B-mode slot is shifted and latched (R390). -/
def State.firstPlane (s : State) (n line : Nat) (c : PortCfg) : State :=
  let k := c.f LED_BPLANE_BITS - 1
  let at_ := s.time.mono + scanUnits (c.f SCAN_LINE_ECLIPSE_TICKS + c.planeShift + c.f LED_BPLANE_PLANE_GAP)
  (s.modLed n fun x => { x with plane := some (k, at_) }).emit (.line n 10 (c.f LED_BPLANE_PLANE_GAP :: k :: s.planeBits n line k c))

/-- The commanded charge of a slot of a line in ns·µA / 256 (R416): pulses of its channels, those of the
probe among them. -/
def State.lineCharge (s : State) (n line : Nat) (c : PortCfg) (probed : List Nat) : Nat :=
  let ifs := s.fld (CAL_IFS_UA_UA.nth n)
  let g := (s.led n).g
  let unit (col : Nat) : Nat := ifs * (g.getD col 0 + 1) * 2 ^ (8 - c.f LED_PROFILE_GAIN_BITS)
  ((List.range c.lanes).map fun lane => ((List.range (c.width * c.colours)).map fun i =>
    let key := chanKey lane line (i / c.colours * c.colours + c.chmap (i % c.colours))
    let ticks := c.pulse (mapGet (fun _ => 0) (s.led n).shown key) + if probed.contains key then c.f LED_DETECT_DETECT_TICKS else 0
    2 * ticks * unit (i % c.colours)).sum).sum

/-- A line slot starts. -/
def State.lineSlot (s : State) (n : Nat) : State :=
  let x := s.scan n
  let c := s.useCfg n
  let j := x.slot
  let le := scanUnits (c.f SCAN_LINE_ECLIPSE_TICKS)
  let s1 := s.modScan n fun y => { y with slot := j + 1, slotAt := y.frameAt + scanUnits (c.slotTicks (max 1 x.passes) j) }
  if s.fld (SCAN_STATUS_STATE.inst n) = 3 then s1
  else
    let s2 := (s1.driveGoe n false false 0).modLed n fun y => { y with
      run := (c.queue .line 0).map (fun r => { r with free := s.time.mono }) ++ y.run.map fun r => { r with free := max r.free s.time.mono + le } }
    let p := s2.probeSlot n j c
    let at_ (k : Nat) : Nat := x.frameAt + scanUnits (c.slotTicks (max 1 x.passes) k)
    let q := p.lineCharge n (j % max 1 c.lines) c (if (s.led n).probeWait ∧ ¬ (p.led n).probeWait then (p.led n).probed else [])
    let s3 := p.modLed n fun y => { y with charge := y.charge ++ [(at_ j, at_ (j + 1), q)] }
    if c.bMode ∧ ¬ x.dark then s3.firstPlane n (j % max 1 c.lines) c else s3

/-- LINE_SLOT_START (R357): through a seam the slots go on (R378). -/
def execLineSlotStart (n : Nat) (s : State) : Host.Outcome State Fault Refusal :=
  let x := s.scan n
  let c := s.useCfg n
  .next (if n < 16 ∧ x.on ∧ s.fld (SCAN_STATUS_STATE.inst n) ≠ 0 ∧ (x.slot < x.passes * c.lines ∨ x.seam) ∧
      x.frameAt + scanUnits (c.slotTicks (max 1 x.passes) x.slot) ≤ s.time.now then s.lineSlot n else s)

/-- BMODE_PLANE (R390): a plane period of the slot's line. -/
def execBmodePlane (n : Nat) (s : State) : Host.Outcome State Fault Refusal :=
  let c := s.useCfg n
  match (s.led n).plane with
  | some (k, at_) =>
    .next (if n < 16 ∧ c.bMode ∧ at_ ≤ s.time.mono then
        let unit := c.f LED_BPLANE_UNIT * 2 ^ k
        let sh := if k = 0 then 0 else c.planeShift
        let nextAt := s.time.mono + scanUnits (max unit sh + c.f LED_BPLANE_PLANE_GAP)
        let s1 := (s.modLed n fun x => { x with
          goeOff := s.time.mono + scanUnits unit
          plane := if k = 0 then none else some (k - 1, nextAt) }).emit (.line n 11 [unit])
        if k = 0 then s1 else s1.emit (.line n 10 (c.f LED_BPLANE_PLANE_GAP :: (k - 1) :: s.planeBits n (s.slotLine n) (k - 1) c))
      else s)
  | none => .next s

/-! What other commands do to a port. -/

/-- EN 0 to 1 (Table 11-4): the new mode starts at the first transit at or after the take. -/
def State.startPort (s : State) (n : Nat) (m : Option Nat) : State :=
  let s1 := s.modScan n fun x => { x with cfg := s.inForceOf n, cfgIn := s.inForceOf n, holdRun := 0, dark := true, lit := false, seam := false, passes := s.act (SCAN_PASSES_PASSES.inst n) }
  match m with
  | none => s1.modScan n fun x => { x with starting := true }
  | some t =>
    let s2 := s1.modScan n fun x => { x with on := true, starting := false }
    let c := s2.inCfg n
    let s3 := s2.modLed n fun x => { x with
      run := (c.queue .init 0).map fun r => { r with free := s.time.mono }
      chainReq := true
      chans := []
      ticks := 0
      diagCount := 0 }
    s3.placeMode n t c

/-- A SCAN commit has been taken, `before` being the state before it (R372, R376); `m`: the transit it was
taken at, if at one. -/
def State.scanTaken (s before : State) (n : Nat) (m : Option Nat) : State :=
  let x := s.scan n
  let fresh := x.addrW && s.act (SCAN_MODE_SOURCE.inst n) == 1
  let s1 := if fresh ∧ before.bit (SCAN_FLIP_INFO_PENDING.inst n) then
      (s.incFld (SCAN_SUPERSEDED_COUNT.inst n) 1).raise (scanPage n) 12 (lo32 x.frame) else s
  let s2 := if fresh then (s1.setBit (SCAN_FLIP_INFO_PENDING.inst n) true).modScan n fun y => { y with addrW := false } else s1
  let s3 := s2.scanSync n
  if ¬ x.on ∧ s.actBit (SCAN_CTRL_EN.inst n) ∧ ¬ s.bit SYS_STATUS_RECOVERY then
    s3.startPort n (match m with | some t => some t | none => (s.time.nextTransit).map fun t => t.1)
  else s3

/-- An LED commit has been taken (R382, R392, R394). -/
def State.ledTaken (s : State) (n : Nat) : State :=
  (((s.modLed n fun x => { x with fresh := true }).setFld (LED_STATUS_HALF.inst n) (s.act (LED_SCRIPT_SEL_HALF.inst n))).setFld
    (LED_STATUS_BANK.inst n) (s.act (LED_CURVE_SEL_BANK.inst n))).scanSync n

/-- A seam starts (R378): no latch point falls inside it. A blank frame stays one. -/
def State.scanSeam (s : State) : State :=
  (List.range 16).foldl (fun t n =>
    let x := t.scan n
    if x.on ∧ ¬ (t.useCfg n).free ∧ t.fld (SCAN_STATUS_STATE.inst n) ≠ 0 then
      let u := t.modScan n fun y => { y with seam := true }
      if t.fld (SCAN_STATUS_STATE.inst n) = 3 then u else u.seamState n
    else t) s

/-- A locked port at a transit it did not expect, or at the end of a seam, starts that frame afresh as a hold
frame (R378). -/
def State.scanAfresh (s : State) (n m : Nat) : State :=
  ((s.modScan n fun x => { x with seam := false }).placeFrame n m (s.inCfg n)).modScan n fun x => { x with latched := true, kind := .hold }

/-- Transit `m` at a port (R376, R378). -/
def State.scanTransitAt (s : State) (m n : Nat) : State :=
  let x := s.scan n
  if x.starting then s.startPort n (some m)
  else if x.on ∧ ¬ (s.inCfg n).free ∧ ¬ (s.useCfg n).free ∧ (x.seam ∨ (x.next ≠ m ∧ x.next ≠ m + 1)) then s.scanAfresh n m
  else s

/-- Transit `m` at every port. -/
def State.scanTransit (s : State) (m : Nat) : State := (List.range 16).foldl (fun t n => t.scanTransitAt m n) s

/-- A forward step of the time base (R378): a free-running port skips the frame starts that lie in the skipped interval,
which its end does not belong to (R106); they count as hold frames. -/
def State.scanStep (s : State) : State :=
  (List.range 16).foldl (fun t n =>
    let x := t.scan n
    let c := t.inCfg n
    let p := c.f SCAN_FREE_PERIOD_NS_NS * unitsPerNs
    if x.on ∧ c.free ∧ x.nextAt < t.time.now ∧ p ≠ 0 then
      let k := (t.time.now - x.t0 + p - 1) / p
      let d := k - x.next
      let u := (t.placeFrame n k c).modScan n fun y => { y with holdRun := y.holdRun + d }
      (u.incFld (SCAN_FRAME_COUNT_COUNT.inst n) d).incFld (SCAN_HOLD_COUNT_COUNT.inst n) d
    else t) s

/-- A plan switch changes the launch instant of PLAN-source ports (R377). -/
def State.scanMoved (s : State) : State :=
  (List.range 16).foldl (fun t n =>
    let x := t.scan n
    let c := t.inCfg n
    if x.on ∧ ¬ c.host ∧ ¬ c.free ∧ t.portStripes c ≠ x.offs then t.modScan n fun y => { y with moved := true } else t) s

/-- Whether a TIMED window of the plan in force is open now (R179, R181): START_NS counts from the emitting transit, in
STRIPE from its launch instant (R55). One as long as a period is always open; while SUSPENDED no other is (R193). -/
def State.timedOpen (s : State) (p : PlanTabs) (w : WinEnt) : Bool :=
  w.timed && (decide (1000000000 * s.rate.2 ≤ w.lengthNs * s.rate.1) ||
    s.fld PLAN_STATUS_STATE != 2 && (List.range 5).any fun i =>
      let a : Int := (p.launchBase s.rate (s.frameNo + i - 2) : Int) + w.startNs * unitsPerNs
      decide (a ≤ (s.time.now : Int) ∧ (s.time.now : Int) < a + w.lengthNs * unitsPerNs))

/-- Whether a TIMED window that `f` admits is open. -/
def State.anyTimed (s : State) (f : WinEnt → Bool) : Bool :=
  match s.plan.active with
  | none => false
  | some p => p.windows.any fun w => f w && s.timedOpen p w

/-- LAT_TOL_US as it reads (R367): without an active plan a port is served as if its window were always open (R364). -/
def State.latTolUs (s : State) (n : Nat) : Nat :=
  let x := s.scan n
  let open_ := s.plan.active.isNone || s.anyTimed fun w => w.page == scanPage n
  if ¬ x.on then 0xFFFFFFFF else if open_ then 0
  else
    let at_ := if x.latched then x.latchAt + (s.inCfg n).periodUnits else x.latchAt
    (at_ - s.time.now) / unitsPerNs / 1000 - 2

end Sys2Proof.Machine
end

