-- ==== Sys2Proof/Machine/Sense.lean ====
section
/-! DEFINITION. The sense block and the steps of the calibration unit (spec/13): sequences, conversions, die sensors, and the meanings of their commands. -/

namespace Sys2Proof.Machine

open Sys2Proof

/-! From code to reading (R405, R406). -/

/-- A configuration field of the sense block in force (R428). -/
def State.snsCfg (s : State) (f : Fld) : Nat := cfgFld s.sense.cfg f

/-- (k − po) · pg / 2^14 of a code. -/
def SnsHold.pre (h : SnsHold) (k : Nat) : Rat := ((k : Int) - h.po : Int) * (h.pg : Rat) / 16384

/-- Whether a channel is a thermistor, a voltage, a current. -/
def isTherm (c : Nat) : Bool := decide (c < 16)
def isVolt (c : Nat) : Bool := decide (16 ≤ c ∧ c < 20)
def isCurr (c : Nat) : Bool := decide (20 ≤ c ∧ c < 24)

/-- I_pre of a current code in mA (Table 13-2). -/
def State.ipre (s : State) (h : SnsHold) (k : Nat) : Rat := h.pre k * (s.snsCfg (SENSE_FS_FS.nth (h.ch - 16)) : Rat) / 65536

/-- Whether a sample is valid (R406). -/
def State.sampleValid (h : SnsHold) (k : Nat) : Bool :=
  if isTherm h.ch then
    let r := h.pre k / 65536
    decide (1 / 50 ≤ r ∧ r ≤ 49 / 50)
  else k != 0 && k != 65535

/-- 16 T of a thermistor ratio, where the formula gives a value. -/
def State.thermOf (s : State) (r : Rat) : Option Rat :=
  let rser := s.snsCfg SENSE_THERM_RSER_OHM
  let r25 := s.snsCfg SENSE_THERM_R25_OHM
  let beta := s.snsCfg SENSE_THERM_BETA_K
  let q : Rat := rser * r / (1 - r) / r25
  if r25 = 0 ∨ beta = 0 ∨ q ≤ 0 then none
  else
    let inv : Rat := 20 / 5963 + (lnFix q.num.toNat q.den : Rat) / (2 ^ 192 * beta)
    if inv ≤ 0 then none else some (16 / inv - 21852 / 5)

/-- The reading of a code, where Table 13-2 gives one that its format holds. -/
def State.readingOf (s : State) (h : SnsHold) (k : Nat) : Option Int :=
  if isTherm h.ch then
    match s.thermOf (h.pre k / 65536) with
    | some t => let v := awayRat t; if -32768 ≤ v ∧ v < 32768 then some v else none
    | none => none
  else if isVolt h.ch then
    let v := awayRat (s.ipre h k)
    if 0 ≤ v ∧ v < 65536 then some v else none
  else
    let v := awayRat ((s.ipre h k - h.bo) * (h.bg : Rat) / 32768)
    if -32768 ≤ v ∧ v < 32768 then some v else none

/-- The reading of a code; a free value where the spec states none (log entry 28). -/
def State.reading (s : State) (h : SnsHold) (k : Nat) : Int × State :=
  match s.readingOf h k with
  | some v => (v, s)
  | none => let f := s.freeVal % 65536; (if isVolt h.ch then (f : Int) else natSigned 16 f, s.takeFree)

/-- A of a channel (R406). -/
def State.avgLog (s : State) (c : Nat) : Nat :=
  min 10 (s.snsCfg (if isTherm c then SENSE_AVG_CFG_THERM else if isVolt c then SENSE_AVG_CFG_VOLT else SENSE_AVG_CFG_CURR))

/-- VALUE of a channel as a number. -/
def State.valueOf (s : State) (c : Nat) : Int := if isVolt c then s.fld (SENSE_VALUE_VALUE.nth c) else s.sfld (SENSE_VALUE_VALUE.nth c)

/-- A bound of a channel is crossed (R407). -/
def State.limitCheck (s : State) (c : Nat) (old new : Int) : State :=
  let raw (f : Fld) : Nat := s.snsCfg (f.nth (c - 16))
  let num (v : Nat) : Int := if isVolt c then v else natSigned 16 v
  let lo := raw SENSE_LIMIT_LIMIT_LO
  let hi := raw SENSE_LIMIT_LIMIT_HI
  let arg (high out : Bool) : Nat := c + (if high then 2 ^ 5 else 0) + (if out then 2 ^ 6 else 0) + intBits 16 new * 2 ^ 7
  let s1 := if lo ≠ 0 ∧ (decide (old < num lo) != decide (new < num lo)) then s.raise sensePage 9 (arg false (decide (new < num lo))) else s
  if hi ≠ 0xFFFF ∧ (decide (num hi < old) != decide (num hi < new)) then s1.raise sensePage 9 (arg true (decide (num hi < new))) else s1

/-- A group of a channel is complete (R406). -/
def State.publish (s : State) (c : Nat) (g : SenseGroup) : State :=
  let ok := g.valid == g.count
  let was := s.bit (SENSE_VALUE_VALID.nth c)
  let old := s.valueOf c
  let new := roundDiv g.sum (max 1 g.valid)
  let s1 := (s.setBit (SENSE_VALUE_VALID.nth c) ok).setBit (SENSE_VALUE_STANDIN.nth c) g.standin
  let s2 := if ok then s1.setInt (SENSE_VALUE_VALUE.nth c) new else s1
  let s3 := if was ≠ ok then s2.raise sensePage 8 (c + if ok then 2 ^ 5 else 0) else s2
  if ok ∧ 16 ≤ c then s3.limitCheck c old new else s3

/-- A sample joins its channel's group. -/
def State.average (s : State) (c : Nat) (v : Int) (valid standin : Bool) : State :=
  let g0 := mapGet (fun _ => (⟨0, 0, 0, false⟩ : SenseGroup)) s.sense.groups c
  let g : SenseGroup := ⟨g0.count + 1, g0.valid + if valid then 1 else 0, g0.sum + if valid then v else 0, standin⟩
  let full := decide (2 ^ s.avgLog c ≤ g.count)
  let put (x : SenseGroup) (t : State) : State :=
    t.modSense fun y => { y with groups := mapSet (fun _ => (⟨0, 0, 0, false⟩ : SenseGroup)) y.groups c x }
  if full then (put ⟨0, 0, 0, false⟩ s).publish c g else put g s

/-- The sample word of a conversion goes to FIFO4 (R409). -/
def State.sampleWord (s : State) (c : Nat) (v : Int) (standin trig valid : Bool) (at_ : Nat) : State :=
  let w := intBits 16 v + c * 2 ^ 16 + (if standin then 2 ^ 21 else 0) + (if trig then 2 ^ 22 else 0) + (if valid then 2 ^ 23 else 0) + at_ * 2 ^ 32
  match s.devPush 4 [BitVec.ofNat 64 w] with
  | some t => t
  | none =>
    let s1 := s.incFld (FIFO_DEV_DROP_COUNT_COUNT.inst 4) 1
    s1.raise (fifoPage 4) 11 (s1.fld (FIFO_DEV_DROP_COUNT_COUNT.inst 4))

/-- The stream of a channel's regular conversions (R409). -/
def State.stream (s : State) (c : Nat) (v : Int) (standin valid : Bool) : State :=
  if s.snsCfg SENSE_CTRL_STREAM_EN = 1 ∧ (s.snsCfg SENSE_STREAM_MASK_CH).testBit c then
    let k := mapGet (fun _ => 0) s.sense.div c + 1
    let due := decide (max 1 (s.snsCfg SENSE_STREAM_DIV_DIV) ≤ k)
    let s1 := s.modSense fun x => { x with div := mapSet (fun _ => 0) x.div c (if due then 0 else k) }
    if due then s1.sampleWord c v standin false valid s.st32 else s1
  else s

/-! Samples of the calibration steps (R414 to R416). -/

/-- Changes the step in progress. -/
def State.modStep (s : State) (f : CalStep → CalStep) : State := s.modCal fun x => { x with step := x.step.map f }

/-- Whether RUN_LIMIT_S has passed since the step began. -/
def State.runOver (s : State) (p : CalStep) : Bool := decide (p.began + cfgFld p.cfg CAL_RUN_LIMIT_S_S * unitsPerSec ≤ s.time.mono)

/-- A chopped conversion: normal polarity first, then inverted (R414). -/
def State.chopped (s : State) (p : CalStep) (k : Nat) : State :=
  if p.n < 2 ^ cfgFld p.cfg CAL_CHOP_CFG_CHOP_LOG2 then
    match p.first with
    | none => s.modStep fun x => { x with first := some k }
    | some a =>
      let e : Rat := ((a + k : Nat) : Rat) / 2
      s.modStep fun x => { x with first := none, n := x.n + 1, s1 := x.s1 + e, s2 := x.s2 + e * e }
  else s

/-- Whether every port of a rail is dark now (R415): GOE inactive, or its grayscale run over (R388). -/
def State.railDark (s : State) (p : CalStep) : Bool :=
  (List.range 16).all fun q => !railHas p.cfg (p.chan - 20) q ||
    (let st := s.fld (SCAN_STATUS_STATE.inst q)
     st == 0 || st == 3 || ((!(s.led q).goe || (s.led q).gclk) && decide ((s.led q).goeOff + cfgFld p.cfg CAL_DARK_CFG_SETTLE_NS * unitsPerNs ≤ s.time.mono)))

/-- A published current sample of the channel under calibration. -/
def State.boardSample (s : State) (c : Nat) (i : Rat) (valid : Bool) : State :=
  match s.cal.step with
  | some p =>
    if p.chan ≠ c then s
    else if p.step = stOffset then
      if valid ∧ p.n < cfgFld p.cfg CAL_DARK_CFG_N_OFF ∧ ¬ s.runOver p ∧ s.railDark p then
        s.modStep fun x => { x with n := x.n + 1, s1 := x.s1 + i, s2 := x.s2 + i * i }
      else s
    else if p.step = stGain ∧ p.winAt.isSome then
      s.modStep fun x => { x with
        wy := x.wy + (i - s.sfld (CAL_BOARD_BO.nth (c - 20)))
        wn := x.wn + 1
        wbad := x.wbad || !valid }
    else s
  | none => s

/-- A published conversion of channel `c` (R405 to R409). -/
def State.regular (s : State) (c k : Nat) (standin : Bool) : State :=
  let h := s.corrOf c
  let ok := State.sampleValid h k
  let r := s.reading h k
  let s1 := ((r.2.average c r.1 ok standin).stream c r.1 standin ok)
  if isCurr c then s1.boardSample c (s.ipre h k) ok else s1

/-- The step in progress, if it is a PATH step of channel `c` that collects. -/
def State.chopStep (s : State) (c : Nat) : Option CalStep :=
  match s.cal.step with | some p => if p.step = stPath ∧ p.chan = c ∧ p.ready then some p else none | none => none

/-- Conversions a channel has in one sequence (R403). -/
def slotsOf (c phase : Nat) : Nat :=
  if isTherm c then (if c % 4 = phase then 1 else 0) else if isVolt c then 1 else 4

/-- SENSE_CONVERSION (R405): the code of channel `ch`'s slot, or of a trigger slot. -/
def execSenseConversion (ch : Nat) (trig : Bool) (code : Nat) (s : State) : Host.Outcome State Fault Refusal :=
  let k := code % 65536
  let key := if trig then 25 else ch
  let n := mapGet (fun _ => 0) s.sense.done key
  let s1 := s.modSense fun x => { x with done := mapSet (fun _ => 0) x.done key (n + 1) }
  .next (if s.snsCfg SENSE_CTRL_EN ≠ 1 ∨ (s.sense.seq = none) then s
    else if trig then
      match s.snsHeld with
      | some h =>
        if n < 4 then
          let r := s1.reading h k
          let s2 := { r.2 with snsHeld := none }
          if s.snsCfg SENSE_CTRL_STREAM_EN = 1 ∧ s.snsCfg SENSE_STREAM_MASK_TRIG = 1 then
            s2.sampleWord h.ch r.1 (h.front == 24) true (State.sampleValid h k) h.at_
          else s2
        else s
      | none => s
    else if 24 < ch ∨ slotsOf ch s.sense.phase ≤ n then s
    else
      match s.chopStep ch with
      | some p => s1.chopped p k
      | none =>
        if ch = 24 then
          match s.sense.stand with
          | .on c => s1.regular c k true
          | .off c => s1.regular c k true
          | _ => s1
        else if s.frontOf ch = ch then s1.regular ch k false else s1)

/-! Sequences (R403, R412, R416, R428). -/

/-- Number of the 16 µs sequence an instant lies in. -/
def seqNo (t : Nat) : Nat := t / (16000 * unitsPerNs)

/-- The stand-in at a sequence boundary (R412, R485). -/
def State.standNext (s : State) : State :=
  let want : Option Nat := match s.cal.step with
    | some p => if p.step = stPath ∧ p.chan < 24 then some p.chan else none
    | none => none
  let set (x : StandIn) (t : State) : State :=
    (t.modSense fun y => { y with stand := x }).setFld SENSE_STATUS_STANDIN_FOR
      (match x with | .on n => n | .off n => n | _ => 0x1F)
  match s.sense.adopted with
  | some c => set (.on c) s
  | none =>
    match s.sense.stand with
    | .none =>
      match want with
      | some c => set (.settle c) s
      | none => if (s.cal.step.map fun p => (p.step, p.chan)) = some (stPath, 24) then s.modStep fun x => { x with ready := true } else s
    | .settle c => if want = some c then (set (.on c) s).modStep fun x => { x with ready := true } else set (.off c) s
    | .on c => if want = some c then s else set (.off c) s
    | .off _ => set .none s

/-- The charge of port `q` between two instants in nA·ns·65536 units: exact. -/
def State.chargeIn (s : State) (q a b : Nat) : Rat :=
  ((s.led q).charge.map fun v =>
    let ov := min b v.2.1 - max a v.1
    if v.2.1 ≤ v.1 then (0 : Rat) else (v.2.2 : Rat) / 256 * ov / ((v.2.1 - v.1 : Nat) : Rat)).sum

/-- A regression window that has come to its end joins the sums, unless it is skipped (R416). -/
def State.closeWindow (s : State) (p : CalStep) (a b : Nat) : State :=
  let r := p.chan - 20
  let next (f : CalStep → CalStep) : State := s.modStep fun x => { f x with winAt := some b, wy := 0, wn := 0, wbad := false }
  if p.wbad ∨ p.wn = 0 ∨ s.runOver p ∨ 2 ^ cfgFld p.cfg CAL_REG_CFG_REG_LOG2 ≤ p.n then next id
  else
    let q := (((List.range 16).filter fun k => railHas p.cfg r k).map fun k => s.chargeIn k a b).sum
    let ns : Rat := ((b - a : Nat) : Rat) / unitsPerNs
    let x : Rat := q / ns / 1000
    let y : Rat := p.wy / p.wn
    next fun z => { z with n := z.n + 1, sx := z.sx + x, sy := z.sy + y, sxx := z.sxx + x * x, sxy := z.sxy + x * y, syy := z.syy + y * y }

/-- BOARD_GAIN at a sequence boundary `b`: a window starts, ends, or goes on (R416). -/
def State.gainBoundary (s : State) (b : Nat) : State :=
  match s.cal.step with
  | some p =>
    if p.step = stGain then
      let bad := (List.range 16).any fun k => railHas p.cfg (p.chan - 20) k &&
        (let st := s.fld (SCAN_STATUS_STATE.inst k); st != 1 && st != 2)
      match p.winAt with
      | none => s.modStep fun x => { x with winAt := some b, wbad := bad }
      | some a =>
        if a + max 1 (cfgFld p.cfg CAL_REG_CFG_WIN_16) * 16000 * unitsPerNs ≤ b then
          (s.closeWindow { p with wbad := p.wbad || bad } a b).modStep fun x => { x with wbad := bad }
        else s.modStep fun x => { x with wbad := x.wbad || bad }
    else s
  | none => s

/-- Charge of slots that ended before the window in progress is forgotten. -/
def State.dropCharge (s : State) (b : Nat) : State :=
  let a := match s.cal.step with | some p => (match p.winAt with | some w => w | none => b) | none => b
  (List.range 16).foldl (fun (t : State) (n : Nat) =>
    if (t.led n).charge.isEmpty then t else t.modLed n fun x => { x with charge := x.charge.filter fun v => decide (a < v.2.1) }) s

/-- SENSE_SEQUENCE_START (R403): a sequence starts once per 16 µs of the grid. -/
def execSenseSequenceStart (s : State) : Host.Outcome State Fault Refusal :=
  let k := seqNo s.time.now
  let b := k * 16000 * unitsPerNs
  .next (if s.sense.seq = some k then s
    else
      let s1 := s.modSense fun x => { x with seq := some k, phase := k % 4, done := [], cfg := s.pageCopy sensePage }
      let s2 := s1.standNext
      let s3 := (s2.gainBoundary b).dropCharge b
      s3.calNext 8)

/-! Die sensors (R404, R486). -/

/-- The readings of the eight sensors in ascending order. -/
def State.dtsSorted (s : State) : List Int :=
  ((List.range 8).map fun k => s.sfld (SENSE_DTS_T.nth k)).mergeSort fun a b => decide (a ≤ b)

/-- Whether sensor `k` differs from the median of the eight by more than 10 °C; the median is the mean of
the middle two (log entry 28). -/
def State.dtsOdd (s : State) (k : Nat) : Bool :=
  let l := s.dtsSorted
  let m := l.getD 3 0 + l.getD 4 0
  decide (320 < (2 * s.sfld (SENSE_DTS_T.nth k) - m).natAbs) && (List.range 8).all fun j => s.bit (SENSE_DTS_VALID.nth j)

/-- Since when each sensor disagrees. -/
def State.dtsWatch (s : State) : State :=
  (List.range 8).foldl (fun (t : State) (k : Nat) =>
    let old := mapGet (fun _ => none) t.sense.dtsSince k
    let new := if s.dtsOdd k then (match old with | some a => some a | none => some s.time.mono) else none
    t.modSense fun x => { x with dtsSince := mapSet (fun _ => none) x.dtsSince k new }) s

/-- DTS_READING (R404): the operand is the reading in 1/16 °C. -/
def execDtsReading (k : Nat) (t : Int) (s : State) : Host.Outcome State Fault Refusal :=
  .next (if k < 8 then
      let s1 := ((s.setInt (SENSE_DTS_T.nth k) t).setBit (SENSE_DTS_VALID.nth k) true).dtsWatch
      ({ s1 with groom := { s1.groom with hot := s1.groom.hot || decide (1520 < t) } } : State).tempWatch
    else s)

/-- DTS_FAULT (R486). -/
def execDtsFault (k : Nat) (s : State) : Host.Outcome State Fault Refusal :=
  match mapGet (fun _ => none) s.sense.dtsSince k with
  | some a =>
    .next (if k < 8 ∧ ¬ s.dtsOff.contains k ∧ a + unitsPerSec ≤ s.time.mono then
      (({ s with dtsOff := s.dtsOff ++ [k] } : State).raise sensePage 11 k).tempWatch else s)
  | none => .next s

/-! Steps end (R411, R414 to R417). -/

/-- CAL_POSITION_START (R411, R421). -/
def execCalPositionStart (s : State) : Host.Outcome State Fault Refusal :=
  let due : Bool := match s.cal.posAt with
    | some a => decide (a + s.fld CAL_AUTO_PERIOD_S_S * unitsPerSec ≤ s.time.mono)
    | none => true
  .next (if s.bit CAL_CTRL_AUTO_EN ∧ due ∧ s.cal.step.isNone ∧ s.cal.auto.isEmpty ∧ ¬ s.calTasked ∧ ¬ s.calReadyTask then
      let p := s.cal.nextPos
      ((s.setFld CAL_STATUS_POSITION p).modCal fun x => { x with
        nextPos := if p = 24 then 0 else p + 1
        posAt := some s.time.mono
        auto := stepsOf p }).calNext 8
    else s)

/-- The outcome of a PATH step from the sum and sum of squares of `n` pairs (R414): reason, po_new, r. -/
def pathResult (cfg : List (Nat × Word)) (fuse : Int) (n : Nat) (s1 s2 : Rat) : Nat × Int × Nat :=
  let m := s1 / n
  let var := s2 / n - m * m
  let po := awayRat m
  let r := sqrtRat var
  let lim := cfgFld cfg CAL_CHOP_CFG_CHOP_RESID
  ((if cfgFld cfg CAL_OFF_WIN_PATH_WIN < (po - fuse).natAbs then crLimits else if (lim * lim : Nat) < var then crResidual else crOk), po, r)

/-- Rejects OUT_OF_LIMITS in a row: after three the spare adopts the channel (R485). -/
def State.pathRejects (s : State) (c reason : Nat) : State :=
  let n := if reason = crLimits then mapGet (fun _ => 0) s.cal.rejects c + 1 else 0
  let s1 := s.modCal fun x => { x with rejects := mapSet (fun _ => 0) x.rejects c n }
  if n = 3 ∧ c < 24 ∧ s.sense.adopted.isNone then
    (s1.modSense fun x => { x with adopted := some c }).raise calPage 15 c
  else s1

/-- A task whose step has staged an update has passed its commit point (R420, R422). -/
def State.stageStep (s : State) (p : CalStep) (q : Nat) (v : Int) : State :=
  let s1 := s.stage q p.chan v s.tcal
  if p.task then
    let after := s.sched.running.any fun r => r.1 == 40 && (mapGet (fun _ => (⟨0, 0, 0⟩ : Ctx)) s.sched.ctx r.2).w1.testBit 8
    ({ s1 with sched := { s1.sched with commit := s1.sched.commit ++ [40] } } : State).modCal fun x => { x with storeAfter := x.storeAfter || after }
  else s1

/-- PATH_STEP_END (R414). -/
def execPathStepEnd (s : State) : Host.Outcome State Fault Refusal :=
  match s.cal.step with
  | some p =>
    if p.step = stPath ∧ 2 ^ cfgFld p.cfg CAL_CHOP_CFG_CHOP_LOG2 ≤ p.n then
      let r := pathResult p.cfg (s.fusePo (nearestSet s.tcal) p.chan) p.n p.s1 p.s2
      let s1 := s.calReport p.chan stPath r.1 ⟨some r.2.1, none, none, some r.2.2⟩
      let s2 := if r.1 = crOk then s1.stageStep p qPo r.2.1 else s1
      let s3 := if p.chan ≠ 24 then s2
        else if r.1 = crOk then s2.setBit CAL_STATUS_SPARE_BAD false
        else (s2.setBit CAL_STATUS_SPARE_BAD true).raise calPage 13 r.2.2
      .next (s3.pathRejects p.chan r.1).calEnd
    else .next s
  | none => .next s

/-- BOARD_OFFSET_END (R415). -/
def execBoardOffsetEnd (s : State) : Host.Outcome State Fault Refusal :=
  match s.cal.step with
  | some p =>
    if p.step = stOffset ∧ 0 < p.n ∧ cfgFld p.cfg CAL_DARK_CFG_N_OFF ≤ p.n then
      let bo := awayRat (p.s1 / p.n)
      let ms : Rat := p.s2 / p.n - 2 * bo * (p.s1 / p.n) + bo * bo
      let win := cfgFld p.cfg CAL_OFF_WIN_BOARD_WIN
      let reason := if win < bo.natAbs then crLimits else if ((win * win : Nat) : Rat) < 16 * ms then crResidual else crOk
      let s1 := s.calReport p.chan stOffset reason ⟨some bo, none, none, some (sqrtRat ms)⟩
      .next (if reason = crOk then s1.stageStep p qBo bo else s1).calEnd
    else .next s
  | none => .next s

/-- The tests of BOARD_GAIN in order (R416): the reason, and what has been computed by then. -/
def gainResult (p : CalStep) : Nat × CalStats :=
  let n : Rat := p.n
  let mx := p.sx / n
  let my := p.sy / n
  let vx := p.sxx / n - mx * mx
  let cxy := p.sxy / n - mx * my
  let vy := p.syy / n - my * my
  let vxN := (awayRat vx).toNat
  if vx < cfgFld p.cfg CAL_VAR_MIN_MA2 ∨ vx = 0 then (crVariance, ⟨none, none, some vxN, none⟩)
  else
    let sl := cxy / vx
    let a := my - sl * mx
    if sl ≤ 0 then (crLimits, ⟨none, some (awayRat a), some vxN, none⟩)
    else
      let bg := awayRat (16384 / sl)
      let r2 := max (vy - sl * cxy) 0
      let all : CalStats := ⟨some bg, some (awayRat a), some vxN, some (sqrtRat r2)⟩
      let pct : Rat := cfgFld p.cfg CAL_FIT_CFG_RESID_PCT
      if bg < cfgFld p.cfg CAL_GAIN_WIN_GAIN_MIN ∨ (cfgFld p.cfg CAL_GAIN_WIN_GAIN_MAX : Int) < bg ∨ a < -(cfgFld p.cfg CAL_FIT_CFG_ICPT_WIN : Rat) ∨
          (cfgFld p.cfg CAL_FIT_CFG_ICPT_WIN : Rat) < a then (crLimits, all)
      else if pct * pct * vx < 10000 * r2 then (crResidual, all)
      else (crOk, all)

/-- BOARD_GAIN_END (R416). -/
def execBoardGainEnd (s : State) : Host.Outcome State Fault Refusal :=
  match s.cal.step with
  | some p =>
    if p.step = stGain ∧ 2 ^ cfgFld p.cfg CAL_REG_CFG_REG_LOG2 ≤ p.n then
      let r := gainResult p
      let s1 := s.calReport p.chan stGain r.1 r.2
      .next (if r.1 = crOk then s1.stageStep p qBg (r.2.value.getD 0) else s1).calEnd
    else .next s
  | none => .next s

/-- CAL_RUN_LIMIT (R415, R416): too few samples within RUN_LIMIT_S. -/
def execCalRunLimit (s : State) : Host.Outcome State Fault Refusal :=
  match s.cal.step with
  | some p =>
    let want := if p.step = stOffset then cfgFld p.cfg CAL_DARK_CFG_N_OFF else 2 ^ cfgFld p.cfg CAL_REG_CFG_REG_LOG2
    .next (if p.step ≠ stPath ∧ p.n < want ∧ s.runOver p then (s.calReport p.chan p.step crNoSamples ⟨none, none, none, none⟩).calEnd else s)
  | none => .next s

/-- CAL_RECOMPUTE (R418): while no transits are derived. -/
def execCalRecompute (s : State) : Host.Outcome State Fault Refusal :=
  .next (if s.time.nextTransit.isNone then s.calRecompute else s)

/-- CAL_STORE_DONE (R425): the slot is written and read back, `fails` read-backs of the NVM failing in a row. -/
def execCalStoreDone (fails : Nat) (s : State) : Host.Outcome State Fault Refusal :=
  match s.cal.store with
  | none => .next s
  | some (b, bytes, task, gen) =>
    let s0 := ((s.setBit CAL_STATUS_STORE_BUSY false).modCal fun x => { x with store := none, lastStore := some s.time.mono })
    let r := (if task then s0.setFld CAL_STATUS_STEP 0 else s0).nvmStore (calSlotAt b) bytes fails
    let s1 :=
      if r.1 then
        ((((r.2.setFld CAL_NVM_GEN_GEN gen).incFld CAL_STORE_COUNT_COUNT 1).setFld CAL_STATUS_NVM_SRC (if b then 2 else 1)).raise calPage 11
          (gen + if b then 2 ^ 32 else 0))
      else r.2.raise calPage 12 (if b then 1 else 0)
    let s2 : State :=
      if ¬ task then s1
      else if r.1 then
        let t := ((s1.setFld CAL_LAST_RESULT_STEP stStore).setFld CAL_LAST_RESULT_REASON crOk)
        { t with sched := { t.sched with done := t.sched.done ++ [(40, 0)] } }
      else { s1 with sched := { s1.sched with faults := s1.sched.faults ++ [(40, ecUnit, 8)] } }
    .next (match s2.cal.storeHeld with
      | some t => (s2.modCal fun x => { x with storeHeld := none }).storeStart t
      | none => s2)

end Sys2Proof.Machine
end

