-- ==== Sys2Proof/Machine/Service.lean ====
section
/-! DEFINITION. Bring-up and service (spec/16, spec/17): reset, boot phases, recovery mode, the groomer's tests and spares, NVM writes, wear records, self-refresh, and the meanings of their commands. -/

namespace Sys2Proof.Machine

open Sys2Proof

/-- Ball numbers of READY and BANK_BUSY in `Out.pin`, after TIO0 to TIO15 and FSYNC_OUT. -/
def pinFsync : Nat := 16
def pinBusy : Nat := 17
def pinReady : Nat := 18

/-- The GROOM page (Table 16-7). -/
def groomPage : Nat := 7

def State.modGroom (s : State) (f : GroomS → GroomS) : State := { s with groom := f s.groom }

/-! Phases (Table 16-1). -/

def phReset : Nat := 0
def phStraps : Nat := 1
def phPll : Nat := 2
def phSpeed : Nat := 3
def phSense : Nat := 4
def phBanks : Nat := 5
def phDramTrain : Nat := 6
def phDramEcc : Nat := 7
def phNvm : Nat := 8
def phMicrocode : Nat := 9
def phLinks : Nat := 10
def phCheck : Nat := 11
def phReady : Nat := 15

/-- The phase in progress. -/
def State.phase (s : State) : Nat := s.fld SYS_BOOT_PHASE_PHASE

/-- Recovery mode (R481). -/
def State.inRecovery (s : State) : Bool := s.bit SYS_STATUS_RECOVERY

/-- Whether the phases run: reset is released and the boot has neither ended nor stopped. -/
def State.booting (s : State) : Bool := s.phase != phReset && s.phase != phReady && !s.inRecovery

/-! Reset (R501, R502). -/

/-- Registers that keep their value through reset: fuses and the VBAT domain (R503). -/
def keptReg (k : Nat) : Bool :=
  let p := k / 4096
  let off := k % 4096
  (p == 0 && off == 0x040) || (p == keyPage && (off == 0x040 || off == 0x044 || off == 0x048)) ||
  (p == 0xB0 && (off == 0x208 || off == 0x20C))

/-- Reset: everything at its reset value but NVM with its sector map, the VBAT domain and the fuses (PLANET_ID is the
fused DEVICE_ID again) (R481, R491, R502). What NVM holds of a part's history the boot loads again. DRAM is rewritten by
the boot. The queue of commands, the outputs sent and the count of free values are the model's own. -/
def State.toReset (s : State) : State :=
  let z := State.reset
  let s1 : State := { z with
    pending := s.pending
    out := s.out
    free := s.free
    regs := s.regs.filter fun q => keptReg q.1
    dram := s.dram
    dramErr := s.dramErr
    nvm := s.nvm
    nvmMap := s.nvmMap
    mainPower := s.mainPower
    key := { z.key with root := s.key.root, rootOk := s.key.rootOk, lines := s.key.lines.filter fun j => j != 3 }
    cal := { z.cal with fusePo := s.cal.fusePo, fusePg := s.cal.fusePg }
    groom := { z.groom with
      wearHead := s.groom.wearHead
      lastHours := s.groom.lastHours
      romVersion := s.groom.romVersion } }
  (s1.setPair CL_PLANET_ID_LO_ID CL_PLANET_ID_HI_ID s.clDeviceId).setFld SYS_WEAR_PS_S0_PS (s.fld SYS_WEAR_PS_S0_PS)

/-- The ball states of Table 17-3 that a level tells: READY, BANK_BUSY and FSYNC_OUT driven low, the TIO
pins inputs. -/
def State.resetPins (s : State) : State := ((s.emit (.pin pinReady false)).emit (.pin pinBusy false)).emit (.pin pinFsync false)

/-- ROOT_STATE from the root's check and the tamper record (R450). -/
def State.checkRoot (s : State) : State :=
  s.setFld KEY_STATUS_ROOT_STATE (if s.key.rootOk then 1 else if s.fld KEY_TAMPER_LOG_CAUSE ≠ 0 then 2 else 0)

/-- The boot starts with phase STRAPS. -/
def State.bootStart (s : State) : State :=
  let s1 := s.checkRoot.setFld SYS_BOOT_PHASE_PHASE phStraps
  s1.tamperSync

/-- The fuses as read after reset release. -/
def State.readFuses (s : State) (f : Fuses) : State :=
  let s1 := s.setFld SYS_SILICON_REV_GRADE f.grade
  let s2 := ((s1.setPair CL_DEVICE_ID_LO_ID CL_DEVICE_ID_HI_ID f.deviceId).setPair CL_PLANET_ID_LO_ID CL_PLANET_ID_HI_ID f.deviceId).setFld
    SYS_WEAR_PS_S0_PS f.s0Ps
  let po := f.po.foldl (fun l p => mapSet (fun _ => 0) l p.1 p.2) []
  let pg := f.pg.foldl (fun l p => mapSet (fun _ => 0x4000) l p.1 p.2) []
  (s2.modCal fun x => { x with fusePo := po, fusePg := pg }).modGroom fun g => { g with romVersion := f.romVersion }

/-! Recovery mode (R481). -/

/-- A shadowed field written and in force at once. -/
def State.setNow (s : State) (f : Fld) (v : Nat) : State := (s.setFld f v).setAct f v

/-- Every scan, DMX, NET and CL port goes OFF (R481). -/
def State.portsOff (s : State) : State :=
  let s1 := (List.range 16).foldl (fun (t : State) (n : Nat) =>
    ((t.setNow (SCAN_CTRL_EN.inst n) 0).setNow (DMX_CTRL_ROLE.inst n) 0).setFld (SCAN_STATUS_STATE.inst n) 0) s
  let s2 := { s1 with scans := [], dmxs := [] }
  (List.range 4).foldl (fun (t : State) (p : Nat) =>
    ((t.netCtrl p (t.reg (NET_CTRL_MODE.inst p).key &&& ~~~7#32)).setBit (CL_CTRL_EN.inst p) false).clCtrl p) s2

/-- The device enters recovery mode (R481). -/
def State.enterRecovery (s : State) : State :=
  let s1 := (s.modPlan fun q => { q with frameDue := none }).portsOff
  let s2 := ((s1.setBit SYS_STATUS_RECOVERY true).setBit SYS_STATUS_READY false).emit (.pin pinReady false)
  (List.range 32).foldl (fun (t : State) (b : Nat) =>
    if t.fld (BANK_STATUS_MODE.inst b) = 1 then t
    else t.setFld (BANK_STATUS_MODE.inst b) (if t.owner b = 3 then 2 else 3)) s2

/-- A boot phase has failed (R479). -/
def State.bootFail (s : State) (phase cause : Nat) : State :=
  (((s.setBit SYS_STATUS_BOOT_FAIL true).setFld SYS_BOOT_PHASE_FAIL_PHASE phase).setFld SYS_BOOT_PHASE_CAUSE cause).enterRecovery

/-- The effect of a write of SYS.RECOVERY (R481): MSPI's alone is heard. -/
def State.writeRecovery (s : State) (q : Req) (v : Word) : State :=
  let op := natBits v.toNat 16 2
  if q = .pcie ∨ natBits v.toNat 0 16 ≠ 0xA5C3 then s
  else if op = 1 ∧ ¬ s.inRecovery then s.enterRecovery
  else if op = 2 ∧ s.inRecovery then
    ((s.toReset.resetPins.setFld SYS_STRAPS_STRAPS (s.fld SYS_STRAPS_STRAPS)).bootStart)
  else s

/-! Records of NVM in two copies (R425, R491). A copy is its generation, its body and the CRC-32 of both; the body's
layout is the model's (log entry 36). -/

/-- Whether a copy is valid. -/
def abValid (x : List Byte) : Bool := leField x 0 4 != 0 && leField x (x.length - 4) 4 == crc32 (x.take (x.length - 4))

/-- The newer valid copy, with `true` for B, of a record whose copy A lies at `a`, of a body of `n` bytes. -/
def State.abNewer (s : State) (a n : Nat) : Option (Bool × List Byte) :=
  let x := s.nvmBytes a (n + 8)
  let y := s.nvmBytes (a + 8192) (n + 8)
  if abValid x then
    if abValid y ∧ ¬ aNewer (leField x 0 4) (leField y 0 4) then some (true, y) else some (false, x)
  else if abValid y then some (true, y) else none

/-- The body in force of a record. -/
def State.abBody (s : State) (a n : Nat) : Option (List Byte) := (s.abNewer a n).map fun q => (q.2.drop 4).take n

/-- The write of a body: where the copy not in force lies, and its bytes. -/
def State.abWrite (s : State) (a : Nat) (body : List Byte) : Nat × List Byte :=
  let newer := s.abNewer a body.length
  let gen := match newer with | some q => (leField q.2 0 4 + 1) % 2 ^ 32 | none => 1
  let x := valBytes 4 gen ++ body
  (match newer with | some (false, _) => a + 8192 | _ => a, x ++ valBytes 4 (crc32 x))

/-- Places of the repair map and of the counters (Table 16-5). -/
def repairAt : Nat := 0x8000
def countersAt : Nat := 0xC000

/-- Bytes of the repair map's body. -/
def repairLen : Nat := 4117

/-- The repair map (Table 16-5): the bank spare maps, SEG_OK and retire counts of the engines, the adopted channel,
pending DRAM rows. -/
def State.repairBody (s : State) : List Byte :=
  ((List.range 32).flatMap fun b => (List.range spareCount).flatMap fun k =>
    valBytes 4 (s.reg ((BANK_SPARE_MAP_ROW.inst b).nth k).key).toNat) ++
  ((List.range 10).flatMap fun e => valBytes 1 (s.fld (ENG_SEG_MAP_SEG_OK.inst e))) ++
  ((List.range 10).flatMap fun e => valBytes 1 (s.reg (GROOM_ENG_RETIRE_COUNT.nth e).key).toNat) ++
  valBytes 1 (match s.sense.adopted with | some c => c + 1 | none => 0) ++
  ((List.range 512).flatMap fun i => valBytes 4 (match s.groom.dramSpared[i]? with | some q => q.1 + 8 * q.2 + 1 | none => 0))

/-- The counters POWER_HOURS and HOT_HOURS (Table 16-5). -/
def State.countersBody (s : State) : List Byte := valBytes 4 (s.fld SYS_POWER_HOURS_H) ++ valBytes 4 (s.fld SYS_HOT_HOURS_H)

/-- A repair map that differs from the one in force in NVM waits to be written: its target and its bytes. A part without
a valid copy has the map of a new part. -/
def State.repairDue (s : State) : Option (Nat × List Byte) :=
  if s.repairBody = (s.abBody repairAt repairLen).getD State.reset.repairBody then none
  else some (s.abWrite repairAt s.repairBody)

/-- The repair map is loaded. -/
def State.loadRepair (s : State) : State :=
  match s.abBody repairAt repairLen with
  | none => s
  | some x =>
    let word (i : Nat) : Nat := leField x (4 * i) 4
    let s1 := (List.range (32 * spareCount)).foldl (fun (t : State) (i : Nat) =>
      t.setReg ((BANK_SPARE_MAP_ROW.inst (i / spareCount)).nth (i % spareCount)).key (BitVec.ofNat 32 (word i))) s
    let s2 := (List.range 10).foldl (fun (t : State) (e : Nat) =>
      (t.setFld (ENG_SEG_MAP_SEG_OK.inst e) (leField x (2048 + e) 1)).setReg (GROOM_ENG_RETIRE_COUNT.nth e).key
        (BitVec.ofNat 32 (leField x (2058 + e) 1))) s1
    let c := leField x 2068 1
    let rows := (List.range 512).filterMap fun i =>
      let v := leField x (2069 + 4 * i) 4
      if v = 0 then none else some ((v - 1) % 8, (v - 1) / 8)
    (s2.modSense fun y => { y with adopted := if c = 0 then none else some (c - 1) }).modGroom fun g => { g with dramSpared := rows }

/-- The counters are loaded. -/
def State.loadCounters (s : State) : State :=
  match s.abBody countersAt 8 with
  | none => s
  | some x => (s.setFld SYS_POWER_HOURS_H (leField x 0 4)).setFld SYS_HOT_HOURS_H (leField x 4 4)

/-! Boot phases (R476 to R479). -/

/-- Roles after phase SPEED (R477). -/
def State.assignRoles (s : State) (pass : List Nat) : State :=
  let good := (List.range 10).filter fun e => pass.contains e && !s.bit (GROOM_ENG_RETIRE_PERMANENT.nth e)
  let bad := (List.range 10).filter fun e => !good.contains e
  let put (t : State) (e role slot : Nat) : State := (t.setFld (ENG_STATUS_ROLE.inst e) role).setFld (ENG_STATUS_SLOT.inst e) slot
  let s1 := bad.foldl (fun (t : State) (e : Nat) =>
    let u := put t e roleRetired 0
    if s.bit (GROOM_ENG_RETIRE_PERMANENT.nth e) then u else u.countRetire e) s
  let s2 := ((good.take 8).zip (List.range 8)).foldl (fun (t : State) (q : Nat × Nat) =>
    (put t q.1 roleIn q.2).setFld (PLAN_SLOT_ENGINE.nth q.2) q.1) s1
  let res := (good.drop 8).zip (List.range 2)
  let s3 := res.foldl (fun (t : State) (q : Nat × Nat) => put t q.1 roleReserve q.2) s2
  let s4 := (s3.modPlan fun x => { x with reserve := res.map fun q => (q.2, q.1) }).setFld PLAN_CAPS_SLOTS (min good.length 8)
  (List.range 10).foldl (fun (t : State) (e : Nat) =>
    match (List.range 4).find? fun k => (t.fld (ENG_SEG_MAP_SEG_OK.inst e)).testBit k with
    | some k => t.setFld (ENG_SEG_MAP_SEG.inst e) k
    | none => t) s4

/-- The results of the boot PATH are judged and kept (R414, R427). -/
def State.bootPaths (s : State) (l : List BootPath) : State :=
  l.foldl (fun (t : State) (b : BootPath) =>
    let cfg := t.pageCopy calPage
    let win := cfgFld cfg CAL_OFF_WIN_PATH_WIN
    let lim := cfgFld cfg CAL_CHOP_CFG_CHOP_RESID
    let reason := if win < (b.po - t.fusePo (nearestSet t.tcal) b.chan).natAbs then crLimits else if lim < b.r then crResidual else crOk
    let t1 := t.calReport b.chan stPath reason ⟨some b.po, none, none, some b.r⟩
    let t2 := if reason = crOk then t1.modCal fun x => { x with boot := (x.boot.filter fun q => q.1 != b.chan) ++ [(b.chan, b.po)] } else t1
    let t3 := if b.chan ≠ 24 then t2
      else if reason = crOk then t2.setBit CAL_STATUS_SPARE_BAD false
      else (t2.setBit CAL_STATUS_SPARE_BAD true).raise calPage 13 b.r
    t3.pathRejects b.chan reason) s

/-- SPARES_FREE of a bank from its map. -/
def State.countSpares (s : State) (b : Nat) : State :=
  s.setFld (BANK_STATUS_SPARES_FREE.inst b) ((List.range spareCount).filter fun k =>
    s.bit ((BANK_SPARE_MAP_GOOD.inst b).nth k) && !s.bit ((BANK_SPARE_MAP_USED.inst b).nth k) &&
      !s.bit ((BANK_SPARE_MAP_RETIRED.inst b).nth k)).length

/-- Phase BANKS: the march test of every bank and of its spares, failing rows spared, every word zero. -/
def State.bootBanks (s : State) (rows bad : List (Nat × Nat)) : State :=
  let s1 := (List.range 32).foldl (fun (t : State) (b : Nat) =>
    ((List.range spareCount).foldl (fun (u : State) (k : Nat) =>
      u.setBit ((BANK_SPARE_MAP_GOOD.inst b).nth k) (!bad.contains (b, k))) t).countSpares b) s
  let s2 := rows.foldl (fun (t : State) (q : Nat × Nat) => if q.1 < 32 then (t.spareStart q.1 q.2).spareSwitch q.1 else t) s1
  { s2 with bankMem := [], bankErr := [] }

/-- The values of a calibration slot go into the sets (Table 13-4). -/
def State.loadCalSlot (s : State) (b : Bool) (x : List Byte) : State :=
  let s1 := (List.range 4).foldl (fun (t : State) (k : Nat) =>
    (List.range 25).foldl (fun (u : State) (c : Nat) =>
      let at_ := 0x30 + 6 * (25 * k + c)
      let u1 := u.putSet qPo c k (natSigned 16 (leField x at_ 2))
      if 20 ≤ c ∧ c < 24 then
        (u1.putSet qBo c k (natSigned 16 (leField x (at_ + 2) 2))).putSet qBg c k (leField x (at_ + 4) 2)
      else u1) t) s
  let info := (List.range 4).foldl (fun l k => mapSet (fun _ => (⟨0, 0, 0⟩ : SetInfo)) l k
    ⟨natSigned 16 (leField x (0x10 + 8 * k) 2), leField x (0x12 + 8 * k) 2, leField x (0x14 + 8 * k) 4⟩) []
  ((s1.modCal fun y => { y with info := info }).setFld CAL_STATUS_NVM_SRC (if b then 2 else 1)).setFld CAL_NVM_GEN_GEN (leField x 8 4)

/-- With no valid slot the fused offsets stand and the board values are neutral (R427). -/
def State.loadCalFuses (s : State) : State :=
  let s1 := (List.range 4).foldl (fun (t : State) (k : Nat) =>
    (List.range 25).foldl (fun (u : State) (c : Nat) =>
      let u1 := u.putSet qPo c k (s.fusePo k c)
      if 20 ≤ c ∧ c < 24 then (u1.putSet qBo c k 0).putSet qBg c k 0x4000 else u1) t) s
  (s1.setFld CAL_STATUS_NVM_SRC 0).raise calPage 14 0

/-- The boot PATH results go into the loaded sets under R419, without a store (R427). -/
def State.applyBootPaths (s : State) : State :=
  let t := s.tcal
  let s1 := s.cal.boot.foldl (fun (u : State) (p : Nat × Int) =>
    (u.setMoves qPo p.1 p.2 t).foldl (fun (w : State) (m : Nat × Int) =>
      (w.putSet qPo p.1 m.1 m.2).modCal fun x => { x with info := mapSet (fun _ => (⟨0, 0, 0⟩ : SetInfo)) x.info m.1 (w.movedInfo m.1 t) }) u) s
  (s1.modCal fun x => { x with boot := [] }).calRecompute

/-- Phase NVM: counters, calibration slots, blob states, the adopted channel. -/
def State.bootNvm (s0 : State) : State :=
  let s := s0.loadCounters
  let s1 := match s.newerSlot with | some (b, x) => s.loadCalSlot b x | none => s.loadCalFuses
  let s2 := (List.range 32).foldl (fun (t : State) (i : Nat) => t.blobSync i) s1.applyBootPaths
  match s2.sense.adopted with | some c => s2.setFld SENSE_STATUS_STANDIN_FOR c | none => s2

/-- FREE_MIN and PENDING (Table 16-8). -/
def State.dramSpareSync (s : State) : State :=
  let n (c : Nat) : Nat := (s.groom.dramSpared.filter fun q => q.1 == c).length
  (s.setFld DRAM_SPARE_ROWS_FREE_MIN (64 - (List.range 8).foldl (fun m c => max m (n c)) 0)).setFld DRAM_SPARE_ROWS_PENDING
    (min s.groom.dramSpared.length 255)

/-- CHECK passes: READY (R478). -/
def State.bootReady (s : State) : State :=
  let s1 := ((s.setFld SYS_BOOT_PHASE_PHASE phReady).setBit SYS_STATUS_READY true).setFld SYS_BOOT_US_US ((s.time.mono - s.groom.releasedAt) / unitsPerNs / 1000)
  ((List.range 32).foldl (fun (t : State) (b : Nat) => t.bankMode b) s1).emit (.pin pinReady true)

/-- The next phase starts. -/
def State.nextPhase (s : State) : State := s.setFld SYS_BOOT_PHASE_PHASE (s.phase + 1)

/-- Spare sectors in use: the highest the map names (R490). -/
def State.sectorsUsed (s : State) : Nat := s.nvmMap.foldl (fun m q => max m q.2) 0

/-- Phase PLL has passed: the sector map is loaded, VOUT_MODE read, VDDC commanded to 750 mV (R482). With the sector map
the repair map is loaded, which the phases after it use (R476, R477; log entry 36). `vout` is 0 for a
format the master accepts, 1 where the read and its three repetitions are not acknowledged, else another format. -/
def State.bootPll (s : State) (pmbus vout : Nat) : State :=
  let s1 := (s.loadRepair.setFld NVM_SPARE_FREE_SECTORS (32 - s.sectorsUsed)).setReg SPEED_PMBUS_CFG_ADDR.key (BitVec.ofNat 32 (pmbus % 2 ^ 19))
  let s2 := s1.pmbusSend 0x20 0
  if vout = 0 then
    (s2.modAvs fun a => { a with inFlight := some (750, 0), lastCmd := s.time.mono }).pmbusSend 0x21 750
  else if vout = 1 then
    ((((s2.pmbusSend 0x20 0).pmbusSend 0x20 0).pmbusSend 0x20 0).modAvs fun a => { a with failed := true }).raise 13 11 0x20
  else s2.modAvs fun a => { a with format := false }

/-- BOOT_PHASE_END (R476 to R479). -/
def State.phaseEnd (s : State) (r : BootEnd) : State :=
  match r with
  | .straps =>
    if s.phase = phStraps then
      let s1 := s.measExtend 0 (sha256 (valBytes 4 s.groom.romVersion ++ valBytes 4 (s.fld SYS_STRAPS_STRAPS)))
      (if s1.rootValid then s1.deriveId else s1).nextPhase
    else s
  | .pll locks pmbus vout =>
    if s.phase = phPll then
      if ¬ locks then s.bootFail phPll 1
      else
        let s1 := s.bootPll pmbus vout
        if s1.groom.strapStop then (s1.setFld SYS_BOOT_PHASE_CAUSE 6).enterRecovery else s1.nextPhase
    else s
  | .speed pass samples vddcMv =>
    if s.phase = phSpeed then ((s.assignRoles pass).speedInterval samples vddcMv).nextPhase else s
  | .sense paths => if s.phase = phSense then (s.bootPaths paths).nextPhase else s
  | .banks rows bad => if s.phase = phBanks then (s.bootBanks rows bad).nextPhase else s
  | .dramTrain chOk gib =>
    if s.phase = phDramTrain then
      let size := max 1 (min gib 16)
      let s1 := ((s.setFld DRAM_STATUS_CH_OK chOk).setFld DRAM_CAPS_SIZE_GIB size).setFld DRAM_USABLE_MIB_MIB (size * 896)
      let s2 := (s1.modGroom fun g => { g with dramSpared := [] }).dramSpareSync
      if chOk % 256 = 255 then s2.nextPhase else s2.bootFail phDramTrain 2
    else s
  | .dramEcc ok =>
    if s.phase = phDramEcc then
      if ok then ({ s with dram := [], dramErr := [] } : State).nextPhase else s.bootFail phDramEcc 3
    else s
  | .nvm => if s.phase = phNvm then s.bootNvm.nextPhase else s
  | .microcode fail image =>
    if s.phase = phMicrocode then
      match fail with
      | some c => s.bootFail phMicrocode c
      | none => (s.measExtend 1 (sha256 image)).nextPhase
    else s
  | .links => if s.phase = phLinks then s.nextPhase else s
  | .check => if s.phase = phCheck then s.bootReady else s

/-! The meanings of reset and boot. -/

/-- RESET_RELEASE (R450, R498, R501). -/
def execResetRelease (straps : Nat) (recoveryN : Bool) (f : Fuses) (s : State) : Host.Outcome State Fault Refusal :=
  .next (if s.phase = phReset then
      let s1 := (s.setFld SYS_STRAPS_STRAPS (straps % 256 + if recoveryN then 256 else 0)).modGroom fun g => { g with strapStop := !recoveryN, releasedAt := s.time.mono }
      ({ s1.readFuses f with mainPower := true } : State).bootStart
    else s)

/-- RESET_ASSERT (R501). -/
def execResetAssert (s : State) : Host.Outcome State Fault Refusal := .next s.toReset.resetPins

/-- An NVM write in progress may be torn: the bytes it was writing are free values (R502). -/
def State.tearNvm (s : State) : State :=
  let tear (t : State) (a n : Nat) : State := t.takeFree.putNvm a (freeBytes t.freeVal n)
  let s1 := match s.nvmPend, s.repairDue with
    | p :: _, _ => tear s p.1 p.2.length
    | [], some p => tear s p.1 p.2.length
    | [], none => s
  match s1.cal.store with | some (b, bytes, _, _) => tear s1 (calSlotAt b) bytes.length | none => s1

/-- POWER_FAIL (R502). -/
def execPowerFail (s : State) : Host.Outcome State Fault Refusal := .next s.tearNvm.toReset.resetPins

/-- VBAT_CHANGEOVER (R503): a changeover loses nothing; without any supply the domain loses all it holds. -/
def execVbatChangeover (supply : VbatSupply) (s : State) : Host.Outcome State Fault Refusal :=
  match supply with
  | .vdda => .next { s with mainPower := true }
  | .vbat => .next (({ s with mainPower := false } : State).modKey fun k => { k with lines := k.lines.filter fun j => decide (j < 3) })
  | .none =>
    let s1 := { s with mainPower := false, key := { s.key with root := List.replicate 32 0, rootOk := false, ident := 0, lines := [] } }
    .next ((((s1.setReg KEY_ROOT_EPOCH_EPOCH.key 0).setReg KEY_TAMPER_CFG_TAMP0_EN.key 0).setReg KEY_TAMPER_LOG_CAUSE.key 0).checkRoot.publishId)

/-- BOOT_PHASE_END (R476). -/
def execBootPhaseEnd (r : BootEnd) (s : State) : Host.Outcome State Fault Refusal := .next (if s.booting then s.phaseEnd r else s)

/-- RECOVERY_ENTER (R481). -/
def execRecoveryEnter (q : Req) (v : Word) (s : State) : Host.Outcome State Fault Refusal :=
  .next (s.write q 0 0x04C v fun t => t.writeRecovery q v)

/-- RECOVERY_EXIT (R481). -/
def execRecoveryExit (q : Req) (v : Word) (s : State) : Host.Outcome State Fault Refusal :=
  .next (s.write q 0 0x04C v fun t => t.writeRecovery q v)

/-- The three 64-bit memory BARs in configuration space (R57, Table 02-1): the bits that read as they stand and
the bits that are written, of each dword of them and of the expansion ROM BAR, which is absent. -/
def barRow (dw : Nat) : Option (Nat × Nat) :=
  match dw with
  | 4 => some (0x4, 0xFF000000)
  | 5 => some (0, 0xFFFFFFFF)
  | 6 => some (0xC, 0)
  | 7 => some (0, 0xFFFFFFFF)
  | 8 => some (0x4, 0xFE000000)
  | 9 => some (0, 0xFFFFFFFF)
  | 12 => some (0, 0)
  | _ => none

/-- A dword of configuration space as last written; a BAR starts unassigned (log entry 3), another dword is
open. -/
def State.cfgDword (s : State) (dw : Nat) : Option Word :=
  match s.host.cfg.find? fun p => p.1 == dw, barRow dw with
  | some p, _ => some p.2
  | none, some b => some (BitVec.ofNat 32 b.1)
  | none, none => none

/-- What a write of a dword of configuration space stores. -/
def cfgStored (dw : Nat) (v : Word) : Word :=
  match barRow dw with
  | some b => (v &&& BitVec.ofNat 32 b.2) ||| BitVec.ofNat 32 b.1
  | none => v

/-- The effect of a configuration request (R57, R78, R481). -/
def State.config (s : State) (r : CfgReq) : State :=
  if s.phase < phSpeed ∧ ¬ s.inRecovery then s
  else if s.pcieHeld then s.hold269 (.config r)
  else
    match r with
    | .read dw =>
      match s.cfgDword dw with
      | some v => s.emit (.data .pcie [v])
      | none => s.takeFree.emit (.data .pcie [BitVec.ofNat 32 s.freeVal])
    | .write dw v =>
      { s with host := { s.host with
        cfg := (s.host.cfg.filter fun p => p.1 != dw) ++ [(dw, cfgStored dw v)]
        memEn := if dw = 1 then v.getLsbD 1 else s.host.memEn
        busMaster := if dw = 1 then v.getLsbD 2 else s.host.busMaster } }
    | .msix en mask =>
      let s1 := { s with host := { s.host with msixEn := en, fnMask := mask } }
      (List.range 64).foldl (fun (t : State) (v : Nat) =>
        if en ∧ t.pba v ∧ ¬ t.vecMasked v then (t.setPba v false).sendMsix v else t.tryVector v) s1

/-- CONFIGURATION_REQUEST (R57, R478, R481): answered from the end of phase PLL on, in recovery mode too. A dword
that nothing has written reads a free value (log entry 2), a BAR its size and type bits. A function mask that is
lifted lets the messages held back go (R78). -/
def execConfigurationRequest (r : CfgReq) (s : State) : Host.Outcome State Fault Refusal := .next (s.config r)

/-! Engine tests (R487). -/

/-- Whether engine `e` is a cold spare: in TEST, not under test, no group's reserve. -/
def State.coldSpare (s : State) (e : Nat) : Bool :=
  s.role e == roleTest && !s.engTest.contains e && !(s.plan.reserve.any fun q => q.2 == e) && !(s.groom.returned.any fun q => q.1 == e)

/-- The first place a returned engine goes to: a LOST slot, lowest first, or a reserve group without an
available reserve. -/
inductive Place where
  | slot (k : Nat) | group (g : Nat) | spare
  deriving DecidableEq, Repr

def State.place (s : State) : Place :=
  match (List.range 8).find? fun k => s.slotState k == ssLost && !(s.groom.returned.any fun q => q.2 == k) with
  | some k => .slot k
  | none => match (List.range 2).find? fun g => (s.reserveOf g).isNone with
    | some g => .group g
    | none => .spare

/-- A retired engine has passed often enough: it returns as a cold spare until a place's code is loaded. -/
def State.returnEngine (s : State) (e : Nat) : State :=
  let s1 := (s.modGroom fun g => { g with passes := mapSet (fun _ => 0) g.passes e 0 }).setRole e roleTest (s.engSlot e)
  let s2 := s1.modPlan fun q => { q with reserve := q.reserve.filter fun r => r.2 != e }
  if s2.place = .spare then s2.raise groomPage 8 (e + roleTest * 2 ^ 4) else s2

/-- ENG_TEST (R487): a reserve shows TEST for its test; a retired engine stays RETIRED. -/
def execEngTest (e : Nat) (s : State) : Host.Outcome State Fault Refusal :=
  .next (if e < 10 ∧ s.bit GROOM_CTRL_ENG_TEST_EN ∧ ¬ s.engTest.contains e then
      if s.role e = roleReserve then { s.setRole e roleTest (s.engSlot e) with engTest := s.engTest ++ [e] }
      else if s.role e = roleRetired ∧ ¬ s.bit (GROOM_ENG_RETIRE_PERMANENT.nth e) then { s with engTest := s.engTest ++ [e] }
      else s
    else s)

/-- ENG_TEST_END (R487). -/
def execEngTestEnd (e : Nat) (pass : Bool) (s : State) : Host.Outcome State Fault Refusal :=
  .next (if s.engTest.contains e then
      let s1 := { s with engTest := s.engTest.filter fun j => j != e }
      if s.role e = roleTest then
        if pass then s1.setRole e roleReserve (s.engSlot e)
        else ((s1.raise groomPage 9 e).retire e).shadowSync
      else if pass then
        let n := mapGet (fun _ => 0) s.groom.passes e + 1
        let s2 := s1.modGroom fun g => { g with passes := mapSet (fun _ => 0) g.passes e n }
        if max (s.fld GROOM_RETURN_RETURN_PASSES) 1 ≤ n ∧ ¬ s.bit (GROOM_ENG_RETIRE_PERMANENT.nth e) then s2.returnEngine e else s2
      else (s1.modGroom fun g => { g with passes := mapSet (fun _ => 0) g.passes e 0 }).raise groomPage 9 e
    else s)

/-- RETURNED_ENGINE_LOADED (R487): the code of the place is in the engine. -/
def execReturnedEngineLoaded (e : Nat) (s : State) : Host.Outcome State Fault Refusal :=
  .next (if e < 10 ∧ s.coldSpare e then
      match s.place with
      | .slot k =>
        match s.plan.active, (List.range 4).find? fun g => (s.fld (ENG_SEG_MAP_SEG_OK.inst e)).testBit g with
        | some p, some seg =>
          match p.slots[k]? with
          | some tab =>
            ((s.setFld (ENG_SEG_MAP_SEG.inst e) seg).modEng e fun x => x.loadSeg seg tab.code).modGroom fun g => { g with
              returned := g.returned ++ [(e, k)] }
          | none => s
        | _, _ => s
      | .group g =>
        let s1 := s.modPlan fun q => { q with reserve := (q.reserve.filter fun r => r.1 != g) ++ [(g, e)] }
        (((s1.setRole e roleReserve g).loadReserve g).shadowSync).raise groomPage 8 (e + roleReserve * 2 ^ 4)
      | .spare => s
    else s)

/-- SEG_TEST (R488): of a powered-down segment, one that neither runs nor holds staged or shadowed code. -/
def execSegTest (e seg : Nat) (pass : Bool) (s : State) : Host.Outcome State Fault Refusal :=
  let free : Bool := decide (e < 10 ∧ seg < 4) && !(s.plan.reserve.any fun q => q.2 == e) &&
    ((s.role e != roleIn && !(s.groom.returned.any fun q => q.1 == e)) || (s.fld (ENG_SEG_MAP_SEG.inst e) != seg &&
      !((s.plan.stagedSeg ++ s.plan.segDue).any fun r => s.slotEngine r.1 == e && r.2 == seg)))
  .next (if free then
      let s1 := s.setBit ((ENG_SEG_MAP_SEG_OK.inst e).one seg) pass
      if pass then s1 else s1.raise groomPage 10 (e + seg * 2 ^ 4)
    else s)

/-! DRAM rows (R489). -/

/-- Runtime spares of channel `c` that are free. -/
def State.dramFree (s : State) (c : Nat) : Nat := 64 - (s.groom.dramSpared.filter fun q => q.1 == c).length -
  (s.groom.dramMirror.filter fun q => q.1 == c).length

/-- A DRAM row fails: its copy to a runtime spare begins, or with none free BLOCK_FAULT is raised. -/
def State.dramRowFails (s : State) (ch row : Nat) : State :=
  if s.groom.dramMirror.contains (ch, row) then s
  else if s.dramFree ch = 0 then s.raise dramPage 6 ch
  else s.modGroom fun g => { g with dramMirror := g.dramMirror ++ [(ch, row)] }

/-- DRAM_SCRUB (R489, R515): the word at `addr`, which lies in row `row` of channel `ch`. -/
def execDramScrub (addr ch row : Nat) (newPass failsTest : Bool) (s : State) : Host.Outcome State Fault Refusal :=
  if ¬ s.bit GROOM_CTRL_DRAM_SCRUB_EN ∨ ¬ s.inDram (addr / 8 * 8) 8 ∨ 8 ≤ ch then .next s
  else
    let s0 := if newPass then s.modGroom fun g => { g with dramCorr := [] } else s
    let err := s0.dramErrAt addr
    let s1 := (s0.readDramWord addr).2.2
    let old := match s0.groom.dramCorr.find? fun q => q.1 == ch && q.2.1 == row with | some q => q.2.2 | none => 0
    let n := old + if err = 1 then 1 else 0
    let s2 := if err = 1 then (s1.putDramErr addr 0).modGroom fun g => { g with
        dramCorr := (g.dramCorr.filter fun q => !(q.1 == ch && q.2.1 == row)) ++ [(ch, row, n)] }
      else s1
    .next (if failsTest ∨ err = 2 ∨ (err = 1 ∧ max (s.fld GROOM_ROW_CORR_LIMIT_COUNT) 1 ≤ n) then s2.dramRowFails ch row else s2)

/-- DRAM_ROW_SPARED (R489): a row already on a spare frees that spare's place in the map for the new one. -/
def execDramRowSpared (ch row : Nat) (s : State) : Host.Outcome State Fault Refusal :=
  .next (if s.groom.dramMirror.contains (ch, row) then
      let s1 := s.modGroom fun g => { g with
        dramMirror := g.dramMirror.filter fun q => q != (ch, row)
        dramSpared := g.dramSpared ++ [(ch, row)]
        dramCorr := g.dramCorr.filter fun q => !(q.1 == ch && q.2.1 == row) }
      let s2 := s1.dramSpareSync.raise dramPage 8 ch
      if 64 - (s1.groom.dramSpared.filter fun q => q.1 == ch).length = 8 then s2.raise dramPage 9 ch else s2
    else s)

/-! NVM writes, hours, wear (R490 to R493). -/

/-- NVM_WRITE_DONE (R490): of the oldest write the hardware has waiting, or of a repair map that has changed (R491). -/
def execNvmWriteDone (fails : Nat) (s : State) : Host.Outcome State Fault Refusal :=
  match s.nvmPend with
  | [] =>
    match s.repairDue with
    | none => .next s
    | some p => .next (s.nvmStore p.1 p.2 fails).2
  | p :: l => .next (({ s with nvmPend := l } : State).nvmStore p.1 p.2 fails).2

/-- HOUR_TICK (R491, R492): the counters are written to the copy not in force. The corrected errors of a segment are counted anew, one that has reached ROW_CORR_LIMIT
waiting for the next staging (R488). -/
def execHourTick (s : State) : Host.Outcome State Fault Refusal :=
  if s.phase = phReset then .next s
  else
    let s1 := s.incFld SYS_POWER_HOURS_H 1
    let s2 := if s.groom.hot then s1.incFld SYS_HOT_HOURS_H 1 else s1
    let limit := max (s.fld GROOM_ROW_CORR_LIMIT_COUNT) 1
    let w := s2.abWrite countersAt s2.countersBody
    .next ((s2.nvmLater w.1 w.2).modGroom fun g => { g with
      hot := false
      lastWorst := g.worst
      worst := none
      segCorr := g.segCorr.filter fun q => decide (limit ≤ q.2) })

/-- Scale of the fourth roots of R493. -/
def rootScale : Nat := 2 ^ 64

/-- The fourth root of `h` / 24 days, rounded down to 2^-64 / 24. -/
def fourthRoot (h : Nat) : Rat := (Nat.sqrt (Nat.sqrt (h * 24 ^ 3 * rootScale ^ 4)) : Nat) / ((24 * rootScale : Nat) : Rat)

/-- The valid records of the ring as POWER_HOURS and WEAR_PS (R492). -/
def State.wearRecords (s : State) : List (Nat × Nat) :=
  (List.range 2048).filterMap fun i =>
    let x := s.nvmBytes (0x10000 + 16 * i) 16
    if leField x 12 4 = crc32 (x.take 12) then some (leField x 0 4, leField x 4 2) else none

/-- A value not a whole number is rounded to one of the two beside it; the spec says not which (log entry 30). -/
def openRound (q : Rat) (free : Nat) : Nat := q.floor.toNat + if q = q.floor then 0 else free % 2

/-- The fit of R493 as EOL_DAYS before the limits: `none` where the part does not slow. -/
def wearFit (s0 now : Nat) (l : List (Nat × Nat)) : Option Rat :=
  let num : Rat := (l.map fun p => ((p.2 : Rat) - s0) * fourthRoot p.1).sum
  let den : Rat := (l.map fun p => fourthRoot p.1 * fourthRoot p.1).sum
  let a := num / den
  if a ≤ 0 then none
  else
    let x : Rat := (1200 - (s0 : Rat)) / a
    some (x * x * x * x - (now : Rat) / 24)

/-- EOL_DAYS is fitted anew (R493). -/
def State.refit (s : State) : State :=
  let l := s.wearRecords
  if l.length < 8 then s
  else
    let now := s.fld SYS_POWER_HOURS_H
    let days := match wearFit (s.fld SYS_WEAR_PS_S0_PS) now l with
      | none => 0xFFFF
      | some q => openRound (max 0 (min q 0xFFFF)) s.freeVal
    let s1 := (s.takeFree.setFld SYS_EOL_DAYS_DAYS days).setBit SYS_EOL_DAYS_VALID true
    if now + 24 * days < 24 * 9131 ∧ ¬ s.bit SYS_STATUS_WEAR_WARN then (s1.setBit SYS_STATUS_WEAR_WARN true).raise 0 8 days else s1

/-- The record of this hour (R492). -/
def State.wearBytes (s : State) (ps eng : Nat) : List Byte :=
  let spares := (List.range 32).foldl (fun m b => min m (s.fld (BANK_STATUS_SPARES_FREE.inst b))) 16
  let body := valBytes 4 (s.fld SYS_POWER_HOURS_H) ++ valBytes 2 ps ++ valBytes 1 eng ++ valBytes 1 spares ++ valBytes 4 (s.fld SYS_HOT_HOURS_H)
  body ++ valBytes 4 (crc32 body)

/-- WEAR_RECORD (R492, R493): every 240 hours; `fails` read-backs of its write fail. -/
def execWearRecord (fails : Nat) (s : State) : Host.Outcome State Fault Refusal :=
  let h := s.fld SYS_POWER_HOURS_H
  if h % 240 = 0 ∧ s.groom.lastHours < h then
    let w := s.groom.lastWorst.getD (0, 0)
    let ps := openRound w.1 s.freeVal
    let s1 := s.takeFree.setFld SYS_WEAR_PS_PS ps
    let r := s1.nvmStore (0x10000 + 16 * s.groom.wearHead) (s1.wearBytes ps w.2) fails
    .next ((r.2.modGroom fun g => { g with wearHead := (g.wearHead + 1) % 2048, lastHours := h }).refit)
  else .next s

/-! Self-refresh (R495). -/

/-- Whether a DRAM window is open (R181): a LAP window from the start of its START_LAP to the end of its END_LAP, by
the plan whose frame its engine runs, or a TIMED window of the plan in force. -/
def State.dramWindowOpen (s : State) : Bool :=
  ((List.range 10).any fun e => s.role e == roleIn && s.engBusy e && (s.scWindow e 0 || s.scWindow e 1)) ||
    s.anyTimed fun _ => true

/-- Latency tolerance of NET port `p` in µs (R299): the free space of its receive buffer at line rate. -/
def State.netTolUs (s : State) (p : Nat) : Nat :=
  if s.netUp p then (65536 - s.rxLevel p 0) * 8 * s.bitPs p / 1000000 else 0xFFFFFFFF

/-- Whether every declared tolerance is at least 2 µs and SR_GUARD_US (R495). -/
def State.mayRefresh (s : State) : Bool :=
  let need := 2 + s.fld DRAM_SR_GUARD_US_US
  !s.dramWindowOpen && ((List.range 16).all fun n => decide (need ≤ s.latTolUs n)) && (List.range 4).all fun p => decide (need ≤ s.netTolUs p)

/-- SELF_REFRESH_ENTER (R495). -/
def execSelfRefreshEnter (s : State) : Host.Outcome State Fault Refusal :=
  .next (if s.mayRefresh ∧ ¬ s.bit DRAM_STATUS_SELF_REFRESH then
      (s.setBit DRAM_STATUS_SELF_REFRESH true).modGroom fun g => { g with srAt := some s.time.mono }
    else s)

/-- SELF_REFRESH_EXIT (R495): a tolerance has fallen or an access has arrived. -/
def execSelfRefreshExit (s : State) : Host.Outcome State Fault Refusal :=
  match s.groom.srAt with
  | none => .next s
  | some a =>
    let t := s.groom.srUnits + (s.time.mono - a)
    .next (((s.setBit DRAM_STATUS_SELF_REFRESH false).setFld DRAM_SR_MS_MS (t / unitsPerNs / 1000000)).modGroom fun g => { g with
      srAt := none, srUnits := t })

end Sys2Proof.Machine
end

