-- ==== Sys2Proof/Machine/Commit.lean ====
section
/-! DEFINITION. Commits (spec/02, R68 to R75): arming, cancelling, cut-offs, the checks and effects of a take on each page, the seam of a rate change, and the meanings of their commands. -/

namespace Sys2Proof.Machine

open Sys2Proof

/-! Changes of a commit unit. -/

/-- `s` with STATE and REASON of page `p` set. -/
def State.setCommit (s : State) (p st reason : Nat) : State :=
  (s.setFld (PG_COMMIT_STATUS_STATE.inst p) st).setFld (PG_COMMIT_STATUS_REASON.inst p) reason

/-- A commit is refused (R72): COMMIT_REFUSED with the reason and the mode. -/
def State.refuseCommit (s : State) (p mode reason : Nat) : State :=
  ((s.setCommit p cmRefused reason).setUnit p { s.unit p with due := none, skip := false }).raise p 1 (reason + mode * 16)

/-- The port of a SCAN or LED page, while it runs: its commits for a transit are taken at latch points (R371, R387). -/
def State.latchPort (s : State) (p : Nat) : Option Nat :=
  if (pageBase p = 0x90 ∨ pageBase p = 0xA0) ∧ (s.scan (p % 16)).on then some (p % 16) else none

/-- The port at whose next latch point the commits of a page for a transit are taken; inside a seam there is none, and
they are taken at its end (R74, R378). -/
def State.cutPort (s : State) (p : Nat) : Option Nat :=
  match s.latchPort p with
  | some k => if (s.scan k).seam then none else some k
  | none => none

/-! Arming (R70, R71, R73). -/

/-- The commit modes a page accepts, each as its chapter says; all four where it says nothing. -/
def State.modeOk (s : State) (p m : Nat) : Bool :=
  let b := pageBase p
  let transit := m == mdTransit || m == mdTransitN
  if b = 0 ∨ b = 6 ∨ b = 7 ∨ b = 8 ∨ b = 9 ∨ b = 11 ∨ b = 12 ∨ b = 0x10 then false
  else if b = 2 ∨ b = 4 ∨ b = 10 then transit
  else if b = 0x40 then m == mdNow
  else if b = 0x90 ∨ b = 0xA0 then !transit || s.act (SCAN_MODE_LOCK.inst (p % 16)) != 1
  else true

/-- The commit lead of a page, in units of 2^-16 ns: 50 µs for PLAN (R191). -/
def commitLead (p : Nat) : Nat := if p = 4 then 50000 * unitsPerNs else 0

/-- Whether the cut-off of transit `n` has passed for page `p`: its mark has been taken, the lead of the
next transit has begun, or the latch point of port frame `n` has gone by (R71, R371). -/
def State.cutPassed (s : State) (p n : Nat) : Bool :=
  match s.cutPort p with
  | some k => let x := s.scan k; decide (n < x.next) || (n == x.next && x.latched)
  | none => match s.time.nextTransit with
    | some t => n == t.1 && ((s.unit p).cut || decide (t.2 < s.time.now + commitLead p))
    | none => false

/-- The next cut-off of page `p` belongs to this transit or port frame. -/
def State.nextCut (s : State) (p : Nat) : Option Nat :=
  match s.cutPort p with
  | some k => some (s.scan k).next
  | none => s.time.nextTransit.map fun t => t.1

/-- Whether a planet that others follow would have to name a transit nearer than 100 µs (R440). -/
def State.rateTooNear (s : State) (p n : Nat) : Bool :=
  p == 2 && s.isPlanet && decide (1 < s.fld CL_GROUP_STATUS_MEMBERS) &&
    decide (transitInstant s.rate n < s.time.now + 100000 * unitsPerNs)

/-- A frame-rate commit armed on a planet that others follow names its transit to the moons (R440); a
pair that breaks R34 is named to none. -/
def State.nameRate (s : State) (p n : Nat) : State :=
  let num := s.fld TIME_FRAME_RATE_NUM_NUM
  let den := s.fld TIME_FRAME_RATE_DEN_DEN
  if p = 2 ∧ s.isPlanet ∧ 1 < s.fld CL_GROUP_STATUS_MEMBERS ∧ rateOk num den then s.floodRate num den n else s

/-- The arming is accepted. -/
def State.armUnit (s : State) (p m target : Nat) (skip : Bool) : State :=
  (s.setCommit p cmArmed 0).setUnit p { s.unit p with mode := m, target := target, skip := skip, due := none }

/-- Arming in mode AT_TRANSIT: at the first transit whose cut-off it precedes. -/
def State.armTransit (s : State) (p : Nat) (cutTogether : Bool) : State :=
  match s.time.nextTransit with
  | none => s.armUnit p mdTransit 0 false
  | some t =>
    let skip := if (s.cutPort p).isSome then cutTogether
      else s.cutPassed p t.1 || cutTogether || s.rateTooNear p t.1
    (s.armUnit p mdTransit 0 skip).nameRate p (t.1 + if skip then 1 else 0)

/-- Arming in mode AT_TRANSIT_N. -/
def State.armTransitN (s : State) (p : Nat) (cutTogether : Bool) : State :=
  let d := (s.fld (PG_COMMIT_TIME_TIME.inst p) + 2 ^ 32 - lo32 s.frameNo) % 2 ^ 32
  let n := s.frameNo + d
  if s.time.transit.isNone then s.refuseCommit p mdTransitN rsNoTime
  else if d = 0 ∨ 2 ^ 31 ≤ d ∨ s.cutPassed p n ∨ (cutTogether ∧ s.nextCut p = some n) ∨ s.rateTooNear p n then
    s.refuseCommit p mdTransitN rsLate
  else (s.armUnit p mdTransitN n false).nameRate p n

/-- Arming in mode AT_TIME: the target is captured as a full count of ns. -/
def State.armTime (s : State) (p : Nat) : State :=
  let d := (s.fld (PG_COMMIT_TIME_TIME.inst p) + 2 ^ 32 - s.st32) % 2 ^ 32
  if s.time.transit.isNone then s.refuseCommit p mdTime rsNoTime
  else if d = 0 ∨ 2 ^ 31 ≤ d then s.refuseCommit p mdTime rsLate
  else s.armUnit p mdTime (s.nowNs + d) false

/-! What a take checks (R69), page by page. -/

/-- REASON a BANK commit is refused with (R220, R222). -/
def State.bankCommit (s : State) (b : Nat) : Nat :=
  let code := s.fld (BANK_NEXT_OWNER_CODE.inst b)
  let staged : Bool := match s.plan.staged with | some p => p.bankList.contains b | none => false
  if 3 < code then rsValue
  else if s.isPlanBank b ∨ staged ∨ (code = 3 ∧ (s.bank b).borrow.isSome) then rsBlock
  else 0

/-- REASON a frame-rate commit is refused with (R32, R34, R41). -/
def State.rateCommit (s : State) : Nat :=
  let num := s.fld TIME_FRAME_RATE_NUM_NUM
  let den := s.fld TIME_FRAME_RATE_DEN_DEN
  let out : Bool := match s.plan.active with | some p => !p.admits (num, den) | none => false
  if ¬ rateOk num den then rsValue else if s.moonUp ∨ out then rsBlock else 0

/-- REASON a commit of page `p` is refused with when it is taken; 0 for none. -/
def State.commitReason (s : State) (p : Nat) : Nat :=
  let b := pageBase p
  let n := p - b
  if b = 1 then if s.fld DRAM_USABLE_MIB_MIB < (s.fld HOST_BAR2_WIN_WIN_GIB + 4) * 1024 then rsValue else 0
  else if b = 2 then s.rateCommit
  else if b = 4 then if s.bit PLAN_SWITCH_SWITCH ∧ s.switchBlocked s.rate then rsBlock else 0
  else if b = 5 then if 1 ≤ s.fld SCHED_TICK_CFG_US ∧ s.fld SCHED_TICK_CFG_US ≤ 1000 then 0 else rsValue
  else if b = 0x20 then s.bankCommit n
  else if b = 0x40 then s.fifoCommit n
  else if b = 0x50 then s.netCommit n
  else if b = 0x58 then s.flowCommit
  else if b = 0x60 then s.ingestCommit n
  else if b = 0x68 then s.egressCommit n
  else if b = 0x80 then s.dmxCommit n
  else if b = 0x90 then s.scanCommit n false
  else if b = 0xA0 then s.ledCommit n false
  else if b = 0xB0 then s.clCommit n
  else 0

/-! The seam of a rate change (R38 to R40, R74, R193). -/

/-- The active plan is suspended while the rate is outside its range (R193). -/
def State.rateMismatch (s : State) : State :=
  match s.plan.active with
  | some p =>
    if p.admits s.rate ∨ s.plan.mismatch then s
    else (((s.modPlan fun q => { q with mismatch := true, frameDue := none }).setFld PLAN_STATUS_STATE 2).raise planPage 20 (lo32 s.frameNo))
  | none => s

/-- The suspended plan resumes at the first transit at which the rate lies inside its range (R193). -/
def State.rateResume (s : State) : State :=
  match s.plan.active with
  | some p =>
    if s.plan.mismatch ∧ p.admits s.rate then
      (s.modPlan fun q => { q with mismatch := false }).setFld PLAN_STATUS_STATE (if s.plan.stopWriting then 3 else 1)
    else s
  | none => s

/-- Armed AT_TRANSIT_N commits whose transit is below `m` are refused with SEAM. -/
def State.refuseSeam (s : State) (lost : CommitUnit → Bool) : State :=
  (List.range 256).foldl (fun (t : State) (p : Nat) =>
    let u := t.unit p
    if t.armed p && u.mode == mdTransitN && u.due.isNone && lost u then t.refuseCommit p mdTransitN rsSeam else t) s

/-- A seam begins whose first transit is `m` at `inst` (R38, R106): SEAM reads 1, ports hold, no plan frame
starts before `m`, and outputs launched at Ta are the last (R40): pictures that would launch later are dropped. -/
def State.openSeam (s : State) (m inst : Nat) (rate : Bool) : State :=
  let s1 := (s.modTime fun t => { t with nextTransit := some (m, inst), seam := some (m, rate) }).setBit TIME_TRANSIT_STATE_SEAM true
  let ta := match s.time.transit with | some t => t.2 | none => s.time.now
  (s1.modPlan fun q => { q with frameDue := none, frames := q.frames.filter fun f => decide (f.launch ≤ ta) }).egressSeam ta |>.scanSeam

/-- The rate becomes NUM / DEN at transit `n` of the old grid (R38): the first transit of the new grid is
its first alignment point at or after Ta + P / 2. The same rate opens no seam. -/
def State.rateSeam (s : State) (old : Nat × Nat) (n : Nat) : State :=
  let new := s.rate
  if old.1 * new.2 = new.1 * old.2 then s
  else
    let m := firstAlignment new (n * old.2) old.1
    let inst := transitInstant new m
    let s1 := (s.openSeam m inst true).rejudgeEach inst (transitInstant old n)
    let s2 := (List.range 8).foldl (fun (t : State) (k : Nat) => t.egressSync k) (s1.refuseSeam fun _ => true)
    s2.rateMismatch

/-! Taking (R72). -/

/-- Every shadowed field of page `p` comes into force together (R68). -/
def State.shadowIn (s : State) (p : Nat) : State :=
  let rest := s.inForce.filter fun q => q.1 / 4096 != p
  { s with inForce := (s.pageCopy p).foldl (fun l q => mapSet regReset l q.1 q.2) rest }

/-- What the block does when its commit comes into force; `before` is the state before it, `m` the transit
it was taken at, if at one. -/
def State.commitEffect (s before : State) (p : Nat) (m : Option Nat) : State :=
  let b := pageBase p
  let n := p - b
  if b = 2 then s.rateSeam before.rate (match m with | some t => t | none => s.frameNo)
  else if b = 4 then if s.actBit PLAN_SWITCH_SWITCH then s.planSwitch.scanMoved else s
  else if b = 10 then
    if s.actBit CAL_APPLY_APPLY then ((s.calApply).setFld CAL_APPLY_APPLY 0).setAct CAL_APPLY_APPLY 0 else s
  else if b = 0x20 then s.handover n (s.act (BANK_NEXT_OWNER_CODE.inst n)) 0
  else if b = 0x40 then s.fifoSync n
  else if b = 0x58 then s.flowTaken before
  else if b = 0x60 then s.ingestTaken before n
  else if b = 0x68 then s.egressSync n
  else if b = 0x90 then s.scanTaken before n m
  else if b = 0xA0 then s.ledTaken n
  else if b = 0xB0 then s.clTaken before n
  else s

/-- The commit of page `p` comes into force in frame `frame` (R72). -/
def State.commitIn (s : State) (p frame : Nat) (m : Option Nat) : State :=
  let u := s.unit p
  let s1 := ((s.shadowIn p).setCommit p cmTaken 0).setFld (PG_COMMIT_STATUS_TAKEN_FRAME.inst p) frame
  let s2 := (s1.setUnit p { u with due := none, skip := false, taken := BitVec.ofNat 32 s.st32 }).setBit
    (PG_COMMIT_STATUS_DIRTY.inst p) false
  (s2.raise p 0 (lo32 frame + u.mode * 2 ^ 32)).commitEffect s p m

/-- The armed commit of page `p` is taken, or refused with `reason` (R69, R72). -/
def State.takeWith (s : State) (p frame : Nat) (m : Option Nat) (reason : Nat) : State :=
  if reason = 0 then s.commitIn p frame m else s.refuseCommit p (s.unit p).mode reason

/-- Whether the armed commit of page `p` is due now, apart from latch points. -/
def State.takeable (s : State) (p : Nat) : Bool :=
  let u := s.unit p
  s.armed p && (if u.mode = mdNow then true else if u.mode = mdTime then decide (u.target ≤ s.nowNs) else u.due.isSome)

/-- The armed commit of page `p` that is due is taken: in the frame of its transit, or in the frame in progress. -/
def State.takeCommit (s : State) (p : Nat) : State :=
  if s.takeable p then
    let u := s.unit p
    let frame := match u.due with | some n => n | none => s.frameNo
    s.takeWith p frame u.due (s.commitReason p)
  else s

/-- The commits of a port that are armed for the port frame whose latch point has come are taken there; both
at once are checked against each other's new values, and fail together (R371, R387). -/
def State.takeAtLatch (s : State) (n : Nat) : State :=
  let f := (s.scan n).next
  let want (p : Nat) : Bool :=
    let u := s.unit p
    s.armed p && ((u.mode == mdTransit && !u.skip) || (u.mode == mdTransitN && lo32 u.target == lo32 f))
  let a := scanPage n
  let b := ledPage n
  let s1 :=
    if want a ∧ want b then
      let ra := s.scanCommit n true
      let rb := s.ledCommit n true
      let ok := ra = 0 ∧ rb = 0
      let t := s.takeWith a f none (if ok then 0 else if ra = 0 then rsBlock else ra)
      t.takeWith b f none (if ok then 0 else if rb = 0 then rsBlock else rb)
    else if want a then s.takeWith a f none (s.scanCommit n false)
    else if want b then s.takeWith b f none (s.ledCommit n false)
    else s
  (s1.setUnit a { s1.unit a with skip := false }).setUnit b { s1.unit b with skip := false }

/-- Commits at transit `n`: those armed for it become due, cut-offs of the next one are open again (R70). -/
def State.commitsDue (s : State) (n : Nat) : State :=
  (List.range 256).foldl (fun (t : State) (p : Nat) =>
    let u := t.unit p
    let hit := t.armed p && (t.cutPort p).isNone && u.due.isNone &&
      ((u.mode == mdTransit && !u.skip) || (u.mode == mdTransitN && lo32 u.target == lo32 n))
    let skip := if (t.cutPort p).isSome then u.skip else false
    t.setUnit p { u with due := if hit then some n else u.due, skip := skip, cut := false }) s

/-! Writes of COMMIT (R70, R73). -/

/-- CANCEL: the take wins where it is pending together. -/
def State.cancelCommit (s : State) (p : Nat) (takeTogether : Bool) : State :=
  if s.armed p then
    if takeTogether ∧ s.takeable p then s.takeCommit p
    else (s.setCommit p cmCancelled 0).setUnit p { s.unit p with due := none, skip := false }
  else s

/-- ARM in mode `m`: the causes of refusal in the order of R70; a core block takes NOW in the same step. -/
def State.armCommit (s : State) (p m : Nat) (cutTogether : Bool) : State :=
  if s.armed p then s.raise p 1 (rsBusy + m * 16)
  else if ¬ s.modeOk p m then s.refuseCommit p m rsMode
  else if m = mdNow then
    let s1 := s.armUnit p mdNow 0 false
    if isCore p then s1.takeCommit p else s1
  else if m = mdTransit then s.armTransit p cutTogether
  else if m = mdTime then s.armTime p
  else s.armTransitN p cutTogether

/-- A write of COMMIT: cancel first, arming second (R73). A take pending with an arming alone goes first. -/
def State.commitWrite (s : State) (p : Nat) (v : Word) (cutTogether takeTogether : Bool) : State :=
  let m := natBits v.toNat 0 2
  let s1 := s.setFld (PG_COMMIT_MODE.inst p) m
  let s2 := if v.getLsbD 5 then s1.cancelCommit p takeTogether
    else if v.getLsbD 4 ∧ takeTogether then s1.takeCommit p
    else s1
  if v.getLsbD 4 then s2.armCommit p m cutTogether else s2

/-! The meanings. -/

/-- COMMIT_ARM (R70). -/
def execCommitArm (q : Req) (page : Nat) (v : Word) (cutoffTogether takeTogether : Bool) (s : State) :
    Host.Outcome State Fault Refusal :=
  .next (s.write q page 0x020 v fun t => t.commitWrite page v cutoffTogether takeTogether)

/-- COMMIT_CANCEL (R73). -/
def execCommitCancel (q : Req) (page : Nat) (v : Word) (takeTogether : Bool) (s : State) : Host.Outcome State Fault Refusal :=
  .next (s.write q page 0x020 v fun t => t.commitWrite page v false takeTogether)

/-- COMMIT_CUTOFF (R71): the cut-off mark of the next transit is taken. -/
def execCommitCutoff (page : Nat) (s : State) : Host.Outcome State Fault Refusal :=
  match s.time.nextTransit with
  | some t =>
    .next (if t.2 ≤ s.time.now + commitLead page ∧ (s.cutPort page).isNone then
      s.setUnit page { s.unit page with cut := true } else s)
  | none => .next s

/-- COMMIT_TAKE (R72). -/
def execCommitTake (page : Nat) (s : State) : Host.Outcome State Fault Refusal := .next (s.takeCommit page)

end Sys2Proof.Machine
end

