-- ==== Sys2Proof/Machine/Triggers.lean ====
section
/-! DEFINITION. Timed triggers, TIO pins, FSYNC and linear timecode (spec/03, R111 to R123). -/

namespace Sys2Proof.Machine

open Sys2Proof

/-! Triggers (Table 03-6). -/

/-- The unit of trigger `n`. -/
def State.trgUnit (s : State) (n : Nat) : TrgUnit := mapGet (fun _ => TrgUnit.idle) s.trig.units n

/-- `s` with the unit of trigger `n` replaced. -/
def State.setTrgUnit (s : State) (n : Nat) (u : TrgUnit) : State :=
  { s with trig := { s.trig with units := mapSet (fun _ => TrgUnit.idle) s.trig.units n u } }

/-- One bit of a register pair X_0, X_1 that holds a bit per trigger. -/
def trgBit (f : Fld) (n : Nat) : Fld := { f.nth (n / 32) with lo := n % 32, w := 1 }

/-- ARM and its copy in ARMED_0, ARMED_1. -/
def State.setArm (s : State) (n : Nat) (b : Bool) : State :=
  (s.setBit (TRIG_TRG_CFG_ARM.nth n) b).setBit (trgBit TRIG_ARMED_ARMED n) b

/-! Capture (R119, R120). -/

/-- CAPTURE records of a source waiting for the event arbiter. -/
def State.capWaiting (s : State) (src : Nat) : Nat :=
  (s.recQ.filter fun r => r.page == 3 && r.code == 0x21 && r.arg % 32 == src).length

/-- Whether an accepted edge of source `src` is captured: no full buffer, and 40 ns since the source's previous
accepted edge (R119). -/
def State.edgeTaken (s : State) (src stamp : Nat) : Bool :=
  (match s.trig.lastEdge.find? fun p => p.1 == src with
    | some p => decide (40 * unitsPerNs ≤ stamp - p.2)
    | none => true) && decide (s.capWaiting src < 8)

/-- An accepted edge of capture source `src`, stamped at `stamp` (units of 2^-16 ns): captured, or
discarded and counted (R119). -/
def State.captureEdge (s : State) (src : Nat) (rising : Bool) (stamp : Nat) (cap : Fld) : State :=
  if ¬ s.edgeTaken src stamp then (s.incFld TRIG_CAP_DROP_COUNT 1).raise 3 10 src
  else
    let s1 := { s with trig := { s.trig with lastEdge := mapSet (fun _ => 0) s.trig.lastEdge src stamp } }
    let s2 := s1.setFld cap (st32Of (stamp / unitsPerNs))
    s2.pushRec 3 0x21 (src + (if rising then 32 else 0) + (stamp % unitsPerNs) * 64) false (stamp / unitsPerNs)

/-- The level at a TIO pin changes at `stamp`; the edge is captured where its kind is set (R119). -/
def State.pinEdge (s : State) (pin : Nat) (rising : Bool) (stamp : Nat) : State :=
  let s1 := s.setBit (TRIG_TIO_CFG_LEVEL.nth pin) rising
  if (s.fld (TRIG_TIO_CFG_CAPTURE.nth pin)).testBit (if rising then 0 else 1) then
    s1.captureEdge pin rising stamp (TRIG_TIO_CAP_ST32.nth pin)
  else s1

/-- The level driven on a TIO pin: trigger actions write OUT_LEVEL (R118), and on a push-pull output
the level at the pin follows it, on an open drain where the pin is driven low; an edge so driven is captured
(R119), under DEGLITCH once it has held, which TIO_EDGE tells (log entry 32). -/
def State.drivePin (s : State) (pin : Nat) (b : Bool) : State :=
  let s1 := s.setBit (TRIG_TIO_CFG_OUT_LEVEL.nth pin) b
  let dir := s.fld (TRIG_TIO_CFG_DIR.nth pin)
  let ball := b != s.bit (TRIG_TIO_CFG_INVERT.nth pin)
  if dir = 1 ∨ dir = 2 then
    let s2 := if dir = 1 ∨ ¬ ball then
        if s.fld (TRIG_TIO_CFG_DEGLITCH.nth pin) ≠ 0 then s1
        else if s1.bit (TRIG_TIO_CFG_LEVEL.nth pin) = b then s1
        else s1.pinEdge pin b s1.time.now
      else s1
    s2.emit (.pin pin ball)
  else s1

/-- What the actions of the present tick leave on a pin, where they find it low and where they find it high. -/
def State.actsOn (s : State) (pin : Nat) : Bool × Bool :=
  match s.trig.drove.find? fun p => p.1 == pin && p.2.1 == s.time.mono with
  | some p => p.2.2
  | none => (false, true)

/-- An action drives a pin (R118): `l` where it finds it low, `h` where it finds it high. It is remembered for
the tick, in which a software write of OUT_LEVEL goes first (R116). -/
def State.actPin (s : State) (pin : Nat) (l h : Bool) : State :=
  let f := s.actsOn pin
  let g (b : Bool) : Bool := if b then h else l
  let s1 := { s with trig := { s.trig with
    drove := (pin, s.time.mono, g f.1, g f.2) :: s.trig.drove.filter fun p => p.1 != pin } }
  s1.drivePin pin (g (s.bit (TRIG_TIO_CFG_OUT_LEVEL.nth pin)))

/-- A software write has stored TIO_CFG of a pin: the actions of the same tick come after it (R116). -/
def State.pinWritten (s : State) (pin : Nat) : State :=
  let f := s.actsOn pin
  s.drivePin pin (if s.bit (TRIG_TIO_CFG_OUT_LEVEL.nth pin) then f.2 else f.1)

/-- One pulse of FSYNC_CFG.WIDTH on FSYNC_OUT (R118, R120). -/
def State.fsyncPulse (s : State) : State :=
  let w := max (s.fld TRIG_FSYNC_CFG_WIDTH) 1 * 10 * unitsPerNs
  (s.modTime fun t => { t with fsyncEnd := some (t.mono + w) }).emit (.pin 16 (!s.bit TRIG_FSYNC_CFG_OUT_POL))

/-- SNS_START closes the trigger sample-and-hold; a second one while a sample is held is dropped (R408). -/
def State.snsStart (s : State) (ch : Nat) : State :=
  match s.snsHeld with
  | some _ => (s.incFld SENSE_TRIG_DROP_COUNT 1).raise 11 10 ch
  | none => { s with snsHeld := some (s.corrOf ch) }

/-- The action of trigger `n` at this tick (Table 03-6, R118), late by `lateNs` where `late`. -/
def State.trgAct (s : State) (n : Nat) (late : Bool) (lateNs : Nat) : State :=
  let act := s.fld (TRIG_TRG_CFG_ACTION.nth n)
  let pin := s.fld (TRIG_TRG_CFG_PIN.nth n)
  let arg := s.fld (TRIG_TRG_CFG_ARG.nth n)
  let level := s.bit (TRIG_TIO_CFG_LEVEL.nth pin)
  let s1 :=
    if act = 1 then s.actPin pin true true
    else if act = 2 then s.actPin pin false false
    else if act = 3 then s.actPin pin true false
    else if act = 4 then
      let s2 := s.actPin pin true true
      { s2 with trig := { s2.trig with
          pulses := s2.trig.pulses ++ [(pin, s2.time.mono + arg * 10 * unitsPerNs, n)] } }
    else if act = 6 then s.snsStart (natBits arg 0 5)
    else if act = 7 then s.fsyncPulse
    else s
  let s2 := { s1 with marks := s1.marks ++ [.trigger n] }
  if act = 0 ∨ s.bit (TRIG_TRG_CFG_REC.nth n) then
    s2.recordOnly 3 0x20 (n + (if late then 64 else 0) + (if act = 5 ∧ level then 128 else 0) + lateNs * 256)
  else s2

/-- A late action (R114): it acts at once, with its bit, event and lateness. -/
def State.trgLate (s : State) (n lateNs : Nat) : State :=
  let s1 := (s.setBit (trgBit TRIG_LATE_LATE n) true).setFld (TRIG_TRG_LATE_NS_NS.nth n) lateNs
  (s1.raise 3 8 (n + lateNs * 64)).trgAct n true lateNs

/-- A skipped target (R114). -/
def State.trgSkip (s : State) (n : Nat) : State :=
  (s.setBit (trgBit TRIG_SKIP_SKIP n) true).raise 3 9 n

/-- A target found past by `lateNs` (R114, R115): FIRE acts late, SKIP does not act; an AT trigger is
then done, a PERIODIC one folds its other past occurrences into MISSED and goes on. -/
def State.trgPast (s : State) (n lateNs : Nat) : State :=
  let s1 := if s.bit (TRIG_TRG_CFG_POLICY.nth n) then s.trgSkip n else s.trgLate n lateNs
  if s.fld (TRIG_TRG_CFG_MODE.nth n) = 1 then
    let p := s.fld (TRIG_TRG_PERIOD_PERIOD.nth n)
    let others := lateNs / p
    (s1.incFld TRIG_MISSED_COUNT others).setTrgUnit n
      { s.trgUnit n with next := s.nowNs + (others + 1) * p - lateNs }
  else s1.setArm n false

/-- Whether an arming with configuration `v` is refused (R111). -/
def State.armRefused (s : State) (n v : Nat) : Bool :=
  let mode := natBits v 0 2
  let act := natBits v 4 4
  let arg := natBits v 16 16
  let per := s.fld (TRIG_TRG_PERIOD_PERIOD.nth n)
  let off := s.sfld (TRIG_TRG_TIME_TIME.nth n)
  mode == 3 || 8 ≤ act || (act == 4 && arg == 0) || (act == 6 && 24 < natBits arg 0 5) ||
    (mode == 1 && (per < 1000 || 2 ^ 31 - 1 < per)) ||
    (mode == 2 && s.rate.2 * 1000000000 ≤ off.natAbs * s.rate.1)

/-- A write of TRG_CFG_n with ARM 1 to a disarmed trigger (R112 to R114). -/
def State.armTrigger (s : State) (n : Nat) (v : Word) : State :=
  let k := TRIG_TRG_CFG_MODE.nth n
  let s1 := s.storeReg 3 k.off v
  if s.armRefused n v.toNat then (s1.setArm n false).raise 3 11 n
  else
    let s2 := s1.setArm n true
    let mode := natBits v.toNat 0 2
    let t := s.fld (TRIG_TRG_TIME_TIME.nth n)
    let d := (t + 2 ^ 32 - s.st32) % 2 ^ 32
    if mode = 2 then
      let off := s2.trgOffset n
      let after (x : Option (Nat × Nat)) : Bool := match x with
        | some (_, i) => decide ((i : Int) + off ≤ s2.time.now)
        | none => true
      s2.setTrgUnit n { s2.trgUnit n with
        doneLast := after s2.time.transit
        doneNext := match s2.time.nextTransit with
          | some (_, i) => decide ((i : Int) + off ≤ s2.time.now)
          | none => false }
    else if d = 0 ∨ 2 ^ 31 ≤ d then s2.trgPast n ((s.st32 + 2 ^ 32 - t) % 2 ^ 32)
    else s2.setTrgUnit n { s2.trgUnit n with next := s.nowNs + d }

/-- A write of TRG_CFG_n (R111, R117): discarded while armed unless it disarms. -/
def State.writeTrgCfg (s : State) (n : Nat) (v : Word) : State :=
  let k := TRIG_TRG_CFG_MODE.nth n
  if s.bit (TRIG_TRG_CFG_ARM.nth n) then
    if v.getLsbD 3 then s.raise 3 11 n
    else (s.storeReg 3 k.off v).setArm n false
  else if v.getLsbD 3 then s.armTrigger n v
  else s.storeReg 3 k.off v

/-- A write of TRG_TIME_n or TRG_PERIOD_n (R111). -/
def State.writeTrgReg (s : State) (n off : Nat) (v : Word) : State :=
  if s.bit (TRIG_TRG_CFG_ARM.nth n) then s.raise 3 11 n else s.storeReg 3 off v

/-- Which occurrence of trigger `n` has come (R112, R113): `some false` for the occurrence of the next
transit, `some true` for the one of the last or for a stated target. -/
def State.trgDue (s : State) (n : Nat) : Option Bool :=
  if s.bit (TRIG_TRG_CFG_ARM.nth n) then
    let u := s.trgUnit n
    let here (x : Option (Nat × Nat)) : Bool := match x with
      | some (_, i) => decide ((i : Int) + s.trgOffset n ≤ s.time.now)
      | none => false
    if s.fld (TRIG_TRG_CFG_MODE.nth n) = 2 then
      if !u.doneLast && here s.time.transit then some true
      else if !u.doneNext && here s.time.nextTransit then some false else none
    else if u.next * unitsPerNs ≤ s.time.now then some true else none
  else none

/-- Trigger `n` acts if its occurrence has come (R112, R113). -/
def State.trgOne (s : State) (n : Nat) : State :=
  match s.trgDue n with
  | none => s
  | some last =>
    let s1 := s.trgAct n false 0
    let u := s1.trgUnit n
    let mode := s.fld (TRIG_TRG_CFG_MODE.nth n)
    if mode = 0 then s1.setArm n false
    else if mode = 1 then s1.setTrgUnit n { u with next := u.next + s.fld (TRIG_TRG_PERIOD_PERIOD.nth n) }
    else s1.setTrgUnit n (if last then { u with doneLast := true } else { u with doneNext := true })

/-- The pulses of trigger `n` whose width has expired end: their pins are cleared (R116). -/
def State.pulseEnds (s : State) (n : Nat) : State :=
  let isOver (p : Nat × Nat × Nat) : Bool := p.2.2 == n && decide (p.2.1 ≤ s.time.mono)
  (s.trig.pulses.filter isOver).foldl (fun t p => t.actPin p.1 false false)
    { s with trig := { s.trig with pulses := s.trig.pulses.filter fun p => !isOver p } }

/-- What triggers of lower number than `n` do in the present tick, in ascending number (R116). -/
def State.trgBefore (s : State) (n : Nat) : State :=
  (List.range n).foldl (fun t k => (t.pulseEnds k).trgOne k) s

/-- A trigger with action `act` reaches its occurrence (R112 to R116), after the lower-numbered ones of the tick. -/
def State.trgFire (s : State) (n act : Nat) : State :=
  if (s.trgDue n).isSome ∧ s.fld (TRIG_TRG_CFG_ACTION.nth n) = act then ((s.trgBefore n).pulseEnds n).trgOne n else s

/-- TRIGGER_ARM (R111 to R114). -/
def execTriggerArm (q : Req) (n : Nat) (v : Word) (s : State) : Host.Outcome State Fault Refusal :=
  .next (s.write q 3 (0x400 + 0x10 * n) (v ||| 8) fun t => t.writeTrgCfg n (v ||| 8))

/-- TRIGGER_DISARM (R117): an action pending together wins, and then no further occurrence is made. -/
def execTriggerDisarm (q : Req) (n : Nat) (v : Word) (actionTogether : Bool) (s : State) :
    Host.Outcome State Fault Refusal :=
  let s1 := if actionTogether then s.trgFire n (s.fld (TRIG_TRG_CFG_ACTION.nth n)) else s
  .next (s1.write q 3 (0x400 + 0x10 * n) (v &&& ~~~ 8) fun t => t.writeTrgCfg n (v &&& ~~~ 8))

/-- TRG_CUE (R116). -/
def execTrgCue (n : Nat) (s : State) : Host.Outcome State Fault Refusal := .next (s.trgFire n 0)

/-- TRG_TIO_SET (R118). -/
def execTrgTioSet (n : Nat) (s : State) : Host.Outcome State Fault Refusal := .next (s.trgFire n 1)

/-- TRG_TIO_CLR (R118). -/
def execTrgTioClr (n : Nat) (s : State) : Host.Outcome State Fault Refusal := .next (s.trgFire n 2)

/-- TRG_TIO_TOGGLE (R118). -/
def execTrgTioToggle (n : Nat) (s : State) : Host.Outcome State Fault Refusal := .next (s.trgFire n 3)

/-- TRG_TIO_PULSE (R116, R118). -/
def execTrgTioPulse (n : Nat) (s : State) : Host.Outcome State Fault Refusal := .next (s.trgFire n 4)

/-- TRG_TIO_SAMPLE (R118). -/
def execTrgTioSample (n : Nat) (s : State) : Host.Outcome State Fault Refusal := .next (s.trgFire n 5)

/-- TRG_SNS_START (R118, R408). -/
def execTrgSnsStart (n : Nat) (s : State) : Host.Outcome State Fault Refusal := .next (s.trgFire n 6)

/-- TRG_FSYNC_PULSE (R118). -/
def execTrgFsyncPulse (n : Nat) (s : State) : Host.Outcome State Fault Refusal := .next (s.trgFire n 7)

/-- TIO_PULSE_END (R116): the width of a pulse on the pin has expired, and the pin is cleared in the trigger order
of the tick. -/
def execTioPulseEnd (pin : Nat) (s : State) : Host.Outcome State Fault Refusal :=
  match s.trig.pulses.find? fun p => p.1 == pin && decide (p.2.1 ≤ s.time.mono) with
  | some p => .next ((s.trgBefore p.2.2).pulseEnds p.2.2)
  | none => .next s

/-! Edges (R119, R120). -/

/-- The width a level must hold before its edge is accepted, in units of 2^-16 ns (Table 03-7). -/
def State.deglitch (s : State) (pin : Nat) : Nat :=
  let k := s.fld (TRIG_TIO_CFG_DEGLITCH.nth pin)
  if k = 0 then 0 else 10 * 2 ^ (k - 1) * unitsPerNs

/-- TIO_EDGE (R119): an edge of a pin is accepted, its level having held for DEGLITCH since `stamp`. -/
def execTioEdge (pin : Nat) (rising : Bool) (stamp : Nat) (s : State) : Host.Outcome State Fault Refusal :=
  .next (if stamp + s.deglitch pin ≤ s.time.now then s.pinEdge pin rising stamp else s)

/-- The offset sample of an FSYNC_IN edge within P / 2 of a transit (R93). -/
def State.fsyncSample (s : State) (stamp : Nat) : State :=
  match s.time.nextTransit, s.time.seam with
  | some _, none =>
    let n := (2 * stamp * s.rate.1 + s.rate.2 * unitsPerSec) / (2 * s.rate.2 * unitsPerSec)
    let o : Int := stamp - transitInstant s.rate n
    (s.modTime fun t => { t with fsyncEdgeAt := some t.mono }).offsetSample 3 o
  | _, _ => s

/-- FSYNC_EDGE (R120): captured as any edge, and, where it is captured, an offset sample while SOURCE is FSYNC. -/
def execFsyncEdge (rising : Bool) (stamp : Nat) (s : State) : Host.Outcome State Fault Refusal :=
  if (s.fld TRIG_FSYNC_CFG_IN_EDGE).testBit (if rising then 0 else 1) then
    let s1 := s.captureEdge 16 rising stamp TRIG_FSYNC_CAP_ST32
    .next (if s.fld TIME_CTRL_SOURCE = 3 ∧ s.edgeTaken 16 stamp then s1.fsyncSample stamp else s1)
  else .next s

/-! Linear timecode (R121 to R123). -/

/-- Two BCD digits. -/
def bcd (n : Nat) : Nat := n / 10 % 10 * 16 + n % 10

/-- The drop-frame count of `sec` whole seconds of day (SMPTE ST 12-1): for a jam whose second would begin on a
label that drop-frame counting skips, the count of the label after it (log entry 34). -/
def dfCount (sec : Nat) : Nat := 30 * sec - 2 * (sec / 60 - sec / 600)

/-- The label hour, minute, second, frame of drop-frame count `f` (SMPTE ST 12-1). -/
def dfLabel (f : Nat) : Nat × Nat × Nat × Nat :=
  let f := f % 2589408
  let m := f % 17982
  let g := f + 18 * (f / 17982) + (if 2 ≤ m then 2 * ((m - 2) / 1798) else 0)
  (g / 108000 % 24, g / 1800 % 60, g / 30 % 60, g % 30)

/-- The label of LTC frame `idx`, counted from the PTP epoch (R121). -/
def State.ltcLabel (s : State) (code idx : Nat) : Nat × Nat × Nat × Nat :=
  let r := ltcRate code
  let sec := idx * r.2 / r.1
  let off := s.sfld TIME_LTC_OUT_OFFSET_S_S
  let tod := (((sec : Int) - off) % 86400).toNat
  if code = 2 then
    let jam := if s.fld TIME_LTC_DF_JAM_S_S < 86400 then s.fld TIME_LTC_DF_JAM_S_S else 0
    let jamSec := sec - (tod + 86400 - jam) % 86400
    let k0 := (jamSec * 30000 + 1000) / 1001
    dfLabel (dfCount jam + (idx - k0))
  else (tod / 3600, tod / 60 % 60, tod % 60, idx - (sec * r.1 + r.2 - 1) / r.2)

/-- The LTC frame whose alignment instant is the last one reached. -/
def State.ltcIndex (s : State) : Nat :=
  let r := ltcRate (s.fld TIME_LTC_OUT_CFG_RATE)
  s.time.now * r.1 / (r.2 * unitsPerSec)

/-- Whether that frame has not begun yet, nor been passed over. -/
def State.ltcDue (s : State) : Bool :=
  match s.time.ltcLast with | some k => decide (k < s.ltcIndex) | none => true

/-- LTC_OUT_FRAME (R121): the alignment instant of the next timecode frame is reached; while STATE is UNSET nothing
is sent (log entry 34). -/
def execLtcOutFrame (s : State) : Host.Outcome State Fault Refusal :=
  let idx := s.ltcIndex
  if s.bit TIME_LTC_OUT_CFG_EN ∧ s.timeState ≠ tsUnset ∧ s.ltcDue then
    let code := s.fld TIME_LTC_OUT_CFG_RATE
    let l := s.ltcLabel code idx
    .next ((s.modTime fun t => { t with ltcLast := some idx }).emit
      (.ltcFrame code (bcd l.1) (bcd l.2.1) (bcd l.2.2.1) (bcd l.2.2.2) (s.fld TIME_LTC_OUT_UB_UB)))
  else .next s

/-- Whether a valid frame follows the last one without a missing frame between: within one and a half nominal
frame periods (log entry 34). -/
def State.ltcFollows (s : State) : Bool :=
  let r := ltcRate s.time.ltcRate
  decide ((s.time.mono - s.time.ltcAt) * 2 * r.1 ≤ 3 * r.2 * unitsPerSec)

/-- LTC_IN_FRAME (R123): a valid frame is recorded, and four in a row at one rate gain lock. -/
def execLtcInFrame (f : LtcIn) (s : State) : Host.Outcome State Fault Refusal :=
  if s.bit TIME_LTC_IN_CFG_EN then
    let run := if s.time.ltcRate = f.rate ∧ s.ltcFollows then s.time.ltcRun + 1 else 1
    let s1 := s.modTime fun t => { t with ltcRun := run, ltcRate := f.rate, ltcAt := t.mono }
    let s2 := (((((s1.setFld TIME_LTC_IN_LAST_FF f.ff).setFld TIME_LTC_IN_LAST_SS f.ss).setFld
      TIME_LTC_IN_LAST_MM f.mm).setFld TIME_LTC_IN_LAST_HH f.hh).setBit TIME_LTC_IN_LAST_DF f.df).setFld
        TIME_LTC_IN_LAST_RATE f.rate
    let s3 := s2.setFld TIME_LTC_IN_ST32_ST32 (st32Of f.stamp)
    let gain := 4 ≤ run ∧ ¬ s.bit TIME_LTC_IN_LAST_LOCK
    let s4 := if gain then (s3.setBit TIME_LTC_IN_LAST_LOCK true).raise 2 18 f.rate else s3
    .next (if s.bit TIME_LTC_IN_CFG_REC_EN then
      s4.recordOnly 2 0x23 (natBits (s4.reg TIME_LTC_IN_LAST_FF.key).toNat 0 28) else s4)
  else .next s

/-- LTC_IN_LOST (R123): two nominal frame periods without a valid frame. -/
def execLtcInLost (s : State) : Host.Outcome State Fault Refusal :=
  let r := ltcRate s.time.ltcRate
  if s.bit TIME_LTC_IN_LAST_LOCK ∧ 2 * r.2 * unitsPerSec ≤ (s.time.mono - s.time.ltcAt) * r.1 then
    .next (((s.setBit TIME_LTC_IN_LAST_LOCK false).modTime fun t => { t with ltcRun := 0 }).raise 2 19 0)
  else .next s

end Sys2Proof.Machine
end

