-- ==== Sys2Proof/Machine/Router.lean ====
section
/-! DEFINITION. Where a register access goes (spec/02, R57 to R67, R76, R78; R283, R480): the effect of a write and of a read at each register, the PCIe windows, the WRITE command of FIFO0, the MSPI frames, and the meanings of their commands. -/

namespace Sys2Proof.Machine

open Sys2Proof

/-! Effects of writes, page by page. -/

/-- `s` with a field brought into its limits, as its table says of writes. -/
def State.limit (s : State) (f : Fld) (lo hi : Nat) : State := s.setFld f (max lo (min hi (s.fld f)))

/-- A W1C write of EVENT (R76); `together` are the bits whose occurrences are pending with it: they stay. -/
def State.clearEvents (s : State) (p : Nat) (v together : Word) : State :=
  let k := regKey p 0x010
  (s.setReg k (s.reg k &&& ~~~ (v &&& ~~~ together))).refresh p

/-- A write of EVENT_FORCE (R76): each bit is an occurrence, whose argument the spec does not state: a free
value (log entry 2). -/
def State.forceEvents (s : State) (p : Nat) (v : Word) : State :=
  ((List.range 32).filter fun k => v.getLsbD k && (eventMask p).testBit k).foldl
    (fun (t : State) (k : Nat) => t.takeFree.occur p k t.freeVal true) s

/-- A write of VEC_ARM_LO or VEC_ARM_HI (R78): a vector armed while a routed page is pending sends at once. -/
def State.armVectors (s : State) (hi : Bool) (v : Word) : State :=
  let off := if hi then 0x04C else 0x048
  ((List.range 32).filter fun k => v.getLsbD k).foldl
    (fun (t : State) (k : Nat) => t.tryVector (k + if hi then 32 else 0)) (s.storeReg 1 off v)

/-- A message held back by the mask of vector `n` is sent when the mask is lifted (R78). -/
def State.releaseVector (s : State) (n : Nat) : State :=
  if s.pba n ∧ s.host.msixEn ∧ ¬ s.vecMasked n then (s.setPba n false).sendMsix n else s

/-- Writes of HOST (Table 02-6). -/
def State.writeHost (s : State) (off : Nat) (v : Word) : State :=
  if off = 0x048 then s.armVectors false v
  else if off = 0x04C then s.armVectors true v
  else
    let s1 := s.storeReg 1 off v
    if 0x400 ≤ off ∧ off < 0x800 then s1.refresh ((off - 0x400) / 4)
    else if 0x800 ≤ off ∧ off < 0xC00 ∧ off % 16 = 12 then s1.releaseVector ((off - 0x800) / 16)
    else s1

/-- Writes of TIME (Tables 03-1 to 03-3). -/
def State.writeTime (s : State) (q : Req) (off : Nat) (v : Word) : State :=
  if off = 0x008 then s.writeTimeCtrl v
  else if off = 0x080 then s.writeFreqAdj v
  else if off = 0x0A0 then s.writeSetSecHi q v
  else if off = 0x0A4 then s.writeSwOffset v
  else
    let s1 := s.storeReg 2 off v
    if off = 0x060 then s1.limit TIME_STEP_THRESH_NS 1000 4000000000
    else if off = 0x064 then (s1.limit TIME_CARVE_MAX_PPB 1000 500000).freqLimit
    else if off = 0x0A8 then
      ((s1.limit TIME_PTP_CFG_DOMAIN 0 127).setInt TIME_PTP_CFG_LOG_DELAY_REQ
        (clampInt (-7) 5 (s1.sfld TIME_PTP_CFG_LOG_DELAY_REQ))).limit TIME_PTP_CFG_ANNOUNCE_TIMEOUT 2 10
    else if off = 0x100 then
      if (s1.bit TIME_LTC_OUT_CFG_EN && !s.bit TIME_LTC_OUT_CFG_EN) || s1.fld TIME_LTC_OUT_CFG_RATE != s.fld TIME_LTC_OUT_CFG_RATE then
        s1.ltcSkip
      else s1
    else s1

/-- Writes of TRIG (Table 03-7): triggers, pins (R111, R118). -/
def State.writeTrig (s : State) (off : Nat) (v : Word) : State :=
  if 0x400 ≤ off ∧ off < 0x800 then
    let n := (off - 0x400) / 16
    if off % 16 = 0 then s.writeTrgCfg n v else s.writeTrgReg n off v
  else
    let s1 := s.storeReg 3 off v
    if 0x100 ≤ off ∧ off < 0x140 then
      let pin := (off - 0x100) / 4
      s1.pinWritten pin
    else s1

/-- Writes of SCHED (Table 07-5). -/
def State.writeSched (s : State) (q : Req) (off : Nat) (v : Word) : State :=
  if off = 0x040 then s.taskCmd (reqCode q) (natBits v.toNat 0 8) (natBits v.toNat 8 4) []
  else if 0x400 ≤ off ∧ off % 8 = 0 then s.writeCtxCfg ((off - 0x400) / 8) v
  else s.storeReg 5 off v

/-- Writes of KEY (Table 15-9): IMPORT_DATA is kept for IMPORT_GO and reads 0. -/
def State.writeKey (s : State) (off : Nat) (v : Word) : State :=
  if off = 0x044 then s.writeTamperCfg v
  else if off = 0x04C then s.writeZeroize v
  else if off = 0x050 then s.writeSlotCmd v
  else if off = 0x068 then if v.getLsbD 0 then s.importGo else s
  else if 0x080 ≤ off ∧ off < 0x0C0 then s.setReg (regKey keyPage off) v
  else s.storeReg keyPage off v

/-- Writes of SPEED (Tables 05-11, 16-4): clearing EN ends the stop after a failed command (R482). -/
def State.writeSpeed (s : State) (off : Nat) (v : Word) : State :=
  let s1 := s.storeReg 13 off v
  if off = 0x074 then (s1.limit SPEED_GUARD_GUARD 80 255).speedSync
  else if off = 0x078 then s1.limit SPEED_WINDOW_INTERVALS 16 4096
  else if off = 0x100 then if s1.bit SPEED_AVS_CTRL_EN then s1 else s1.modAvs fun x => { x with failed := false }
  else if off = 0x104 then
    let s2 := s1.limit SPEED_AVS_LIMITS_VMIN_MV 600 900
    s2.limit SPEED_AVS_LIMITS_VMAX_MV (s2.fld SPEED_AVS_LIMITS_VMIN_MV) 900
  else s1

/-- Writes of FIFO `n` (Table 08-8). -/
def State.writeFifo (s : State) (q : Req) (n off : Nat) (v : Word) : State :=
  if off = 0x008 then s.fifoCtrl n v
  else if 0x100 ≤ off ∧ off < 0x140 then
    let k := (off - 0x100) / 8
    if off % 8 = 0 then s.pushLow q n k v else s.pushWin q n k v
  else
    let s1 := s.storeReg (fifoPage n) off v
    if off = 0x068 then s1.limit (FIFO_IDLE_TIMEOUT_US.inst n) 0 1000000
    else if off = 0x06C then s1.limit (FIFO_PUSH_STALL_LIMIT_US.inst n) 1 10000
    else s1

/-- Writes of NET `p` (Table 09-8). -/
def State.writeNet (s : State) (p off : Nat) (v : Word) : State :=
  if off = 0x008 then s.netCtrl p v
  else
    let s1 := s.storeReg (netPage p) off v
    if off = 0x040 then s1.limit (NET_MAX_LEN_BYTES.inst p) 64 9600
    else if off = 0x064 then s1.fillTx p
    else if off = 0x054 then s1.limit (NET_PAUSE_WD_US_US.inst p) 100 1000000
    else if off = 0x058 then s1.limit (NET_PAUSE_HOLDOFF_US_US.inst p) 1000 10000000
    else s1

/-- Writes of LED `n` (Table 12-7). -/
def State.writeLed (s : State) (n off : Nat) (v : Word) : State :=
  if off = 0x008 then s.ledCtrl n v
  else if off = 0x068 then s.writeKnot n v.toNat
  else if 0x800 ≤ off then s.writeScript n ((off - 0x800) / 4) v
  else s.storeReg (ledPage n) off v

/-- Low bits of an address register that read 0. -/
def lowMask (p off : Nat) : Nat :=
  let b := pageBase p
  if (b = 0x68 ∧ off = 0x050) ∨ (b = 0x70 ∧ off = 0x0A0) ∨ (b = 0x80 ∧ off = 0x05C) ∨ (b = 0x90 ∧ off = 0x070) then 63
  else if b = 0x70 ∧ off = 0x0AC then 4095
  else 0

/-- The effect of a write at a register that has no effect of its own (R68), with R62's pairs. -/
def State.writePlain (s : State) (q : Req) (p off : Nat) (v : Word) : State :=
  if isPairLo p off then s.setHeld q (regKey p off) (some (v &&& ~~~ BitVec.ofNat 32 (lowMask p off)))
  else if isPairHi p off then
    let s1 := s.storePair q p off v
    if pageBase p = 0x90 ∧ off = 0x074 then s1.modScan (p - 0x90) fun x => { x with addrW := true } else s1
  else s.storeReg p off v

/-- Whether a register holds a shadowed field (R68). -/
def shadowed (p off : Nat) : Bool :=
  match regRow? p off with | some r => r.fields.any fun f => f.sh | none => false

/-- A take that is pending together with a write to a shadowed field goes first (R73). -/
def State.takeFirst (s : State) (p off : Nat) : State :=
  if ¬ shadowed p off then s
  else
    let s1 := match s.latchPort p with
      | some n => if s.latchDue n then s.takeAtLatch n else s
      | none => s
    if s1.takeable p then s1.takeCommit p else s1

/-- The effect of an accepted write, OWNER apart. -/
def State.regEffect (s0 : State) (q : Req) (p off : Nat) (v : Word) : State :=
  let s := s0.takeFirst p off
  let b := pageBase p
  let n := p - b
  if off = 0x010 then s.clearEvents p v 0
  else if off = 0x014 then (s.storeReg p off v).refresh p
  else if off = 0x018 then s.forceEvents p v
  else if off = 0x020 then s.commitWrite p v false false
  else if isPairLo p off then s.writePlain q p off v
  else if b = 0 ∧ off = 0x04C then s.writeRecovery q v
  else if b = 1 then s.writeHost off v
  else if b = 2 ∧ (off = 0x0A0 ∨ ¬ isPairHi p off) then s.writeTime q off v
  else if b = 3 then s.writeTrig off v
  else if b = 4 ∧ off = 0x048 then s.loadCmd v
  else if b = 5 then s.writeSched q off v
  else if b = 12 then s.writeKey off v
  else if b = 13 then s.writeSpeed off v
  else if b = 0x40 ∧ ¬ isPairHi p off then s.writeFifo q n off v
  else if b = 0x50 ∧ ¬ isPairHi p off then s.writeNet n off v
  else if b = 0x68 ∧ off = 0x068 then if s.actBit (EGRESS_CTRL_EN.inst n) then s else s.storeReg p off v
  else if b = 0x70 ∧ off = 0x09C then s.writeRxCfg v
  else if b = 0x80 ∧ off = 0x06C then s.qmsgPush n (natBits v.toNat 0 9)
  else if b = 0xA0 ∧ ¬ isPairHi p off then s.writeLed n off v
  else if b = 0xB0 ∧ off = 0x008 then (s.storeReg p off v).clCtrl n
  else s.writePlain q p off v

/-- A write of OWNER at its page arbiter (R65): HOLDER 0b11 is refused from anyone, PCIe is refused while MSPI holds
the page. -/
def State.ownerTake (s : State) (q : Req) (p : Nat) (v : Word) : State :=
  let h := natBits v.toNat 0 2
  if h = 3 ∨ (q = .pcie ∧ s.fld (PG_OWNER_HOLDER.inst p) = 2) then s.refuseWrite q p 0x02C
  else (s.countWrite p).setFld (PG_OWNER_HOLDER.inst p) h

/-- A write of OWNER by a requester. -/
def State.ownerWrite (s : State) (q : Req) (p : Nat) (v : Word) : State := s.passGate q p 0x02C v fun t => t.ownerTake q p v

/-- One dword written at its page arbiter (R60 to R68). -/
def State.regTake (s : State) (q : Req) (p off : Nat) (v : Word) : State :=
  if off = 0x02C then s.ownerTake q p v else s.accept q p off fun t => t.regEffect q p off v

/-- One dword written by a requester. -/
def State.regWrite (s : State) (q : Req) (p off : Nat) (v : Word) : State := s.passGate q p off v fun t => t.regTake q p off v

/-- Whether a write would be refused under OWNER (R65). -/
def State.writeRefused (s : State) (q : Req) (p off : Nat) (v : Word) : Bool :=
  s.gate q p == .served &&
    (if off = 0x02C then natBits v.toNat 0 2 == 3 || (q == .pcie && s.fld (PG_OWNER_HOLDER.inst p) == 2)
     else s.barred q p off)

/-! Reads. -/

/-- Registers whose upper part is a requester's snapshot that another read took (R62, R88, R266, R315). -/
def snapOff (p off : Nat) : Bool :=
  let b := pageBase p
  isPairHi p off || (b == 2 && (off == 0x044 || off == 0x048 || off == 0x04C)) ||
    (b == 0x40 && (off == 0x144 || off == 0x14C)) || (b == 0x50 && (off == 0x070 || off == 0x074))

/-- The value of a register as a read returns it where the read has no effect. -/
def State.plainRead (s : State) (q : Req) (p off : Nat) : Word :=
  let b := pageBase p
  if off = 0x024 then if s.commitState p = cmTaken then (s.unit p).taken else s.reg (regKey p off)
  else if snapOff p off then s.snap q (regKey p off)
  else if b = 2 ∧ off = 0x050 then BitVec.ofNat 32 s.st32
  else if b = 5 ∧ off = 0x044 then s.cmdResult (reqCode q)
  else if b = 12 ∧ 0x080 ≤ off ∧ off < 0x0C0 then 0
  else if b = 0x90 ∧ off = 0x0A0 then BitVec.ofNat 32 (s.latTolUs (p - b))
  else s.reg (regKey p off)

/-- One dword read by a requester that is served: value, whether it is poisoned, state after (R61, R62). -/
def State.regRead (s : State) (q : Req) (p off : Nat) : Word × Bool × State :=
  let b := pageBase p
  let n := p - b
  if b = 2 ∧ off = 0x040 then let r := s.readNowNs q; (BitVec.ofNat 32 r.1, false, r.2)
  else if isPairLo p off then
    (s.reg (regKey p off), false, s.setSnap q (regKey p (off + 4)) (s.reg (regKey p (off + 4))))
  else if b = 0x10 ∧ off = 0x084 then let r := s.readImem n; (r.1, false, r.2)
  else if b = 0x10 ∧ 0x088 ≤ off ∧ off ≤ 0x090 ∧ ¬ s.imemServed n then (0, false, s)
  else if b = 0x20 ∧ off = BANK_STALL_MAX_NS_NS.off then let r := s.readStallMax n; (BitVec.ofNat 32 r.1, false, r.2)
  else if b = 0x40 ∧ off = 0x140 then s.fifoRead q n true
  else if b = 0x40 ∧ off = 0x148 then s.fifoRead q n false
  else if b = 0x50 ∧ off = 0x06C then let r := s.tsqRead q n; (r.1, false, r.2)
  else if b = 0xA0 ∧ off = 0x068 then let r := s.readKnot n; (r.1, false, r.2)
  else (s.plainRead q p off, false, s)

/-- One dword read; a reserved page reads 0 (R63). -/
def State.gateRead (s : State) (q : Req) (p off : Nat) : Word × Bool × State :=
  match s.gate q p with
  | .served => s.regRead q p off
  | .reserved => (0, false, s)
  | .silent => (0, false, s)
  | .aborts => (0, false, s)
  | .held => (0, false, s)

/-- `n` dwords read one by one from page and offset `next i` (R59). -/
def State.readSeq (s : State) (q : Req) (at_ : Nat → Nat × Nat) (i n : Nat) : List Word × Bool × State :=
  match n with
  | 0 => ([], false, s)
  | k + 1 =>
    let r := s.gateRead q (at_ i).1 (at_ i).2
    let t := r.2.2.readSeq q at_ (i + 1) k
    (r.1 :: t.1, r.2.1 || t.2.1, t.2.2)

/-! BAR0 and BAR2 (R58, R59). -/

/-- Page and offset of dword `i` of a request at BAR0 offset `a`. -/
def barDword (a i : Nat) : Nat × Nat := ((a / 4 + i) / 1024 % 4096, (a / 4 + i) % 1024 * 4)

/-- A request to BAR0: dword accesses in ascending order (R59). -/
def State.bar0 (s : State) (r : MemReq) : State :=
  let n := r.be.length
  match s.hostGate with
  | .silent => s
  | .reserved => s
  | .held => s.hold269 (.bar0 r)
  | .aborts => if r.write then s else s.emit .abort
  | .served =>
    if r.write then
      if r.be.any fun b => b != 15 then s.badAccess r.addr
      else (List.range n).foldl (fun (t : State) (i : Nat) =>
        t.regWrite .pcie (barDword r.addr i).1 (barDword r.addr i).2 (r.data.getD i 0)) s
    else if 2 < n then (s.badAccess r.addr).emit .abort
    else
      let x := s.readSeq .pcie (barDword r.addr) 0 n
      x.2.2.emit (if x.2.1 then .poisoned x.1 else .data .pcie x.1)

/-- Bytes as dwords, least significant first. -/
def dwords (n : Nat) (bs : List Byte) : List Word := (List.range n).map fun i => BitVec.ofNat 32 (leField bs (4 * i) 4)

/-- A request to the BAR2 window (R58): usable DRAM from its base on, nothing beyond. -/
def State.bar2 (s : State) (r : MemReq) : State :=
  let n := r.be.length
  let a := s.act HOST_BAR2_WIN_WIN_GIB * 2 ^ 30 + r.addr
  let inside := min (4 * n) (s.dramUsable - a)
  let s1 := if inside < 4 * n then s.badAccess r.addr else s
  if r.write then
    let byte (i : Nat) : Option Byte :=
      if i < inside ∧ (r.be.getD (i / 4) 0).testBit (i % 4) then
        some (BitVec.ofNat 8 ((r.data.getD (i / 4) 0).toNat / 2 ^ (8 * (i % 4)))) else none
    (List.range ((a % 8 + 4 * n + 7) / 8)).foldl (fun (t : State) (j : Nat) =>
      let w := a / 8 * 8 + 8 * j
      t.writeDramWord w ((List.range 8).map fun i => if a ≤ w + i then byte (w + i - a) else none)) s1
  else
    let x := s1.readDram a inside
    let ws := dwords n (x.1 ++ List.replicate (4 * n - inside) 0)
    x.2.2.emit (if x.2.1 then .poisoned ws else .data .pcie ws)

/-! The WRITE command of FIFO0 (R283). -/

/-- The writes of a WRITE command from index `i` on, each straight to its page arbiter: whether one was not made,
state after. -/
def State.cmdWrites (s : State) (seq i : Nat) (ws : List DWord) : Bool × State :=
  match ws with
  | [] => (false, s)
  | w :: rest =>
    let p := natBits w.toNat 0 10
    let off := natBits w.toNat 12 12 / 4 * 4
    let bad := blockType p = 0 ∨ (pageBase p = 0x40 ∧ 0x100 ≤ off ∧ off < 0x140)
    let s1 := if bad then s.raise (fifoPage 0) 19 (seq + i * 2 ^ 32) else s.regTake .pcie p off (w.extractLsb' 32 32)
    let t := s1.cmdWrites seq (i + 1) rest
    (decide bad || t.1, t.2)

/-! MSPI (R480). -/

/-- The STATUS byte. -/
def State.mspiByte (s : State) : Nat :=
  (if s.bit SYS_STATUS_READY then 1 else 0) + (if s.bit SYS_STATUS_RECOVERY then 2 else 0) +
    (if s.bit SYS_STATUS_BOOT_FAIL then 4 else 0) + (if s.groom.refused then 8 else 0) + s.fld SYS_BOOT_PHASE_PHASE % 16 * 16

/-- Page and offset of dword `i` of a frame at `addr`: the offset wraps within the page. -/
def mspiDword (addr i : Nat) : Nat × Nat := (natBits addr 12 10, (natBits addr 0 12 + 4 * i) % 4096)

/-- One dword written by MSPI; whether it was refused shows in STATUS. -/
def State.mspiPut (s : State) (p off : Nat) (v : Word) : State :=
  (s.modGroom fun g => { g with refused := s.writeRefused .mspi p off v }).regWrite .mspi p off v

/-! The meanings. -/

/-- BAR0_REQUEST (R59). -/
def execBar0Request (r : MemReq) (s : State) : Host.Outcome State Fault Refusal := .next (s.bar0 r)

/-- BAR2_ACCESS (R58). -/
def execBar2Access (r : MemReq) (s : State) : Host.Outcome State Fault Refusal := .next (s.serveMem r (.bar2 r) fun t => t.bar2 r)

/-- The other requester. -/
def otherReq (q : Req) : Req := match q with | .pcie => .mspi | .mspi => .pcie

/-- An access of requester `q` at the arbiter of page `p`. -/
def State.pageAcc (s : State) (q : Req) (p : Nat) (a : PageAcc) : State :=
  match a with
  | .read off => s.serveRead q p off fun t => let r := t.regRead q p off; r.2.2.answer q r.1 r.2.1
  | .write off v => s.regWrite q p off v

/-- A tie at the arbiter of page `p` (R60): the first after reset goes to MSPI, then the two alternate. -/
def State.tieWinner (s : State) (p : Nat) : Req := if s.host.tiePcie.contains p then .pcie else .mspi

/-- The next tie of page `p` goes to the other requester. -/
def State.tieTurn (s : State) (p : Nat) : State :=
  { s with host := { s.host with
    tiePcie := if s.host.tiePcie.contains p then s.host.tiePcie.filter fun x => x != p else s.host.tiePcie ++ [p] } }

/-- REGISTER_WRITE (R66), with the arbiter's order where the other requester's access is pending too (R60). -/
def execRegisterWrite (q : Req) (page off : Nat) (v : Word) (tie : Option PageAcc) (s : State) : Host.Outcome State Fault Refusal :=
  match tie with
  | none => .next (s.regWrite q page off v)
  | some a =>
    .next (if s.pcieHeld then (s.regWrite q page off v).pageAcc (otherReq q) page a
      else if s.tieWinner page = q then ((s.tieTurn page).regWrite q page off v).pageAcc (otherReq q) page a
      else ((s.tieTurn page).pageAcc (otherReq q) page a).regWrite q page off v)

/-- SNAPSHOT_READ (R62). -/
def execSnapshotRead (q : Req) (page off : Nat) (s : State) : Host.Outcome State Fault Refusal :=
  .next (s.serveRead q page (off % 4096 / 4 * 4) fun t =>
    let r := t.regRead q page (off % 4096 / 4 * 4)
    r.2.2.answer q r.1 r.2.1)

/-- PAIR_HI_WRITE (R62). -/
def execPairHiWrite (q : Req) (page off : Nat) (v : Word) (s : State) : Host.Outcome State Fault Refusal :=
  .next (s.regWrite q page off v)

/-- OWNER_WRITE (R65). -/
def execOwnerWrite (q : Req) (page : Nat) (v : Word) (s : State) : Host.Outcome State Fault Refusal :=
  .next (s.ownerWrite q page v)

/-- EVENT_CLEAR_WRITE (R76). -/
def execEventClearWrite (q : Req) (page : Nat) (v : Word) (together : Word) (s : State) : Host.Outcome State Fault Refusal :=
  .next (s.write q page 0x010 v fun t => t.clearEvents page v together)

/-- EVENT_FORCE_WRITE (R76). -/
def execEventForceWrite (q : Req) (page : Nat) (v : Word) (s : State) : Host.Outcome State Fault Refusal :=
  .next (s.write q page 0x018 v fun t => t.forceEvents page v)

/-- VEC_ARM_WRITE (R78). -/
def execVecArmWrite (q : Req) (hi : Bool) (v : Word) (s : State) : Host.Outcome State Fault Refusal :=
  .next (s.write q 1 (if hi then 0x04C else 0x048) v fun t => t.armVectors hi v)

/-- MSIX_UNMASK (R78): a PCIe write of the vector's table entry that clears its mask bit. -/
def execMsixUnmask (vector : Nat) (s : State) : Host.Outcome State Fault Refusal :=
  .next (if vector < 64 then
      s.write .pcie 1 (0x80C + 16 * vector) (s.reg (regKey 1 (0x80C + 16 * vector)) &&& ~~~ 1) fun t =>
        t.writeHost (0x80C + 16 * vector) (t.reg (regKey 1 (0x80C + 16 * vector)) &&& ~~~ 1)
    else s)

/-- CMD_WRITE (R283, R285). -/
def execCmdWrite (s : State) : Host.Outcome State Fault Refusal :=
  match s.headCmd 2 with
  | some c =>
    let r := s.cmdWrites c.seq 0 c.words
    .next (r.2.executed { c with failed := r.1, made := c.words.length })
  | none => .next s

/-- MSPI_READ (R480): a frame that ends inside a dword changes nothing, a misaligned one reads zeros. -/
def execMspiRead (addr n : Nat) (cut : Bool) (s : State) : Host.Outcome State Fault Refusal :=
  if cut then .next s
  else if addr % 4 ≠ 0 then .next (s.emit (.mspi (List.replicate (4 * n) 0)))
  else
    let x := s.readSeq .mspi (mspiDword addr) 0 n
    .next (x.2.2.emit (.mspi (x.1.flatMap fun w => valBytes 4 w.toNat)))

/-- MSPI_WRITE (R480). -/
def execMspiWrite (addr : Nat) (ws : List Word) (cut : Bool) (s : State) : Host.Outcome State Fault Refusal :=
  if cut then .next s
  else if addr % 4 ≠ 0 then .next (s.modGroom fun g => { g with refused := true })
  else .next ((ws.zip (List.range ws.length)).foldl (fun (t : State) (q : Word × Nat) =>
    t.mspiPut (mspiDword addr q.2).1 (mspiDword addr q.2).2 q.1) s)

/-- MSPI_STATUS (R480). -/
def execMspiStatus (s : State) : Host.Outcome State Fault Refusal := .next (s.emit (.mspi [BitVec.ofNat 8 s.mspiByte]))

end Sys2Proof.Machine
end

