-- ==== Sys2Proof/Machine/Arbiter.lean ====
section
/-! DEFINITION. The FIFO arbiter (R273): the order of what is pending at a FIFO together; what waits behind a push that holds its PCIe posted request (R269); the meanings of the commands of the FIFO registers and timers. -/

namespace Sys2Proof.Machine

open Sys2Proof

/-! What waits behind a stalled push (R269). -/

/-- A PCIe request that has waited is served as it would have been. -/
def State.redo (s : State) (h : HeldReq) : State :=
  match h with
  | .write p off v => s.regWrite .pcie p off v
  | .read p off => s.pageAcc .pcie p (.read off)
  | .bar0 r => s.bar0 r
  | .bar2 r => s.serveMem r (.bar2 r) fun t => t.bar2 r
  | .bank k r meet => s.bankWin k r meet
  | .config r => s.config r

/-- The waiting requests are served in order until a push stalls again; the rest goes on waiting. -/
def State.redoHeld (s : State) (l : List HeldReq) : State :=
  match l with
  | [] => s
  | h :: t =>
    let s1 := s.redo h
    if s1.pcieHeld then { s1 with host := { s1.host with held := s1.host.held ++ t } } else s1.redoHeld t

/-- Nothing waits any more once the push is over. -/
def State.takeHeld (s : State) : State :=
  if s.fifos.any fun p => p.2.stalls.any fun k => k.req == 1 then s
  else { s with host := { s.host with held := [] } }.redoHeld s.host.held

/-! The arbiter (R273, Table 08-4). -/

/-- A request of FIFO `n` by itself. -/
def State.fifoReq (s : State) (n : Nat) (r : FifoReq) : State :=
  match r with
  | .pop q => s.serveRead q (fifoPage n) 0x140 fun t => let x := t.fifoRead q n true; x.2.2.answer q x.1 x.2.1
  | .peek q => s.serveRead q (fifoPage n) 0x148 fun t => let x := t.fifoRead q n false; x.2.2.answer q x.1 x.2.1
  | .ctrl q v => s.writeFifoCtrl q n v
  | .commit q v => s.write q (fifoPage n) 0x020 v fun t => t.commitWrite (fifoPage n) v false false
  | .push q k v =>
    if k < 8 then s.write q (fifoPage n) (0x104 + 8 * k) v fun t => t.pushWin q n k v else s
  | .burst d e => s.hdmaStep d e
  | .accept => if n = 0 then s.acceptCmd (s.fifoLevel 0 + 1) else s
  | .record => if n = 1 then s.pushRecord else if n = 2 then s.pushTrace else s
  | .idle => s.fifoIdle n
  | .expiry => (s.expirePush n).takeHeld

/-- A request at the arbiter: its class in Table 08-4, its requester (1 PCIe, 2 MSPI, 0 another), what is done. -/
structure FifoAct where
  cls : Nat
  q : Nat
  act : State → State

/-- Whether a write of CTRL asks for a consumer's request, and for a control one. -/
def ctrlMarks (v : Word) : Bool := v.getLsbD 3 || v.getLsbD 4 || v.getLsbD 5
def ctrlFlows (v : Word) : Bool := v.getLsbD 0 || v.getLsbD 1 || v.getLsbD 2

/-- The class of the HDMA task's burst. -/
def State.burstClass (s : State) : Nat :=
  match s.unitCtx hdmaUnit with
  | some c => if natBits (s.ctx c).w1 0 2 = 1 then 3 else 1
  | none => 1

/-- What a request brings before the arbiter of FIFO `n`; an accepted write of CTRL that asks for both classes brings
two requests. -/
def State.fifoActs (s : State) (n : Nat) (r : FifoReq) : List FifoAct :=
  let one (c q : Nat) : List FifoAct := [⟨c, q, fun t => t.fifoReq n r⟩]
  match r with
  | .pop q => one 1 (reqCode q)
  | .peek q => one 1 (reqCode q)
  | .ctrl q v =>
    if ctrlMarks v && ctrlFlows v && s.gate q (fifoPage n) == .served && !s.barred q (fifoPage n) 0x008 then
      [⟨1, reqCode q, fun t => t.fifoReq n (.ctrl q (v &&& 0x78))⟩, ⟨2, reqCode q, fun t => t.fifoFlow n v⟩]
    else one (if ctrlMarks v then 1 else 2) (reqCode q)
  | .commit q _ => one 2 (reqCode q)
  | .push q _ _ => one 3 (reqCode q)
  | .burst _ _ => one s.burstClass 0
  | .accept => one 1 0
  | .record => one 3 0
  | .idle => one 4 0
  | .expiry => one 4 0

/-- Place of the request taken next, and whether it settled a tie of PCIe and MSPI: the first of the lowest class,
the two requesters alternating (R60, R273). -/
def nextAct (turn : Bool) (l : List FifoAct) : Nat × Bool :=
  let c := l.foldl (fun (m : Nat) (a : FifoAct) => min m a.cls) 4
  let i := l.findIdx fun a => a.cls == c
  let j := l.findIdx fun a => a.cls == c && a.q + ((l[i]?.map (·.q)).getD 0) == 3
  if j < l.length then
    (if ((l[i]?.map (·.q)).getD 0) = (if turn then 1 else 2) then i else j, true)
  else (i, false)

/-- The requests are taken one by one in the order of Table 08-4. -/
def State.arbitrate (s : State) (n : Nat) (fuel : Nat) (l : List FifoAct) : State :=
  match fuel with
  | 0 => s
  | k + 1 =>
    let p := nextAct (s.fifo n).turn l
    match l[p.1]? with
    | none => s
    | some a => ((a.act (s.modFifo n fun x => { x with turn := x.turn != p.2 }))).arbitrate n k (l.eraseIdx p.1)

/-- A request of FIFO `n` with those that are pending at its arbiter together with it. -/
def State.fifoArb (s : State) (n : Nat) (r : FifoReq) (together : List FifoReq) : State :=
  if n < 16 then
    match together with
    | [] => s.fifoReq n r
    | _ =>
      let l := (r :: together).flatMap (s.fifoActs n)
      s.arbitrate n l.length l
  else s

/-! The meanings. -/

/-- FIFO_PUSH (R264). -/
def execFifoPush (q : Req) (n k : Nat) (v : Word) (together : List FifoReq) (s : State) : Host.Outcome State Fault Refusal :=
  .next (s.fifoArb n (.push q k v) together)

/-- PUSH_COMPLETE (R268): what waited behind a PCIe push goes on (R269). -/
def execPushComplete (n : Nat) (s : State) : Host.Outcome State Fault Refusal := .next (s.completePush n).takeHeld

/-- PUSH_STALL_EXPIRY (R270). -/
def execPushStallExpiry (n : Nat) (together : List FifoReq) (s : State) : Host.Outcome State Fault Refusal :=
  .next (s.fifoArb n .expiry together)

/-- FIFO_POP (R264). -/
def execFifoPop (q : Req) (n : Nat) (together : List FifoReq) (s : State) : Host.Outcome State Fault Refusal :=
  .next (s.fifoArb n (.pop q) together)

/-- FIFO_PEEK (R264). -/
def execFifoPeek (q : Req) (n : Nat) (together : List FifoReq) (s : State) : Host.Outcome State Fault Refusal :=
  .next (s.fifoArb n (.peek q) together)

/-- FLUSH (R275). -/
def execFlush (q : Req) (n : Nat) (v : Word) (together : List FifoReq) (s : State) : Host.Outcome State Fault Refusal :=
  .next (s.fifoArb n (.ctrl q v) together)

/-- FLUSH_AND_HOLD (R276). -/
def execFlushAndHold (q : Req) (n : Nat) (v : Word) (together : List FifoReq) (s : State) : Host.Outcome State Fault Refusal :=
  .next (s.fifoArb n (.ctrl q v) together)

/-- OPEN (R276). -/
def execOpenFifo (q : Req) (n : Nat) (v : Word) (together : List FifoReq) (s : State) : Host.Outcome State Fault Refusal :=
  .next (s.fifoArb n (.ctrl q v) together)

/-- MARK_SET (R277). -/
def execMarkSet (q : Req) (n : Nat) (v : Word) (together : List FifoReq) (s : State) : Host.Outcome State Fault Refusal :=
  .next (s.fifoArb n (.ctrl q v) together)

/-- REWIND (R279). -/
def execRewind (q : Req) (n : Nat) (v : Word) (together : List FifoReq) (s : State) : Host.Outcome State Fault Refusal :=
  .next (s.fifoArb n (.ctrl q v) together)

/-- MARK_CLEAR (R279). -/
def execMarkClear (q : Req) (n : Nat) (v : Word) (together : List FifoReq) (s : State) : Host.Outcome State Fault Refusal :=
  .next (s.fifoArb n (.ctrl q v) together)

/-- IDLE (R274). -/
def execIdle (n : Nat) (together : List FifoReq) (s : State) : Host.Outcome State Fault Refusal :=
  .next (s.fifoArb n .idle together)

end Sys2Proof.Machine
end

