-- ==== Sys2Proof/Machine/Ptp.lean ====
section
/-! DEFINITION. PTP messages as frames (R94, R296, R300): the copy of a received frame to the PTP engine, and the Delay_Req the engine hands to its port. The layout of the messages is that of IEEE 1588-2019, which R94 names (log entry 8). -/

namespace Sys2Proof.Machine

open Sys2Proof

/-! Messages received (R296). -/

/-- A timestamp of a message: 48-bit seconds, 32-bit nanoseconds, in units of 2^-16 ns. -/
def ptpTime (y : List Byte) : Int := (beField y 34 6 * 1000000000 + beField y 40 4) * unitsPerNs

/-- The correctionField, in 2^-16 ns. -/
def ptpCorr (y : List Byte) : Int := natSigned 64 (beField y 8 8)

/-- The 12 dwords of a synchronization metadata TLV among the TLVs from `o` on (SMPTE ST 2059-2): the value of an
organization extension of SMPTE (log entry 8); none otherwise. -/
def smTlv (y : List Byte) (o fuel : Nat) : List Word :=
  match fuel with
  | 0 => []
  | k + 1 =>
    if y.length < o + 4 then []
    else
      let len := beField y (o + 2) 2
      if beField y o 2 = 3 ∧ beField y (o + 4) 3 = 0x6897E8 ∧ 48 ≤ len then
        (List.range 12).map fun i => BitVec.ofNat 32 (leField y (o + 4 + 4 * i) 4)
      else smTlv y (o + 4 + len) k

/-- Whether a frame is copied to the PTP engine of port `p` (R296). -/
def State.ptpCopies (s : State) (p : Nat) (bs : List Byte) : Bool :=
  (s.fld TIME_PTP_CFG_PORT_EN).testBit p && isUdp bs && (udpDport bs == 319 || udpDport bs == 320) &&
    (ipDst bs == 0xE0000181 || ipDst bs == s.fld (NET_IPV4_ADDR_ADDR.inst p))

/-- The engine takes a message `y` copied from a frame with receive stamp `t2`. -/
def State.ptpMessage (s : State) (p : Nat) (bs y : List Byte) (t2 : Int) : State :=
  let typ := beField y 0 1 % 16
  let clock := beField y 20 8
  let src := beField y 28 2
  let dom := beField y 4 1
  let seq := beField y 30 2
  let li := natSigned 8 (beField y 33 1)
  if beField y 1 1 % 16 ≠ 2 ∨ y.length < 44 then s
  else if typ = 0 then
    s.sync ⟨p, clock, src, dom, seq, li, (beField y 6 2).testBit 9, ptpTime y, ptpCorr y, t2, beField bs 6 6, ipSrc bs⟩
  else if typ = 8 then s.followUp ⟨p, clock, src, dom, seq, ptpTime y, ptpCorr y⟩
  else if typ = 9 ∧ 54 ≤ y.length ∧ beField y 44 10 = (Config.portIdentity p).toNat then
    s.delayResp ⟨p, clock, dom, seq, ptpTime y, ptpCorr y⟩
  else if typ = 11 ∧ 64 ≤ y.length then
    s.announce ⟨p, clock, src, dom, li, beField y 47 1, beField y 48 1, beField y 49 1, beField y 50 2, beField y 52 1, beField y 53 8,
      beField y 61 2, smTlv y 64 y.length⟩
  else s

/-- A whole frame with a good FCS is copied to the engine, whatever the filters decide (R296). -/
def State.ptpFrame (s : State) (p : Nat) (bs : List Byte) (fcsOk : Bool) (stamp : Nat) : State :=
  if s.netUp p ∧ fcsOk ∧ 60 ≤ bs.length ∧ s.ptpCopies p bs then
    s.ptpMessage p bs (udpPayload bs) (adjStamp stamp (s.sfld (NET_TS_ADJ_RX_PS_PS.inst p)))
  else s

/-! Delay_Req (R94, R296, R300). -/

/-- The frame of a Delay_Req: from the port's MAC and IPv4 address, to 224.0.1.129 or to the master. DSCP,
identification, TTL and whether the UDP checksum is computed are not given by the spec: bits of the free value `v`. -/
def State.delayReqFrame (s : State) (p seq mac ip v : Nat) (unicast : Bool) : List Byte :=
  let eth := valBytesBE 6 (if unicast then mac else 0x01005E000181) ++
    valBytesBE 6 (s.fld (NET_MAC_ADDR_HI_ADDR.inst p) * 2 ^ 32 + s.fld (NET_MAC_ADDR_LO_ADDR.inst p)) ++ valBytesBE 2 0x0800
  let hdr (sum : Nat) : List Byte := [0x45] ++ valBytesBE 1 (natBits v 0 8) ++ valBytesBE 2 72 ++ valBytesBE 2 (natBits v 8 16) ++
    valBytesBE 2 0 ++ valBytesBE 1 (natBits v 24 8) ++ [17] ++ valBytesBE 2 sum ++
    valBytesBE 4 (s.fld (NET_IPV4_ADDR_ADDR.inst p)) ++ valBytesBE 4 (if unicast then ip else 0xE0000181)
  let msg := [0x01, 0x12] ++ valBytesBE 2 44 ++ valBytesBE 1 (s.fld TIME_PTP_CFG_DOMAIN) ++ [0] ++
    valBytesBE 2 (if unicast then 0x0400 else 0) ++ List.replicate 12 0 ++ valBytesBE 10 (Config.portIdentity p).toNat ++
    valBytesBE 2 seq ++ [0x01, 0x7F] ++ List.replicate 10 0
  let f := eth ++ hdr (inetSum (hdr 0)) ++ valBytesBE 2 319 ++ valBytesBE 2 319 ++ valBytesBE 2 52 ++ [0, 0] ++ msg
  if v.testBit 32 then putBytes f 40 (valBytesBE 2 (udpSum f 14 34)) else f

/-- The addresses the engine has for the master in use (R296). -/
def State.masterAddr (s : State) (m : Master) : Option (Nat × Nat) :=
  match s.time.peer with
  | some x => if x.1 = m.port ∧ x.2.1 = m.clock then some x.2.2 else none
  | none => none

/-- A Delay_Req is handed to the slave port at each interval (R94, R96, R300); a unicast one needs the addresses of the
master (log entry 8). -/
def State.sendDelayReq (s : State) (seq : Nat) : State :=
  match s.time.inUse with
  | none => s
  | some u =>
    let due : Bool := match s.time.lastReqAt with
      | none => true
      | some a => decide (intervalUnits (natSigned 4 (s.fld TIME_PTP_CFG_LOG_DELAY_REQ)) ≤ s.time.mono - a)
    let uni := s.bit TIME_PTP_CFG_DELAY_UNICAST
    let addr := s.masterAddr u
    if s.ptpTakes u.port u.domain ∧ due ∧ (¬ uni ∨ addr.isSome) then
      let a := addr.getD (0, 0)
      let f : TxFrame := ⟨2, 0, 0, s.delayReqFrame u.port (seq % 65536) a.1 a.2 s.freeVal uni, none, none, none, some (seq % 65536)⟩
      (s.takeFree.modTime fun t => { t with lastReqAt := some t.mono }).handTx u.port f
    else s

/-- DELAY_REQ_SEND (R96). -/
def execDelayReqSend (seq : Nat) (s : State) : Host.Outcome State Fault Refusal := .next (s.sendDelayReq seq)

end Sys2Proof.Machine
end

