-- ==== Sys2Proof/Machine/Transit.lean ====
section
/-! DEFINITION. The transit and what follows it in a frame (spec/01, spec/03, spec/05): the transit itself, rate changes and steps named by the planet, the authorised step, frame starts and stripe instants, emit fetches and launches; and the commands that need the parts of several chapters: RX_FRAME, LATCH_POINT, ABORT_DECIDED. -/

namespace Sys2Proof.Machine

open Sys2Proof

/-! The registers and the plan at a transit. -/

/-- The registers of transit `n`, whose instant is `inst` (R33, R36): number and ST32 together, SEAM over. -/
def State.transitRegs (s : State) (n inst : Nat) : State :=
  let s1 := ((s.setFld TIME_TRANSIT_NUM_LO_NUM_LO n).setFld TIME_TRANSIT_NUM_HI_NUM_HI (n / 2 ^ 32)).setFld
    TIME_TRANSIT_ST32_ST32 (inst / unitsPerNs)
  ((s1.setBit TIME_TRANSIT_STATE_VALID true).setBit TIME_TRANSIT_STATE_SEAM false).modTime fun t => { t with
    transit := some (n, inst)
    nextTransit := some (n + 1, transitInstant s.rate (n + 1))
    seam := none }

/-- EACH_TRANSIT occurrences move on with the transits (R113). -/
def State.eachTransit (s : State) : State :=
  let us := s.trig.units.map fun (n, u) =>
    (n, if s.fld (TRIG_TRG_CFG_MODE.nth n) = 2 then { u with doneLast := u.doneNext, doneNext := false } else u)
  { s with trig := { s.trig with units := us } }

/-- The frame whose output would have been launched at the first transit after a seam (R40): DMX ports repeat
their last packet, everything else is suspended. -/
def seamFrame (p : PlanTabs) (rate : Nat × Nat) (m : Nat) : FrameRun :=
  let f := if p.stripe then m else m - 1
  { n := f, launch := p.launchBase rate m, plan := p, shed := 0, skipped := true, planes := []
    emits := (p.emit.zip (List.range p.emit.length)).foldl (fun (l : List (Nat × EmitRun)) (e : EmitEnt × Nat) =>
      mapSet (fun _ => (⟨none, none, false⟩ : EmitRun)) l e.2 ⟨none, some false, pageBase e.1.page != 0x80⟩) [] }

/-- The first transit after a seam: what the frames of the old grid leave. -/
def State.afterSeam (s : State) (m : Nat) : State :=
  s.modPlan fun q => { q with frames := match s.plan.active with | some p => [seamFrame p s.rate m] | none => [] }

/-- The plan at transit `n`: a frame is due to start; while SUSPENDED its outputs fall back (R193). -/
def State.planTransit (s : State) (n : Nat) : State :=
  match s.plan.active with
  | none => s
  | some p =>
    if s.inRecovery then s
    else if s.fld PLAN_STATUS_STATE = 2 then
      s.modPlan fun q => { q with
        frames := keepFrames q.frames (p.frameOf n) ++
          [⟨p.frameOf n, p.launchBase s.rate (p.emitTransit (p.frameOf n)), p, q.shed, true, q.planes, []⟩] }
    else s.modPlan fun q => { q with frameDue := some (p.frameOf n) }

/-! Steps (R105, R106). -/

/-- AT and PERIODIC triggers whose target lies in the skipped interval (R106, R115). -/
def State.stepTriggers (s : State) (a b : Nat) : State :=
  (List.range 64).foldl (fun (t : State) (n : Nat) =>
    let at_ := (t.trgUnit n).next * unitsPerNs
    if t.bit (TRIG_TRG_CFG_ARM.nth n) ∧ t.fld (TRIG_TRG_CFG_MODE.nth n) ≠ 2 ∧ a ≤ at_ ∧ at_ < b then
      t.trgPast n ((b - at_) / unitsPerNs)
    else t) s

/-- After a step: ACQUIRE, or FREE without a source; the servo enters ACQUIRE (R106). -/
def State.stepServo (s : State) : State :=
  if s.fld TIME_STATUS_SOURCE_IN_USE = 0 then
    (s.modTime fun t => { t with servoLocked := false, lockRun := 0, unlockRun := 0 }).setTimeState tsFree
  else s.servoAcquire

/-- The tick instants a step carries in its mark (R253): those of the skipped interval from `a` up to, not
including, `b`, plus one. -/
def State.skippedTicks (s : State) (a b : Nat) : Nat :=
  let p := s.act SCHED_TICK_CFG_US * 1000 * unitsPerNs
  (b + p - 1) / p - (a + p - 1) / p + 1

/-- The step `d` (in units of 2^-16 ns) is applied at the transit just reached (R106). The step anchor is
produced whatever ANCHOR_EN holds (log entry 34). -/
def State.applyStep (s : State) (d : Nat) : State :=
  let a := s.time.now
  let s1 := s.modTime fun t => { t with now := a + d, held := none, lastAnchor := (a + d + unitsPerSec - 1) / unitsPerSec - 1 }
  let s2 := ((s1.tickMark (s1.skippedTicks a (a + d))).nextFromNow).ltcSkip
  let s3 := match s2.time.nextTransit with
    | some t => (s2.openSeam t.1 t.2 false).refuseSeam fun u => decide (u.target < t.1)
    | none => s2
  let s4 := (s3.pushRec 2 0x21 (s3.nowNs / 2 ^ 32) false s3.nowNs).stepTriggers a (a + d)
  let s5 := (s4.raise 2 14 (min (roundNs d).toNat (2 ^ 40 - 1))).setBit TIME_CTRL_STEP_AUTH false
  s5.stepServo.forceGlide.scanStep

/-- The step authorised on this device, in units of 2^-16 ns (R105); one authorised together with the mark of
this transit waits for the next. -/
def State.ownStep (s : State) : Option Nat :=
  match s.time.held with
  | some h =>
    if s.bit TIME_CTRL_STEP_AUTH ∧ ¬ s.time.stepSkip ∧ s.timeState = tsHeld ∧ h.o < 0 then some (-h.o).toNat else none
  | none => none

/-- The rate change and the step that the planet has named for transit `n` (R440); a moon that has joined takes
the rate at its first transit, whatever transit the planet's cell names. -/
def State.planetNamed (s : State) (n : Nat) : State :=
  let s1 := match s.group.rate with
    | some (num, den, t) =>
      if t = n % 2 ^ 28 ∨ s.group.joining then
        let old := s.rate
        let u := s.modGroup fun g => { g with rate := none, joining := false }
        ((u.setAct TIME_FRAME_RATE_NUM_NUM num).setAct TIME_FRAME_RATE_DEN_DEN den).rateSeam old n
      else s
    | none => s
  match s.group.step with
  | some (d, t) =>
    if t = n % 2 ^ 24 then
      let u := s1.modGroup fun g => { g with step := none }
      if 0 < d then u.applyStep (d * unitsPerNs) else u
    else s1
  | none => s1

/-! The transit. -/

/-- What every unit does at transit `n` (R27 to R30), the time base apart. -/
def State.transitUnits (s : State) (n : Nat) : State :=
  let s1 := if s.bit TRIG_FSYNC_CFG_OUT_EN then s.fsyncPulse else s
  let s2 := { s1 with marks := s1.marks ++ [Mark.transit n] }
  let s3 := (s2.selectPlanes n).sacnSnapshot n
  let s4 := (List.range 16).foldl (fun (t : State) (p : Nat) => t.dmxSnapshot p n) s3
  (((((s4.rateResume).planTransit n).commitsDue n).scanTransit n).calTransit).clTransit n

/-- Transit `n` is reached, its instant being `inst`. -/
def State.atTransit (s : State) (n inst : Nat) : State :=
  let s1 := (s.transitRegs n inst).eachTransit
  let s2 := if s.time.seam.isSome then s1.afterSeam n else s1
  let s3 := (s2.transitUnits n).planetNamed n
  let s4 := match s3.ownStep with | some d => s3.applyStep d | none => s3
  s4.modTime fun t => { t with stepSkip := false }

/-- TRANSIT (R27): the next transit's instant is reached. -/
def execTransit (s : State) : Host.Outcome State Fault Refusal :=
  match s.time.nextTransit with
  | some t => .next (if t.2 ≤ s.time.now then s.atTransit t.1 t.2 else s)
  | none => .next s

/-! Frame starts and stripe instants (R199, R202). -/

/-- The start of stripe `q` of the frame that renders the picture of transit `t` (R53). -/
def State.stripeAt (s : State) (p : PlanTabs) (t q : Nat) : Nat :=
  stripeInstant s.rate p.stripes t (q + 1) + p.stripeGuard * unitsPerNs

/-- The frame due starts, in STRIPE no earlier than its stripe-0 instant; a commit that is due at its transit
goes first (log entry 31). -/
def State.startDue (s : State) : State :=
  match s.plan.frameDue, s.plan.active with
  | some f, some p =>
    let waits := (s.armed 2 && (s.unit 2).due.isSome) || (s.armed 4 && (s.unit 4).due.isSome) || s.inRecovery
    if waits ∨ (p.stripe ∧ s.time.now < s.stripeAt p (f - 1) 0) then s
    else if p.stripe then (s.stripeLate (f - 1) 0 p.stripes).frameStart f p
    else s.frameStart f p
  | _, _ => s

/-- PLAN_FRAME_START (R199): the frame due starts. -/
def execPlanFrameStart (s : State) : Host.Outcome State Fault Refusal := .next s.startDue

/-- The frame that runs: the latest started; while SUSPENDED the latest that was not skipped (R193). -/
def State.runningFrame (s : State) : Option FrameRun :=
  (s.plan.frames.filter fun f => !f.skipped || s.fld PLAN_STATUS_STATE != 2).getLast?

/-- STRIPE_INSTANT (R202, R331): the start instant of stripe `q` of the running frame, by the frame's own plan
(R191); stripe 0 starts the frame due. -/
def execStripeInstant (q : Nat) (s : State) : Host.Outcome State Fault Refusal :=
  if q = 0 then
    .next (match s.plan.active with | some p => if p.stripe then s.startDue else s | none => s)
  else
    match s.runningFrame with
    | some f =>
      .next (if f.plan.stripe ∧ s.plan.stripeNext ≤ q ∧ q < f.plan.stripes ∧ s.stripeAt f.plan (f.n - 1) q ≤ s.time.now then
        (s.stripeLate (f.n - 1) q f.plan.stripes).stripeStart q else s)
    | none => .next s

/-! The emit list (R184, R186, R46). -/

/-- `s` with entry `i` of frame `f` changed; two frames of one number have different launch instants. -/
def State.setEmit (s : State) (f : FrameRun) (i : Nat) (r : EmitRun) : State :=
  s.modPlan fun q => { q with frames := q.frames.map fun g => if g.n = f.n ∧ g.launch = f.launch then g.setEmit i r else g }

/-- Whether the block of an entry serves it in the frame: a block that is off, or a DMX port whose turn it is
not, neither launches nor falls back. -/
def State.emitServed (s : State) (f : FrameRun) (e : EmitEnt) : Bool :=
  let b := pageBase e.page
  let n := e.page - b
  if b = 0x80 then s.dmxRole n == drController && s.dmxTurn n (f.plan.emitTransit f.n)
  else if b = 0x68 then s.act (EGRESS_CTRL_EN.inst n) == 1
  else if b = 0x70 then s.flowType (natBits e.arg 0 8) == ftSacnTx
  else if b = 0xB0 then s.clIsUp n
  else false

/-- The fallback of an entry whose data is not there (R46, R186): EMIT_LATE and its count. -/
def State.emitLate (s : State) (f : FrameRun) (e : EmitEnt) : State :=
  if s.emitServed f e then (s.incFld PLAN_EMIT_NOT_READY_COUNT 1).raise e.page 3 (lo32 f.n) else s

/-- Whether an entry's level is shed in its frame. -/
def FrameRun.shedEnt (f : FrameRun) (e : EmitEnt) : Bool := e.level != 0 && decide (e.level ≤ f.shed)

/-- The launch instant of an entry of a frame (R184). -/
def FrameRun.launchOf (f : FrameRun) (e : EmitEnt) : Nat := ((f.launch : Int) + e.offset * unitsPerNs).toNat

/-- The fetch of entry `i` of a frame (R186, R350). -/
def State.emitFetch (s : State) (f : FrameRun) (i : Nat) (e : EmitEnt) : State :=
  let r := f.emitAt i
  let marked : Bool := match r.readyAt with | some t => decide (t < s.time.mono) | none => false
  let ready := !f.skipped && (e.noReady || marked)
  let shed := f.shedEnt e
  let go := ready && !shed
  let s1 := s.setEmit f i { r with fetched := some go }
  let s2 := if ready ∨ shed then s1 else s1.emitLate f e
  let b := pageBase e.page
  let n := e.page - b
  if b = 0x80 then s2.dmxFetch n f e go
  else if b = 0x68 then s2.egressFetch n f e go shed (f.launchOf e)
  else if b = 0x70 then s2.sacnFetch f e go
  else s2

/-- Entry `i` of frame `frame`, where the frame is not forgotten: of two frames of that number (R191, R202), the earlier
one whose entry is not launched. -/
def State.emitEntry (s : State) (frame i : Nat) : Option (FrameRun × EmitEnt) :=
  match s.plan.frames.find? fun f => f.n == frame && !(f.emitAt i).launched with
  | some f => (f.plan.emit[i]?).map fun e => (f, e)
  | none => none

/-- Whether the launch instant `at_` lies inside the seam in progress, where nothing is launched (R40). -/
def State.launchSeam (s : State) (at_ : Nat) : Bool :=
  match s.time.seam, s.time.transit with
  | some _, some t => decide (t.2 < at_)
  | some _, none => true
  | none, _ => false

/-- EMIT_FETCH (R186): at launch minus FETCH_LEAD_NS; nothing is fetched for a launch inside a seam (R40). -/
def execEmitFetch (frame i : Nat) (s : State) : Host.Outcome State Fault Refusal :=
  match s.emitEntry frame i with
  | some (f, e) =>
    .next (if f.launchOf e ≤ s.time.now + e.lead * unitsPerNs ∧ (f.emitAt i).fetched = none ∧ ¬ (f.emitAt i).launched ∧
        ¬ s.launchSeam (f.launchOf e) then
      s.emitFetch f i e else s)
  | none => .next s

/-- The launch of entry `i` of a frame: a fetch that has not started has left nothing to launch (R46). -/
def State.emitLaunch (s : State) (f : FrameRun) (i : Nat) (e : EmitEnt) (cut : RdmIn) : State :=
  let r := f.emitAt i
  let shed := f.shedEnt e
  let s1 := s.setEmit f i { r with fetched := some (r.fetched == some true), launched := true }
  let s2 := if r.fetched = none ∧ ¬ shed then s1.emitLate f e else s1
  let b := pageBase e.page
  let n := e.page - b
  if b = 0x80 then s2.dmxLaunch n f cut
  else if b = 0x68 then s2.egressLaunch n f.n
  else if b = 0x70 then s2.sacnLaunch f.n e s.time.mono
  else if b = 0xB0 then (if s.emitServed f e then s2.clLaunch n (f.plan.emitTransit f.n) f e (r.fetched == some true) else s2)
  else s2

/-- EMIT_LAUNCH (R184, R46): the launch instant; nothing is launched inside a seam (R40). -/
def execEmitLaunch (frame i : Nat) (cut : RdmIn) (s : State) : Host.Outcome State Fault Refusal :=
  match s.emitEntry frame i with
  | some (f, e) =>
    let at_ := f.launchOf e
    .next (if at_ ≤ s.time.now ∧ ¬ (f.emitAt i).launched ∧ ¬ s.launchSeam at_ then s.emitLaunch f i e cut else s)
  | none => .next s

/-! Aborts (R251). -/

/-- A kernel stops at its next step, and its engine pads the rest of the window. -/
def State.stopKernel (s : State) (e : Nat) : State :=
  match (s.eng e).kernelWin with
  | some (w, _) => s.modEng e fun x => { x.flush with
      window := some { w with kernel := none, asked := false }
      loops := []
      branch := none
      inDelay := false }
  | none => s

/-- The destination of an aborted stream task is undefined (R251). -/
def State.undefDesc (s : State) (d : Desc) : State :=
  let bank := natBits d.bank 18 5
  (descBursts d d.dram).foldl (fun (t : State) (q : Nat × Int) =>
    if ownerAdmits (t.owner bank) .sched ∧ 0 ≤ q.2 ∧ t.inDram q.2.toNat 64 then
      if d.toDram then (t.writeDram q.2.toNat (freeBytes t.freeVal 64)).takeFree
      else ((List.range 8).foldl (fun (u : State) (i : Nat) =>
        u.sWrite bank (q.1 + 8 * i) (BitVec.allOnes 64) (BitVec.ofNat 64 (u.freeVal / 2 ^ (64 * i))) 3) t).takeFree
    else t) s

/-- The unit of a task stops before its commit point (R251, R347, R423, R467, R281). -/
def State.stopUnit (s : State) (u n : Nat) : State :=
  if u < 8 then s.stopKernel (s.slotEngine u)
  else if u < 24 then
    match s.scTask u with
    | some d => s.undefDesc d
    | none => s
  else if u = 40 then s.calAbort
  else if u = keyUnit then s.modKey fun k => { k with latch := none }
  else if u = hdmaUnit then
    let w1 := (s.ctx n).w1
    let p := s.unitParams u
    let len := natBits (p.getD 2 0) 0 32 / 8 * 8
    let da := natBits (p.getD 1 0) 0 40 / 8 * 8
    let s1 := if natBits w1 0 2 = 3 ∧ s.inDram da len then (s.writeDram da (freeBytes s.freeVal len)).takeFree else s
    let s2 := if natBits w1 0 2 = 1 then
        s1.modFifo (natBits w1 4 4) fun x => { x with stalls := x.stalls.filter fun k => k.prod != endHdma } else s1
    { (s2.schedWrite (s2.ctxDesc n) 6 s2.hdmaDone).2 with hdmaDone := 0 }
  else s

/-- The oldest abort before unit `u`'s commit arbiter is decided for requester `q` (R251). A completion or a fault
report of the unit that is pending at the dispatch arbiter is taken first, and makes the abort void. -/
def State.decideAbort (s : State) (u q n : Nat) : State :=
  if (s.sched.done.any fun p => p.1 == u) ∨ (s.sched.faults.any fun p => p.1 == u) then s.takeReports.takeWaits.schedSync
  else
    let s1 := s.modSched fun x => { x with aborts := x.aborts.erase (u, q) }
    if s.sched.commit.contains u then s1.voidAbort q n 2
    else (((s1.stopUnit u n).abortResult q n 0).endTask n csCancelled ecAbort 0 tkAbort 0 true).takeWaits.schedSync

/-- ABORT_DECIDED (R251). -/
def execAbortDecided (u : Nat) (s : State) : Host.Outcome State Fault Refusal :=
  match s.sched.aborts.find? fun p => p.1 == u, s.unitCtx u with
  | some p, some n => .next (s.decideAbort u p.2 n)
  | _, _ => .next s

/-! Frames received and latch points. -/

/-- RX_FRAME (R293 to R299, R322): a frame is received whole, and copied to the PTP engine where R296 says so. `lost`
counts the guaranteed positions of its port that a DRAM fault has left unserved since the last frame. -/
def execRxFrame (p : Nat) (bytes : List Byte) (fcsOk : Bool) (stamp lost : Nat) (s : State) : Host.Outcome State Fault Refusal :=
  let s1 := s.receive (State.flowFrame p) p bytes fcsOk stamp lost
  .next (if p < 4 then (if s.rxLevel p lost < 65536 then s1.ptpFrame p bytes fcsOk stamp else s1) else s)

/-- LATCH_POINT (R370, R371): the latch point of port `n`'s next frame. -/
def execLatchPoint (n : Nat) (chain : Option Nat) (s : State) : Host.Outcome State Fault Refusal :=
  .next (if n < 16 ∧ s.latchDue n then s.latch n chain fun t => t.takeAtLatch n else s)

end Sys2Proof.Machine
end

