-- ==== Sys2Proof/Machine/Wheel.lean ====
section
/-! DEFINITION. The DRAM slot wheel (spec/05 R180, R181; spec/09 R318, R319): the map of its 256 positions, and the meaning of its command. Where the spec gives counts and no positions, the placement is a DESIGN CHOICE (log entry 35). -/

namespace Sys2Proof.Machine

open Sys2Proof

/-! The dynamic positions with a class (Table 09-7). -/

/-- Guaranteed positions of class RX per turn. -/
def State.rxGuarantee (s : State) : Nat := ((List.range 4).map s.rxPositions).sum

/-- The class of the `m`-th of the twelve positions of TXD (2), FIFO (3), HOST (4) and BG (5). -/
def otherClass (m : Nat) : Nat := [5, 3, 4, 5, 3, 4, 5, 2, 3, 5, 4, 2].getD m 0

/-- The place of the `m`-th of these twelve among the 64 positions kept from the plan. -/
def otherPlace (m : Nat) : Nat := 64 * m / 12

/-- Whether RX holds place `j` of the other 52, for a guarantee of `g`: evenly spread, and near the full number with
no gap beside one of the twelve. -/
def rxPlace (g j : Nat) : Bool :=
  if 40 ≤ g then !((List.range (52 - g)).any fun m => j == otherPlace m + 2)
  else
    let rank := j - ((List.range 12).filter fun m => otherPlace m < j).length
    (List.range g).any fun k => 52 * k / g == rank

/-- The class of place `j` among the 64 positions kept from the plan; 0 for none. -/
def placeClass (g j : Nat) : Nat :=
  match (List.range 12).find? fun m => otherPlace m == j with
  | some m => otherClass m
  | none => if rxPlace g j then 1 else 0

/-! The plan's positions (R180). -/

/-- The owners of the plan's positions in order: the channels of the slots by their sets (2 × slot + channel), then
the pool of the TIMED windows (16). -/
def PlanTabs.wheelOwners (p : PlanTabs) : List Nat :=
  ((List.range 16).flatMap fun i => List.replicate (chanSet p.windows (i / 2) (i % 2)) i) ++
    List.replicate (timedPool (p.windows.filter fun w => w.timed) (periodFrac p.rateHi) (periodFrac p.rateLo)) 16

/-- What a position of the wheel belongs to. -/
inductive WheelOwner where
  | plan (owner : Nat)
  | cls (c : Nat)
  deriving DecidableEq, Repr

/-- The map of the wheel (R180, R318): every fourth position is kept from the plan, the plan's positions are the
first of the others. -/
def State.wheelMap (s : State) (pos : Nat) : WheelOwner :=
  let i := pos % 256
  if i % 4 = 3 then .cls (placeClass s.rxGuarantee (i / 4))
  else
    match s.plan.active with
    | some p => (match p.wheelOwners[i / 4 * 3 + i % 4]? with | some o => .plan o | none => .cls 0)
    | none => .cls 0

/-- Whether the LAP window of a channel's slot is open (R181). -/
def State.chanOpen (s : State) (o : Nat) : Bool := s.scWindow (s.slotEngine (o / 2)) (o % 2)

/-- Whether a plan position is lent (R181): its channel has nothing to transfer in an open window. Positions of the
pool are never lent. -/
def State.lentPos (s : State) (o : Nat) (pending : Bool) : Bool := decide (o < 16) && !(pending && s.chanOpen o)

/-! The dynamic slot arbiter (R319). -/

/-- The clients of a class with an access pending. -/
def wheelClients (w : WheelSlot) (c : Nat) : List Nat :=
  match w.pending.find? fun q => q.1 == c with | some q => q.2 | none => []

/-- The first of `n` numbers from `i + 1` on, cyclically, that `p` admits. -/
def nextRound (n i : Nat) (p : Nat → Bool) : Option Nat :=
  ((List.range n).map fun k => (i + 1 + k) % n).find? p

/-- The client served within a class: round robin, the plan loader (client 0) first in BG while a load is
CHECKING or STAGING (R319). -/
def State.classClient (s : State) (w : WheelSlot) (c : Nat) : Option Nat :=
  let l := wheelClients w c
  if c = 5 ∧ s.plan.loading.isSome ∧ l.contains 0 then some 0
  else nextRound (l.foldl max 0 + 1) (mapGet (fun _ => 0) s.wheel.last c) fun k => l.contains k

/-- One position is given (R319): class and client. -/
def State.grant (s : State) (w : WheelSlot) (c : Nat) (surplus : Bool) : State :=
  match s.classClient w c with
  | none => s
  | some k =>
    let s1 := { s with wheel := { surplus := if surplus then c else s.wheel.surplus, last := mapSet (fun _ => 0) s.wheel.last c k } }
    s1.emit (.wheel c k)

/-- Surplus goes round robin among the classes with an access pending (R319). -/
def State.surplusTurn (s : State) (w : WheelSlot) : State :=
  match nextRound 5 (s.wheel.surplus + 4) fun k => !(wheelClients w (k + 1)).isEmpty with
  | some k => s.grant w (k + 1) true
  | none => s

/-- A wheel position comes round (R319). -/
def State.wheelTurn (s : State) (w : WheelSlot) : State :=
  match s.wheelMap w.pos with
  | .plan o =>
    if s.lentPos o w.planPending then s.surplusTurn w
    else if w.planPending then s.emit (.wheel 6 o) else s
  | .cls c => if c ≠ 0 ∧ ¬ (wheelClients w c).isEmpty then s.grant w c false else s.surplusTurn w

/-- DRAM_WHEEL_SLOT (R319). -/
def execDramWheelSlot (slot : WheelSlot) (s : State) : Host.Outcome State Fault Refusal := .next (s.wheelTurn slot)

end Sys2Proof.Machine
end

