-- ==== Sys2Proof/Machine/Dispatch.lean ====
section
/-! DEFINITION. One arm per command: the call of its meaning. -/

namespace Sys2Proof.Machine

open Sys2Proof

/-- The effect of a command on everything but the queue. -/
def exec (i : Instr) (s : State) : Host.Outcome State Fault Refusal :=
  match i with
  | .transit => Sys2Proof.Machine.execTransit s
  | .emitLaunch frame ent cut => Sys2Proof.Machine.execEmitLaunch frame ent cut s
  | .emitFetch frame ent => Sys2Proof.Machine.execEmitFetch frame ent s
  | .bar0Request r => Sys2Proof.Machine.execBar0Request r s
  | .bar2Access r => Sys2Proof.Machine.execBar2Access r s
  | .bar4Access r meet => Sys2Proof.Machine.execBar4Access r meet s
  | .setAliasWrite r meet => Sys2Proof.Machine.execSetAliasWrite r meet s
  | .clearAliasWrite r meet => Sys2Proof.Machine.execClearAliasWrite r meet s
  | .registerWrite q page off v tie => Sys2Proof.Machine.execRegisterWrite q page off v tie s
  | .snapshotRead q page off => Sys2Proof.Machine.execSnapshotRead q page off s
  | .pairHiWrite q page off v => Sys2Proof.Machine.execPairHiWrite q page off v s
  | .ownerWrite q page v => Sys2Proof.Machine.execOwnerWrite q page v s
  | .commitArm q page v cutoffTogether takeTogether => Sys2Proof.Machine.execCommitArm q page v cutoffTogether takeTogether s
  | .commitCancel q page v takeTogether => Sys2Proof.Machine.execCommitCancel q page v takeTogether s
  | .commitCutoff page => Sys2Proof.Machine.execCommitCutoff page s
  | .commitTake page => Sys2Proof.Machine.execCommitTake page s
  | .eventClearWrite q page v together => Sys2Proof.Machine.execEventClearWrite q page v together s
  | .eventForceWrite q page v => Sys2Proof.Machine.execEventForceWrite q page v s
  | .eventRecordTake k => Sys2Proof.Machine.execEventRecordTake k s
  | .eventRecordPush => Sys2Proof.Machine.execEventRecordPush s
  | .vecArmWrite q hi v => Sys2Proof.Machine.execVecArmWrite q hi v s
  | .msixUnmask vector => Sys2Proof.Machine.execMsixUnmask vector s
  | .anchor => Sys2Proof.Machine.execAnchor s
  | .nowNsRead q => Sys2Proof.Machine.execNowNsRead q s
  | .announceRx m => Sys2Proof.Machine.execAnnounceRx m s
  | .syncRx m => Sys2Proof.Machine.execSyncRx m s
  | .followUpRx m => Sys2Proof.Machine.execFollowUpRx m s
  | .delayReqSend seq => Sys2Proof.Machine.execDelayReqSend seq s
  | .delayRespRx m => Sys2Proof.Machine.execDelayRespRx m s
  | .setSecHiWrite q v => Sys2Proof.Machine.execSetSecHiWrite q v s
  | .swOffsetWrite q v => Sys2Proof.Machine.execSwOffsetWrite q v s
  | .freqAdjWrite q v => Sys2Proof.Machine.execFreqAdjWrite q v s
  | .swCorrectionAbsorbed => Sys2Proof.Machine.execSwCorrectionAbsorbed s
  | .stepAuthWrite q v => Sys2Proof.Machine.execStepAuthWrite q v s
  | .carveAuthWrite q v => Sys2Proof.Machine.execCarveAuthWrite q v s
  | .forceGlideWrite q v => Sys2Proof.Machine.execForceGlideWrite q v s
  | .swServoWrite q v => Sys2Proof.Machine.execSwServoWrite q v s
  | .glideTimeout => Sys2Proof.Machine.execGlideTimeout s
  | .glideLimit => Sys2Proof.Machine.execGlideLimit s
  | .triggerArm q n v => Sys2Proof.Machine.execTriggerArm q n v s
  | .triggerDisarm q n v actionTogether => Sys2Proof.Machine.execTriggerDisarm q n v actionTogether s
  | .trgCue n => Sys2Proof.Machine.execTrgCue n s
  | .trgTioSet n => Sys2Proof.Machine.execTrgTioSet n s
  | .trgTioClr n => Sys2Proof.Machine.execTrgTioClr n s
  | .trgTioToggle n => Sys2Proof.Machine.execTrgTioToggle n s
  | .trgTioPulse n => Sys2Proof.Machine.execTrgTioPulse n s
  | .tioPulseEnd pin => Sys2Proof.Machine.execTioPulseEnd pin s
  | .trgTioSample n => Sys2Proof.Machine.execTrgTioSample n s
  | .trgSnsStart n => Sys2Proof.Machine.execTrgSnsStart n s
  | .trgFsyncPulse n => Sys2Proof.Machine.execTrgFsyncPulse n s
  | .tioEdge pin rising stamp => Sys2Proof.Machine.execTioEdge pin rising stamp s
  | .fsyncEdge rising stamp => Sys2Proof.Machine.execFsyncEdge rising stamp s
  | .ltcOutFrame => Sys2Proof.Machine.execLtcOutFrame s
  | .ltcInFrame f => Sys2Proof.Machine.execLtcInFrame f s
  | .ltcInLost => Sys2Proof.Machine.execLtcInLost s
  | .nop e sl => Sys2Proof.Machine.execNop e sl s
  | .illegalOp e => Sys2Proof.Machine.execIllegalOp e s
  | .vMov e vb f => Sys2Proof.Machine.execVMov e vb f s
  | .vAdd e vb f => Sys2Proof.Machine.execVAdd e vb f s
  | .vSub e vb f => Sys2Proof.Machine.execVSub e vb f s
  | .vMinu e vb f => Sys2Proof.Machine.execVMinu e vb f s
  | .vMins e vb f => Sys2Proof.Machine.execVMins e vb f s
  | .vMaxu e vb f => Sys2Proof.Machine.execVMaxu e vb f s
  | .vMaxs e vb f => Sys2Proof.Machine.execVMaxs e vb f s
  | .vAnd e vb f => Sys2Proof.Machine.execVAnd e vb f s
  | .vOr e vb f => Sys2Proof.Machine.execVOr e vb f s
  | .vXor e vb f => Sys2Proof.Machine.execVXor e vb f s
  | .vAndn e vb f => Sys2Proof.Machine.execVAndn e vb f s
  | .vShl e vb f => Sys2Proof.Machine.execVShl e vb f s
  | .vShru e vb f => Sys2Proof.Machine.execVShru e vb f s
  | .vShrs e vb f => Sys2Proof.Machine.execVShrs e vb f s
  | .absdu e vb f => Sys2Proof.Machine.execAbsdu e vb f s
  | .vCmpeq e vb f => Sys2Proof.Machine.execVCmpeq e vb f s
  | .vCmpne e vb f => Sys2Proof.Machine.execVCmpne e vb f s
  | .vCmpltu e vb f => Sys2Proof.Machine.execVCmpltu e vb f s
  | .vCmplts e vb f => Sys2Proof.Machine.execVCmplts e vb f s
  | .vCmpleu e vb f => Sys2Proof.Machine.execVCmpleu e vb f s
  | .vCmples e vb f => Sys2Proof.Machine.execVCmples e vb f s
  | .sel e vb f => Sys2Proof.Machine.execSel e vb f s
  | .avgu e vb f => Sys2Proof.Machine.execAvgu e vb f s
  | .perm e f => Sys2Proof.Machine.execPerm e f s
  | .rotl e f => Sys2Proof.Machine.execRotl e f s
  | .splat e f => Sys2Proof.Machine.execSplat e f s
  | .rsum e f => Sys2Proof.Machine.execRsum e f s
  | .pack e f => Sys2Proof.Machine.execPack e f s
  | .unpklu e f => Sys2Proof.Machine.execUnpklu e f s
  | .unpkhu e f => Sys2Proof.Machine.execUnpkhu e f s
  | .unpkls e f => Sys2Proof.Machine.execUnpkls e f s
  | .unpkhs e f => Sys2Proof.Machine.execUnpkhs e f s
  | .zipl e f => Sys2Proof.Machine.execZipl e f s
  | .ziph e f => Sys2Proof.Machine.execZiph e f s
  | .vMul e f => Sys2Proof.Machine.execVMul e f s
  | .mulhu e f => Sys2Proof.Machine.execMulhu e f s
  | .mulhs e f => Sys2Proof.Machine.execMulhs e f s
  | .mulq e f => Sys2Proof.Machine.execMulq e f s
  | .macq e f => Sys2Proof.Machine.execMacq e f s
  | .fma e f => Sys2Proof.Machine.execFma e f s
  | .fmul e f => Sys2Proof.Machine.execFmul e f s
  | .fadd e f => Sys2Proof.Machine.execFadd e f s
  | .fcvtu e f => Sys2Proof.Machine.execFcvtu e f s
  | .ucvtf e f => Sys2Proof.Machine.execUcvtf e f s
  | .fmin e f => Sys2Proof.Machine.execFmin e f s
  | .fmax e f => Sys2Proof.Machine.execFmax e f s
  | .vld e f => Sys2Proof.Machine.execVld e f s
  | .vldp e f => Sys2Proof.Machine.execVldp e f s
  | .vst e f => Sys2Proof.Machine.execVst e f s
  | .vstp e f => Sys2Proof.Machine.execVstp e f s
  | .vsts e f => Sys2Proof.Machine.execVsts e f s
  | .vstc e f => Sys2Proof.Machine.execVstc e f s
  | .xld e f => Sys2Proof.Machine.execXld e f s
  | .xst e f => Sys2Proof.Machine.execXst e f s
  | .sld e f => Sys2Proof.Machine.execSld e f s
  | .sldp e f => Sys2Proof.Machine.execSldp e f s
  | .sst e f => Sys2Proof.Machine.execSst e f s
  | .sstp e f => Sys2Proof.Machine.execSstp e f s
  | .ssts e f => Sys2Proof.Machine.execSsts e f s
  | .sstc e f => Sys2Proof.Machine.execSstc e f s
  | .vget e f => Sys2Proof.Machine.execVget e f s
  | .vput e f => Sys2Proof.Machine.execVput e f s
  | .scstart e f => Sys2Proof.Machine.execScstart e f s
  | .scstat e f => Sys2Proof.Machine.execScstat e f s
  | .cAdd e f => Sys2Proof.Machine.execCAdd e f s
  | .cSub e f => Sys2Proof.Machine.execCSub e f s
  | .cAnd e f => Sys2Proof.Machine.execCAnd e f s
  | .cOr e f => Sys2Proof.Machine.execCOr e f s
  | .cXor e f => Sys2Proof.Machine.execCXor e f s
  | .cShl e f => Sys2Proof.Machine.execCShl e f s
  | .cShru e f => Sys2Proof.Machine.execCShru e f s
  | .cShrs e f => Sys2Proof.Machine.execCShrs e f s
  | .cMul e f => Sys2Proof.Machine.execCMul e f s
  | .cMins e f => Sys2Proof.Machine.execCMins e f s
  | .cMaxs e f => Sys2Proof.Machine.execCMaxs e f s
  | .addi e f => Sys2Proof.Machine.execAddi e f s
  | .lil e f => Sys2Proof.Machine.execLil e f s
  | .lih e f => Sys2Proof.Machine.execLih e f s
  | .cCmpeq e f => Sys2Proof.Machine.execCCmpeq e f s
  | .cCmpne e f => Sys2Proof.Machine.execCCmpne e f s
  | .cCmpltu e f => Sys2Proof.Machine.execCCmpltu e f s
  | .cCmplts e f => Sys2Proof.Machine.execCCmplts e f s
  | .cCmpleu e f => Sys2Proof.Machine.execCCmpleu e f s
  | .cCmples e f => Sys2Proof.Machine.execCCmples e f s
  | .pand e f => Sys2Proof.Machine.execPand e f s
  | .por e f => Sys2Proof.Machine.execPor e f s
  | .pnot e f => Sys2Proof.Machine.execPnot e f s
  | .br e f => Sys2Proof.Machine.execBr e f s
  | .loopi e f => Sys2Proof.Machine.execLoopi e f s
  | .loops e f => Sys2Proof.Machine.execLoops e f s
  | .rdlc e f => Sys2Proof.Machine.execRdlc e f s
  | .lapmark e vgrp => Sys2Proof.Machine.execLapmark e vgrp s
  | .lapSave e => Sys2Proof.Machine.execLapSave e s
  | .fence e pr mask => Sys2Proof.Machine.execFence e pr mask s
  | .fenceRelease e => Sys2Proof.Machine.execFenceRelease e s
  | .owopen e win budget => Sys2Proof.Machine.execOwopen e win budget s
  | .windowEnd e => Sys2Proof.Machine.execWindowEnd e s
  | .kend e => Sys2Proof.Machine.execKend e s
  | .rdsys e f => Sys2Proof.Machine.execRdsys e f s
  | .fend e => Sys2Proof.Machine.execFend e s
  | .padStep e => Sys2Proof.Machine.execPadStep e s
  | .lapOverrun e => Sys2Proof.Machine.execLapOverrun e s
  | .descriptorComplete e ch => Sys2Proof.Machine.execDescriptorComplete e ch s
  | .imemDataRead q e => Sys2Proof.Machine.execImemDataRead q e s
  | .planLoad q v => Sys2Proof.Machine.execPlanLoad q v s
  | .planAbort q v => Sys2Proof.Machine.execPlanAbort q v s
  | .loadCheckEnd => Sys2Proof.Machine.execLoadCheckEnd s
  | .loadDone => Sys2Proof.Machine.execLoadDone s
  | .stagedCodeCopy slot => Sys2Proof.Machine.execStagedCodeCopy slot s
  | .reshadowed => Sys2Proof.Machine.execReshadowed s
  | .stopModeWriteDone => Sys2Proof.Machine.execStopModeWriteDone s
  | .speedSample samples vddcMv => Sys2Proof.Machine.execSpeedSample samples vddcMv s
  | .planFrameStart => Sys2Proof.Machine.execPlanFrameStart s
  | .stripeInstant q => Sys2Proof.Machine.execStripeInstant q s
  | .lapMarkNotice => Sys2Proof.Machine.execLapMarkNotice s
  | .faultReport => Sys2Proof.Machine.execFaultReport s
  | .stallDetect slot => Sys2Proof.Machine.execStallDetect slot s
  | .lapDue slot => Sys2Proof.Machine.execLapDue slot s
  | .restoreDone e => Sys2Proof.Machine.execRestoreDone e s
  | .borrowStart b seg => Sys2Proof.Machine.execBorrowStart b seg s
  | .borrowRelease b bad failed => Sys2Proof.Machine.execBorrowRelease b bad failed s
  | .borrowHoldoffEnd b => Sys2Proof.Machine.execBorrowHoldoffEnd b s
  | .stallMaxRead q b => Sys2Proof.Machine.execStallMaxRead q b s
  | .scrubRead b word => Sys2Proof.Machine.execScrubRead b word s
  | .rowSpareStart b row => Sys2Proof.Machine.execRowSpareStart b row s
  | .rowSpared b => Sys2Proof.Machine.execRowSpared b s
  | .ctxCfgWrite q n v => Sys2Proof.Machine.execCtxCfgWrite q n v s
  | .submit q ctx => Sys2Proof.Machine.execSubmit q ctx s
  | .cancel q ctx together => Sys2Proof.Machine.execCancel q ctx together s
  | .abort q ctx together => Sys2Proof.Machine.execAbort q ctx together s
  | .abortDecided u => Sys2Proof.Machine.execAbortDecided u s
  | .release q ctx => Sys2Proof.Machine.execRelease q ctx s
  | .taskCmdBadOp q ctx op => Sys2Proof.Machine.execTaskCmdBadOp q ctx op s
  | .tick => Sys2Proof.Machine.execTick s
  | .schedTransitMark => Sys2Proof.Machine.execSchedTransitMark s
  | .schedTriggerMark => Sys2Proof.Machine.execSchedTriggerMark s
  | .dispatch => Sys2Proof.Machine.execDispatch s
  | .windowDispatch e delay => Sys2Proof.Machine.execWindowDispatch e delay s
  | .taskComplete u => Sys2Proof.Machine.execTaskComplete u s
  | .taskFaulted => Sys2Proof.Machine.execTaskFaulted s
  | .traceRecordPush => Sys2Proof.Machine.execTraceRecordPush s
  | .fifoPush q n k v together => Sys2Proof.Machine.execFifoPush q n k v together s
  | .pushComplete n => Sys2Proof.Machine.execPushComplete n s
  | .pushStallExpiry n together => Sys2Proof.Machine.execPushStallExpiry n together s
  | .fifoPop q n together => Sys2Proof.Machine.execFifoPop q n together s
  | .fifoPeek q n together => Sys2Proof.Machine.execFifoPeek q n together s
  | .flush q n v together => Sys2Proof.Machine.execFlush q n v together s
  | .flushAndHold q n v together => Sys2Proof.Machine.execFlushAndHold q n v together s
  | .openFifo q n v together => Sys2Proof.Machine.execOpenFifo q n v together s
  | .markSet q n v together => Sys2Proof.Machine.execMarkSet q n v together s
  | .rewind q n v together => Sys2Proof.Machine.execRewind q n v together s
  | .markClear q n v together => Sys2Proof.Machine.execMarkClear q n v together s
  | .idle n together => Sys2Proof.Machine.execIdle n together s
  | .hdmaBurst data err => Sys2Proof.Machine.execHdmaBurst data err s
  | .commandAccept => Sys2Proof.Machine.execCommandAccept s
  | .cmdNop => Sys2Proof.Machine.execCmdNop s
  | .cmdTask together => Sys2Proof.Machine.execCmdTask together s
  | .cmdWrite => Sys2Proof.Machine.execCmdWrite s
  | .cmdMark => Sys2Proof.Machine.execCmdMark s
  | .portRestart q p v => Sys2Proof.Machine.execPortRestart q p v s
  | .linkUp p speed => Sys2Proof.Machine.execLinkUp p speed s
  | .linkDown p => Sys2Proof.Machine.execLinkDown p s
  | .rxFrame p bytes fcsOk stamp lost => Sys2Proof.Machine.execRxFrame p bytes fcsOk stamp lost s
  | .pauseRx p quanta => Sys2Proof.Machine.execPauseRx p quanta s
  | .pauseExpiry p => Sys2Proof.Machine.execPauseExpiry p s
  | .pauseWatchdog p => Sys2Proof.Machine.execPauseWatchdog p s
  | .pauseHoldoffEnd p => Sys2Proof.Machine.execPauseHoldoffEnd p s
  | .txArbitrate p pop pause => Sys2Proof.Machine.execTxArbitrate p pop pause s
  | .txrTailWrite q p r v => Sys2Proof.Machine.execTxrTailWrite q p r v s
  | .txDescriptor p r => Sys2Proof.Machine.execTxDescriptor p r s
  | .launchAt p r => Sys2Proof.Machine.execLaunchAt p r s
  | .txDescriptorDone p r => Sys2Proof.Machine.execTxDescriptorDone p r s
  | .tsqPop q p => Sys2Proof.Machine.execTsqPop q p s
  | .lpiEnter p => Sys2Proof.Machine.execLpiEnter p s
  | .lpiExit p => Sys2Proof.Machine.execLpiExit p s
  | .dramWheelSlot slot => Sys2Proof.Machine.execDramWheelSlot slot s
  | .egressPacketHandover n => Sys2Proof.Machine.execEgressPacketHandover n s
  | .sacnSourceTimeout univ cid => Sys2Proof.Machine.execSacnSourceTimeout univ cid s
  | .snapshotWriteDone unit => Sys2Proof.Machine.execSnapshotWriteDone unit s
  | .sacnTxPacket => Sys2Proof.Machine.execSacnTxPacket s
  | .sacnKeepalive ctx j => Sys2Proof.Machine.execSacnKeepalive ctx j s
  | .dmxPacketEnd n => Sys2Proof.Machine.execDmxPacketEnd n s
  | .dmxRxPacket n packet => Sys2Proof.Machine.execDmxRxPacket n packet s
  | .dmxRxTimeout n => Sys2Proof.Machine.execDmxRxTimeout n s
  | .rdmRequestStart n => Sys2Proof.Machine.execRdmRequestStart n s
  | .rdmResponse n r => Sys2Proof.Machine.execRdmResponse n r s
  | .rdmResponseTimeout n => Sys2Proof.Machine.execRdmResponseTimeout n s
  | .rdmRequestIn n bytes => Sys2Proof.Machine.execRdmRequestIn n bytes s
  | .rdmResponderAnswer n => Sys2Proof.Machine.execRdmResponderAnswer n s
  | .qmsgPush q n v => Sys2Proof.Machine.execQmsgPush q n v s
  | .latchPoint n chain => Sys2Proof.Machine.execLatchPoint n chain s
  | .portFrameStart n late => Sys2Proof.Machine.execPortFrameStart n late s
  | .lineSlotStart n => Sys2Proof.Machine.execLineSlotStart n s
  | .bmodePlane n => Sys2Proof.Machine.execBmodePlane n s
  | .endOp n => Sys2Proof.Machine.execEndOp n s
  | .shiftData n => Sys2Proof.Machine.execShiftData n s
  | .shiftConst n => Sys2Proof.Machine.execShiftConst n s
  | .shiftGain n => Sys2Proof.Machine.execShiftGain n s
  | .latchOp n => Sys2Proof.Machine.execLatchOp n s
  | .goeOp n => Sys2Proof.Machine.execGoeOp n s
  | .rowOp n => Sys2Proof.Machine.execRowOp n s
  | .waitOp n => Sys2Proof.Machine.execWaitOp n s
  | .loopOp n => Sys2Proof.Machine.execLoopOp n s
  | .endLoopOp n => Sys2Proof.Machine.execEndLoopOp n s
  | .readOp n flags => Sys2Proof.Machine.execReadOp n flags s
  | .shiftProbe n => Sys2Proof.Machine.execShiftProbe n s
  | .pulseOp n => Sys2Proof.Machine.execPulseOp n s
  | .chainTestWrite q n v => Sys2Proof.Machine.execChainTestWrite q n v s
  | .verifyAgeTick n => Sys2Proof.Machine.execVerifyAgeTick n s
  | .scriptWrite q n k v => Sys2Proof.Machine.execScriptWrite q n k v s
  | .curveDataWrite q n v => Sys2Proof.Machine.execCurveDataWrite q n v s
  | .curveDataRead q n => Sys2Proof.Machine.execCurveDataRead q n s
  | .gen q n v => Sys2Proof.Machine.execGen q n v s
  | .genDone n => Sys2Proof.Machine.execGenDone n s
  | .senseSequenceStart => Sys2Proof.Machine.execSenseSequenceStart s
  | .senseConversion ch trig code => Sys2Proof.Machine.execSenseConversion ch trig code s
  | .dtsReading k t => Sys2Proof.Machine.execDtsReading k t s
  | .dtsFault k => Sys2Proof.Machine.execDtsFault k s
  | .calPositionStart => Sys2Proof.Machine.execCalPositionStart s
  | .pathStepEnd => Sys2Proof.Machine.execPathStepEnd s
  | .boardOffsetEnd => Sys2Proof.Machine.execBoardOffsetEnd s
  | .boardGainEnd => Sys2Proof.Machine.execBoardGainEnd s
  | .calRunLimit => Sys2Proof.Machine.execCalRunLimit s
  | .calRecompute => Sys2Proof.Machine.execCalRecompute s
  | .calStoreDone fails => Sys2Proof.Machine.execCalStoreDone fails s
  | .clTrainingProgress p t => Sys2Proof.Machine.execClTrainingProgress p t s
  | .clTrainTimeout p => Sys2Proof.Machine.execClTrainTimeout p s
  | .laneMarkSend p => Sys2Proof.Machine.execLaneMarkSend p s
  | .laneMarkRx p lane skew fail => Sys2Proof.Machine.execLaneMarkRx p lane skew fail s
  | .laneFail p lane => Sys2Proof.Machine.execLaneFail p lane s
  | .timeBlockSend p => Sys2Proof.Machine.execTimeBlockSend p s
  | .timeBlockRx p no prev arrival => Sys2Proof.Machine.execTimeBlockRx p no prev arrival s
  | .timeRptRx p no stamp up => Sys2Proof.Machine.execTimeRptRx p no stamp up s
  | .cellRx p seq ok c => Sys2Proof.Machine.execCellRx p seq ok c s
  | .ackSend p => Sys2Proof.Machine.execAckSend p s
  | .ackRx p seq => Sys2Proof.Machine.execAckRx p seq s
  | .retryReqRx p seq => Sys2Proof.Machine.execRetryReqRx p seq s
  | .retryTimeout p => Sys2Proof.Machine.execRetryTimeout p s
  | .frameEnd p seq ok c => Sys2Proof.Machine.execFrameEnd p seq ok c s
  | .topology p seq ok c ids => Sys2Proof.Machine.execTopology p seq ok c ids s
  | .rateCommit p seq ok c => Sys2Proof.Machine.execRateCommit p seq ok c s
  | .groupStep p seq ok c => Sys2Proof.Machine.execGroupStep p seq ok c s
  | .elect p seq ok c => Sys2Proof.Machine.execElect p seq ok c s
  | .ratePropose p n => Sys2Proof.Machine.execRatePropose p n s
  | .rateBlockRx p code n kind => Sys2Proof.Machine.execRateBlockRx p code n kind s
  | .rateRelockDone p => Sys2Proof.Machine.execRateRelockDone p s
  | .clLinkDown p => Sys2Proof.Machine.execClLinkDown p s
  | .planetLossTimeout => Sys2Proof.Machine.execPlanetLossTimeout s
  | .keyDerive => Sys2Proof.Machine.execKeyDerive s
  | .keyGenerate => Sys2Proof.Machine.execKeyGenerate s
  | .keyClear => Sys2Proof.Machine.execKeyClear s
  | .keyPubkey => Sys2Proof.Machine.execKeyPubkey s
  | .keyHash => Sys2Proof.Machine.execKeyHash s
  | .keyMac => Sys2Proof.Machine.execKeyMac s
  | .keySign => Sys2Proof.Machine.execKeySign s
  | .keyVerify => Sys2Proof.Machine.execKeyVerify s
  | .keyEncrypt => Sys2Proof.Machine.execKeyEncrypt s
  | .keyDecrypt => Sys2Proof.Machine.execKeyDecrypt s
  | .keyStore fails => Sys2Proof.Machine.execKeyStore fails s
  | .keyLoad => Sys2Proof.Machine.execKeyLoad s
  | .keyErase fails => Sys2Proof.Machine.execKeyErase fails s
  | .keyAttest => Sys2Proof.Machine.execKeyAttest s
  | .keyChallenge => Sys2Proof.Machine.execKeyChallenge s
  | .keyExtend => Sys2Proof.Machine.execKeyExtend s
  | .rootCreate => Sys2Proof.Machine.execRootCreate s
  | .slotClear q v => Sys2Proof.Machine.execSlotClear q v s
  | .importGo q v => Sys2Proof.Machine.execImportGo q v s
  | .importLockWrite q v => Sys2Proof.Machine.execImportLockWrite q v s
  | .zeroizeWrite q v => Sys2Proof.Machine.execZeroizeWrite q v s
  | .tamperCfgWrite q v => Sys2Proof.Machine.execTamperCfgWrite q v s
  | .tamperInput src => Sys2Proof.Machine.execTamperInput src s
  | .resetRelease straps recoveryN f => Sys2Proof.Machine.execResetRelease straps recoveryN f s
  | .resetAssert => Sys2Proof.Machine.execResetAssert s
  | .powerFail => Sys2Proof.Machine.execPowerFail s
  | .vbatChangeover supply => Sys2Proof.Machine.execVbatChangeover supply s
  | .bootPhaseEnd r => Sys2Proof.Machine.execBootPhaseEnd r s
  | .mspiRead addr n cut => Sys2Proof.Machine.execMspiRead addr n cut s
  | .mspiWrite addr ws cut => Sys2Proof.Machine.execMspiWrite addr ws cut s
  | .mspiStatus => Sys2Proof.Machine.execMspiStatus s
  | .recoveryEnter q v => Sys2Proof.Machine.execRecoveryEnter q v s
  | .recoveryExit q v => Sys2Proof.Machine.execRecoveryExit q v s
  | .avsSettle => Sys2Proof.Machine.execAvsSettle s
  | .avsPeriod => Sys2Proof.Machine.execAvsPeriod s
  | .pmbusTransactionEnd ack => Sys2Proof.Machine.execPmbusTransactionEnd ack s
  | .engTest e => Sys2Proof.Machine.execEngTest e s
  | .engTestEnd e pass => Sys2Proof.Machine.execEngTestEnd e pass s
  | .segTest e seg pass => Sys2Proof.Machine.execSegTest e seg pass s
  | .dramScrub addr ch row newPass failsTest => Sys2Proof.Machine.execDramScrub addr ch row newPass failsTest s
  | .dramRowSpared ch row => Sys2Proof.Machine.execDramRowSpared ch row s
  | .nvmWriteDone fails => Sys2Proof.Machine.execNvmWriteDone fails s
  | .hourTick => Sys2Proof.Machine.execHourTick s
  | .wearRecord fails => Sys2Proof.Machine.execWearRecord fails s
  | .selfRefreshEnter => Sys2Proof.Machine.execSelfRefreshEnter s
  | .selfRefreshExit => Sys2Proof.Machine.execSelfRefreshExit s
  | .announceReceiptTimeout => Sys2Proof.Machine.execAnnounceReceiptTimeout s
  | .clTransmitArbiter p => Sys2Proof.Machine.execClTransmitArbiter p s
  | .configurationRequest r => Sys2Proof.Machine.execConfigurationRequest r s
  | .tamperLineRelease src => Sys2Proof.Machine.execTamperLineRelease src s
  | .receiveLpi p on => Sys2Proof.Machine.execReceiveLpi p on s
  | .serdesFail p pll clk => Sys2Proof.Machine.execSerdesFail p pll clk s
  | .returnedEngineLoaded e => Sys2Proof.Machine.execReturnedEngineLoaded e s

end Sys2Proof.Machine
end

