-- ==== Sys2Proof/Machine/Idle.lean ====
section
/-! DEFINITION. What time does by itself (log entry 1): with no command waiting, one tick of the TIME grid passes. -/

namespace Sys2Proof.Machine

open Sys2Proof

/-- The BANK_BUSY pulse ends (R228). -/
def State.busyPulse (s : State) : State :=
  match s.bankBusy with
  | some e => if e ≤ s.time.mono then { s with bankBusy := none }.emit (.pin pinBusy false) else s
  | none => s

/-- The block with no command waiting: one tick of the TIME grid, the time base standing still while the reset
lasts (R476). -/
def State.idleTick (s : State) : State := if s.phase = 0 then s else s.tick.busyPulse

/-- A step of the block: the command at the front of the queue takes its effect with the rest of the queue, or
one tick passes. -/
def State.stepWith (run : Instr → State → Host.Outcome State Fault Refusal) (s : State) : Host.Outcome State Fault Refusal :=
  match s.pending with
  | [] => .next s.idleTick
  | c :: rest => run c { s with pending := rest }

end Sys2Proof.Machine
end

