-- ==== Sys2Proof/Machine/Step.lean ====
section
/-! DEFINITION. One step of the block. -/

namespace Sys2Proof.Machine

open Sys2Proof

/-- One step: the command at the front of the queue, or one tick of the TIME grid (log entry 1). -/
def step (s : State) : Host.Outcome State Fault Refusal := s.stepWith exec

/-- The state with the command that a word spells put in front of its queue; the table gives no row bits, so no
word spells a command (log entry 5). -/
def State.withFetchWord (s : State) (nbits w : Nat) : State :=
  match decodeTableWord nbits w with
  | some c => { s with pending := c :: s.pending }
  | none => s

end Sys2Proof.Machine
end

