-- ==== Sys2Proof/WellFormed.lean ====
section
/-! DEFINITION. Which commands are well formed: every index names a unit the block has, every field of an engine operation fits its place in the syllable (Table 04-2), every request its dwords. The meanings do not rely on it: a command that is not well formed names no event of the block. -/

namespace Sys2Proof

/-- An engine ENG0 to ENG9. -/
def isEngine (e : Nat) : Bool := decide (e < 10)

/-- A slot of a bundle: VA, VB, M, C. -/
def isSyllable (k : Nat) : Bool := decide (k < 4)

/-- A network port or a Camlek port: there are four of each. -/
def isLink (p : Nat) : Bool := decide (p < 4)

/-- A register page. -/
def isPage (p : Nat) : Bool := decide (p < 256)

/-- The byte offset of a register in its page. -/
def isOffset (o : Nat) : Bool := decide (o < 4096 ∧ o % 4 = 0)

/-- A task context. -/
def isContext (n : Nat) : Bool := decide (n < 256)

/-- A TIO pin. -/
def isPin (n : Nat) : Bool := decide (n < 16)

/-- A scratchpad bank. -/
def isBank (b : Nat) : Bool := decide (b < 32)

/-- A plan slot. -/
def isSlot (k : Nat) : Bool := decide (k < 8)

/-- A scheduler unit. -/
def isUnit (u : Nat) : Bool := decide (u < 43)

/-- A code segment of an engine. -/
def isSegment (k : Nat) : Bool := decide (k < 4)

/-- A segment of a bank that can be borrowed. -/
def isBankSegment (k : Nat) : Bool := decide (k < 64)

/-- A timed trigger. -/
def isTrigger (n : Nat) : Bool := decide (n < 64)

/-- A spill FIFO. -/
def isFifo (n : Nat) : Bool := decide (n < 16)

/-- Whether pushes pending together name a word of PUSH_WIN (R264). -/
def fifoReqsOk (l : List FifoReq) : Bool := l.all fun r => match r with | .push _ k _ => decide (k < 8) | _ => true

/-- An egress unit. -/
def isEgress (n : Nat) : Bool := decide (n < 8)

/-- A DMX, SCAN or LED port: there are sixteen of each. -/
def isPort (n : Nat) : Bool := decide (n < 16)

/-- A V-format syllable whose fields fit. -/
def VF.wf (f : VF) : Bool := decide (f.pr < 8 ∧ f.sm < 3 ∧ f.d < 64 ∧ f.a < 64 ∧ f.b < if f.bs then 32 else 64)

/-- An MV or MS syllable whose fields fit. -/
def MF.wf (f : MF) : Bool := decide (f.pr < 8 ∧ f.data < 64 ∧ f.base < 32 ∧ f.off < 4096)

/-- An MX syllable whose fields fit. -/
def MXF.wf (f : MXF) : Bool := decide (f.pr < 8 ∧ f.data < 64 ∧ f.base < 32 ∧ f.idx < 64)

/-- An ML syllable whose fields fit. -/
def MLF.wf (f : MLF) : Bool := decide (f.pr < 8 ∧ f.v < 64 ∧ f.s < 32 ∧ f.lane < 16)

/-- An MC syllable whose fields fit. -/
def MCF.wf (f : MCF) : Bool := decide (f.pr < 8 ∧ f.ch < 2 ∧ f.data < 32 ∧ f.ix < 32 ∧ f.imm < 4096)

/-- A CR syllable whose fields fit. -/
def CF.wf (f : CF) : Bool := decide (f.pr < 8 ∧ f.d < 32 ∧ f.a < 32 ∧ f.b < 32)

/-- A CI or CU syllable whose fields fit. -/
def CIF.wf (f : CIF) : Bool := decide (f.pr < 8 ∧ f.d < 32 ∧ f.a < 32 ∧ f.imm < 65536)

/-- A CB syllable whose fields fit. -/
def CBF.wf (f : CBF) : Bool := decide (f.pr < 8 ∧ f.count < 1024 ∧ f.target < 8192)

/-- A PCIe memory request: byte enables of four bits, and as many dwords as a write has byte enables (R59). -/
def MemReq.wf (r : MemReq) : Bool :=
  (r.be.all fun b => decide (b < 16)) && (!r.write || r.data.length == r.be.length)

/-- A Camlek cell of 1 to 4 units of 64 bytes (Table 14-2). -/
def Cell.wf (c : Cell) : Bool := c.data.length % 64 == 0 && decide (64 ≤ c.data.length ∧ c.data.length ≤ 256)

/-- Whether a command is well formed. -/
def Instr.wf (i : Instr) : Bool :=
  match i with
  | .transit => true
  | .emitLaunch _ _ _ => true
  | .emitFetch _ _ => true
  | .bar0Request r => r.wf
  | .bar2Access r => r.wf
  | .bar4Access r _ => r.wf
  | .setAliasWrite r _ => r.wf
  | .clearAliasWrite r _ => r.wf
  | .registerWrite _ page off _ tie => isPage page && isOffset off && (match tie with | none => true | some (.read o) => isOffset o | some (.write o _) => isOffset o)
  | .snapshotRead _ page off => isPage page && isOffset off
  | .pairHiWrite _ page off _ => isPage page && isOffset off
  | .ownerWrite _ page _ => isPage page
  | .commitArm _ page _ _ _ => isPage page
  | .commitCancel _ page _ _ => isPage page
  | .commitCutoff page => isPage page
  | .commitTake page => isPage page
  | .eventClearWrite _ page _ _ => isPage page
  | .eventForceWrite _ page _ => isPage page
  | .eventRecordTake _ => true
  | .eventRecordPush => true
  | .vecArmWrite _ _ _ => true
  | .msixUnmask _ => true
  | .anchor => true
  | .nowNsRead _ => true
  | .announceRx _ => true
  | .syncRx _ => true
  | .followUpRx _ => true
  | .delayReqSend _ => true
  | .delayRespRx _ => true
  | .setSecHiWrite _ _ => true
  | .swOffsetWrite _ _ => true
  | .freqAdjWrite _ _ => true
  | .swCorrectionAbsorbed => true
  | .stepAuthWrite _ _ => true
  | .carveAuthWrite _ _ => true
  | .forceGlideWrite _ _ => true
  | .swServoWrite _ _ => true
  | .glideTimeout => true
  | .glideLimit => true
  | .triggerArm _ n _ => isTrigger n
  | .triggerDisarm _ n _ _ => isTrigger n
  | .trgCue n => isTrigger n
  | .trgTioSet n => isTrigger n
  | .trgTioClr n => isTrigger n
  | .trgTioToggle n => isTrigger n
  | .trgTioPulse n => isTrigger n
  | .tioPulseEnd pin => isPin pin
  | .trgTioSample n => isTrigger n
  | .trgSnsStart n => isTrigger n
  | .trgFsyncPulse n => isTrigger n
  | .tioEdge pin _ _ => isPin pin
  | .fsyncEdge _ _ => true
  | .ltcOutFrame => true
  | .ltcInFrame _ => true
  | .ltcInLost => true
  | .nop e sl => isEngine e && isSyllable sl
  | .illegalOp e => isEngine e
  | .vMov e _ f => isEngine e && f.wf
  | .vAdd e _ f => isEngine e && f.wf
  | .vSub e _ f => isEngine e && f.wf
  | .vMinu e _ f => isEngine e && f.wf
  | .vMins e _ f => isEngine e && f.wf
  | .vMaxu e _ f => isEngine e && f.wf
  | .vMaxs e _ f => isEngine e && f.wf
  | .vAnd e _ f => isEngine e && f.wf
  | .vOr e _ f => isEngine e && f.wf
  | .vXor e _ f => isEngine e && f.wf
  | .vAndn e _ f => isEngine e && f.wf
  | .vShl e _ f => isEngine e && f.wf
  | .vShru e _ f => isEngine e && f.wf
  | .vShrs e _ f => isEngine e && f.wf
  | .absdu e _ f => isEngine e && f.wf
  | .vCmpeq e _ f => isEngine e && f.wf
  | .vCmpne e _ f => isEngine e && f.wf
  | .vCmpltu e _ f => isEngine e && f.wf
  | .vCmplts e _ f => isEngine e && f.wf
  | .vCmpleu e _ f => isEngine e && f.wf
  | .vCmples e _ f => isEngine e && f.wf
  | .sel e _ f => isEngine e && f.wf
  | .avgu e _ f => isEngine e && f.wf
  | .perm e f => isEngine e && f.wf
  | .rotl e f => isEngine e && f.wf
  | .splat e f => isEngine e && f.wf
  | .rsum e f => isEngine e && f.wf
  | .pack e f => isEngine e && f.wf
  | .unpklu e f => isEngine e && f.wf
  | .unpkhu e f => isEngine e && f.wf
  | .unpkls e f => isEngine e && f.wf
  | .unpkhs e f => isEngine e && f.wf
  | .zipl e f => isEngine e && f.wf
  | .ziph e f => isEngine e && f.wf
  | .vMul e f => isEngine e && f.wf
  | .mulhu e f => isEngine e && f.wf
  | .mulhs e f => isEngine e && f.wf
  | .mulq e f => isEngine e && f.wf
  | .macq e f => isEngine e && f.wf
  | .fma e f => isEngine e && f.wf
  | .fmul e f => isEngine e && f.wf
  | .fadd e f => isEngine e && f.wf
  | .fcvtu e f => isEngine e && f.wf
  | .ucvtf e f => isEngine e && f.wf
  | .fmin e f => isEngine e && f.wf
  | .fmax e f => isEngine e && f.wf
  | .vld e f => isEngine e && f.wf
  | .vldp e f => isEngine e && f.wf
  | .vst e f => isEngine e && f.wf
  | .vstp e f => isEngine e && f.wf
  | .vsts e f => isEngine e && f.wf
  | .vstc e f => isEngine e && f.wf
  | .xld e f => isEngine e && f.wf
  | .xst e f => isEngine e && f.wf
  | .sld e f => isEngine e && f.wf
  | .sldp e f => isEngine e && f.wf
  | .sst e f => isEngine e && f.wf
  | .sstp e f => isEngine e && f.wf
  | .ssts e f => isEngine e && f.wf
  | .sstc e f => isEngine e && f.wf
  | .vget e f => isEngine e && f.wf
  | .vput e f => isEngine e && f.wf
  | .scstart e f => isEngine e && f.wf
  | .scstat e f => isEngine e && f.wf
  | .cAdd e f => isEngine e && f.wf
  | .cSub e f => isEngine e && f.wf
  | .cAnd e f => isEngine e && f.wf
  | .cOr e f => isEngine e && f.wf
  | .cXor e f => isEngine e && f.wf
  | .cShl e f => isEngine e && f.wf
  | .cShru e f => isEngine e && f.wf
  | .cShrs e f => isEngine e && f.wf
  | .cMul e f => isEngine e && f.wf
  | .cMins e f => isEngine e && f.wf
  | .cMaxs e f => isEngine e && f.wf
  | .addi e f => isEngine e && f.wf
  | .lil e f => isEngine e && f.wf
  | .lih e f => isEngine e && f.wf
  | .cCmpeq e f => isEngine e && f.wf
  | .cCmpne e f => isEngine e && f.wf
  | .cCmpltu e f => isEngine e && f.wf
  | .cCmplts e f => isEngine e && f.wf
  | .cCmpleu e f => isEngine e && f.wf
  | .cCmples e f => isEngine e && f.wf
  | .pand e f => isEngine e && f.wf
  | .por e f => isEngine e && f.wf
  | .pnot e f => isEngine e && f.wf
  | .br e f => isEngine e && f.wf
  | .loopi e f => isEngine e && f.wf
  | .loops e f => isEngine e && f.wf
  | .rdlc e f => isEngine e && f.wf
  | .lapmark e _ => isEngine e
  | .lapSave e => isEngine e
  | .fence e _ _ => isEngine e
  | .fenceRelease e => isEngine e
  | .owopen e _ _ => isEngine e
  | .windowEnd e => isEngine e
  | .kend e => isEngine e
  | .rdsys e f => isEngine e && f.wf
  | .fend e => isEngine e
  | .padStep e => isEngine e
  | .lapOverrun e => isEngine e
  | .descriptorComplete e _ => isEngine e
  | .imemDataRead _ e => isEngine e
  | .planLoad _ _ => true
  | .planAbort _ _ => true
  | .loadCheckEnd => true
  | .loadDone => true
  | .stagedCodeCopy slot => isSlot slot
  | .reshadowed => true
  | .stopModeWriteDone => true
  | .speedSample _ _ => true
  | .planFrameStart => true
  | .stripeInstant _ => true
  | .lapMarkNotice => true
  | .faultReport => true
  | .stallDetect slot => isSlot slot
  | .lapDue slot => isSlot slot
  | .restoreDone e => isEngine e
  | .borrowStart b seg => isBank b && isBankSegment seg
  | .borrowRelease b _ _ => isBank b
  | .borrowHoldoffEnd b => isBank b
  | .stallMaxRead _ b => isBank b
  | .scrubRead b _ => isBank b
  | .rowSpareStart b _ => isBank b
  | .rowSpared b => isBank b
  | .ctxCfgWrite _ n _ => isContext n
  | .submit _ ctx => isContext ctx
  | .cancel _ ctx _ => isContext ctx
  | .abort _ ctx _ => isContext ctx
  | .abortDecided u => isUnit u
  | .release _ ctx => isContext ctx
  | .taskCmdBadOp _ ctx _ => isContext ctx
  | .tick => true
  | .schedTransitMark => true
  | .schedTriggerMark => true
  | .dispatch => true
  | .windowDispatch e _ => isEngine e
  | .taskComplete u => isUnit u
  | .taskFaulted => true
  | .traceRecordPush => true
  | .fifoPush _ n k _ tg => isFifo n && decide (k < 8) && fifoReqsOk tg
  | .pushComplete n => isFifo n
  | .pushStallExpiry n tg => isFifo n && fifoReqsOk tg
  | .fifoPop _ n tg => isFifo n && fifoReqsOk tg
  | .fifoPeek _ n tg => isFifo n && fifoReqsOk tg
  | .flush _ n _ tg => isFifo n && fifoReqsOk tg
  | .flushAndHold _ n _ tg => isFifo n && fifoReqsOk tg
  | .openFifo _ n _ tg => isFifo n && fifoReqsOk tg
  | .markSet _ n _ tg => isFifo n && fifoReqsOk tg
  | .rewind _ n _ tg => isFifo n && fifoReqsOk tg
  | .markClear _ n _ tg => isFifo n && fifoReqsOk tg
  | .idle n tg => isFifo n && fifoReqsOk tg
  | .hdmaBurst _ _ => true
  | .commandAccept => true
  | .cmdNop => true
  | .cmdTask _ => true
  | .cmdWrite => true
  | .cmdMark => true
  | .portRestart _ p _ => isLink p
  | .linkUp p _ => isLink p
  | .linkDown p => isLink p
  | .rxFrame p _ _ _ _ => isLink p
  | .pauseRx p _ => isLink p
  | .pauseExpiry p => isLink p
  | .pauseWatchdog p => isLink p
  | .pauseHoldoffEnd p => isLink p
  | .txArbitrate p _ _ => isLink p
  | .txrTailWrite _ p _ _ => isLink p
  | .txDescriptor p _ => isLink p
  | .launchAt p _ => isLink p
  | .txDescriptorDone p _ => isLink p
  | .tsqPop _ p => isLink p
  | .lpiEnter p => isLink p
  | .lpiExit p => isLink p
  | .dramWheelSlot w => decide (w.pos < 256)
  | .egressPacketHandover n => isEgress n
  | .sacnSourceTimeout _ _ => true
  | .snapshotWriteDone _ => true
  | .sacnTxPacket => true
  | .sacnKeepalive ctx _ => isContext ctx
  | .dmxPacketEnd n => isPort n
  | .dmxRxPacket n _ => isPort n
  | .dmxRxTimeout n => isPort n
  | .rdmRequestStart n => isPort n
  | .rdmResponse n _ => isPort n
  | .rdmResponseTimeout n => isPort n
  | .rdmRequestIn n _ => isPort n
  | .rdmResponderAnswer n => isPort n
  | .qmsgPush _ n _ => isPort n
  | .latchPoint n _ => isPort n
  | .portFrameStart n _ => isPort n
  | .lineSlotStart n => isPort n
  | .bmodePlane n => isPort n
  | .endOp n => isPort n
  | .shiftData n => isPort n
  | .shiftConst n => isPort n
  | .shiftGain n => isPort n
  | .latchOp n => isPort n
  | .goeOp n => isPort n
  | .rowOp n => isPort n
  | .waitOp n => isPort n
  | .loopOp n => isPort n
  | .endLoopOp n => isPort n
  | .readOp n _ => isPort n
  | .shiftProbe n => isPort n
  | .pulseOp n => isPort n
  | .chainTestWrite _ n _ => isPort n
  | .verifyAgeTick n => isPort n
  | .scriptWrite _ n _ _ => isPort n
  | .curveDataWrite _ n _ => isPort n
  | .curveDataRead _ n => isPort n
  | .gen _ n _ => isPort n
  | .genDone n => isPort n
  | .senseSequenceStart => true
  | .senseConversion _ _ _ => true
  | .dtsReading _ _ => true
  | .dtsFault _ => true
  | .calPositionStart => true
  | .pathStepEnd => true
  | .boardOffsetEnd => true
  | .boardGainEnd => true
  | .calRunLimit => true
  | .calRecompute => true
  | .calStoreDone _ => true
  | .clTrainingProgress p _ => isLink p
  | .clTrainTimeout p => isLink p
  | .laneMarkSend p => isLink p
  | .laneMarkRx p _ _ _ => isLink p
  | .laneFail p _ => isLink p
  | .timeBlockSend p => isLink p
  | .timeBlockRx p _ _ _ => isLink p
  | .timeRptRx p _ _ _ => isLink p
  | .cellRx p _ _ c => isLink p && c.wf
  | .ackSend p => isLink p
  | .ackRx p _ => isLink p
  | .retryReqRx p _ => isLink p
  | .retryTimeout p => isLink p
  | .frameEnd p _ _ c => isLink p && c.wf
  | .topology p _ _ c _ => isLink p && c.wf
  | .rateCommit p _ _ c => isLink p && c.wf
  | .groupStep p _ _ c => isLink p && c.wf
  | .elect p _ _ c => isLink p && c.wf
  | .ratePropose p _ => isLink p
  | .rateBlockRx p _ _ _ => isLink p
  | .rateRelockDone p => isLink p
  | .clLinkDown p => isLink p
  | .planetLossTimeout => true
  | .keyDerive => true
  | .keyGenerate => true
  | .keyClear => true
  | .keyPubkey => true
  | .keyHash => true
  | .keyMac => true
  | .keySign => true
  | .keyVerify => true
  | .keyEncrypt => true
  | .keyDecrypt => true
  | .keyStore _ => true
  | .keyLoad => true
  | .keyErase _ => true
  | .keyAttest => true
  | .keyChallenge => true
  | .keyExtend => true
  | .rootCreate => true
  | .slotClear _ _ => true
  | .importGo _ _ => true
  | .importLockWrite _ _ => true
  | .zeroizeWrite _ _ => true
  | .tamperCfgWrite _ _ => true
  | .tamperInput _ => true
  | .resetRelease _ _ _ => true
  | .resetAssert => true
  | .powerFail => true
  | .vbatChangeover _ => true
  | .bootPhaseEnd _ => true
  | .mspiRead _ _ _ => true
  | .mspiWrite _ _ _ => true
  | .mspiStatus => true
  | .recoveryEnter _ _ => true
  | .recoveryExit _ _ => true
  | .avsSettle => true
  | .avsPeriod => true
  | .pmbusTransactionEnd _ => true
  | .engTest e => isEngine e
  | .engTestEnd e _ => isEngine e
  | .segTest e seg _ => isEngine e && isSegment seg
  | .dramScrub _ _ _ _ _ => true
  | .dramRowSpared _ _ => true
  | .nvmWriteDone _ => true
  | .hourTick => true
  | .wearRecord _ => true
  | .selfRefreshEnter => true
  | .selfRefreshExit => true
  | .announceReceiptTimeout => true
  | .clTransmitArbiter p => isLink p
  | .configurationRequest _ => true
  | .tamperLineRelease _ => true
  | .receiveLpi p _ => isLink p
  | .serdesFail p _ _ => isLink p
  | .returnedEngineLoaded e => isEngine e

end Sys2Proof
end

