-- ==== Sys2Proof/Machine/Encode.lean ====
section
/-! DEFINITION. The encoding of an engine bundle, written from Tables 04-2 to 04-6 beside the decoder, and the command that stands for the step issuing a given operation. -/

namespace Sys2Proof.Machine

open Sys2Proof

/-- The opcode of a vector operation (Table 04-3). -/
def VOp.code (o : VOp) : Nat :=
  match o with
  | .mov => 0x01 | .add => 0x02 | .sub => 0x03 | .minu => 0x04 | .mins => 0x05 | .maxu => 0x06
  | .maxs => 0x07 | .and => 0x08 | .or => 0x09 | .xor => 0x0A | .andn => 0x0B | .shl => 0x0C | .shru => 0x0D
  | .shrs => 0x0E | .absdu => 0x0F | .cmpeq => 0x10 | .cmpne => 0x11 | .cmpltu => 0x12 | .cmplts => 0x13
  | .cmpleu => 0x14 | .cmples => 0x15 | .sel => 0x18 | .avgu => 0x19 | .perm => 0x40 | .rotl => 0x41
  | .splat => 0x42 | .rsum => 0x43 | .pack => 0x44 | .unpklu => 0x45 | .unpkhu => 0x46 | .unpkls => 0x47
  | .unpkhs => 0x48 | .zipl => 0x49 | .ziph => 0x4A | .mul => 0x60 | .mulhu => 0x61 | .mulhs => 0x62
  | .mulq => 0x63 | .macq => 0x64 | .fma => 0x65 | .fmul => 0x66 | .fadd => 0x67 | .fcvtu => 0x68
  | .ucvtf => 0x69 | .fmin => 0x6A | .fmax => 0x6B

/-- The opcode of an M operation (Table 04-4). -/
def MOp.code (o : MOp) : Nat :=
  match o with
  | .vld => 0x01 | .vldp => 0x02 | .vst => 0x03 | .vstp => 0x04 | .vsts => 0x05 | .vstc => 0x06
  | .sld => 0x0C | .sldp => 0x0D | .sst => 0x0E | .sstp => 0x0F | .ssts => 0x10 | .sstc => 0x11
  | .xld => 0x08 | .xst => 0x09 | .vget => 0x14 | .vput => 0x15 | .scstart => 0x20 | .scstat => 0x21

/-- The opcode of a C operation (Tables 04-5 and 04-6). -/
def COp.code (o : COp) : Nat :=
  match o with
  | .add => 0x01 | .sub => 0x02 | .and => 0x03 | .or => 0x04 | .xor => 0x05 | .shl => 0x06 | .shru => 0x07
  | .shrs => 0x08 | .mul => 0x09 | .mins => 0x0A | .maxs => 0x0B | .cmpeq => 0x10 | .cmpne => 0x11
  | .cmpltu => 0x12 | .cmplts => 0x13 | .cmpleu => 0x14 | .cmples => 0x15 | .pand => 0x16 | .por => 0x17
  | .pnot => 0x18 | .rdlc => 0x24 | .rdsys => 0x2C | .addi => 0x0C | .lil => 0x0D | .lih => 0x0E
  | .br => 0x20 | .loopi => 0x22 | .loops => 0x23 | .lapmark => 0x28 | .fence => 0x29 | .owopen => 0x2A
  | .kend => 0x2B | .fend => 0x2F

/-- A vector syllable as its word (format V). -/
def encodeV (y : VSyl) : Nat :=
  match y with
  | .op o f => o.code * 2 ^ 25 + f.h16.toNat * 2 ^ 24 + f.pr * 2 ^ 21 + f.bs.toNat * 2 ^ 20 + f.sm * 2 ^ 18 +
      f.d * 2 ^ 12 + f.a * 2 ^ 6 + f.b
  | _ => 0

/-- An M syllable as its word (formats MV, MS, MX, ML, MC). -/
def encodeM (y : MSyl) : Nat :=
  match y with
  | .mem o f => o.code * 2 ^ 26 + f.pr * 2 ^ 23 + f.data * (if 0x0C ≤ o.code then 2 ^ 18 else 2 ^ 17) + f.base * 2 ^ 12 + f.off
  | .idx o f => o.code * 2 ^ 26 + f.pr * 2 ^ 23 + f.data * 2 ^ 17 + f.base * 2 ^ 12 + f.idx * 2 ^ 6
  | .lane o f => o.code * 2 ^ 26 + f.pr * 2 ^ 23 + f.v * 2 ^ 17 + f.s * 2 ^ 12 + f.lane
  | .chan o f => o.code * 2 ^ 26 + f.pr * 2 ^ 23 + f.ch * 2 ^ 22 + f.data * 2 ^ 17 + f.ix * 2 ^ 12 + f.imm
  | _ => 0

/-- A C syllable as its word (formats CR, CI, CU, CB, CX). -/
def encodeC (y : CSyl) : Nat :=
  match y with
  | .reg o f => o.code * 2 ^ 26 + f.pr * 2 ^ 23 + f.d * 2 ^ 18 + f.a * 2 ^ 13 + f.b * 2 ^ 8
  | .imm o f => o.code * 2 ^ 26 + f.pr * 2 ^ 23 + f.d * 2 ^ 18 + f.a * 2 ^ 13 + f.imm
  | .flow o f => o.code * 2 ^ 26 + f.pr * 2 ^ 23 + f.count * 2 ^ 13 + f.target
  | .lapmark g => COp.code .lapmark * 2 ^ 26 + g
  | .fence pr mask => COp.code .fence * 2 ^ 26 + pr * 2 ^ 23 + mask
  | .owopen win n => COp.code .owopen * 2 ^ 26 + win * 2 ^ 16 + n
  | .kend => COp.code .kend * 2 ^ 26
  | .fend => COp.code .fend * 2 ^ 26
  | _ => 0

/-- A bundle from its syllables (R140): VA lowest, then VB, M and C. -/
def encodeBundle (y : Syls) : Bundle :=
  BitVec.ofNat 128 (encodeV y.va + encodeV y.vb * 2 ^ 32 + encodeM y.m * 2 ^ 64 + encodeC y.c * 2 ^ 96)

/-- A vector syllable that slot VA (`vb` false) or VB executes: NOP, or an operation of the slot whose fields fit
and keep the conditions of Tables 04-2 and 04-3. -/
def VSyl.wf (vb : Bool) (y : VSyl) : Bool :=
  match y with
  | .nop => true
  | .op o f => f.wf && vModeOk o f && (if vb then o.code < 0x20 || 0x60 ≤ o.code else o.code < 0x60)
  | .bad _ => false

/-- An M syllable the slot executes. -/
def MSyl.wf (y : MSyl) : Bool :=
  match y with
  | .nop => true
  | .mem o f => f.wf && (o.code ≤ 0x06 || (0x0C ≤ o.code && o.code ≤ 0x11 && f.data < 32))
  | .idx o f => decide (f.pr < 8 ∧ f.data < 64 ∧ f.base < 32 ∧ f.idx < 64) && (o == .xld || o == .xst)
  | .lane o f => f.wf && (o == .vget || o == .vput)
  | .chan o f => f.wf && ((o == .scstart && f.data == 0) || o == .scstat)
  | .bad _ => false

/-- A C syllable the slot executes. -/
def CSyl.wf (y : CSyl) : Bool :=
  match y with
  | .nop => true
  | .reg o f => f.wf && cModeOk o f && (o.code ≤ 0x0B || (0x10 ≤ o.code && o.code ≤ 0x18) || o == .rdlc || o == .rdsys)
  | .imm o f =>
    decide (f.pr < 8 ∧ f.d < 32) &&
      ((o == .addi && f.a < 32 && f.imm < 2 ^ 13) || ((o == .lil || o == .lih) && f.a == 0 && f.imm < 2 ^ 16))
  | .flow o f =>
    decide (f.pr < 8 ∧ f.target < 8192) &&
      ((o == .br && f.count == 0) || (o == .loopi && f.count < 1024) || (o == .loops && f.count < 32))
  | .lapmark g => decide (g < 256)
  | .fence pr mask => decide (pr < 8 ∧ mask < 4)
  | .owopen win n => decide (win < 128 ∧ 0 < n ∧ n < 2 ^ 16)
  | .kend => true
  | .fend => true
  | .bad _ => false

/-- A bundle every slot of which executes. -/
def Syls.wf (y : Syls) : Bool := y.va.wf false && y.vb.wf true && y.m.wf && y.c.wf

/-- The command of a vector operation in slot VA or VB of engine `e`; operations of one slot name no slot. -/
def vecCmd (e : Nat) (vb : Bool) (o : VOp) (f : VF) : Instr :=
  match o with
  | .mov => .vMov e vb f
  | .add => .vAdd e vb f
  | .sub => .vSub e vb f
  | .minu => .vMinu e vb f
  | .mins => .vMins e vb f
  | .maxu => .vMaxu e vb f
  | .maxs => .vMaxs e vb f
  | .and => .vAnd e vb f
  | .or => .vOr e vb f
  | .xor => .vXor e vb f
  | .andn => .vAndn e vb f
  | .shl => .vShl e vb f
  | .shru => .vShru e vb f
  | .shrs => .vShrs e vb f
  | .absdu => .absdu e vb f
  | .cmpeq => .vCmpeq e vb f
  | .cmpne => .vCmpne e vb f
  | .cmpltu => .vCmpltu e vb f
  | .cmplts => .vCmplts e vb f
  | .cmpleu => .vCmpleu e vb f
  | .cmples => .vCmples e vb f
  | .sel => .sel e vb f
  | .avgu => .avgu e vb f
  | .perm => .perm e f
  | .rotl => .rotl e f
  | .splat => .splat e f
  | .rsum => .rsum e f
  | .pack => .pack e f
  | .unpklu => .unpklu e f
  | .unpkhu => .unpkhu e f
  | .unpkls => .unpkls e f
  | .unpkhs => .unpkhs e f
  | .zipl => .zipl e f
  | .ziph => .ziph e f
  | .mul => .vMul e f
  | .mulhu => .mulhu e f
  | .mulhs => .mulhs e f
  | .mulq => .mulq e f
  | .macq => .macq e f
  | .fma => .fma e f
  | .fmul => .fmul e f
  | .fadd => .fadd e f
  | .fcvtu => .fcvtu e f
  | .ucvtf => .ucvtf e f
  | .fmin => .fmin e f
  | .fmax => .fmax e f

/-- The command of an M syllable of engine `e`; an operation in a format that is not its own decodes to nothing and has none. -/
def memCmd (e : Nat) (y : MSyl) : Option Instr :=
  match y with
  | .mem .vld f => some (.vld e f)
  | .mem .vldp f => some (.vldp e f)
  | .mem .vst f => some (.vst e f)
  | .mem .vstp f => some (.vstp e f)
  | .mem .vsts f => some (.vsts e f)
  | .mem .vstc f => some (.vstc e f)
  | .mem .sld f => some (.sld e f)
  | .mem .sldp f => some (.sldp e f)
  | .mem .sst f => some (.sst e f)
  | .mem .sstp f => some (.sstp e f)
  | .mem .ssts f => some (.ssts e f)
  | .mem .sstc f => some (.sstc e f)
  | .idx .xld f => some (.xld e f)
  | .idx .xst f => some (.xst e f)
  | .lane .vget f => some (.vget e f)
  | .lane .vput f => some (.vput e f)
  | .chan .scstart f => some (.scstart e f)
  | .chan .scstat f => some (.scstat e f)
  | .nop => some (.nop e 2)
  | _ => none

/-- The command of a C syllable of engine `e`. -/
def ctlCmd (e : Nat) (y : CSyl) : Option Instr :=
  match y with
  | .reg .add f => some (.cAdd e f)
  | .reg .sub f => some (.cSub e f)
  | .reg .and f => some (.cAnd e f)
  | .reg .or f => some (.cOr e f)
  | .reg .xor f => some (.cXor e f)
  | .reg .shl f => some (.cShl e f)
  | .reg .shru f => some (.cShru e f)
  | .reg .shrs f => some (.cShrs e f)
  | .reg .mul f => some (.cMul e f)
  | .reg .mins f => some (.cMins e f)
  | .reg .maxs f => some (.cMaxs e f)
  | .reg .cmpeq f => some (.cCmpeq e f)
  | .reg .cmpne f => some (.cCmpne e f)
  | .reg .cmpltu f => some (.cCmpltu e f)
  | .reg .cmplts f => some (.cCmplts e f)
  | .reg .cmpleu f => some (.cCmpleu e f)
  | .reg .cmples f => some (.cCmples e f)
  | .reg .pand f => some (.pand e f)
  | .reg .por f => some (.por e f)
  | .reg .pnot f => some (.pnot e f)
  | .reg .rdlc f => some (.rdlc e f)
  | .reg .rdsys f => some (.rdsys e f)
  | .imm .addi f => some (.addi e f)
  | .imm .lil f => some (.lil e f)
  | .imm .lih f => some (.lih e f)
  | .flow .br f => some (.br e f)
  | .flow .loopi f => some (.loopi e f)
  | .flow .loops f => some (.loops e f)
  | .lapmark g => some (.lapmark e g)
  | .fence pr mask => some (.fence e pr mask)
  | .owopen win n => some (.owopen e win n)
  | .kend => some (.kend e)
  | .fend => some (.fend e)
  | .nop => some (.nop e 3)
  | _ => none

/-- Engine `e` as the bundle of its next step reads it: the results due have landed (R130). -/
def State.atStep (s : State) (e : Nat) : EngS := (s.eng e).landAt (s.eng e).step

/-- Engine `e` issues the bundle `y` of plan code at its next step without a fault (R129, R167): it runs, the lap has
steps left, the bundle's word is good, decodes to `y` and is refused on no ground of Table 04-8, and its bank access,
if any, goes to a bank that admits the engine and to good words, none in a borrowed segment (R231) and none that a write
of port S has met (Table 06-4). -/
def State.Issues (s : State) (e : Nat) (y : Syls) : Prop :=
  s.issuing e = true ∧ (s.eng e).kernelWin = none ∧ s.lapFull e = false ∧ decodeBundle (s.bundleNow e) = y ∧
  mapGet (fun _ => 0) (s.eng e).imemErr (s.fld (ENG_SEG_MAP_SEG.inst e) * 8192 + (s.eng e).pc) = 0 ∧
  (bundleFault (s.atStep e) y 0 true false).1 = 0 ∧
  ∀ a, mAccess (s.atStep e) y.m = some a →
    s.admits a.bank (.eng (s.engSlot e)) = true ∧ ∀ w ∈ a.words, s.bankErrAt a.bank w.1 = 0 ∧
      s.borrowed a.bank w.1 = false ∧ ∀ q ∈ (s.bank a.bank).undef, q.1 ≠ w.1 / 8 * 8

end Sys2Proof.Machine
end

