-- ==== Sys2Proof/Safety.lean ====
section
/-! DEFINITION. What claims use to speak of steps: frames (which parts of the state a command keeps) and the canonical form of the block's memories. -/

namespace Sys2Proof.Machine

open Sys2Proof

/-- Nothing but registers, the queue of event records and what the block has sent differs between `s` and `t`. -/
def Quiet (s t : State) : Prop := t = { s with regs := t.regs, recQ := t.recQ, out := t.out }

/-- Every register reads as before, but those `w` names. -/
def RegsKept (w : Nat → Bool) (s t : State) : Prop := ∀ k, w k = false → t.reg k = s.reg k

/-- The registers that an event of page `p` may write: its EVENT, its word of HOST.PEND, the vector arms and
the pending-bit array (R76 to R78). -/
def evKey (p k : Nat) : Bool :=
  [regKey p 0x010, regKey 1 (0x100 + 4 * (p / 32)), regKey 1 0x048, regKey 1 0x04C, regKey 1 0xC00, regKey 1 0xC04].contains k

/-- Every byte of DRAM, word of a bank and byte of NVM reads as before, check state and all. -/
def MemKept (s t : State) : Prop :=
  (∀ a, t.dramByte a = s.dramByte a ∧ t.dramErrAt a = s.dramErrAt a) ∧
  (∀ b off, t.bankWord b off = s.bankWord b off ∧ t.bankErrAt b off = s.bankErrAt b off) ∧
  (∀ a n, t.nvmBytes a n = s.nvmBytes a n)

/-- Nothing differs between `s` and `t` but what a step of engine `e` may touch: registers, records, outputs, bank words
and what the banks keep, BANK_BUSY, the notices and reports of the sequencer, the scheduler's completions, the groomer's error
counts, the free values; every other engine is as it was. -/
def EngineOnly (e : Nat) (s t : State) : Prop :=
  t = { s with
    regs := t.regs
    out := t.out
    recQ := t.recQ
    engs := t.engs
    banks := t.banks
    bankMem := t.bankMem
    bankErr := t.bankErr
    bankBusy := t.bankBusy
    plan := t.plan
    sched := t.sched
    groom := t.groom
    free := t.free } ∧ ∀ k, k ≠ e → t.eng k = s.eng k

/-- Registers whose write has no effect beyond the register itself: those of the pages named, apart from the common
registers that act, OWNER and the pairs. -/
def plainOff (p off : Nat) : Bool :=
  [6, 7, 8, 9, 10, 11, 0x10, 0x20, 0x58, 0x60, 0x70, 0x90].contains (pageBase p) &&
    !([0x010, 0x014, 0x018, 0x020, 0x02C].contains off) && !isPairLo p off && !isPairHi p off

/-- The canonical form of the register files and of every memory: keys strictly rising, no entry equal to what
an unlisted key reads as. -/
def State.memWf (s : State) : Bool :=
  mapWf regReset s.regs && mapWf regReset s.inForce && mapWf bankDefault s.bankMem && mapWf (fun _ => 0) s.bankErr &&
    mapWf dramDefault s.dram && mapWf (fun _ => 0) s.dramErr && mapWf nvmDefault s.nvm

end Sys2Proof.Machine
end

