-- ==== Sys2Proof/Certificates/Slice0/Obligations.lean ====
section
/-! DEFINITION. The statements for the provers. -/

open Sys2Proof Sys2Proof.Machine

/-- A step runs the command at the front of the queue (95_what_each_step_holds.md). For every command c, queue rest
and state s: a step of s with c in front of rest is the effect of c on s with the queue rest. (The queue is the
model's: log entry 1.) -/
def Obligations.StepRunsFrontCommand : Prop :=
  ∀ (c : Instr) (rest : List Instr) (s : State),
    step { s with pending := c :: rest } = exec c { s with pending := rest }

/-- With no command waiting a step is one tick of the TIME grid (R86, R476, 03_time_base.md). With an empty queue a
step leaves the block as it is while the reset lasts, and otherwise answers a next state in which the time base and
the span clock have advanced by the same increment, with the queue still empty and every memory, engine, FIFO and
key slot untouched. (That an empty queue is one tick is the model's choice: log entry 1.) The increment is the
nominal tick of 1.25 ns scaled by the frequency in force and the running slew, the part below one unit being
carried. -/
def Obligations.EmptyQueueIsOneTick : Prop :=
  ∀ s : State, s.pending = [] →
    (s.phase = 0 → step s = .next s) ∧
    (s.phase ≠ 0 → ∃ t, step s = .next t ∧ t.pending = [] ∧
      (let x : Nat := (s.time.res + tickUnits * ((ppbScale : Int) + s.freqNow + s.slewNow)).toNat
       t.time.now = s.time.now + x / ppbScale ∧ t.time.mono = s.time.mono + x / ppbScale ∧ t.time.res = x % ppbScale) ∧
      MemKept s t ∧ t.engs = s.engs ∧ t.fifos = s.fifos ∧ t.key = s.key ∧ t.inForce = s.inForce ∧ t.commits = s.commits)

/-- Every command answers a next state, whatever its operands and the state (95_what_each_step_holds.md). No command
of the table stops the block: for every command and every state exec answers a next state. (A command whose event
cannot occur in the state leaves the state as it is: log entry 4.) -/
def Obligations.EveryCommandAnswers : Prop := ∀ (c : Instr) (s : State), ∃ t, exec c s = .next t

/-- No run of the block stops (95_what_each_step_holds.md). From every state, with whatever commands queued, the
block runs any number of steps without a fault or a refusal. -/
def Obligations.BlockNeverStops : Prop := ∀ (n : Nat) (s : State), ∃ t, Host.Core.run core n s = .next t

/-- Every step keeps the canonical form of the register files and memories (R68, R211, R491, R515,
95_what_each_step_holds.md). In every state whose register files, bank words, bank check states, DRAM, DRAM check
states and NVM are in canonical form (keys strictly rising, no entry equal to what an unlisted key reads as), a step
that answers a next state, by any of the 358 commands or by a tick, leaves all seven in canonical form. Equal
memories therefore stay equal data. -/
def Obligations.MemoryFormKept : Prop :=
  ∀ s t : State, s.memWf = true → step s = .next t → t.memWf = true

/-- After reset the registers hold the values of the spec's Reset columns (R21, R33, R87, 02_register_pages.md,
12_led_drive.md). In State.reset thirty fields of every register group read the reset values the spec's tables give
them, as shadow and in force alike; every register reads its table's value; no commit is armed on any page; no
command waits; the time base counts from zero with no transit known; and the register files and memories are in
canonical form with nothing listed. -/
def Obligations.ResetHoldsTableValues : Prop :=
  (∀ x ∈ [(TIME_FRAME_RATE_NUM_NUM, 60), (TIME_FRAME_RATE_DEN_DEN, 1), (HOST_VEC_ARM_LO_ARM, 0xFFFFFFFF),
      (HOST_PAGE_ROUTE_RECORD_EN, 1), (TIME_STEP_THRESH_NS, 1000000), (TIME_CARVE_MAX_PPB, 50000),
      (TIME_GAIN_ACQ_KP, 0x8000), (TIME_LOCK_CFG_LOCK_COUNT, 16), (PLAN_MARGIN_CFG_RESTORE_FRAMES, 120),
      (SPEED_T_ADM_PS_PS, 2400), (SPEED_AVS_NOW_MV, 750), (BANK_CTRL_SCRUB_EN, 1), (BANK_STATUS_MODE, 1),
      (SCHED_TICK_CFG_US, 10), (TRACE_KIND_MASK_KINDS, 0x3FF), (FIFO_SPACE_WORDS, 256),
      (FIFO_LAST_EXECUTED_SEQ, 0xFFFFFFFF), (NET_MAX_LEN_BYTES, 1522), (NET_PAUSE_WD_US_US, 10000),
      (INGEST_SIZE_WIDTH, 1920), (EGRESS_TX_SEG_PAYLOAD, 1260), (SACN_KEEPALIVE_MS_MS, 800), (DMX_TX_TIMING_BREAK_US, 176),
      (SCAN_LATCH_LEAD_NS_NS, 250000), (LED_MASTER_TARGET, 65535), (SENSE_AVG_CFG_CURR, 8), (CAL_RUN_LIMIT_S_S, 5),
      (CL_LOSS_US_US, 1000), (KEY_SLOT_STATE_PARENT, 0x7F), (GROOM_BORROW_HOLDOFF_US, 1000)],
    State.reset.fld x.1 = x.2 ∧ State.reset.act x.1 = x.2) ∧
  (∀ k, State.reset.reg k = regReset k) ∧ (∀ p, State.reset.armed p = false) ∧ State.reset.pending = [] ∧
  State.reset.time.now = 0 ∧ State.reset.time.nextTransit = none ∧ State.reset.memWf = true

/-- An accepted write of a register without an effect of its own lands, counts and stays out of force (R18, R66,
R67, R68, R73). On the pages whose registers have no effect of their own, an accepted write (served, at a register
with a writable field, not refused under OWNER.HOLDER, with no take of the page pending before it at a shadowed
field) puts each field's bits into the register as its access type says, advances PAGE_SEQ by one modulo 2^32, makes
DIRTY 1 where the register holds a shadowed field and keeps it otherwise; no other register changes, no value in
force, no memory and nothing else of the state. -/
def Obligations.PlainWriteLands : Prop :=
  ∀ (q : Req) (p off : Nat) (v : Word) (r : RegRow) (s : State), plainOff p off = true → s.gate q p = .served →
    regRow? p off = some r → writableOff p off = true → s.mayWrite q p = true →
    (shadowed p off = true → s.takeable p = false ∧ ∀ n, s.latchPort p = some n → s.latchDue n = false) →
    ∃ t, exec (.registerWrite q p off v none) s = .next t ∧
      t.reg (regKey p off) = storeWord r (s.reg (regKey p off)) v ∧
      t.fld (PG_PAGE_SEQ_SEQ.inst p) = (s.fld (PG_PAGE_SEQ_SEQ.inst p) + 1) % 2 ^ 32 ∧
      t.fld (PG_COMMIT_STATUS_DIRTY.inst p) =
        (if r.fields.any (fun f => f.sh) then 1 else s.fld (PG_COMMIT_STATUS_DIRTY.inst p)) ∧
      RegsKept (fun k => [regKey p off, regKey p 0x01C, regKey p 0x028].contains k) s t ∧ t = { s with regs := t.regs }

/-- OWNER.HOLDER decides which requester may write a page (R65). While HOLDER is PCIE an MSPI write to any register
other than OWNER is refused; while HOLDER is MSPI every PCIe write is refused, OWNER included; a write of OWNER
whose HOLDER field is 3 is refused from anyone. A refused write changes nothing, is not counted in PAGE_SEQ, and
sets EVENT.WRITE_REFUSED with the offset and the requester as its argument. MSPI may write OWNER at any time and
PCIe while HOLDER is not MSPI: HOLDER takes the value written and PAGE_SEQ counts it. Reads are never refused: a
served read always ends with its data. -/
def Obligations.OwnerHolderDecides : Prop :=
  ∀ (q : Req) (p off : Nat) (v : Word) (s : State), s.gate q p = .served →
    (off ≠ 0x02C → (regRow? p off).isSome = true → q = .mspi → s.fld (PG_OWNER_HOLDER.inst p) = 1 →
      exec (.registerWrite q p off v none) s = .next (s.raise p 2 (off + 2 * 4096))) ∧
    (q = .pcie → s.fld (PG_OWNER_HOLDER.inst p) = 2 →
      exec (.registerWrite q p off v none) s = .next (s.raise p 2 (off + 4096)) ∧
      exec (.ownerWrite q p v) s = .next (s.raise p 2 (0x02C + 4096))) ∧
    (natBits v.toNat 0 2 = 3 →
      exec (.ownerWrite q p v) s = .next (s.raise p 2 (0x02C + reqCode q * 4096))) ∧
    (natBits v.toNat 0 2 ≠ 3 → ¬ (q = .pcie ∧ s.fld (PG_OWNER_HOLDER.inst p) = 2) →
      ∃ t, exec (.ownerWrite q p v) s = .next t ∧ t.fld (PG_OWNER_HOLDER.inst p) = natBits v.toNat 0 2 ∧
        t.fld (PG_PAGE_SEQ_SEQ.inst p) = (s.fld (PG_PAGE_SEQ_SEQ.inst p) + 1) % 2 ^ 32 ∧
        RegsKept (fun k => [regKey p 0x02C, regKey p 0x01C].contains k) s t ∧ t = { s with regs := t.regs }) ∧
    (∀ a, Quiet s (s.raise p 2 a) ∧ RegsKept (evKey p) s (s.raise p 2 a) ∧
      (s.raise p 2 a).fld (PG_PAGE_SEQ_SEQ.inst p) = s.fld (PG_PAGE_SEQ_SEQ.inst p) ∧
      ((s.raise p 2 a).reg (regKey p 0x010)).getLsbD 2 = true) ∧
    (∃ t w, exec (.snapshotRead q p off) s = .next t ∧
      (t.out.getLast? = some (.data q [w]) ∨ t.out.getLast? = some (.poisoned [w])))

/-- A _LO and _HI pair is read through a snapshot and written as one value (R62). At a page with no take pending
(R73), a served read of a NAME_LO register answers its value and copies the upper half into the requester's own
snapshot, which a read of NAME_HI by that requester answers; another requester's snapshots are untouched. A served,
accepted write of NAME_LO is held and changes no register but PAGE_SEQ; the write of NAME_HI that follows from the
same requester puts both halves into their registers in one step and drops the held one. VEC_ARM_LO and VEC_ARM_HI
are no such pair: a read of either answers the live register and takes no snapshot. -/
def Obligations.PairsActTogether : Prop :=
  ∀ (q : Req) (p off : Nat) (v : Word) (s : State), s.gate q p = .served → s.takeable p = false →
    (∀ n, s.latchPort p = some n → s.latchDue n = false) →
    (isPairLo p off = true → ∃ t, exec (.snapshotRead q p off) s = .next t ∧
      t.out = s.out ++ [.data q [s.reg (regKey p off)]] ∧ t.snap q (regKey p (off + 4)) = s.reg (regKey p (off + 4)) ∧
      (∀ q' k, q' ≠ q → k < 2 ^ 24 → t.snap q' k = s.snap q' k) ∧ t = { s with out := t.out, snaps := t.snaps }) ∧
    (isPairHi p off = true → exec (.snapshotRead q p off) s = .next (s.emit (.data q [s.snap q (regKey p off)]))) ∧
    (isPairLo p off = true → writableOff p off = true → s.mayWrite q p = true →
      ∃ t, exec (.registerWrite q p off v none) s = .next t ∧
        t.heldOf q (regKey p off) = some (v &&& ~~~ BitVec.ofNat 32 (lowMask p off)) ∧
        RegsKept (fun k => k == regKey p 0x01C) s t ∧ t = { s with regs := t.regs, heldLo := t.heldLo }) ∧
    (∀ (lo : Word) (rl rh : RegRow), isPairHi p off = true → ¬ (p = 2 ∧ off = 0x0A0) → writableOff p off = true →
      s.mayWrite q p = true → s.heldOf q (regKey p (off - 4)) = some lo →
      regRow? p (off - 4) = some rl → regRow? p off = some rh →
      ∃ t, exec (.pairHiWrite q p off v) s = .next t ∧
        t.reg (regKey p (off - 4)) = storeWord rl (s.reg (regKey p (off - 4))) lo ∧
        t.reg (regKey p off) = storeWord rh (s.reg (regKey p off)) v ∧ t.heldOf q (regKey p (off - 4)) = none ∧
        RegsKept (fun k => [regKey p (off - 4), regKey p off, regKey p 0x01C, regKey p 0x028].contains k) s t ∧
        t = { s with regs := t.regs, heldLo := t.heldLo, scans := t.scans } ∧ (pageBase p ≠ 0x90 → t.scans = s.scans)) ∧
    (p = 1 → off = 0x048 ∨ off = 0x04C →
      exec (.snapshotRead q p off) s = .next (s.emit (.data q [s.reg (regKey 1 off)])))

/-- Arming a commit meets its causes of refusal in order, and a cancel or a cut-off does what the page arbiter
decides (R70, R71, R73). At a served and accepted write of COMMIT with ARM and without CANCEL, with no take pending:
over an armed commit it only raises COMMIT_REFUSED with BUSY; in a mode the page refuses STATE becomes REFUSED with
MODE; before any transit AT_TIME and AT_TRANSIT_N are refused with NO_TIME; an AT_TIME target with d = 0 or d ≥ 2^31
is refused with LATE, and another is armed with its target captured as a full count; NOW on a rim page is armed. (A
core page takes NOW at once: the commit's own statement says what that does.) A CANCEL alone of an armed commit
makes STATE CANCELLED and brings nothing into force; with the take pending together the take goes through. A cut-off
mark of the next transit, once due, is remembered by the page's commit unit and changes nothing else. -/
def Obligations.CommitArmingAndCancel : Prop :=
  ∀ (q : Req) (p : Nat) (v : Word) (s : State),
    (∀ cut, s.gate q p = .served → writableOff p 0x020 = true → s.mayWrite q p = true →
      v.getLsbD 4 = true → v.getLsbD 5 = false →
      ¬ (natBits v.toNat 0 2 = mdNow ∧ isCore p = true) →
      ∃ t, exec (.commitArm q p v cut false) s = .next t ∧ t.inForce = s.inForce ∧
        (let m := natBits v.toNat 0 2
         let d := (s.fld (PG_COMMIT_TIME_TIME.inst p) + 2 ^ 32 - s.st32) % 2 ^ 32
         if s.armed p then t.commitState p = cmArmed ∧ t.unit p = s.unit p ∧ (t.reg (regKey p 0x010)).getLsbD 1 = true
         else if s.modeOk p m = false then t.commitState p = cmRefused ∧ t.fld (PG_COMMIT_STATUS_REASON.inst p) = rsMode
         else if (m = mdTime ∨ m = mdTransitN) ∧ s.time.transit = none then
           t.commitState p = cmRefused ∧ t.fld (PG_COMMIT_STATUS_REASON.inst p) = rsNoTime
         else if m = mdTime ∧ (d = 0 ∨ 2 ^ 31 ≤ d) then
           t.commitState p = cmRefused ∧ t.fld (PG_COMMIT_STATUS_REASON.inst p) = rsLate
         else
           (m = mdNow ∨ m = mdTime → t.commitState p = cmArmed ∧ (t.unit p).mode = m) ∧
           (m = mdTime → (t.unit p).target = s.nowNs + d))) ∧
    (∀ both, s.gate q p = .served → writableOff p 0x020 = true → s.mayWrite q p = true →
      v.getLsbD 4 = false → v.getLsbD 5 = true → s.armed p = true →
      (let u := (s.countWrite p).setFld (PG_COMMIT_MODE.inst p) (natBits v.toNat 0 2)
       (both = false ∨ u.takeable p = false → ∃ t, exec (.commitCancel q p v both) s = .next t ∧
          t.commitState p = cmCancelled ∧ t.inForce = s.inForce ∧ (t.unit p).due = none ∧
          t = { s with regs := t.regs, commits := t.commits }) ∧
       (both = true → u.takeable p = true → exec (.commitCancel q p v both) s = .next (u.takeCommit p)))) ∧
    (∀ n inst, s.time.nextTransit = some (n, inst) → inst ≤ s.time.now + commitLead p → s.cutPort p = none →
      ∃ t, exec (.commitCutoff p) s = .next t ∧ (t.unit p).cut = true ∧ (∀ k, k ≠ p → t.unit k = s.unit k) ∧
        t = { s with commits := t.commits })

/-- A commit that is due is taken whole or refused whole (R68, R69, R72). COMMIT_TAKE of a due commit whose shadow
set its block accepts sets STATE to TAKEN and TAKEN_FRAME to the low 16 bits of the frame, makes COMMIT_TIME read
the ST32 of the moment, clears DIRTY, sets EVENT.COMMIT_DONE and brings every shadowed field of the page into force
together, other pages' values in force staying as they are (stated for the pages whose commit has no effect beyond
that). Where the block finds a cause, nothing comes into force: STATE becomes REFUSED with that REASON and
EVENT.COMMIT_REFUSED is set. A commit that is not due is left alone. -/
def Obligations.CommitTakenComesIntoForce : Prop :=
  ∀ (p : Nat) (s : State),
    (s.takeable p = false → exec (.commitTake p) s = .next s) ∧
    (s.takeable p = true → s.commitReason p = 0 → [1, 5, 0x50, 0x51, 0x52, 0x53, 0x80, 0x81, 0x8F].contains p = true →
      ∃ t, exec (.commitTake p) s = .next t ∧ t.commitState p = cmTaken ∧
        t.fld (PG_COMMIT_STATUS_TAKEN_FRAME.inst p) =
          (match (s.unit p).due with | some n => n | none => s.frameNo) % 2 ^ 16 ∧
        t.plainRead .pcie p 0x024 = BitVec.ofNat 32 s.st32 ∧ t.fld (PG_COMMIT_STATUS_DIRTY.inst p) = 0 ∧
        (t.reg (regKey p 0x010)).getLsbD 0 = true ∧
        (mapWf regReset s.regs = true → ∀ f : Fld, f.key / 4096 = p → t.act f = s.fld f) ∧
        (∀ f : Fld, f.key / 4096 ≠ p → t.act f = s.act f) ∧ MemKept s t) ∧
    (s.takeable p = true → s.commitReason p ≠ 0 →
      ∃ t, exec (.commitTake p) s = .next t ∧ t.commitState p = cmRefused ∧ t.inForce = s.inForce ∧
        t.fld (PG_COMMIT_STATUS_REASON.inst p) = s.commitReason p % 16 ∧ (t.reg (regKey p 0x010)).getLsbD 1 = true ∧
        MemKept s t)

/-- Clearing, forcing, taking and pushing event records (R76, R77, R80, R81, R268, R286). A served, accepted write
of EVENT clears exactly the bits written 1 whose occurrence is not pending with it, and HOST.PEND follows the page's
pending state. A write of EVENT_FORCE with one defined bit is an occurrence of it: the bit is set, and where
EVENT_EN and RECORD_EN allow a FORCED record is queued (its argument is a free value: log entry 2). The event
arbiter takes a record it may take, gives it the next sequence number modulo 2^32 and holds it in its buffer while
fewer than 64 records wait there; a held record whose FIFO1 accepts it enters FIFO1 as the two words of R81 in one
handshake, and stays held where FIFO1 does not, FULL being set once for its wait. -/
def Obligations.EventBitsSetClearedForced : Prop :=
  ∀ (q : Req) (p : Nat) (s : State),
    (∀ v together : Word, s.gate q p = .served → writableOff p 0x010 = true → s.mayWrite q p = true →
      ∃ t, exec (.eventClearWrite q p v together) s = .next t ∧
        t.reg (regKey p 0x010) = s.reg (regKey p 0x010) &&& ~~~ (v &&& ~~~ together) ∧
        (p < 256 → t.bit { HOST_PEND_PEND.nth (p / 32) with lo := p % 32, w := 1 } = t.pagePending p) ∧
        RegsKept (fun k => evKey p k || k == regKey p 0x01C) s t ∧ Quiet s t) ∧
    (∀ k : Nat, k < 32 → (eventMask p).testBit k = true → s.gate q p = .served → writableOff p 0x018 = true →
      s.mayWrite q p = true →
      ∃ t, exec (.eventForceWrite q p (BitVec.ofNat 32 (2 ^ k))) s = .next t ∧ (t.reg (regKey p 0x010)).getLsbD k = true ∧
        (t.recQ = if (s.reg (regKey p 0x014)).getLsbD k ∧ s.bit (HOST_PAGE_ROUTE_RECORD_EN.nth p) then
            s.recQ ++ [⟨p, k, s.freeVal % 2 ^ 41, true, s.nowNs, !isCore p⟩] else s.recQ) ∧
        RegsKept (fun j => evKey p j || j == regKey p 0x01C) s t ∧
        t = { s with regs := t.regs, recQ := t.recQ, out := t.out, free := s.free + 1 }) ∧
    (∀ (k : Nat) (r : RecReq), s.recQ[k]? = some r → s.mayTake r = true → s.headCmd 3 = none ∨ r.code ≠ 0x20 →
      (s.evtBuf.filter fun b => !b.2.2).length < 64 →
      ∃ t, exec (.eventRecordTake k) s = .next t ∧ t.recQ = s.recQ.eraseIdx k ∧
        (let seq := s.fld (FIFO_EVT_NEXT_SEQ_SEQ.inst 1)
         t.evtBuf = s.evtBuf ++ [(BitVec.ofNat 64 (seq + st32Of (if r.rim then r.at_ else s.nowNs) * 2 ^ 32),
           BitVec.ofNat 64 (r.page + r.code * 2 ^ 10 + (r.arg + if r.forced then 2 ^ 41 else 0) * 2 ^ 22), false)] ∧
         t.fld (FIFO_EVT_NEXT_SEQ_SEQ.inst 1) = (seq + 1) % 2 ^ 32) ∧
        t.evtDrop = false ∧ MemKept s t) ∧
    (∀ (a b : DWord) (anchor : Bool) (rest : List (DWord × DWord × Bool)), s.evtBuf = (a, b, anchor) :: rest →
      s.prodIs 1 endDevice = true → s.fifoRing 1 = false → (s.fifo 1).stalls = [] →
      (2 ≤ s.fifoSpace 1 → ∃ t, exec .eventRecordPush s = .next t ∧ t.evtBuf = rest ∧
        (t.fifo 1).words = (s.fifo 1).words ++ [if 256 ≤ (s.fifo 1).words.length then none else some a,
          if 255 ≤ (s.fifo 1).words.length then none else some b] ∧ MemKept s t) ∧
      (s.fifoSpace 1 < 2 → ((s.fifo 1).waiting = true → exec .eventRecordPush s = .next s) ∧
        ((s.fifo 1).waiting = false → ∃ t, exec .eventRecordPush s = .next t ∧ t.evtBuf = s.evtBuf ∧
          (t.fifo 1).words = (s.fifo 1).words ∧ (t.fifo 1).waiting = true ∧
          (t.reg (regKey (fifoPage 1) 0x010)).getLsbD 9 = true ∧ MemKept s t)))

/-- An armed vector with a pending routed page sends its message and is disarmed (R77, R78). With the MSI-X enable
on, arming one vector (a served, accepted write of VEC_ARM_LO or VEC_ARM_HI with its bit alone) sends its table
entry's message at once if a page routed to it with MSIX_EN is pending and the vector is not masked, and leaves it
disarmed; a masked one is held back in the pending-bit array, disarmed; with no such page pending it stays armed and
nothing is sent. Clearing the mask bit of a held-back vector, the enable being on and the function mask off, sends
the message and clears its pending bit. -/
def Obligations.VectorsSendOnce : Prop :=
  ∀ (q : Req) (n : Nat) (s : State), n < 64 →
    (let hi := decide (32 ≤ n)
     let page (p : Nat) : Bool := s.fld (HOST_PAGE_ROUTE_VECTOR.nth p) == n && s.bit (HOST_PAGE_ROUTE_MSIX_EN.nth p) &&
       s.pagePending p
     let entry := 0x800 + 16 * n
     let msg : Out := .msix ((s.reg (regKey 1 entry)).toNat + (s.reg (regKey 1 (entry + 4))).toNat * 2 ^ 32)
       (s.reg (regKey 1 (entry + 8))).toNat
     (s.gate q 1 = .served → s.mayWrite q 1 = true → s.host.msixEn = true →
       ∃ t, exec (.vecArmWrite q hi (BitVec.ofNat 32 (2 ^ (n % 32)))) s = .next t ∧
         (if ((List.range 256).any page) = false then t.vecArmed n = true ∧ t.out = s.out
          else if s.vecMasked n then t.vecArmed n = false ∧ t.pba n = true ∧ t.out = s.out
          else t.vecArmed n = false ∧ t.out = s.out ++ [msg]) ∧
         (∀ k, k ≠ n → k < 64 → t.vecArmed k = s.vecArmed k) ∧
         RegsKept (fun k => evKey 1 k || k == regKey 1 0x01C) s t ∧ t = { s with regs := t.regs, out := t.out }) ∧
     (s.gate .pcie 1 = .served → s.mayWrite .pcie 1 = true → s.host.msixEn = true → s.host.fnMask = false → s.pba n = true →
       ∃ t, exec (.msixUnmask n) s = .next t ∧ t.vecMasked n = false ∧ t.pba n = false ∧ t.out = s.out ++ [msg] ∧
         t = { s with regs := t.regs, out := t.out }))

/-- BAR0 requests become register accesses, BAR2 accesses reach usable DRAM and nothing beyond (R16, R58, R59, R60,
R82). A served BAR0 write of n whole dwords is n register writes in ascending order; one with a byte enable cleared
is discarded as a whole and counted; a read of more than two dwords ends with Completer Abort and is counted; a read
of one dword is the register read. A served BAR2 write of one whole good 64-bit word inside usable DRAM stores its
eight bytes little-endian and leaves every other byte and every register as they were, and a read of it answers the
bytes; an access beyond usable DRAM changes no memory, reads as zeros and is counted in BAD_ACCESS. Where accesses
of both requesters are pending at one page, the arbiter takes them one after the other: the first tie after reset
goes to MSPI, and the two then alternate. -/
def Obligations.HostRequestsReachRegistersAndMemory : Prop :=
  ∀ (r : MemReq) (s : State), s.hostGate = .served →
    (r.write = true → (∀ b ∈ r.be, b = 15) →
      exec (.bar0Request r) s = .next ((List.range r.be.length).foldl (fun (t : State) (i : Nat) =>
        t.regWrite .pcie (barDword r.addr i).1 (barDword r.addr i).2 (r.data.getD i 0)) s)) ∧
    (r.write = true → (∃ b ∈ r.be, b ≠ 15) → exec (.bar0Request r) s = .next (s.badAccess r.addr)) ∧
    (r.write = false → 2 < r.be.length → exec (.bar0Request r) s = .next ((s.badAccess r.addr).emit .abort)) ∧
    (r.write = false → r.be.length = 1 → r.addr < 2 ^ 24 → r.addr % 4 = 0 → s.gate .pcie (r.addr / 4096) = .served →
      exec (.bar0Request r) s = exec (.snapshotRead .pcie (r.addr / 4096) (r.addr % 4096)) s) ∧
    (let a := s.act HOST_BAR2_WIN_WIN_GIB * 2 ^ 30 + r.addr
     r.addr % 8 = 0 → r.be = [15, 15] → r.data.length = 2 → a + 8 ≤ s.dramUsable → s.dramErrAt a = 0 →
      (r.write = true → ∃ t, exec (.bar2Access r) s = .next t ∧
        t.dramBytes a 8 = valBytes 4 (r.data.getD 0 0).toNat ++ valBytes 4 (r.data.getD 1 0).toNat ∧
        (∀ x, x < a ∨ a + 8 ≤ x → t.dramByte x = s.dramByte x) ∧ t = { s with dram := t.dram, dramErr := t.dramErr }) ∧
      (r.write = false →
        exec (.bar2Access r) s = .next (s.emit (.data .pcie (dwords 2 (s.dramBytes a 8)))))) ∧
    (let a := s.act HOST_BAR2_WIN_WIN_GIB * 2 ^ 30 + r.addr
     s.dramUsable ≤ a → r.be ≠ [] →
      ∃ t, exec (.bar2Access r) s = .next t ∧ MemKept s t ∧
        t.fld HOST_BAD_ACCESS_COUNT = (s.fld HOST_BAD_ACCESS_COUNT + 1) % 2 ^ 32 ∧
        (t.reg (regKey 1 0x010)).getLsbD 8 = true ∧
        (r.write = false → t.out.getLast? = some (.data .pcie (List.replicate r.be.length 0)))) ∧
    (∀ (q : Req) (p off o : Nat) (v w : Word) (u : State), s.pcieHeld = false →
      (s.tieWinner p = q → exec (.registerWrite q p off v none) (s.tieTurn p) = .next u →
        exec (.registerWrite q p off v (some (.write o w))) s = exec (.registerWrite (otherReq q) p o w none) u) ∧
      (s.tieWinner p ≠ q → exec (.registerWrite (otherReq q) p o w none) (s.tieTurn p) = .next u →
        exec (.registerWrite q p off v (some (.write o w))) s = exec (.registerWrite q p off v none) u) ∧
      (s.tieTurn p).tieWinner p = otherReq (s.tieWinner p) ∧ State.reset.tieWinner p = .mspi)

/-- A transit that is reached numbers the frame, and the next one follows the alignment rule (R27, R29, R33, R36).
The instants of transits follow n · DEN / NUM seconds truncated to 2^-16 ns. When the next transit's instant is
reached the transit registers read its number and the ST32 of its instant together, VALID is 1 and SEAM 0, and the
next transit is the one after it at the rate in force; before that instant, or while no transit is derived, TRANSIT
changes nothing. Every unit then acts on the transit from that state. -/
def Obligations.TransitReached : Prop :=
  ∀ (n inst : Nat) (s : State),
    (s.time.nextTransit = none → exec .transit s = .next s) ∧
    (s.time.nextTransit = some (n, inst) → s.time.now < inst → exec .transit s = .next s) ∧
    (s.time.nextTransit = some (n, inst) → inst ≤ s.time.now →
      exec .transit s = .next (s.atTransit n inst) ∧
      (let t := s.transitRegs n inst
       t.pair TIME_TRANSIT_NUM_LO_NUM_LO TIME_TRANSIT_NUM_HI_NUM_HI = n % 2 ^ 64 ∧
       t.fld TIME_TRANSIT_ST32_ST32 = inst / 65536 % 2 ^ 32 ∧ t.bit TIME_TRANSIT_STATE_VALID = true ∧
       t.bit TIME_TRANSIT_STATE_SEAM = false ∧ t.time.transit = some (n, inst) ∧ t.time.seam = none ∧
       t.time.nextTransit = some (n + 1, (n + 1) * (s.rate.2) * (10 ^ 9 * 65536) / s.rate.1) ∧
       t = { s with regs := t.regs, time := t.time } ∧
       ∃ u, u = t.eachTransit ∧ (s.time.seam = none →
         s.atTransit n inst =
           (let v := (u.transitUnits n).planetNamed n
            (match v.ownStep with | some d => v.applyStep d | none => v).modTime fun x => { x with stepSkip := false }))))

/-- An emit entry is fetched at its lead and launched at its instant, once (R40, R46, R184, R186, R342, R350).
EMIT_FETCH of an entry of a frame still held, whatever its block, once its fetch instant has come, before any fetch
or launch of it and not for a launch inside a seam, completes and marks it fetched, going on only if its data is
ready and its level is not shed; the data read changes no byte and no word. For an entry served by its block whose
data is not ready and whose level is not shed it counts EMIT_NOT_READY and raises EMIT_LATE on the page with the
frame number; a Camlek entry that is ready or shed is only marked; a DMX entry that goes on holds the start code and
its slots for its launch. EMIT_LAUNCH of an entry whose instant has come, outside a seam, completes, marks it
launched and hands it to its block's launch, an entry never fetched being late; a DMX port still busy skips it and
says so. Before the instant, inside a seam, for an entry fetched before (fetch), and for an entry of no frame held
or one launched before, the command changes nothing. -/
def Obligations.EmitEntriesFetchAndLaunch : Prop :=
  ∀ (n i : Nat) (cut : RdmIn) (s : State),
    (s.emitEntry n i = none → exec (.emitFetch n i) s = .next s ∧ exec (.emitLaunch n i cut) s = .next s) ∧
    ∀ (f : FrameRun) (e : EmitEnt), s.emitEntry n i = some (f, e) →
    (let r := f.emitAt i
     let marked : Bool := match r.readyAt with | some t => decide (t < s.time.mono) | none => false
     let ready : Bool := !f.skipped && (e.noReady || marked)
     let go : Bool := ready && !f.shedEnt e
     let late : Bool := !ready && !f.shedEnt e && s.emitServed f e
     let b := pageBase e.page
     let k := e.page - b
     let u := s.setEmit f i { r with fetched := some go }
     let v := s.setEmit f i { r with fetched := some (r.fetched == some true), launched := true }
     (r.launched = false) ∧
     (f.launchOf e ≤ s.time.now + e.lead * 65536 → r.fetched = none → s.launchSeam (f.launchOf e) = false →
       ∃ t, exec (.emitFetch n i) s = .next t ∧ t.plan.frames = u.plan.frames ∧
         (∀ x off, t.bankWord x off = s.bankWord x off) ∧ (∀ a, t.dramByte a = s.dramByte a) ∧
         (late = true → t.fld PLAN_EMIT_NOT_READY_COUNT = (s.fld PLAN_EMIT_NOT_READY_COUNT + 1) % 2 ^ 32 ∧
           (t.reg (regKey e.page 0x010)).getLsbD 3 = true) ∧
         (b = 0xB0 → late = false → t = u) ∧
         (b = 0x80 → go = true → s.dmxRole k = drController → s.dmxTurn k (f.plan.emitTransit f.n) = true → e.arg.testBit 10 = false →
           (t.dmx k).fetched = some (f.n, BitVec.ofNat 8 (s.act (DMX_TX_CFG_START_CODE.inst k)) ::
             (u.sourceBytes f e 0 (natBits e.arg 0 10)).1.take (natBits e.arg 0 10)))) ∧
     (f.launchOf e ≤ s.time.now → s.launchSeam (f.launchOf e) = false →
       (let w := if r.fetched = none ∧ f.shedEnt e = false then v.emitLate f e else v
        ∃ t, exec (.emitLaunch n i cut) s = .next t ∧ t.plan.frames = v.plan.frames ∧
          (b = 0x80 → t = w.dmxLaunch k f cut) ∧ (b = 0x68 → t = w.egressLaunch k f.n) ∧
          (b = 0x70 → t = w.sacnLaunch f.n e s.time.mono) ∧
          (b = 0xB0 → t = if s.emitServed f e then w.clLaunch k (f.plan.emitTransit f.n) f e (r.fetched == some true) else w) ∧
          (b = 0x80 → s.dmxRole k = drController → s.dmxTurn k (f.plan.emitTransit f.n) = true → s.time.mono < (s.dmx k).busyEnd →
            r.fetched ≠ none → t.fld (DMX_SKIP_BUSY_COUNT.inst k) = (s.fld (DMX_SKIP_BUSY_COUNT.inst k) + 1) % 2 ^ 32 ∧
              (t.reg (regKey e.page 0x010)).getLsbD 8 = true))) ∧
     (s.time.now < f.launchOf e ∨ s.launchSeam (f.launchOf e) = true → exec (.emitLaunch n i cut) s = .next s) ∧
     (s.time.now + e.lead * 65536 < f.launchOf e ∨ r.fetched ≠ none ∨ s.launchSeam (f.launchOf e) = true →
       exec (.emitFetch n i) s = .next s))

/-- NOW_NS answers the time with snapshots of its other parts, and an anchor carries its exact second (R85, R87,
R88, R90). A served read of TIME.NOW_NS answers the nanoseconds of the second and takes, for that requester alone,
the snapshots that NOW_SEC_LO, NOW_SEC_HI and NOW_FRAC return; nothing else changes. When a second of PTP time has
begun since the last anchor, STATE not being UNSET, ANCHOR remembers it and, with ANCHOR_EN and RECORD_EN set,
queues record 0x020 of the TIME page with the exact count of that instant; while UNSET, or with no new second,
ANCHOR changes nothing. -/
def Obligations.TimeReadsAndAnchors : Prop :=
  ∀ (q : Req) (s : State),
    (s.gate q 2 = .served → ∃ t, exec (.nowNsRead q) s = .next t ∧
      t.out = s.out ++ [.data q [BitVec.ofNat 32 (s.time.now / 65536 % 1000000000)]] ∧
      t.snap q TIME_NOW_SEC_LO_SEC_LO.key = BitVec.ofNat 32 (s.time.now / 65536 / 1000000000) ∧
      t.snap q TIME_NOW_SEC_HI_SEC_HI.key = BitVec.ofNat 32 (s.time.now / 65536 / 1000000000 / 2 ^ 32 % 2 ^ 16) ∧
      t.snap q TIME_NOW_FRAC_FRAC.key = BitVec.ofNat 32 (s.time.now % 65536) ∧
      (∀ q' k, q' ≠ q → k < 2 ^ 24 → t.snap q' k = s.snap q' k) ∧ t = { s with out := t.out, snaps := t.snaps }) ∧
    (s.timeState = tsUnset ∨ s.time.now / unitsPerSec ≤ s.time.lastAnchor → exec .anchor s = .next s) ∧
    (s.timeState ≠ tsUnset → s.time.lastAnchor < s.time.now / unitsPerSec →
      ∃ t, exec .anchor s = .next t ∧ t.time = { s.time with lastAnchor := s.time.now / unitsPerSec } ∧
        (let n := s.time.now / unitsPerSec * 1000000000
         t.recQ = if s.bit TIME_CTRL_ANCHOR_EN ∧ s.bit (HOST_PAGE_ROUTE_RECORD_EN.nth 2) then
           s.recQ ++ [⟨2, 0x20, n / 2 ^ 32 % 2 ^ 41, false, n, true⟩] else s.recQ) ∧
        t = { s with time := t.time, recQ := t.recQ })

/-- The PTP engine takes the messages of its domain, ports and master, and measures (R94, R96, R296, R300, R303). An
Announce with a message interval outside the profile from a master that is not in use is discarded; one inside it,
from a master already known or while fewer than eight are known, is remembered with the moment it was heard. A Sync
of the master in use that is two-step waits for its Follow_Up; a one-step Sync, or the matching Follow_Up, gives t1
and t2, and before a path delay is known no offset sample is made of them. The first Delay_Req, due at once, is
handed with its sequence number to the slave port, or counted as dropped while its link is down. The first
Delay_Resp to it makes the path delay ((t2 − t1) + (t4 − t3)) / 2, corrections taken off, publishes it in
PATH_DELAY_NS to the nearest ns and sets DELAY_VALID; a message of another domain, port or master changes nothing.
The engine runs while PTP steers: SOURCE_IN_USE is 1. -/
def Obligations.PtpMessagesTaken : Prop :=
  ∀ s : State,
    (∀ m : Announce, s.time.inUse = none → s.ptpTakes m.port m.domain = true →
      (¬ (-3 ≤ m.logInterval ∧ m.logInterval ≤ 4) → exec (.announceRx m) s = .next s) ∧
      (-3 ≤ m.logInterval ∧ m.logInterval ≤ 4 →
        (s.time.masters.any fun x => x.clock == m.clock && x.port == m.port && x.domain == m.domain) = true ∨
          s.time.masters.length < 8 →
        ∃ t, exec (.announceRx m) s = .next t ∧ MemKept s t ∧ ∃ x ∈ t.time.masters,
          x.clock = m.clock ∧ x.port = m.port ∧ x.domain = m.domain ∧ x.gm = m.gm ∧ x.interval = m.logInterval ∧
          x.heard.head? = some s.time.mono)) ∧
    (∀ (m : PtpSync) (f : PtpFollowUp),
      (s.ptpTakes m.port m.domain = false ∨ (s.fromMaster m.port m.clock = false ∧
        ∀ u, s.time.inUse = some u → s.ptpTakes u.port u.domain = true) → exec (.syncRx m) s = .next s) ∧
      (s.ptpTakes m.port m.domain = true → s.fromMaster m.port m.clock = true → -7 ≤ m.logInterval → m.logInterval ≤ 1 →
        (m.twoStep = true → exec (.syncRx m) s = .next { s with time := { s.time with
          peer := some (m.port, m.clock, m.mac, m.ip)
          syncWait := some m } }) ∧
        (m.twoStep = false → s.time.delay = none →
          exec (.syncRx m) s =
            .next { s with time := { s.time with
              peer := some (m.port, m.clock, m.mac, m.ip)
              lastSync := some (m.t1 + m.corr, m.t2)
              syncWait := none } })) ∧
      (s.ptpTakes f.port f.domain = true → s.fromMaster f.port f.clock = true → s.time.syncWait = some m →
        m.seq = f.seq → m.port = f.port → s.time.delay = none →
          exec (.followUpRx f) s =
            .next { s with time := { s.time with lastSync := some (f.t1 + f.corr + m.corr, m.t2), syncWait := none } }) ∧
      (s.time.syncWait = none → s.ptpTakes f.port f.domain = false ∨ s.fromMaster f.port f.clock = true →
        exec (.followUpRx f) s = .next s)) ∧
    (∀ (u : Master) (seq : Nat), s.time.inUse = some u → s.ptpTakes u.port u.domain = true → s.time.lastReqAt = none →
      s.bit TIME_PTP_CFG_DELAY_UNICAST = false →
      ∃ t, exec (.delayReqSend seq) s = .next t ∧ t.time = { s.time with lastReqAt := some s.time.mono } ∧
        (s.netUp u.port = true → (∃ x ∈ (t.net u.port).buf ++ (t.net u.port).queue, x.src = 2 ∧ x.req = some (seq % 65536) ∧
          x.bytes = s.delayReqFrame u.port (seq % 65536) 0 0 s.freeVal false) ∧ t.regs = s.regs) ∧
        (s.netUp u.port = false → t.nets = s.nets ∧ t.fld (NET_TX_DOWN_DROP_COUNT.inst u.port) =
          (s.fld (NET_TX_DOWN_DROP_COUNT.inst u.port) + 1) % 2 ^ 32) ∧
        t = { s with regs := t.regs, time := t.time, nets := t.nets, free := s.free + 1 }) ∧
    (∀ (m : PtpDelayResp) (t1 t2 t3 : Int), s.ptpTakes m.port m.domain = true → s.fromMaster m.port m.clock = true →
      s.time.delayReq = some (m.seq, t3) → s.time.lastSync = some (t1, t2) → s.time.delay = none →
      ∃ t, exec (.delayRespRx m) s = .next t ∧
        (let d := ((t2 - t1) + (m.t4 - m.corr - t3)) / 2
         t.time = { s.time with delay := some d, delayPath := some (m.clock, m.port) } ∧
         t.fld TIME_PATH_DELAY_NS_NS = intBits 32 (roundDiv d 65536) ∧ t.bit TIME_STATUS_DELAY_VALID = true) ∧
        RegsKept (fun k => [TIME_PATH_DELAY_NS_NS.key, TIME_STATUS_STATE.key].contains k) s t ∧
        t = { s with regs := t.regs, time := t.time })

/-- A software correction sets, slews or is held, and the servo is steered by hand only under SW_SERVO (R87, R100,
R101, R102, R110). A served, accepted write of SW_OFFSET_NS while SW_SERVO is 1: with |o| within STEP_THRESH the
time base is left to slew exactly |o| at CARVE_MAX, forward for a negative offset, and so it is beyond it while the
step guard is suspended; beyond it otherwise STATE becomes HELD, the correction is held as software's in place of
what was left of the one before, HELD_DIR says its sign and CORR_REFUSED is set; no time is changed by either.
Without SW_SERVO the write changes nothing but PAGE_SEQ. A write of FREQ_ADJ is taken only while SW_SERVO is 1 and
limited to ±CARVE_MAX. A write of SET_SEC_HI while UNSET, no glide being forced, sets the time directly to the value
of the three registers and leaves UNSET. The absorbed end of a slew changes nothing but its direction. -/
def Obligations.SoftwareCorrectionsJudged : Prop :=
  ∀ (q : Req) (v : Word) (s : State),
    (s.gate q 2 = .served → s.mayWrite q 2 = true →
      (let o : Int := -(natSigned 32 v.toNat * 65536)
       let thresh : Int := s.fld TIME_STEP_THRESH_NS * 65536
       (s.bit TIME_CTRL_SW_SERVO = false → exec (.swOffsetWrite q v) s = .next (s.countWrite 2) ∧
         exec (.freqAdjWrite q v) s = .next (s.countWrite 2)) ∧
       (s.bit TIME_CTRL_SW_SERVO = true → s.timeState ≠ tsUnset → |o| ≤ thresh ∨ s.time.carveOpen = true →
         ∃ t, exec (.swOffsetWrite q v) s = .next t ∧
           t.time = { s.time with swRem := o.natAbs * 256000000000, swForward := decide (o < 0) } ∧
           RegsKept (fun k => k == regKey 2 0x01C) s t ∧ t = { s with regs := t.regs, time := t.time }) ∧
       (s.bit TIME_CTRL_SW_SERVO = true → s.timeState ≠ tsUnset → s.timeState ≠ tsHeld → thresh < |o| → s.time.carveOpen = false →
         ∃ t, exec (.swOffsetWrite q v) s = .next t ∧ t.timeState = tsHeld ∧ t.time = { s.time with held := some ⟨o, true⟩, swRem := 0 } ∧
           t.bit TIME_STATUS_HELD_DIR = decide (0 < o) ∧ (t.reg (regKey 2 0x010)).getLsbD 13 = true ∧
           t = { s with regs := t.regs, time := t.time, recQ := t.recQ, out := t.out })) ∧
      (s.bit TIME_CTRL_SW_SERVO = true → ∃ t, exec (.freqAdjWrite q v) s = .next t ∧
        (let lim : Int := s.fld TIME_CARVE_MAX_PPB * 256
         t.fld TIME_FREQ_ADJ_ADJ = intBits 32 (clampInt (-lim) lim (natSigned 32 v.toNat))) ∧
        RegsKept (fun k => [TIME_FREQ_ADJ_ADJ.key, regKey 2 0x01C].contains k) s t ∧ t = { s with regs := t.regs }) ∧
      (∀ lo : Word, s.timeState = tsUnset → s.bit TIME_CTRL_FORCE_GLIDE = false → s.heldOf q (regKey 2 0x09C) = some lo → s.fld TIME_STATUS_SOURCE_IN_USE = 0 →
        ∃ t, exec (.setSecHiWrite q v) s = .next t ∧
          t.time.now = ((lo.toNat + (v.toNat % 2 ^ 16) * 2 ^ 32) * 1000000000 + s.fld TIME_SET_NS_NS) * 65536 ∧
          t.timeState = tsFree ∧ (∃ m, t.time.nextTransit = some (m, transitInstant s.rate m)) ∧ MemKept s t)) ∧
    (s.time.swRem = 0 → exec .swCorrectionAbsorbed s = .next { s with time := { s.time with swForward := false } }) ∧
    (s.time.swRem ≠ 0 → exec .swCorrectionAbsorbed s = .next s)

/-- STEP_AUTH, CARVE_AUTH, FORCE_GLIDE and SW_SERVO act on what is held and in use at the write (R98, R102, R103,
R107, R110). For a served, accepted write of TIME.CTRL on a lone device that leaves SOURCE as it is: STEP_AUTH
becomes 1 only while a forward correction is held (HELD with HELD_DIR 0) and 0 otherwise, but where the mark at
which an authorised step is applied is pending with the write the mark wins and it stays; CARVE_AUTH over a held
correction of software reads 1, suspends the step guard, ends the hold in ACQUIRE (in GLIDE while one is forced) and
slews exactly it; FORCE_GLIDE newly set in LOCKED, ACQUIRE or FREE makes STATE GLIDE, sets GLIDE_FREQ to the mean of
the last samples' FREQ_ADJ, restarts GLIDE_AGE_MS and raises GLIDE_ENTER; SW_SERVO reads as written and, handed back
in LOCKED, puts the servo in ACQUIRE. -/
def Obligations.TimeControlBits : Prop :=
  ∀ (q : Req) (v : Word) (s : State), s.gate q 2 = .served → s.mayWrite q 2 = true → s.moonUp = false →
    s.fld CL_GROUP_STATUS_MEMBERS ≤ 1 → v.toNat % 4 = s.fld TIME_CTRL_SOURCE →
    s.fld TIME_STATUS_SOURCE_IN_USE = s.fld TIME_CTRL_SOURCE →
    (v.getLsbD 2 = s.bit TIME_CTRL_SW_SERVO → v.getLsbD 6 = false → v.getLsbD 7 = s.bit TIME_CTRL_FORCE_GLIDE →
      ∃ t, exec (.stepAuthWrite q v) s = .next t ∧
        t.bit TIME_CTRL_STEP_AUTH = (if s.transitPending = true ∧ s.bit TIME_CTRL_STEP_AUTH = true ∧ s.time.stepSkip = false
          then true else (v.getLsbD 5 && s.timeState == tsHeld && !s.bit TIME_STATUS_HELD_DIR)) ∧
        t.timeState = s.timeState ∧ t.time.held = s.time.held ∧ t.time.now = s.time.now ∧
        t = { s with regs := t.regs, time := t.time }) ∧
    (∀ h : HeldCorr, v.getLsbD 2 = s.bit TIME_CTRL_SW_SERVO → v.getLsbD 5 = false → v.getLsbD 6 = true →
      v.getLsbD 7 = s.bit TIME_CTRL_FORCE_GLIDE → s.timeState = tsHeld → s.time.carveOpen = false →
      s.time.held = some h → h.sw = true →
      ∃ t, exec (.carveAuthWrite q v) s = .next t ∧
        t.timeState = (if s.bit TIME_CTRL_FORCE_GLIDE then tsGlide else tsAcquire) ∧ t.time.held = none ∧
        t.time.swRem = h.o.natAbs * 256000000000 ∧ t.time.swForward = decide (h.o < 0) ∧ t.time.now = s.time.now ∧
        t.bit TIME_CTRL_CARVE_AUTH = true ∧ t.time.carveOpen = true ∧ MemKept s t) ∧
    (v.getLsbD 2 = s.bit TIME_CTRL_SW_SERVO → v.getLsbD 5 = false → v.getLsbD 6 = false → v.getLsbD 7 = true →
      s.bit TIME_CTRL_FORCE_GLIDE = false → [tsFree, tsAcquire, tsLocked].contains s.timeState = true →
      ∃ t, exec (.forceGlideWrite q v) s = .next t ∧ t.timeState = tsGlide ∧ t.bit TIME_CTRL_FORCE_GLIDE = true ∧
        t.fld TIME_GLIDE_FREQ_ADJ = intBits 32 s.glideFreq ∧ t.fld TIME_GLIDE_AGE_MS_MS = 0 ∧
        (t.reg (regKey 2 0x010)).getLsbD 10 = true ∧ t.time.now = s.time.now ∧ MemKept s t) ∧
    (v.getLsbD 5 = false → v.getLsbD 6 = false → v.getLsbD 7 = s.bit TIME_CTRL_FORCE_GLIDE →
      ∃ t, exec (.swServoWrite q v) s = .next t ∧ t.bit TIME_CTRL_SW_SERVO = v.getLsbD 2 ∧ t.time.now = s.time.now ∧
        t.timeState = (if s.bit TIME_CTRL_SW_SERVO = true ∧ v.getLsbD 2 = false ∧ s.timeState = tsLocked then tsAcquire
          else s.timeState) ∧ MemKept s t)

/-- A source without samples for its span is lost and the time base glides; a glide too long clears TRACEABLE once
(R107, R108, R439). GLIDE_TIMEOUT, with the source in use CAMLEK or FSYNC and no accepted sample for its span
(LOSS_US, or two frame periods), STATE being FREE, ACQUIRE or LOCKED, makes STATE GLIDE and raises GLIDE_ENTER
without touching the time; before the span it changes nothing. GLIDE_LIMIT in GLIDE, when GLIDE_AGE_MS has passed a
non-zero limit for the first time, clears TRACEABLE and raises its event; a second time, or at limit 0, it changes
nothing. ANNOUNCE_RECEIPT_TIMEOUT of the only master, its span over, takes it out of use and the time base glides.
-/
def Obligations.GlideEntryAndLimit : Prop :=
  ∀ s : State,
    (∀ src, src = s.fld TIME_STATUS_SOURCE_IN_USE → src = 2 ∨ src = 3 →
      (let span := if src = 2 then s.fld CL_LOSS_US_US * 1000 * 65536 else 2 * s.rate.2 * (10 ^ 9 * 65536) / s.rate.1
       (s.time.mono - s.time.lastSource < span → exec .glideTimeout s = .next s) ∧
       (span ≤ s.time.mono - s.time.lastSource → [tsFree, tsAcquire, tsLocked].contains s.timeState = true →
         ∃ t, exec .glideTimeout s = .next t ∧ t.timeState = tsGlide ∧ t.fld TIME_GLIDE_FREQ_ADJ = intBits 32 s.glideFreq ∧
           (t.reg (regKey 2 0x010)).getLsbD 10 = true ∧ t.time.now = s.time.now ∧
           t.time.nextTransit = s.time.nextTransit ∧ MemKept s t))) ∧
    (s.timeState = tsGlide → s.fld TIME_GLIDE_LIMIT_S_S ≠ 0 → s.time.glidePassed = false →
      s.fld TIME_GLIDE_LIMIT_S_S * 1000 < s.fld TIME_GLIDE_AGE_MS_MS →
      ∃ t, exec .glideLimit s = .next t ∧ t.bit TIME_STATUS_TRACEABLE = false ∧ t.timeState = tsGlide ∧
        (t.reg (regKey 2 0x010)).getLsbD 12 = true ∧ t.time = { s.time with glidePassed := true } ∧
        exec .glideLimit t = .next t) ∧
    (s.fld TIME_GLIDE_LIMIT_S_S = 0 → exec .glideLimit s = .next s) ∧
    (∀ u : Master, s.time.inUse = some u → s.time.masters = [u] → s.fld TIME_STATUS_SOURCE_IN_USE = 1 →
      s.fld TIME_PTP_CFG_ANNOUNCE_TIMEOUT * intervalUnits u.interval ≤ s.time.mono - s.time.lastAnnounce →
      [tsFree, tsAcquire, tsLocked].contains s.timeState = true →
      ∃ t, exec .announceReceiptTimeout s = .next t ∧ t.time.inUse = none ∧ t.time.masters = [] ∧ t.timeState = tsGlide ∧
        MemKept s t)

/-- An armed trigger is locked until disarmed, and an arming judges its target (R111, R112, R114, R117). For a
served, accepted write: arming an armed trigger is discarded with ARMED_WRITE and still counts in PAGE_SEQ; an AT
arming with a target that is not past and a supported action arms the trigger at the full count now + d and stores
the configuration; an arming that is not allowed leaves it disarmed with ARMED_WRITE; a disarm of an armed trigger
with no action pending clears ARM and its ARMED bit. -/
def Obligations.TriggersArmAndDisarm : Prop :=
  ∀ (q : Req) (n : Nat) (v : Word) (s : State), n < 64 → s.gate q 3 = .served → s.mayWrite q 3 = true →
    (s.bit (TRIG_TRG_CFG_ARM.nth n) = true → exec (.triggerArm q n v) s = .next ((s.countWrite 3).raise 3 11 n)) ∧
    (s.bit (TRIG_TRG_CFG_ARM.nth n) = false → s.armRefused n (v ||| 8).toNat = true →
      ∃ t, exec (.triggerArm q n v) s = .next t ∧ t.bit (TRIG_TRG_CFG_ARM.nth n) = false ∧
        (t.reg (regKey 3 0x010)).getLsbD 11 = true ∧ Quiet s t) ∧
    (let d := (s.fld (TRIG_TRG_TIME_TIME.nth n) + 2 ^ 32 - s.st32) % 2 ^ 32
     s.bit (TRIG_TRG_CFG_ARM.nth n) = false → s.armRefused n (v ||| 8).toNat = false → v.toNat % 4 = 0 →
      0 < d → d < 2 ^ 31 →
      ∃ t, exec (.triggerArm q n v) s = .next t ∧ t.bit (TRIG_TRG_CFG_ARM.nth n) = true ∧
        t.bit (trgBit TRIG_ARMED_ARMED n) = true ∧ t.fld (TRIG_TRG_CFG_ACTION.nth n) = natBits v.toNat 4 4 ∧
        (t.trgUnit n).next = s.nowNs + d ∧ (∀ k, k ≠ n → t.trgUnit k = s.trgUnit k) ∧
        t = { s with regs := t.regs, trig := t.trig }) ∧
    (s.bit (TRIG_TRG_CFG_ARM.nth n) = true →
      ∃ t, exec (.triggerDisarm q n v false) s = .next t ∧ t.bit (TRIG_TRG_CFG_ARM.nth n) = false ∧
        t.bit (trgBit TRIG_ARMED_ARMED n) = false ∧ t = { s with regs := t.regs })

/-- A due trigger performs its action at its tick, and an AT trigger is then done (R112, R116, R118, R408). When an
armed AT trigger's target is reached, the command of its action performs it: SET, CLR and TOGGLE write OUT_LEVEL of
the pin, a PULSE also starts the clear that TIO_PULSE_END makes when its width is over, SNS_START takes the held
sample of the channel where none is held, FSYNC_PULSE starts one pulse, and CUE and SAMPLE only tell; each sends its
mark to the scheduler and disarms the trigger. Where triggers of one tick act, the lower number acts first. A
trigger not due is left alone by the command. -/
def Obligations.TriggerActionsTaken : Prop :=
  ∀ (n : Nat) (s : State), n < 64 →
    (s.trgDue n = none → exec (.trgCue n) s = .next s ∧ exec (.trgTioSet n) s = .next s ∧ exec (.trgTioClr n) s = .next s ∧
      exec (.trgTioToggle n) s = .next s ∧ exec (.trgTioPulse n) s = .next s ∧ exec (.trgTioSample n) s = .next s ∧
      exec (.trgSnsStart n) s = .next s ∧ exec (.trgFsyncPulse n) s = .next s) ∧
    (∀ last k last', s.trgDue n = some last → s.fld (TRIG_TRG_CFG_MODE.nth n) = 0 → s.fld (TRIG_TRG_CFG_ACTION.nth n) = 0 →
      k < n → s.trgDue k = some last' → s.fld (TRIG_TRG_CFG_MODE.nth k) = 0 → s.fld (TRIG_TRG_CFG_ACTION.nth k) = 0 →
      (∀ j, j < n → j ≠ k → s.trgDue j = none) → (∀ x ∈ s.trig.pulses, s.time.mono < x.2.1) →
      ∃ t, exec (.trgCue n) s = .next t ∧ t.marks = s.marks ++ [.trigger k, .trigger n]) ∧
    (∀ last, s.trgDue n = some last → s.fld (TRIG_TRG_CFG_MODE.nth n) = 0 → s.fld (TRIG_TRG_CFG_PIN.nth n) < 16 →
      (∀ k, k < n → s.trgDue k = none) → (∀ x ∈ s.trig.pulses, s.time.mono < x.2.1) →
      (let act := s.fld (TRIG_TRG_CFG_ACTION.nth n)
       let pin := s.fld (TRIG_TRG_CFG_PIN.nth n)
       let arg := s.fld (TRIG_TRG_CFG_ARG.nth n)
       let out := TRIG_TIO_CFG_OUT_LEVEL.nth pin
       let done (t : State) : Prop := t.bit (TRIG_TRG_CFG_ARM.nth n) = false ∧ t.marks = s.marks ++ [.trigger n] ∧ MemKept s t
       (act = 0 → ∃ t, exec (.trgCue n) s = .next t ∧ done t ∧ t.out = s.out) ∧
       (act = 1 → ∃ t, exec (.trgTioSet n) s = .next t ∧ done t ∧ t.bit out = true) ∧
       (act = 2 → ∃ t, exec (.trgTioClr n) s = .next t ∧ done t ∧ t.bit out = false) ∧
       (act = 3 → ∃ t, exec (.trgTioToggle n) s = .next t ∧ done t ∧ t.bit out = !s.bit out) ∧
       (act = 4 → ∃ t, exec (.trgTioPulse n) s = .next t ∧ done t ∧ t.bit out = true ∧
         t.trig.pulses = s.trig.pulses ++ [(pin, s.time.mono + arg * 10 * 65536, n)]) ∧
       (act = 5 → ∃ t, exec (.trgTioSample n) s = .next t ∧ done t ∧ t.out = s.out) ∧
       (act = 6 → ∃ t, exec (.trgSnsStart n) s = .next t ∧ done t ∧
         (s.snsHeld = none → t.snsHeld = some (s.corrOf (natBits arg 0 5)))) ∧
       (act = 7 → ∃ t, exec (.trgFsyncPulse n) s = .next t ∧ done t ∧
         t.time.fsyncEnd = some (s.time.mono + max (s.fld TRIG_FSYNC_CFG_WIDTH) 1 * 10 * 65536) ∧
         t.out = s.out ++ [.pin 16 (!s.bit TRIG_FSYNC_CFG_OUT_POL)]))) ∧
    (∀ (pin e : Nat) (rest : List (Nat × Nat × Nat)), pin < 16 →
      ((∀ x ∈ s.trig.pulses, x.1 = pin → s.time.mono < x.2.1) → exec (.tioPulseEnd pin) s = .next s) ∧
      (s.trig.pulses = (pin, e, n) :: rest → e ≤ s.time.mono → (∀ x ∈ rest, s.time.mono < x.2.1) →
        (∀ k, k < n → s.trgDue k = none) → ∃ t, exec (.tioPulseEnd pin) s = .next t ∧ t.trig.pulses = rest ∧
        t.bit (TRIG_TIO_CFG_OUT_LEVEL.nth pin) = false ∧ MemKept s t))

/-- Edges are captured with their stamp, and timecode frames are sent, recorded, locked and lost (R119, R120, R121,
R123). An edge of a TIO pin whose level has held for DEGLITCH sets its LEVEL, and one that has not changes nothing;
where its kind is captured, no edge of the source was captured less than 40 ns before and fewer than eight of its
records wait, its ST32 is stored and the stamp remembered, else it is counted in CAP_DROP with its event; a kind
that is not captured changes nothing else. An FSYNC_IN edge is captured the same way and, unless SOURCE is FSYNC,
never touches the time base. LTC_OUT sends the label of the frame whose alignment instant was reached, once per
frame; a valid LTC_IN frame is recorded with its stamp, the fourth in a row at one rate gains lock (in a row: within
one and a half periods, log entry 34); two frame periods without one lose it. -/
def Obligations.EdgesAndTimecode : Prop :=
  ∀ (pin stamp : Nat) (rising : Bool) (s : State), pin < 16 →
    (let close (src : Nat) : Bool := (match s.trig.lastEdge.find? fun p => p.1 == src with
       | some p => decide (stamp - p.2 < 40 * 65536) | none => false) || decide (8 ≤ s.capWaiting src)
     let edge := if rising then 0 else 1
     (s.time.now < stamp + s.deglitch pin → exec (.tioEdge pin rising stamp) s = .next s) ∧
     (stamp + s.deglitch pin ≤ s.time.now → (s.fld (TRIG_TIO_CFG_CAPTURE.nth pin)).testBit edge = false →
       exec (.tioEdge pin rising stamp) s = .next (s.setBit (TRIG_TIO_CFG_LEVEL.nth pin) rising)) ∧
     (stamp + s.deglitch pin ≤ s.time.now → (s.fld (TRIG_TIO_CFG_CAPTURE.nth pin)).testBit edge = true →
       ∃ t, exec (.tioEdge pin rising stamp) s = .next t ∧ t.bit (TRIG_TIO_CFG_LEVEL.nth pin) = rising ∧ MemKept s t ∧
         (if close pin then t.fld TRIG_CAP_DROP_COUNT = (s.fld TRIG_CAP_DROP_COUNT + 1) % 2 ^ 32 ∧
            (t.reg (regKey 3 0x010)).getLsbD 10 = true ∧ t.trig = s.trig
          else t.fld (TRIG_TIO_CAP_ST32.nth pin) = stamp / 65536 % 2 ^ 32)) ∧
     ((s.fld TRIG_FSYNC_CFG_IN_EDGE).testBit edge = false → exec (.fsyncEdge rising stamp) s = .next s) ∧
     ((s.fld TRIG_FSYNC_CFG_IN_EDGE).testBit edge = true → s.fld TIME_CTRL_SOURCE ≠ 3 → close 16 = false →
       ∃ t, exec (.fsyncEdge rising stamp) s = .next t ∧ t.fld TRIG_FSYNC_CAP_ST32 = stamp / 65536 % 2 ^ 32 ∧
         t.time = s.time ∧ RegsKept (fun k => k == TRIG_FSYNC_CAP_ST32.key) s t ∧ MemKept s t)) ∧
    (s.bit TIME_LTC_OUT_CFG_EN = true → s.timeState ≠ tsUnset → (∀ k, s.time.ltcLast = some k → k < s.ltcIndex) →
      (let code := s.fld TIME_LTC_OUT_CFG_RATE
       let l := s.ltcLabel code s.ltcIndex
       exec .ltcOutFrame s = .next { s with
         time := { s.time with ltcLast := some s.ltcIndex }
         out := s.out ++ [.ltcFrame code (bcd l.1) (bcd l.2.1) (bcd l.2.2.1) (bcd l.2.2.2) (s.fld TIME_LTC_OUT_UB_UB)] })) ∧
    (∀ k, s.time.ltcLast = some k → s.ltcIndex ≤ k → exec .ltcOutFrame s = .next s) ∧
    (∀ f : LtcIn, s.bit TIME_LTC_IN_CFG_EN = true →
      ∃ t, exec (.ltcInFrame f) s = .next t ∧ t.fld TIME_LTC_IN_LAST_FF = f.ff % 2 ^ TIME_LTC_IN_LAST_FF.w ∧
        t.fld TIME_LTC_IN_ST32_ST32 = f.stamp % 2 ^ 32 ∧
        (let run := if s.time.ltcRate = f.rate ∧ s.ltcFollows = true then s.time.ltcRun + 1 else 1
         t.time.ltcRun = run ∧ (4 ≤ run → t.bit TIME_LTC_IN_LAST_LOCK = true) ∧
         (run < 4 → t.bit TIME_LTC_IN_LAST_LOCK = s.bit TIME_LTC_IN_LAST_LOCK)) ∧
        t.time.now = s.time.now ∧ t.time.integ = s.time.integ ∧ MemKept s t) ∧
    (s.bit TIME_LTC_IN_LAST_LOCK = true →
      2 * (ltcRate s.time.ltcRate).2 * unitsPerSec ≤ (s.time.mono - s.time.ltcAt) * (ltcRate s.time.ltcRate).1 →
      ∃ t, exec .ltcInLost s = .next t ∧ t.bit TIME_LTC_IN_LAST_LOCK = false ∧ (t.reg (regKey 2 0x010)).getLsbD 19 = true ∧
        t.time = { s.time with ltcRun := 0 } ∧ MemKept s t)

/-- Decoding an encoded bundle gives back its four syllables (R136, R140, R141, R142, R143, R155,
04_render_engines.md). For every bundle each of whose four slots holds NOP or an operation of that slot with every
field at a value its format admits, the bundle's 128 bits decode to exactly those four syllables with every field as
it was. No bit of a format is dropped and no operation reads as another: vector operations of slots VA and VB with
lane mode, predicate, scalar flag, saturation mode and registers; M operations of formats MV, MS, MX, ML and MC; C
operations of formats CR, CI, CU, CB and CX. -/
def Obligations.BundlesDecodeAsEncoded : Prop := ∀ y : Syls, y.wf = true → decodeBundle (encodeBundle y) = y

/-- What each vector operation computes in its lanes (R136, R137, R143, R144, R145, R146, R147). Each lane of the
result of a lane-wise operation depends on the same lane of A, B and D (the scalar in every lane with BS = 1); PERM,
ROTL, SPLAT, ZIPL, ZIPH, the UNPK forms, SEL and RSUM place lanes as Table 04-3 says; a compare gives one bit per
lane. As bit vectors of the lane's width: ADD, SUB and SHL wrap under WRAP, ADD and SUB hold at the ends of the
unsigned range under USAT and of the signed range under SSAT; MIN, MAX and the compares take their signedness from
the opcode; the shifts use b mod width; MULHU and MULHS give the upper half; MULQ rounds half up at fraction 15 or
16 and saturates under SM, and MACQ adds the rounded product to d before saturating. In fp16, FADD and FMUL commute,
multiplying by 1 and adding −0 give the operand back, an operand that is NaN gives 0x7E00 (FMIN and FMAX give the
other operand), FMIN of the two zeros is −0 and FMAX +0, and UCVTF followed by FCVTU gives back every value up to
2,048. -/
def Obligations.VectorResultsByLane : Prop :=
  (∀ (o : VOp) (f : VF) (a b d bv : Nat) (en : Nat → Bool) (i : Nat), i < laneN f.h16 →
    (let w := laneW f.h16
     let n := laneN f.h16
     let la (j : Nat) : Nat := laneGet f.h16 a j
     let lb (j : Nat) : Nat := if f.bs then bv % 2 ^ w else laneGet f.h16 b j
     let r : Nat := laneGet f.h16 (vResult o f a b d bv en) i
     (o ∈ [VOp.mov, .add, .sub, .minu, .mins, .maxu, .maxs, .and, .or, .xor, .andn, .shl, .shru, .shrs, .absdu, .avgu,
         .mul, .mulhu, .mulhs, .mulq, .macq, .fma, .fmul, .fadd, .fcvtu, .ucvtf, .fmin, .fmax] →
       r = vLane o f.sm w (la i) (lb i) (laneGet f.h16 d i) % 2 ^ w) ∧
     (o = .sel → r = if en i then la i else lb i) ∧ (o = .perm → r = la (lb i % n)) ∧ (o = .rotl → r = la ((i + bv) % n)) ∧
     (o = .splat → r = la (bv % n)) ∧
     (o = .rsum → r = if i = 0 then ((List.range n).map fun j => if en j then la j else 0).sum % 2 ^ w else 0) ∧
     (o = .zipl → r = if i % 2 = 0 then la (i / 2) else lb (i / 2)) ∧
     (o = .ziph → r = if i % 2 = 0 then la (i / 2 + n / 2) else lb (i / 2 + n / 2)) ∧
     (o = .unpklu → f.h16 = false → r = laneGet true a i) ∧ (o = .unpkhu → f.h16 = false → r = laneGet true a (i + 16)) ∧
     (o = .unpkls → f.h16 = false → natSigned 32 r = natSigned 16 (laneGet true a i)) ∧
     (o = .unpkhs → f.h16 = false → natSigned 32 r = natSigned 16 (laneGet true a (i + 16))) ∧
     (o = .pack → f.h16 = true → f.sm = 1 →
       r = min (if i < 16 then laneGet false a i else laneGet false b (i - 16)) 65535) ∧
     (o.isCmp = true → (vCmpBits o f a b bv).testBit i = (vLane o 0 w (la i) (lb i) 0 == 1)))) ∧
  (∀ (w : Nat) (a b d : BitVec w), w = 16 ∨ w = 32 →
    (let L (o : VOp) (sm : Nat) : Nat := vLane o sm w a.toNat b.toNat d.toNat
     let top : Int := 2 ^ (w - 1) - 1
     let f := if w = 16 then 15 else 16
     L .add 0 = (a + b).toNat ∧ L .sub 0 = (a - b).toNat ∧ L .shl 0 = (a <<< (b.toNat % w)).toNat ∧
     L .add 1 = min (a.toNat + b.toNat) (2 ^ w - 1) ∧ L .sub 1 = a.toNat - b.toNat ∧
     natSigned w (L .add 2) = clampInt (-top - 1) top (a.toInt + b.toInt) ∧
     natSigned w (L .sub 2) = clampInt (-top - 1) top (a.toInt - b.toInt) ∧
     L .minu 0 = min a.toNat b.toNat ∧ L .maxu 0 = max a.toNat b.toNat ∧
     L .mins 0 = (if a.sle b then a else b).toNat ∧ L .maxs 0 = (if a.sle b then b else a).toNat ∧
     L .and 0 = (a &&& b).toNat ∧ L .or 0 = (a ||| b).toNat ∧ L .xor 0 = (a ^^^ b).toNat ∧
     L .andn 0 = (a &&& ~~~b).toNat ∧ L .shru 0 = (a >>> (b.toNat % w)).toNat ∧
     L .shrs 0 = (a.sshiftRight (b.toNat % w)).toNat ∧ L .absdu 0 = max a.toNat b.toNat - min a.toNat b.toNat ∧
     L .avgu 0 = (a.toNat + b.toNat + 1) / 2 ∧ L .mul 0 = (a * b).toNat ∧ L .mulhu 0 = a.toNat * b.toNat / 2 ^ w ∧
     L .mulhs 0 = (BitVec.ofInt w (a.toInt * b.toInt / 2 ^ w)).toNat ∧
     L .mulq 1 = min ((a.toNat * b.toNat + 2 ^ (f - 1)) / 2 ^ f) (2 ^ w - 1) ∧
     natSigned w (L .mulq 2) = clampInt (-top - 1) top ((a.toInt * b.toInt + 2 ^ (f - 1)) / 2 ^ f) ∧
     L .macq 0 = (BitVec.ofInt w (d.toInt + (a.toInt * b.toInt + 2 ^ (f - 1)) / 2 ^ f)).toNat ∧
     L .macq 1 = min (d.toNat + (a.toNat * b.toNat + 2 ^ (f - 1)) / 2 ^ f) (2 ^ w - 1) ∧
     natSigned w (L .macq 2) = clampInt (-top - 1) top (d.toInt + (a.toInt * b.toInt + 2 ^ (f - 1)) / 2 ^ f) ∧
     L .cmplts 0 = (if a.slt b then 1 else 0) ∧ L .cmples 0 = (if a.sle b then 1 else 0) ∧
     L .cmpltu 0 = (if a.ult b then 1 else 0) ∧ L .cmpleu 0 = (if a.ule b then 1 else 0))) ∧
  (∀ a b : Nat, a < 2 ^ 16 → b < 2 ^ 16 →
    (let nan (v : Nat) : Prop := natBits v 10 5 = 31 ∧ natBits v 0 10 ≠ 0
     f16Add a b = f16Add b a ∧ f16Mul a b = f16Mul b a ∧
     (¬ nan a → f16Mul a 0x3C00 = a ∧ f16Add a 0x8000 = a) ∧
     (nan a → f16Mul a b = 0x7E00 ∧ f16Add a b = 0x7E00 ∧ (∀ d, f16Fma d a b = 0x7E00) ∧
       (¬ nan b → f16Min a b = b ∧ f16Max a b = b) ∧ f16ToU a = 0) ∧
     (a ≤ 2048 → f16ToU (uToF16 a) = a))) ∧
  f16Min 0 0x8000 = 0x8000 ∧ f16Min 0x8000 0 = 0x8000 ∧ f16Max 0 0x8000 = 0 ∧ f16Max 0x8000 0 = 0

/-- A vector operation issues in one step and its result lands two steps later (R24, R129, R130, R131, R132, R135,
R137, R147). A step of plan code without a fault whose bundle holds vector operation o in slot VA or VB takes one
step of the engine; every source is read as the registers stand at that step, the result (lanes of a V register, or
lanes of a P register for a compare) is in flight with latency 2 under the predicate's lane mask, no register has
changed yet, and bank memory changes only if the bundle stores. A result lands at its own step: of the results of
one register that are due, the one whose slot comes last in the order VA, VB, M, C is stored, of one slot the one
issued later, bit by bit under its mask; a register with no result due keeps its value, and S0 and P0 read 0 and all
ones whatever lands. Other engines, and all the state an engine step does not touch, are as they were. (A vector
operation's command is the step that issues a bundle holding it: log entry 14.) -/
def Obligations.VectorOpsIssueAndLand : Prop :=
  (∀ (e : Nat) (vb : Bool) (o : VOp) (f : VF) (y : Syls) (s : State), s.Issues e y →
    (if vb then y.vb else y.va) = .op o f → (∀ win n, y.c ≠ .owopen win n) → y.c ≠ .fend →
    ∃ t, exec (vecCmd e vb o f) s = .next t ∧
      (let x := s.atStep e
       (∀ q ∈ vPend x x.step (if vb then 1 else 0) (.op o f), q ∈ (t.eng e).pend ∧ q.land = x.step + 2) ∧
       (∃ q, vPend x x.step (if vb then 1 else 0) (.op o f) = [q] ∧ q.dest = if o.isCmp then .p f.d else .v f.d) ∧
       (t.eng e).step = x.step + 1 ∧ (t.eng e).v = x.v ∧ (t.eng e).s = x.s ∧ (t.eng e).p = x.p ∧
       (mAccess x y.m = none → MemKept s t) ∧ EngineOnly e s t)) ∧
  (∀ (x : EngS) (n : Nat),
    (∀ q ∈ x.pend, q.land ≤ n →
      (∀ b ∈ x.pend, b.land ≤ n → b.dest = q.dest → b = q ∨ b.rank < q.rank ∨ (b.rank = q.rank ∧ b.issued < q.issued)) →
      match q.dest with
      | .v i => ∀ k, k < 512 → ((x.landAt n).rv i).testBit k = if q.mask.testBit k then q.val.testBit k else (x.rv i).testBit k
      | .s i => ∀ k, k < 32 → i ≠ 0 →
          ((x.landAt n).rs i).testBit k = if q.mask.testBit k then q.val.testBit k else (x.rs i).testBit k
      | .p i => ∀ k, k < 32 → i ≠ 0 →
          ((x.landAt n).rp i).testBit k = if q.mask.testBit k then q.val.testBit k else (x.rp i).testBit k) ∧
    (∀ i, (∀ q ∈ x.pend, q.land ≤ n → q.dest ≠ .v i) → (x.landAt n).rv i = x.rv i) ∧
    (∀ i, (∀ q ∈ x.pend, q.land ≤ n → q.dest ≠ .s i) → (x.landAt n).rs i = x.rs i) ∧
    (∀ i, (∀ q ∈ x.pend, q.land ≤ n → q.dest ≠ .p i) → (x.landAt n).rp i = x.rp i) ∧
    (∀ q ∈ x.pend, q.land ≤ n ∨ q ∈ (x.landAt n).pend) ∧ x.rs 0 = 0 ∧ x.rp 0 = 2 ^ 32 - 1)

/-- What a step with an M operation loads, stores and starts (R130, R133, R148, R149, R150, R151, R152, R153). A
step of plan code without a fault whose bundle holds an M operation (or NOP) takes one step: loads are in flight
with latency 4, post-increments with 1, VGET, VPUT and SCSTAT with 2, with the value read at this step. A store
writes, at the address that base, offset and row indexes give, exactly the enabled bits of each word: VST, VSTP,
XST, SST and SSTP store them, VSTS and SSTS set and VSTC and SSTC clear the bits that are 1 in the data; every other
bit of every bank reads as before. A load, and a form with no lane enabled, changes no memory. DRAM, NVM and check
states are as they were. An executed SCSTART puts its descriptor number at the tail of its channel's queue; without
one both queues are as they were. -/
def Obligations.MemoryOpsIssue : Prop :=
  ∀ (e : Nat) (y : Syls) (i : Instr) (s : State), s.Issues e y → memCmd e y.m = some i →
    ∃ t, exec i s = .next t ∧
      (let x := s.atStep e
       let acc := mAccess x y.m
       let read : List Nat := match acc with
         | some a => if a.kind = 0 then a.words.map fun w => (s.bankWord a.bank w.1).toNat else []
         | none => []
       ((∀ win n, y.c ≠ .owopen win n) → y.c ≠ .fend → ∀ q ∈ mPend x x.step y.m read, q ∈ (t.eng e).pend) ∧
       (∀ q ∈ mPend x x.step y.m read, q.land = x.step + 1 ∨ q.land = x.step + 2 ∨ q.land = x.step + 4) ∧
       (t.eng e).step = x.step + 1 ∧
       (acc = none → MemKept s t) ∧
       (∀ a, acc = some a → (a.kind = 0 → MemKept s t) ∧
         (a.kind ≠ 0 →
           (∀ w ∈ a.words, ∀ k, k < 64 → w.2.1.testBit k = true →
             (t.bankWord a.bank w.1).getLsbD k = (if a.kind = 1 then w.2.2.testBit k
               else if a.kind = 2 then (s.bankWord a.bank w.1).getLsbD k || w.2.2.testBit k
               else (s.bankWord a.bank w.1).getLsbD k && !w.2.2.testBit k)) ∧
           (∀ b off k, k < 64 →
             (∀ w ∈ a.words, bankKey b off = bankKey a.bank w.1 → w.2.1.testBit k = false) →
             (t.bankWord b off).getLsbD k = (s.bankWord b off).getLsbD k))) ∧
       (∀ b off, t.bankErrAt b off = s.bankErrAt b off) ∧
       (∀ c d, mStart x y.m = some (c, d) → ((t.eng e).chan c).queue = (x.chan c).queue ++ [d]) ∧
       (mStart x y.m = none → (t.eng e).sc0 = x.sc0 ∧ (t.eng e).sc1 = x.sc1) ∧ EngineOnly e s t)

/-- What a step with a C operation computes and where the engine goes on (R138, R155, R156, R157, R158, R159, R163,
R164, R166). A step of plan code without a fault whose bundle holds a C operation (or NOP) takes one step. Scalar,
compare, predicate, RDLC, RDSYS, ADDI, LIL and LIH results are in flight with latency 1, and the engine goes on at
the next bundle. A taken BR issues the next bundle, its delay slot, and then goes to TARGET. LOOPI and LOOPS with a
count push a level starting at the next bundle, with count 0 they go on after END. At the end of the innermost loop
the engine returns to its start while passes remain and otherwise leaves it. An executed FENCE with a busy channel
of its mask stops in FENCE, and has no effect otherwise. LAPMARK remembers its VGRP and address and stops in SAVE,
or in FENCE while a channel is busy. OWOPEN opens its window with 16·BUDGET16 − 1 steps left, the plan's loop levels
set aside and plan code to resume after it. FEND makes the engine IDLE with no loop level and reports the frame's
padding steps. -/
def Obligations.ControlOpsIssue : Prop :=
  ∀ (e : Nat) (y : Syls) (i : Instr) (s : State), s.Issues e y → ctlCmd e y.c = some i →
    ∃ t, exec i s = .next t ∧
      (let x := s.atStep e
       let nxt := (x.pc + 1) % 8192
       let plain : Prop := x.branch = none ∧ ∀ l ∈ x.loops, l.end_ ≠ x.pc
       (t.eng e).step = x.step + 1 ∧ EngineOnly e s t ∧ (mAccess x y.m = none → MemKept s t) ∧
       ((∀ win n, y.c ≠ .owopen win n) → y.c ≠ .fend →
         ∀ q ∈ cPend x x.step (s.rdsys e) y.c, q ∈ (t.eng e).pend ∧ q.land = x.step + 1) ∧
       ((∀ g, y.c ≠ .lapmark g) → (∀ pr m, y.c ≠ .fence pr m) → (∀ win n, y.c ≠ .owopen win n) → y.c ≠ .fend →
         t.engState e = esRun) ∧
       (plain → cBranch x y.c = none → cLoop x y.c = none → (t.eng e).pc = nxt) ∧
       (∀ f, y.c = .flow .br f → (x.rp f.pr).testBit 0 = true → plain →
         (t.eng e).pc = nxt ∧ (t.eng e).branch = some f.target ∧ (t.eng e).inDelay = true) ∧
       (∀ target, x.branch = some target → y.c ≠ .fend → (t.eng e).pc = target ∧ (t.eng e).branch = none) ∧
       (∀ n en, cLoop x y.c = some (n, en) → plain →
         if n = 0 then (t.eng e).pc = (en + 1) % 8192 ∧ (t.eng e).loops = x.loops
         else (t.eng e).pc = nxt ∧ (t.eng e).loops = ⟨nxt, en, n⟩ :: x.loops) ∧
       (∀ l tl, x.loops = l :: tl → l.end_ = x.pc → x.branch = none → cBranch x y.c = none → cLoop x y.c = none →
         y.c ≠ .fend → (∀ win n, y.c ≠ .owopen win n) →
         if 2 ≤ l.count then (t.eng e).pc = l.start ∧ (t.eng e).loops = { l with count := l.count - 1 } :: tl
         else (t.eng e).pc = nxt ∧ (t.eng e).loops = tl) ∧
       (∀ pr m, y.c = .fence pr m → mStart x y.m = none →
         if (x.rp pr).testBit 0 = true ∧ x.chansBusy m = true then t.engState e = esFence ∧ (t.eng e).fenceMask = m
         else t.engState e = esRun) ∧
       (∀ g, y.c = .lapmark g → mStart x y.m = none →
         (t.eng e).mark = some (g, x.pc) ∧ t.engState e = if x.chansBusy 3 then esFence else esSave) ∧
       (∀ win n, y.c = .owopen win n → plain →
         t.engState e = esWindow ∧ (t.eng e).window = some ⟨win, 16 * n - 1, x.loops, nxt, none, true⟩ ∧
         (t.eng e).loops = []) ∧
       (y.c = .fend → t.engState e = esIdle ∧ (t.eng e).loops = [] ∧ (t.eng e).atFend = false ∧
         t.fld (ENG_PAD_STEPS_COUNT.inst e) = x.padFrame % 2 ^ 32))

/-- The commands of one bundle are the same step, an opcode not listed is a fault, and KEND ends its kernel (R129,
R141, R142, R165, R167, R168, R242). NOP in a slot, and every operation of a bundle, are commands of the one step
that issues the bundle: each answers the same next state. A bundle of plan code with an opcode not listed for its
slot makes the engine FAULTED with FAULT_INFO code ILLEGAL_OP (the lowest code), the bundle's address and the first
such slot, FAULT_LAP and FAULT_FRAME the lap and frame in progress; BLOCK_FAULT is set, a report goes to the lap
watch, no step is counted and no memory changes. KEND in a kernel ends it: the RESULT read from S24 at that step
goes to the scheduler, the window goes on without a kernel with one step less, and the engine stays in WINDOW. Any
step of an engine touches nothing but what an engine step may touch. -/
def Obligations.OneBundleOneStep : Prop :=
  ∀ (e : Nat) (s : State),
    (∀ (y : Syls) (sl : Nat), s.Issues e y → y.nopIn sl = true →
      (∃ t, exec (.nop e sl) s = .next t ∧ (t.eng e).step = (s.atStep e).step + 1 ∧ EngineOnly e s t) ∧
      (∀ o f, y.va = .op o f → exec (vecCmd e false o f) s = exec (.nop e sl) s) ∧
      (∀ o f, y.vb = .op o f → exec (vecCmd e true o f) s = exec (.nop e sl) s) ∧
      (∀ i, memCmd e y.m = some i → exec i s = exec (.nop e sl) s) ∧
      (∀ i, ctlCmd e y.c = some i → exec i s = exec (.nop e sl) s)) ∧
    (∀ y : Syls, s.issuing e = true → (s.eng e).kernelWin = none → s.lapFull e = false → decodeBundle (s.bundleNow e) = y →
      mapGet (fun _ => 0) (s.eng e).imemErr (s.fld (ENG_SEG_MAP_SEG.inst e) * 8192 + (s.eng e).pc) = 0 →
      (y.va = .bad 1 ∨ y.vb = .bad 1 ∨ y.m = .bad 1 ∨ y.c = .bad 1) →
      ∃ t, exec (.illegalOp e) s = .next t ∧ t.engState e = esFaulted ∧ t.fld (ENG_FAULT_INFO_CODE.inst e) = 1 ∧
        t.fld (ENG_FAULT_INFO_ADDR.inst e) = (s.eng e).pc % 2 ^ 13 ∧
        t.fld (ENG_FAULT_INFO_SLOT.inst e) =
          (if y.va = .bad 1 then 0 else if y.vb = .bad 1 then 1 else if y.m = .bad 1 then 2 else 3) ∧
        t.fld (ENG_FAULT_LAP_LAP.inst e) = s.fld (ENG_LAP_NOW_LAP.inst e) ∧
        t.fld (ENG_FAULT_FRAME_FRAME_LO.inst e) = s.fld (ENG_FRAME_NOW_FRAME_LO.inst e) ∧
        (t.reg (regKey (0x10 + e) 0x010)).getLsbD 6 = true ∧
        t.plan.reports = s.plan.reports ++ [(e, 1, s.fld (ENG_LAP_NOW_LAP.inst e))] ∧
        t.pair (ENG_STEPS_LO_COUNT.inst e) (ENG_STEPS_HI_COUNT.inst e) =
          s.pair (ENG_STEPS_LO_COUNT.inst e) (ENG_STEPS_HI_COUNT.inst e) ∧
        MemKept s t ∧ EngineOnly e s t) ∧
    (∀ (y : Syls) (w : Window) (k : Kernel), s.issuing e = true → (s.eng e).kernelWin = some (w, k) →
      s.lapFull e = false → decodeBundle (s.bundleNow e) = y → y.c = .kend →
      mapGet (fun _ => 0) (s.eng e).imemErr (s.fld (ENG_SEG_MAP_SEG.inst e) * 8192 + (s.eng e).pc) = 0 →
      (let x := s.atStep e
       (bundleFault x y 0 true true).1 = 0 → mAccess x y.m = none →
       kernelOk (vPend x x.step 0 y.va ++ vPend x x.step 1 y.vb ++ mPend x x.step y.m []) y = true →
       ∃ t, exec (.kend e) s = .next t ∧ (t.eng e).window = some { w with left := w.left - 1, kernel := none, asked := true } ∧
         t.sched.done = s.sched.done ++ [(s.engSlot e, x.rs 24 % 2 ^ 16)] ∧ t.engState e = s.engState e ∧
         (t.eng e).loops = [] ∧ MemKept s t ∧ EngineOnly e s t)) ∧
    (∀ (p : Syls → Bool), EngineOnly e s (s.engStep e p))

/-- Saving a lap, releasing a fence, ending a window, padding, overrunning, completing a descriptor, reading code
(R134, R154, R159, R160, R161, R162, R163, R164, R170, R177). LAP_SAVE with both channels drained, good registers,
room left and no row of the record in a borrowed segment writes the save record at the lap's save address (its
header words, the S registers and the V registers of the saved groups, read with every result landed), counts its
steps and pads; a save that uses the lap's count exactly hands the lap's mark, with its frame, to the lap watch.
FENCE_RELEASE resumes the engine when no channel of the mask is busy. WINDOW_END at a spent budget, with no stream
task of the slot in progress, brings back the plan's loop levels and resumes after OWOPEN. PAD_STEP counts one step
of padding in a lap or a window. A step beyond the lap's declared count is the fault LAP_OVERRUN at that bundle.
DESCRIPTOR_COMPLETE of a descriptor that meets no borrowed segment takes it off its channel and, for a transfer of
one 64-byte burst of good words into a bank that admits it and where no write of the engine meets it, leaves the
bank row equal to the DRAM bytes. A served IMEM_DATA_READ answers the bundle's low word where it is allowed and 0
where it is not. -/
def Obligations.LapFenceWindowCommands : Prop :=
  ∀ (e : Nat) (s : State), e < 10 →
    (∀ g addr, (s.eng e).mark = some (g, addr) → s.engState e = esSave ∨ s.engState e = esFence →
      (s.eng e).chansBusy 3 = false → (∀ b ∈ (s.eng e).banks, b.bank < 32) →
      (s.eng e).flush.parity = [] → s.saveStalls (s.saveAddr e (s.fld (ENG_LAP_NOW_LAP.inst e))) g = none →
      (let lap := s.fld (ENG_LAP_NOW_LAP.inst e)
       let a := s.saveAddr e lap
       let bank := natBits a 18 5
       let base := natBits a 0 18
       let n := 7 + 8 * vgrpCount g
       let used := s.fld (ENG_STEP_IN_LAP_STEPS.inst e)
       let x := (s.eng e).flush
       s.admits bank (.eng (s.engSlot e)) = true → used + n ≤ s.lapSteps e →
       ∃ t, exec (.lapSave e) s = .next t ∧ (t.eng e).mark = none ∧
         (used + n < s.lapSteps e → t.engState e = esPad ∧ t.fld (ENG_STEP_IN_LAP_STEPS.inst e) = (used + n) % 2 ^ 13) ∧
         (used + n = s.lapSteps e → t.plan.notices = s.plan.notices ++ [(s.engSlot e, lap, s.fld (ENG_FRAME_NOW_FRAME_LO.inst e))]) ∧
         (∀ row ∈ [0, 3], t.bankWord bank (base + 64 * row) =
           BitVec.ofNat 64 (s.fld (ENG_FRAME_NOW_FRAME_LO.inst e) % 2 ^ 32 + lap * 2 ^ 32 + g * 2 ^ 45)) ∧
         (∀ j, j < 8 → t.bankWord bank (base + 64 + 8 * j) = BitVec.ofNat 64 (x.rs (2 * j) + x.rs (2 * j + 1) * 2 ^ 32)) ∧
         (∀ r j, r < 64 → g.testBit (r / 8) = true → j < 8 →
           t.bankWord bank (base + 64 * (4 + r) + 8 * j) = BitVec.ofNat 64 (natBits (x.rv r) (64 * j) 64)) ∧
         (∀ b off, b ≠ bank → t.bankWord b off = s.bankWord b off) ∧ t.dram = s.dram ∧ t.nvm = s.nvm ∧ EngineOnly e s t)) ∧
    (s.engState e = esFence → (s.eng e).mark = none → (s.eng e).stripeWait = false →
      (s.eng e).chansBusy (s.eng e).fenceMask = false →
      ∃ t, exec (.fenceRelease e) s = .next t ∧ t.engState e = esRun ∧ (t.eng e).fenceMask = 0 ∧
        RegsKept (fun k => k == (ENG_STATUS_STATE.inst e).key) s t ∧ MemKept s t ∧ EngineOnly e s t) ∧
    (∀ w, (s.eng e).window = some w → s.engState e = esWindow → w.left = 0 →
      (∀ j, j < 2 → s.scTask (8 + 2 * s.engSlot e + j) = none) → ∃ t, exec (.windowEnd e) s = .next t ∧ t.engState e = esRun ∧ (t.eng e).window = none ∧ (t.eng e).loops = w.loops ∧
        (t.eng e).pc = w.resume ∧ (∀ q ∈ (t.eng e).pend, (s.eng e).step + 4 < q.land) ∧
        RegsKept (fun k => k == (ENG_STATUS_STATE.inst e).key) s t ∧ MemKept s t ∧ EngineOnly e s t) ∧
    (let used := s.fld (ENG_STEP_IN_LAP_STEPS.inst e)
     used + 1 < s.lapSteps e → used + 1 < 2 ^ 13 →
     (s.engState e = esPad → (s.eng e).atFend = false →
       ∃ t, exec (.padStep e) s = .next t ∧ t.engState e = esPad ∧ t.fld (ENG_STEP_IN_LAP_STEPS.inst e) = used + 1 ∧
         (t.eng e).padFrame = (s.eng e).padFrame + 1 ∧ (t.eng e).step = (s.eng e).step + 1 ∧ MemKept s t ∧ EngineOnly e s t) ∧
     (∀ w, (s.eng e).window = some w → s.engState e = esWindow → w.kernel = none → 0 < w.left →
       ∃ t, exec (.padStep e) s = .next t ∧ t.engState e = esWindow ∧ t.fld (ENG_STEP_IN_LAP_STEPS.inst e) = used + 1 ∧
         (t.eng e).window = some { w with left := w.left - 1 } ∧ (t.eng e).padFrame = (s.eng e).padFrame + 1 ∧
         MemKept s t ∧ EngineOnly e s t)) ∧
    (s.issuing e = true → s.lapFull e = true →
      ∃ t, exec (.lapOverrun e) s = .next t ∧ t.engState e = esFaulted ∧ t.fld (ENG_FAULT_INFO_CODE.inst e) = 11 ∧
        t.fld (ENG_FAULT_INFO_ADDR.inst e) = (s.eng e).pc % 2 ^ 13 ∧
        (t.reg (regKey (0x10 + e) 0x010)).getLsbD 6 = true ∧ MemKept s t ∧ EngineOnly e s t) ∧
    (∀ c d tl, c < 2 → ((s.eng e).chan c).queue = d :: tl →
      (∀ num dd, (s.eng e).descNow c = some (num, dd) → s.descStalls (s.fld (ENG_FRAME_NOW_FRAME_LO.inst e)) dd = none) →
      ∃ t, exec (.descriptorComplete e c) s = .next t ∧ (t.eng e).chan c = ⟨tl, d⟩ ∧
        (∀ tab l dd, (s.eng e).tab = some tab → tab.desc = some l → l[d]? = some dd → dd.rows = 1 → dd.rowLen = 1 →
          dd.toDram = false → dd.baseSel = 0 → dd.dram % 64 = 0 → dd.bank % 64 = 0 →
          s.admits (natBits dd.bank 18 5) (.chan (s.engSlot e) c) = true → s.inDram dd.dram 64 = true →
          (∀ i, i < 8 → s.dramErrAt (dd.dram + 8 * i) = 0 ∧
            s.portE (natBits dd.bank 18 5) (natBits dd.bank 0 18 + 8 * i) ≠ some true) →
          (∀ i, i < 8 → t.bankWord (natBits dd.bank 18 5) (natBits dd.bank 0 18 + 8 * i) =
            BitVec.ofNat 64 (s.dramWord (dd.dram + 8 * i))) ∧ t.dram = s.dram ∧
          (∀ b off, b ≠ natBits dd.bank 18 5 → t.bankWord b off = s.bankWord b off))) ∧
    (∀ q, s.gate q (0x10 + e) = .served →
      ∃ t, exec (.imemDataRead q e) s = .next t ∧
        (let may : Prop := (s.engState e = esIdle ∨ s.engState e = esFaulted ∨ 2 ≤ s.fld (ENG_STATUS_ROLE.inst e)) ∧
           s.bit (ENG_CTRL_IMEM_RD_EN.inst e) = true
         let b := mapGet (fun _ => (0 : Bundle)) (s.eng e).imem (s.fld (ENG_IMEM_ADDR_ADDR.inst e))
         (may → t.out = s.out ++ [.data q [b.extractLsb' 0 32]] ∧
           ∀ k, k < 4 → t.fld ((ENG_IMEM_DATA_DATA.inst e).nth k) = natBits b.toNat (32 * k) 32) ∧
         (¬ may → t.out = s.out ++ [.data q [0]] ∧ t.regs = s.regs)) ∧
        MemKept s t ∧ EngineOnly e s t)

/-- A load is checked, staged, refused or aborted as the loader's order says (R171, R189, R190, R198). A served,
accepted write of LOAD_CMD with LOAD starts a load of IMAGE_ADDR where none is in progress or ABORT is set with it:
CHECKING, REASON NONE, SECTION 0, a staged plan discarded; over a load in progress it only raises LOAD_REFUSED with
BUSY. ABORT stops a load in progress, which reads ABORTED, and has no effect otherwise. At the end of checking, an
image of good words in usable DRAM goes on to STAGING where no rule, no admission and no missing spare segment
refuses it, and is otherwise REFUSED with the reason, and the directory index of the failing section, of the first
failure; a misaligned address is refused with DRAM. At the end of staging the plan is STAGED with its identity,
LOAD_DONE is set, and the code of each slot that is not LOST lies in the spare segment of the engine serving it
(said for a load at whose end no borrow is in progress in a bank the plan names). A staged slot's code that a take-
over displaced is written again to the engine now serving it. No memory changes. -/
def Obligations.PlanLoadsCheckAndStage : Prop :=
  ∀ s : State,
    (∀ (q : Req) (v : Word), s.gate q 4 = .served → s.mayWrite q 4 = true → v.getLsbD 0 = true →
      (s.plan.loading = none ∨ v.getLsbD 1 = true →
        ∃ t, exec (.planLoad q v) s = .next t ∧ t.fld PLAN_LOAD_STATUS_STATE = 1 ∧ t.fld PLAN_LOAD_STATUS_REASON = 0 ∧
          t.fld PLAN_LOAD_STATUS_SECTION = 0 ∧ t.bit PLAN_LOAD_STATUS_FITS_WORST = false ∧
          t.plan.loading = some (s.imageAddr, false) ∧ t.plan.stopOk = v.getLsbD 2 ∧
          (s.plan.loading = none → s.fld PLAN_LOAD_STATUS_STATE = 3 → t.plan.staged = none ∧ t.fld PLAN_STAGED_ID_ID = 0) ∧
          t.plan.active = s.plan.active ∧ MemKept s t) ∧
      (s.plan.loading ≠ none → v.getLsbD 1 = false →
        exec (.planLoad q v) s = .next ((s.countWrite 4).raise 4 9 (18 + 255 * 2 ^ 5)))) ∧
    (∀ (q : Req) (v : Word), s.gate q 4 = .served → s.mayWrite q 4 = true → v.getLsbD 0 = false → v.getLsbD 1 = true →
      (s.plan.loading = none → exec (.planAbort q v) s = .next (s.countWrite 4)) ∧
      (s.plan.loading ≠ none → ∃ t, exec (.planAbort q v) s = .next t ∧ t.fld PLAN_LOAD_STATUS_STATE = 5 ∧
        t.plan = { s.plan with loading := none, checked := none } ∧ t = { s with regs := t.regs, plan := t.plan })) ∧
    (∀ a, s.plan.loading = some (a, false) →
      (a % 64 ≠ 0 → ∃ t, exec .loadCheckEnd s = .next t ∧ t.fld PLAN_LOAD_STATUS_STATE = 4 ∧
        t.fld PLAN_LOAD_STATUS_REASON = 19 ∧ t.fld PLAN_LOAD_STATUS_SECTION = 255 ∧ t.plan.loading = none ∧
        (t.reg (regKey 4 0x010)).getLsbD 9 = true ∧ MemKept s t) ∧
      (let h := s.dramBytes a 128
       let b := s.dramBytes a (hSize h)
       let p := tabsOf b
       a % 64 = 0 → s.inDram a (max 128 (hSize h)) = true → hDegrade h ≤ 15 →
       headerFault h (s.fld SYS_SILICON_REV_BASE_REV) (s.fld SYS_SILICON_REV_METAL_REV) = none →
       (∀ k, a ≤ k → k < a + max 128 (hSize h) → s.dramErrAt k = 0) →
       ∃ t, exec .loadCheckEnd s = .next t ∧ MemKept s t ∧ t.plan.staged = s.plan.staged ∧
         (match s.imageFault b with
          | some f => t.fld PLAN_LOAD_STATUS_STATE = 4 ∧ t.fld PLAN_LOAD_STATUS_REASON = f.1 % 32 ∧
              t.fld PLAN_LOAD_STATUS_SECTION = f.2 % 256 ∧ t.plan.loading = none ∧ (t.reg (regKey 4 0x010)).getLsbD 9 = true
          | none =>
            if p.margin s.rate p.degrade s.tAdm < 0 then
              t.fld PLAN_LOAD_STATUS_STATE = 4 ∧ t.fld PLAN_LOAD_STATUS_REASON = 16 ∧ t.plan.loading = none
            else if s.seamless = false ∧ s.plan.stopOk = false then
              t.fld PLAN_LOAD_STATUS_STATE = 4 ∧ t.fld PLAN_LOAD_STATUS_REASON = 17 ∧ t.plan.loading = none
            else t.fld PLAN_LOAD_STATUS_STATE = 2 ∧ t.plan.loading = some (a, true) ∧ t.plan.checked = some p ∧
              (t.bit PLAN_LOAD_STATUS_FITS_WORST = true ↔ 0 ≤ p.margin s.rate p.degrade 1600)))) ∧
    (∀ a p, s.plan.loading = some (a, true) → s.plan.checked = some p → s.groom.segCorr = [] →
      (∀ b ∈ p.bankList, (s.bank b).borrow = none) →
      (∀ k, a ≤ k → k < a + max 128 (hSize (s.dramBytes a 128)) → s.dramErrAt k = 0) →
      ∃ t, exec .loadDone s = .next t ∧ t.fld PLAN_LOAD_STATUS_STATE = 3 ∧ t.plan.staged = some p ∧ t.plan.loading = none ∧
        t.fld PLAN_STAGED_ID_ID = p.id % 2 ^ 32 ∧ (t.reg (regKey 4 0x010)).getLsbD 8 = true ∧ MemKept s t ∧
        ((∀ i j, i < p.slots.length → j < p.slots.length → s.slotEngine i = s.slotEngine j → i = j) →
          ∀ k tab seg i, p.slots[k]? = some tab → s.slotState k ≠ ssLost → s.spareSeg (s.slotEngine k) = some seg → i < 8192 → i < tab.code.length →
            some (mapGet (fun _ => (0 : Bundle)) (t.eng (s.slotEngine k)).imem (seg * 8192 + i)) = tab.code[i]?)) ∧
    (∀ k p tab seg, k ∈ s.plan.copyDue → s.plan.staged = some p → p.slots[k]? = some tab →
      (List.range 4).find? (fun g => g != k % 4 && (s.fld (ENG_SEG_MAP_SEG_OK.inst (s.slotEngine k))).testBit g) = some seg →
      ∃ t, exec (.stagedCodeCopy k) s = .next t ∧ k ∉ t.plan.copyDue ∧ (k, seg) ∈ t.plan.stagedSeg ∧
        (∀ i, i < 8192 → i < tab.code.length →
          some (mapGet (fun _ => (0 : Bundle)) (t.eng (s.slotEngine k)).imem (seg * 8192 + i)) = tab.code[i]?) ∧
        t = { s with engs := t.engs, plan := t.plan })

/-- A plan frame starts as admission decides, stripes and notices follow (R196, R197, R198, R199, R201, R202, R204,
R209). A frame that is due starts once no commit due at its transit is outstanding (in STRIPE at its stripe-0
instant). Admission sheds as many levels as the frame needs; a frame that still does not fit is skipped: no engine
starts, FRAMES_SKIPPED counts, FRAME_SKIPPED is set and the frame is kept with what was shed. A frame that runs
reports the largest need and the margin for the levels shed; every frame start reports the step time and avail.
Shedding ends at the first count that fits, or with every level shed. A stripe instant of the running frame that has
come, whether or not the next frame is due, lets the engines waiting for that stripe go on. A lap mark's notice is
taken off the list: where it is of the frame the slot is in, the slot's watch moves to the next lap that runs, due
one lap term later; one of another frame moves no watch. -/
def Obligations.FrameStartsAdmitted : Prop :=
  ∀ s : State,
    (∀ f p, s.plan.frameDue = some f → s.plan.active = some p → s.armed 2 = false → s.armed 4 = false →
      s.inRecovery = false → p.stripe = false → s.groom.returned = [] → s.plan.stopWriting = false →
      (∀ b ∈ p.banks, b.bank < 32) → (∀ b ∈ s.plan.oldBanks, b < 32) →
      (let a := admitFrame p s.rate s.tAdm (min s.plan.shed p.degrade) s.plan.ok (min (s.act PLAN_SHED_MIN_LEVELS) p.degrade)
         (s.fld PLAN_MARGIN_CFG_RESTORE_PCT) (s.fld PLAN_MARGIN_CFG_RESTORE_FRAMES)
       exec .planFrameStart s = .next (s.frameStart f p) ∧
       (a.1 = true → ∃ t, exec .planFrameStart s = .next t ∧ p.margin s.rate a.2.1 s.tAdm < 0 ∧ t.engs = s.engs ∧
         t.fld PLAN_T_ADM_PS_PS = s.tAdm % 2 ^ 16 ∧ t.fld PLAN_AVAIL_NS_NS = intBits 32 (p.avail s.rate / 1000) ∧
         t.fld PLAN_FRAMES_SKIPPED_COUNT = (s.fld PLAN_FRAMES_SKIPPED_COUNT + 1) % 2 ^ 32 ∧
         (t.reg (regKey 4 0x010)).getLsbD 14 = true ∧ t.plan.frameDue = none ∧ t.plan.shed = a.2.1 ∧
         (t.plan.frames.getLast?).map (fun r => (r.n, r.skipped, r.shed)) = some (f, true, a.2.1) ∧ MemKept s t) ∧
       (a.1 = false → s.plan.reports = [] → s.plan.heldFaults = [] → ∃ t, exec .planFrameStart s = .next t ∧ 0 ≤ p.margin s.rate a.2.1 s.tAdm ∧
         t.fld PLAN_T_ADM_PS_PS = s.tAdm % 2 ^ 16 ∧ t.fld PLAN_AVAIL_NS_NS = intBits 32 (p.avail s.rate / 1000) ∧
         t.fld PLAN_NEED_NS_NS = ((p.crit a.2.1 s.tAdm).2.2 + 999) / 1000 % 2 ^ 32 ∧
         t.fld PLAN_MARGIN_NS_NS = intBits 32 (p.margin s.rate a.2.1 s.tAdm / 1000) ∧ t.plan.shed = a.2.1 ∧
         t.plan.frameDue = none ∧
         (t.plan.frames.getLast?).map (fun r => (r.n, r.skipped, r.shed)) = some (f, false, a.2.1)))) ∧
    (∀ (p : PlanTabs) (rate : Nat × Nat) (t sh n : Nat), p.degrade ≤ sh + n →
      (let r := p.shedFor rate t sh n
       sh ≤ r ∧ (sh ≤ p.degrade → r ≤ p.degrade) ∧ (r < p.degrade → 0 ≤ p.margin rate r t) ∧
       ∀ k, sh ≤ k → k < r → p.margin rate k t < 0)) ∧
    (∀ f q, s.runningFrame = some f → f.plan.stripe = true → q ≠ 0 → s.plan.stripeNext ≤ q →
      q < f.plan.stripes → s.stripeAt f.plan (f.n - 1) q ≤ s.time.now →
      ∃ t, exec (.stripeInstant q) s = .next t ∧ t.plan.stripeNext = q + 1 ∧
        (∀ e tab, e < 10 → (s.eng e).stripeWait = true → s.engState e = esFence → (s.eng e).tab = some tab →
          stripeOf tab (s.fld (ENG_LAP_NOW_LAP.inst e)) ≤ q → t.engState e = esRun ∧ (t.eng e).stripeWait = false) ∧
        (∀ e, (s.eng e).stripeWait = false → t.eng e = s.eng e ∧ (e < 10 → t.engState e = s.engState e)) ∧ MemKept s t) ∧
    (∀ p q, s.plan.active = some p → p.stripe = true → s.plan.frameDue = none → q = 0 →
      exec (.stripeInstant q) s = .next s) ∧
    (∀ k lap fr tl, s.plan.notices = (k, lap, fr) :: tl → s.fld (ENG_FRAME_NOW_FRAME_LO.inst (s.slotEngine k)) ≠ fr →
      ∃ t, exec .lapMarkNotice s = .next t ∧ t.plan.notices = tl ∧ (∀ j, t.watch j = s.watch j) ∧ t = { s with plan := t.plan }) ∧
    (∀ k lap fr tl tab n l, s.plan.notices = (k, lap, fr) :: tl → s.slotState k ≠ ssLost →
      s.fld (ENG_FRAME_NOW_FRAME_LO.inst (s.slotEngine k)) = fr → s.slotTab k = some tab →
      nextLap tab (s.eng (s.slotEngine k)).shed (lap + 1) = some n → tab.laps[n]? = some l →
      ∃ t, exec .lapMarkNotice s = .next t ∧ t.plan.notices = tl ∧
        (let step := match s.plan.maxSample with | some m => max m s.plan.t | none => s.plan.t
         t.watch k = ⟨n, s.monoPs + (l.steps * step + l.fence * 10000), (s.watch k).lifted, true⟩) ∧
        (∀ j, j ≠ k → t.watch j = s.watch j) ∧ t = { s with plan := t.plan })

/-- A faulted, stalled or late engine is taken over, and its reserve resumes from the save record (R204, R206,
R208). A fault report of an engine serving a slot, a slot whose engine has issued nothing for 2 µs outside FENCE,
SAVE, IDLE and FAULTED, and a due instant passed with the engine outside FENCE, call the take-over of the slot with
its cause; a due instant passed in FENCE only counts and lifts the dues for the frame. With the group's reserve
available the slot is TAKEN: its engine is RETIRED with no descriptor outstanding, and the reserve serves the slot
and is RESUMING; without one the slot is LOST; while the reserves are not loaded again after a switch it is LOST and
the fault is held. RESTORE_DONE then counts the take-over and the reserve goes on: with a record, its P and S
registers read the record's words; with none it starts at the entry. -/
def Obligations.SlotsTakenOver : Prop :=
  ∀ s : State,
    (∀ e code lap tl, s.plan.reports = (e, code, lap) :: tl → s.role e = roleIn → s.slotEngine (s.engSlot e) = e →
      exec .faultReport s = .next ((s.modPlan fun q => { q with reports := tl }).takeOver (s.engSlot e) code)) ∧
    (∀ k, (s.slotState k = ssRun ∨ s.slotState k = ssTaken) → s.engState (s.slotEngine k) ∉ [esFence, esSave, esIdle, esFaulted] →
      (s.eng (s.slotEngine k)).lastIssue + 2000 * 65536 ≤ s.time.mono →
      exec (.stallDetect k) s = .next (s.takeOver k 0x10)) ∧
    (∀ k, (s.watch k).active = true → (s.watch k).due ≤ s.monoPs → s.slotState k ≠ ssLost → (s.watch k).lifted = false →
      (s.engState (s.slotEngine k) ≠ esFence → exec (.lapDue k) s = .next (s.takeOver k 0x11)) ∧
      (s.engState (s.slotEngine k) = esFence → ∃ t, exec (.lapDue k) s = .next t ∧
        t.fld PLAN_FENCE_LATE_COUNT_COUNT = (s.fld PLAN_FENCE_LATE_COUNT_COUNT + 1) % 2 ^ 32 ∧
        t.watch k = { s.watch k with lifted := true } ∧ (t.reg (regKey 4 0x010)).getLsbD 17 = true ∧ t.engs = s.engs ∧
        MemKept s t)) ∧
    (∀ k cause, k < 8 → s.slotEngine k < 10 → s.bit PLAN_STATUS_RESHADOW_PENDING = false →
      (∀ p ∈ s.sched.running, p.2 < 256) →
      (let e := s.slotEngine k
       (∀ r, r < 10 → r ≠ e → s.reserveOf (k / 4) = some r →
         (let t := s.takeOver k cause
          t.slotEngine k = r ∧ t.slotState k = ssTaken ∧ t.role e = roleRetired ∧ t.role r = roleIn ∧ t.engSlot r = k ∧
          t.engState r = esResuming ∧ (t.eng e).sc0.queue = [] ∧ (t.eng e).sc1.queue = [] ∧
          (∃ a, (r, e, cause, a) ∈ t.plan.restoring))) ∧
       (s.reserveOf (k / 4) = none →
         (let t := s.takeOver k cause
          t.slotState k = ssLost ∧ t.role e = roleRetired ∧ (t.reg (regKey 4 0x010)).getLsbD 16 = true ∧
          (t.eng e).sc0.queue = [] ∧ (t.eng e).sc1.queue = [])))) ∧
    (∀ k cause r, k < 8 → s.slotEngine k < 10 → s.bit PLAN_STATUS_RESHADOW_PENDING = true → s.reserveOf (k / 4) = some r →
      (∀ p ∈ s.sched.running, p.2 < 256) →
      (let t := s.takeOver k cause
       t.slotState k = ssLost ∧ t.role (s.slotEngine k) = roleRetired ∧ (k, cause) ∈ t.plan.heldFaults)) ∧
    (∀ e code lap tl, s.plan.reports = (e, code, lap) :: tl → (s.role e ≠ roleIn ∨ s.slotEngine (s.engSlot e) ≠ e) →
      exec .faultReport s = .next (s.modPlan fun q => { q with reports := tl })) ∧
    (∀ r old cause rec, r < 10 → s.plan.restoring.find? (fun x => x.1 == r) = some (r, old, cause, rec) →
      s.engState r = esResuming →
      ∃ t, exec (.restoreDone r) s = .next t ∧ (t.engState r = esRun ∨ t.engState r = esFence) ∧
        t.fld PLAN_TAKEOVERS_COUNT = (s.fld PLAN_TAKEOVERS_COUNT + 1) % 2 ^ 32 ∧
        (t.reg (regKey 4 0x010)).getLsbD 15 = true ∧ (∀ x ∈ t.plan.restoring, x.1 ≠ r) ∧
        (∀ a, rec = some a →
          (let b := natBits a 18 5
           let base := natBits a 0 18
           (∀ k, k < 24 → s.bankErrAt b (base + 8 * k) = 0) →
           (∀ n, 0 < n → n < 32 → (t.eng r).rs n = natBits (s.bankWord b (base + 64 + 8 * (n / 2))).toNat (32 * (n % 2)) 32) ∧
           (∀ n, 0 < n → n < 8 → (t.eng r).rp n = natBits (s.bankWord b (base + 32 + 8 * (n / 2))).toNat (32 * (n % 2)) 32))) ∧
        (∀ tab, rec = none → (s.eng r).tab = some tab → nextLap tab (s.eng r).shed 0 = some 0 → (t.eng r).pc = tab.entry))

/-- The speed monitor's registers, the reserves after a switch and a stop-mode write (R126, R173, R192, R194, R195,
R196). After a sample interval LIVE_PS of each engine reads the greater of its replica step time and, from 1,024
steps on, its measured one; T_ADM_PS is the greater of the worst sample under GUARD, rounded up to a whole ps, and
CORNER_PS, and STATUS.CORNER says which; CORNER_PS, WORST_PS and VDDC_MV follow the window's samples, and no memory
changes. RESHADOWED ends the span after a switch: the reserve of each group holds in segment j the code of slot
4·group + j, and RESHADOW_PENDING reads 0. STOP_MODE_WRITE_DONE ends a stop-mode switch: a plan that was in its STOP
state is RUNNING, nothing is left to write, and each slot whose code was due to be written has it in the segment in
use of its engine. -/
def Obligations.SpeedAndReservesFollow : Prop :=
  ∀ s : State,
    (∀ (xs : List SpeedIn) (mv : Nat), ∃ t, exec (.speedSample xs mv) s = .next t ∧
      (∀ n x, n < 10 → xs[n]? = some x → t.fld (SPEED_LIVE_PS_PS.nth n) =
        max (if 1024 ≤ x.steps then x.issuingPs / x.steps else 0) x.replicaPs % 2 ^ 16) ∧
      (let g := (t.fld SPEED_WORST_PS_PS * t.fld SPEED_GUARD_GUARD + 63) / 64
       t.fld SPEED_T_ADM_PS_PS = max g (t.fld SPEED_CORNER_PS_PS) % 2 ^ 16 ∧
       (t.bit SPEED_STATUS_CORNER = true ↔ g < t.fld SPEED_CORNER_PS_PS)) ∧
      (s.plan.window = [] → t.fld SPEED_VDDC_MV_MV = mv % 2 ^ 16 ∧
        t.fld SPEED_CORNER_PS_PS = cornerPs mv (s.tjNow.getD 0) % 2 ^ 16) ∧ MemKept s t ∧ t.engs = s.engs) ∧
    (s.bit PLAN_STATUS_RESHADOW_PENDING = true →
      ∃ t, exec .reshadowed s = .next t ∧ t.bit PLAN_STATUS_RESHADOW_PENDING = false ∧
        (t.reg (regKey 4 0x010)).getLsbD 21 = true ∧
        (s.reserveOf 0 ≠ s.reserveOf 1 → (∀ g e, s.reserveOf g = some e → e < 10) → ∀ g j p e tab i, g < 2 → j < 4 →
          s.plan.active = some p → s.reserveOf g = some e → p.slots[4 * g + j]? = some tab → i < 8192 → i < tab.code.length →
          some (mapGet (fun _ => (0 : Bundle)) (t.eng e).imem (j * 8192 + i)) = tab.code[i]?) ∧
        t = { s with regs := t.regs, recQ := t.recQ, out := t.out, engs := t.engs }) ∧
    (∀ p, s.plan.stopWriting = true → s.plan.active = some p →
      ∃ t, exec .stopModeWriteDone s = .next t ∧ t.plan = { s.plan with stopWriting := false, writeDue := [] } ∧
        t.fld PLAN_STATUS_STATE = (if s.fld PLAN_STATUS_STATE = 3 then 1 else s.fld PLAN_STATUS_STATE) ∧
        ((∀ i j, i < p.slots.length → j < p.slots.length → s.slotEngine i = s.slotEngine j → i = j) →
          (∀ i, i < p.slots.length → s.slotEngine i < 10) →
          (∀ k ∈ s.plan.writeDue, k < p.slots.length) →
          ∀ k tab i, p.slots[k]? = some tab → k ∈ s.plan.writeDue → i < 8192 → i < tab.code.length →
          some (mapGet (fun _ => (0 : Bundle)) (t.eng (s.slotEngine k)).imem
            (s.fld (ENG_SEG_MAP_SEG.inst (s.slotEngine k)) * 8192 + i)) = tab.code[i]?) ∧
        t = { s with regs := t.regs, plan := t.plan, engs := t.engs })

/-- PCIe requests to the bank windows are checked against the owner and act on words (R213, R214, R215, R216, R219,
R221, R225, R231). A well-formed request to a segment that is not borrowed is served at once. Of a write to a bank
the host owns that meets nothing and finds good words, each 64-bit word takes its enabled bits through the window:
stored through BAR4, set through the set alias, cleared through the clear alias; every other word of every bank, and
all else, is as it was. A read of one dword answers that dword and changes nothing. A write to a bank the host does
not own, and a read without HOST_PEEK or of a bank the groomer owns, is foreign: each 64-bit word it accesses is
counted and raised, no memory changes, the read answers 0. A write of one word that meets a write of port E is
discarded, counted in WCOLL_COUNT and raised. A malformed write is discarded and counted. A request to a borrowed
segment waits, with the owner of its arrival. A read of STALL_MAX_NS answers the longest stall and clears it. -/
def Obligations.HostReachesOwnedBanks : Prop :=
  ∀ (r : MemReq) (k : BankOp) (s : State), s.hostGate = .served →
    (let b := natBits r.addr 18 5
     let off := natBits r.addr 0 18
     let run (m : BankMeet) : Host.Outcome State Fault Refusal := match k with
       | .plain => exec (.bar4Access r m) s
       | .setBits => exec (.setAliasWrite r m) s
       | .clearBits => exec (.clearAliasWrite r m) s
     let free : Prop := ∀ w, (s.bank b).borrow = some w → w.seg ≠ natBits r.addr 12 6
     (k = .plain → r.addr < 0x800000) → (k ≠ .plain → r.write = true) →
     (bankReqOk r = true → free →
       (r.write = true → s.owner b = 1 → (∀ w ∈ reqWords off r.be r.data, s.bankErrAt b w.1 = 0) →
         ∃ t, run ⟨[], [], false⟩ = .next t ∧
           (∀ w ∈ reqWords off r.be r.data,
             t.bankWord b w.1 = (s.bankWord b w.1 &&& ~~~w.2.1) ||| (k.apply (s.bankWord b w.1) w.2.2 &&& w.2.1)) ∧
           (∀ c o, (∀ w ∈ reqWords off r.be r.data, bankKey c o ≠ bankKey b w.1) → t.bankWord c o = s.bankWord c o) ∧
           (∀ c o, t.bankErrAt c o = s.bankErrAt c o) ∧ t = { s with bankMem := t.bankMem, bankErr := t.bankErr }) ∧
       (r.write = false → r.be.length = 1 → s.owner b = 1 → s.bankErrAt b off = 0 →
         run ⟨[], [], false⟩ = .next (s.emit (.data .pcie [(s.bankWord b off).extractLsb' (32 * (off / 4 % 2)) 32]))) ∧
       (s.owner b ≠ 1 → (r.write = false → s.bit (BANK_CTRL_HOST_PEEK.inst b) = false ∨ s.owner b = 3) →
         let n := (foreignWords r.write (reqWords off r.be r.data)).length
         ∀ m, ∃ t, run m = .next t ∧ t.fld (BANK_FOREIGN_COUNT_COUNT.inst b) = (s.fld (BANK_FOREIGN_COUNT_COUNT.inst b) + n) % 2 ^ 32 ∧
           (0 < n → (t.reg (regKey (0x20 + b) 0x010)).getLsbD 9 = true) ∧ MemKept s t ∧ Quiet s t ∧
           (r.write = false → t.out.getLast? = some (.data .pcie (r.be.map fun _ => 0)))) ∧
       (∀ w m, r.write = true → s.owner b = 1 → reqWords off r.be r.data = [w] → w.2.1 ≠ 0 → w.1 ∈ m.eWrites →
         ∃ t, run m = .next t ∧ t.fld (BANK_WCOLL_COUNT_COUNT.inst b) = (s.fld (BANK_WCOLL_COUNT_COUNT.inst b) + 1) % 2 ^ 32 ∧
           t.fld (BANK_WCOLL_ADDR_OFFSET.inst b) = w.1 / 8 * 8 ∧ (t.reg (regKey (0x20 + b) 0x010)).getLsbD 8 = true ∧
           MemKept s t ∧ Quiet s t)) ∧
     (bankReqOk r = false → r.write = true → ∀ m, run m = .next (s.badAccess r.addr)) ∧
     (∀ w m, bankReqOk r = true → (s.bank b).borrow = some w → w.seg = natBits r.addr 12 6 →
       run m = .next (s.setBank b { s.bank b with stalled := (s.bank b).stalled ++ [⟨s.time.mono, s.owner b, .host k.code r m⟩] })) ∧
     (∀ q, s.gate q (0x20 + b) = .served →
       ∃ t, exec (.stallMaxRead q b) s = .next t ∧ t.fld (BANK_STALL_MAX_NS_NS.inst b) = 0 ∧
         t.out = s.out ++ [.data q [BitVec.ofNat 32 (s.fld (BANK_STALL_MAX_NS_NS.inst b))]] ∧
         RegsKept (fun j => j == (BANK_STALL_MAX_NS_NS.inst b).key) s t ∧ t = { s with regs := t.regs, out := t.out }))

/-- Borrowing, scrubbing and sparing keep the words of a bank (R212, R229, R230, R231, R232, R233, R234, R235,
R236). A borrow of a segment copies its 512 words to the holding buffer and reports the segment, a single-bit error
met on the way being corrected; no word's data changes. The release writes them back, poisoned where they were
uncorrectable or became so, touches no other word, and ends the borrow; an access that waited is then taken, STALLED
is raised and the holdoff begins, which its own end lifts. A scrub read corrects a single-bit error, counts an
uncorrectable one, and reports the row; the word's data stays. The groomer's sparing of a row that needs it, or of a
row of a bank the groomer owns, takes a free spare, or raises BLOCK_FAULT with none left; once copied, SPARE_MAP
gives the row, the spare is used, one fewer is free, an earlier spare of the row is retired, ROW_SPARED is set, and
no data of any bank changes. -/
def Obligations.BanksAreGroomed : Prop :=
  ∀ (b : Nat) (s : State), b < 32 →
    (∀ seg, seg < 64 → s.mayBorrow b = true →
      ∃ t, exec (.borrowStart b seg) s = .next t ∧ t.fld (BANK_BORROW_SEGMENT.inst b) = seg ∧
        t.bit (BANK_BORROW_ACTIVE.inst b) = true ∧
        (∃ w, (t.bank b).borrow = some w ∧ w.seg = seg ∧
          (∀ i, i < 512 → w.buf.getD i 0 = s.bankWord b (4096 * seg + 8 * i)) ∧
          ∀ o, o ∈ w.bad ↔ (∃ i, i < 512 ∧ o = 4096 * seg + 8 * i ∧ s.bankErrAt b o = 2)) ∧
        t.bankMem = s.bankMem ∧ t.dram = s.dram ∧
        (∀ i, i < 512 → s.bankErrAt b (4096 * seg + 8 * i) = 1 → t.bankErrAt b (4096 * seg + 8 * i) = 0 ∧
          (t.reg (regKey (0x20 + b) 0x010)).getLsbD 4 = true) ∧
        ((∀ i, i < 512 → s.bankErrAt b (4096 * seg + 8 * i) = 0) →
          RegsKept (fun k => k == (BANK_BORROW_SEGMENT.inst b).key) s t ∧ t = { s with regs := t.regs, banks := t.banks })) ∧
    (∀ w bad, (s.bank b).borrow = some w → w.seg < 64 →
      ∃ t, exec (.borrowRelease b bad []) s = .next t ∧ (t.bank b).borrow = none ∧ t.bit (BANK_BORROW_ACTIVE.inst b) = false ∧
        ((s.bank b).stalled = [] →
          (∀ i, i < 512 → t.bankWord b (4096 * w.seg + 8 * i) = w.buf.getD i 0 ∧
            t.bankErrAt b (4096 * w.seg + 8 * i) =
              if 4096 * w.seg + 8 * i ∈ w.bad ∨ 4096 * w.seg + 8 * i ∈ bad then 2 else 0) ∧
          (∀ c o, (∀ i, i < 512 → bankKey c o ≠ bankKey b (4096 * w.seg + 8 * i)) →
            t.bankWord c o = s.bankWord c o ∧ t.bankErrAt c o = s.bankErrAt c o) ∧
          t = { s with regs := t.regs, banks := t.banks, bankMem := t.bankMem, bankErr := t.bankErr }) ∧
        (∀ a, (s.bank b).stalled = [a] → (t.bank b).stalled = [] ∧
          (t.bank b).holdoff = some (s.time.mono + s.fld GROOM_BORROW_HOLDOFF_US * 1000 * 65536) ∧
          (t.reg (regKey (0x20 + b) 0x010)).getLsbD 14 = true)) ∧
    (∀ h, (s.bank b).holdoff = some h → h ≤ s.time.mono →
      exec (.borrowHoldoffEnd b) s = .next (s.setBank b { s.bank b with holdoff := none })) ∧
    (∀ word, word < 32768 → s.bit (BANK_CTRL_SCRUB_EN.inst b) = true →
      ∃ t, exec (.scrubRead b word) s = .next t ∧ t.fld (BANK_SCRUB_ROW_ROW.inst b) = word / 8 ∧
        t.bankMem = s.bankMem ∧ t.dram = s.dram ∧
        (∀ c o, bankKey c o ≠ bankKey b (8 * word) → t.bankErrAt c o = s.bankErrAt c o) ∧
        (s.bankErrAt b (8 * word) = 0 → RegsKept (fun k => k == (BANK_SCRUB_ROW_ROW.inst b).key) s t ∧ MemKept s t) ∧
        (s.bankErrAt b (8 * word) = 1 → t.bankErrAt b (8 * word) = 0 ∧
          t.fld (BANK_ECC_CORR_COUNT_COUNT.inst b) = (s.fld (BANK_ECC_CORR_COUNT_COUNT.inst b) + 1) % 2 ^ 32 ∧
          t.fld (BANK_ECC_ADDR_OFFSET.inst b) = 8 * word ∧ (t.reg (regKey (0x20 + b) 0x010)).getLsbD 4 = true) ∧
        (s.bankErrAt b (8 * word) = 2 → t.bankErrAt b (8 * word) = 2 ∧
          t.fld (BANK_ECC_UNCORR_COUNT_COUNT.inst b) = (s.fld (BANK_ECC_UNCORR_COUNT_COUNT.inst b) + 1) % 2 ^ 32 ∧
          t.bit (BANK_ECC_ADDR_UNCORR.inst b) = true ∧ (t.reg (regKey (0x20 + b) 0x010)).getLsbD 5 = true)) ∧
    (∀ row, row ∈ (s.bank b).sparing ∨ (s.owner b = 3 ∧ row < 4096) → (s.bank b).mirror = none →
      (∀ k, s.freeSpare b = some k →
        exec (.rowSpareStart b row) s = .next (s.setBank b { s.bank b with
          mirror := some (row, k)
          sparing := (s.bank b).sparing.filter fun r => r != row })) ∧
      (s.freeSpare b = none → ∃ t, exec (.rowSpareStart b row) s = .next t ∧ (t.bank b).mirror = none ∧
        row ∉ (t.bank b).sparing ∧ (t.reg (regKey (0x20 + b) 0x010)).getLsbD 6 = true ∧ MemKept s t)) ∧
    (∀ row k, (s.bank b).mirror = some (row, k) → k < 16 →
      ∃ t, exec (.rowSpared b) s = .next t ∧ (t.bank b).mirror = none ∧
        t.fld ((BANK_SPARE_MAP_ROW.inst b).nth k) = row % 2 ^ 12 ∧ t.bit ((BANK_SPARE_MAP_USED.inst b).nth k) = true ∧
        t.fld (BANK_STATUS_SPARES_FREE.inst b) = s.fld (BANK_STATUS_SPARES_FREE.inst b) - 1 ∧
        (∀ j, j < 16 → j ≠ k → s.bit ((BANK_SPARE_MAP_USED.inst b).nth j) = true →
          s.fld ((BANK_SPARE_MAP_ROW.inst b).nth j) = row → t.bit ((BANK_SPARE_MAP_RETIRED.inst b).nth j) = true) ∧
        (t.reg (regKey (0x20 + b) 0x010)).getLsbD 11 = true ∧
        (s.fld (BANK_STATUS_SPARES_FREE.inst b) = 3 → (t.reg (regKey (0x20 + b) 0x010)).getLsbD 12 = true) ∧
        t.bankMem = s.bankMem ∧ t.dram = s.dram ∧ t.nvm = s.nvm ∧ t.engs = s.engs)

/-- What SUBMIT, CANCEL, ABORT, RELEASE and a CTX_CFG write do in each task state (R238, R239, R240, R247, R248,
R251, R254, R256). With no report, completion, wait result or mark pending, a served, accepted command of TASK_CMD
is decided as the state table says. SUBMIT of a DORMANT or ended context whose descriptor lies in a bank of SCHED,
is good and keeps the rules copies UNIT and INDEX and takes its state by START: READY behind those at its level,
DELAYED with its wake tick, BLOCKED on a transit or trigger, or by the state of the context it waits for; a bank of
another owner, a broken descriptor and a wrong state leave the state and answer OWN, BAD_DESC, WRONG_STATE. CANCEL
and ABORT of a task not running end it CANCELLED with their cause, off every list, and word 7 of its descriptor says
so; CANCEL of a running one is void, ABORT goes to its unit undecided; of an ended context both are void. RELEASE
frees a DORMANT or ended context. An OP outside the table is void with BAD_OP. A CTX_CFG write sets address and
priority where the context is free to take them and is discarded with CTX_BUSY otherwise. The unit's arbiter decides
an abort: past the commit point it is void, else the task ends CANCELLED with ABORT, and CMD_RESULT says which where
no later command of the requester has replaced it. -/
def Obligations.SoftwareTaskCommands : Prop :=
  ∀ (q : Req) (n : Nat) (s : State), n < 256 → s.gate q 5 = .served → s.mayWrite q 5 = true → s.sched.faults = [] →
    s.sched.done = [] → s.marks = [] → s.sched.aborts = [] → s.sched.waits = [] → s.sched.voids = [] →
    (let st := s.ctxState n
     let a := s.ctxDesc n
     let b := natBits a 18 5
     let off := natBits a 0 18
     let w0 := (s.bankWord b off).toNat
     let w1 := (s.bankWord b (off + 8)).toNat
     let ended : Prop := st = csDone ∨ st = csCancelled ∨ st = csFaulted
     let waits : Prop := st = csDormant ∨ st = csDelayed ∨ st = csReady ∨ st = csBlocked
     let result (t : State) (op code decided : Nat) : Prop :=
       t.cmdResult (reqCode q) = BitVec.ofNat 32 (n + op * 2 ^ 8 + code * 2 ^ 12 + decided * 2 ^ 31)
     (∀ v : Word,
       (st = csFree ∨ st = csDormant ∨ ended → ∃ t, exec (.ctxCfgWrite q n v) s = .next t ∧ t.ctxState n = csDormant ∧
         t.fld (SCHED_CTX_CFG_DESC_ADDR.nth n) = natBits v.toNat 6 17 * 64 ∧
         t.fld (SCHED_CTX_CFG_PRIO.nth n) = natBits v.toNat 24 4 ∧ t = { s with regs := t.regs }) ∧
       (¬ (st = csFree ∨ st = csDormant ∨ ended) →
         exec (.ctxCfgWrite q n v) s = .next ((s.countWrite 5).raise 5 12 n).schedSync)) ∧
     (st = csDormant ∨ ended → s.owner b = 2 → s.bankErrAt b off = 0 → s.bankErrAt b (off + 8) = 0 →
       (∀ j, j < 2 → s.bankNormal b = true ∨ s.portE b (off + 8 * j) ≠ some true) →
       (s.descOk n w0 w1 = true → ∃ t, exec (.submit q n) s = .next t ∧ result t 1 0 1 ∧
         t.fld (SCHED_CTX_STATE_UNIT.nth n) = natBits w0 0 4 ∧ t.fld (SCHED_CTX_STATE_INDEX.nth n) = natBits w0 4 5 ∧
         (let start := natBits w0 9 3
          let dep := s.ctxState (natBits w0 16 8)
          t.ctxState n = (if start = 0 then csReady else if start = 1 then csDelayed
            else if start = 2 then (if dep = csDone then csReady
              else if dep = csFree ∨ dep = csCancelled ∨ dep = csFaulted then csCancelled else csBlocked)
            else csBlocked) ∧
          (start = 0 → t.level (s.ctxPrio n) = s.level (s.ctxPrio n) ++ [n]) ∧
          (start = 1 → n ∈ t.sched.delay ∧ (t.ctx n).wake = (s.fld SCHED_TICK_NOW_TICKS +
            (if natBits w0 24 24 = 0 then 2 ^ 24 else natBits w0 24 24)) % 2 ^ 32))) ∧
       (s.descOk n w0 w1 = false → ∃ t, exec (.submit q n) s = .next t ∧ result t 1 4 1 ∧ t.ctxState n = st ∧
         (t.reg (regKey 5 0x010)).getLsbD 9 = true ∧ MemKept s t)) ∧
     (st = csDormant ∨ ended → s.owner b ≠ 2 → ∃ t, exec (.submit q n) s = .next t ∧ result t 1 5 1 ∧ t.ctxState n = st ∧
       MemKept s t) ∧
     (st ≠ csDormant → ¬ ended → ∃ t, exec (.submit q n) s = .next t ∧ result t 1 1 1 ∧ t.ctxState n = st ∧ MemKept s t) ∧
     (waits →
       (∀ together, ∃ t, exec (.cancel q n together) s = .next t ∧ t.ctxState n = csCancelled ∧
         t.fld (SCHED_CTX_STATE_END_CAUSE.nth n) = ecCancel ∧ n ∉ t.sched.delay ∧ n ∉ t.level (s.ctxPrio n) ∧
         (together = [] → result t 2 0 1) ∧
         (s.waiters n = [] → s.owner b = 2 → s.portE b (off + 56) ≠ some true →
           t.bankWord b (off + 56) = BitVec.ofNat 64 (csCancelled + ecCancel * 16 + s.st32 * 2 ^ 32))) ∧
       (∀ together, ∃ t, exec (.abort q n together) s = .next t ∧ t.ctxState n = csCancelled ∧
         t.fld (SCHED_CTX_STATE_END_CAUSE.nth n) = ecAbort ∧ n ∉ t.sched.delay ∧ (together = [] → result t 3 0 1))) ∧
     (st = csRunning →
       (∀ together, ∃ t, exec (.cancel q n together) s = .next t ∧ (together = [] → result t 2 3 1) ∧
         t.ctxState n = st ∧ MemKept s t) ∧
       (∀ together u, s.ctxRunsOn n = some u → ∃ t, exec (.abort q n together) s = .next t ∧
         (together = [] → result t 3 0 0) ∧ t.ctxState n = st ∧ t.sched.aborts = [(u, reqCode q)] ∧ MemKept s t)) ∧
     (ended → ∀ together,
       (∃ t, exec (.cancel q n together) s = .next t ∧ (together = [] → result t 2 1 1) ∧ t.ctxState n = st) ∧
       (∃ t, exec (.abort q n together) s = .next t ∧ (together = [] → result t 3 (if st = csDone then 2 else 1) 1) ∧
         t.ctxState n = st)) ∧
     (st = csDormant ∨ ended → ∃ t, exec (.release q n) s = .next t ∧ result t 4 0 1 ∧ t.ctxState n = csFree ∧ MemKept s t) ∧
     (st ≠ csDormant → ¬ ended → ∃ t, exec (.release q n) s = .next t ∧ result t 4 1 1 ∧ t.ctxState n = st) ∧
     (∀ op, op = 0 ∨ 4 < op → op < 16 → exec (.taskCmdBadOp q n op) s = .next ((s.countWrite 5).cmdBadOp (reqCode q) n op)) ∧
     (∀ u r, (let x := s.modSched fun y => { y with aborts := [(u, r)] }
       let last : Bool := s.cmdResult r == BitVec.ofNat 32 (n + 3 * 2 ^ 8)
       s.unitCtx u = some n →
       (u ∈ s.sched.commit → ∃ t, exec (.abortDecided u) x = .next t ∧ t.sched.aborts = [] ∧ t.ctxState n = st ∧
         t.cmdResult r = if last then BitVec.ofNat 32 (n + 3 * 2 ^ 8 + 2 * 2 ^ 12 + 2 ^ 31) else s.cmdResult r) ∧
       (u ∉ s.sched.commit → u < 8 → ∃ t, exec (.abortDecided u) x = .next t ∧ t.ctxState n = csCancelled ∧
         t.cmdResult r = (if last then BitVec.ofNat 32 (n + 3 * 2 ^ 8 + 2 ^ 31) else s.cmdResult r) ∧
         t.fld (SCHED_CTX_STATE_END_CAUSE.nth n) = ecAbort ∧ (∀ p ∈ t.sched.running, p.2 ≠ n) ∧
         (t.eng (s.slotEngine u)).kernelWin = none))))

/-- Ticks, marks, completions and fault reports at the dispatch arbiter (R247, R248, R253, R254, R255). With no
abort, wait result or void wake pending, a tick mark advances TICK_NOW by what it carries and moves every due task
from the delay list to the end of its ready level, in list order; tasks not due keep their place. A transit mark
makes every task BLOCKED on the transit READY, a trigger mark every task BLOCKED on that trigger; other contexts
keep their state. A completion ends the unit's task DONE, off its unit, and makes READY the tasks waiting for it; a
fault report ends it FAULTED with its cause, raises TASK_FAULTED, and ends the tasks waiting for it CANCELLED with
DEP_FAILED. -/
def Obligations.TicksMarksAndReports : Prop :=
  ∀ s : State, s.sched.aborts = [] → s.sched.waits = [] → s.sched.voids = [] → s.sched.delay.Nodup →
    (∀ k ∈ s.sched.delay, k < 256 ∧ s.ctxState k = csDelayed) →
    (s.sched.faults = [] → s.sched.done = [] →
      (∀ n rest, s.marks = .tick n :: rest →
        (let due := s.sched.delay.filter fun k =>
           decide (((s.ctx k).wake + 2 ^ 32 - s.fld SCHED_TICK_NOW_TICKS) % 2 ^ 32 ≤ n)
         ∃ t, exec .tick s = .next t ∧ t.marks = rest ∧
           t.fld SCHED_TICK_NOW_TICKS = (s.fld SCHED_TICK_NOW_TICKS + n) % 2 ^ 32 ∧
           t.sched.delay = s.sched.delay.filter (fun k => !due.contains k) ∧
           (∀ k ∈ due, t.ctxState k = csReady) ∧ (∀ k, k < 256 → k ∉ due → t.ctxState k = s.ctxState k) ∧
           (∀ p, t.level p = s.level p ++ due.filter fun k => s.ctxPrio k == p) ∧ MemKept s t)) ∧
      (∀ n rest, s.marks = .transit n :: rest → ∃ t, exec .schedTransitMark s = .next t ∧ t.marks = rest ∧
        (∀ k, k < 256 → t.ctxState k = if s.ctxState k = csBlocked ∧ (s.ctx k).start = 3 then csReady else s.ctxState k) ∧
        MemKept s t) ∧
      (∀ n rest, s.marks = .trigger n :: rest → ∃ t, exec .schedTriggerMark s = .next t ∧ t.marks = rest ∧
        (∀ k, k < 256 → t.ctxState k =
          if s.ctxState k = csBlocked ∧ (s.ctx k).start = 4 ∧ (s.ctx k).waitArg % 64 = n then csReady else s.ctxState k) ∧
        MemKept s t)) ∧
    (∀ u n result, s.sched.faults = [] → s.sched.done = [(u, result)] → s.unitCtx u = some n → n < 256 →
      ∃ t, exec (.taskComplete u) s = .next t ∧ t.ctxState n = csDone ∧ t.sched.done = [] ∧
        (∀ p ∈ t.sched.running, p.2 ≠ n) ∧ (∀ k ∈ s.waiters n, k ≠ n → t.ctxState k = csReady) ∧
        (∀ b off, (∀ j, j < 8 → bankKey b off ≠ bankKey (natBits (s.ctxDesc n) 18 5) (natBits (s.ctxDesc n) 0 18 + 8 * j)) →
          t.bankWord b off = s.bankWord b off) ∧ t.dram = s.dram) ∧
    (∀ u n cause result, s.sched.faults = [(u, cause, result)] → s.unitCtx u = some n → n < 256 →
      ∃ t, exec .taskFaulted s = .next t ∧ t.ctxState n = csFaulted ∧
        t.fld (SCHED_CTX_STATE_END_CAUSE.nth n) = cause % 16 ∧ t.sched.faults = [] ∧
        (t.reg (regKey 5 0x010)).getLsbD 8 = true ∧ (∀ p ∈ t.sched.running, p.2 ≠ n) ∧
        (∀ k ∈ s.waiters n, k ≠ n → t.ctxState k = csCancelled ∧ t.fld (SCHED_CTX_STATE_END_CAUSE.nth k) = ecDep) ∧
        t.dram = s.dram)

/-- Dispatch gives each free unit its first READY task, an open window its first kernel that fits (R238, R243, R249,
R259). With nothing pending before it, a dispatch pass gives a free stream, key or HDMA unit the first READY task of
the unit from the highest level down, oldest first: the task is RUNNING on the unit and its dispatches are counted.
With DISPATCH_EN 0 no context changes. A window that asks, its WINDOW unit free, is answered with the first READY
kernel that matches and whose bound leaves 8 steps: the task is RUNNING, and the engine's next bundle is the
kernel's first, with no loop level; where none fits the window stays as it is. The oldest trace record goes into
FIFO2 as two words where it has room, and waits where it has not, FULL being raised once for the wait. -/
def Obligations.DispatchTakesTheHighest : Prop :=
  ∀ s : State, s.sched.faults = [] → s.sched.done = [] → s.marks = [] → s.sched.waits = [] → s.sched.voids = [] →
    (∀ k ∈ s.readyOrder, k < 256) →
    (s.bit SCHED_CTRL_DISPATCH_EN = false → exec .dispatch s = .next s.schedSync) ∧
    (∀ u n, s.bit SCHED_CTRL_DISPATCH_EN = true → 8 ≤ u → u < 24 ∨ u = 41 ∨ u = 42 → s.unitCtx u = none →
      s.candidate u = some n → s.ctxState n = csReady → s.owner (natBits (s.ctxDesc n) 18 5) = 2 →
      (∀ i, i < 5 → s.bankErrAt (natBits (s.ctxDesc n) 18 5) (natBits (s.ctxDesc n) 0 18 + 16 + 8 * i) = 0) →
      ∃ t, exec .dispatch s = .next t ∧ t.ctxState n = csRunning ∧ t.unitCtx u = some n ∧
        t.fld (SCHED_CTX_STATE_RUNS.nth n) = (s.fld (SCHED_CTX_STATE_RUNS.nth n) + 1) % 256) ∧
    (∀ e w, e < 10 → (s.eng e).window = some w → s.engState e = esWindow → w.kernel = none → 0 < w.left → w.asked = true →
      (let k := s.engSlot e
       (s.windowCandidate k w.win w.left = none → ∀ d, exec (.windowDispatch e d) s = .next s.schedSync) ∧
       (∀ n, s.bit SCHED_CTRL_DISPATCH_EN = true → s.unitCtx k = none → s.windowCandidate k w.win w.left = some n →
         s.owner (natBits (s.ctxDesc n) 18 5) = 2 →
         (∀ i, i < 5 → s.bankErrAt (natBits (s.ctxDesc n) 18 5) (natBits (s.ctxDesc n) 0 18 + 16 + 8 * i) = 0) →
         (let w1 := (s.ctx n).w1
          natBits w1 32 16 + 8 ≤ w.left ∧
          ∃ t, exec (.windowDispatch e 0) s = .next t ∧ t.ctxState n = csRunning ∧ t.unitCtx k = some n ∧
            (t.eng e).window = some { w with asked := false, kernel := some ⟨n, natBits w1 32 16, s.ctxDesc n⟩ } ∧
            (t.eng e).pc = natBits w1 16 13 ∧ (t.eng e).loops = [] ∧ MemKept s t)))) ∧
    (∀ a b tl, s.sched.trace = (a, b) :: tl → s.prodIs 2 endDevice = true → s.fifoRing 2 = false → (s.fifo 2).stalls = [] →
      (2 ≤ s.fifoSpace 2 → ∃ t, exec .traceRecordPush s = .next t ∧ t.sched.trace = tl ∧
        (t.fifo 2).words = (s.fifo 2).words ++ [if 256 ≤ (s.fifo 2).words.length then none else some a,
          if 255 ≤ (s.fifo 2).words.length then none else some b] ∧ MemKept s t) ∧
      (s.fifoSpace 2 < 2 → ((s.fifo 2).waiting = true → exec .traceRecordPush s = .next s) ∧
        ((s.fifo 2).waiting = false → ∃ t, exec .traceRecordPush s = .next t ∧ t.sched = s.sched ∧
          (t.fifo 2).words = (s.fifo 2).words ∧ (t.fifo 2).waiting = true ∧
          (t.reg (regKey (fifoPage 2) 0x010)).getLsbD 9 = true ∧ MemKept s t)))

/-- Pushes, waiting pushes, pops and peeks of a spill FIFO (R260, R264, R265, R266, R267, R268, R270, R274). A
served, accepted write of the high dword of a PUSH_WIN word of a FIFO whose producer in force is the host joins it
to the low dword the same requester wrote: with space and no push waiting the word becomes the newest, WR_POS counts
it and DROPPING is cleared; in a ring it also goes to its place in DRAM, elsewhere DRAM keeps; behind others or
without space it waits, FULL being raised once when it finds no space; a word of a requester that waits here already
follows that push; without space it is dropped and counted while DROPPING. A waiting host push completes as soon as
there is space for it, the next word behind it being presented then; where PCIe and MSPI both wait the two
alternate. One that has stalled for PUSH_STALL_LIMIT without space is dropped, DROPPING set, and the words behind it
with it. While a PCIe push waits, PCIe writes and reads wait behind it. A pop of a non-empty FIFO whose consumer is
the host delivers the oldest word, low half first with the high half in the requester's snapshot, and takes it away;
a peek delivers it and takes nothing; an empty one delivers 0 and counts in UNDERRUN_COUNT; an uncorrectable word is
delivered poisoned, and counted and reported the first time it is read back. A push or pop by an end that is not
bound only raises BAD_END. A non-empty FIFO left alone for IDLE_TIMEOUT raises IDLE once. Other FIFOs keep their
words. -/
def Obligations.FifoPushesAndPops : Prop :=
  ∀ (q : Req) (n : Nat) (s : State), n < 16 →
    (let p := fifoPage n
     let x := s.fifo n
     let ev (t : State) (b : Nat) : Prop := (t.reg (regKey p 0x010)).getLsbD b = true
     let others (t : State) : Prop := ∀ m, m ≠ n → t.fifo m = s.fifo m
     let ringSlot (a : Nat) : Prop := a / 8 = s.ringAddr n (s.wrPos n) / 8
     let entry (w : DWord) (i : Nat) : Option DWord := if 256 ≤ x.words.length + i then none else some w
     let taken (t : State) (w : DWord) : Prop :=
       (t.fifo n).words = x.words ++ [entry w 0] ∧ t.wrPos n = (s.wrPos n + 1) % 2 ^ 32 ∧
       t.rdPos n = s.rdPos n ∧ t.fld (FIFO_LEVEL_WORDS.inst n) = (x.words.length + 1) % 2 ^ 32 ∧ others t ∧
       (s.fifoRing n = true → t.dramWord (s.ringAddr n (s.wrPos n)) = w.toNat ∧
         (∀ a, ¬ ringSlot a → t.dramByte a = s.dramByte a)) ∧
       (s.fifoRing n = false → MemKept s t)
     let stalls (t : State) : Prop := (t.fifo n).words = x.words ∧ others t ∧ MemKept s t
     let noted (t : State) (l : List Stall) : List Stall :=
       l.map fun k => if t.finds n k then { k with full := true, since := s.time.mono } else k
     let mine (k : Stall) : Bool := k.prod == endHost && k.req == reqCode q
     let drops (t : State) (i : Nat) : Prop :=
       t.fld (FIFO_PUSH_DROP_COUNT_COUNT.inst n) = (s.fld (FIFO_PUSH_DROP_COUNT_COUNT.inst n) + i) % 2 ^ 32
     (s.gate q p = .served → s.mayWrite q p = true → ∀ (k : Nat) (v : Word), k < 8 →
       (let w := BitVec.ofNat 64 ((s.snap q (regKey p (0x100 + 8 * k))).toNat + v.toNat * 2 ^ 32)
        (∃ t, exec (.registerWrite q p (0x100 + 8 * k) v none) s = .next t ∧ t.snap q (regKey p (0x100 + 8 * k)) = v ∧ stalls t) ∧
        (s.prodIs n endHost = true → 1 ≤ s.fifoSpace n → x.stalls = [] →
          ∃ t, exec (.fifoPush q n k v []) s = .next t ∧ taken t w ∧ t.bit (FIFO_STATUS_DROPPING.inst n) = false) ∧
        (s.prodIs n endHost = true → s.fifoSpace n = 0 ∨ x.stalls ≠ [] → x.stalls.any mine = false →
          s.bit (FIFO_STATUS_DROPPING.inst n) = false ∨ s.fifoSpace n ≠ 0 →
          ∃ t, exec (.fifoPush q n k v []) s = .next t ∧ stalls t ∧
            (t.fifo n).stalls = noted s (x.stalls ++ [⟨endHost, reqCode q, [w], [], s.time.mono, false⟩]) ∧
            (s.fifoSpace n = 0 → ev t 9)) ∧
        (s.prodIs n endHost = true → x.stalls.any mine = true → ∃ t, exec (.fifoPush q n k v []) s = .next t ∧ stalls t ∧
          (t.fifo n).stalls = x.stalls.map fun m => if mine m then { m with behind := m.behind ++ [w] } else m) ∧
        (s.prodIs n endHost = true → s.fifoSpace n = 0 → x.stalls.any mine = false →
          s.bit (FIFO_STATUS_DROPPING.inst n) = true →
          ∃ t, exec (.fifoPush q n k v []) s = .next t ∧ stalls t ∧ (t.fifo n).stalls = x.stalls ∧ drops t 1) ∧
        (s.prodIs n endHost = false → ∃ t, exec (.fifoPush q n k v []) s = .next t ∧ stalls t ∧ (t.fifo n).stalls = x.stalls ∧
          ev t 14))) ∧
     (s.host.held = [] → ∀ (k : Stall) (w : DWord) (rest : List Stall), x.stalls = k :: rest → k.prod = endHost → k.words = [w] →
       (let next (m : Stall) : List Stall := match m.behind with
          | b :: bs => [⟨endHost, m.req, [b], bs, s.time.mono, false⟩]
          | [] => []
        ((∀ m ∈ rest, k.req + m.req ≠ 3) → 1 ≤ s.fifoSpace n → ∃ t, exec (.pushComplete n) s = .next t ∧
          (t.fifo n).stalls = noted t (rest ++ next k) ∧ t.bit (FIFO_STATUS_DROPPING.inst n) = false ∧ taken t w) ∧
        (∀ m u more, rest = m :: more → k.req + m.req = 3 → m.prod = endHost → m.words = [u] → 1 ≤ s.fifoSpace n →
          (let first := decide (k.req = if x.turn then 1 else 2)
           ∃ t, exec (.pushComplete n) s = .next t ∧ (t.fifo n).turn = !x.turn ∧
             (t.fifo n).words = x.words ++ [entry (if first then w else u) 0] ∧
             (t.fifo n).stalls = noted t (if first then m :: more ++ next k else k :: more ++ next m))) ∧
        ((∀ m ∈ rest, k.req + m.req ≠ 3) → s.fifoSpace n = 0 → exec (.pushComplete n) s = .next s) ∧
        (s.stallOver n k = true → ∃ t, exec (.pushStallExpiry n []) s = .next t ∧ stalls t ∧ (t.fifo n).stalls = rest ∧
          t.bit (FIFO_STATUS_DROPPING.inst n) = true ∧ ev t 10 ∧ drops t (1 + k.behind.length)))) ∧
     (s.host.held = [] → x.stalls.any (s.stallOver n) = false → exec (.pushStallExpiry n []) s = .next s) ∧
     (s.pcieHeld = true → ∀ p' off v,
       exec (.registerWrite .pcie p' off v none) s = .next (s.hold269 (.write p' off v)) ∧
       exec (.snapshotRead .pcie p' off) s = .next (s.hold269 (.read p' (off % 4096 / 4 * 4)))) ∧
     (s.gate q p = .served → s.consIs n endHost = true →
       (x.words = [] → ∀ c, c = .fifoPop q n [] ∨ c = .fifoPeek q n [] → ∃ t, exec c s = .next t ∧ stalls t ∧
         t.out = s.out ++ [.data q [0]] ∧
         t.fld (FIFO_UNDERRUN_COUNT_COUNT.inst n) = (s.fld (FIFO_UNDERRUN_COUNT_COUNT.inst n) + 1) % 2 ^ 32) ∧
       (∀ w rest, x.words = some w :: rest →
         (∃ t, exec (.fifoPop q n []) s = .next t ∧ (t.fifo n).words = rest ∧ t.rdPos n = (s.rdPos n + 1) % 2 ^ 32 ∧
           t.out = s.out ++ [.data q [w.extractLsb' 0 32]] ∧
           t.snap q (regKey p 0x144) = w.extractLsb' 32 32 ∧ others t ∧ MemKept s t) ∧
         (∃ t, exec (.fifoPeek q n []) s = .next t ∧ t.out = s.out ++ [.data q [w.extractLsb' 0 32]] ∧
           t.snap q (regKey p 0x14C) = w.extractLsb' 32 32 ∧ t = { s with out := t.out, snaps := t.snaps })) ∧
       (∀ rest, x.words = none :: rest →
         (let a := s.ringAddr n (s.rdPos n)
          let w : DWord := BitVec.ofNat 64 (s.dramWord a)
          let bad := 2 ≤ s.dramErrAt a
          let said (z : State) (d : DWord) (p : Bool) : Prop :=
            z.out.getLast? = some (if p ∧ q = .pcie then .poisoned [d.extractLsb' 0 32] else .data q [d.extractLsb' 0 32])
          ∃ t u, exec (.fifoPop q n []) s = .next t ∧ exec (.fifoPeek q n []) s = .next u ∧ (t.fifo n).words = rest ∧
            t.rdPos n = (s.rdPos n + 1) % 2 ^ 32 ∧ u.rdPos n = s.rdPos n ∧ others u ∧ MemKept s t ∧ MemKept s u ∧
            (∀ d, s.headPoison n = some d → (u.fifo n).words = x.words ∧ (∀ z, z = t ∨ z = u →
              said z d true ∧ z.fld (FIFO_POISON_COUNT_COUNT.inst n) = s.fld (FIFO_POISON_COUNT_COUNT.inst n))) ∧
            (s.headPoison n = none →
              (if bad then (u.fifo n).words = x.words ∧ u.headPoison n = some w else (u.fifo n).words = some w :: rest) ∧
              (∀ z, z = t ∨ z = u → said z w (decide bad) ∧ (bad → ev z 5 ∧
                z.fld (FIFO_POISON_COUNT_COUNT.inst n) = (s.fld (FIFO_POISON_COUNT_COUNT.inst n) + 1) % 2 ^ 32)))))) ∧
     (s.gate q p = .served → s.consIs n endHost = false → ∀ c, c = .fifoPop q n [] ∨ c = .fifoPeek q n [] →
       ∃ t, exec c s = .next t ∧ stalls t ∧ t.out.getLast? = some (.data q [0]) ∧ ev t 14) ∧
     (let lim := s.fld (FIFO_IDLE_TIMEOUT_US.inst n)
      let up := lim ≠ 0 ∧ x.words ≠ [] ∧ x.idleUp = false ∧ x.idleAt + lim * 1000 * unitsPerNs ≤ s.time.mono
      (up → ∃ t, exec (.idle n []) s = .next t ∧ stalls t ∧ (t.fifo n).idleUp = true ∧ ev t 8) ∧
      (¬ up → exec (.idle n []) s = .next s)))

/-- What each bit of a spill FIFO's CTRL does (R275, R276, R277, R278, R279). Each of the six commands of FIFOn.CTRL
is one served, accepted write of it, and its bits act in the order MARK_SET, REWIND, MARK_CLEAR, FLUSH,
FLUSH_AND_HOLD, OPEN. With one of those bits set alone: FLUSH takes every word away, moves RD_POS past them, makes
the mark invalid and says in FLUSH_WORDS and FLUSHED how many there were; FLUSH_AND_HOLD does the same and holds the
FIFO, SPACE reading 0; OPEN ends the hold and touches no word; MARK_SET in a ring marks RD_POS, and raises BAD_MARK
elsewhere; REWIND to a valid mark not lost puts the words popped since it back in front and RD_POS on the mark, and
raises BAD_MARK where there is none or it is lost; MARK_CLEAR ends the mark. Waiting pushes wait on (those that now
find no space raise FULL, where it had not been), other FIFOs and all memory keep. A pop pending together with a
FLUSH is taken first. -/
def Obligations.FifoMarksAndFlushes : Prop :=
  ∀ (q : Req) (n : Nat) (v : Word) (s : State), n < 16 → s.gate q (fifoPage n) = .served →
    s.mayWrite q (fifoPage n) = true →
    (let p := fifoPage n
     let x := s.fifo n
     let l := x.words.length
     let only (i : Nat) : Prop := v.toNat % 64 = 2 ^ i
     let ev (t : State) (b : Nat) : Prop := (t.reg (regKey p 0x010)).getLsbD b = true
     let kept (t : State) : Prop := (∀ m, m ≠ n → t.fifo m = s.fifo m) ∧
       (v.getLsbD 1 = false → (t.fifo n).stalls = x.stalls) ∧ MemKept s t ∧
       RegsKept (fun k => decide (k / 4096 = p) || evKey p k) s t
     let retains (t : State) : Prop := t.bit (FIFO_CTRL_RETAIN.inst n) = v.getLsbD 6
     let flushed (t : State) : Prop := (t.fifo n).words = [] ∧ t.rdPos n = (s.rdPos n + l) % 2 ^ 32 ∧
       t.bit (FIFO_STATUS_MARK_VALID.inst n) = false ∧ t.bit (FIFO_STATUS_MARK_LOST.inst n) = false ∧
       t.fld (FIFO_FLUSH_WORDS_WORDS.inst n) = l % 2 ^ 32 ∧ t.bit (FIFO_STATUS_EMPTY.inst n) = true ∧ ev t 15
     ∃ t, (∀ c, c ∈ [Instr.flush q n v [], .flushAndHold q n v [], .openFifo q n v [], .markSet q n v [],
           .rewind q n v [], .markClear q n v []] →
         exec c s = .next t) ∧ kept t ∧ retains t ∧
       (only 0 → flushed t ∧ t.bit (FIFO_STATUS_HELD.inst n) = s.bit (FIFO_STATUS_HELD.inst n)) ∧
       (only 1 → flushed t ∧ t.bit (FIFO_STATUS_HELD.inst n) = true ∧ t.fld (FIFO_SPACE_WORDS.inst n) = 0 ∧
         (t.fifo n).stalls = x.stalls.map fun k =>
           if k.full = false ∧ k.words ≠ [] then { k with full := true, since := s.time.mono } else k) ∧
       (∀ q' w rest, only 0 → s.gate q' p = .served → s.consIs n endHost = true → x.words = some w :: rest →
         ∃ u, exec (.flush q n v [.pop q']) s = .next u ∧ .data q' [w.extractLsb' 0 32] ∈ u.out ∧ (u.fifo n).words = [] ∧
           u.fld (FIFO_FLUSH_WORDS_WORDS.inst n) = rest.length % 2 ^ 32) ∧
       (only 2 → t.fifo n = x ∧ t.bit (FIFO_STATUS_HELD.inst n) = false ∧ t.rdPos n = s.rdPos n) ∧
       (only 3 → (t.fifo n).words = x.words ∧ t.rdPos n = s.rdPos n ∧
         (s.fifoRing n = true → t.markPos n = s.rdPos n ∧ t.bit (FIFO_STATUS_MARK_VALID.inst n) = true ∧
           t.bit (FIFO_STATUS_MARK_LOST.inst n) = false ∧ (t.fifo n).retain = v.getLsbD 6) ∧
         (s.fifoRing n = false → t.bit (FIFO_STATUS_MARK_VALID.inst n) = s.bit (FIFO_STATUS_MARK_VALID.inst n) ∧ ev t 13)) ∧
       (only 4 →
         (s.bit (FIFO_STATUS_MARK_VALID.inst n) = true → s.bit (FIFO_STATUS_MARK_LOST.inst n) = false →
           (t.fifo n).words = List.replicate (s.sinceMark n) none ++ x.words ∧ t.rdPos n = s.markPos n) ∧
         (s.bit (FIFO_STATUS_MARK_VALID.inst n) = false ∨ s.bit (FIFO_STATUS_MARK_LOST.inst n) = true →
           t.fifo n = x ∧ t.rdPos n = s.rdPos n ∧ ev t 13)) ∧
       (only 5 → t.fifo n = x ∧ t.bit (FIFO_STATUS_MARK_VALID.inst n) = false ∧
         t.bit (FIFO_STATUS_MARK_LOST.inst n) = false ∧ t.rdPos n = s.rdPos n))

/-- One burst of the host transfer unit, by its direction (R280, R281). HDMA_BURST with no task on the unit, or with
its end already reported, does nothing. Of a running task with LEN 0, or a DRAM range not usable, the end is RANGE;
of one on a FIFO end not bound to HDMA it is BAD_FIFO, and END_REFUSED is raised; of a read of the host that failed
it is HOST_ERROR. FIFO to host writes the words the burst has room for to host memory, oldest first, and takes them
off; with none there it waits if WAIT and else ends EMPTY. Host to FIFO pushes what the host returned into the space
there is; what finds none waits and FULL is raised, and no burst moves while something waits there. DRAM to host
writes good bytes out and ends POISON on an uncorrectable word; host to DRAM stores the bytes. The task ends OK with
its last byte, else the count of bytes done grows by what was moved. OK and EMPTY are completions, the others fault
reports. -/
def Obligations.HostTransfersMoveBursts : Prop :=
  ∀ (s : State) (data : List DWord) (err : Bool),
    (s.unitCtx hdmaUnit = none ∨ s.hdmaReported = true → exec (.hdmaBurst data err) s = .next s) ∧
    (∀ c, s.unitCtx hdmaUnit = some c → s.hdmaReported = false →
      (let w1 := (s.ctx c).w1
       let prm := s.unitParams hdmaUnit
       let dir := natBits w1 0 2
       let f := natBits w1 4 4
       let x := s.fifo f
       let len := natBits (prm.getD 2 0) 0 32 / 8 * 8
       let addr := prm.getD 0 0 / 8 * 8 + s.hdmaDone
       let da := natBits (prm.getD 1 0) 0 40 / 8 * 8
       let room := min (len - s.hdmaDone) (64 - addr % 64)
       let put := data.take (room / 8)
       let fin (t : State) (r : Nat) : Prop := t.hdmaDone = 0 ∧
         (if r ≤ hrEmpty then t.sched.done = s.sched.done ++ [(hdmaUnit, r)] ∧ t.sched.faults = s.sched.faults
          else t.sched.faults = s.sched.faults ++ [(hdmaUnit, ecUnit, r)] ∧ t.sched.done = s.sched.done)
       let moved (t : State) (k : Nat) : Prop :=
         if len ≤ s.hdmaDone + k then fin t hrOk else t.hdmaDone = s.hdmaDone + k ∧ t.sched = s.sched
       let ends (r : Nat) : Prop := ∃ t, exec (.hdmaBurst data err) s = .next t ∧ fin t r ∧ t.fifos = s.fifos ∧ t.dram = s.dram ∧
         (r = hrBadFifo → (t.reg (regKey (fifoPage f) 0x010)).getLsbD 14 = true)
       (len = 0 → ends hrRange) ∧
       (len ≠ 0 → dir = 0 → s.consIs f endHdma = false → ends hrBadFifo) ∧
       (len ≠ 0 → dir = 0 → s.consIs f endHdma = true → x.words = [] →
         (w1.testBit 8 = true → exec (.hdmaBurst data err) s = .next s) ∧ (w1.testBit 8 = false → ends hrEmpty)) ∧
       (∀ ws rest, len ≠ 0 → dir = 0 → s.consIs f endHdma = true → x.words = ws.map some ++ rest → ws ≠ [] →
         ws.length = min (room / 8) x.words.length →
         ∃ t, exec (.hdmaBurst data err) s = .next t ∧ (t.fifo f).words = rest ∧
           t.rdPos f = (s.rdPos f + ws.length) % 2 ^ 32 ∧ moved t (8 * ws.length) ∧
           .hostWrite addr (ws.flatMap fun w => valBytes 8 w.toNat) ∈ t.out) ∧
       (len ≠ 0 → dir = 1 → s.prodIs f endHdma = false → ends hrBadFifo) ∧
       (len ≠ 0 → dir = 1 → s.prodIs f endHdma = true → x.stalls ≠ [] → exec (.hdmaBurst data err) s = .next s) ∧
       (len ≠ 0 → dir = 1 → s.prodIs f endHdma = true → x.stalls = [] → err = true → ends hrHost) ∧
       (len ≠ 0 → dir = 1 → err = false → s.prodIs f endHdma = true → x.stalls = [] → s.fifoRing f = false →
         (let k := min put.length (s.fifoSpace f)
          ∃ t, exec (.hdmaBurst data err) s = .next t ∧ moved t (8 * k) ∧
            (t.fifo f).words = x.words ++ ((put.take k).zip (List.range k)).map (fun e =>
              if 256 ≤ x.words.length + e.2 then none else some e.1) ∧
            (t.fifo f).stalls = (match put.drop k with
              | w :: more => [⟨endHdma, 0, [w], more, s.time.mono, true⟩]
              | [] => []) ∧
            (k < put.length → (t.reg (regKey (fifoPage f) 0x010)).getLsbD 9 = true) ∧ t.dram = s.dram)) ∧
       (len ≠ 0 → 2 ≤ dir → s.inDram da len = false → ends hrRange) ∧
       (len ≠ 0 → dir = 2 → s.inDram da len = true → (∀ a, s.dramErrAt a = 0) → 0 < room →
         ∃ t, exec (.hdmaBurst data err) s = .next t ∧ moved t room ∧ t.dram = s.dram ∧ t.fifos = s.fifos ∧
           .hostWrite addr (s.dramBytes (da + s.hdmaDone) room) ∈ t.out) ∧
       (len ≠ 0 → dir = 2 → s.inDram da len = true → 0 < room → 2 ≤ s.dramErrAt (da + s.hdmaDone) →
         ∃ t, exec (.hdmaBurst data err) s = .next t ∧ fin t hrPoison ∧ t.dram = s.dram ∧ t.fifos = s.fifos) ∧
       (len ≠ 0 → dir = 3 → s.inDram da len = true → err = true → ends hrHost) ∧
       (len ≠ 0 → dir = 3 → s.inDram da len = true → err = false →
         ∃ t, exec (.hdmaBurst data err) s = .next t ∧ moved t (8 * put.length) ∧ t.fifos = s.fifos ∧
           (let bs := put.flatMap fun w => valBytes 8 w.toNat
            let b := da + s.hdmaDone
            b % 8 = 0 → ∀ a, t.dramByte a = if b ≤ a ∧ a < b + bs.length then bs.getD (a - b) 0 else s.dramByte a))))

/-- The command unit accepts, refuses and executes the records of FIFO0 (R282, R283, R284, R285, R286). With fewer
than four commands accepted and a whole good record at the front of FIFO0, COMMAND_ACCEPT takes its words off and
makes its sequence number LAST_ACCEPTED where it lies ahead; a number that skips is reported and taken all the same,
one that does not lie ahead is reported and the record dropped, and a front word that names no record, or one of a
record with a poisoned word, is stepped over, counted and reported, the unit examining what follows; a record not
yet whole waits. A NOP, TASK, WRITE or MARK at the front of the accepted commands is executed: it leaves them,
LAST_EXECUTED takes its number and CMD_DONE is recorded where its record asked for it. A TASK is a command of
requester FIFO0 to the dispatch arbiter; a WRITE is a register write as from PCIe that no gate of the link stops,
and one to a reserved page or a PUSH_WIN is not made and is reported; a MARK is executed when its record is taken,
at once where nothing is before it and where FIFO0 records nothing. The event arbiter's oldest record goes into
FIFO1 as two words where there is room. -/
def Obligations.CommandUnitTakesFifoZero : Prop :=
  ∀ s : State,
    (let p0 := fifoPage 0
     let ev (t : State) (b : Nat) : Prop := (t.reg (regKey p0 0x010)).getLsbD b = true
     let last := s.fld FIFO_LAST_ACCEPTED_SEQ
     (s.fifoLevel 0 = 0 ∨ 4 ≤ s.cmds.length → exec .commandAccept s = .next s) ∧
     (∀ w rest, s.cmds.length < 4 → (s.fifo 0).words = some w :: rest →
       (cmdWordOk w.toNat = false →
         exec .commandAccept s = exec .commandAccept s.badWord ∧ (s.badWord.fifo 0).words = rest ∧ ev s.badWord 16 ∧
         s.badWord.fld FIFO_CMD_BAD_WORDS_COUNT = (s.fld FIFO_CMD_BAD_WORDS_COUNT + 1) % 2 ^ 32) ∧
       (cmdWordOk w.toNat = true → rest.length + 1 < natBits w.toNat 40 8 → exec .commandAccept s = .next s) ∧
       (cmdWordOk w.toNat = true → natBits w.toNat 40 8 ≤ rest.length + 1 →
         (∃ i, i < natBits w.toNat 40 8 ∧ (s.peekAt 0 i).2 = true) →
         exec .commandAccept s = exec .commandAccept s.badWord ∧ (s.badWord.fifo 0).words = rest ∧ ev s.badWord 16) ∧
       (∀ ws more, cmdWordOk w.toNat = true → rest = ws.map some ++ more → ws.length + 1 = natBits w.toNat 40 8 →
         (let seq := natBits w.toNat 0 32
          let d := (seq + 2 ^ 32 - last) % 2 ^ 32
          (0 < d → d < 2 ^ 31 → s.cmds ≠ [] ∨ natBits w.toNat 32 8 ≠ 0 →
            ∃ t, exec .commandAccept s = .next t ∧ (t.fifo 0).words = more ∧ t.fld FIFO_LAST_ACCEPTED_SEQ = seq ∧
              t.cmds = s.cmds ++ [⟨seq, natBits w.toNat 32 8, ws, w.toNat.testBit 48, false, 0⟩] ∧ (1 < d → ev t 18)) ∧
          (0 < d → d < 2 ^ 31 → s.cmds = [] → natBits w.toNat 32 8 = 0 →
            ∃ t, exec .commandAccept s = .next t ∧ (t.fifo 0).words = more ∧ t.cmds = [] ∧
              t.fld FIFO_LAST_ACCEPTED_SEQ = seq ∧ t.fld FIFO_LAST_EXECUTED_SEQ = seq) ∧
          (d = 0 ∨ 2 ^ 31 ≤ d → more = [] →
            ∃ t, exec .commandAccept s = .next t ∧ (t.fifo 0).words = [] ∧ t.cmds = s.cmds ∧ ev t 17 ∧
              t.fld FIFO_LAST_ACCEPTED_SEQ = last)))) ∧
     (∀ (c : CmdS) (rest : List CmdS), s.cmds = c :: rest → c.seq < 2 ^ 32 →
       (let left (t : State) : Prop := t.cmds = rest ∧ t.fld FIFO_LAST_EXECUTED_SEQ = c.seq
        (c.cls = 0 → ∃ t, exec .cmdNop s = .next t ∧ left t ∧
          t = { s with regs := t.regs, cmds := rest, recQ := s.recQ ++
            (if c.doneRec ∧ s.bit (HOST_PAGE_ROUTE_RECORD_EN.nth p0) then
              [⟨p0, 0x21, (c.seq + if c.failed then 2 ^ 32 else 0) % 2 ^ 41, false, s.nowNs, false⟩] else []) }) ∧
        (c.cls = 1 → ∀ together,
          (let w := (c.words.getD 0 0).toNat
           exec (.cmdTask together) s = .next ((s.taskCmd 3 (natBits w 0 8) (natBits w 8 4) together).executed c))) ∧
        (∀ w, c.cls = 2 → c.words = [w] →
          (let p := natBits w.toNat 0 10
           let off := natBits w.toNat 12 12 / 4 * 4
           (blockType p = 0 ∨ (pageBase p = 0x40 ∧ 0x100 ≤ off ∧ off < 0x140) →
             ∃ t, exec .cmdWrite s = .next t ∧ left t ∧ ev t 19 ∧ t.inForce = s.inForce ∧ MemKept s t) ∧
           (∀ r, plainOff p off = true → blockType p ≠ 0 → regRow? p off = some r → writableOff p off = true →
             s.mayWrite .pcie p = true →
             (shadowed p off = true → s.takeable p = false ∧ ∀ n, s.latchPort p = some n → s.latchDue n = false) → ∃ t, exec .cmdWrite s = .next t ∧ left t ∧
               t.reg (regKey p off) = storeWord r (s.reg (regKey p off)) (w.extractLsb' 32 32) ∧ MemKept s t))) ∧
        (c.cls = 3 → c.made = 1 → exec .cmdMark s = .next s) ∧
        (c.cls = 3 → c.made ≠ 1 → s.bit (HOST_PAGE_ROUTE_RECORD_EN.nth p0) = false →
          ∃ t, exec .cmdMark s = .next t ∧ left t ∧ t.recQ = s.recQ) ∧
        (c.cls = 3 → c.made ≠ 1 → c.doneRec = false → s.recQ = [] → (s.evtBuf.filter fun b => !b.2.2).length < 64 →
          s.bit (HOST_PAGE_ROUTE_RECORD_EN.nth p0) = true →
          (let r : RecReq := ⟨p0, 0x20, c.seq, false, s.nowNs, false⟩
           let wds := s.recWords r (s.fld (FIFO_EVT_NEXT_SEQ_SEQ.inst 1))
           ∃ t, exec .cmdMark s = .next t ∧ left t ∧ t.recQ = [] ∧ t.evtBuf = s.evtBuf ++ [(wds.1, wds.2, false)] ∧
             t.fld (FIFO_EVT_NEXT_SEQ_SEQ.inst 1) = (s.fld (FIFO_EVT_NEXT_SEQ_SEQ.inst 1) + 1) % 2 ^ 32)) ∧
        (c.cls ≠ 0 → exec .cmdNop s = .next s) ∧ (c.cls ≠ 1 → ∀ g, exec (.cmdTask g) s = .next s) ∧
        (c.cls ≠ 2 → exec .cmdWrite s = .next s) ∧ (c.cls ≠ 3 → exec .cmdMark s = .next s))) ∧
     (∀ a b k tl, s.evtBuf = (a, b, k) :: tl → s.prodIs 1 endDevice = true → s.fifoRing 1 = false → (s.fifo 1).stalls = [] →
       (2 ≤ s.fifoSpace 1 → ∃ t, exec .eventRecordPush s = .next t ∧ t.evtBuf = tl ∧
         (t.fifo 1).words = (s.fifo 1).words ++ [if 256 ≤ (s.fifo 1).words.length then none else some a,
           if 255 ≤ (s.fifo 1).words.length then none else some b]) ∧
       (s.fifoSpace 1 < 2 → (s.fifo 1).waiting = true → exec .eventRecordPush s = .next s) ∧
       (s.fifoSpace 1 < 2 → (s.fifo 1).waiting = false → ∃ t, exec .eventRecordPush s = .next t ∧ t.evtBuf = s.evtBuf ∧
         (t.fifo 1).words = (s.fifo 1).words ∧ (t.fifo 1).waiting = true ∧
         (t.reg (regKey (fifoPage 1) 0x010)).getLsbD 9 = true)))

/-- A network port's restart, link, pause and low-power idle (R290, R291, R303, R309, R310, R311, R321). A served,
accepted write of NETn.CTRL that changes MODE, FEC or AN_EN discards what the port holds to send, empties its
timestamp queue and takes the link down, with LINK_DOWN if it was up; one that changes nothing of them leaves all as
it was. LINK_UP of a port with a mode and its link down raises the link, records the speed (SGMII only) and raises
LINK_UP; LINK_DOWN discards and counts the frames of no descriptor and raises LINK_DOWN. A PAUSE frame is counted;
honoured, it starts, renews or ends the pause, in a hold-off it is counted as ignored. The pause ends at its
instant; the watchdog ends a pause as long as its limit, starts the hold-off and reports; the hold-off ends at its
instant. TX_LPI is entered and left exactly when the rule allows or requires it, RX_LPI follows the line while the
link is up, and both end with the link; and a failed PLL or clock raises the port's failure with its cause. -/
def Obligations.PortsLinksAndPause : Prop :=
  ∀ (p : Nat) (s : State), p < 4 →
    (let pg := netPage p
     let ev (t : State) (b : Nat) : Prop := (t.reg (regKey pg 0x010)).getLsbD b = true
     let up (t : State) : Bool := t.netUp p
     let grows (t : State) (f : Fld) (k : Nat) : Prop := t.fld (f.inst p) = (s.fld (f.inst p) + k) % 2 ^ f.w
     let paused (t : State) : Bool := t.bit (NET_STATUS_PAUSED.inst p)
     let quietNet (t : State) : Prop := t = { s with regs := t.regs, recQ := t.recQ, out := t.out, nets := t.nets }
     (∀ (q : Req) (v : Word), s.gate q pg = .served → s.mayWrite q pg = true →
       (let m := natBits v.toNat 0 3
        let fec (x : Nat) : Nat := if x = 3 then 0 else x
        let mode := if m ≤ 4 then m else s.fld (NET_CTRL_MODE.inst p)
        let same := mode = s.fld (NET_CTRL_MODE.inst p) ∧ fec (natBits v.toNat 4 2) = fec (s.fld (NET_CTRL_FEC.inst p)) ∧
          natBits v.toNat 3 1 = s.fld (NET_CTRL_AN_EN.inst p)
        ∃ t, exec (.portRestart q p v) s = .next t ∧ t.fld (NET_CTRL_MODE.inst p) = mode ∧
          t.fld (NET_CTRL_FEC.inst p) = fec (natBits v.toNat 4 2) ∧ t.fld (NET_CTRL_AN_EN.inst p) = natBits v.toNat 3 1 ∧
          (same → t = { s with regs := t.regs } ∧ RegsKept (fun k => [regKey pg 0x008, regKey pg 0x01C].contains k) s t) ∧
          (¬ same → (t.net p).buf = [] ∧ (t.net p).queue = [] ∧ (t.net p).tsq = [] ∧ up t = false ∧
            t.fld (NET_TSQ_LEVEL_ENTRIES.inst p) = 0 ∧ t.bit (NET_STATUS_TX_LPI.inst p) = false ∧
            t.bit (NET_STATUS_RX_LPI.inst p) = false ∧ (up s = true → ev t 9)))) ∧
     (∀ speed,
       (s.netMode p ≠ 0 → up s = false → ∃ t, exec (.linkUp p speed) s = .next t ∧ up t = true ∧
         t.fld (NET_STATUS_SPEED.inst p) = (if s.netMode p = 4 then speed % 4 else 0) ∧ ev t 8 ∧ Quiet s t) ∧
       (s.netMode p = 0 ∨ up s = true → exec (.linkUp p speed) s = .next s)) ∧
     (up s = true → ∃ t, exec (.linkDown p) s = .next t ∧ up t = false ∧ (t.net p).buf = [] ∧ (t.net p).queue = [] ∧
       ev t 9 ∧ t.bit (NET_STATUS_TX_LPI.inst p) = false ∧ t.bit (NET_STATUS_RX_LPI.inst p) = false ∧
       grows t NET_TX_DOWN_DROP_COUNT (((s.net p).buf ++ (s.net p).queue).filter fun f => f.desc.isNone).length) ∧
     (up s = false → exec (.linkDown p) s = .next s) ∧
     (∀ quanta,
       (up s = false → exec (.pauseRx p quanta) s = .next s) ∧
       (up s = true → ∃ t, exec (.pauseRx p quanta) s = .next t ∧ grows t NET_PAUSE_RX_COUNT 1 ∧ quietNet t ∧ MemKept s t ∧
         (s.bit (NET_STATUS_PAUSE_HOLDOFF.inst p) = true → grows t NET_PAUSE_IGNORED_COUNT 1 ∧ paused t = paused s) ∧
         (s.bit (NET_STATUS_PAUSE_HOLDOFF.inst p) = false → s.bit (NET_PAUSE_CFG_HONOUR.inst p) = false → paused t = paused s) ∧
         (s.bit (NET_STATUS_PAUSE_HOLDOFF.inst p) = false → s.bit (NET_PAUSE_CFG_HONOUR.inst p) = true →
           (quanta % 65536 = 0 → paused t = false) ∧
           (quanta % 65536 ≠ 0 → paused t = true ∧
             (t.net p).pauseEnd = s.time.mono + psUnits (quanta % 65536 * 512 * s.bitPs p) ∧
             (t.net p).pauseSince = if paused s then (s.net p).pauseSince else s.time.mono)))) ∧
     (let gone := paused s = true ∧ (s.net p).pauseEnd ≤ s.time.mono
      (gone → ∃ t, exec (.pauseExpiry p) s = .next t ∧ paused t = false ∧ t = { s with regs := t.regs } ∧
        RegsKept (fun k => k == (NET_STATUS_PAUSED.inst p).key) s t) ∧
      (¬ gone → exec (.pauseExpiry p) s = .next s)) ∧
     (let d := (s.time.mono - (s.net p).pauseSince) / (1000 * unitsPerNs)
      let long := paused s = true ∧ s.bit (NET_PAUSE_CFG_WD_EN.inst p) = true ∧ s.fld (NET_PAUSE_WD_US_US.inst p) ≤ d
      (long → ∃ t, exec (.pauseWatchdog p) s = .next t ∧ paused t = false ∧
        t.bit (NET_STATUS_PAUSE_HOLDOFF.inst p) = true ∧ ev t 15 ∧ quietNet t ∧
        (t.net p).holdEnd = s.time.mono + s.fld (NET_PAUSE_HOLDOFF_US_US.inst p) * 1000 * unitsPerNs) ∧
      (¬ long → exec (.pauseWatchdog p) s = .next s)) ∧
     (let gone := s.bit (NET_STATUS_PAUSE_HOLDOFF.inst p) = true ∧ (s.net p).holdEnd ≤ s.time.mono
      (gone → ∃ t, exec (.pauseHoldoffEnd p) s = .next t ∧ t.bit (NET_STATUS_PAUSE_HOLDOFF.inst p) = false ∧ ev t 16 ∧ Quiet s t) ∧
      (¬ gone → exec (.pauseHoldoffEnd p) s = .next s)) ∧
     (let n := s.net p
      let may := up s = true ∧ 2 ≤ s.netMode p ∧ s.netMode p ≤ 4 ∧ s.bit (NET_LPI_CFG_EN.inst p) = true ∧
        (s.fld TIME_PTP_CFG_PORT_EN).testBit p = false ∧
        n.idleSince + s.fld (NET_LPI_CFG_IDLE_US.inst p) * 1000 * unitsPerNs ≤ s.time.mono ∧ n.buf = [] ∧ n.queue = [] ∧
        ∀ a, s.nextPaced p = some a → s.time.now + (s.fld (NET_LPI_WAKE_NS_NS.inst p) + 2000) * unitsPerNs < a
      let must := (∃ f ∈ n.buf, f.src ≠ 1) ∨
        ∃ a, s.nextPaced p = some a ∧ a ≤ s.time.now + s.fld (NET_LPI_WAKE_NS_NS.inst p) * unitsPerNs
      (may → ∃ t, exec (.lpiEnter p) s = .next t ∧ t.bit (NET_STATUS_TX_LPI.inst p) = true ∧ t = { s with regs := t.regs } ∧
        RegsKept (fun k => k == (NET_STATUS_TX_LPI.inst p).key) s t) ∧
      (¬ may → exec (.lpiEnter p) s = .next s) ∧
      (s.bit (NET_STATUS_TX_LPI.inst p) = true → must → ∃ t, exec (.lpiExit p) s = .next t ∧
        t.bit (NET_STATUS_TX_LPI.inst p) = false ∧ t = { s with regs := t.regs } ∧
        RegsKept (fun k => k == (NET_STATUS_TX_LPI.inst p).key) s t) ∧
      (¬ (s.bit (NET_STATUS_TX_LPI.inst p) = true ∧ must) → exec (.lpiExit p) s = .next s)) ∧
     (∀ on, (up s = false → exec (.receiveLpi p on) s = .next s) ∧
       (up s = true → ∃ t, exec (.receiveLpi p on) s = .next t ∧ t.bit (NET_STATUS_RX_LPI.inst p) = on ∧
         t = { s with regs := t.regs } ∧ RegsKept (fun k => k == (NET_STATUS_RX_LPI.inst p).key) s t)) ∧
     (∀ pll clk, (pll = true ∨ clk = true → ∃ t, exec (.serdesFail p pll clk) s = .next t ∧ ev t 6 ∧ Quiet s t ∧
         RegsKept (evKey pg) s t) ∧
       (pll = false → clk = false → exec (.serdesFail p pll clk) s = .next s)))

/-- A received frame is counted, filtered and put into its receive ring; stamps are popped in order (R293, R294,
R296, R297, R298, R299, R309, R315). With the link down a frame changes nothing; one that finds the receive buffer
full, which DRAM drains at the guaranteed rate of the port, is counted and raises the overflow event; a runt is
counted and dropped; a MAC control frame is no filter's: with a bad FCS it is counted so, a PAUSE acts as PAUSE_RX,
another is counted. Else every enabled filter that matches counts the hit and the lowest decides, or RX_DEFAULT
where none does; a frame of the PTP ports and addresses of a port the engine is on is copied to the engine whatever
they decide; a good frame of no more than MAX_LEN bytes that is dropped leaves everything but the counters. One
steered to a RING queue with space lies whole in the data ring, its completion record of Table 09-2 in the
completion ring, and both tails have advanced; with no space it is dropped, counted and reported with memory
untouched. A served read of TSQ_0 answers the oldest stamp, keeps the rest of the entry for TSQ_1 and TSQ_2 and
takes it off the queue. -/
def Obligations.FramesReceivedAreSteered : Prop :=
  ∀ (p : Nat) (bs : List Byte) (ok : Bool) (stamp lost : Nat) (s : State), p < 4 →
    (let pg := netPage p
     let ev (t : State) (b : Nat) : Prop := (t.reg (regKey pg 0x010)).getLsbD b = true
     let grows (t : State) (f : Fld) : Prop := t.fld f = (s.fld f + 1) % 2 ^ f.w
     let len := bs.length + 4
     let regsOnly (t : State) : Prop := t = { s with regs := t.regs }
     let netQuiet (t : State) : Prop := t = { s with regs := t.regs, recQ := t.recQ, out := t.out, nets := t.nets }
     let run : Host.Outcome State Fault Refusal := exec (.rxFrame p bs ok stamp lost) s
     let fits : Prop := s.netUp p = true ∧ s.rxLevel p lost < 65536
     let whole : Prop := fits ∧ 64 ≤ len ∧ beField bs 12 2 ≠ 0x8808 ∧ len ≤ s.fld (NET_MAX_LEN_BYTES.inst p) ∧ ok = true
     (s.netUp p = false → run = .next s) ∧
     (s.netUp p = true → 65536 ≤ s.rxLevel p lost →
       ∃ t, run = .next t ∧ grows t (NET_RX_OVF_COUNT.inst p) ∧ ev t 12 ∧ netQuiet t ∧ MemKept s t) ∧
     (fits → len < 64 →
       ∃ t, run = .next t ∧ grows t (NET_RX_FRAMES_COUNT.inst p) ∧ grows t (NET_RX_RUNT_COUNT.inst p) ∧ regsOnly t) ∧
     (fits → 64 ≤ len → beField bs 12 2 = 0x8808 →
       (ok = false → ∃ t, run = .next t ∧ grows t (NET_RX_FCS_BAD_COUNT.inst p) ∧ regsOnly t) ∧
       (ok = true → beField bs 14 2 = 1 →
         run = exec (.pauseRx p (beField bs 16 2)) (s.incFld (NET_RX_FRAMES_COUNT.inst p) 1)) ∧
       (ok = true → beField bs 14 2 ≠ 1 → ∃ t, run = .next t ∧ grows t (NET_RX_MACCTL_COUNT.inst p) ∧ regsOnly t)) ∧
     (whole → s.ptpCopies p bs = true → (∀ m, m < 32 → s.filterHit p m bs = false) → s.act (NET_RX_DEFAULT_DROP.inst p) = 1 →
       run = .next (((s.incFld (NET_RX_FRAMES_COUNT.inst p) 1).incFld (NET_RX_NOMATCH_COUNT.inst p) 1).ptpMessage p bs
         (udpPayload bs) (adjStamp stamp (s.sfld (NET_TS_ADJ_RX_PS_PS.inst p))))) ∧
     (whole → s.ptpCopies p bs = false →
       ((∀ m, m < 32 → s.filterHit p m bs = false) → s.act (NET_RX_DEFAULT_DROP.inst p) = 1 →
         ∃ t, run = .next t ∧ grows t (NET_RX_NOMATCH_COUNT.inst p) ∧ grows t (NET_RX_FRAMES_COUNT.inst p) ∧ regsOnly t) ∧
       (∀ n, n < 32 → s.filterHit p n bs = true → (∀ m, m < n → s.filterHit p m bs = false) →
         (s.act ((NET_FLT_ACT_DROP.inst p).nth n) = 1 → ∃ t, run = .next t ∧ regsOnly t ∧
           (∀ m, m < 32 → t.fld ((NET_FLT_HITS_COUNT.inst p).nth m) =
             (s.fld ((NET_FLT_HITS_COUNT.inst p).nth m) + if s.filterHit p m bs then 1 else 0) % 2 ^ NET_FLT_HITS_COUNT.w)) ∧
         (s.act ((NET_FLT_ACT_DROP.inst p).nth n) = 0 →
           (let q := s.act ((NET_FLT_ACT_QUEUE.inst p).nth n)
            let f (x : Fld) : Fld := (x.inst p).nth q
            let size := 2 ^ s.act (f NET_RXQ_CFG_DATA_LOG2) / 8
            let cpl := 2 ^ s.act (f NET_RXQ_CFG_CPL_LOG2) / 16
            let tail := s.fld (f NET_RXQ_DATA_TAIL_OFF) % size
            let ct := s.fld (f NET_RXQ_CPL_TAIL_INDEX) % cpl
            let units := (bs.length + 7) / 8
            let skip := if size < tail + units then size - tail else 0
            let start := if skip = 0 then tail else 0
            let used := (tail + size - s.fld (f NET_RXQ_DATA_HEAD_OFF) % size) % size
            let noRoom := size ≤ used + skip + units ∨ (ct + 1) % cpl = s.fld (f NET_RXQ_CPL_HEAD_INDEX) % cpl
            let db := s.act (f NET_RXQ_DATA_BASE_BASE) * 4096 + 8 * start
            let cb := s.act (f NET_RXQ_CPL_BASE_BASE) * 4096 + 16 * ct
            let info : RxInfo := ⟨some n, q, s.act ((NET_FLT_ACT_FLOW.inst p).nth n), len, false, false,
              adjStamp stamp (s.sfld (NET_TS_ADJ_RX_PS_PS.inst p)), bs⟩
            s.act (f NET_RXQ_CFG_CONSUMER) = 0 →
            (noRoom → ∃ t, run = .next t ∧ grows t (f NET_RX_QDROP_COUNT) ∧ ev t 11 ∧ netQuiet t ∧ MemKept s t) ∧
            (¬ noRoom → s.inDram db bs.length = true → s.inDram cb 16 = true → (∀ a, s.dramErrAt a = 0) →
              db + bs.length ≤ cb ∨ cb + 16 ≤ db →
              ∃ t, run = .next t ∧ t.dramBytes db bs.length = bs ∧
                t.dramBytes cb 16 = rxRecord info start (mapGet (fun _ => 1) (s.net p).pass q) s.freeVal ∧
                (t.net p).rxFill = min 65536 (s.rxLevel p lost + (bs.length + 16)) ∧
                t.fld (f NET_RXQ_DATA_TAIL_OFF) = (start + units) % size % 2 ^ NET_RXQ_DATA_TAIL_OFF.w ∧
                t.fld (f NET_RXQ_CPL_TAIL_INDEX) = (ct + 1) % cpl % 2 ^ NET_RXQ_CPL_TAIL_INDEX.w ∧
                (∀ a, (a < db ∨ db + bs.length ≤ a) → (a < cb ∨ cb + 16 ≤ a) → t.dramByte a = s.dramByte a) ∧
                (s.act (f NET_RXQ_CFG_NOTIFY) = 1 → ev t 10)))))) ∧
     (∀ (q : Req) (e : TsEnt) (rest : List TsEnt), s.gate q pg = .served → (s.net p).tsq = e :: rest →
       (let v : Nat × Nat × Nat := match e with
          | .stamp st fr id => (st, fr + id * 65536, 1)
          | .gap first lost _ => (0, first * 65536, 2 + lost * 65536)
        ∃ t, exec (.tsqPop q p) s = .next t ∧ t.out = s.out ++ [.data q [BitVec.ofNat 32 v.1]] ∧ (t.net p).tsq = rest ∧
          t.snap q (regKey pg 0x070) = BitVec.ofNat 32 v.2.1 ∧ t.snap q (regKey pg 0x074) = BitVec.ofNat 32 v.2.2 ∧
          MemKept s t)) ∧
     (∀ (q : Req), s.gate q pg = .served → (s.net p).tsq = [] →
       ∃ t, exec (.tsqPop q p) s = .next t ∧ t.out = s.out ++ [.data q [0]] ∧ (t.net p).tsq = []))

/-- Descriptors, their launch and end, the transmit arbiter and the DRAM slot wheel (R300, R302, R304, R305, R306,
R309, R315, R318, R319). TXR_TAIL takes what is written. A port whose ring is enabled, not empty and has none in
progress takes the descriptor at TXR_HEAD: a good one puts its frames, built as Table 09-5 says, into the port's
buffer where there is room and else has them wait for it, held where its launch time lies ahead; a bad one is ended
at once with its code and sends nothing. LAUNCH_AT releases a held one at its instant. A descriptor with nothing
left is ended: words 6 and 7 written back, TXR_HEAD past it, TX_DONE if it asked, TX_ERROR with a code of fault. At
a frame boundary of a port that may send, the arbiter starts the frame of the first source of Table 09-3 whose
oldest frame may start, and sends it whole; a pop of the timestamp queue or a PAUSE frame of the same tick goes
first. Each class has its guaranteed number of positions of the slot wheel, no two consecutive ones farther apart
than 2 × 256 / G. A plan position that is not lent goes to its plan owner alone; the wheel gives a class position to
a client of the class in turn, a surplus one in turn to a class that waits, and to nobody where nobody waits. -/
def Obligations.TransmitRingsAndSlots : Prop :=
  ∀ (p r : Nat) (s : State), p < 4 → r < 4 →
    (let pg := netPage p
     let ev (t : State) (b : Nat) : Prop := (t.reg (regKey pg 0x010)).getLsbD b = true
     let hd := (NET_TXR_HEAD_INDEX.inst p).nth r
     let tl := (NET_TXR_TAIL_INDEX.inst p).nth r
     let size := s.ringSize p r
     (∀ (q : Req) (v : Word), s.gate q pg = .served → s.mayWrite q pg = true →
       ∃ t, exec (.txrTailWrite q p r v) s = .next t ∧ t.fld tl = natBits v.toNat tl.lo tl.w ∧
         RegsKept (fun k => [tl.key, regKey pg 0x01C, regKey pg 0x028].contains k) s t ∧ t = { s with regs := t.regs }) ∧
     (let idx := s.fld hd % size
      let a := s.ringBase p r + 64 * idx
      let d : TxDesc := ⟨(List.range 8).map fun i => s.dramWord (a + 8 * i)⟩
      let t1 := if s.inDram d.hdrAddr d.hdrLen then s.dramBytes d.hdrAddr d.hdrLen else []
      let code := s.descFault p d t1 []
      let ready := s.act ((NET_TXR_CFG_EN.inst p).nth r) = 1 ∧ s.ringRun p r = none ∧ idx ≠ s.fld tl % size
      (¬ ready → exec (.txDescriptor p r) s = .next s) ∧
      (ready → s.inDram a 64 = true → (∀ b, s.dramErrAt b = 0) → s.netUp p = true → d.flag 58 = false →
        (code = tcOk →
          (let past := (d.launch + 2 ^ 32 - s.st32) % 2 ^ 32
           let late := decide (past = 0 ∨ 2 ^ 31 ≤ past)
           let frames : List TxFrame := (d.shares.zip (List.range d.shares.length)).map fun x =>
             ⟨4, r, 0, d.frame t1 x.2 d.shares.length x.1.1 (s.dramBytes (d.payAddr + x.1.2.1) x.1.2.2),
               if d.flag 54 then some ((d.tsId + x.2) % 65536) else none,
               if d.flag 55 then some d.ptpOff else none, some (p, r), none⟩
           let kib := if (s.net p).buf = [] then min 256 (s.fld (NET_TXBUF_PACED_KIB.inst p)) else (s.net p).pacedKib
           ∃ t, exec (.txDescriptor p r) s = .next t ∧ t = { s with nets := t.nets } ∧
             ((s.net p).queue = [] → (((s.net p).buf ++ frames).map fun g => if g.paced then 0 else g.size).sum ≤ (256 - kib) * 1024 →
               (t.net p).buf = (s.net p).buf ++ frames ∧ (t.net p).queue = []) ∧
             (t.net p).buf.length + (t.net p).queue.length =
               (s.net p).buf.length + (s.net p).queue.length + frames.length ∧
             t.ringRun p r = some ⟨idx, d.shares.length, 0, 0, none, if d.flag 56 && late then tcLate else tcOk, tcOk,
               d.flag 56 && !late, d.launch, d.seq, d.flag 57⟩)) ∧
        (code ≠ tcOk → ∃ t, exec (.txDescriptor p r) s = .next t ∧ t.ringRun p r = none ∧ t.net p = s.net p ∧
          t.fld hd = (idx + 1) % size % 2 ^ hd.w ∧ natBits (t.dramWord (a + 56)) 0 8 = 1 + code * 2 ∧ ev t 14 ∧
          (d.flag 57 = true → ev t 13)))) ∧
     (s.ringRun p r = none → exec (.launchAt p r) s = .next s ∧ exec (.txDescriptorDone p r) s = .next s) ∧
     (∀ x, s.ringRun p r = some x →
       (let due := x.held = true ∧ (s.st32 + 2 ^ 32 - x.launch) % 2 ^ 32 < 2 ^ 31
        (due → ∃ t, exec (.launchAt p r) s = .next t ∧ t.ringRun p r = some { x with held := false } ∧
          t = { s with nets := t.nets } ∧ (t.net p).buf = (s.net p).buf) ∧
        (¬ due → exec (.launchAt p r) s = .next s)) ∧
       (x.left ≠ 0 → exec (.txDescriptorDone p r) s = .next s) ∧
       (x.left = 0 → x.code < 8 → x.code2 < 8 →
         (let a := s.ringBase p r + 64 * x.idx
          let frames := max x.sent1 x.sent2
          let code := max x.code x.code2
          ∃ t, exec (.txDescriptorDone p r) s = .next t ∧ t.ringRun p r = none ∧
            t.fld hd = (x.idx + 1) % size % 2 ^ hd.w ∧
            (s.inDram (a + 48) 16 = true →
              t.dramWord (a + 48) = (x.seq + frames) % 2 ^ 32 + (match x.first with | some w => w.toNat | none => 0) * 2 ^ 32 ∧
              t.dramWord (a + 56) = 1 + code * 2 + frames % 2 ^ 24 * 2 ^ 8) ∧
            (∀ b, b < a + 48 ∨ a + 64 ≤ b → t.dramByte b = s.dramByte b) ∧
            (x.notify = true → ev t 13) ∧ (code ≠ tcOk → code ≠ tcLate → ev t 14)))) ∧
     (let idle := s.netUp p = true ∧ s.bit (NET_STATUS_PAUSED.inst p) = false ∧ s.bit (NET_STATUS_TX_LPI.inst p) = false ∧
        (s.net p).lineFree ≤ s.time.mono
      let first (i : Nat) : Option TxFrame := match txOrder[i]? with
        | some o => (s.net p).buf.find? fun f => f.src == o.1 && (f.src != 4 || f.ring == o.2)
        | none => none
      let go : Instr := .txArbitrate p none none
      (¬ idle ∨ (∀ i f, first i = some f → s.mayStart p f = false) → exec go s = .next s) ∧
      (idle → ∀ i f, first i = some f → s.mayStart p f = true → (∀ j g, j < i → first j = some g → s.mayStart p g = false) →
        ∃ t, exec go s = .next t ∧ ((s.net p).queue = [] → (t.net p).buf = (s.net p).buf.erase f) ∧
          t.fld (NET_TX_FRAMES_COUNT.inst p) = (s.fld (NET_TX_FRAMES_COUNT.inst p) + 1) % 2 ^ NET_TX_FRAMES_COUNT.w ∧
          (t.net p).lineFree = s.time.mono + psUnits ((f.bytes.length + 24) * 8 * s.bitPs p) ∧
          (∃ rest, t.out = s.out ++ .netFrame p (match f.oneStep with
            | some o => oneStepFrame f.bytes o s.time.now | none => f.bytes) :: rest) ∧ MemKept s t) ∧
      (s.netUp p = true → ∀ q k, exec (.txArbitrate p (some q) none) s = exec go (s.tsqPop q p) ∧
        exec (.txArbitrate p none (some k)) s = exec go (s.pauseFrame p (k % 65536)))) ∧
     (∀ c g, (c, g) ∈ [(1, s.rxGuarantee), (2, 2), (3, 3), (4, 3), (5, 4)] →
       ((List.range 256).filter fun i => decide (s.wheelMap i = .cls c)).length = g ∧
       ∀ i, s.wheelMap i = .cls c → ∃ d, 1 ≤ d ∧ d * g ≤ 512 ∧ s.wheelMap (i + d) = .cls c) ∧
     (∀ w : WheelSlot,
       (let client (c : Nat) : Option Nat :=
          let l := wheelClients w c
          if c = 5 ∧ s.plan.loading.isSome = true ∧ l.contains 0 = true then some 0
          else nextRound (l.foldl max 0 + 1) (mapGet (fun _ => 0) s.wheel.last c) fun k => l.contains k
        let given (t : State) (c k : Nat) : Prop := t.out = s.out ++ [.wheel c k] ∧ t = { s with out := t.out, wheel := t.wheel } ∧
          mapGet (fun _ => 0) t.wheel.last c = k
        (∀ o, s.wheelMap w.pos = .plan o → s.lentPos o w.planPending = false →
          exec (.dramWheelSlot w) s = .next (if w.planPending then s.emit (.wheel 6 o) else s)) ∧
        (∀ c, s.wheelMap w.pos = .cls c → c ≠ 0 → wheelClients w c ≠ [] → ∃ t k, exec (.dramWheelSlot w) s = .next t ∧
          client c = some k ∧ given t c k ∧ k ∈ wheelClients w c ∧ t.wheel.surplus = s.wheel.surplus) ∧
        ((∃ o, s.wheelMap w.pos = .plan o ∧ s.lentPos o w.planPending = true) ∨
          (∃ c, s.wheelMap w.pos = .cls c ∧ (c = 0 ∨ wheelClients w c = [])) →
          (∀ j, nextRound 5 (s.wheel.surplus + 4) (fun k => !(wheelClients w (k + 1)).isEmpty) = some j →
            ∃ t k, exec (.dramWheelSlot w) s = .next t ∧ client (j + 1) = some k ∧ given t (j + 1) k ∧
              k ∈ wheelClients w (j + 1) ∧ t.wheel.surplus = j + 1) ∧
          ((∀ c, 1 ≤ c → c ≤ 5 → wheelClients w c = []) → exec (.dramWheelSlot w) s = .next s)))))

/-- Frames steered to a flow context, sACN merge and transmit, and video egress (R322, R324, R327, R328, R333, R334,
R335, R336, R337, R339, R340). A good frame steered to a queue whose consumer is FLOW is handed to its context: one
of no receiving type counts as a stray and is reported; a VIDEO_RX context whose unit is off changes counters only,
a packet that is no good RTP packet counts as bad, one too late or already taken counts as late or a duplicate; an
E1.31 data packet of an SACN_RX context joins its universe, replaces its source's slots or is dropped by its
sequence number, and the universe takes the merged value of its sources. A source silent for LOSS_MS leaves its
universe, which is merged anew or, with none left, reported lost. The sACN packet due first is sent on its port with
the universe's next sequence number, and a universe silent for KEEPALIVE_MS is sent again. The oldest picture's next
packet of an egress unit is handed to its port, paced at its due instant, when that is within 20 µs, and is whole in
the buffer where there is room; the last one ends the picture. -/
def Obligations.FlowsReachTheirUnits : Prop :=
  (∀ (p n stamp lost : Nat) (bs : List Byte) (s : State), p < 4 → s.netUp p = true → 64 ≤ bs.length + 4 → beField bs 12 2 ≠ 0x8808 →
    bs.length + 4 ≤ s.fld (NET_MAX_LEN_BYTES.inst p) → s.rxLevel p lost < 65536 → s.ptpCopies p bs = false →
    n < 32 → s.filterHit p n bs = true → (∀ m, m < n → s.filterHit p m bs = false) →
    s.act ((NET_FLT_ACT_DROP.inst p).nth n) = 0 →
    s.act ((NET_RXQ_CFG_CONSUMER.inst p).nth (s.act ((NET_FLT_ACT_QUEUE.inst p).nth n))) = 1 →
    (let c := s.act ((NET_FLT_ACT_FLOW.inst p).nth n)
     let unit := s.act (FLOW_FLOW_CFG_UNIT.nth c)
     let grows (t : State) (f : Fld) : Prop := t.fld f = (s.fld f + 1) % 2 ^ f.w
     let run := exec (.rxFrame p bs true stamp lost) s
     let regsOnly (t : State) : Prop := t = { s with regs := t.regs, nets := t.nets } ∧ grows t (FLOW_FLOW_PKTS_COUNT.nth c)
     c < 256 →
     (s.flowType c = 0 ∨ s.flowType c = ftVideoTx ∨ s.flowType c = ftSacnTx → ∃ t, run = .next t ∧
       grows t FLOW_STRAY_COUNT_COUNT ∧ (t.reg (regKey flowPage 0x010)).getLsbD 8 = true ∧
       t = { s with regs := t.regs, recQ := t.recQ, out := t.out, nets := t.nets }) ∧
     (s.flowType c = ftVideoRx →
       (s.act (INGEST_CTRL_EN.inst unit) = 0 → ∃ t, run = .next t ∧ regsOnly t) ∧
       (s.act (INGEST_CTRL_EN.inst unit) = 1 → unit < 8 →
         (rtpOf bs = none → ∃ t, run = .next t ∧ regsOnly t ∧ grows t (INGEST_BAD_PKT_COUNT.inst unit)) ∧
         (∀ r, rtpOf bs = some r →
           (s.rtpGood unit r = false → ∃ t, run = .next t ∧ regsOnly t ∧ grows t (INGEST_BAD_PKT_COUNT.inst unit)) ∧
           (∀ h, s.rtpGood unit r = true → s.stripeMode = false → (s.ingest unit).high = some h →
             (let q := ((h : Int) + natSigned 32 ((r.q + 2 ^ 32 - h % 2 ^ 32) % 2 ^ 32)).toNat
              (q + 4096 < h → ∃ t, run = .next t ∧ regsOnly t ∧ grows t (INGEST_LATE_PKT_COUNT.inst unit)) ∧
              (h ≤ q + 4096 → (∃ g ∈ (s.ingest unit).got, g.1 = q) →
                ∃ t, run = .next t ∧ regsOnly t ∧ grows t (INGEST_DUP_COUNT_COUNT.inst unit))))))) ∧
     (s.flowType c = ftSacnRx → isUdp bs = true → s.snapHolds s.sacn.snap = false →
       (let b := udpPayload bs
        let opts := beField b 112 1
        let u := beField b 113 2
        let k := beField b 123 2
        let cid := (b.drop 22).take 16
        let prio := beField b 108 1
        let seq := beField b 111 1
        let slots := (b.drop 126).take (k - 1)
        let good := (b.drop 4).take 12 = acnId ∧ beField b 18 4 = 4 ∧ beField b 40 4 = 2 ∧ beField b 117 1 = 2 ∧
          beField b 118 1 = 0xA1 ∧ beField b 119 2 = 0 ∧ beField b 121 2 = 1 ∧ 1 ≤ k ∧ k ≤ 513 ∧ 125 + k ≤ b.length ∧
          s.flowFirst c ≤ u ∧ u < s.flowFirst c + s.flowCount c
        let x := s.univ u
        let src : SacnSrc := ⟨cid, prio, seq, slots, s.sacn.count, s.time.mono⟩
        let taken (t : State) (l : List SacnSrc) : Prop := (t.univ u).srcs = l ∧
          (t.univ u).merged = (mergeUniv (s.bit SACN_RX_CFG_MERGE) l).1 ∧
          (t.univ u).slots = (mergeUniv (s.bit SACN_RX_CFG_MERGE) l).2 ∧ (t.univ u).prio = some (topPrio l) ∧
          (t.univ u).last = some s.st32 ∧ grows t SACN_RX_PKTS_COUNT ∧ MemKept s t
        (¬ good → beField b 18 4 ≠ 8 → ∃ t, run = .next t ∧ regsOnly t ∧ grows t SACN_RX_BAD_COUNT) ∧
        (good → opts.testBit 7 = true ∨ beField b 125 1 ≠ 0 → ∃ t, run = .next t ∧ regsOnly t ∧ grows t SACN_RX_OTHER_COUNT) ∧
        (good → opts.testBit 7 = false → beField b 125 1 = 0 → opts.testBit 6 = false →
          (x.srcs.find? (fun y => y.cid == cid) = none → x.srcs.length < 4 → ∃ t, run = .next t ∧ taken t (x.srcs ++ [src]) ∧
            (t.reg (regKey sacnPage 0x010)).getLsbD 9 = true) ∧
          (∀ y, x.srcs.find? (fun z => z.cid == cid) = some y →
            (let d := natSigned 8 ((seq + 256 - y.seq) % 256)
             (d ≤ 0 → -20 < d → ∃ t, run = .next t ∧ regsOnly t ∧ grows t SACN_RX_SEQ_DROP_COUNT) ∧
             (0 < d ∨ d ≤ -20 → ∃ t, run = .next t ∧ taken t (x.srcs.map fun z => if z.cid = cid then src else z))))))))) ∧
  (∀ (u : Nat) (cid : List Byte) (s : State),
    (let x := s.univ u
     let l := x.srcs.filter fun z => z.cid != cid
     (x.srcs.find? (fun y => y.cid == cid) = none → exec (.sacnSourceTimeout u cid) s = .next s) ∧
     (∀ y, x.srcs.find? (fun z => z.cid == cid) = some y →
       (let gone := y.at_ + s.fld SACN_RX_CFG_LOSS_MS * 1000000 * unitsPerNs ≤ s.time.mono
        (¬ gone → exec (.sacnSourceTimeout u cid) s = .next s) ∧
        (gone → ∃ t, exec (.sacnSourceTimeout u cid) s = .next t ∧ (t.univ u).srcs = l ∧
          (∀ v, v ≠ u → t.univ v = s.univ v) ∧ MemKept s t ∧
          (l ≠ [] → (t.univ u).merged = (mergeUniv (s.bit SACN_RX_CFG_MERGE) l).1 ∧ t = { s with sacn := t.sacn }) ∧
          (l = [] → (t.univ u).merged = (if s.bit SACN_RX_CFG_LOSS then List.replicate 512 0 else x.merged) ∧
            (t.reg (regKey sacnPage 0x010)).getLsbD 8 = true)))))) ∧
  (∀ (s t : State) (c : Instr), c = .sacnTxPacket ∨ (∃ ctx j, c = .sacnKeepalive ctx j) → exec c s = .next t →
    t.pending = s.pending ∧ MemKept s t) ∧
  (∀ s : State, s.sacn.queue = [] → exec .sacnTxPacket s = .next s) ∧
  (∀ (s : State) (x : SacnTx) (a b : List SacnTx), x.ctx < 256 → x.port < 4 → s.sacn.queue = a ++ x :: b →
    (∀ y ∈ a, x.due < y.due) → (∀ y ∈ b, x.due ≤ y.due) →
    (s.time.mono < x.due → exec .sacnTxPacket s = .next s) ∧
    (x.due ≤ s.time.mono → ∃ t, exec .sacnTxPacket s = .next t ∧ t.sacn.queue = a ++ b ∧
      t.fld SACN_TX_PKTS_COUNT = (s.fld SACN_TX_PKTS_COUNT + 1) % 2 ^ SACN_TX_PKTS_COUNT.w ∧
      mapGet (fun _ => 0) t.sacn.seq x.univ = (mapGet (fun _ => 0) s.sacn.seq x.univ + 1) % 256 ∧
      (x.term = true → t.fld SACN_TX_TERMINATED_COUNT = (s.fld SACN_TX_TERMINATED_COUNT + 1) % 2 ^ SACN_TX_TERMINATED_COUNT.w) ∧
      (let fr : TxFrame := ⟨3, 0, 0, s.sacnEther x.port x (s.e131 x (mapGet (fun _ => 0) s.sacn.seq x.univ)), none, none, none, none⟩
       let n := s.net x.port
       let kib := if n.buf = [] then min 256 (s.fld (NET_TXBUF_PACED_KIB.inst x.port)) else n.pacedKib
       (x.pair = false → s.netUp x.port = true → n.queue = [] → roomFor kib n.buf fr = true →
         (t.net x.port).buf = n.buf ++ [fr]) ∧
       (x.pair = false → s.netUp x.port = false → (t.net x.port).buf = n.buf ∧
         t.fld (NET_TX_DOWN_DROP_COUNT.inst x.port) =
           (s.fld (NET_TX_DOWN_DROP_COUNT.inst x.port) + 1) % 2 ^ NET_TX_DOWN_DROP_COUNT.w)))) ∧
  (∀ (s : State) (ctx j : Nat), ctx < 256 →
    (s.sacnLast ctx (s.flowFirst ctx + j) = none → exec (.sacnKeepalive ctx j) s = .next s) ∧
    (∀ at_ x, s.sacnLast ctx (s.flowFirst ctx + j) = some (at_, x) → x.ctx < 256 → x.port < 4 →
      (let ms := s.fld SACN_KEEPALIVE_MS_MS
       let due := ms ≠ 0 ∧ s.flowType ctx = ftSacnTx ∧ j < s.flowCount ctx ∧ x.term = false ∧
         at_ + ms * 1000000 * unitsPerNs ≤ s.time.mono
       (¬ due → exec (.sacnKeepalive ctx j) s = .next s) ∧
       (due → ∃ t, exec (.sacnKeepalive ctx j) s = .next t ∧ t.sacn.queue = s.sacn.queue ∧
         t.fld SACN_TX_KEEPALIVE_COUNT = (s.fld SACN_TX_KEEPALIVE_COUNT + 1) % 2 ^ SACN_TX_KEEPALIVE_COUNT.w ∧
         mapGet (fun _ => 0) t.sacn.seq x.univ = (mapGet (fun _ => 0) s.sacn.seq x.univ + 1) % 256)))) ∧
  (∀ (s : State) (n : Nat), n < 8 →
    (s.egress n = [] → exec (.egressPacketHandover n) s = .next s) ∧
    (∀ j rest, s.egress n = j :: rest →
      (let g := s.egAct n
       let due := j.launch + egDue g j.rate j.next
       let seq := s.fld (EGRESS_SEQ32_SEQ.inst n)
       let port := s.act (EGRESS_TX_PORT.inst n)
       let d := egDesc g ((seq + 2 ^ 32 - j.next % 2 ^ 32) % 2 ^ 32)
       let l := egSrds g d j.next
       let r := s.egData g j.bank j.base l
       let tp := (r.2.readTemplate n 0).1
       (s.time.now + 20000 * unitsPerNs < due → exec (.egressPacketHandover n) s = .next s) ∧
       (due ≤ s.time.now + 20000 * unitsPerNs → ∃ t, exec (.egressPacketHandover n) s = .next t ∧
         t.fld (EGRESS_SEQ32_SEQ.inst n) = (seq + 1) % 2 ^ 32 ∧
         t.egress n = (if egPackets g ≤ j.next + 1 then rest else { j with next := j.next + 1 } :: rest) ∧ MemKept s t ∧
         (egPackets g ≤ j.next + 1 → t.fld (EGRESS_FRAMES_SENT_COUNT.inst n) =
           (s.fld (EGRESS_FRAMES_SENT_COUNT.inst n) + 1) % 2 ^ EGRESS_FRAMES_SENT_COUNT.w) ∧
         (let fr : TxFrame := ⟨1, 0, due, d.frame (putBytes tp (l3Off tp + ipLen tp (l3Off tp) + 12) (valBytesBE 4 j.ts)) j.next
            (egPackets g) (srdHeader (natBits seq 16 16) false l) r.1, none, none, none, none⟩
          let y := s.net port
          let kib := if y.buf = [] then min 256 (s.fld (NET_TXBUF_PACED_KIB.inst port)) else y.pacedKib
          g EGRESS_TX_PAIR = 0 → port < 4 → s.netUp port = true → y.queue = [] → roomFor kib y.buf fr = true →
            (t.net port).buf = y.buf ++ [fr])))))

/-- DMX packets end, arrive, time out and are written to their receive snapshots (R338, R342, R343, R346). At the
end of the packet on a DMX line LINE_BUSY falls and the line is idle from then; a request's end starts the wait for
its response, and ends a broadcast's transaction. A receiving port counts a packet of another start code or one that
breaks the timing, leaving the last accepted one; a good one is accepted, or held while a snapshot is being written.
With no packet for 1 s RX_VALID falls and RX_LOST is raised. When the snapshot of a port is done, the last accepted
packet lies in its set, free values behind its slots (log entry 25), with its length and the time it came, and a
held packet is accepted; the sACN snapshot's end writes every universe of the set that a packet has reached so. -/
def Obligations.DmxPortsSendAndReceive : Prop :=
  ∀ (n : Nat) (s : State), n < 16 →
    (let x := s.dmx n
     let busy (t : State) : Bool := t.bit (DMX_STATUS_LINE_BUSY.inst n)
     let ended := busy s = true ∧ x.busyEnd ≤ s.time.mono
     let dmxOnly (t : State) : Prop := t = { s with regs := t.regs, dmxs := t.dmxs } ∧ ∀ m, m ≠ n → t.dmx m = s.dmx m
     let grows (t : State) (f : Fld) : Prop := t.fld (f.inst n) = (s.fld (f.inst n) + 1) % 2 ^ f.w
     (¬ ended → exec (.dmxPacketEnd n) s = .next s) ∧
     (ended → x.rdm = none ∨ (∃ r, x.rdm = some r ∧ r.sending = false) →
       ∃ t, exec (.dmxPacketEnd n) s = .next t ∧ busy t = false ∧ t.dmx n = { x with idleAt := s.time.mono } ∧ dmxOnly t) ∧
     (∀ r, ended → x.rdm = some r → r.sending = true →
       (r.kind ≠ rkBroadcast → ∃ t, exec (.dmxPacketEnd n) s = .next t ∧ busy t = false ∧
         t.dmx n = { x with idleAt := s.time.mono, rdm := some { r with sending := false } } ∧ dmxOnly t) ∧
       (r.kind = rkBroadcast → s.prodIs 3 endDevice = true → 1 ≤ s.fifoSpace 3 → (s.fifo 3).stalls = [] →
         ∃ t, exec (.dmxPacketEnd n) s = .next t ∧ busy t = false ∧ (t.dmx n).rdm = none ∧
           t.bit (DMX_STATUS_RDM_ACTIVE.inst n) = false ∧ t.sched.done = s.sched.done ++ [(dmxUnit n, roBroadcast)] ∧
           (t.fifo 3).words.length = (s.fifo 3).words.length + 1)) ∧
     (∀ k : DmxIn,
       (let role := s.dmxRole n
        let rx := role = drInput ∨ role = drResponder
        (¬ rx → exec (.dmxRxPacket n k) s = .next s) ∧
        (k.start = 0xCC → role = drResponder → exec (.dmxRxPacket n k) s = .next s) ∧
        (rx → ¬ (k.start = 0xCC ∧ role = drResponder) → k.start % 256 ≠ 0 →
          ∃ t, exec (.dmxRxPacket n k) s = .next t ∧ grows t DMX_RX_OTHER_COUNT ∧ t = { s with regs := t.regs }) ∧
        (rx → k.start % 256 = 0 → k.breakUs < 88 ∨ k.mabUs < 8 ∨ k.framed = false ∨ 512 < k.slots.length →
          ∃ t, exec (.dmxRxPacket n k) s = .next t ∧ grows t DMX_RX_BAD_COUNT ∧ t = { s with regs := t.regs }) ∧
        (rx → k.start % 256 = 0 → 88 ≤ k.breakUs → 8 ≤ k.mabUs → k.framed = true → k.slots.length ≤ 512 →
          ∃ t, exec (.dmxRxPacket n k) s = .next t ∧ grows t DMX_RX_PACKETS_COUNT ∧
            t.bit (DMX_STATUS_RX_VALID.inst n) = true ∧ dmxOnly t ∧
            t.dmx n = if s.snapHolds x.snap then { x with rxAt := s.time.mono, held := some (k.slots, s.st32) }
              else { x with rxAt := s.time.mono, rx := some (k.slots, s.st32) }))) ∧
     (let quiet := s.bit (DMX_STATUS_RX_VALID.inst n) = true ∧ x.rxAt + usUnits 1000000 ≤ s.time.mono
      (quiet → ∃ t, exec (.dmxRxTimeout n) s = .next t ∧ t.bit (DMX_STATUS_RX_VALID.inst n) = false ∧
        (t.reg (regKey (dmxPage n) 0x010)).getLsbD 12 = true ∧ Quiet s t) ∧
      (¬ quiet → exec (.dmxRxTimeout n) s = .next s)) ∧
     (x.snap = none → exec (.snapshotWriteDone n) s = .next s) ∧
     (∀ m slots st, x.snap = some m → x.rx = some (slots, st) → slots.length ≤ 512 → (∀ a, s.dramErrAt a = 0) →
       (let a := s.actPair (DMX_RX_BASE_LO_ADDR.inst n) (DMX_RX_BASE_HI_ADDR.inst n) / 64 * 64 + m % 2 * 576
        s.inDram a 576 = true → ∃ t, exec (.snapshotWriteDone n) s = .next t ∧
          t.dramBytes a 512 = slots ++ valBytes (512 - slots.length) s.freeVal ∧
          t.dramBytes (a + 512) 2 = valBytes 2 slots.length ∧ t.dramBytes (a + 516) 4 = valBytes 4 st ∧
          (∀ b, b < a ∨ a + 520 ≤ b → t.dramByte b = s.dramByte b) ∧ (t.dmx n).snap = none ∧ (t.dmx n).held = none ∧
          (t.dmx n).rx = match x.held with | some h => some h | none => some (slots, st))) ∧
     (s.sacn.snap = none → exec (.snapshotWriteDone 16) s = .next s) ∧
     (∀ m, s.sacn.snap = some m → s.sacn.held = [] → (∀ a, s.dramErrAt a = 0) →
       (∀ u ∈ s.rxUnivs, (s.univ u).merged.length = 512 ∧ (s.univ u).last.isSome = true) →
       (let us := s.rxUnivs
        let base := s.pair SACN_RX_BASE_LO_ADDR SACN_RX_BASE_HI_ADDR / 64 * 64 + m % 2 * (576 * us.length)
        s.inDram base (576 * us.length) = true → ∃ t, exec (.snapshotWriteDone 16) s = .next t ∧ t.sacn.snap = none ∧
          (∀ i u, us[i]? = some u → t.dramBytes (base + 576 * i) 512 = (s.univ u).merged ∧
            t.dramBytes (base + 576 * i + 512) 2 = valBytes 2 (s.univ u).slots ∧
            t.dramBytes (base + 576 * i + 514) 1 = valBytes 1 (s.univ u).srcs.length ∧
            (∀ st, (s.univ u).last = some st → t.dramBytes (base + 576 * i + 516) 4 = valBytes 4 st)) ∧
          (∀ b, b < base ∨ base + 576 * us.length ≤ b → t.dramByte b = s.dramByte b))))

/-- The RDM controller's transaction and the responder's answer (R344, R345, R346, R348, R349). A port's task starts
its request only in a gap its launches leave, which is the task's commit point: the request goes onto the line with
its checksum, LINE_BUSY and RDM_ACTIVE rise; one that breaks Table 10-10 is not sent its task faults and RDM_FAILED
is raised. A response that comes while the transaction waits, or its absence for RESP_WAIT_US, ends the transaction:
its record goes into FIFO3 where that has room and then the task is reported DONE, or FAULTED with RDM_FAIL where
the outcome is a failure. A responder takes good requests addressed to it or to all: it answers an unmuted discovery
it lies in, is muted and unmuted, and puts others into FIFO3 with RDM_IN, an answer waiting for TURN_US where the
request was its own. The answer goes onto the line at its instant, a message with the number of stored answers
beside it and its checksum, and one from the store leaves it. QMSG_PUSH stores an answer of a good length from DRAM,
and raises QMSG_FULL where eight are stored. -/
def Obligations.RdmTransactions : Prop :=
  ∀ (n : Nat) (s : State), n < 16 →
    (let x := s.dmx n
     let u := dmxUnit n
     let prm := s.unitParams u
     let pg := dmxPage n
     let ev (t : State) (b : Nat) : Prop := (t.reg (regKey pg 0x010)).getLsbD b = true
     let room (ws : List DWord) : Prop := s.prodIs 3 endDevice = true ∧ ws.length ≤ s.fifoSpace 3 ∧ (s.fifo 3).stalls = [] ∧
       (s.fifo 3).words.length + ws.length ≤ 256
     let kept (t : State) : Prop := (∀ m, m ≠ n → t.dmx m = s.dmx m)
     let failed (o : Nat) : Prop := o ≠ roOk ∧ o ≠ roNoResponse ∧ o ≠ roDubUid ∧ o ≠ roBroadcast
     let ends (t : State) (r : RdmRun) (o st : Nat) (bs : List Byte) : Prop :=
       (t.dmx n).rdm = none ∧ (t.dmx n).idleAt = s.time.mono ∧ t.bit (DMX_STATUS_RDM_ACTIVE.inst n) = false ∧ kept t ∧
       (t.fifo 3).words = (s.fifo 3).words ++ (rdmRecord r.ctx n o st bs).map some ∧
       (failed o → t.sched.faults = s.sched.faults ++ [(u, 5, o)] ∧ ev t 9) ∧
       (¬ failed o → t.sched.done = s.sched.done ++ [(u, o)])
     (s.unitCtx u = none → exec (.rdmRequestStart n) s = .next s) ∧
     (∀ c, s.unitCtx u = some c →
       (let kind := natBits (s.ctx c).w1 0 2
        let may := s.dmxRole n = drController ∧ u ∉ s.sched.commit ∧ s.rdmGapOk n kind prm = true
        let addr := prm.getD 0 0
        let len := prm.getD 1 0
        let good := natBits addr 40 24 = 0 ∧ 24 ≤ len ∧ len ≤ 255 ∧ prm.getD 2 0 = 0 ∧ prm.getD 3 0 = 0 ∧ prm.getD 4 0 = 0 ∧
          s.inDram addr len = true
        let starts (t : State) (m : List Byte) : Prop := t.out = s.out ++ [.dmx n m] ∧ u ∈ t.sched.commit ∧
          t.bit (DMX_STATUS_LINE_BUSY.inst n) = true ∧ t.bit (DMX_STATUS_RDM_ACTIVE.inst n) = true ∧ kept t ∧
          (t.dmx n).rdm = some ⟨c, kind, s.time.mono + usUnits (s.rdmReqUs n (m.length - 2)), true⟩ ∧
          (t.dmx n).busyEnd = s.time.mono + usUnits (s.rdmReqUs n (m.length - 2)) ∧ MemKept s t
        (¬ may → exec (.rdmRequestStart n) s = .next s) ∧
        (may → kind ≠ rkDub → good → (∀ a, s.dramErrAt a = 0) → beField (s.dramBytes addr len) 2 1 = len →
          ∃ t, exec (.rdmRequestStart n) s = .next t ∧ starts t (s.dramBytes addr len ++ rdmSum (s.dramBytes addr len))) ∧
        (may → kind = rkDub → addr = 0 → natBits len 48 16 = 0 → natBits (prm.getD 2 0) 48 16 = 0 → prm.getD 3 0 = 0 →
          prm.getD 4 0 = 0 →
          (let m := s.dubRequest n (natBits len 0 48) (natBits (prm.getD 2 0) 0 48)
           ∃ t, exec (.rdmRequestStart n) s = .next t ∧ starts t (m ++ rdmSum m))) ∧
        (may → kind ≠ rkDub → ¬ good → ∃ t r, exec (.rdmRequestStart n) s = .next t ∧ t.dmx n = x ∧
          t.sched.faults = s.sched.faults ++ [(u, 5, r)] ∧ ev t 9 ∧ (∀ b, .dmx n b ∈ t.out → .dmx n b ∈ s.out)))) ∧
     (x.rdm = none → (∀ i, exec (.rdmResponse n i) s = .next s) ∧ exec (.rdmResponseTimeout n) s = .next s) ∧
     (∀ r, x.rdm = some r →
       (∀ i : RdmIn,
         (r.sending = true ∨ r.kind = rkBroadcast → exec (.rdmResponse n i) s = .next s) ∧
         (r.sending = false → r.kind ≠ rkBroadcast →
           room (rdmRecord r.ctx n (rdmOutcome r.kind i).1 i.st32 (rdmOutcome r.kind i).2) →
           ∃ t, exec (.rdmResponse n i) s = .next t ∧ ends t r (rdmOutcome r.kind i).1 i.st32 (rdmOutcome r.kind i).2) ∧
         (r.kind = rkRequest → i.framed = true → i.bytes.length = beField i.bytes 2 1 + 2 → i.bytes.length ≤ 257 → beField i.bytes 0 2 = 0xCC01 →
           rdmOutcome r.kind i = (if i.bytes.drop (i.bytes.length - 2) = rdmSum (i.bytes.take (i.bytes.length - 2)) then (roOk, i.bytes)
             else (roChecksum, i.bytes)))) ∧
       (let late := r.sending = false ∧ r.kind ≠ rkBroadcast ∧ r.reqEnd + usUnits (s.act (DMX_RESP_WAIT_US_US.inst n)) ≤ s.time.mono
        let st := st32Of ((s.time.now - (s.time.mono - r.reqEnd)) / unitsPerNs)
        (¬ late → exec (.rdmResponseTimeout n) s = .next s) ∧
        (late → room (rdmRecord r.ctx n roNoResponse st []) →
          ∃ t, exec (.rdmResponseTimeout n) s = .next t ∧ ends t r roNoResponse st []))) ∧
     (∀ b : List Byte,
       (let len := beField b 2 1
        let dst := beField b 3 6
        let cls := beField b 20 1
        let pid := beField b 21 2
        let uid := s.dmxUid n
        let all := dst = 2 ^ 48 - 1 ∨ dst = uid / 2 ^ 32 * 2 ^ 32 + (2 ^ 32 - 1)
        let good := beField b 0 2 = 0xCC01 ∧ b.length = len + 2 ∧ 24 ≤ len ∧ b.drop len = rdmSum (b.take len)
        let mine := s.dmxRole n = drResponder ∧ good ∧ (dst = uid ∨ all)
        let due := s.time.mono + usUnits (s.act (DMX_RESP_CFG_TURN_US.inst n))
        let muted (t : State) : Bool := t.bit (DMX_STATUS_MUTED.inst n)
        (¬ mine → exec (.rdmRequestIn n b) s = .next s) ∧
        (mine → cls = 0x10 → pid = 1 →
          (let inside := beField b 24 6 ≤ uid ∧ uid ≤ beField b 30 6 ∧ muted s = false
           (inside → ∃ t, exec (.rdmRequestIn n b) s = .next t ∧ t = { s with dmxs := t.dmxs } ∧
             t.dmx n = { x with answer := some (discResponse uid, due, false) }) ∧
           (¬ inside → exec (.rdmRequestIn n b) s = .next s))) ∧
        (mine → cls = 0x10 → pid ≠ 1 → ∃ t, exec (.rdmRequestIn n b) s = .next t ∧
          muted t = (if pid = 2 then true else if pid = 3 then false else muted s) ∧ t = { s with regs := t.regs, dmxs := t.dmxs } ∧
          (all → t.dmx n = x) ∧ (¬ all → ∃ m, t.dmx n = { x with answer := some (m, due, false) })) ∧
        (mine → cls ≠ 0x10 → room (rdmRecord 0 n roRequestIn s.st32 b) → ∃ t, exec (.rdmRequestIn n b) s = .next t ∧ ev t 10 ∧
          (t.fifo 3).words = (s.fifo 3).words ++ (rdmRecord 0 n roRequestIn s.st32 b).map some ∧
          (all → t.dmx n = x) ∧ (¬ all → ∃ m q, t.dmx n = { x with answer := some (m, due, q) })))) ∧
     (x.answer = none → exec (.rdmResponderAnswer n) s = .next s) ∧
     (∀ a due fromStore, x.answer = some (a, due, fromStore) →
       (let b := s.finishAnswer n a fromStore
        beField a 0 1 = 0xCC → b = putBytes a 17 [BitVec.ofNat 8 (x.store.length - if fromStore then 1 else 0)] ++
          rdmSum (putBytes a 17 [BitVec.ofNat 8 (x.store.length - if fromStore then 1 else 0)])) ∧
       (let b := s.finishAnswer n a fromStore
        (s.time.mono < due → exec (.rdmResponderAnswer n) s = .next s) ∧
       (due ≤ s.time.mono →
         (fromStore = false → ∃ t, exec (.rdmResponderAnswer n) s = .next t ∧ t.out = s.out ++ [.dmx n b] ∧
           t.dmx n = { x with answer := none } ∧ t = { s with out := t.out, dmxs := t.dmxs }) ∧
         (fromStore = true → room (rdmRecord 0 n roQmsgSent s.st32 b) → ∃ t, exec (.rdmResponderAnswer n) s = .next t ∧
           .dmx n b ∈ t.out ∧ t.dmx n = { x with answer := none, store := x.store.drop 1 } ∧ ev t 10 ∧
           t.fld (DMX_QMSG_LEVEL_COUNT.inst n) = (x.store.length - 1) % 2 ^ DMX_QMSG_LEVEL_COUNT.w ∧
           (t.fifo 3).words = (s.fifo 3).words ++ (rdmRecord 0 n roQmsgSent s.st32 b).map some)))) ∧
     (∀ (q : Req) (v : Word), s.gate q pg = .served → s.mayWrite q pg = true →
       (let len := natBits v.toNat 0 9
        let a := s.pair (DMX_QMSG_ADDR_LO_ADDR.inst n) (DMX_QMSG_ADDR_HI_ADDR.inst n)
        let good := 24 ≤ len ∧ len ≤ 255 ∧ s.inDram a len = true
        (¬ good → exec (.qmsgPush q n v) s = .next (s.countWrite pg)) ∧
        (good → 8 ≤ x.store.length → ∃ t, exec (.qmsgPush q n v) s = .next t ∧ t.dmx n = x ∧ ev t 11 ∧ Quiet s t) ∧
        (good → x.store.length < 8 → (∀ b, s.dramErrAt b = 0) → ∃ t, exec (.qmsgPush q n v) s = .next t ∧
          t.dmx n = { x with store := x.store ++ [s.dramBytes a len] } ∧ kept t ∧
          t.fld (DMX_QMSG_LEVEL_COUNT.inst n) = (x.store.length + 1) % 2 ^ DMX_QMSG_LEVEL_COUNT.w ∧ MemKept s t))))

/-- Each command of a scan script does on the lanes what Table 12-2 says (R380, R383, R384, R385, R390, R391, R397,
R398, R399). A port's sequencer runs the command its front section is at, once the one before has ended, and goes on
behind it for the command's duration; a command of another kind, or one not yet due, changes nothing. END ends the
section. SHIFT_CONST, SHIFT_GAIN and LATCH put their bits on the lanes. SHIFT_DATA shifts the values of the
section's line, highest index first, lane by lane, having fetched the line at its first outputs. GOE drives GOE and
the grayscale clock, but not in the LINE section of B-mode, and on only in the LINE section and not before the first
flip; the grayscale run ends by itself after GCLK_PER_LINE periods. ROW sets the row outputs or the serial bit, in
the LINE section only, WAIT only waits, LOOP notes the place and count, ENDLOOP goes back or on. READ of the whole
chain judges every channel of the read lane by its flags; SHIFT_PROBE shifts a one for each channel probed; PULSE
holds GOE active for DETECT_TICKS. Nothing else of the state changes but for what READ and a fetch do. -/
def Obligations.SequencerRunsScanScripts : Prop :=
  ∀ (n : Nat) (flags : List Bool) (s : State), n < 16 →
    (let x := s.led n
     let cmds : List (Nat × Instr) := [(opEnd, .endOp n), (opShiftData, .shiftData n), (opShiftConst, .shiftConst n), (opShiftGain, .shiftGain n),
       (opLatch, .latchOp n), (opGoe, .goeOp n), (opRow, .rowOp n), (opWait, .waitOp n), (opLoop, .loopOp n), (opEndLoop, .endLoopOp n),
       (opRead, .readOp n flags), (opShiftProbe, .shiftProbe n), (opPulse, .pulseOp n)]
     (∀ q ∈ cmds, x.run = [] → exec q.2 s = .next s) ∧
     (∀ r rest, x.run = r :: rest →
       (let c := s.sectCfg n r.sect
        let w := c.word r.pc
        let on : SeqRun := { r with pc := r.pc + 1, free := s.time.mono + scanUnits (c.opTicks w r.pos) }
        let seq (i : Instr) (x' : LedS) (o : List Out) : Prop :=
          exec i s = .next { s.modLed n (fun _ => x') with out := s.out ++ o }
        let went : LedS := { x with run := on :: rest }
        let l := s.slotLine n
        (∀ q ∈ cmds, s.time.mono < r.free ∨ opOf w ≠ q.1 → exec q.2 s = .next s) ∧
        (r.free ≤ s.time.mono →
          (opOf w = opEnd → seq (.endOp n) { x with run := rest } []) ∧
          (opOf w = opShiftConst → seq (.shiftConst n) went [.line n 1 [natBits w 20 8, natBits w 16 4 + 1, natBits w 0 (natBits w 16 4 + 1)]]) ∧
          (opOf w = opShiftGain → seq (.shiftGain n) went [.line n 2 [natBits w 16 8, 16,
            natSetBits (c.f LED_CONST_BASE_WORD) (natBits w 2 4) (c.f LED_PROFILE_GAIN_BITS) (x.gNext.getD (natBits w 0 2) 0) % 65536]]) ∧
          (opOf w = opLatch → seq (.latchOp n) went [.line n 3 [natBits w 0 8]]) ∧
          (opOf w = opShiftData →
            (let k := c.dataCount w r.pos
             let vals (t : State) : List Nat := (List.range c.lanes).flatMap fun lane => (List.range k).map fun i =>
               mapGet (fun _ => 0) (t.led n).sent (chanKey lane r.line (c.chain - 1 - (r.pos + i)))
             let put (t : State) : Out := .line n 0 (natBits w 16 8 :: c.f LED_PROFILE_DATA_BITS :: vals t)
             (r.pos ≠ 0 ∨ s.picture n = none → seq (.shiftData n) { went with run := { on with pos := r.pos + k } :: rest } [put s]) ∧
             (r.pos = 0 → ∃ t, exec (.shiftData n) s = .next t ∧ (t.led n).run = { on with pos := k } :: rest ∧
               t.out.getLast? = some (put t) ∧ t.dram = s.dram ∧ t.bankMem = s.bankMem))) ∧
          (opOf w = opGoe →
            (let turnOn := w.testBit 0
             let idle : Prop := (r.sect = .line ∧ c.bMode = true) ∨ (((s.scan n).dark = true ∨ r.sect ≠ .line) ∧ turnOn = true)
             (idle → seq (.goeOp n) went []) ∧
             (¬ idle →
               (let off := if turnOn then (if w.testBit 1 then s.time.mono + scanUnits (c.f LED_GCLK_GCLK_PER_LINE * 2 * c.f LED_GCLK_GCLK_HALF) else x.goeOff)
                 else if x.goe then (if x.gclk then min x.goeOff s.time.mono else s.time.mono) else x.goeOff
                seq (.goeOp n) { went with goe := turnOn, gclk := turnOn && w.testBit 1, goeOff := off }
                 [.line n 4 [if turnOn then 1 else 0, if turnOn && w.testBit 1 then 1 else 0]])))) ∧
          (opOf w = opRow →
            (let m := natBits w 0 2
             let pre : List Out := if m = 2 then [.line n 5 [natBits w 2 6, natBits w 8 16]] else []
             (r.sect ≠ .line → seq (.rowOp n) went []) ∧
             (r.sect = .line → c.f SCAN_MODE_ROW_SERIAL = 1 → m = 0 → seq (.rowOp n) went [.line n 6 [if l = 0 then 1 else 0]]) ∧
             (r.sect = .line → c.f SCAN_MODE_ROW_SERIAL = 0 ∨ m ≠ 0 → c.f SCAN_MODE_ROW_SERIAL ≤ 1 →
               (let v := if m = 1 then natBits w 2 6 else l
                seq (.rowOp n) { went with row := v } (pre ++ [.line n 5 [v]]))))) ∧
          (opOf w = opWait → seq (.waitOp n) went []) ∧
          (opOf w = opLoop → seq (.loopOp n) { x with run :=
            { r with pc := r.pc + 1, loop := some (r.pc + 1, natBits w 0 8), free := s.time.mono } :: rest } []) ∧
          (opOf w = opEndLoop →
            (∀ st k, r.loop = some (st, k) → seq (.endLoopOp n) { x with run := (if k ≤ 1
              then { r with pc := r.pc + 1, loop := none, free := s.time.mono }
              else { r with pc := st, loop := some (st, k - 1), free := s.time.mono }) :: rest } []) ∧
            (r.loop = none → seq (.endLoopOp n) went [])) ∧
          (opOf w = opRead →
            (natBits w 0 16 ≠ 0 → seq (.readOp n flags) went []) ∧
            (natBits w 0 16 = 0 → flags.length ≠ (s.inCfg n).readBits w → exec (.readOp n flags) s = .next s) ∧
            (natBits w 0 16 = 0 → flags.length = (s.inCfg n).readBits w → c.chain ≤ 65536 → c.lines ≤ 64 →
              c.f LED_DIAG_CFG_READ_LANE < c.lanes →
              ∃ t, exec (.readOp n flags) s = .next t ∧ (t.led n).run = on :: rest ∧
                (∀ a o, a < c.lines → o < c.chain →
                  (let k := chanKey (c.f LED_DIAG_CFG_READ_LANE) a o
                   let i := c.chain - 1 - o
                   let two := c.f LED_PROFILE_READ2 = 1
                   let opened := if two then flags.getD (2 * i) false else flags.getD i false
                   let short := if two then flags.getD (2 * i + 1) false else false
                   let sure := decide (c.f LED_DETECT_DETECT_TICKS ≤ (s.useCfg n).pulse (mapGet (fun _ => 0) x.shown k)) || x.probed.contains k
                   let y := (s.chan n k).judge (c.f LED_DIAG_CFG_CONFIRM) x.ticks sure opened short
                   t.chan n k = { y with map := y.st })) ∧
                ((t.led n).chainReq = (x.chainReq || (flags.all (fun b => b) || flags.all fun b => !b))))) ∧
          (opOf w = opShiftProbe → seq (.shiftProbe n) went [.line n 7 ((List.range c.chain).map fun i =>
            if x.probed.contains (chanKey (c.f LED_DIAG_CFG_READ_LANE) l (c.chain - 1 - i)) then 1 else 0)]) ∧
          (opOf w = opPulse → seq (.pulseOp n)
            { went with goeOff := max x.goeOff (s.time.mono + scanUnits (c.f LED_DETECT_DETECT_TICKS)) }
            [.line n 8 [c.f LED_DETECT_DETECT_TICKS]])))))

/-- Latch points, port frames, line slots and bit planes of a scan port (R356, R357, R359, R370, R371, R373, R375,
R376, R390). A latch point that has come takes the commits armed for it, makes their settings those of the incoming
frame, opens the eclipse and decides the frame: on a change of timing the blank frame of a mode change, or the end
of the port; of a HOST source with a flip pending a flip if a window holds the fetch, else a hold frame; with none
pending a hold frame; of a PLAN source the picture of the frame with its emitting transit number, taken where its
entry is ready, not shed and a window holds the fetch, else a hold frame, EMIT_LATE raised unless it was shed or
there is none. A frame start that has come counts the frame: a picture taken and fetched in time is a flip, its
number and time in LAST_FLIP, else a hold frame, EMIT_LATE raised where the picture was late; a blank frame shows
nothing and is counted; a port turned off reads OFF; inside a seam, where only the frame of its first tick starts,
STATE reads SEAM. Each line slot that has come turns GOE off and starts the LINE section, in a blank frame only the
slot number goes on. A plane period of B-mode turns GOE on for its weight and shifts the next plane. Before their
instants these commands change nothing. -/
def Obligations.PortFramesSlotsAndPlanes : Prop :=
  ∀ (n : Nat) (s : State), n < 16 →
    (let x := s.scan n
     let state (t : State) : Nat := t.fld (SCAN_STATUS_STATE.inst n)
     let grows (t : State) (f : Fld) : Prop := t.fld (f.inst n) = (s.fld (f.inst n) + 1) % 2 ^ f.w
     let frames (t : State) : Prop := grows t SCAN_FRAME_COUNT_COUNT ∧ (t.scan n).frame = x.next ∧ (t.scan n).frameAt = x.nextAt ∧
       (t.scan n).cfgIn = x.cfgIn ∧ t.bit (SCAN_STATUS_ECLIPSE.inst n) = false
     (∀ chain, s.latchDue n = false → exec (.latchPoint n chain) s = .next s) ∧
     (∀ chain, s.latchDue n = true →
       (let u := s.takeAtLatch n
        let old := u.inCfg n
        let c := u.cfgOf n (u.inForceOf n)
        let moved := (timingFields.any fun f => c.f f != old.f f) = true ∨ (u.scan n).moved = true
        ∃ t, exec (.latchPoint n chain) s = .next t ∧ (t.scan n).latched = true ∧ (t.scan n).cfgIn = u.inForceOf n ∧
          t.bit (SCAN_STATUS_ECLIPSE.inst n) = true ∧ (t.scan n).next = (u.scan n).next ∧
          (moved → (t.scan n).kind = if c.f SCAN_CTRL_EN = 1 ∧ s.bit SYS_STATUS_RECOVERY = false then .blank else .off) ∧
          (¬ moved → c.host = true → u.bit (SCAN_FLIP_INFO_PENDING.inst n) = true →
            (t.windowOk n = true → (t.scan n).kind = .taken (u.actPair (SCAN_FRAME_ADDR_LO_ADDR.inst n) (SCAN_FRAME_ADDR_HI_ADDR.inst n)) false true ∧
              t.bit (SCAN_FLIP_INFO_PENDING.inst n) = false ∧
              t.fld (SCAN_FLIP_STATUS_FRAME.inst n) = lo32 (u.scan n).next % 2 ^ SCAN_FLIP_STATUS_FRAME.w) ∧
            (t.windowOk n = false → (t.scan n).kind = .hold ∧ t.bit (SCAN_FLIP_INFO_PENDING.inst n) = true ∧
              (t.reg (regKey (scanPage n) 0x010)).getLsbD 10 = true)) ∧
          (¬ moved → c.host = true → u.bit (SCAN_FLIP_INFO_PENDING.inst n) = false → (t.scan n).kind = .hold) ∧
          (¬ moved → c.host = false →
            (let from_ := u.plan.frames.find? fun f => f.plan.emitTransit f.n == (u.scan n).next
             let late : Prop := (t.scan n).kind = .hold ∧ (t.reg (regKey (scanPage n) 0x010)).getLsbD 3 = true
             (from_ = none → (t.scan n).kind = .hold) ∧
             (∀ f, from_ = some f → (∀ e ∈ f.plan.emit, e.page ≠ scanPage n) → (t.scan n).kind = .hold) ∧
             (∀ f e k, from_ = some f →
               (f.plan.emit.zip (List.range f.plan.emit.length)).find? (fun q => q.1.page == scanPage n) = some (e, k) →
               (e.level ≠ 0 → e.level ≤ f.shed → (t.scan n).kind = .hold) ∧
               (e.level = 0 → f.skipped = true ∨ (e.noReady = false ∧ (f.emitAt k).readyAt = none) → late) ∧
               (e.level = 0 → f.skipped = false → e.noReady = true → e.baseSel ≠ 9 →
                 (t.windowOk n = true → (t.scan n).kind = .taken (u.emitBase f e) (e.baseSel == 0x1F) false) ∧
                 (t.windowOk n = false → late))))))) ∧
     (let due := x.on = true ∧ x.nextAt ≤ s.time.now ∧ (x.seam = false ∨ ∃ k, s.time.transit = some k ∧ x.nextAt ≤ k.2)
      let shows (k : Nat) : Nat := if x.seam then 4 else k
      (∀ late, ¬ due → exec (.portFrameStart n late) s = .next s) ∧
      (∀ late, due → x.kind = .off → ∃ t, exec (.portFrameStart n late) s = .next t ∧ state t = 0 ∧ (t.scan n).on = false ∧
        (t.led n).run = [] ∧ (t.led n).goe = false ∧ MemKept s t) ∧
      (∀ late, due → x.kind = .blank → ∃ t, exec (.portFrameStart n late) s = .next t ∧ state t = 3 ∧ frames t ∧
        grows t SCAN_BLANK_COUNT_COUNT ∧ (t.scan n).dark = true ∧ (t.scan n).cfg = x.cfg ∧ MemKept s t) ∧
      (∀ b k h, due → x.kind = .taken b k h → (∀ r ∈ (s.led n).run, r.sect ≠ .lineBlock) → (s.inCfg n).bMode = false →
        ∃ t, exec (.portFrameStart n false) s = .next t ∧ state t = shows 1 ∧ frames t ∧ (t.scan n).cfg = x.cfgIn ∧
          (t.scan n).next = x.next + 1 ∧ grows t SCAN_FLIP_COUNT_COUNT ∧ (t.scan n).dark = false ∧
          t.fld (SCAN_LAST_FLIP_FRAME_FRAME.inst n) = lo32 x.next ∧ t.fld (SCAN_LAST_FLIP_ST32_ST32.inst n) = s.st32 ∧
          (t.led n).shown = (s.led n).sent ∧ MemKept s t) ∧
      (∀ late, due → x.kind = .hold ∨ x.kind = .none ∨ (late = true ∧ ∃ b k h, x.kind = .taken b k h) →
        ∃ t, exec (.portFrameStart n late) s = .next t ∧ state t = shows 2 ∧ frames t ∧ (t.scan n).cfg = x.cfgIn ∧
          (t.scan n).next = x.next + 1 ∧ grows t SCAN_HOLD_COUNT_COUNT ∧ (t.scan n).holdRun = x.holdRun + 1 ∧
          (x.kind ≠ .hold → x.kind ≠ .none → (t.reg (regKey (scanPage n) 0x010)).getLsbD 3 = true) ∧ MemKept s t)) ∧
     (let c := s.useCfg n
      let at_ (j : Nat) : Nat := x.frameAt + scanUnits (c.slotTicks (max 1 x.passes) j)
      let due := x.on = true ∧ state s ≠ 0 ∧ (x.slot < x.passes * c.lines ∨ x.seam = true) ∧ at_ x.slot ≤ s.time.now
      (¬ due → exec (.lineSlotStart n) s = .next s) ∧
      (due → ∃ t, exec (.lineSlotStart n) s = .next t ∧ (t.scan n).slot = x.slot + 1 ∧ (t.scan n).slotAt = at_ x.slot ∧
        (state s = 3 → t = { s with scans := t.scans }) ∧
        (state s ≠ 3 → (t.led n).goe = false ∧ (∃ q, (t.led n).charge = (s.led n).charge ++ [(at_ x.slot, at_ (x.slot + 1), q)]) ∧
          (∀ e, c.entry .line = some e → (t.led n).run.head? = some ⟨.line, e, none, 0, 0, s.time.mono⟩)) ∧ MemKept s t)) ∧
     (let c := s.useCfg n
      ((s.led n).plane = none → exec (.bmodePlane n) s = .next s) ∧
      (∀ k at_, (s.led n).plane = some (k, at_) →
        (¬ (c.bMode = true ∧ at_ ≤ s.time.mono) → exec (.bmodePlane n) s = .next s) ∧
        (c.bMode = true → at_ ≤ s.time.mono →
          (let unit := c.f LED_BPLANE_UNIT * 2 ^ k
           let sh := if k = 0 then 0 else c.planeShift
           ∃ t, exec (.bmodePlane n) s = .next t ∧ (t.led n).goeOff = s.time.mono + scanUnits unit ∧
             (t.led n).plane = (if k = 0 then none
               else some (k - 1, s.time.mono + scanUnits (max unit sh + c.f LED_BPLANE_PLANE_GAP))) ∧
             t.out = s.out ++ .line n 11 [unit] :: (if k = 0 then []
               else [.line n 10 (c.f LED_BPLANE_PLANE_GAP :: (k - 1) :: s.planeBits n (s.slotLine n) (k - 1) c)]) ∧
             t = { s with out := t.out, leds := t.leds })))))

/-- Script words, curve knots, the curve generator, chain tests and verify ages of an LED block (R382, R392, R393,
R398, R400). A served, accepted write of LEDn.CTRL takes its shadowed bits; CHAIN_TEST asks for a test and GEN
starts the generator on the bank not in force unless it runs. When it is done the 1,025 knots of its curve hold the
generated values, GEN_BUSY falls and GEN_DONE is raised. A write of a script word of a half, or of a knot of a bank,
that is in force or that the port still runs with, changes nothing and raises SELECTED_WRITE; of the other half or
bank it takes the value; CURVE_DATA moves on to the next knot after each write and each read, from the last to the
first, and a read answers the knot. At a tick of verify age a running port with diagnosis on makes every channel
that is OK or unknown and older than AGE_LIMIT unverified, and leaves the others' states. -/
def Obligations.LedScriptsCurvesAndAges : Prop :=
  ∀ (n : Nat) (s : State), n < 16 →
    (let x := s.led n
     let pg := ledPage n
     let ev (t : State) (b : Nat) : Prop := (t.reg (regKey pg 0x010)).getLsbD b = true
     let knot := s.fld (LED_CURVE_IDX_KNOT.inst n)
     let curve := s.fld (LED_CURVE_IDX_CURVE.inst n)
     let bank := s.fld (LED_CURVE_IDX_BANK.inst n)
     let moved (t : State) : Prop := t.fld (LED_CURVE_IDX_KNOT.inst n) = if 1024 ≤ knot then 0 else knot + 1
     let busy (t : State) : Bool := t.bit (LED_STATUS_GEN_BUSY.inst n)
     let inUse (f : Fld) (v : Nat) : Prop := s.act (f.inst n) = v ∨
       ((s.scan n).on = true ∧ ((s.inCfg n).f f = v ∨ (s.useCfg n).f f = v))
     (∀ (q : Req) (v : Word), s.gate q pg = .served → s.mayWrite q pg = true →
       (∃ t, exec (.chainTestWrite q n v) s = .next t ∧ exec (.gen q n v) s = .next t ∧
         t = { s with regs := t.regs, leds := t.leds } ∧ (∀ m, m ≠ n → t.led m = s.led m) ∧
         (t.led n).chainReq = (x.chainReq || v.getLsbD 3) ∧
         (v.getLsbD 4 = true → busy s = false → busy t = true ∧ (t.led n).gen = some (s.fld (LED_GEN_CFG_CURVE.inst n),
           1 - s.act (LED_CURVE_SEL_BANK.inst n), s.fld (LED_GEN_CFG_TYPE.inst n), s.fld (LED_GEN_CFG_GAMMA_Q.inst n),
           s.fld (LED_GEN_CFG_RANGE.inst n), s.time.mono)) ∧
         (v.getLsbD 4 = false ∨ busy s = true → busy t = busy s ∧ (t.led n).gen = x.gen)) ∧
       (∀ k, k < 512 →
         (inUse LED_SCRIPT_SEL_HALF (k / 256) → ∃ t, exec (.scriptWrite q n k v) s = .next t ∧ ev t 16 ∧ Quiet s t ∧
           t.fld ((LED_SCRIPT_CMD.inst n).nth k) = s.fld ((LED_SCRIPT_CMD.inst n).nth k)) ∧
         (¬ inUse LED_SCRIPT_SEL_HALF (k / 256) → ∃ t, exec (.scriptWrite q n k v) s = .next t ∧
           t.fld ((LED_SCRIPT_CMD.inst n).nth k) = v.toNat ∧ t = { s with regs := t.regs } ∧
           RegsKept (fun r => [((LED_SCRIPT_CMD.inst n).nth k).key, regKey pg 0x01C].contains r) s t)) ∧
       (inUse LED_CURVE_SEL_BANK bank → ∃ t, exec (.curveDataWrite q n v) s = .next t ∧ ev t 16 ∧ moved t ∧ Quiet s t) ∧
       (¬ inUse LED_CURVE_SEL_BANK bank → ∃ t, exec (.curveDataWrite q n v) s = .next t ∧ moved t ∧
         (∀ b c k, t.knot n b c k = if knotKey b c k = knotKey bank curve knot then v.toNat % 65536 else s.knot n b c k) ∧
         t = { s with regs := t.regs, leds := t.leds })) ∧
     (∀ q : Req, s.gate q pg = .served → ∃ t, exec (.curveDataRead q n) s = .next t ∧ moved t ∧
       t.out = s.out ++ [.data q [BitVec.ofNat 32 (s.knot n bank curve knot)]] ∧ t = { s with regs := t.regs, out := t.out }) ∧
     (x.gen = none → exec (.genDone n) s = .next s) ∧
     (∀ c b ty q r at_, x.gen = some (c, b, ty, q, r, at_) → ∃ t, exec (.genDone n) s = .next t ∧ busy t = false ∧ ev t 15 ∧
       (t.led n).gen = none ∧ (∀ i, i ≤ 1024 → t.knot n b c i = genKnot ty q r (min (64 * i) 65535)) ∧
       (∀ k, k < knotKey b c 0 ∨ knotKey b c 0 + 1025 ≤ k →
         mapGet (fun _ => 0) (t.led n).knots k = mapGet (fun _ => 0) x.knots k) ∧ MemKept s t) ∧
     (let c := s.useCfg n
      let runs := (s.scan n).on = true ∧ c.f LED_CTRL_DIAG_EN = 1
      (¬ runs → exec (.verifyAgeTick n) s = .next s) ∧
      (runs → ∃ t, exec (.verifyAgeTick n) s = .next t ∧ (t.led n).ticks = x.ticks + 1 ∧ MemKept s t ∧
        (∀ k, (t.chan n k).st =
          (if k ∈ c.channels ∧ ((s.chan n k).st = chUnknown ∨ (s.chan n k).st = chOk) ∧
              c.f LED_DIAG_CFG_AGE_LIMIT < min 255 (x.ticks + 1 - (s.chan n k).since) then chUnverified else (s.chan n k).st)))))

/-- Sequences, conversions and die sensors of the sense block (R403, R404, R405, R406, R409, R412, R414, R428, R452,
R486). A sequence starts once per 16 µs of the grid: its phase is its number modulo 4, no conversion is done in it,
the configuration of the page comes into force, and the stand-in moves on: an adopted channel stays, a channel under
PATH settles, is published and calibrated, is published while it settles again, and is let go. A conversion outside
a sequence, in a block switched off or beyond its slots changes nothing. A channel's conversion is corrected and
joins its group; with the last of the group the channel's VALUE, VALID and STANDIN are published, with the change of
VALID and of a limit raised. A channel under PATH gives pairs of conversions, normal and inverted, to the step
instead. A trigger conversion ends the held sample and streams it. A reading of a die sensor is published and an
over-temperature remembered; one above 130 °C or below -55 °C is a tamper event where TEMP is enabled; a sensor that
has disagreed for 1 s is switched off and DTS_FAULT raised. -/
def Obligations.SenseSequencesAndConversions : Prop :=
  (∀ s : State,
    (let k := seqNo s.time.now
     let path (c : Nat) (p : CalStep) : Prop := s.cal.step = some p ∧ p.step = stPath ∧ p.chan = c
     (s.sense.seq = some k → exec .senseSequenceStart s = .next s) ∧
     (s.sense.seq ≠ some k → ∃ t, exec .senseSequenceStart s = .next t ∧ t.sense.seq = some k ∧ t.sense.phase = k % 4 ∧
       t.sense.done = [] ∧ t.sense.cfg = s.pageCopy sensePage ∧ t.sense.groups = s.sense.groups ∧ MemKept s t ∧
       (∀ c, s.sense.adopted = some c → t.sense.stand = .on c ∧ t.fld SENSE_STATUS_STANDIN_FOR = c % 32) ∧
       (s.sense.adopted = none →
         (∀ c p, c < 24 → path c p → s.sense.stand = .none → t.sense.stand = .settle c) ∧
         (∀ c p, c < 24 → path c p → s.sense.stand = .settle c → t.sense.stand = .on c ∧ t.cal.step = some { p with ready := true }) ∧
         (∀ c p, c < 24 → path c p → s.sense.stand = .on c → t.sense.stand = .on c ∧ t.cal.step = some p) ∧
         (∀ c, s.cal.step = none → s.sense.stand = .on c ∨ s.sense.stand = .settle c → t.sense.stand = .off c) ∧
         (∀ c, s.sense.stand = .off c → t.sense.stand = .none ∧ t.fld SENSE_STATUS_STANDIN_FOR = 31) ∧
         (s.cal.step = none → s.sense.stand = .none → t.sense.stand = .none))))) ∧
  (∀ (ch code : Nat) (trig : Bool) (s : State),
    (let k := code % 65536
     let did (key : Nat) : Nat := mapGet (fun _ => 0) s.sense.done key
     let live := s.snsCfg SENSE_CTRL_EN = 1 ∧ s.sense.seq ≠ none
     let fifo := s.prodIs 4 endDevice = true ∧ 1 ≤ s.fifoSpace 4 ∧ (s.fifo 4).stalls = [] ∧ (s.fifo 4).words.length < 256
     let zero : SenseGroup := ⟨0, 0, 0, false⟩
     (¬ live → exec (.senseConversion ch trig code) s = .next s) ∧
     (trig = true → s.snsHeld = none ∨ 4 ≤ did 25 → exec (.senseConversion ch trig code) s = .next s) ∧
     (∀ h v, live → trig = true → s.snsHeld = some h → did 25 < 4 → s.readingOf h k = some v →
       ∃ t, exec (.senseConversion ch trig code) s = .next t ∧ t.snsHeld = none ∧
         mapGet (fun _ => 0) t.sense.done 25 = did 25 + 1 ∧ t.sense.groups = s.sense.groups) ∧
     (∀ h v, live → trig = true → s.snsHeld = some h → did 25 < 4 → s.readingOf h k = some v →
       s.snsCfg SENSE_CTRL_STREAM_EN = 1 → s.snsCfg SENSE_STREAM_MASK_TRIG = 1 → fifo →
       ∃ t, exec (.senseConversion ch trig code) s = .next t ∧ t.snsHeld = none ∧
         (t.fifo 4).words = (s.fifo 4).words ++ [some (BitVec.ofNat 64 (intBits 16 v + h.ch * 2 ^ 16 +
           (if h.front = 24 then 2 ^ 21 else 0) + 2 ^ 22 + (if State.sampleValid h k then 2 ^ 23 else 0) + h.at_ * 2 ^ 32))]) ∧
     (trig = false → 24 < ch ∨ slotsOf ch s.sense.phase ≤ did ch → exec (.senseConversion ch trig code) s = .next s) ∧
     (∀ p, live → trig = false → ch ≤ 24 → did ch < slotsOf ch s.sense.phase → s.chopStep ch = some p →
       (let more := p.n < 2 ^ cfgFld p.cfg CAL_CHOP_CFG_CHOP_LOG2
        ∃ t, exec (.senseConversion ch trig code) s = .next t ∧ t.regs = s.regs ∧ t.sense.groups = s.sense.groups ∧
          (¬ more → t.cal = s.cal) ∧
          (more → p.first = none → t.cal.step = some { p with first := some k }) ∧
          (∀ a, more → p.first = some a →
            (let e : Rat := ((a + k : Nat) : Rat) / 2
             t.cal.step = some { p with first := none, n := p.n + 1, s1 := p.s1 + e, s2 := p.s2 + e * e })))) ∧
     (∀ c sb v, live → trig = false → did ch < slotsOf ch s.sense.phase → s.chopStep ch = none →
       ((sb = false ∧ ch = c ∧ c < 24 ∧ s.frontOf c = c) ∨ (sb = true ∧ ch = 24 ∧ c < 24 ∧ (s.sense.stand = .on c ∨ s.sense.stand = .off c))) →
       s.readingOf (s.corrOf c) k = some v →
       (let ok := State.sampleValid (s.corrOf c) k
        let g0 := mapGet (fun _ => zero) s.sense.groups c
        let g : SenseGroup := ⟨g0.count + 1, g0.valid + if ok then 1 else 0, g0.sum + if ok then v else 0, sb⟩
        let full := 2 ^ s.avgLog c ≤ g.count
        let reg (t : State) : Word := t.reg (SENSE_VALUE_VALUE.nth c).key
        let ev (t : State) (b : Nat) : Prop := (t.reg (regKey sensePage 0x010)).getLsbD b = true
        ∃ t, exec (.senseConversion ch trig code) s = .next t ∧ mapGet (fun _ => 0) t.sense.done ch = did ch + 1 ∧
          (¬ full → mapGet (fun _ => zero) t.sense.groups c = g ∧ reg t = reg s) ∧
          (full → mapGet (fun _ => zero) t.sense.groups c = zero ∧ t.bit (SENSE_VALUE_VALID.nth c) = (g.valid == g.count) ∧
            t.bit (SENSE_VALUE_STANDIN.nth c) = sb ∧
            t.fld (SENSE_VALUE_VALUE.nth c) = (if g.valid = g.count then intBits 16 (roundDiv g.sum (max 1 g.valid))
              else s.fld (SENSE_VALUE_VALUE.nth c)) ∧
            (s.bit (SENSE_VALUE_VALID.nth c) ≠ (g.valid == g.count) → ev t 8)))))) ∧
  (∀ (n : Nat) (v : Int) (s : State), n < 8 →
    (∃ t, exec (.dtsReading n v) s = .next t ∧ t.fld (SENSE_DTS_T.nth n) = intBits 16 v ∧ t.bit (SENSE_DTS_VALID.nth n) = true ∧
      t.groom.hot = (s.groom.hot || decide (1520 < v)) ∧
      (-880 ≤ v → v ≤ 2080 → s.tempOut = false → 3 ∉ s.key.lines → RegsKept (fun r => r == (SENSE_DTS_T.nth n).key) s t ∧
        t = { s with regs := t.regs, sense := t.sense, groom := t.groom }) ∧
      (2080 < v ∧ v < 32768 ∨ -32768 ≤ v ∧ v < -880 → n ∉ s.dtsOff → s.tamperOn 3 = true → 3 ∉ s.key.lines →
        t.key.lines = s.key.lines ++ [3] ∧ t.fld KEY_STATUS_ROOT_STATE = 2 ∧ t.bit KEY_STATUS_TAMPER_ACTIVE = true)) ∧
    (let since : Option Nat := mapGet (fun _ => none) s.sense.dtsSince n
     (since = none → exec (.dtsFault n) s = .next s) ∧
     (∀ a, since = some a →
       (let due := n ∉ s.dtsOff ∧ a + unitsPerSec ≤ s.time.mono
        (¬ due → exec (.dtsFault n) s = .next s) ∧
        (due → ∃ t, exec (.dtsFault n) s = .next t ∧ t.dtsOff = s.dtsOff ++ [n] ∧
          (t.reg (regKey sensePage 0x010)).getLsbD 11 = true ∧
          (s.tempOut = false → 3 ∉ s.key.lines →
            t = { s with regs := t.regs, recQ := t.recQ, out := t.out, dtsOff := t.dtsOff }))))))

/-- Calibration positions, the ends of the steps, recomputation and storage (R411, R414, R415, R416, R417, R418,
R419, R420, R425). With automatic calibration on, no step, position or task on, and its period over, the next
position starts: POSITION names its channel, PATH is its first step and the next channel follows, round after the
last. A PATH step with its pairs, an offset step with its samples and a gain step with its windows end with their
result in the LAST registers, what they did not compute staying as it was (log entry 28): passed, CAL_DONE is raised
and its set values stand in the shadow; failed, CAL_REJECT is raised and the shadow keeps. A board step without
samples enough when RUN_LIMIT_S has passed ends with NO_SAMPLES. While no transits are derived, recomputation makes
every value in force the interpolation of its set values at Tcal. When a store is written and read back its slot
holds the bytes, its generation and source are shown and STORE_DONE is raised; a write that fails for good raises
STORE_FAIL. -/
def Obligations.CalibrationStepsEnd : Prop :=
  ∀ s : State,
    (let ev (t : State) (b : Nat) : Prop := (t.reg (regKey calPage 0x010)).getLsbD b = true
     let due := s.bit CAL_CTRL_AUTO_EN = true ∧
       (∀ a, s.cal.posAt = some a → a + s.fld CAL_AUTO_PERIOD_S_S * unitsPerSec ≤ s.time.mono) ∧
       s.cal.step = none ∧ s.cal.auto = [] ∧ s.calTasked = false ∧ s.calReadyTask = false
     let result (t : State) (p : CalStep) (q reason : Nat) (v : Option Int) : Prop :=
       t.fld CAL_LAST_RESULT_CHANNEL = p.chan ∧ t.fld CAL_LAST_RESULT_STEP = p.step ∧ t.fld CAL_LAST_RESULT_REASON = reason ∧
       t.fld CAL_LAST_VALUE_VALUE = (match v with | some x => intBits 16 x | none => s.fld CAL_LAST_VALUE_VALUE) ∧
       t.cal.step = none ∧ t.fld CAL_STATUS_STEP = 0 ∧ MemKept s t ∧
       (reason = crOk → ev t 8 ∧ t.bit CAL_STATUS_SHADOW_DIRTY = true ∧
         ∃ x, v = some x ∧ ∀ m ∈ s.setMoves q p.chan x s.tcal, (setKey q m.1 p.chan, m.2) ∈ t.cal.shadow) ∧
       (reason ≠ crOk → ev t 9 ∧ t.cal.shadow = s.cal.shadow)
     (¬ due → exec .calPositionStart s = .next s) ∧
     (due → s.cal.task = [] → s.cal.nextPos ≤ 24 → s.standinFree s.cal.nextPos = true →
       ∃ t st, exec .calPositionStart s = .next t ∧ t.fld CAL_STATUS_POSITION = s.cal.nextPos ∧
         t.fld CAL_STATUS_STEP = stPath ∧ t.cal.nextPos = (if s.cal.nextPos = 24 then 0 else s.cal.nextPos + 1) ∧
         t.cal.posAt = some s.time.mono ∧ t.cal.step = some st ∧ st.chan = s.cal.nextPos ∧ st.step = stPath ∧ st.task = false ∧
         st.n = 0 ∧ st.began = s.time.mono ∧
         t.cal.auto = (stepsOf s.cal.nextPos).drop 1 ∧ t = { s with regs := t.regs, cal := t.cal }) ∧
     (s.cal.step = none → exec .pathStepEnd s = .next s ∧ exec .boardOffsetEnd s = .next s ∧ exec .boardGainEnd s = .next s ∧
       exec .calRunLimit s = .next s) ∧
     (∀ p, s.cal.step = some p → s.cal.task = [] → s.cal.auto = [] → p.chan ≤ 24 →
       (let pairs := 2 ^ cfgFld p.cfg CAL_CHOP_CFG_CHOP_LOG2
        let off := cfgFld p.cfg CAL_DARK_CFG_N_OFF
        let wins := 2 ^ cfgFld p.cfg CAL_REG_CFG_REG_LOG2
        let r := pathResult p.cfg (s.fusePo (nearestSet s.tcal) p.chan) p.n p.s1 p.s2
        let g := gainResult p
        let bo := awayRat (p.s1 / p.n)
        let ms : Rat := p.s2 / p.n - 2 * bo * (p.s1 / p.n) + bo * bo
        let lim := cfgFld p.cfg CAL_OFF_WIN_BOARD_WIN
        let why := if lim < bo.natAbs then crLimits else if ((lim * lim : Nat) : Rat) < 16 * ms then crResidual else crOk
        (p.step ≠ stPath ∨ p.n < pairs → exec .pathStepEnd s = .next s) ∧
        (p.step = stPath → pairs ≤ p.n → ∃ t, exec .pathStepEnd s = .next t ∧ result t p qPo r.1 (some r.2.1) ∧
          (p.chan = 24 → t.bit CAL_STATUS_SPARE_BAD = (r.1 != crOk) ∧ (r.1 ≠ crOk → ev t 13))) ∧
        (p.step ≠ stOffset ∨ p.n = 0 ∨ p.n < off → exec .boardOffsetEnd s = .next s) ∧
        (p.step = stOffset → 0 < p.n → off ≤ p.n → ∃ t, exec .boardOffsetEnd s = .next t ∧ result t p qBo why (some bo)) ∧
        (p.step ≠ stGain ∨ p.n < wins → exec .boardGainEnd s = .next s) ∧
        (p.step = stGain → wins ≤ p.n → ∃ t, exec .boardGainEnd s = .next t ∧ result t p qBg g.1 g.2.value ∧
          t.fld CAL_LAST_VALUE_ICPT = (match g.2.icpt with | some a => intBits 16 a | none => s.fld CAL_LAST_VALUE_ICPT)) ∧
        (let late := p.step ≠ stPath ∧ p.n < (if p.step = stOffset then off else wins) ∧ s.runOver p = true
         (¬ late → exec .calRunLimit s = .next s) ∧
         (late → p.step < 8 → ∃ t, exec .calRunLimit s = .next t ∧ t.fld CAL_LAST_RESULT_CHANNEL = p.chan ∧
           t.fld CAL_LAST_RESULT_STEP = p.step ∧ t.fld CAL_LAST_RESULT_REASON = crNoSamples ∧ t.cal.step = none ∧
           t.cal.shadow = s.cal.shadow ∧ ev t 9 ∧ MemKept s t)))) ∧
     (s.time.nextTransit ≠ none → exec .calRecompute s = .next s) ∧
     (s.time.nextTransit = none → ∃ t, exec .calRecompute s = .next t ∧
       (∀ c, c < 25 → t.fld (CAL_PATH_OFF_PO.nth c) = intBits 16 (halfUpRat (interp (s.setVal qPo c) s.tcal)) ∧
         mapGet (fun _ => 0x4000) t.sense.pg c = (halfUpRat (interp (fun k => (s.fusePg k c : Int)) s.tcal)).toNat) ∧
       (∀ r, r < 4 → t.fld (CAL_BOARD_BO.nth r) = intBits 16 (halfUpRat (interp (s.setVal qBo (20 + r)) s.tcal)) ∧
         t.fld (CAL_BOARD_BG.nth r) = intBits 16 (halfUpRat (interp (s.setVal qBg (20 + r)) s.tcal))) ∧
       t = { s with regs := t.regs, sense := t.sense }) ∧
     (∀ fails, s.cal.store = none → exec (.calStoreDone fails) s = .next s) ∧
     (∀ fails b bytes gen, s.cal.store = some (b, bytes, false, gen) → s.cal.storeHeld = none → gen < 2 ^ 32 →
       (let left := s.fld NVM_SPARE_FREE_SECTORS
        ∃ t, exec (.calStoreDone fails) s = .next t ∧ t.cal.store = none ∧ t.bit CAL_STATUS_STORE_BUSY = false ∧
          t.cal.lastStore = some s.time.mono ∧
          (∀ a n, a + n ≤ calSlotAt b ∨ calSlotAt b + bytes.length ≤ a → t.nvmBytes a n = s.nvmBytes a n) ∧
          (fails ≤ left → t.nvmBytes (calSlotAt b) bytes.length = bytes ∧ t.fld CAL_NVM_GEN_GEN = gen ∧
            t.fld CAL_STATUS_NVM_SRC = (if b then 2 else 1) ∧ ev t 11 ∧ t.fld NVM_SPARE_FREE_SECTORS = left - fails) ∧
          (left < fails → ev t 12 ∧ t.fld CAL_NVM_GEN_GEN = s.fld CAL_NVM_GEN_GEN))))

/-- Cells, acknowledgements, retries, time exchanges and rate steps of a Camlek link (R431, R437, R438, R442, R443,
R445, R446, R447). Commands of a link that is not UP change nothing (a TIME block also while it measures). A cell
with the expected link sequence number is taken and counted; with a bad CRC it is counted and asked for again, with
a later number asked for again, with an earlier one dropped. A taken cell with no hops left is delivered at its
member, its units in the receive window's set unless it is late, a FRAME_END noted; at another member it is a
misroute; one with hops left waits on the port its route names. An acknowledgement frees what it covers, a retry
request puts the rest to replay, and a retry open for 16 µs takes the link down, as does the loss of lanes; members
that are reached no more have left the group, but for a moon without a path to its planet. The arbiter sends control
blocks first, by class, then replays, then control cells, then FRAME cells, a cell sent first taking the next number
and the retry buffer. TIME blocks, their receipt and the report that ends an exchange, whose delay is filtered, and
the proposal, answer and completion of a rate step do as their rules say. -/
def Obligations.CamlekLinksCarryCells : Prop :=
  ∀ (p : Nat) (s : State), p < 4 →
    (let x := s.cl p
     let up := s.clState p = clUp
     let put (x' : ClS) : State := s.modCl p fun _ => x'
     let grows (t : State) (f : Fld) : Prop := t.fld (f.inst p) = (s.fld (f.inst p) + 1) % 2 ^ f.w
     let others (t : State) : Prop := (∀ q, q ≠ p → t.cl q = s.cl q) ∧ t = { s with regs := t.regs, cls := t.cls }
     let ev (t : State) (b : Nat) : Prop := (t.reg (regKey (clPage p) 0x010)).getLsbD b = true
     let down (t : State) : Prop := t.clState p = clDown ∧ t.fld (CL_STATUS_LANE_OK.inst p) = 0 ∧ (t.cl p).retry = [] ∧
       (t.cl p).replay = [] ∧ (t.cl p).ctl = [] ∧ (t.cl p).frames = [] ∧ ev t 9
     let ask : ClS := { x with retryAt := some (x.retryAt.getD s.time.mono), blocks := x.blocks ++ [(3, 0x33, [x.seqRx])] }
     let late (seq k : Nat) : Prop := (seq + 2 ^ 16 - k) % 2 ^ 16 < 2 ^ 15
     (¬ up → ∀ seq ok (c : Cell) code n kind, ∀ i ∈ [Instr.ackSend p, .ackRx p seq, .retryReqRx p seq, .retryTimeout p, .cellRx p seq ok c,
       .frameEnd p seq ok c, .ratePropose p n, .rateBlockRx p code n kind], exec i s = .next s) ∧
     (up → exec (.ackSend p) s = .next (put { x with blocks := x.blocks ++ [(3, 0x2D, [(x.seqRx + 2 ^ 16 - 1) % 2 ^ 16])] })) ∧
     (∀ seq, up → seq < 2 ^ 16 →
       (let gone (k : Nat) : Bool := acked seq k
        exec (.ackRx p seq) s = .next (put { x with
          retry := x.retry.filter fun q => !gone q.1, replay := x.replay.filter fun q => !gone q.1 }) ∧
        (∀ k, gone k = true ↔ late seq k) ∧
        (∃ t, exec (.retryReqRx p seq) s = .next t ∧ grows t CL_RETRIES_COUNT ∧ others t ∧
          t.cl p = { x with replay := x.retry.filter fun q => q.1 == seq || !gone q.1 }))) ∧
     (∀ seq ok (c : Cell), c.bcast = true → exec (.cellRx p seq ok c) s = .next s ∧ exec (.frameEnd p seq ok c) s = .next s) ∧
     (∀ seq ok (c : Cell), c.ctrl = false ∨ cellKind c ≠ 1 → exec (.frameEnd p seq ok c) s = .next s) ∧
     (∀ seq ok (c : Cell), up → c.bcast = false → seq < 2 ^ 16 → x.seqRx < 2 ^ 16 →
       (∀ i, i = .cellRx p seq ok c ∨ (i = .frameEnd p seq ok c ∧ c.ctrl = true ∧ cellKind c = 1) →
         (let got (y : ClS) : ClS := { y with seqRx := (x.seqRx + 1) % 2 ^ 16, retryAt := none, rxUnits := x.rxUnits + cellUnits c }
          let w := c.rxwin
          let fr := s.fullFrame c.frame
          let a := s.winAddr w fr + 64 * c.unit
          (ok = false → ∃ t, exec i s = .next t ∧ grows t CL_CRC_ERR_COUNT ∧ t.cl p = ask ∧ others t) ∧
          (ok = true → seq ≠ x.seqRx → (late x.seqRx seq → exec i s = .next s) ∧ (¬ late x.seqRx seq → exec i s = .next (put ask))) ∧
          (ok = true → seq = x.seqRx → c.hops = 0 → c.dest ≠ s.member →
            ∃ t, exec i s = .next t ∧ grows t CL_CELLS_RX_COUNT ∧ grows t CL_MISROUTE_COUNT ∧ t.cl p = got x ∧ others t) ∧
          (ok = true → seq = x.seqRx → 0 < c.hops → s.clState (c.route % 4) = clUp →
            (let q := c.route % 4
             let on : TxCell := ⟨{ c with hops := c.hops - 1, route := c.route / 4 }, s.clTick, true⟩
             let y := s.cl q
             let z : ClS := if c.ctrl then { y with ctl := y.ctl ++ [on] } else { y with frames := y.frames ++ [on] }
             ∃ t, exec i s = .next t ∧ grows t CL_CELLS_RX_COUNT ∧ t.cl q = (if q = p then got z else z) ∧
               (q ≠ p → t.cl p = got x) ∧ t = { s with regs := t.regs, cls := t.cls })) ∧
          (ok = true → seq = x.seqRx → c.hops = 0 → c.dest = s.member → c.ctrl = false → s.winSet w ≠ 0 →
            (s.cellLate fr = true → ∃ t, exec i s = .next t ∧ t.cl p = got x ∧ MemKept s t ∧
              t.fld CL_LATE_CELLS_COUNT = (s.fld CL_LATE_CELLS_COUNT + 1) % 2 ^ CL_LATE_CELLS_COUNT.w) ∧
            (s.cellLate fr = false → (∀ b, s.dramErrAt b = 0) → 64 * c.unit + c.data.length ≤ s.winSet w →
              s.inDram a c.data.length = true →
              ∃ t, exec i s = .next t ∧ t.cl p = got x ∧ t.dramBytes a c.data.length = c.data ∧
                (∀ b, b < a ∨ a + c.data.length ≤ b → t.dramByte b = s.dramByte b) ∧
                (∀ u, u ∈ (t.rxFrame w fr).units ↔ u ∈ (s.rxFrame w fr).units ∨ (c.unit ≤ u ∧ u < c.unit + cellUnits c)))) ∧
          (ok = true → seq = x.seqRx → c.hops = 0 → c.dest = s.member → c.ctrl = true → cellKind c = 1 →
            (let v := natBits (cellContent c) 0 4
             s.winSet v ≠ 0 → s.cellLate fr = false → ∃ t, exec i s = .next t ∧ t.cl p = got x ∧ MemKept s t ∧
               (t.rxFrame v fr).ended = some (natBits (cellContent c) 4 24, (cellContent c).testBit 28) ∧
               (t.rxFrame v fr).units = (s.rxFrame v fr).units))))) ∧
     (x.retryAt = none → exec (.retryTimeout p) s = .next s) ∧
     (∀ t0, x.retryAt = some t0 → (s.time.mono < t0 + 16000 * unitsPerNs → exec (.retryTimeout p) s = .next s) ∧
       (up → t0 + 16000 * unitsPerNs ≤ s.time.mono → ∃ t, exec (.retryTimeout p) s = .next t ∧ down t)) ∧
     (s.clState p < clAlign ∨ clForeign < s.clState p → exec (.clLinkDown p) s = .next s) ∧
     (clAlign ≤ s.clState p → s.clState p ≤ clForeign → ¬ up → ∃ t, exec (.clLinkDown p) s = .next t ∧ t.clState p = clDown ∧ others t) ∧
     (up →
       (let order := memberOrder s.planetId s.groupIds
        let lost := (s.reachable.filter fun m => !(s.setClState p clDown).reachable.contains m).filterMap fun m => order[m]?
        ∃ t, exec (.clLinkDown p) s = .next t ∧ down t ∧
          (lost = [] ∨ s.planetId ∈ lost → t.group.ids = s.group.ids) ∧
          (lost ≠ [] → s.planetId ∉ lost → t.group.ids = s.groupIds.filter fun i => !lost.contains i))) ∧
     (let able := x.relock = false ∧ clAlign ≤ s.clState p ∧ s.clState p ≤ clUp
      let tx (k : Nat) (c : Cell) : Out := .cl p 0x78 ([k, cellHeader c, cellUnits c, crc32 (valBytes 8 (cellHeader c) ++ c.data)] ++
        c.data.map fun b => b.toNat)
      let first (y : ClS) (c : Cell) : ClS := { y with
        seqTx := (x.seqTx + 1) % 2 ^ 16, retry := x.retry ++ [(x.seqTx, c)], txUnits := x.txUnits + cellUnits c }
      let sent (t : State) (o : Out) (y : ClS) : Prop := t.out = s.out ++ [o] ∧ t.cl p = y ∧ (∀ q, q ≠ p → t.cl q = s.cl q) ∧
        t = { s with regs := t.regs, out := t.out, cls := t.cls }
      let room := x.retryBytes + 256 ≤ 32768
      (¬ able → exec (.clTransmitArbiter p) s = .next s) ∧
      (∀ a cls type ws b, able → x.blocks = a ++ (cls, type, ws) :: b → (∀ y ∈ a, cls < y.1) → (∀ y ∈ b, cls ≤ y.1) →
        ∃ t, exec (.clTransmitArbiter p) s = .next t ∧ (t.cl p).blocks = a ++ b ∧
          (type ≠ 0x66 → sent t (.cl p type ws) { x with blocks := a ++ b }) ∧
          (type = 0x66 → t.out = s.out ++ [.cl p 0x66 [x.xno, x.lastSent]] ∧ (t.cl p).xno = (x.xno + 1) % 256 ∧
            (x.xno, s.stamp) ∈ (t.cl p).sentAt ∧ (t.cl p).lastSent = s.stamp)) ∧
      (∀ r l, able → x.blocks = [] → x.replay = r :: l →
        ∃ t, exec (.clTransmitArbiter p) s = .next t ∧ sent t (tx r.1 r.2) { x with replay := l }) ∧
      (able → x.blocks = [] → x.replay = [] → ¬ room ∨ (x.ctl = [] ∧ x.frames = []) → exec (.clTransmitArbiter p) s = .next s) ∧
      (∀ h l, able → x.blocks = [] → x.replay = [] → room → x.ctl = h :: l →
        ∃ t, exec (.clTransmitArbiter p) s = .next t ∧ sent t (tx x.seqTx h.cell) (first { x with ctl := l } h.cell) ∧
          grows t CL_CELLS_TX_COUNT) ∧
      (∀ i h, able → x.blocks = [] → x.replay = [] → room → x.ctl = [] → x.nextFrame = some (i, h) →
        ∃ t, exec (.clTransmitArbiter p) s = .next t ∧ grows t CL_CELLS_TX_COUNT ∧
          sent t (tx x.seqTx h.cell) (first { x with frames := x.frames.eraseIdx i } h.cell))) ∧
     (let live := s.clState p = clMeasure ∨ up
      let due := s.clState p = clMeasure ∨ (up ∧ x.timeAt + s.fld CL_TIME_CFG_SAMPLE_US * 1000 * unitsPerNs ≤ s.time.mono)
      (¬ due → exec (.timeBlockSend p) s = .next s) ∧
      (due → exec (.timeBlockSend p) s = .next (put { x with timeAt := s.time.mono, blocks := x.blocks ++ [(0, 0x66, [])] })) ∧
      (∀ no prev arr, (¬ live → exec (.timeBlockRx p no prev arr) s = .next s) ∧
        (live → exec (.timeBlockRx p no prev arr) s = .next (put { x with
          peerPair := (match x.peerAt with | some t4 => some (prev % 2 ^ 48, t4) | none => x.peerPair)
          peerAt := some (arr % 2 ^ 48)
          blocks := x.blocks ++ [(1, 0x6A, [no % 256, arr % 2 ^ 48])] }))) ∧
      (∀ no st info,
        (x.sentAt.find? (fun q => q.1 == no % 256) = none ∨ x.peerPair = none ∨ ¬ live → exec (.timeRptRx p no st info) s = .next s) ∧
        (∀ k t1 t3 t4, live → x.sentAt.find? (fun q => q.1 == no % 256) = some (k, t1) → x.peerPair = some (t3, t4) →
          (let sample : Int := (stampDiff t4 t1 - stampDiff t3 (st % 2 ^ 48)) / 2
           let d : Int := match x.delay with | none => sample | some v => v + (sample - v) / 16
           ∃ t, exec (.timeRptRx p no st info) s = .next t ∧ t.cl p = { x with
               delay := some d, exch := x.exch + 1, sentAt := x.sentAt.filter fun q => q.1 != no % 256 } ∧
             t.fld (CL_DELAY_PS_PS.inst p) = (roundDiv (d * 1000) unitsPerNs).toNat % 2 ^ 32 ∧
             (¬ (up ∧ s.isPlanet = false ∧ s.bit CL_UPSTREAM_VALID = true ∧ s.fld CL_UPSTREAM_PORT = p) → others t))))) ∧
     (let free := s.bit (CL_CTRL_STEP_EN.inst p) = true ∧ s.inSeam = false ∧ x.agreed = none
      (∀ n, (s.wantedRate p = none → exec (.ratePropose p n) s = .next s) ∧
        (∀ c, s.wantedRate p = some c →
          (let r := s.fld (CL_STATUS_RATE.inst p)
           let may := up ∧ free ∧ x.proposed = none ∧
             (c < r ∨ s.clCapacity r * 90 < 64 * x.last * 100 ∨ s.switchAt = some n) ∧ s.time.now + 100000 * unitsPerNs ≤ transitInstant s.rate n
           (¬ may → exec (.ratePropose p n) s = .next s) ∧
           (may → exec (.ratePropose p n) s = .next (put { x with
             proposed := some (c, lo32 n), blocks := x.blocks ++ [(3, 0x99, [c, lo32 n, 1])] }))))) ∧
      (∀ code n, up →
        (let c := code % 4
         let m := lo32 n
         let accepts := ¬ (x.proposed.isSome = true ∧ s.clDeviceId < s.peerId p) ∧ free ∧ c ≤ s.maxRate p ∧
           s.planTraffic p s.plan.active ≤ s.clCapacity c ∧ (m + 2 ^ 32 - lo32 s.frameNo) % 2 ^ 32 < 2 ^ 31 ∧ m ≠ lo32 s.frameNo
         (accepts → exec (.rateBlockRx p code n 1) s = .next (put { x with
           proposed := none, agreed := some (c, m), blocks := x.blocks ++ [(3, 0x99, [c, m, 2])] })) ∧
         (¬ accepts → exec (.rateBlockRx p code n 1) s = .next (put { x with blocks := x.blocks ++ [(3, 0x99, [c, m, 3])] })) ∧
         (x.proposed = some (c, m) → exec (.rateBlockRx p code n 2) s = .next (put { x with proposed := none, agreed := some (c, m) }) ∧
           exec (.rateBlockRx p code n 3) s = .next (put { x with proposed := none })) ∧
         (x.proposed ≠ some (c, m) → exec (.rateBlockRx p code n 2) s = .next s ∧ exec (.rateBlockRx p code n 3) s = .next s))) ∧
      (x.agreed = none ∨ x.relock = false → exec (.rateRelockDone p) s = .next s) ∧
      (∀ c n, x.agreed = some (c, n) → x.relock = true → ∃ t, exec (.rateRelockDone p) s = .next t ∧
        t.cl p = { x with relock := false, agreed := none, lowRun := 0 } ∧ ev t 11 ∧ grows t CL_RATE_STEPS_COUNT)))

/-- Training, lanes and the flooded cells of a Camlek group (R431, R432, R433, R435, R436, R440, R441, R447, R448).
An enabled port trains step by step: signal, clock, alignment with all five lanes good, the exchange of seven
capability words, the measurement of 64 exchanges, UP; a step out of its state, of a port without EN or in recovery,
changes nothing, and a FAILED port trains again once its fault is cleared; words of another group make it FOREIGN,
and training that lasts 5 ms takes it down. Lane markers are counted and carry the lane map; a lane that fails waits
for the spare, which comes in with the first marker after the peer has reported it; a failure with no spare left
makes the port FAILED. A flooded cell that is news is remembered and forwarded on every other UP port: a rate commit
and a step are noted on a moon, a topology cell replaces the links of its origin, and members that are reached no
more have left the group, an ELECT cell adds its candidate, and with the last candidate the best is the planet. 100
ms without a path to the planet begin an election. -/
def Obligations.CamlekLinksTrainAndGroup : Prop :=
  ∀ (p : Nat) (s : State), p < 4 →
    (let x := s.cl p
     let st := s.clState p
     let ev (t : State) (b : Nat) : Prop := (t.reg (regKey (clPage p) 0x010)).getLsbD b = true
     let regsCl (t : State) : Prop := (∀ q, q ≠ p → t.cl q = s.cl q) ∧ t = { s with regs := t.regs, cls := t.cls }
     let lanes (t : State) : Nat := t.fld (CL_STATUS_LANE_OK.inst p)
     (s.bit (CL_CTRL_EN.inst p) = false ∨ s.bit SYS_STATUS_RECOVERY = true → ∀ i, exec (.clTrainingProgress p i) s = .next s) ∧
     (s.bit (CL_CTRL_EN.inst p) = true → s.bit SYS_STATUS_RECOVERY = false →
       (st = clFailed → ev s 6 → exec (.clTrainingProgress p .signal) s = .next s) ∧
       (st = clDown ∨ (st = clFailed ∧ ¬ ev s 6) → ∃ t, exec (.clTrainingProgress p .signal) s = .next t ∧ t.clState p = clSignal ∧
         t.cl p = { ClS.idle with trainAt := s.time.mono, marks := x.marks, xno := x.xno } ∧ regsCl t) ∧
       (st ≠ clDown → st ≠ clFailed → exec (.clTrainingProgress p .signal) s = .next s) ∧
       (st = clSignal → ∃ t, exec (.clTrainingProgress p .clock) s = .next t ∧ t.clState p = clAlign ∧ t = { s with regs := t.regs }) ∧
       (st ≠ clSignal → exec (.clTrainingProgress p .clock) s = .next s) ∧
       (∀ skew, (st = clAlign → ∃ t, exec (.clTrainingProgress p (.aligned skew)) s = .next t ∧ t.clState p = clExchange ∧ lanes t = 31 ∧
           t.fld (CL_SKEW_PS_PS.inst p) = min skew 65535 ∧ t.fld (CL_STATUS_SPARE_FOR.inst p) = 7 ∧
           t.out = s.out ++ (List.range 7).map (fun i => .cl p 0x55 [clExchange, i, t.capWord p i]) ∧ t.cls = s.cls) ∧
         (st ≠ clAlign → exec (.clTrainingProgress p (.aligned skew)) s = .next s)) ∧
       (∀ i v, st ≠ clExchange ∨ 7 ≤ i → exec (.clTrainingProgress p (.word i v)) s = .next s) ∧
       (∀ i v, st = clExchange → i < 7 → (∀ q ∈ x.caps, q.2 < 2 ^ 32) →
         (let caps := (x.caps.filter fun q => q.1 != i) ++ [(i, v % 2 ^ 32)]
          let w (j : Nat) : Nat := mapGet (fun _ => 0) caps j
          let planet := w 4 + w 5 % 2 ^ 16 * 2 ^ 32
          (caps.length < 7 → exec (.clTrainingProgress p (.word i v)) s = .next (s.modCl p fun _ => { x with caps := caps })) ∧
          (7 ≤ caps.length → ∃ t, exec (.clTrainingProgress p (.word i v)) s = .next t ∧ t.peerId p = w 0 % 2 ^ 32 + w 1 % 2 ^ 16 * 2 ^ 32 ∧
            (natBits (w 2) 0 16 ≠ s.act CL_GROUP_CFG_GROUP_ID ∨
                (planet ≠ s.planetId ∧ 8 < s.fld CL_GROUP_STATUS_MEMBERS + w 6) → t.clState p = clForeign ∧ ev t 12) ∧
            (natBits (w 2) 0 16 = s.act CL_GROUP_CFG_GROUP_ID → planet = s.planetId ∨ s.fld CL_GROUP_STATUS_MEMBERS + w 6 ≤ 8 →
              t.clState p = clMeasure ∧ (t.cl p).exch = 0 ∧
              t.fld (CL_STATUS_RATE.inst p) = min (s.maxRate p) (min 2 (natBits (w 3) 2 2)))))) ∧
       (st ≠ clMeasure ∨ x.exch < 64 → exec (.clTrainingProgress p .measured) s = .next s) ∧
       (st = clMeasure → 64 ≤ x.exch → ∃ t, exec (.clTrainingProgress p .measured) s = .next t ∧ t.clState p = clUp ∧ ev t 8 ∧
         (t.cl p).seqTx = 0 ∧ (t.cl p).seqRx = 0 ∧ (t.cl p).retry = [] ∧ MemKept s t)) ∧
     (let gone := clSignal ≤ st ∧ st ≤ clMeasure ∧ x.trainAt + 5000000 * unitsPerNs ≤ s.time.mono
      (gone → ∃ t, exec (.clTrainTimeout p) s = .next t ∧ t.clState p = clDown ∧ lanes t = 0 ∧ regsCl t) ∧
      (¬ gone → exec (.clTrainTimeout p) s = .next s)) ∧
     (let live := clAlign ≤ st ∧ st ≤ clUp
      (¬ live → exec (.laneMarkSend p) s = .next s ∧ ∀ lane skew l, exec (.laneMarkRx p lane skew l) s = .next s) ∧
      (live → x.failed = none ∨ x.peerSaw = false → exec (.laneMarkSend p) s = .next (s.modCl p fun _ => { x with
        marks := (x.marks + 1) % 2 ^ 24
        blocks := x.blocks ++ [(2, 0x4B, [x.marks, s.fld (CL_STATUS_RATE.inst p), mapWord x.map])] })) ∧
      (∀ l, live → x.failed = some l → x.peerSaw = true → l < 4 →
        (let map := x.map.map fun k => if k = l then 4 else if k = 4 then l else k
         ∃ t, exec (.laneMarkSend p) s = .next t ∧ t.cl p = { x with
             map := map
             failed := none
             peerSaw := false
             marks := (x.marks + 1) % 2 ^ 24
             blocks := x.blocks ++ [(2, 0x4B, [x.marks, s.fld (CL_STATUS_RATE.inst p), mapWord map])] } ∧
           t.fld (CL_STATUS_SPARE_FOR.inst p) = l ∧ ev t 10)) ∧
      (∀ lane skew, live → lane < 5 →
        (∃ t, exec (.laneMarkRx p lane skew none) s = .next t ∧ t.fld (CL_SKEW_PS_PS.inst p) = min skew 65535 ∧ t = { s with regs := t.regs }) ∧
        (∀ l, l < 4 → s.fld (CL_STATUS_SPARE_FOR.inst p) = 7 → ∃ t, exec (.laneMarkRx p lane skew (some l)) s = .next t ∧
          (lanes t).testBit l = false ∧ t.cl p = { x with failed := some l, peerSaw := true } ∧ regsCl t))) ∧
     (∀ lane, lane < 5 →
       (let ok := (lanes s).testBit lane
        let used := (x.map.take 4).contains lane
        let spare := s.fld (CL_STATUS_SPARE_FOR.inst p) = 7 ∧ x.failed = none ∧ lane ≠ 4 ∧ (lanes s).testBit 4 = true
        (st ≠ clUp ∨ ok = false → exec (.laneFail p lane) s = .next s) ∧
        (st = clUp → ok = true → used = false → ∃ t, exec (.laneFail p lane) s = .next t ∧ (lanes t).testBit lane = false ∧
          t = { s with regs := t.regs }) ∧
        (st = clUp → ok = true → used = true → spare → ∃ t, exec (.laneFail p lane) s = .next t ∧ (lanes t).testBit lane = false ∧
          t.cl p = { x with failed := some lane } ∧ regsCl t) ∧
        (st = clUp → ok = true → used = true → ¬ spare → ∃ t, exec (.laneFail p lane) s = .next t ∧ t.clState p = clFailed ∧ ev t 6))) ∧
     (∀ (seq : Nat) (ok : Bool) (c : Cell),
       (let i3 := exec (.rateCommit p seq ok c) s
        let i4 := exec (.groupStep p seq ok c) s
        let i2 := exec (.topology p seq ok c []) s
        let i5 := exec (.elect p seq ok c) s
        let kind (k : Nat) : Prop := c.bcast = true ∧ c.ctrl = true ∧ cellKind c = k
        let taken := st = clUp ∧ ok = true ∧ seq % 2 ^ 16 = x.seqRx
        let seen : List Nat := mapGet (fun _ => []) s.group.seen (cellOrigin c)
        let news := cellSeq c ∉ seen ∧ cellOrigin c ≠ s.member
        let v := cellContent c
        let passed (t : State) : Prop := cellSeq c ∈ mapGet (fun _ => []) t.group.seen (cellOrigin c) ∧
          (∀ q, q < 4 → q ≠ p → s.clState q = clUp → ⟨c, s.clTick, true⟩ ∈ (t.cl q).ctl) ∧ (t.cl p).seqRx = (x.seqRx + 1) % 2 ^ 16
        (¬ kind 3 → i3 = .next s) ∧ (¬ kind 4 → i4 = .next s) ∧ (¬ kind 2 → i2 = .next s) ∧ (¬ kind 5 → i5 = .next s) ∧
        (kind 3 → ¬ taken ∨ ¬ news → ∃ t, i3 = .next t ∧ t.group = s.group) ∧
        (kind 4 → ¬ taken ∨ ¬ news → ∃ t, i4 = .next t ∧ t.group = s.group) ∧
        (kind 2 → ¬ taken ∨ ¬ news → ∃ t, i2 = .next t ∧ t.group = s.group) ∧
        (kind 5 → ¬ taken ∨ ¬ news → ∃ t, i5 = .next t ∧ t.group = s.group) ∧
        (kind 3 → taken → news → ∃ t, i3 = .next t ∧ passed t ∧
          t.group.rate = if s.isPlanet then s.group.rate else some (natBits v 0 20, natBits v 20 16, natBits v 36 28)) ∧
        (kind 4 → taken → news → ∃ t, i4 = .next t ∧ passed t ∧
          t.group.step = if s.isPlanet then s.group.step else some (natBits v 0 40, natBits v 40 24)) ∧
        (∀ ids, (¬ kind 2 → exec (.topology p seq ok c ids) s = .next s) ∧
          (kind 2 → taken → news → ∃ t, exec (.topology p seq ok c ids) s = .next t ∧ (t.cl p).seqRx = (x.seqRx + 1) % 2 ^ 16)) ∧
        (kind 2 → taken → news →
          (let links := (s.group.links.filter fun l => l.1 != cellOrigin c) ++ topologyLinks (cellOrigin c) v
           let w := s.modGroup fun g => { g with links := links }
           let order := memberOrder s.planetId s.groupIds
           let lost := (s.reachable.filter fun m => !w.reachable.contains m).filterMap fun m => order[m]?
           (lost = [] ∨ s.planetId ∈ lost → ∃ t, i2 = .next t ∧ passed t ∧ t.group.links = links ∧ t.group.ids = s.group.ids) ∧
           (lost ≠ [] → s.planetId ∉ lost → ∃ t, i2 = .next t ∧
             t.group.ids = (s.groupIds.filter fun i => !lost.contains i) ∧ (t.cl p).seqRx = (x.seqRx + 1) % 2 ^ 16))) ∧
        (kind 5 → taken → news → s.bit CL_GROUP_STATUS_ELECTING = true →
          (let me := (natBits v 0 8, natBits v 8 48)
           let cands := if s.group.cands.any (fun q => q.2 == me.2) then s.group.cands else s.group.cands ++ [me]
           (cands.length < s.group.expect → ∃ t, i5 = .next t ∧ passed t ∧ t.group.cands = cands ∧
             t.bit CL_GROUP_STATUS_ELECTING = true) ∧
           (∀ a l, cands = a :: l → s.group.expect ≤ cands.length → ∃ t, i5 = .next t ∧ t.bit CL_GROUP_STATUS_ELECTING = false ∧
             t.planetId = (l.foldl betterCand a).2 % 2 ^ 48 ∧ t.group.cands = []))))) ∧
     (s.group.lossAt = none → exec .planetLossTimeout s = .next s) ∧
     (∀ t0, s.group.lossAt = some t0 →
       (let due := t0 + 100000 * unitsPerNs ≤ s.time.mono ∧ s.bit CL_GROUP_STATUS_ELECTING = false
        (¬ due → exec .planetLossTimeout s = .next s) ∧
        (due → 1 < ((List.range 8).filter fun m => (s.fld CL_GROUP_STATUS_PRESENT).testBit m).length →
          ∃ t, exec .planetLossTimeout s = .next t ∧ t.bit CL_GROUP_STATUS_ELECTING = true ∧
            t.group.cands = [(s.act CL_GROUP_CFG_PLANET_PRIO, s.clDeviceId)]))))

/-- Operations, slots, root and tamper of the key store (R451, R452, R453, R454, R455, R457, R459, R460, R461, R464,
R466, R470). A KEY command whose operation is not the one the running task names changes nothing. A task ends with
its report and OUT_DONE in word 6, by the first refusal that holds: its lengths with room in OUT, the state and
usage bits of its slot, its policy, a busy slot, no root. An operation with a SRC slot takes two commands (log entry
17): the first judges the slot and latches it, the second does the rest on what was latched. HASH, MAC, PUBKEY,
ENCRYPT, DECRYPT, CHALLENGE, SIGN and ATTEST deliver their bytes, with RANGE in a bank not SCHED's (said where the
words read are good, no segment is borrowed and no write of port E meets the task's); VERIFY ends OK or SIG_BAD,
DECRYPT with a bad tag AUTH_FAIL. DERIVE and GENERATE fill their slot, which orphans what a latch left below it,
CLEAR empties it and orphans its descendants, EXTEND sets MEAS2 and orphans the slots bound to it; STORE writes the
copy not in force, LOAD opens the newer copy, ERASE zeroes both; ROOT_CREATE makes a root and the identity key. The
random values, and the RESULT of ROOT_CREATE with a valid root, are free values of the model (log entries 2 and 17).
Register CLEAR and IMPORT, the lock, ZEROIZE, TAMPER_CFG and the tamper line do as their rules say. -/
def Obligations.KeyStoreOperations : Prop :=
  (∀ s : State,
    (let st (u : State) (n : Nat) : Nat := u.ksState n
     let info (u : State) (n : Nat) : List Nat := [u.fld (KEY_SLOT_STATE_ORIGIN.nth n), u.fld (KEY_SLOT_STATE_PARENT.nth n),
       u.fld (KEY_SLOT_STATE_LOADED.nth n), u.fld (KEY_SLOT_STATE_CLEAR_ANCESTRY.nth n), u.ksPolicy n]
     let ev (u : State) (b : Nat) : Prop := (u.reg (regKey keyPage 0x010)).getLsbD b = true
     let parent (n : Nat) : Nat := s.fld (KEY_SLOT_STATE_PARENT.nth n)
     let slotsKept (u : State) : Prop := ∀ k, k < 64 → st u k = st s k ∧ info u k = info s k ∧ u.ksMat k = s.ksMat k
     let orphaned (u : State) (d : Nat) (hit : Nat → Prop) : Prop := ∀ k, k < 64 → k ≠ d →
       info u k = info s k ∧ u.ksMat k = s.ksMat k ∧ (st s k ≠ 1 → st u k = st s k) ∧
       (st s k = 1 → (st u k = 2 ∧ ev u 9 ∧ (hit k ∨ (parent k < 64 ∧ parent k ≠ d ∧ st s (parent k) = 1 ∧ st u (parent k) = 2))) ∨
         (st u k = 1 ∧ ¬ hit k ∧ ¬ (parent k < 64 ∧ parent k ≠ d ∧ st s (parent k) = 1 ∧ st u (parent k) = 2)))
     let filled (u : State) (n policy origin par : Nat) (loaded clear : Bool) (m : List Byte) : Prop :=
       st u n = 1 ∧ info u n = [origin, par, if loaded then 1 else 0, if clear then 1 else 0, policy] ∧ u.ksMat n = m ∧
       orphaned u n (fun k => parent k = n)
     let cleared (u : State) (d : Nat) : Prop := st u d = 0 ∧ info u d = [0, 127, 0, 0, 0] ∧ u.ksMat d = [] ∧
       orphaned u d (fun k => parent k = d)
     let zeroed (u : State) (cause : Nat) : Prop :=
       u.key.root = List.replicate 32 0 ∧ u.key.rootOk = false ∧ u.key.ident = 0 ∧ u.fld KEY_STATUS_ROOT_STATE = 2 ∧
       (∀ k, k < 64 → st u k = 0 ∧ info u k = [0, 127, 0, 0, 0] ∧ u.ksMat k = []) ∧
       (∀ j, j < 16 → u.fld (KEY_IMPORT_DATA_DATA.nth j) = 0 ∧ u.fld (KEY_ID_PUB_KEY.nth j) = 0) ∧
       u.fld KEY_IMPORT_SLOT_SLOT = 0 ∧ u.fld KEY_IMPORT_POLICY_POLICY = 0 ∧
       u.fld KEY_TAMPER_LOG_CAUSE = (s.fld KEY_TAMPER_LOG_CAUSE ||| 2 ^ cause) ∧
       u.fld KEY_TAMPER_LOG_COUNT = min (s.fld KEY_TAMPER_LOG_COUNT + 1) 65535 ∧
       u.sched.faults = s.sched.faults ++ (if s.keyTask.isSome then [(keyUnit, ecUnit, 0xD)] else []) ∧
       u.key.latch = none ∧ (s.keyTask = none → MemKept s u) ∧
       (∀ k, k < 4 → u.meas k = s.meas k) ∧ u.reg KEY_TAMPER_CFG_TAMP0_EN.key = s.reg KEY_TAMPER_CFG_TAMP0_EN.key ∧
       (s.mainPower = true → ev u 8)
     (∀ fails, ∀ q ∈ [(Instr.keyDerive, 0x01), (.keyGenerate, 0x02), (.keyClear, 0x03), (.keyPubkey, 0x04), (.keyHash, 0x05),
         (.keyMac, 0x06), (.keySign, 0x07), (.keyVerify, 0x08), (.keyEncrypt, 0x09), (.keyDecrypt, 0x0A), (.keyStore fails, 0x0B),
         (.keyLoad, 0x0C), (.keyErase fails, 0x0D), (.keyAttest, 0x0E), (.keyChallenge, 0x0F), (.keyExtend, 0x10), (.rootCreate, 0x11)],
       (∀ t, s.keyTask = some t → t.op ≠ q.2) → exec q.1 s = .next s) ∧
     (∀ t n, s.keyTask = some t → s.unitCtx keyUnit = some n →
       (∀ b off, s.bankErrAt b off = 0 ∧ s.portE b off ≠ some true) → (∀ b, (s.bank b).borrow = none) →
       ownerAdmits (s.owner (natBits (s.ctxDesc n) 18 5)) .sched = true →
       (let db := natBits (s.ctxDesc n) 18 5
        let src := t.src
        let dst := t.dst
        let ends (u : State) (r od : Nat) : Prop := u.bankWord db (natBits (s.ctxDesc n) 0 18 + 48) = BitVec.ofNat 64 od ∧
          (if r = krOk ∨ r = krSigBad ∨ r = krAuthFail
            then u.sched = { s.sched with done := s.sched.done ++ [(keyUnit, r)] }
            else u.sched = { s.sched with faults := s.sched.faults ++ [(keyUnit, ecUnit, r)] })
        let unlatched (u : State) : Prop := u.key = { s.key with latch := none }
        let stops (i : Instr) (r : Nat) : Prop := ∃ u, exec i s = .next u ∧ ends u r 0 ∧ u.regs = s.regs ∧ unlatched u ∧
          u.out = s.out ∧ u.nvm = s.nvm
        let latches (i : Instr) : Prop := exec i s = .next { s with key := { s.key with latch := some (s.slotNow src) } }
        let inB := natBits t.inAddr 18 5
        let inp := (((List.range ((t.inLen + 7) / 8)).flatMap fun i =>
          valBytes 8 (s.bankWord inB ((natBits t.inAddr 6 12 * 64 + 8 * i) % 2 ^ 18)).toNat).take t.inLen : List Byte)
        let inOk := t.inLen = 0 ∨ ownerAdmits (s.owner inB) .sched = true
        let outB := natBits t.outAddr 18 5
        let outBytes (u : State) (k : Nat) : List Byte := (((List.range ((k + 7) / 8)).flatMap fun i =>
          valBytes 8 (u.bankWord outB ((natBits t.outAddr 6 12 * 64 + 8 * i) % 2 ^ 18)).toNat).take k)
        let delivers (i : Instr) (bs : List Byte) : Prop :=
          (ownerAdmits (s.owner outB) .sched = false →
            ∃ u, exec i s = .next u ∧ ends u krRange 0 ∧ unlatched u ∧
              u.fld (BANK_FOREIGN_COUNT_COUNT.inst outB) = (s.fld (BANK_FOREIGN_COUNT_COUNT.inst outB) + 1) % 2 ^ BANK_FOREIGN_COUNT_COUNT.w) ∧
          (ownerAdmits (s.owner outB) .sched = true → outB ≠ db →
            ∃ u, exec i s = .next u ∧ ends u krOk bs.length ∧ outBytes u bs.length = bs ∧ u.regs = s.regs ∧ unlatched u)
        -- the lengths that Table 15-5 refuses
        let long (len : Nat) : Prop := 65536 < len
        let lens : List (Instr × Nat × Bool) := [
          (.keyDerive, 0x01, decide (t.labelLen = 0 ∨ 32 < t.labelLen ∨ 64 < t.ctxLen ∨ t.inLen ≠ t.labelLen + t.ctxLen)),
          (.keyPubkey, 0x04, decide (t.outLen < 64)),
          (.keyHash, 0x05, decide (65536 < t.inLen ∨ t.outLen < 32)),
          (.keyMac, 0x06, decide (65536 < t.inLen ∨ t.outLen < 32)),
          (.keySign, 0x07, decide (t.inLen ≠ 32 ∨ t.outLen < 64)),
          (.keyVerify, 0x08, decide (t.inLen ≠ 96)),
          (.keyEncrypt, 0x09, decide (4096 < t.aadLen ∨ t.inLen < 12 + t.aadLen ∨ 65536 < t.inLen - 12 - t.aadLen ∨
            t.outLen + t.aadLen < t.inLen + 4)),
          (.keyDecrypt, 0x0A, decide (4096 < t.aadLen ∨ t.inLen < 28 + t.aadLen ∨ 65536 < t.inLen - 28 - t.aadLen ∨
            t.outLen < t.inLen - 28 - t.aadLen)),
          (.keyAttest, 0x0E, decide (t.inLen ≠ 32 ∨ t.outLen < 304)),
          (.keyChallenge, 0x0F, decide (t.inLen ≠ 32 ∨ t.outLen < 168)),
          (.keyExtend, 0x10, decide (t.inLen ≠ 32))]
        let fits : Prop := ∀ q ∈ lens, t.op = q.2.1 → q.2.2 = false
        (∀ q ∈ lens, t.op = q.2.1 → q.2.2 = true → stops q.1 krBadLen) ∧
        -- the first command of an operation with a SRC slot: judged, refused or latched
        (∀ fails, fits → s.key.latch = none → ∀ q ∈ [(Instr.keyDerive, 0x01, 4), (.keyMac, 0x06, 7), (.keySign, 0x07, 8), (.keyVerify, 0x08, 9),
            (.keyEncrypt, 0x09, 5), (.keyDecrypt, 0x0A, 6), (.keyStore fails, 0x0B, 12), (.keyChallenge, 0x0F, 11)],
          t.op = q.2.1 → (q.2.1 = 0x01 → t.fromRoot = false) →
          (st s src = 0 → stops q.1 krEmpty) ∧ (st s src = 2 → stops q.1 krOrphaned) ∧
          (st s src = 1 → (s.ksPolicy src).testBit q.2.2 = false → stops q.1 krUsage) ∧
          (st s src = 1 → (s.ksPolicy src).testBit q.2.2 = true → latches q.1)) ∧
        (t.op = 0x04 → fits → s.key.latch = none → (st s src = 0 → stops .keyPubkey krEmpty) ∧ (st s src = 2 → stops .keyPubkey krOrphaned) ∧
          (st s src = 1 → polType (s.ksPolicy src) < 4 → stops .keyPubkey krUsage) ∧
          (st s src = 1 → 4 ≤ polType (s.ksPolicy src) → latches .keyPubkey)) ∧
        (t.op = 0x0E → fits → (s.rootValid = false → stops .keyAttest krNoRoot) ∧
          (s.rootValid = true → s.key.latch = none → (st s src = 0 → stops .keyAttest krEmpty) ∧ (st s src ≠ 0 → latches .keyAttest))) ∧
        -- the rest of the operation, on what has been latched
        (t.op = 0x05 → fits → inOk → delivers .keyHash (sha256 inp)) ∧
        (∀ l, s.key.latch = some l → fits →
          (t.op = 0x06 → inOk → delivers .keyMac (hmac256 l.mat inp)) ∧
          (t.op = 0x04 → delivers .keyPubkey (pointBytes l.pub)) ∧
          (t.op = 0x07 → inOk → delivers .keySign (s.ecSign (bytesValBE l.mat) inp 64).1) ∧
          (t.op = 0x08 → inOk →
            (let good := ecdsaVerify l.pub (inp.take 32) (bytesValBE ((inp.drop 32).take 32)) (bytesValBE (inp.drop 64))
             stops .keyVerify (if good then krOk else krSigBad))) ∧
          (t.op = 0x09 → inOk →
            (let ct := gcmCtr l.mat (inp.take 12) (inp.drop (12 + t.aadLen))
             delivers .keyEncrypt (ct ++ gcmTag l.mat (inp.take 12) ((inp.drop 12).take t.aadLen) ct))) ∧
          (t.op = 0x0A → inOk →
            (let len := t.inLen - 28 - t.aadLen
             let ct := (inp.drop (12 + t.aadLen)).take len
             let good := gcmTag l.mat (inp.take 12) ((inp.drop 12).take t.aadLen) ct = inp.drop (12 + t.aadLen + len)
             (good → delivers .keyDecrypt (gcmCtr l.mat (inp.take 12) ct)) ∧ (¬ good → stops .keyDecrypt krAuthFail))) ∧
          (t.op = 0x0E → s.rootValid = true → inOk →
            delivers .keyAttest (s.statement src l inp ++ (s.ecSign s.key.ident (sha256 (s.statement src l inp)) 64).1)) ∧
          (t.op = 0x0F → inOk →
            (let head := (List.range 4).flatMap s.meas ++ s.deviceId ++ [0, 0]
             delivers .keyChallenge (head ++ hmac256 l.mat (ascii "ECR1" ++ inp ++ head)))) ∧
          (∀ fails, t.op = 0x0B →
            (let i := t.blob
             let target := match s.blobNewer i with | some b => !b | none => false
             let gen := match s.blobNewer i with | some b => (s.blobGen i b + 1) % 2 ^ 32 | none => 1
             let img := s.blobImage l i gen (freeBytes s.freeVal 12)
             (s.rootValid = false → stops (.keyStore fails) krNoRoot) ∧
             (s.rootValid = true → ∃ u, exec (.keyStore fails) s = .next u ∧ slotsKept u ∧ unlatched u ∧
               (∀ b, s.blobNewer i = some b → u.nvmBytes (blobAddr i b) 256 = s.nvmBytes (blobAddr i b) 256) ∧
               u.bit (KEY_BLOB_STATE_A_VALID.nth i) = u.blobValid i false ∧ u.bit (KEY_BLOB_STATE_B_VALID.nth i) = u.blobValid i true ∧
               (fails ≤ s.fld NVM_SPARE_FREE_SECTORS → ends u krOk 0 ∧ u.nvmBytes (blobAddr i target) img.length = img ∧ ev u 14) ∧
               (s.fld NVM_SPARE_FREE_SECTORS < fails → ends u krNvmFail 0 ∧ ev u 15))))) ∧
        (∀ d h f q, ecdsaSign d h (s.freeVal % (p256N - 1) + 1) = some q → (s.ecSign d h (f + 1)).1 = pointBytes q) ∧
        -- operations that fill, empty or bind slots
        (t.op = 0x01 → fits → t.fromRoot = true → s.rootValid = false → stops .keyDerive krNoRoot) ∧
        (∀ kin par clear, t.op = 0x01 → fits →
          ((t.fromRoot = true ∧ s.rootValid = true ∧ kin = s.key.root ∧ par = 64 ∧ clear = false) ∨
            (t.fromRoot = false ∧ par = src ∧ ∃ l, s.key.latch = some l ∧ kin = l.mat ∧ clear = l.clear)) →
          (let badPol := polOk t.policy false true = false ∨ polType t.policy = 5
           (badPol → stops .keyDerive krBadPolicy) ∧
           (¬ badPol → st s dst = 1 → stops .keyDerive krSlotBusy) ∧
           (¬ badPol → st s dst ≠ 1 → inOk → ∃ u, exec .keyDerive s = .next u ∧ ends u krOk 0 ∧ u.key.latch = none ∧
             filled u dst t.policy 0 par false clear (s.derive kin (inp.take t.labelLen) t.policy (inp.drop t.labelLen))))) ∧
        (t.op = 0x02 →
          (let badPol := polOk t.policy false false = false ∨ polType t.policy = 5
           (badPol → stops .keyGenerate krBadPolicy) ∧ (¬ badPol → st s dst = 1 → stops .keyGenerate krSlotBusy) ∧
           (¬ badPol → st s dst ≠ 1 → ∃ u, exec .keyGenerate s = .next u ∧ ends u krOk 0 ∧
             filled u dst t.policy 1 127 false false (if polType t.policy = 4
               then valBytesBE 32 (bytesValBE (s.entropy.1 ++ s.takeFree.entropy.1.take 16) % (p256N - 1) + 1) else s.entropy.1)))) ∧
        (t.op = 0x03 → ∃ u, exec .keyClear s = .next u ∧ ends u krOk 0 ∧ cleared u dst) ∧
        (t.op = 0x10 → fits → inOk → ∃ u, exec .keyExtend s = .next u ∧ ends u krOk 0 ∧ u.meas 2 = sha256 (s.meas 2 ++ inp) ∧
          u.fld (KEY_MEAS_COUNT_COUNT.nth 2) = (s.fld (KEY_MEAS_COUNT_COUNT.nth 2) + 1) % 2 ^ 32 ∧
          (∀ k, k < 4 → k ≠ 2 → u.meas k = s.meas k) ∧ orphaned u 64 (fun k => (s.ksPolicy k).testBit 18 = true)) ∧
        -- blobs
        (t.op = 0x0C → (s.blobNewer t.blob = none → stops .keyLoad krNoBlob) ∧
          (∀ b, s.blobNewer t.blob = some b → (st s dst = 1 → stops .keyLoad krSlotBusy) ∧
            (st s dst ≠ 1 → s.rootValid = false → stops .keyLoad krNoRoot) ∧
            (st s dst ≠ 1 → s.rootValid = true →
              (let x := s.blobBytes t.blob b
               let p := leField x 0x0C 4
               let ct := (x.drop 0x24).take 64
               let iv := (x.drop 0x18).take 12
               let good := gcmTag (s.wrapKey p) iv (x.take 0x18) ct = (x.drop 0x64).take 16
               (¬ good → stops .keyLoad krAuthFail) ∧
               (good → ∃ u, exec .keyLoad s = .next u ∧ ends u krOk 0 ∧
                 filled u dst p (leField x 0x10 1 % 4) 127 true ((leField x 0x10 1).testBit 7)
                   ((gcmCtr (s.wrapKey p) iv ct).take (matLen (polType p)))))))) ∧
        (∀ fails, t.op = 0x0D →
          (let newer := match s.blobNewer t.blob with | some b => b | none => true
           let left := s.fld NVM_SPARE_FREE_SECTORS
           let zero (u : State) (b : Bool) : Prop := u.nvmBytes (blobAddr t.blob b) 256 = List.replicate 256 0
           ∃ u, exec (.keyErase fails) s = .next u ∧ slotsKept u ∧ unlatched u ∧
             (fails % 64 + fails / 64 ≤ left → ends u krOk 0 ∧ zero u false ∧ zero u true) ∧
             (left < fails % 64 → ends u krNvmFail 0 ∧ u.nvmBytes (blobAddr t.blob newer) 256 = s.nvmBytes (blobAddr t.blob newer) 256) ∧
             (fails % 64 ≤ left → left < fails % 64 + fails / 64 → ends u krNvmFail 0 ∧ zero u (!newer)))) ∧
        (t.op = 0x11 →
          (s.bit KEY_STATUS_TAMPER_ACTIVE = true → stops .rootCreate krTamper) ∧
          (s.bit KEY_STATUS_TAMPER_ACTIVE = false → s.rootValid = true → ∃ u r, exec .rootCreate s = .next u ∧ ends u r 0 ∧
            r ≠ krOk ∧ r ≠ krSigBad ∧ r ≠ krAuthFail ∧ u.regs = s.regs ∧ unlatched u) ∧
          (s.bit KEY_STATUS_TAMPER_ACTIVE = false → s.rootValid = false → ∃ u, exec .rootCreate s = .next u ∧ ends u krOk 0 ∧
            u.key.root = sha256 (freeBytes s.freeVal 32) ∧ u.key.rootOk = true ∧ u.rootValid = true ∧
            u.fld KEY_ROOT_EPOCH_EPOCH = min (s.fld KEY_ROOT_EPOCH_EPOCH + 1) (2 ^ 32 - 1) ∧
            u.key.ident = bytesValBE (s.derive u.key.root (ascii "ELLITH-IDENTITY") 0x104 s.deviceId) ∧
            ((List.range 16).flatMap fun j => valBytes 4 (u.fld (KEY_ID_PUB_KEY.nth j))) = pointBytes (p256Pub u.key.ident) ∧
            slotsKept u ∧ ev u 10)))) ∧
     -- the tamper line
     (∀ src, (4 < src ∨ src ∈ s.key.lines → exec (.tamperInput src) s = .next s) ∧
       (src ≤ 4 → src ∉ s.key.lines →
         (s.tamperOn src = true → ∃ u, exec (.tamperInput src) s = .next u ∧ zeroed u src ∧
           u.key.lines = s.key.lines ++ [src] ∧ u.bit KEY_STATUS_TAMPER_ACTIVE = true) ∧
         (s.tamperOn src = false → ∃ u, exec (.tamperInput src) s = .next u ∧ u.key = { s.key with lines := s.key.lines ++ [src] } ∧
           (u.bit KEY_STATUS_TAMPER_ACTIVE = true ↔ ∃ j ∈ s.key.lines, s.tamperOn j = true) ∧ u = { s with regs := u.regs, key := u.key }))) ∧
     (∀ src, ∃ u, exec (.tamperLineRelease src) s = .next u ∧ u.key = { s.key with lines := s.key.lines.filter fun j => j != src } ∧
       (u.bit KEY_STATUS_TAMPER_ACTIVE = true ↔ ∃ j ∈ s.key.lines, j ≠ src ∧ s.tamperOn j = true) ∧ u = { s with regs := u.regs, key := u.key }) ∧
     -- registers
     (∀ q : Req, s.gate q keyPage = .served → s.mayWrite q keyPage = true → ∀ v : Word,
       (let w := s.countWrite keyPage
        let d := natBits v.toNat 0 6
        (natBits v.toNat 8 4 = 1 → ∃ u, exec (.slotClear q v) s = .next u ∧ cleared u d ∧ u.sched = s.sched) ∧
        (natBits v.toNat 8 4 ≠ 1 → exec (.slotClear q v) s = .next w) ∧
        (∃ u, exec (.importLockWrite q v) s = .next u ∧ u.bit KEY_CTRL_IMPORT_LOCK = (s.bit KEY_CTRL_IMPORT_LOCK || v.getLsbD 0) ∧ slotsKept u) ∧
        (v.getLsbD 0 = true → natBits v.toNat 16 16 = 0xC1EA → ∃ u, exec (.zeroizeWrite q v) s = .next u ∧ zeroed u 5) ∧
        (v.getLsbD 0 = false ∨ natBits v.toNat 16 16 ≠ 0xC1EA → exec (.zeroizeWrite q v) s = .next w) ∧
        (s.rootValid = true → ∃ u, exec (.tamperCfgWrite q v) s = .next u ∧ ev u 13 ∧
          u.reg KEY_TAMPER_CFG_TAMP0_EN.key = s.reg KEY_TAMPER_CFG_TAMP0_EN.key) ∧
        (s.rootValid = false → ∃ u, exec (.tamperCfgWrite q v) s = .next u ∧
          natBits (u.reg KEY_TAMPER_CFG_TAMP0_EN.key).toNat 0 6 = natBits v.toNat 0 6 ∧
          (u.bit KEY_STATUS_TAMPER_ACTIVE = true ↔ ∃ j ∈ s.key.lines, u.tamperOn j = true) ∧
          ((∃ j ∈ s.key.lines, u.tamperOn j = true ∧ s.tamperOn j = false) → u.fld KEY_STATUS_ROOT_STATE = 2 ∧
            u.key.root = List.replicate 32 0)) ∧
        (v.getLsbD 0 = false → exec (.importGo q v) s = .next w) ∧
        (v.getLsbD 0 = true →
          (let n := s.fld KEY_IMPORT_SLOT_SLOT
           let p := s.fld KEY_IMPORT_POLICY_POLICY
           let bs := s.importBytes
           let good := s.bit KEY_STATUS_TAMPER_ACTIVE = false ∧ s.bit KEY_CTRL_IMPORT_LOCK = false ∧ polOk p true false = true ∧
             st s n ≠ 1 ∧ importKeyOk (polType p) bs = true
           ∃ u, exec (.importGo q v) s = .next u ∧ (∀ j, j < 16 → u.fld (KEY_IMPORT_DATA_DATA.nth j) = 0) ∧
             (good → filled u n p 2 127 false true (bs.take (matLen (polType p))) ∧ ev u 11) ∧
             (¬ good → slotsKept u ∧ ev u 12)))))))

/-- Reset, boot phases, recovery mode, MSPI and adaptive voltage (R450, R463, R476, R477, R478, R479, R480, R481,
R482, R483, R502, R503). Reset gives every register its reset value but those that fuses, the VBAT domain and NVM
keep, keeps NVM and the root, and drives READY low; a power failure does the same, and an NVM write in progress may
leave its bytes free. Reset release reads straps and fuses and starts phase STRAPS. A phase ends only while it is in
progress, and does the work of Table 16-1; PLL, DRAM_TRAIN, DRAM_ECC and MICROCODE may fail, which writes FAIL_PHASE
and CAUSE and enters recovery mode; CHECK raises READY. Recovery mode is entered and left by MSPI's writes of
SYS.RECOVERY; in it READY is low and every port is off. MSPI frames that are cut or not aligned change nothing;
other frames are accesses of MSPI dword by dword. Configuration requests are answered from the end of phase PLL, the
three BARs with their sizes and types, and wait behind a stalled push. AVS_SETTLE, AVS_PERIOD and the end of a PMBus
transaction move the voltage as their rules say. The bytes of a torn write are free values (log entry 2). -/
def Obligations.BootResetAndRecovery : Prop :=
  ∀ s : State,
    (let ev (t : State) (p b : Nat) : Prop := (t.reg (regKey p 0x010)).getLsbD b = true
     let ph := s.phase
     -- what a PMBus transaction sends
     let wire (u : State) (cmd data : Nat) : List Out :=
        (if u.bit SPEED_PMBUS_CFG_PAGE_EN then [.pmbus (u.fld SPEED_PMBUS_CFG_ADDR) 0 (u.fld SPEED_PMBUS_CFG_PAGE) (u.bit SPEED_PMBUS_CFG_PEC)] else []) ++
          [.pmbus (u.fld SPEED_PMBUS_CFG_ADDR) cmd data (u.bit SPEED_PMBUS_CFG_PEC)]
     let resetFrom (t : State) : Prop :=
       (∀ k, keptReg k = true → t.reg k = s.reg k) ∧
       (∀ k, keptReg k = false → k ≠ SYS_WEAR_PS_S0_PS.key → k ≠ CL_PLANET_ID_LO_ID.key → k ≠ CL_PLANET_ID_HI_ID.key → t.reg k = regReset k) ∧
       t.planetId = s.clDeviceId ∧ t.key.lines = (s.key.lines.filter fun j => j != 3) ∧ t.nvmMap = s.nvmMap ∧
       t.fld SYS_WEAR_PS_S0_PS = s.fld SYS_WEAR_PS_S0_PS ∧ t.dram = s.dram ∧ t.dramErr = s.dramErr ∧ t.bankMem = [] ∧
       t.key.root = s.key.root ∧ t.key.rootOk = s.key.rootOk ∧ t.key.mat = [] ∧ t.pending = s.pending ∧
       t.out = s.out ++ [.pin pinReady false, .pin pinBusy false, .pin pinFsync false]
     let calm : Prop := ∀ p, p < 4 → ∀ q ∈ (s.net p).rings, q.1 < 4
     let off (t : State) : Prop :=
       (∀ n, n < 16 → t.fld (SCAN_CTRL_EN.inst n) = 0 ∧ t.act (SCAN_CTRL_EN.inst n) = 0 ∧ t.fld (DMX_CTRL_ROLE.inst n) = 0 ∧
         t.act (DMX_CTRL_ROLE.inst n) = 0) ∧
       (∀ p, p < 4 → t.fld (NET_CTRL_MODE.inst p) = 0 ∧ t.fld (CL_CTRL_EN.inst p) = 0 ∧ t.clState p = clDown)
     let recovered (t : State) : Prop :=
       t.bit SYS_STATUS_RECOVERY = true ∧ t.bit SYS_STATUS_READY = false ∧ Out.pin pinReady false ∈ t.out ∧ t.plan.frameDue = none ∧
       (calm → off t) ∧ t.nvm = s.nvm ∧ t.key.root = s.key.root ∧ ∀ b o, t.bankWord b o = s.bankWord b o
     let failed (i : BootEnd) (phase cause : Nat) : Prop := ∃ t, exec (.bootPhaseEnd i) s = .next t ∧ t.bit SYS_STATUS_BOOT_FAIL = true ∧
       t.phase = phase ∧ t.fld SYS_BOOT_PHASE_FAIL_PHASE = phase ∧ t.fld SYS_BOOT_PHASE_CAUSE = cause % 256 ∧
       t.bit SYS_STATUS_RECOVERY = true ∧ t.bit SYS_STATUS_READY = false ∧ (calm → off t)
     -- reset and supplies
     (∃ t, exec .resetAssert s = .next t ∧ resetFrom t ∧ t.nvm = s.nvm) ∧
     (s.nvmPend = [] → s.repairDue = none → s.cal.store = none → exec .powerFail s = exec .resetAssert s) ∧
     (∀ a bs l, s.nvmPend = (a, bs) :: l ∨ (s.nvmPend = [] ∧ s.repairDue = some (a, bs)) → s.cal.store = none → ∃ t, exec .powerFail s = .next t ∧ resetFrom t ∧
       t.nvmBytes a bs.length = freeBytes s.freeVal bs.length ∧
       (∀ b, b < a ∨ a + bs.length ≤ b → t.nvmBytes b 1 = s.nvmBytes b 1)) ∧
     (∀ straps rn f, (ph ≠ 0 → exec (.resetRelease straps rn f) s = .next s) ∧
       (ph = 0 → ∃ t, exec (.resetRelease straps rn f) s = .next t ∧ t.phase = 1 ∧ t.mainPower = true ∧ t.groom.strapStop = !rn ∧
         t.fld SYS_STRAPS_STRAPS = straps % 256 + (if rn then 256 else 0) ∧ t.groom.romVersion = f.romVersion ∧
         t.groom.releasedAt = s.time.mono ∧
         t.fld SYS_SILICON_REV_GRADE = f.grade % 2 ∧ t.fld SYS_SILICON_REV_METAL_REV = s.fld SYS_SILICON_REV_METAL_REV ∧
         t.fld SYS_SILICON_REV_BASE_REV = s.fld SYS_SILICON_REV_BASE_REV ∧ t.planetId = f.deviceId % 2 ^ 48 ∧ t.fld CL_DEVICE_ID_LO_ID = f.deviceId % 2 ^ 32 ∧
         t.fld CL_DEVICE_ID_HI_ID = f.deviceId / 2 ^ 32 % 2 ^ 16 ∧ t.fld SYS_WEAR_PS_S0_PS = f.s0Ps % 2 ^ 16 ∧ MemKept s t ∧
         t.fld KEY_STATUS_ROOT_STATE = (if s.key.rootOk then 1 else if s.fld KEY_TAMPER_LOG_CAUSE = 0 then 0 else 2) ∧
         (t.bit KEY_STATUS_TAMPER_ACTIVE = true ↔ ∃ j ∈ s.key.lines, t.tamperOn j = true))) ∧
     exec (.vbatChangeover .vdda) s = .next { s with mainPower := true } ∧
     exec (.vbatChangeover .vbat) s = .next { s with
       mainPower := false
       key := { s.key with lines := s.key.lines.filter fun j => decide (j < 3) } } ∧
     (∃ t, exec (.vbatChangeover .none) s = .next t ∧ t.mainPower = false ∧ t.key.root = List.replicate 32 0 ∧ t.key.rootOk = false ∧ t.key.lines = [] ∧
       t.reg KEY_ROOT_EPOCH_EPOCH.key = 0 ∧ t.reg KEY_TAMPER_CFG_TAMP0_EN.key = 0 ∧ t.reg KEY_TAMPER_LOG_CAUSE.key = 0 ∧
       t.fld KEY_STATUS_ROOT_STATE = 0 ∧ MemKept s t) ∧
     -- boot phases
     (let of_ : BootEnd → Nat := fun r => match r with
        | .straps => 1 | .pll _ _ _ => 2 | .speed _ _ _ => 3 | .sense _ => 4 | .banks _ _ => 5 | .dramTrain _ _ => 6
        | .dramEcc _ => 7 | .nvm => 8 | .microcode _ _ => 9 | .links => 10 | .check => 11
      let passes (i : BootEnd) (q : State → Prop) : Prop := ∃ t, exec (.bootPhaseEnd i) s = .next t ∧ t.phase = of_ i + 1 ∧ q t
      (∀ r, s.booting = false ∨ ph ≠ of_ r → exec (.bootPhaseEnd r) s = .next s) ∧
      (s.booting = true →
        (ph = 1 → passes .straps fun t => MemKept s t ∧
          t.meas 0 = sha256 (s.meas 0 ++ sha256 (valBytes 4 s.groom.romVersion ++ valBytes 4 (s.fld SYS_STRAPS_STRAPS))) ∧
          (s.rootValid = true → t.key.ident = bytesValBE (s.derive s.key.root (ascii "ELLITH-IDENTITY") 0x104 s.deviceId))) ∧
        (ph = 2 → (∀ a v, failed (.pll false a v) 2 1) ∧
          (∀ a v, s.groom.strapStop = true → ∃ t, exec (.bootPhaseEnd (.pll true a v)) s = .next t ∧ recovered t ∧ t.phase = 2 ∧
            t.fld SYS_BOOT_PHASE_CAUSE = 6 ∧ t.bit SYS_STATUS_BOOT_FAIL = s.bit SYS_STATUS_BOOT_FAIL) ∧
          (∀ a v, s.groom.strapStop = false → passes (.pll true a v) fun t => MemKept s t ∧
            (s.sectorsUsed ≤ 32 → t.fld NVM_SPARE_FREE_SECTORS = 32 - s.sectorsUsed) ∧
            (∀ x, s.abBody repairAt repairLen = some x → (∀ e, e < 10 → t.fld (ENG_SEG_MAP_SEG_OK.inst e) = leField x (2048 + e) 1 % 16) ∧
              t.sense.adopted = (if leField x 2068 1 = 0 then none else some (leField x 2068 1 - 1))) ∧
            natBits (t.reg SPEED_PMBUS_CFG_ADDR.key).toNat 0 19 = a % 2 ^ 19 ∧
            (v = 0 → t.avs = { s.avs with inFlight := some (750, 0), lastCmd := s.time.mono } ∧ t.out = s.out ++ wire t 0x20 0 ++ wire t 0x21 750) ∧
            (v = 1 → t.avs = { s.avs with failed := true } ∧ ev t 13 11) ∧
            (1 < v → t.avs = { s.avs with format := false } ∧ t.out = s.out ++ wire t 0x20 0))) ∧
        (∀ pass samples mv, ph = 3 → passes (.speed pass samples mv) fun t => MemKept s t ∧
          (let good := (List.range 10).filter fun e => pass.contains e && !s.bit (GROOM_ENG_RETIRE_PERMANENT.nth e)
           (∀ k e, good[k]? = some e → (k < 8 → t.role e = roleIn ∧ t.engSlot e = k ∧ t.slotEngine k = e) ∧
             (8 ≤ k → t.role e = roleReserve ∧ t.engSlot e = k - 8 ∧ (k - 8, e) ∈ t.plan.reserve)) ∧
           (∀ e, e < 10 → e ∉ good → t.role e = roleRetired) ∧ t.fld PLAN_CAPS_SLOTS = min good.length 8)) ∧
        (∀ paths, ph = 4 → passes (.sense paths) fun t => MemKept s t) ∧
        (∀ rows bad, ph = 5 → passes (.banks rows bad) fun t =>
          (∀ b off, t.bankWord b off = 0 ∧ t.bankErrAt b off = 0) ∧
          (∀ b k, b < 32 → k < 16 → t.bit ((BANK_SPARE_MAP_GOOD.inst b).nth k) = !bad.contains (b, k)) ∧
          (∀ b, b < 32 → rows = [] → t.fld (BANK_STATUS_SPARES_FREE.inst b) = ((List.range 16).filter fun k => !bad.contains (b, k) &&
            !s.bit ((BANK_SPARE_MAP_USED.inst b).nth k) && !s.bit ((BANK_SPARE_MAP_RETIRED.inst b).nth k)).length)) ∧
        (∀ ok gib, ph = 6 → (ok % 256 ≠ 255 → failed (.dramTrain ok gib) 6 2) ∧
          (ok % 256 = 255 → passes (.dramTrain ok gib) fun t => t.fld DRAM_STATUS_CH_OK = 255 ∧ t.fld DRAM_CAPS_SIZE_GIB = max 1 (min gib 16) ∧
            t.fld DRAM_USABLE_MIB_MIB = max 1 (min gib 16) * 896 ∧ t.groom.dramSpared = [] ∧ t.fld DRAM_SPARE_ROWS_FREE_MIN = 64 ∧
            t.fld DRAM_SPARE_ROWS_PENDING = 0 ∧ MemKept s t)) ∧
        (ph = 7 → failed (.dramEcc false) 7 3 ∧ passes (.dramEcc true) fun t => ∀ a, t.dramByte a = 0 ∧ t.dramErrAt a = 0) ∧
        (ph = 8 → passes .nvm fun t => MemKept s t ∧
          (∀ x, s.abBody countersAt 8 = some x → t.fld SYS_POWER_HOURS_H = leField x 0 4 ∧ t.fld SYS_HOT_HOURS_H = leField x 4 4) ∧
          (s.newerSlot = none → t.fld CAL_STATUS_NVM_SRC = 0 ∧ ev t calPage 14) ∧
          (∀ b x, (∀ q ∈ s.cal.boot, q.1 < 25) → s.newerSlot = some (b, x) → t.fld CAL_STATUS_NVM_SRC = (if b then 2 else 1) ∧ t.fld CAL_NVM_GEN_GEN = leField x 8 4) ∧
          (∀ i, i < 32 → t.bit (KEY_BLOB_STATE_A_VALID.nth i) = s.blobValid i false ∧
            t.bit (KEY_BLOB_STATE_B_VALID.nth i) = s.blobValid i true) ∧
          (∀ c, c < 24 → s.sense.adopted = some c → t.fld SENSE_STATUS_STANDIN_FOR = c)) ∧
        (∀ image, ph = 9 → (∀ c, failed (.microcode (some c) image) 9 c) ∧
          (passes (.microcode none image) fun t => t.meas 1 = sha256 (s.meas 1 ++ sha256 image) ∧ MemKept s t)) ∧
        (ph = 10 → passes .links fun t => t = { s with regs := t.regs }) ∧
        (ph = 11 → ∃ t, exec (.bootPhaseEnd .check) s = .next t ∧ t.phase = 15 ∧ t.bit SYS_STATUS_READY = true ∧
          t.fld SYS_BOOT_US_US = (s.time.mono - s.groom.releasedAt) / unitsPerNs / 1000 % 2 ^ 32 ∧ t.out = s.out ++ [.pin pinReady true] ∧ MemKept s t))) ∧
     -- recovery mode
     (∀ (q : Req) (v : Word), s.gate q 0 = .served → s.mayWrite q 0 = true → ∀ i, i = .recoveryEnter q v ∨ i = .recoveryExit q v →
       (let w := s.countWrite 0
        let op := natBits v.toNat 16 2
        let heard := q = .mspi ∧ natBits v.toNat 0 16 = 0xA5C3
        (¬ heard ∨ ¬ ((op = 1 ∧ s.inRecovery = false) ∨ (op = 2 ∧ s.inRecovery = true)) → exec i s = .next w) ∧
        (heard → op = 1 → s.inRecovery = false → ∃ t, exec i s = .next t ∧ recovered t ∧ t.reg SYS_BOOT_PHASE_PHASE.key = s.reg SYS_BOOT_PHASE_PHASE.key) ∧
        (heard → op = 2 → s.inRecovery = true → ∃ t, exec i s = .next t ∧ t.phase = 1 ∧ t.inRecovery = false ∧
          t.bit SYS_STATUS_READY = false ∧ t.nvm = s.nvm ∧ t.key.root = s.key.root ∧ t.fld SYS_STRAPS_STRAPS = s.fld SYS_STRAPS_STRAPS ∧
          (∀ k, k < 4 → t.meas k = List.replicate 32 0)))) ∧
     -- MSPI
     (∀ addr n ws, exec (.mspiRead addr n true) s = .next s ∧ exec (.mspiWrite addr ws true) s = .next s ∧
       (addr % 4 ≠ 0 → exec (.mspiRead addr n false) s = .next (s.emit (.mspi (List.replicate (4 * n) 0))) ∧
         exec (.mspiWrite addr ws false) s = .next (s.modGroom fun g => { g with refused := true })) ∧
       (addr % 4 = 0 → addr < 2 ^ 22 →
         (let at_ (i : Nat) : Nat × Nat := (addr / 4096, (addr % 4096 + 4 * i) % 4096)
          let x := s.readSeq .mspi at_ 0 n
          exec (.mspiRead addr n false) s = .next (x.2.2.emit (.mspi (x.1.flatMap fun w => valBytes 4 w.toNat))) ∧
          exec (.mspiWrite addr [] false) s = .next s ∧
          (∀ v t, exec (.mspiWrite addr ws false) s = .next t →
            exec (.mspiWrite addr (ws ++ [v]) false) s = exec (.registerWrite .mspi (at_ ws.length).1 (at_ ws.length).2 v none)
              (t.modGroom fun g => { g with refused := t.writeRefused .mspi (at_ ws.length).1 (at_ ws.length).2 v }))))) ∧
     (∃ b : Byte, exec .mspiStatus s = .next (s.emit (.mspi [b])) ∧ b.getLsbD 0 = s.bit SYS_STATUS_READY ∧
       b.getLsbD 1 = s.bit SYS_STATUS_RECOVERY ∧ b.getLsbD 2 = s.bit SYS_STATUS_BOOT_FAIL ∧ b.getLsbD 3 = s.groom.refused ∧ b.toNat / 16 = ph) ∧
     -- configuration requests
     (∀ r, ph < 3 → s.inRecovery = false → exec (.configurationRequest r) s = .next s) ∧
     (∀ r, 3 ≤ ph ∨ s.inRecovery = true → s.pcieHeld = true → exec (.configurationRequest r) s = .next (s.hold269 (.config r))) ∧
     (3 ≤ ph ∨ s.inRecovery = true → s.pcieHeld = false →
       -- the dwords of the BARs: the bits that read as they stand, the bits that are written
       (let bars : List (Nat × Word × Word) := [(4, 0x4, 0xFF000000), (5, 0, 0xFFFFFFFF), (6, 0xC, 0), (7, 0, 0xFFFFFFFF),
          (8, 0x4, 0xFE000000), (9, 0, 0xFFFFFFFF), (12, 0, 0)]
        let bar (dw : Nat) : Prop := dw ∈ bars.map fun b => b.1
       (∀ dw v p, s.host.cfg.find? (fun (p : Nat × Word) => p.1 == dw) = some (p, v) →
         exec (.configurationRequest (.read dw)) s = .next (s.emit (.data .pcie [v]))) ∧
       (∀ dw, s.host.cfg.find? (fun (p : Nat × Word) => p.1 == dw) = none →
         (¬ bar dw → exec (.configurationRequest (.read dw)) s = .next (s.takeFree.emit (.data .pcie [BitVec.ofNat 32 s.freeVal]))) ∧
         (∀ q ∈ bars, q.1 = dw → exec (.configurationRequest (.read dw)) s = .next (s.emit (.data .pcie [q.2.1])))) ∧
       (∀ dw v, ∃ t, exec (.configurationRequest (.write dw v)) s = .next t ∧ t = { s with host := t.host } ∧
         (¬ bar dw → t.host.cfg.find? (fun (p : Nat × Word) => p.1 == dw) = some (dw, v)) ∧
         (∀ q ∈ bars, q.1 = dw → t.host.cfg.find? (fun (p : Nat × Word) => p.1 == dw) = some (dw, (v &&& q.2.2) ||| q.2.1)) ∧
         t.host.memEn = (if dw = 1 then v.getLsbD 1 else s.host.memEn) ∧ t.host.busMaster = (if dw = 1 then v.getLsbD 2 else s.host.busMaster)) ∧
       (∀ en mask, ∃ t, exec (.configurationRequest (.msix en mask)) s = .next t ∧ t.host.msixEn = en ∧ t.host.fnMask = mask))) ∧
     -- adaptive voltage
     (let now := s.fld SPEED_AVS_NOW_MV
      let top := s.fld SPEED_AVS_LIMITS_VMAX_MV
      let sent (t : State) (v : Nat) : Prop := t.fld SPEED_AVS_NOW_MV = v ∧ t.avs.inFlight = some (v, 0) ∧ t.avs.lastCmd = s.time.mono ∧
        (∀ o ∈ wire s 0x21 v, o ∈ t.out) ∧ ev t 13 10
      let due := s.avs.lastCmd + s.fld SPEED_AVS_STEP_SETTLE_US * 1000 * unitsPerNs ≤ s.time.mono ∧ s.avs.up = true ∧ s.avsPlanRuns = true ∧ s.avsOn = true
      (¬ due → exec .avsSettle s = .next s) ∧
      (due → now < top → ∃ t, exec .avsSettle s = .next t ∧ sent t (min top (now + s.avsStep)) ∧
        t.fld SPEED_AVS_COUNT_UP = min (s.fld SPEED_AVS_COUNT_UP + 1) 65535) ∧
      (due → top ≤ now → ∃ t, exec .avsSettle s = .next t ∧ ev t 13 12 ∧ t.fld SPEED_AVS_NOW_MV = now) ∧
      (let ended := s.avs.periodAt + s.fld SPEED_AVS_STEP_PERIOD_MS * 1000000 * unitsPerNs ≤ s.time.mono
       let next (p : PlanTabs) : Prop := s.avsOn = true ∧ s.avsPlanRuns = true ∧ s.avs.moved = false ∧
         s.avs.lastCmd + s.fld SPEED_AVS_STEP_SETTLE_US * 1000 * unitsPerNs ≤ s.time.mono ∧ s.avsStep ≤ now ∧
         s.fld SPEED_AVS_LIMITS_VMIN_MV ≤ now - s.avsStep ∧
         pctOf (p.avail s.rate) (s.fld SPEED_AVS_MARGIN_DOWN_PCT) ≤ p.margin s.rate (s.avs.minShed.getD s.plan.shed) s.avsPredicted
       let fresh : AvsS := { s.avs with periodAt := s.time.mono, moved := false, minShed := none }
       (¬ ended → exec .avsPeriod s = .next s) ∧
       (ended → s.plan.active = none → exec .avsPeriod s = .next { s with avs := fresh }) ∧
       (∀ p, ended → s.plan.active = some p → (¬ next p → exec .avsPeriod s = .next { s with avs := fresh }) ∧
         (next p → ∃ t, exec .avsPeriod s = .next t ∧ sent t (now - s.avsStep) ∧
           t.fld SPEED_AVS_COUNT_DOWN = min (s.fld SPEED_AVS_COUNT_DOWN + 1) 65535 ∧ t.avs.periodAt = s.time.mono))) ∧
      (∀ ack, (s.avs.inFlight = none → exec (.pmbusTransactionEnd ack) s = .next s) ∧
        (∀ mv n, s.avs.inFlight = some (mv, n) →
          (ack = true → exec (.pmbusTransactionEnd ack) s = .next { s with avs := { s.avs with inFlight := none } }) ∧
          (ack = false → n < 3 → exec (.pmbusTransactionEnd ack) s =
            .next { s with
              avs := { s.avs with inFlight := some (mv, n + 1) }
              out := s.out ++ wire s 0x21 mv }) ∧
          (ack = false → 3 ≤ n → ∃ t, exec (.pmbusTransactionEnd ack) s = .next t ∧ ev t 13 11 ∧
            t.avs = { s.avs with inFlight := none, failed := true } ∧ Quiet { s with avs := t.avs } t)))))

/-- Engine and segment tests, DRAM rows, NVM writes, hours, wear and self-refresh (R487, R488, R489, R490, R491,
R492, R493, R495, R515). An engine test takes an engine of ROLE RESERVE to TEST, a retired one stays RETIRED; a
passed reserve returns, a failed one is retired with ENG_TEST_FAIL; a retired engine that has passed RETURN_PASSES
times in a row becomes a cold spare, and the code of its place makes it a LOST slot's engine or a group's reserve. A
segment test of a powered-down segment sets SEG_OK. A scrubbed DRAM word with one bit wrong is good again; a row
that fails goes to a runtime spare, with ROW_SPARED and SPARES_LOW, or raises BLOCK_FAULT with none free. The oldest
NVM write that waits is made, else that of a repair map that has changed, with a spare sector for every failed read-
back. Hours count, and the counters wait to be written; every 240 hours a wear record is written. Self-refresh is
entered while every tolerance allows it and its time is counted. How a value of R492 or R493 that is not whole is
rounded is the model's free choice (log entry 30). -/
def Obligations.ServiceTestsSparesAndWear : Prop :=
  ∀ s : State,
    (let ev (t : State) (p b : Nat) : Prop := (t.reg (regKey p 0x010)).getLsbD b = true
     let perm (e : Nat) : Bool := s.bit (GROOM_ENG_RETIRE_PERMANENT.nth e)
     let passes (t : State) (e : Nat) : Nat := mapGet (fun _ => 0) t.groom.passes e
     -- engine tests
     (∀ e, 10 ≤ e ∨ s.bit GROOM_CTRL_ENG_TEST_EN = false ∨ e ∈ s.engTest ∨ s.role e = roleIn ∨ s.role e = roleTest ∨
         (s.role e = roleRetired ∧ perm e = true) → exec (.engTest e) s = .next s) ∧
     (∀ e, e < 10 → s.bit GROOM_CTRL_ENG_TEST_EN = true → e ∉ s.engTest →
       (s.role e = roleReserve → ∃ t, exec (.engTest e) s = .next t ∧ t.role e = roleTest ∧ t.engSlot e = s.engSlot e ∧
         t.engTest = s.engTest ++ [e] ∧ ev t (engPage e) 9 ∧ Quiet { s with engTest := t.engTest } t) ∧
       (s.role e = roleRetired → perm e = false → exec (.engTest e) s = .next { s with engTest := s.engTest ++ [e] })) ∧
     (∀ e pass, e ∉ s.engTest → exec (.engTestEnd e pass) s = .next s) ∧
     (∀ e, e < 10 → e ∈ s.engTest →
       (let off := s.engTest.filter fun j => j != e
        (s.role e = roleTest →
          (∃ t, exec (.engTestEnd e true) s = .next t ∧ t.role e = roleReserve ∧ t.engTest = off ∧ Quiet { s with engTest := off } t) ∧
          (∃ t, exec (.engTestEnd e false) s = .next t ∧ t.role e = roleRetired ∧ t.engTest = off ∧ ev t groomPage 9 ∧
            t.fld (GROOM_ENG_RETIRE_COUNT.nth e) = min (s.fld (GROOM_ENG_RETIRE_COUNT.nth e) + 1) 15 ∧
            (t.bit (GROOM_ENG_RETIRE_PERMANENT.nth e) = true ↔ perm e = true ∨
              max (s.fld GROOM_RETURN_RETIRE_LIMIT) 1 ≤ t.fld (GROOM_ENG_RETIRE_COUNT.nth e)) ∧
            (∀ g k, g < 2 → s.plan.reserve.find? (fun (q : Nat × Nat) => q.1 == g) = some (g, e) → k / 4 = g →
              t.fld (PLAN_SLOT_SHADOWED.nth k) = 0))) ∧
        (s.role e = roleRetired →
          (∃ t, exec (.engTestEnd e false) s = .next t ∧ t.role e = roleRetired ∧ t.engTest = off ∧ passes t e = 0 ∧ ev t groomPage 9) ∧
          (let enough := max (s.fld GROOM_RETURN_RETURN_PASSES) 1 ≤ passes s e + 1 ∧ perm e = false
           (¬ enough → ∃ t, exec (.engTestEnd e true) s = .next t ∧ t.role e = roleRetired ∧ passes t e = passes s e + 1) ∧
           (enough → ∃ t, exec (.engTestEnd e true) s = .next t ∧ t.role e = roleTest ∧ passes t e = 0 ∧
             (∀ q ∈ t.plan.reserve, q.2 ≠ e) ∧ (t.place = .spare → ev t groomPage 8)))))) ∧
     (∀ e, 10 ≤ e ∨ s.coldSpare e = false ∨ s.place = .spare → exec (.returnedEngineLoaded e) s = .next s) ∧
     (∀ e, e < 10 → s.coldSpare e = true →
       (∀ k p tab seg, s.place = .slot k → s.plan.active = some p → p.slots[k]? = some tab →
         (List.range 4).find? (fun g => (s.fld (ENG_SEG_MAP_SEG_OK.inst e)).testBit g) = some seg →
         ∃ t, exec (.returnedEngineLoaded e) s = .next t ∧ t.fld (ENG_SEG_MAP_SEG.inst e) = seg ∧
           t.eng e = (s.eng e).loadSeg seg tab.code ∧ t.groom.returned = s.groom.returned ++ [(e, k)]) ∧
       (∀ k, s.place = .slot k → s.plan.active = none → exec (.returnedEngineLoaded e) s = .next s) ∧
       (∀ g, s.place = .group g → ∃ t, exec (.returnedEngineLoaded e) s = .next t ∧ t.role e = roleReserve ∧ t.engSlot e = g ∧
         t.reserveOf g = some e ∧ ev t groomPage 8)) ∧
     -- segments
     (∀ e seg pass,
       (let free := e < 10 ∧ seg < 4 ∧ (∀ q ∈ s.plan.reserve, q.2 ≠ e) ∧
          (s.role e = roleIn ∨ (∃ q ∈ s.groom.returned, q.1 = e) → s.fld (ENG_SEG_MAP_SEG.inst e) ≠ seg ∧
            ∀ q ∈ s.plan.stagedSeg ++ s.plan.segDue, s.slotEngine q.1 = e → q.2 ≠ seg)
        (¬ free → exec (.segTest e seg pass) s = .next s) ∧
        (free → ∃ t, exec (.segTest e seg pass) s = .next t ∧
          (∀ k, k < 4 → (t.fld (ENG_SEG_MAP_SEG_OK.inst e)).testBit k =
            (if k = seg then pass else (s.fld (ENG_SEG_MAP_SEG_OK.inst e)).testBit k)) ∧ (pass = false → ev t groomPage 10) ∧ Quiet s t))) ∧
     -- DRAM rows
     (∀ addr ch row np fl, s.bit GROOM_CTRL_DRAM_SCRUB_EN = false ∨ s.inDram (addr / 8 * 8) 8 = false ∨ 8 ≤ ch →
       exec (.dramScrub addr ch row np fl) s = .next s) ∧
     (∀ addr ch row fl, s.bit GROOM_CTRL_DRAM_SCRUB_EN = true → s.inDram (addr / 8 * 8) 8 = true → ch < 8 →
       (let err := s.dramErrAt addr
        let seen := match s.groom.dramCorr.find? (fun (q : Nat × Nat × Nat) => q.1 == ch && q.2.1 == row) with | some q => q.2.2 | none => 0
        let bad := fl = true ∨ err = 2 ∨ (err = 1 ∧ max (s.fld GROOM_ROW_CORR_LIMIT_COUNT) 1 ≤ seen + 1)
        let kept (t : State) : Prop := (∀ a, t.dramByte a = s.dramByte a) ∧ (∀ a, a / 8 ≠ addr / 8 → t.dramErrAt a = s.dramErrAt a)
        err ≤ 2 → ∃ t, exec (.dramScrub addr ch row false fl) s = .next t ∧ kept t ∧
          (err = 1 → t.dramErrAt addr = 0 ∧ t.fld DRAM_ECC_CORR_COUNT_COUNT = (s.fld DRAM_ECC_CORR_COUNT_COUNT + 1) % 2 ^ 32 ∧ ev t dramPage 4 ∧
            (ch, row, seen + 1) ∈ t.groom.dramCorr) ∧
          (err = 2 → t.dramErrAt addr = 2 ∧ t.fld DRAM_ECC_UNCORR_COUNT_COUNT = (s.fld DRAM_ECC_UNCORR_COUNT_COUNT + 1) % 2 ^ 32 ∧ ev t dramPage 5) ∧
          (bad → (ch, row) ∈ s.groom.dramMirror ∨ 0 < s.dramFree ch → (ch, row) ∈ t.groom.dramMirror) ∧
          (bad → (ch, row) ∉ s.groom.dramMirror → s.dramFree ch = 0 → ev t dramPage 6 ∧ t.groom.dramMirror = s.groom.dramMirror) ∧
          (¬ bad → t.groom.dramMirror = s.groom.dramMirror))) ∧
     (∀ ch row, (ch, row) ∉ s.groom.dramMirror → exec (.dramRowSpared ch row) s = .next s) ∧
     (∀ ch row, ch < 8 → (ch, row) ∈ s.groom.dramMirror → ∃ t, exec (.dramRowSpared ch row) s = .next t ∧
       (ch, row) ∉ t.groom.dramMirror ∧ t.groom.dramSpared = s.groom.dramSpared ++ [(ch, row)] ∧ MemKept s t ∧ ev t dramPage 8 ∧
       (64 - (t.groom.dramSpared.filter fun q => q.1 == ch).length = 8 → ev t dramPage 9) ∧
       t.fld DRAM_SPARE_ROWS_PENDING = min (s.groom.dramSpared.length + 1) 255) ∧
     -- NVM writes, hours and wear
     (∀ fails, (s.nvmPend = [] → s.repairDue = none → exec (.nvmWriteDone fails) s = .next s) ∧
       (∀ a bs l, s.nvmPend = (a, bs) :: l ∨ (s.nvmPend = [] ∧ l = [] ∧ s.repairDue = some (a, bs)) → ∃ t, exec (.nvmWriteDone fails) s = .next t ∧ t.nvmPend = l ∧
         (∀ b, b < a ∨ a + bs.length ≤ b → t.nvmBytes b 1 = s.nvmBytes b 1) ∧
         (fails ≤ s.fld NVM_SPARE_FREE_SECTORS → t.nvmBytes a bs.length = bs ∧
           t.fld NVM_SPARE_FREE_SECTORS = s.fld NVM_SPARE_FREE_SECTORS - fails ∧ (0 < fails → ev t nvmPage 8)) ∧
         (s.fld NVM_SPARE_FREE_SECTORS < fails → t.fld NVM_SPARE_FREE_SECTORS = 0 ∧ ev t nvmPage 6))) ∧
     (s.phase = 0 → exec .hourTick s = .next s) ∧
     (s.phase ≠ 0 → ∃ t, exec .hourTick s = .next t ∧ t.fld SYS_POWER_HOURS_H = (s.fld SYS_POWER_HOURS_H + 1) % 2 ^ 32 ∧
       t.fld SYS_HOT_HOURS_H = (s.fld SYS_HOT_HOURS_H + if s.groom.hot then 1 else 0) % 2 ^ 32 ∧
       t.groom = { s.groom with
         hot := false
         lastWorst := s.groom.worst
         worst := none
         segCorr := s.groom.segCorr.filter fun q => decide (max (s.fld GROOM_ROW_CORR_LIMIT_COUNT) 1 ≤ q.2) } ∧
       (∃ a bs, t.nvmPend = s.nvmPend ++ [(a, bs)] ∧ (a = 0xC000 ∨ a = 0xE000) ∧
         (bs.drop 4).take 8 = valBytes 4 (t.fld SYS_POWER_HOURS_H) ++ valBytes 4 (t.fld SYS_HOT_HOURS_H)) ∧
       t = { s with regs := t.regs, groom := t.groom, nvmPend := t.nvmPend }) ∧
     (∀ fails,
       (let h := s.fld SYS_POWER_HOURS_H
        let due := h % 240 = 0 ∧ s.groom.lastHours < h
        let a := 0x10000 + 16 * s.groom.wearHead
        let w := s.groom.lastWorst.getD (0, 0)
        (¬ due → exec (.wearRecord fails) s = .next s) ∧
        (due → ∃ t, exec (.wearRecord fails) s = .next t ∧ t.groom.wearHead = (s.groom.wearHead + 1) % 2048 ∧ t.groom.lastHours = h ∧
          (∀ b, b < a ∨ a + 16 ≤ b → t.nvmBytes b 1 = s.nvmBytes b 1) ∧
          (∃ ps, (w.1.floor.toNat ≤ ps ∧ ps ≤ w.1.floor.toNat + 1 ∧ (w.1 = w.1.floor → ps = w.1.floor.toNat)) ∧
            t.fld SYS_WEAR_PS_PS = ps % 2 ^ 16 ∧
            (fails ≤ s.fld NVM_SPARE_FREE_SECTORS → leField (t.nvmBytes a 16) 0 4 = h ∧ leField (t.nvmBytes a 16) 4 2 = ps % 2 ^ 16 ∧
              leField (t.nvmBytes a 16) 8 4 = s.fld SYS_HOT_HOURS_H ∧ leField (t.nvmBytes a 16) 12 4 = crc32 ((t.nvmBytes a 16).take 12))) ∧
          (t.wearRecords.length < 8 → t.reg SYS_EOL_DAYS_DAYS.key = s.reg SYS_EOL_DAYS_DAYS.key) ∧
          (8 ≤ t.wearRecords.length → t.bit SYS_EOL_DAYS_VALID = true ∧
            (match wearFit (s.fld SYS_WEAR_PS_S0_PS) h t.wearRecords with
              | none => t.fld SYS_EOL_DAYS_DAYS = 0xFFFF
              | some q => (min (max 0 q) 0xFFFF).floor ≤ (t.fld SYS_EOL_DAYS_DAYS : Int) ∧
                  (t.fld SYS_EOL_DAYS_DAYS : Rat) < min (max 0 q) 0xFFFF + 1) ∧
            (h + 24 * t.fld SYS_EOL_DAYS_DAYS < 24 * 9131 → t.bit SYS_STATUS_WEAR_WARN = true ∧
              (s.bit SYS_STATUS_WEAR_WARN = false → ev t 0 8)))))) ∧
     -- self-refresh
     (s.mayRefresh = false ∨ s.bit DRAM_STATUS_SELF_REFRESH = true → exec .selfRefreshEnter s = .next s) ∧
     (s.mayRefresh = true → s.bit DRAM_STATUS_SELF_REFRESH = false → ∃ t, exec .selfRefreshEnter s = .next t ∧
       t.bit DRAM_STATUS_SELF_REFRESH = true ∧ t.groom = { s.groom with srAt := some s.time.mono } ∧ t = { s with regs := t.regs, groom := t.groom }) ∧
     (s.groom.srAt = none → exec .selfRefreshExit s = .next s) ∧
     (∀ a, s.groom.srAt = some a → ∃ t, exec .selfRefreshExit s = .next t ∧ t.bit DRAM_STATUS_SELF_REFRESH = false ∧
       (let u := s.groom.srUnits + (s.time.mono - a)
        t.groom = { s.groom with srAt := none, srUnits := u } ∧ t.fld DRAM_SR_MS_MS = u / unitsPerNs / 1000000 % 2 ^ 32) ∧
       t = { s with regs := t.regs, groom := t.groom }))
end

