-- ==== Sys2Proof/Laws/Store.lean ====
section
/-! SUPPORT. The laws of sparse storage: read over write, and the canonical form is kept. -/

namespace Sys2Proof.Machine

variable {β : Type}

theorem mapGet_erase_ne (d : Nat → β) (m : List (Nat × β)) {k k' : Nat} (h : k' ≠ k) :
    mapGet d (mapErase m k) k' = mapGet d m k' := by
  induction m with
  | nil => rfl
  | cons p t ih =>
    unfold mapErase at *
    by_cases hp : p.1 = k
    · have : p.1 ≠ k' := fun e => h (e ▸ hp)
      simp [hp, mapGet, ih, h.symm]
    · simp [hp, mapGet, ih]

theorem mapGet_erase_same (d : Nat → β) (m : List (Nat × β)) (k : Nat) :
    mapGet d (mapErase m k) k = d k := by
  induction m with
  | nil => rfl
  | cons p t ih =>
    unfold mapErase at *
    by_cases hp : p.1 = k
    · simp [hp, ih]
    · simp [hp, mapGet, ih]

theorem mapGet_insert_ne (d : Nat → β) (m : List (Nat × β)) {k k' : Nat} (v : β) (h : k' ≠ k) :
    mapGet d (mapInsert m k v) k' = mapGet d m k' := by
  induction m with
  | nil => simp [mapInsert, mapGet, h.symm]
  | cons p t ih =>
    unfold mapInsert
    split
    · simp [mapGet, h.symm]
    · simp [mapGet, ih]

theorem mapGet_insert_same (d : Nat → β) (m : List (Nat × β)) (k : Nat) (v : β)
    (h : ∀ p ∈ m, p.1 ≠ k) : mapGet d (mapInsert m k v) k = v := by
  induction m with
  | nil => simp [mapInsert, mapGet]
  | cons p t ih =>
    unfold mapInsert
    split
    · simp [mapGet]
    · have hp : p.1 ≠ k := h p (by simp)
      simp [mapGet, hp]
      exact ih fun q hq => h q (by simp [hq])

theorem mapErase_key (m : List (Nat × β)) (k : Nat) : ∀ p ∈ mapErase m k, p.1 ≠ k := by
  intro p hp
  simpa using (List.mem_filter.1 hp).2

/-- Read over write, at the key written and at every other. -/
theorem mapGet_set [DecidableEq β] (d : Nat → β) (m : List (Nat × β)) (k k' : Nat) (v : β) :
    mapGet d (mapSet d m k v) k' = if k' = k then v else mapGet d m k' := by
  unfold mapSet
  by_cases hk : k' = k
  · subst hk
    split
    · next h => simp [mapGet_erase_same, h]
    · simp [mapGet_insert_same d _ k' v (mapErase_key m k')]
  · split
    · simp [hk, mapGet_erase_ne d m hk]
    · simp [hk, mapGet_insert_ne d _ v hk, mapGet_erase_ne d m hk]

@[simp] theorem mapGet_set_same [DecidableEq β] (d : Nat → β) (m : List (Nat × β)) (k : Nat) (v : β) :
    mapGet d (mapSet d m k v) k = v := by simp [mapGet_set]

theorem mapGet_set_ne [DecidableEq β] (d : Nat → β) (m : List (Nat × β)) {k k' : Nat} (v : β)
    (h : k' ≠ k) : mapGet d (mapSet d m k v) k' = mapGet d m k' := by simp [mapGet_set, h]

@[simp] theorem mapGet_nil (d : Nat → β) (k : Nat) : mapGet d [] k = d k := rfl

theorem mapWf_cons [DecidableEq β] (d : Nat → β) (p : Nat × β) (t : List (Nat × β)) :
    mapWf d (p :: t) = true ↔ p.2 ≠ d p.1 ∧ (∀ q ∈ t, p.1 < q.1) ∧ mapWf d t = true := by
  simp [mapWf, and_assoc]

theorem mapWf_erase [DecidableEq β] (d : Nat → β) (m : List (Nat × β)) (k : Nat)
    (h : mapWf d m = true) : mapWf d (mapErase m k) = true := by
  induction m with
  | nil => exact h
  | cons p t ih =>
    obtain ⟨h1, h2, h3⟩ := (mapWf_cons d p t).1 h
    unfold mapErase at *
    by_cases hp : p.1 = k
    · simpa [hp] using ih h3
    · simp only [List.filter_cons, bne_iff_ne, ne_eq, hp, not_false_eq_true, ↓reduceIte]
      exact (mapWf_cons d p _).2 ⟨h1, fun q hq => h2 q (List.mem_filter.1 hq).1, ih h3⟩

theorem mem_mapInsert (m : List (Nat × β)) (k : Nat) (v : β) (q : Nat × β)
    (h : q ∈ mapInsert m k v) : q = (k, v) ∨ q ∈ m := by
  induction m with
  | nil => simpa [mapInsert] using h
  | cons p t ih =>
    unfold mapInsert at h
    split at h
    · simpa using h
    · rcases List.mem_cons.1 h with rfl | h
      · simp
      · rcases ih h with rfl | h <;> simp_all

theorem mapWf_insert [DecidableEq β] (d : Nat → β) (m : List (Nat × β)) (k : Nat) (v : β)
    (hv : v ≠ d k) (hk : ∀ p ∈ m, p.1 ≠ k) (h : mapWf d m = true) :
    mapWf d (mapInsert m k v) = true := by
  induction m with
  | nil => simpa [mapInsert, mapWf] using hv
  | cons p t ih =>
    obtain ⟨h1, h2, h3⟩ := (mapWf_cons d p t).1 h
    unfold mapInsert
    split
    · next hlt =>
      refine (mapWf_cons d _ _).2 ⟨hv, ?_, h⟩
      intro q hq
      rcases List.mem_cons.1 hq with rfl | hq
      · exact hlt
      · exact lt_trans hlt (h2 q hq)
    · next hlt =>
      have hne : p.1 ≠ k := hk p (by simp)
      refine (mapWf_cons d _ _).2 ⟨h1, ?_, ih (fun q hq => hk q (by simp [hq])) h3⟩
      intro q hq
      rcases mem_mapInsert t k v q hq with rfl | hq
      · simp only; omega
      · exact h2 q hq

/-- Writing keeps the canonical form. -/
theorem mapWf_set [DecidableEq β] (d : Nat → β) (m : List (Nat × β)) (k : Nat) (v : β)
    (h : mapWf d m = true) : mapWf d (mapSet d m k v) = true := by
  unfold mapSet
  split
  · exact mapWf_erase d m k h
  · next hv => exact mapWf_insert d _ k v hv (mapErase_key m k) (mapWf_erase d m k h)

theorem mapWf_setList [DecidableEq β] (d : Nat → β) (vs : List β) :
    ∀ (m : List (Nat × β)) (k : Nat), mapWf d m = true → mapWf d (mapSetList d m k vs) = true := by
  induction vs with
  | nil => intro m k h; exact h
  | cons v t ih => intro m k h; exact ih _ _ (mapWf_set d m k v h)

/-- A list write leaves every key outside it alone. -/
theorem mapGet_setList_out [DecidableEq β] (d : Nat → β) (vs : List β) :
    ∀ (m : List (Nat × β)) (k k' : Nat), (k' < k ∨ k + vs.length ≤ k') →
      mapGet d (mapSetList d m k vs) k' = mapGet d m k' := by
  induction vs with
  | nil => intro m k k' _; rfl
  | cons v t ih =>
    intro m k k' h
    simp only [List.length_cons] at h
    rw [mapSetList, ih _ _ _ (by omega), mapGet_set_ne d m v (by omega)]

/-- Two canonical stores that read alike everywhere are the same data. -/
theorem mapGet_lt_default [DecidableEq β] (d : Nat → β) (m : List (Nat × β)) (k : Nat)
    (h : ∀ q ∈ m, k < q.1) : mapGet d m k = d k := by
  induction m with
  | nil => rfl
  | cons p t ih =>
    have hp : k < p.1 := h p (by simp)
    simp only [mapGet, show p.1 ≠ k by omega, ↓reduceIte]
    exact ih fun q hq => h q (by simp [hq])

/-- A list read over a list write gives what was written. -/
theorem mapGetList_setList [DecidableEq β] (d : Nat → β) (vs : List β) :
    ∀ (m : List (Nat × β)) (k : Nat), mapGetList d (mapSetList d m k vs) k vs.length = vs := by
  induction vs with
  | nil => intro m k; rfl
  | cons v t ih =>
    intro m k
    have h0 : mapGet d (mapSetList d (mapSet d m k v) (k + 1) t) k = v := by
      rw [mapGet_setList_out _ _ _ _ _ (by omega)]; simp
    have ht := ih (mapSet d m k v) (k + 1)
    simp only [mapGetList, mapSetList, List.length_cons, List.range_succ_eq_map, List.map_cons, List.map_map] at *
    refine List.cons_eq_cons.2 ⟨by simpa using h0, ?_⟩
    refine Eq.trans (List.map_congr_left fun i _ => ?_) ht
    simp [Nat.add_assoc, Nat.add_comm 1]

theorem valBytes_length (n v : Nat) : (valBytes n v).length = n := by simp [valBytes]

/-- The value of a number's bytes is the number, up to their width (R16). -/
theorem bytesVal_valBytes (n v : Nat) : bytesVal (valBytes n v) = v % 256 ^ n := by
  induction n generalizing v with
  | zero => simp [valBytes, bytesVal, Nat.mod_one]
  | succ k ih =>
    have : valBytes (k + 1) v = BitVec.ofNat 8 v :: valBytes k (v / 256) := by
      simp only [valBytes, List.range_succ_eq_map, List.map_cons, List.map_map]
      congr 1
      · simp
      · apply List.map_congr_left; intro i _
        simp only [Function.comp_apply, Nat.succ_eq_add_one, Nat.div_div_eq_div_mul]
        rw [show 2 ^ (8 * (i + 1)) = 256 * 2 ^ (8 * i) by rw [Nat.mul_add, Nat.pow_add, Nat.mul_comm]]
    rw [this, bytesVal, ih, BitVec.toNat_ofNat]
    exact (Nat.pow_succ' (m := 256) (n := k) ▸ Nat.mod_mul).symm

end Sys2Proof.Machine
end

