-- ==== Sys2Proof/Laws/Crypto.lean ====
section
/-! SUPPORT. Widths of the algorithms' results: CRC-32 and the GCM tag. -/

namespace Sys2Proof.Machine

open Sys2Proof

/-- A step of the CRC register keeps it in 32 bits. -/
theorem crcByte_lt (c : Nat) (b : Byte) (h : c < 2 ^ 32) : crcByte c b < 2 ^ 32 := by
  have step : ∀ r : Nat, r < 2 ^ 32 → (if r % 2 = 1 then (r / 2) ^^^ 0xEDB88320 else r / 2) < 2 ^ 32 := by
    intro r hr
    split
    · exact Nat.xor_lt_two_pow (by omega) (by norm_num)
    · omega
  have all : ∀ (l : List Nat) (r : Nat), r < 2 ^ 32 →
      l.foldl (fun r _ => if r % 2 = 1 then (r / 2) ^^^ 0xEDB88320 else r / 2) r < 2 ^ 32 := by
    intro l
    induction l with
    | nil => intro r hr; exact hr
    | cons _ t ih => intro r hr; exact ih _ (step r hr)
  exact all _ _ (Nat.xor_lt_two_pow h (by have := b.isLt; omega))

/-- CRC-32 gives 32 bits. -/
theorem crc32_lt (bs : List Byte) : crc32 bs < 2 ^ 32 := by
  have all : ∀ (l : List Byte) (c : Nat), c < 2 ^ 32 → l.foldl crcByte c < 2 ^ 32 := by
    intro l
    induction l with
    | nil => intro r hr; exact hr
    | cons b t ih => intro r hr; exact ih _ (crcByte_lt r b hr)
  exact Nat.xor_lt_two_pow (all bs _ (by norm_num)) (by norm_num)

theorem valBytesBE_length (n v : Nat) : (valBytesBE n v).length = n := by simp [valBytesBE, valBytes]

/-- A tag has 128 bits. -/
theorem gcmTag_length (key iv aad ct : List Byte) : (gcmTag key iv aad ct).length = 16 := by simp [gcmTag, valBytesBE_length]

end Sys2Proof.Machine
end

