-- ==== Sys2Proof/Laws/State.lean ====
section
/-! SUPPORT. What each primitive update of the state changes: one lemma per field per update, true by unfolding. -/

namespace Sys2Proof.Machine

open Sys2Proof

/-! `setReg` changes `regs` and nothing else. -/
@[simp] theorem setReg_pending (s : State) (k : Nat) (v : Word) : (s.setReg k v).pending = s.pending := rfl
@[simp] theorem setReg_out (s : State) (k : Nat) (v : Word) : (s.setReg k v).out = s.out := rfl
@[simp] theorem setReg_free (s : State) (k : Nat) (v : Word) : (s.setReg k v).free = s.free := rfl
@[simp] theorem setReg_regs (s : State) (k : Nat) (v : Word) : (s.setReg k v).regs = mapSet regReset s.regs k v := rfl
@[simp] theorem setReg_inForce (s : State) (k : Nat) (v : Word) : (s.setReg k v).inForce = s.inForce := rfl
@[simp] theorem setReg_snaps (s : State) (k : Nat) (v : Word) : (s.setReg k v).snaps = s.snaps := rfl
@[simp] theorem setReg_heldLo (s : State) (k : Nat) (v : Word) : (s.setReg k v).heldLo = s.heldLo := rfl
@[simp] theorem setReg_commits (s : State) (k : Nat) (v : Word) : (s.setReg k v).commits = s.commits := rfl
@[simp] theorem setReg_recQ (s : State) (k : Nat) (v : Word) : (s.setReg k v).recQ = s.recQ := rfl
@[simp] theorem setReg_host (s : State) (k : Nat) (v : Word) : (s.setReg k v).host = s.host := rfl
@[simp] theorem setReg_time (s : State) (k : Nat) (v : Word) : (s.setReg k v).time = s.time := rfl
@[simp] theorem setReg_trig (s : State) (k : Nat) (v : Word) : (s.setReg k v).trig = s.trig := rfl
@[simp] theorem setReg_engs (s : State) (k : Nat) (v : Word) : (s.setReg k v).engs = s.engs := rfl
@[simp] theorem setReg_plan (s : State) (k : Nat) (v : Word) : (s.setReg k v).plan = s.plan := rfl
@[simp] theorem setReg_banks (s : State) (k : Nat) (v : Word) : (s.setReg k v).banks = s.banks := rfl
@[simp] theorem setReg_bankMem (s : State) (k : Nat) (v : Word) : (s.setReg k v).bankMem = s.bankMem := rfl
@[simp] theorem setReg_bankErr (s : State) (k : Nat) (v : Word) : (s.setReg k v).bankErr = s.bankErr := rfl
@[simp] theorem setReg_bankBusy (s : State) (k : Nat) (v : Word) : (s.setReg k v).bankBusy = s.bankBusy := rfl
@[simp] theorem setReg_dram (s : State) (k : Nat) (v : Word) : (s.setReg k v).dram = s.dram := rfl
@[simp] theorem setReg_dramErr (s : State) (k : Nat) (v : Word) : (s.setReg k v).dramErr = s.dramErr := rfl
@[simp] theorem setReg_marks (s : State) (k : Nat) (v : Word) : (s.setReg k v).marks = s.marks := rfl
@[simp] theorem setReg_snsHeld (s : State) (k : Nat) (v : Word) : (s.setReg k v).snsHeld = s.snsHeld := rfl
@[simp] theorem setReg_sched (s : State) (k : Nat) (v : Word) : (s.setReg k v).sched = s.sched := rfl
@[simp] theorem setReg_fifos (s : State) (k : Nat) (v : Word) : (s.setReg k v).fifos = s.fifos := rfl
@[simp] theorem setReg_evtBuf (s : State) (k : Nat) (v : Word) : (s.setReg k v).evtBuf = s.evtBuf := rfl
@[simp] theorem setReg_evtDrop (s : State) (k : Nat) (v : Word) : (s.setReg k v).evtDrop = s.evtDrop := rfl
@[simp] theorem setReg_cmds (s : State) (k : Nat) (v : Word) : (s.setReg k v).cmds = s.cmds := rfl
@[simp] theorem setReg_hdmaDone (s : State) (k : Nat) (v : Word) : (s.setReg k v).hdmaDone = s.hdmaDone := rfl
@[simp] theorem setReg_nets (s : State) (k : Nat) (v : Word) : (s.setReg k v).nets = s.nets := rfl
@[simp] theorem setReg_wheel (s : State) (k : Nat) (v : Word) : (s.setReg k v).wheel = s.wheel := rfl
@[simp] theorem setReg_ingests (s : State) (k : Nat) (v : Word) : (s.setReg k v).ingests = s.ingests := rfl
@[simp] theorem setReg_egresses (s : State) (k : Nat) (v : Word) : (s.setReg k v).egresses = s.egresses := rfl
@[simp] theorem setReg_sacn (s : State) (k : Nat) (v : Word) : (s.setReg k v).sacn = s.sacn := rfl
@[simp] theorem setReg_dmxs (s : State) (k : Nat) (v : Word) : (s.setReg k v).dmxs = s.dmxs := rfl
@[simp] theorem setReg_scans (s : State) (k : Nat) (v : Word) : (s.setReg k v).scans = s.scans := rfl
@[simp] theorem setReg_leds (s : State) (k : Nat) (v : Word) : (s.setReg k v).leds = s.leds := rfl
@[simp] theorem setReg_sense (s : State) (k : Nat) (v : Word) : (s.setReg k v).sense = s.sense := rfl
@[simp] theorem setReg_cal (s : State) (k : Nat) (v : Word) : (s.setReg k v).cal = s.cal := rfl
@[simp] theorem setReg_cls (s : State) (k : Nat) (v : Word) : (s.setReg k v).cls = s.cls := rfl
@[simp] theorem setReg_group (s : State) (k : Nat) (v : Word) : (s.setReg k v).group = s.group := rfl
@[simp] theorem setReg_rxFrames (s : State) (k : Nat) (v : Word) : (s.setReg k v).rxFrames = s.rxFrames := rfl
@[simp] theorem setReg_key (s : State) (k : Nat) (v : Word) : (s.setReg k v).key = s.key := rfl
@[simp] theorem setReg_nvm (s : State) (k : Nat) (v : Word) : (s.setReg k v).nvm = s.nvm := rfl
@[simp] theorem setReg_nvmPend (s : State) (k : Nat) (v : Word) : (s.setReg k v).nvmPend = s.nvmPend := rfl
@[simp] theorem setReg_nvmMap (s : State) (k : Nat) (v : Word) : (s.setReg k v).nvmMap = s.nvmMap := rfl
@[simp] theorem setReg_mainPower (s : State) (k : Nat) (v : Word) : (s.setReg k v).mainPower = s.mainPower := rfl
@[simp] theorem setReg_avs (s : State) (k : Nat) (v : Word) : (s.setReg k v).avs = s.avs := rfl
@[simp] theorem setReg_dtsOff (s : State) (k : Nat) (v : Word) : (s.setReg k v).dtsOff = s.dtsOff := rfl
@[simp] theorem setReg_engTest (s : State) (k : Nat) (v : Word) : (s.setReg k v).engTest = s.engTest := rfl
@[simp] theorem setReg_groom (s : State) (k : Nat) (v : Word) : (s.setReg k v).groom = s.groom := rfl

/-! `setFld` changes `regs` and nothing else. -/
@[simp] theorem setFld_pending (s : State) (f : Fld) (v : Nat) : (s.setFld f v).pending = s.pending := rfl
@[simp] theorem setFld_out (s : State) (f : Fld) (v : Nat) : (s.setFld f v).out = s.out := rfl
@[simp] theorem setFld_free (s : State) (f : Fld) (v : Nat) : (s.setFld f v).free = s.free := rfl
@[simp] theorem setFld_regs (s : State) (f : Fld) (v : Nat) : (s.setFld f v).regs = mapSet regReset s.regs f.key (BitVec.ofNat 32 (natSetBits (s.reg f.key).toNat f.lo f.w v)) := rfl
@[simp] theorem setFld_inForce (s : State) (f : Fld) (v : Nat) : (s.setFld f v).inForce = s.inForce := rfl
@[simp] theorem setFld_snaps (s : State) (f : Fld) (v : Nat) : (s.setFld f v).snaps = s.snaps := rfl
@[simp] theorem setFld_heldLo (s : State) (f : Fld) (v : Nat) : (s.setFld f v).heldLo = s.heldLo := rfl
@[simp] theorem setFld_commits (s : State) (f : Fld) (v : Nat) : (s.setFld f v).commits = s.commits := rfl
@[simp] theorem setFld_recQ (s : State) (f : Fld) (v : Nat) : (s.setFld f v).recQ = s.recQ := rfl
@[simp] theorem setFld_host (s : State) (f : Fld) (v : Nat) : (s.setFld f v).host = s.host := rfl
@[simp] theorem setFld_time (s : State) (f : Fld) (v : Nat) : (s.setFld f v).time = s.time := rfl
@[simp] theorem setFld_trig (s : State) (f : Fld) (v : Nat) : (s.setFld f v).trig = s.trig := rfl
@[simp] theorem setFld_engs (s : State) (f : Fld) (v : Nat) : (s.setFld f v).engs = s.engs := rfl
@[simp] theorem setFld_plan (s : State) (f : Fld) (v : Nat) : (s.setFld f v).plan = s.plan := rfl
@[simp] theorem setFld_banks (s : State) (f : Fld) (v : Nat) : (s.setFld f v).banks = s.banks := rfl
@[simp] theorem setFld_bankMem (s : State) (f : Fld) (v : Nat) : (s.setFld f v).bankMem = s.bankMem := rfl
@[simp] theorem setFld_bankErr (s : State) (f : Fld) (v : Nat) : (s.setFld f v).bankErr = s.bankErr := rfl
@[simp] theorem setFld_bankBusy (s : State) (f : Fld) (v : Nat) : (s.setFld f v).bankBusy = s.bankBusy := rfl
@[simp] theorem setFld_dram (s : State) (f : Fld) (v : Nat) : (s.setFld f v).dram = s.dram := rfl
@[simp] theorem setFld_dramErr (s : State) (f : Fld) (v : Nat) : (s.setFld f v).dramErr = s.dramErr := rfl
@[simp] theorem setFld_marks (s : State) (f : Fld) (v : Nat) : (s.setFld f v).marks = s.marks := rfl
@[simp] theorem setFld_snsHeld (s : State) (f : Fld) (v : Nat) : (s.setFld f v).snsHeld = s.snsHeld := rfl
@[simp] theorem setFld_sched (s : State) (f : Fld) (v : Nat) : (s.setFld f v).sched = s.sched := rfl
@[simp] theorem setFld_fifos (s : State) (f : Fld) (v : Nat) : (s.setFld f v).fifos = s.fifos := rfl
@[simp] theorem setFld_evtBuf (s : State) (f : Fld) (v : Nat) : (s.setFld f v).evtBuf = s.evtBuf := rfl
@[simp] theorem setFld_evtDrop (s : State) (f : Fld) (v : Nat) : (s.setFld f v).evtDrop = s.evtDrop := rfl
@[simp] theorem setFld_cmds (s : State) (f : Fld) (v : Nat) : (s.setFld f v).cmds = s.cmds := rfl
@[simp] theorem setFld_hdmaDone (s : State) (f : Fld) (v : Nat) : (s.setFld f v).hdmaDone = s.hdmaDone := rfl
@[simp] theorem setFld_nets (s : State) (f : Fld) (v : Nat) : (s.setFld f v).nets = s.nets := rfl
@[simp] theorem setFld_wheel (s : State) (f : Fld) (v : Nat) : (s.setFld f v).wheel = s.wheel := rfl
@[simp] theorem setFld_ingests (s : State) (f : Fld) (v : Nat) : (s.setFld f v).ingests = s.ingests := rfl
@[simp] theorem setFld_egresses (s : State) (f : Fld) (v : Nat) : (s.setFld f v).egresses = s.egresses := rfl
@[simp] theorem setFld_sacn (s : State) (f : Fld) (v : Nat) : (s.setFld f v).sacn = s.sacn := rfl
@[simp] theorem setFld_dmxs (s : State) (f : Fld) (v : Nat) : (s.setFld f v).dmxs = s.dmxs := rfl
@[simp] theorem setFld_scans (s : State) (f : Fld) (v : Nat) : (s.setFld f v).scans = s.scans := rfl
@[simp] theorem setFld_leds (s : State) (f : Fld) (v : Nat) : (s.setFld f v).leds = s.leds := rfl
@[simp] theorem setFld_sense (s : State) (f : Fld) (v : Nat) : (s.setFld f v).sense = s.sense := rfl
@[simp] theorem setFld_cal (s : State) (f : Fld) (v : Nat) : (s.setFld f v).cal = s.cal := rfl
@[simp] theorem setFld_cls (s : State) (f : Fld) (v : Nat) : (s.setFld f v).cls = s.cls := rfl
@[simp] theorem setFld_group (s : State) (f : Fld) (v : Nat) : (s.setFld f v).group = s.group := rfl
@[simp] theorem setFld_rxFrames (s : State) (f : Fld) (v : Nat) : (s.setFld f v).rxFrames = s.rxFrames := rfl
@[simp] theorem setFld_key (s : State) (f : Fld) (v : Nat) : (s.setFld f v).key = s.key := rfl
@[simp] theorem setFld_nvm (s : State) (f : Fld) (v : Nat) : (s.setFld f v).nvm = s.nvm := rfl
@[simp] theorem setFld_nvmPend (s : State) (f : Fld) (v : Nat) : (s.setFld f v).nvmPend = s.nvmPend := rfl
@[simp] theorem setFld_nvmMap (s : State) (f : Fld) (v : Nat) : (s.setFld f v).nvmMap = s.nvmMap := rfl
@[simp] theorem setFld_mainPower (s : State) (f : Fld) (v : Nat) : (s.setFld f v).mainPower = s.mainPower := rfl
@[simp] theorem setFld_avs (s : State) (f : Fld) (v : Nat) : (s.setFld f v).avs = s.avs := rfl
@[simp] theorem setFld_dtsOff (s : State) (f : Fld) (v : Nat) : (s.setFld f v).dtsOff = s.dtsOff := rfl
@[simp] theorem setFld_engTest (s : State) (f : Fld) (v : Nat) : (s.setFld f v).engTest = s.engTest := rfl
@[simp] theorem setFld_groom (s : State) (f : Fld) (v : Nat) : (s.setFld f v).groom = s.groom := rfl

/-! `setAct` changes `inForce` and nothing else. -/
@[simp] theorem setAct_pending (s : State) (f : Fld) (v : Nat) : (s.setAct f v).pending = s.pending := rfl
@[simp] theorem setAct_out (s : State) (f : Fld) (v : Nat) : (s.setAct f v).out = s.out := rfl
@[simp] theorem setAct_free (s : State) (f : Fld) (v : Nat) : (s.setAct f v).free = s.free := rfl
@[simp] theorem setAct_regs (s : State) (f : Fld) (v : Nat) : (s.setAct f v).regs = s.regs := rfl
@[simp] theorem setAct_inForce (s : State) (f : Fld) (v : Nat) : (s.setAct f v).inForce = mapSet regReset s.inForce f.key (BitVec.ofNat 32 (natSetBits (mapGet regReset s.inForce f.key).toNat f.lo f.w v)) := rfl
@[simp] theorem setAct_snaps (s : State) (f : Fld) (v : Nat) : (s.setAct f v).snaps = s.snaps := rfl
@[simp] theorem setAct_heldLo (s : State) (f : Fld) (v : Nat) : (s.setAct f v).heldLo = s.heldLo := rfl
@[simp] theorem setAct_commits (s : State) (f : Fld) (v : Nat) : (s.setAct f v).commits = s.commits := rfl
@[simp] theorem setAct_recQ (s : State) (f : Fld) (v : Nat) : (s.setAct f v).recQ = s.recQ := rfl
@[simp] theorem setAct_host (s : State) (f : Fld) (v : Nat) : (s.setAct f v).host = s.host := rfl
@[simp] theorem setAct_time (s : State) (f : Fld) (v : Nat) : (s.setAct f v).time = s.time := rfl
@[simp] theorem setAct_trig (s : State) (f : Fld) (v : Nat) : (s.setAct f v).trig = s.trig := rfl
@[simp] theorem setAct_engs (s : State) (f : Fld) (v : Nat) : (s.setAct f v).engs = s.engs := rfl
@[simp] theorem setAct_plan (s : State) (f : Fld) (v : Nat) : (s.setAct f v).plan = s.plan := rfl
@[simp] theorem setAct_banks (s : State) (f : Fld) (v : Nat) : (s.setAct f v).banks = s.banks := rfl
@[simp] theorem setAct_bankMem (s : State) (f : Fld) (v : Nat) : (s.setAct f v).bankMem = s.bankMem := rfl
@[simp] theorem setAct_bankErr (s : State) (f : Fld) (v : Nat) : (s.setAct f v).bankErr = s.bankErr := rfl
@[simp] theorem setAct_bankBusy (s : State) (f : Fld) (v : Nat) : (s.setAct f v).bankBusy = s.bankBusy := rfl
@[simp] theorem setAct_dram (s : State) (f : Fld) (v : Nat) : (s.setAct f v).dram = s.dram := rfl
@[simp] theorem setAct_dramErr (s : State) (f : Fld) (v : Nat) : (s.setAct f v).dramErr = s.dramErr := rfl
@[simp] theorem setAct_marks (s : State) (f : Fld) (v : Nat) : (s.setAct f v).marks = s.marks := rfl
@[simp] theorem setAct_snsHeld (s : State) (f : Fld) (v : Nat) : (s.setAct f v).snsHeld = s.snsHeld := rfl
@[simp] theorem setAct_sched (s : State) (f : Fld) (v : Nat) : (s.setAct f v).sched = s.sched := rfl
@[simp] theorem setAct_fifos (s : State) (f : Fld) (v : Nat) : (s.setAct f v).fifos = s.fifos := rfl
@[simp] theorem setAct_evtBuf (s : State) (f : Fld) (v : Nat) : (s.setAct f v).evtBuf = s.evtBuf := rfl
@[simp] theorem setAct_evtDrop (s : State) (f : Fld) (v : Nat) : (s.setAct f v).evtDrop = s.evtDrop := rfl
@[simp] theorem setAct_cmds (s : State) (f : Fld) (v : Nat) : (s.setAct f v).cmds = s.cmds := rfl
@[simp] theorem setAct_hdmaDone (s : State) (f : Fld) (v : Nat) : (s.setAct f v).hdmaDone = s.hdmaDone := rfl
@[simp] theorem setAct_nets (s : State) (f : Fld) (v : Nat) : (s.setAct f v).nets = s.nets := rfl
@[simp] theorem setAct_wheel (s : State) (f : Fld) (v : Nat) : (s.setAct f v).wheel = s.wheel := rfl
@[simp] theorem setAct_ingests (s : State) (f : Fld) (v : Nat) : (s.setAct f v).ingests = s.ingests := rfl
@[simp] theorem setAct_egresses (s : State) (f : Fld) (v : Nat) : (s.setAct f v).egresses = s.egresses := rfl
@[simp] theorem setAct_sacn (s : State) (f : Fld) (v : Nat) : (s.setAct f v).sacn = s.sacn := rfl
@[simp] theorem setAct_dmxs (s : State) (f : Fld) (v : Nat) : (s.setAct f v).dmxs = s.dmxs := rfl
@[simp] theorem setAct_scans (s : State) (f : Fld) (v : Nat) : (s.setAct f v).scans = s.scans := rfl
@[simp] theorem setAct_leds (s : State) (f : Fld) (v : Nat) : (s.setAct f v).leds = s.leds := rfl
@[simp] theorem setAct_sense (s : State) (f : Fld) (v : Nat) : (s.setAct f v).sense = s.sense := rfl
@[simp] theorem setAct_cal (s : State) (f : Fld) (v : Nat) : (s.setAct f v).cal = s.cal := rfl
@[simp] theorem setAct_cls (s : State) (f : Fld) (v : Nat) : (s.setAct f v).cls = s.cls := rfl
@[simp] theorem setAct_group (s : State) (f : Fld) (v : Nat) : (s.setAct f v).group = s.group := rfl
@[simp] theorem setAct_rxFrames (s : State) (f : Fld) (v : Nat) : (s.setAct f v).rxFrames = s.rxFrames := rfl
@[simp] theorem setAct_key (s : State) (f : Fld) (v : Nat) : (s.setAct f v).key = s.key := rfl
@[simp] theorem setAct_nvm (s : State) (f : Fld) (v : Nat) : (s.setAct f v).nvm = s.nvm := rfl
@[simp] theorem setAct_nvmPend (s : State) (f : Fld) (v : Nat) : (s.setAct f v).nvmPend = s.nvmPend := rfl
@[simp] theorem setAct_nvmMap (s : State) (f : Fld) (v : Nat) : (s.setAct f v).nvmMap = s.nvmMap := rfl
@[simp] theorem setAct_mainPower (s : State) (f : Fld) (v : Nat) : (s.setAct f v).mainPower = s.mainPower := rfl
@[simp] theorem setAct_avs (s : State) (f : Fld) (v : Nat) : (s.setAct f v).avs = s.avs := rfl
@[simp] theorem setAct_dtsOff (s : State) (f : Fld) (v : Nat) : (s.setAct f v).dtsOff = s.dtsOff := rfl
@[simp] theorem setAct_engTest (s : State) (f : Fld) (v : Nat) : (s.setAct f v).engTest = s.engTest := rfl
@[simp] theorem setAct_groom (s : State) (f : Fld) (v : Nat) : (s.setAct f v).groom = s.groom := rfl

/-! `emit` changes `out` and nothing else. -/
@[simp] theorem emit_pending (s : State) (o : Out) : (s.emit o).pending = s.pending := rfl
@[simp] theorem emit_out (s : State) (o : Out) : (s.emit o).out = s.out ++ [o] := rfl
@[simp] theorem emit_free (s : State) (o : Out) : (s.emit o).free = s.free := rfl
@[simp] theorem emit_regs (s : State) (o : Out) : (s.emit o).regs = s.regs := rfl
@[simp] theorem emit_inForce (s : State) (o : Out) : (s.emit o).inForce = s.inForce := rfl
@[simp] theorem emit_snaps (s : State) (o : Out) : (s.emit o).snaps = s.snaps := rfl
@[simp] theorem emit_heldLo (s : State) (o : Out) : (s.emit o).heldLo = s.heldLo := rfl
@[simp] theorem emit_commits (s : State) (o : Out) : (s.emit o).commits = s.commits := rfl
@[simp] theorem emit_recQ (s : State) (o : Out) : (s.emit o).recQ = s.recQ := rfl
@[simp] theorem emit_host (s : State) (o : Out) : (s.emit o).host = s.host := rfl
@[simp] theorem emit_time (s : State) (o : Out) : (s.emit o).time = s.time := rfl
@[simp] theorem emit_trig (s : State) (o : Out) : (s.emit o).trig = s.trig := rfl
@[simp] theorem emit_engs (s : State) (o : Out) : (s.emit o).engs = s.engs := rfl
@[simp] theorem emit_plan (s : State) (o : Out) : (s.emit o).plan = s.plan := rfl
@[simp] theorem emit_banks (s : State) (o : Out) : (s.emit o).banks = s.banks := rfl
@[simp] theorem emit_bankMem (s : State) (o : Out) : (s.emit o).bankMem = s.bankMem := rfl
@[simp] theorem emit_bankErr (s : State) (o : Out) : (s.emit o).bankErr = s.bankErr := rfl
@[simp] theorem emit_bankBusy (s : State) (o : Out) : (s.emit o).bankBusy = s.bankBusy := rfl
@[simp] theorem emit_dram (s : State) (o : Out) : (s.emit o).dram = s.dram := rfl
@[simp] theorem emit_dramErr (s : State) (o : Out) : (s.emit o).dramErr = s.dramErr := rfl
@[simp] theorem emit_marks (s : State) (o : Out) : (s.emit o).marks = s.marks := rfl
@[simp] theorem emit_snsHeld (s : State) (o : Out) : (s.emit o).snsHeld = s.snsHeld := rfl
@[simp] theorem emit_sched (s : State) (o : Out) : (s.emit o).sched = s.sched := rfl
@[simp] theorem emit_fifos (s : State) (o : Out) : (s.emit o).fifos = s.fifos := rfl
@[simp] theorem emit_evtBuf (s : State) (o : Out) : (s.emit o).evtBuf = s.evtBuf := rfl
@[simp] theorem emit_evtDrop (s : State) (o : Out) : (s.emit o).evtDrop = s.evtDrop := rfl
@[simp] theorem emit_cmds (s : State) (o : Out) : (s.emit o).cmds = s.cmds := rfl
@[simp] theorem emit_hdmaDone (s : State) (o : Out) : (s.emit o).hdmaDone = s.hdmaDone := rfl
@[simp] theorem emit_nets (s : State) (o : Out) : (s.emit o).nets = s.nets := rfl
@[simp] theorem emit_wheel (s : State) (o : Out) : (s.emit o).wheel = s.wheel := rfl
@[simp] theorem emit_ingests (s : State) (o : Out) : (s.emit o).ingests = s.ingests := rfl
@[simp] theorem emit_egresses (s : State) (o : Out) : (s.emit o).egresses = s.egresses := rfl
@[simp] theorem emit_sacn (s : State) (o : Out) : (s.emit o).sacn = s.sacn := rfl
@[simp] theorem emit_dmxs (s : State) (o : Out) : (s.emit o).dmxs = s.dmxs := rfl
@[simp] theorem emit_scans (s : State) (o : Out) : (s.emit o).scans = s.scans := rfl
@[simp] theorem emit_leds (s : State) (o : Out) : (s.emit o).leds = s.leds := rfl
@[simp] theorem emit_sense (s : State) (o : Out) : (s.emit o).sense = s.sense := rfl
@[simp] theorem emit_cal (s : State) (o : Out) : (s.emit o).cal = s.cal := rfl
@[simp] theorem emit_cls (s : State) (o : Out) : (s.emit o).cls = s.cls := rfl
@[simp] theorem emit_group (s : State) (o : Out) : (s.emit o).group = s.group := rfl
@[simp] theorem emit_rxFrames (s : State) (o : Out) : (s.emit o).rxFrames = s.rxFrames := rfl
@[simp] theorem emit_key (s : State) (o : Out) : (s.emit o).key = s.key := rfl
@[simp] theorem emit_nvm (s : State) (o : Out) : (s.emit o).nvm = s.nvm := rfl
@[simp] theorem emit_nvmPend (s : State) (o : Out) : (s.emit o).nvmPend = s.nvmPend := rfl
@[simp] theorem emit_nvmMap (s : State) (o : Out) : (s.emit o).nvmMap = s.nvmMap := rfl
@[simp] theorem emit_mainPower (s : State) (o : Out) : (s.emit o).mainPower = s.mainPower := rfl
@[simp] theorem emit_avs (s : State) (o : Out) : (s.emit o).avs = s.avs := rfl
@[simp] theorem emit_dtsOff (s : State) (o : Out) : (s.emit o).dtsOff = s.dtsOff := rfl
@[simp] theorem emit_engTest (s : State) (o : Out) : (s.emit o).engTest = s.engTest := rfl
@[simp] theorem emit_groom (s : State) (o : Out) : (s.emit o).groom = s.groom := rfl

/-! `takeFree` changes `free` and nothing else. -/
@[simp] theorem takeFree_pending (s : State) : (s.takeFree).pending = s.pending := rfl
@[simp] theorem takeFree_out (s : State) : (s.takeFree).out = s.out := rfl
@[simp] theorem takeFree_free (s : State) : (s.takeFree).free = s.free + 1 := rfl
@[simp] theorem takeFree_regs (s : State) : (s.takeFree).regs = s.regs := rfl
@[simp] theorem takeFree_inForce (s : State) : (s.takeFree).inForce = s.inForce := rfl
@[simp] theorem takeFree_snaps (s : State) : (s.takeFree).snaps = s.snaps := rfl
@[simp] theorem takeFree_heldLo (s : State) : (s.takeFree).heldLo = s.heldLo := rfl
@[simp] theorem takeFree_commits (s : State) : (s.takeFree).commits = s.commits := rfl
@[simp] theorem takeFree_recQ (s : State) : (s.takeFree).recQ = s.recQ := rfl
@[simp] theorem takeFree_host (s : State) : (s.takeFree).host = s.host := rfl
@[simp] theorem takeFree_time (s : State) : (s.takeFree).time = s.time := rfl
@[simp] theorem takeFree_trig (s : State) : (s.takeFree).trig = s.trig := rfl
@[simp] theorem takeFree_engs (s : State) : (s.takeFree).engs = s.engs := rfl
@[simp] theorem takeFree_plan (s : State) : (s.takeFree).plan = s.plan := rfl
@[simp] theorem takeFree_banks (s : State) : (s.takeFree).banks = s.banks := rfl
@[simp] theorem takeFree_bankMem (s : State) : (s.takeFree).bankMem = s.bankMem := rfl
@[simp] theorem takeFree_bankErr (s : State) : (s.takeFree).bankErr = s.bankErr := rfl
@[simp] theorem takeFree_bankBusy (s : State) : (s.takeFree).bankBusy = s.bankBusy := rfl
@[simp] theorem takeFree_dram (s : State) : (s.takeFree).dram = s.dram := rfl
@[simp] theorem takeFree_dramErr (s : State) : (s.takeFree).dramErr = s.dramErr := rfl
@[simp] theorem takeFree_marks (s : State) : (s.takeFree).marks = s.marks := rfl
@[simp] theorem takeFree_snsHeld (s : State) : (s.takeFree).snsHeld = s.snsHeld := rfl
@[simp] theorem takeFree_sched (s : State) : (s.takeFree).sched = s.sched := rfl
@[simp] theorem takeFree_fifos (s : State) : (s.takeFree).fifos = s.fifos := rfl
@[simp] theorem takeFree_evtBuf (s : State) : (s.takeFree).evtBuf = s.evtBuf := rfl
@[simp] theorem takeFree_evtDrop (s : State) : (s.takeFree).evtDrop = s.evtDrop := rfl
@[simp] theorem takeFree_cmds (s : State) : (s.takeFree).cmds = s.cmds := rfl
@[simp] theorem takeFree_hdmaDone (s : State) : (s.takeFree).hdmaDone = s.hdmaDone := rfl
@[simp] theorem takeFree_nets (s : State) : (s.takeFree).nets = s.nets := rfl
@[simp] theorem takeFree_wheel (s : State) : (s.takeFree).wheel = s.wheel := rfl
@[simp] theorem takeFree_ingests (s : State) : (s.takeFree).ingests = s.ingests := rfl
@[simp] theorem takeFree_egresses (s : State) : (s.takeFree).egresses = s.egresses := rfl
@[simp] theorem takeFree_sacn (s : State) : (s.takeFree).sacn = s.sacn := rfl
@[simp] theorem takeFree_dmxs (s : State) : (s.takeFree).dmxs = s.dmxs := rfl
@[simp] theorem takeFree_scans (s : State) : (s.takeFree).scans = s.scans := rfl
@[simp] theorem takeFree_leds (s : State) : (s.takeFree).leds = s.leds := rfl
@[simp] theorem takeFree_sense (s : State) : (s.takeFree).sense = s.sense := rfl
@[simp] theorem takeFree_cal (s : State) : (s.takeFree).cal = s.cal := rfl
@[simp] theorem takeFree_cls (s : State) : (s.takeFree).cls = s.cls := rfl
@[simp] theorem takeFree_group (s : State) : (s.takeFree).group = s.group := rfl
@[simp] theorem takeFree_rxFrames (s : State) : (s.takeFree).rxFrames = s.rxFrames := rfl
@[simp] theorem takeFree_key (s : State) : (s.takeFree).key = s.key := rfl
@[simp] theorem takeFree_nvm (s : State) : (s.takeFree).nvm = s.nvm := rfl
@[simp] theorem takeFree_nvmPend (s : State) : (s.takeFree).nvmPend = s.nvmPend := rfl
@[simp] theorem takeFree_nvmMap (s : State) : (s.takeFree).nvmMap = s.nvmMap := rfl
@[simp] theorem takeFree_mainPower (s : State) : (s.takeFree).mainPower = s.mainPower := rfl
@[simp] theorem takeFree_avs (s : State) : (s.takeFree).avs = s.avs := rfl
@[simp] theorem takeFree_dtsOff (s : State) : (s.takeFree).dtsOff = s.dtsOff := rfl
@[simp] theorem takeFree_engTest (s : State) : (s.takeFree).engTest = s.engTest := rfl
@[simp] theorem takeFree_groom (s : State) : (s.takeFree).groom = s.groom := rfl

/-! `setSnap` changes `snaps` and nothing else. -/
@[simp] theorem setSnap_pending (s : State) (q : Req) (k : Nat) (v : Word) : (s.setSnap q k v).pending = s.pending := rfl
@[simp] theorem setSnap_out (s : State) (q : Req) (k : Nat) (v : Word) : (s.setSnap q k v).out = s.out := rfl
@[simp] theorem setSnap_free (s : State) (q : Req) (k : Nat) (v : Word) : (s.setSnap q k v).free = s.free := rfl
@[simp] theorem setSnap_regs (s : State) (q : Req) (k : Nat) (v : Word) : (s.setSnap q k v).regs = s.regs := rfl
@[simp] theorem setSnap_inForce (s : State) (q : Req) (k : Nat) (v : Word) : (s.setSnap q k v).inForce = s.inForce := rfl
@[simp] theorem setSnap_snaps (s : State) (q : Req) (k : Nat) (v : Word) : (s.setSnap q k v).snaps = mapSet (fun _ => 0) s.snaps (reqKey q k) v := rfl
@[simp] theorem setSnap_heldLo (s : State) (q : Req) (k : Nat) (v : Word) : (s.setSnap q k v).heldLo = s.heldLo := rfl
@[simp] theorem setSnap_commits (s : State) (q : Req) (k : Nat) (v : Word) : (s.setSnap q k v).commits = s.commits := rfl
@[simp] theorem setSnap_recQ (s : State) (q : Req) (k : Nat) (v : Word) : (s.setSnap q k v).recQ = s.recQ := rfl
@[simp] theorem setSnap_host (s : State) (q : Req) (k : Nat) (v : Word) : (s.setSnap q k v).host = s.host := rfl
@[simp] theorem setSnap_time (s : State) (q : Req) (k : Nat) (v : Word) : (s.setSnap q k v).time = s.time := rfl
@[simp] theorem setSnap_trig (s : State) (q : Req) (k : Nat) (v : Word) : (s.setSnap q k v).trig = s.trig := rfl
@[simp] theorem setSnap_engs (s : State) (q : Req) (k : Nat) (v : Word) : (s.setSnap q k v).engs = s.engs := rfl
@[simp] theorem setSnap_plan (s : State) (q : Req) (k : Nat) (v : Word) : (s.setSnap q k v).plan = s.plan := rfl
@[simp] theorem setSnap_banks (s : State) (q : Req) (k : Nat) (v : Word) : (s.setSnap q k v).banks = s.banks := rfl
@[simp] theorem setSnap_bankMem (s : State) (q : Req) (k : Nat) (v : Word) : (s.setSnap q k v).bankMem = s.bankMem := rfl
@[simp] theorem setSnap_bankErr (s : State) (q : Req) (k : Nat) (v : Word) : (s.setSnap q k v).bankErr = s.bankErr := rfl
@[simp] theorem setSnap_bankBusy (s : State) (q : Req) (k : Nat) (v : Word) : (s.setSnap q k v).bankBusy = s.bankBusy := rfl
@[simp] theorem setSnap_dram (s : State) (q : Req) (k : Nat) (v : Word) : (s.setSnap q k v).dram = s.dram := rfl
@[simp] theorem setSnap_dramErr (s : State) (q : Req) (k : Nat) (v : Word) : (s.setSnap q k v).dramErr = s.dramErr := rfl
@[simp] theorem setSnap_marks (s : State) (q : Req) (k : Nat) (v : Word) : (s.setSnap q k v).marks = s.marks := rfl
@[simp] theorem setSnap_snsHeld (s : State) (q : Req) (k : Nat) (v : Word) : (s.setSnap q k v).snsHeld = s.snsHeld := rfl
@[simp] theorem setSnap_sched (s : State) (q : Req) (k : Nat) (v : Word) : (s.setSnap q k v).sched = s.sched := rfl
@[simp] theorem setSnap_fifos (s : State) (q : Req) (k : Nat) (v : Word) : (s.setSnap q k v).fifos = s.fifos := rfl
@[simp] theorem setSnap_evtBuf (s : State) (q : Req) (k : Nat) (v : Word) : (s.setSnap q k v).evtBuf = s.evtBuf := rfl
@[simp] theorem setSnap_evtDrop (s : State) (q : Req) (k : Nat) (v : Word) : (s.setSnap q k v).evtDrop = s.evtDrop := rfl
@[simp] theorem setSnap_cmds (s : State) (q : Req) (k : Nat) (v : Word) : (s.setSnap q k v).cmds = s.cmds := rfl
@[simp] theorem setSnap_hdmaDone (s : State) (q : Req) (k : Nat) (v : Word) : (s.setSnap q k v).hdmaDone = s.hdmaDone := rfl
@[simp] theorem setSnap_nets (s : State) (q : Req) (k : Nat) (v : Word) : (s.setSnap q k v).nets = s.nets := rfl
@[simp] theorem setSnap_wheel (s : State) (q : Req) (k : Nat) (v : Word) : (s.setSnap q k v).wheel = s.wheel := rfl
@[simp] theorem setSnap_ingests (s : State) (q : Req) (k : Nat) (v : Word) : (s.setSnap q k v).ingests = s.ingests := rfl
@[simp] theorem setSnap_egresses (s : State) (q : Req) (k : Nat) (v : Word) : (s.setSnap q k v).egresses = s.egresses := rfl
@[simp] theorem setSnap_sacn (s : State) (q : Req) (k : Nat) (v : Word) : (s.setSnap q k v).sacn = s.sacn := rfl
@[simp] theorem setSnap_dmxs (s : State) (q : Req) (k : Nat) (v : Word) : (s.setSnap q k v).dmxs = s.dmxs := rfl
@[simp] theorem setSnap_scans (s : State) (q : Req) (k : Nat) (v : Word) : (s.setSnap q k v).scans = s.scans := rfl
@[simp] theorem setSnap_leds (s : State) (q : Req) (k : Nat) (v : Word) : (s.setSnap q k v).leds = s.leds := rfl
@[simp] theorem setSnap_sense (s : State) (q : Req) (k : Nat) (v : Word) : (s.setSnap q k v).sense = s.sense := rfl
@[simp] theorem setSnap_cal (s : State) (q : Req) (k : Nat) (v : Word) : (s.setSnap q k v).cal = s.cal := rfl
@[simp] theorem setSnap_cls (s : State) (q : Req) (k : Nat) (v : Word) : (s.setSnap q k v).cls = s.cls := rfl
@[simp] theorem setSnap_group (s : State) (q : Req) (k : Nat) (v : Word) : (s.setSnap q k v).group = s.group := rfl
@[simp] theorem setSnap_rxFrames (s : State) (q : Req) (k : Nat) (v : Word) : (s.setSnap q k v).rxFrames = s.rxFrames := rfl
@[simp] theorem setSnap_key (s : State) (q : Req) (k : Nat) (v : Word) : (s.setSnap q k v).key = s.key := rfl
@[simp] theorem setSnap_nvm (s : State) (q : Req) (k : Nat) (v : Word) : (s.setSnap q k v).nvm = s.nvm := rfl
@[simp] theorem setSnap_nvmPend (s : State) (q : Req) (k : Nat) (v : Word) : (s.setSnap q k v).nvmPend = s.nvmPend := rfl
@[simp] theorem setSnap_nvmMap (s : State) (q : Req) (k : Nat) (v : Word) : (s.setSnap q k v).nvmMap = s.nvmMap := rfl
@[simp] theorem setSnap_mainPower (s : State) (q : Req) (k : Nat) (v : Word) : (s.setSnap q k v).mainPower = s.mainPower := rfl
@[simp] theorem setSnap_avs (s : State) (q : Req) (k : Nat) (v : Word) : (s.setSnap q k v).avs = s.avs := rfl
@[simp] theorem setSnap_dtsOff (s : State) (q : Req) (k : Nat) (v : Word) : (s.setSnap q k v).dtsOff = s.dtsOff := rfl
@[simp] theorem setSnap_engTest (s : State) (q : Req) (k : Nat) (v : Word) : (s.setSnap q k v).engTest = s.engTest := rfl
@[simp] theorem setSnap_groom (s : State) (q : Req) (k : Nat) (v : Word) : (s.setSnap q k v).groom = s.groom := rfl

/-! `setHeld` changes `heldLo` and nothing else. -/
@[simp] theorem setHeld_pending (s : State) (q : Req) (k : Nat) (v : Option Word) : (s.setHeld q k v).pending = s.pending := rfl
@[simp] theorem setHeld_out (s : State) (q : Req) (k : Nat) (v : Option Word) : (s.setHeld q k v).out = s.out := rfl
@[simp] theorem setHeld_free (s : State) (q : Req) (k : Nat) (v : Option Word) : (s.setHeld q k v).free = s.free := rfl
@[simp] theorem setHeld_regs (s : State) (q : Req) (k : Nat) (v : Option Word) : (s.setHeld q k v).regs = s.regs := rfl
@[simp] theorem setHeld_inForce (s : State) (q : Req) (k : Nat) (v : Option Word) : (s.setHeld q k v).inForce = s.inForce := rfl
@[simp] theorem setHeld_snaps (s : State) (q : Req) (k : Nat) (v : Option Word) : (s.setHeld q k v).snaps = s.snaps := rfl
@[simp] theorem setHeld_heldLo (s : State) (q : Req) (k : Nat) (v : Option Word) : (s.setHeld q k v).heldLo = mapSet (fun _ => none) s.heldLo (reqKey q k) v := rfl
@[simp] theorem setHeld_commits (s : State) (q : Req) (k : Nat) (v : Option Word) : (s.setHeld q k v).commits = s.commits := rfl
@[simp] theorem setHeld_recQ (s : State) (q : Req) (k : Nat) (v : Option Word) : (s.setHeld q k v).recQ = s.recQ := rfl
@[simp] theorem setHeld_host (s : State) (q : Req) (k : Nat) (v : Option Word) : (s.setHeld q k v).host = s.host := rfl
@[simp] theorem setHeld_time (s : State) (q : Req) (k : Nat) (v : Option Word) : (s.setHeld q k v).time = s.time := rfl
@[simp] theorem setHeld_trig (s : State) (q : Req) (k : Nat) (v : Option Word) : (s.setHeld q k v).trig = s.trig := rfl
@[simp] theorem setHeld_engs (s : State) (q : Req) (k : Nat) (v : Option Word) : (s.setHeld q k v).engs = s.engs := rfl
@[simp] theorem setHeld_plan (s : State) (q : Req) (k : Nat) (v : Option Word) : (s.setHeld q k v).plan = s.plan := rfl
@[simp] theorem setHeld_banks (s : State) (q : Req) (k : Nat) (v : Option Word) : (s.setHeld q k v).banks = s.banks := rfl
@[simp] theorem setHeld_bankMem (s : State) (q : Req) (k : Nat) (v : Option Word) : (s.setHeld q k v).bankMem = s.bankMem := rfl
@[simp] theorem setHeld_bankErr (s : State) (q : Req) (k : Nat) (v : Option Word) : (s.setHeld q k v).bankErr = s.bankErr := rfl
@[simp] theorem setHeld_bankBusy (s : State) (q : Req) (k : Nat) (v : Option Word) : (s.setHeld q k v).bankBusy = s.bankBusy := rfl
@[simp] theorem setHeld_dram (s : State) (q : Req) (k : Nat) (v : Option Word) : (s.setHeld q k v).dram = s.dram := rfl
@[simp] theorem setHeld_dramErr (s : State) (q : Req) (k : Nat) (v : Option Word) : (s.setHeld q k v).dramErr = s.dramErr := rfl
@[simp] theorem setHeld_marks (s : State) (q : Req) (k : Nat) (v : Option Word) : (s.setHeld q k v).marks = s.marks := rfl
@[simp] theorem setHeld_snsHeld (s : State) (q : Req) (k : Nat) (v : Option Word) : (s.setHeld q k v).snsHeld = s.snsHeld := rfl
@[simp] theorem setHeld_sched (s : State) (q : Req) (k : Nat) (v : Option Word) : (s.setHeld q k v).sched = s.sched := rfl
@[simp] theorem setHeld_fifos (s : State) (q : Req) (k : Nat) (v : Option Word) : (s.setHeld q k v).fifos = s.fifos := rfl
@[simp] theorem setHeld_evtBuf (s : State) (q : Req) (k : Nat) (v : Option Word) : (s.setHeld q k v).evtBuf = s.evtBuf := rfl
@[simp] theorem setHeld_evtDrop (s : State) (q : Req) (k : Nat) (v : Option Word) : (s.setHeld q k v).evtDrop = s.evtDrop := rfl
@[simp] theorem setHeld_cmds (s : State) (q : Req) (k : Nat) (v : Option Word) : (s.setHeld q k v).cmds = s.cmds := rfl
@[simp] theorem setHeld_hdmaDone (s : State) (q : Req) (k : Nat) (v : Option Word) : (s.setHeld q k v).hdmaDone = s.hdmaDone := rfl
@[simp] theorem setHeld_nets (s : State) (q : Req) (k : Nat) (v : Option Word) : (s.setHeld q k v).nets = s.nets := rfl
@[simp] theorem setHeld_wheel (s : State) (q : Req) (k : Nat) (v : Option Word) : (s.setHeld q k v).wheel = s.wheel := rfl
@[simp] theorem setHeld_ingests (s : State) (q : Req) (k : Nat) (v : Option Word) : (s.setHeld q k v).ingests = s.ingests := rfl
@[simp] theorem setHeld_egresses (s : State) (q : Req) (k : Nat) (v : Option Word) : (s.setHeld q k v).egresses = s.egresses := rfl
@[simp] theorem setHeld_sacn (s : State) (q : Req) (k : Nat) (v : Option Word) : (s.setHeld q k v).sacn = s.sacn := rfl
@[simp] theorem setHeld_dmxs (s : State) (q : Req) (k : Nat) (v : Option Word) : (s.setHeld q k v).dmxs = s.dmxs := rfl
@[simp] theorem setHeld_scans (s : State) (q : Req) (k : Nat) (v : Option Word) : (s.setHeld q k v).scans = s.scans := rfl
@[simp] theorem setHeld_leds (s : State) (q : Req) (k : Nat) (v : Option Word) : (s.setHeld q k v).leds = s.leds := rfl
@[simp] theorem setHeld_sense (s : State) (q : Req) (k : Nat) (v : Option Word) : (s.setHeld q k v).sense = s.sense := rfl
@[simp] theorem setHeld_cal (s : State) (q : Req) (k : Nat) (v : Option Word) : (s.setHeld q k v).cal = s.cal := rfl
@[simp] theorem setHeld_cls (s : State) (q : Req) (k : Nat) (v : Option Word) : (s.setHeld q k v).cls = s.cls := rfl
@[simp] theorem setHeld_group (s : State) (q : Req) (k : Nat) (v : Option Word) : (s.setHeld q k v).group = s.group := rfl
@[simp] theorem setHeld_rxFrames (s : State) (q : Req) (k : Nat) (v : Option Word) : (s.setHeld q k v).rxFrames = s.rxFrames := rfl
@[simp] theorem setHeld_key (s : State) (q : Req) (k : Nat) (v : Option Word) : (s.setHeld q k v).key = s.key := rfl
@[simp] theorem setHeld_nvm (s : State) (q : Req) (k : Nat) (v : Option Word) : (s.setHeld q k v).nvm = s.nvm := rfl
@[simp] theorem setHeld_nvmPend (s : State) (q : Req) (k : Nat) (v : Option Word) : (s.setHeld q k v).nvmPend = s.nvmPend := rfl
@[simp] theorem setHeld_nvmMap (s : State) (q : Req) (k : Nat) (v : Option Word) : (s.setHeld q k v).nvmMap = s.nvmMap := rfl
@[simp] theorem setHeld_mainPower (s : State) (q : Req) (k : Nat) (v : Option Word) : (s.setHeld q k v).mainPower = s.mainPower := rfl
@[simp] theorem setHeld_avs (s : State) (q : Req) (k : Nat) (v : Option Word) : (s.setHeld q k v).avs = s.avs := rfl
@[simp] theorem setHeld_dtsOff (s : State) (q : Req) (k : Nat) (v : Option Word) : (s.setHeld q k v).dtsOff = s.dtsOff := rfl
@[simp] theorem setHeld_engTest (s : State) (q : Req) (k : Nat) (v : Option Word) : (s.setHeld q k v).engTest = s.engTest := rfl
@[simp] theorem setHeld_groom (s : State) (q : Req) (k : Nat) (v : Option Word) : (s.setHeld q k v).groom = s.groom := rfl

/-! `setUnit` changes `commits` and nothing else. -/
@[simp] theorem setUnit_pending (s : State) (p : Nat) (u : CommitUnit) : (s.setUnit p u).pending = s.pending := rfl
@[simp] theorem setUnit_out (s : State) (p : Nat) (u : CommitUnit) : (s.setUnit p u).out = s.out := rfl
@[simp] theorem setUnit_free (s : State) (p : Nat) (u : CommitUnit) : (s.setUnit p u).free = s.free := rfl
@[simp] theorem setUnit_regs (s : State) (p : Nat) (u : CommitUnit) : (s.setUnit p u).regs = s.regs := rfl
@[simp] theorem setUnit_inForce (s : State) (p : Nat) (u : CommitUnit) : (s.setUnit p u).inForce = s.inForce := rfl
@[simp] theorem setUnit_snaps (s : State) (p : Nat) (u : CommitUnit) : (s.setUnit p u).snaps = s.snaps := rfl
@[simp] theorem setUnit_heldLo (s : State) (p : Nat) (u : CommitUnit) : (s.setUnit p u).heldLo = s.heldLo := rfl
@[simp] theorem setUnit_recQ (s : State) (p : Nat) (u : CommitUnit) : (s.setUnit p u).recQ = s.recQ := rfl
@[simp] theorem setUnit_host (s : State) (p : Nat) (u : CommitUnit) : (s.setUnit p u).host = s.host := rfl
@[simp] theorem setUnit_time (s : State) (p : Nat) (u : CommitUnit) : (s.setUnit p u).time = s.time := rfl
@[simp] theorem setUnit_trig (s : State) (p : Nat) (u : CommitUnit) : (s.setUnit p u).trig = s.trig := rfl
@[simp] theorem setUnit_engs (s : State) (p : Nat) (u : CommitUnit) : (s.setUnit p u).engs = s.engs := rfl
@[simp] theorem setUnit_plan (s : State) (p : Nat) (u : CommitUnit) : (s.setUnit p u).plan = s.plan := rfl
@[simp] theorem setUnit_banks (s : State) (p : Nat) (u : CommitUnit) : (s.setUnit p u).banks = s.banks := rfl
@[simp] theorem setUnit_bankMem (s : State) (p : Nat) (u : CommitUnit) : (s.setUnit p u).bankMem = s.bankMem := rfl
@[simp] theorem setUnit_bankErr (s : State) (p : Nat) (u : CommitUnit) : (s.setUnit p u).bankErr = s.bankErr := rfl
@[simp] theorem setUnit_bankBusy (s : State) (p : Nat) (u : CommitUnit) : (s.setUnit p u).bankBusy = s.bankBusy := rfl
@[simp] theorem setUnit_dram (s : State) (p : Nat) (u : CommitUnit) : (s.setUnit p u).dram = s.dram := rfl
@[simp] theorem setUnit_dramErr (s : State) (p : Nat) (u : CommitUnit) : (s.setUnit p u).dramErr = s.dramErr := rfl
@[simp] theorem setUnit_marks (s : State) (p : Nat) (u : CommitUnit) : (s.setUnit p u).marks = s.marks := rfl
@[simp] theorem setUnit_snsHeld (s : State) (p : Nat) (u : CommitUnit) : (s.setUnit p u).snsHeld = s.snsHeld := rfl
@[simp] theorem setUnit_sched (s : State) (p : Nat) (u : CommitUnit) : (s.setUnit p u).sched = s.sched := rfl
@[simp] theorem setUnit_fifos (s : State) (p : Nat) (u : CommitUnit) : (s.setUnit p u).fifos = s.fifos := rfl
@[simp] theorem setUnit_evtBuf (s : State) (p : Nat) (u : CommitUnit) : (s.setUnit p u).evtBuf = s.evtBuf := rfl
@[simp] theorem setUnit_evtDrop (s : State) (p : Nat) (u : CommitUnit) : (s.setUnit p u).evtDrop = s.evtDrop := rfl
@[simp] theorem setUnit_cmds (s : State) (p : Nat) (u : CommitUnit) : (s.setUnit p u).cmds = s.cmds := rfl
@[simp] theorem setUnit_hdmaDone (s : State) (p : Nat) (u : CommitUnit) : (s.setUnit p u).hdmaDone = s.hdmaDone := rfl
@[simp] theorem setUnit_nets (s : State) (p : Nat) (u : CommitUnit) : (s.setUnit p u).nets = s.nets := rfl
@[simp] theorem setUnit_wheel (s : State) (p : Nat) (u : CommitUnit) : (s.setUnit p u).wheel = s.wheel := rfl
@[simp] theorem setUnit_ingests (s : State) (p : Nat) (u : CommitUnit) : (s.setUnit p u).ingests = s.ingests := rfl
@[simp] theorem setUnit_egresses (s : State) (p : Nat) (u : CommitUnit) : (s.setUnit p u).egresses = s.egresses := rfl
@[simp] theorem setUnit_sacn (s : State) (p : Nat) (u : CommitUnit) : (s.setUnit p u).sacn = s.sacn := rfl
@[simp] theorem setUnit_dmxs (s : State) (p : Nat) (u : CommitUnit) : (s.setUnit p u).dmxs = s.dmxs := rfl
@[simp] theorem setUnit_scans (s : State) (p : Nat) (u : CommitUnit) : (s.setUnit p u).scans = s.scans := rfl
@[simp] theorem setUnit_leds (s : State) (p : Nat) (u : CommitUnit) : (s.setUnit p u).leds = s.leds := rfl
@[simp] theorem setUnit_sense (s : State) (p : Nat) (u : CommitUnit) : (s.setUnit p u).sense = s.sense := rfl
@[simp] theorem setUnit_cal (s : State) (p : Nat) (u : CommitUnit) : (s.setUnit p u).cal = s.cal := rfl
@[simp] theorem setUnit_cls (s : State) (p : Nat) (u : CommitUnit) : (s.setUnit p u).cls = s.cls := rfl
@[simp] theorem setUnit_group (s : State) (p : Nat) (u : CommitUnit) : (s.setUnit p u).group = s.group := rfl
@[simp] theorem setUnit_rxFrames (s : State) (p : Nat) (u : CommitUnit) : (s.setUnit p u).rxFrames = s.rxFrames := rfl
@[simp] theorem setUnit_key (s : State) (p : Nat) (u : CommitUnit) : (s.setUnit p u).key = s.key := rfl
@[simp] theorem setUnit_nvm (s : State) (p : Nat) (u : CommitUnit) : (s.setUnit p u).nvm = s.nvm := rfl
@[simp] theorem setUnit_nvmPend (s : State) (p : Nat) (u : CommitUnit) : (s.setUnit p u).nvmPend = s.nvmPend := rfl
@[simp] theorem setUnit_nvmMap (s : State) (p : Nat) (u : CommitUnit) : (s.setUnit p u).nvmMap = s.nvmMap := rfl
@[simp] theorem setUnit_mainPower (s : State) (p : Nat) (u : CommitUnit) : (s.setUnit p u).mainPower = s.mainPower := rfl
@[simp] theorem setUnit_avs (s : State) (p : Nat) (u : CommitUnit) : (s.setUnit p u).avs = s.avs := rfl
@[simp] theorem setUnit_dtsOff (s : State) (p : Nat) (u : CommitUnit) : (s.setUnit p u).dtsOff = s.dtsOff := rfl
@[simp] theorem setUnit_engTest (s : State) (p : Nat) (u : CommitUnit) : (s.setUnit p u).engTest = s.engTest := rfl
@[simp] theorem setUnit_groom (s : State) (p : Nat) (u : CommitUnit) : (s.setUnit p u).groom = s.groom := rfl

/-! `modTime` changes `time` and nothing else. -/
@[simp] theorem modTime_pending (s : State) (f : TimeS → TimeS) : (s.modTime f).pending = s.pending := rfl
@[simp] theorem modTime_out (s : State) (f : TimeS → TimeS) : (s.modTime f).out = s.out := rfl
@[simp] theorem modTime_free (s : State) (f : TimeS → TimeS) : (s.modTime f).free = s.free := rfl
@[simp] theorem modTime_regs (s : State) (f : TimeS → TimeS) : (s.modTime f).regs = s.regs := rfl
@[simp] theorem modTime_inForce (s : State) (f : TimeS → TimeS) : (s.modTime f).inForce = s.inForce := rfl
@[simp] theorem modTime_snaps (s : State) (f : TimeS → TimeS) : (s.modTime f).snaps = s.snaps := rfl
@[simp] theorem modTime_heldLo (s : State) (f : TimeS → TimeS) : (s.modTime f).heldLo = s.heldLo := rfl
@[simp] theorem modTime_commits (s : State) (f : TimeS → TimeS) : (s.modTime f).commits = s.commits := rfl
@[simp] theorem modTime_recQ (s : State) (f : TimeS → TimeS) : (s.modTime f).recQ = s.recQ := rfl
@[simp] theorem modTime_host (s : State) (f : TimeS → TimeS) : (s.modTime f).host = s.host := rfl
@[simp] theorem modTime_time (s : State) (f : TimeS → TimeS) : (s.modTime f).time = f s.time := rfl
@[simp] theorem modTime_trig (s : State) (f : TimeS → TimeS) : (s.modTime f).trig = s.trig := rfl
@[simp] theorem modTime_engs (s : State) (f : TimeS → TimeS) : (s.modTime f).engs = s.engs := rfl
@[simp] theorem modTime_plan (s : State) (f : TimeS → TimeS) : (s.modTime f).plan = s.plan := rfl
@[simp] theorem modTime_banks (s : State) (f : TimeS → TimeS) : (s.modTime f).banks = s.banks := rfl
@[simp] theorem modTime_bankMem (s : State) (f : TimeS → TimeS) : (s.modTime f).bankMem = s.bankMem := rfl
@[simp] theorem modTime_bankErr (s : State) (f : TimeS → TimeS) : (s.modTime f).bankErr = s.bankErr := rfl
@[simp] theorem modTime_bankBusy (s : State) (f : TimeS → TimeS) : (s.modTime f).bankBusy = s.bankBusy := rfl
@[simp] theorem modTime_dram (s : State) (f : TimeS → TimeS) : (s.modTime f).dram = s.dram := rfl
@[simp] theorem modTime_dramErr (s : State) (f : TimeS → TimeS) : (s.modTime f).dramErr = s.dramErr := rfl
@[simp] theorem modTime_marks (s : State) (f : TimeS → TimeS) : (s.modTime f).marks = s.marks := rfl
@[simp] theorem modTime_snsHeld (s : State) (f : TimeS → TimeS) : (s.modTime f).snsHeld = s.snsHeld := rfl
@[simp] theorem modTime_sched (s : State) (f : TimeS → TimeS) : (s.modTime f).sched = s.sched := rfl
@[simp] theorem modTime_fifos (s : State) (f : TimeS → TimeS) : (s.modTime f).fifos = s.fifos := rfl
@[simp] theorem modTime_evtBuf (s : State) (f : TimeS → TimeS) : (s.modTime f).evtBuf = s.evtBuf := rfl
@[simp] theorem modTime_evtDrop (s : State) (f : TimeS → TimeS) : (s.modTime f).evtDrop = s.evtDrop := rfl
@[simp] theorem modTime_cmds (s : State) (f : TimeS → TimeS) : (s.modTime f).cmds = s.cmds := rfl
@[simp] theorem modTime_hdmaDone (s : State) (f : TimeS → TimeS) : (s.modTime f).hdmaDone = s.hdmaDone := rfl
@[simp] theorem modTime_nets (s : State) (f : TimeS → TimeS) : (s.modTime f).nets = s.nets := rfl
@[simp] theorem modTime_wheel (s : State) (f : TimeS → TimeS) : (s.modTime f).wheel = s.wheel := rfl
@[simp] theorem modTime_ingests (s : State) (f : TimeS → TimeS) : (s.modTime f).ingests = s.ingests := rfl
@[simp] theorem modTime_egresses (s : State) (f : TimeS → TimeS) : (s.modTime f).egresses = s.egresses := rfl
@[simp] theorem modTime_sacn (s : State) (f : TimeS → TimeS) : (s.modTime f).sacn = s.sacn := rfl
@[simp] theorem modTime_dmxs (s : State) (f : TimeS → TimeS) : (s.modTime f).dmxs = s.dmxs := rfl
@[simp] theorem modTime_scans (s : State) (f : TimeS → TimeS) : (s.modTime f).scans = s.scans := rfl
@[simp] theorem modTime_leds (s : State) (f : TimeS → TimeS) : (s.modTime f).leds = s.leds := rfl
@[simp] theorem modTime_sense (s : State) (f : TimeS → TimeS) : (s.modTime f).sense = s.sense := rfl
@[simp] theorem modTime_cal (s : State) (f : TimeS → TimeS) : (s.modTime f).cal = s.cal := rfl
@[simp] theorem modTime_cls (s : State) (f : TimeS → TimeS) : (s.modTime f).cls = s.cls := rfl
@[simp] theorem modTime_group (s : State) (f : TimeS → TimeS) : (s.modTime f).group = s.group := rfl
@[simp] theorem modTime_rxFrames (s : State) (f : TimeS → TimeS) : (s.modTime f).rxFrames = s.rxFrames := rfl
@[simp] theorem modTime_key (s : State) (f : TimeS → TimeS) : (s.modTime f).key = s.key := rfl
@[simp] theorem modTime_nvm (s : State) (f : TimeS → TimeS) : (s.modTime f).nvm = s.nvm := rfl
@[simp] theorem modTime_nvmPend (s : State) (f : TimeS → TimeS) : (s.modTime f).nvmPend = s.nvmPend := rfl
@[simp] theorem modTime_nvmMap (s : State) (f : TimeS → TimeS) : (s.modTime f).nvmMap = s.nvmMap := rfl
@[simp] theorem modTime_mainPower (s : State) (f : TimeS → TimeS) : (s.modTime f).mainPower = s.mainPower := rfl
@[simp] theorem modTime_avs (s : State) (f : TimeS → TimeS) : (s.modTime f).avs = s.avs := rfl
@[simp] theorem modTime_dtsOff (s : State) (f : TimeS → TimeS) : (s.modTime f).dtsOff = s.dtsOff := rfl
@[simp] theorem modTime_engTest (s : State) (f : TimeS → TimeS) : (s.modTime f).engTest = s.engTest := rfl
@[simp] theorem modTime_groom (s : State) (f : TimeS → TimeS) : (s.modTime f).groom = s.groom := rfl

/-! `setEng` changes `engs` and nothing else. -/
@[simp] theorem setEng_pending (s : State) (e : Nat) (x : EngS) : (s.setEng e x).pending = s.pending := rfl
@[simp] theorem setEng_out (s : State) (e : Nat) (x : EngS) : (s.setEng e x).out = s.out := rfl
@[simp] theorem setEng_free (s : State) (e : Nat) (x : EngS) : (s.setEng e x).free = s.free := rfl
@[simp] theorem setEng_regs (s : State) (e : Nat) (x : EngS) : (s.setEng e x).regs = s.regs := rfl
@[simp] theorem setEng_inForce (s : State) (e : Nat) (x : EngS) : (s.setEng e x).inForce = s.inForce := rfl
@[simp] theorem setEng_snaps (s : State) (e : Nat) (x : EngS) : (s.setEng e x).snaps = s.snaps := rfl
@[simp] theorem setEng_heldLo (s : State) (e : Nat) (x : EngS) : (s.setEng e x).heldLo = s.heldLo := rfl
@[simp] theorem setEng_commits (s : State) (e : Nat) (x : EngS) : (s.setEng e x).commits = s.commits := rfl
@[simp] theorem setEng_recQ (s : State) (e : Nat) (x : EngS) : (s.setEng e x).recQ = s.recQ := rfl
@[simp] theorem setEng_host (s : State) (e : Nat) (x : EngS) : (s.setEng e x).host = s.host := rfl
@[simp] theorem setEng_time (s : State) (e : Nat) (x : EngS) : (s.setEng e x).time = s.time := rfl
@[simp] theorem setEng_trig (s : State) (e : Nat) (x : EngS) : (s.setEng e x).trig = s.trig := rfl
@[simp] theorem setEng_plan (s : State) (e : Nat) (x : EngS) : (s.setEng e x).plan = s.plan := rfl
@[simp] theorem setEng_banks (s : State) (e : Nat) (x : EngS) : (s.setEng e x).banks = s.banks := rfl
@[simp] theorem setEng_bankMem (s : State) (e : Nat) (x : EngS) : (s.setEng e x).bankMem = s.bankMem := rfl
@[simp] theorem setEng_bankErr (s : State) (e : Nat) (x : EngS) : (s.setEng e x).bankErr = s.bankErr := rfl
@[simp] theorem setEng_bankBusy (s : State) (e : Nat) (x : EngS) : (s.setEng e x).bankBusy = s.bankBusy := rfl
@[simp] theorem setEng_dram (s : State) (e : Nat) (x : EngS) : (s.setEng e x).dram = s.dram := rfl
@[simp] theorem setEng_dramErr (s : State) (e : Nat) (x : EngS) : (s.setEng e x).dramErr = s.dramErr := rfl
@[simp] theorem setEng_marks (s : State) (e : Nat) (x : EngS) : (s.setEng e x).marks = s.marks := rfl
@[simp] theorem setEng_snsHeld (s : State) (e : Nat) (x : EngS) : (s.setEng e x).snsHeld = s.snsHeld := rfl
@[simp] theorem setEng_sched (s : State) (e : Nat) (x : EngS) : (s.setEng e x).sched = s.sched := rfl
@[simp] theorem setEng_fifos (s : State) (e : Nat) (x : EngS) : (s.setEng e x).fifos = s.fifos := rfl
@[simp] theorem setEng_evtBuf (s : State) (e : Nat) (x : EngS) : (s.setEng e x).evtBuf = s.evtBuf := rfl
@[simp] theorem setEng_evtDrop (s : State) (e : Nat) (x : EngS) : (s.setEng e x).evtDrop = s.evtDrop := rfl
@[simp] theorem setEng_cmds (s : State) (e : Nat) (x : EngS) : (s.setEng e x).cmds = s.cmds := rfl
@[simp] theorem setEng_hdmaDone (s : State) (e : Nat) (x : EngS) : (s.setEng e x).hdmaDone = s.hdmaDone := rfl
@[simp] theorem setEng_nets (s : State) (e : Nat) (x : EngS) : (s.setEng e x).nets = s.nets := rfl
@[simp] theorem setEng_wheel (s : State) (e : Nat) (x : EngS) : (s.setEng e x).wheel = s.wheel := rfl
@[simp] theorem setEng_ingests (s : State) (e : Nat) (x : EngS) : (s.setEng e x).ingests = s.ingests := rfl
@[simp] theorem setEng_egresses (s : State) (e : Nat) (x : EngS) : (s.setEng e x).egresses = s.egresses := rfl
@[simp] theorem setEng_sacn (s : State) (e : Nat) (x : EngS) : (s.setEng e x).sacn = s.sacn := rfl
@[simp] theorem setEng_dmxs (s : State) (e : Nat) (x : EngS) : (s.setEng e x).dmxs = s.dmxs := rfl
@[simp] theorem setEng_scans (s : State) (e : Nat) (x : EngS) : (s.setEng e x).scans = s.scans := rfl
@[simp] theorem setEng_leds (s : State) (e : Nat) (x : EngS) : (s.setEng e x).leds = s.leds := rfl
@[simp] theorem setEng_sense (s : State) (e : Nat) (x : EngS) : (s.setEng e x).sense = s.sense := rfl
@[simp] theorem setEng_cal (s : State) (e : Nat) (x : EngS) : (s.setEng e x).cal = s.cal := rfl
@[simp] theorem setEng_cls (s : State) (e : Nat) (x : EngS) : (s.setEng e x).cls = s.cls := rfl
@[simp] theorem setEng_group (s : State) (e : Nat) (x : EngS) : (s.setEng e x).group = s.group := rfl
@[simp] theorem setEng_rxFrames (s : State) (e : Nat) (x : EngS) : (s.setEng e x).rxFrames = s.rxFrames := rfl
@[simp] theorem setEng_key (s : State) (e : Nat) (x : EngS) : (s.setEng e x).key = s.key := rfl
@[simp] theorem setEng_nvm (s : State) (e : Nat) (x : EngS) : (s.setEng e x).nvm = s.nvm := rfl
@[simp] theorem setEng_nvmPend (s : State) (e : Nat) (x : EngS) : (s.setEng e x).nvmPend = s.nvmPend := rfl
@[simp] theorem setEng_nvmMap (s : State) (e : Nat) (x : EngS) : (s.setEng e x).nvmMap = s.nvmMap := rfl
@[simp] theorem setEng_mainPower (s : State) (e : Nat) (x : EngS) : (s.setEng e x).mainPower = s.mainPower := rfl
@[simp] theorem setEng_avs (s : State) (e : Nat) (x : EngS) : (s.setEng e x).avs = s.avs := rfl
@[simp] theorem setEng_dtsOff (s : State) (e : Nat) (x : EngS) : (s.setEng e x).dtsOff = s.dtsOff := rfl
@[simp] theorem setEng_engTest (s : State) (e : Nat) (x : EngS) : (s.setEng e x).engTest = s.engTest := rfl
@[simp] theorem setEng_groom (s : State) (e : Nat) (x : EngS) : (s.setEng e x).groom = s.groom := rfl

/-! `modEng` changes `engs` and nothing else. -/
@[simp] theorem modEng_pending (s : State) (e : Nat) (f : EngS → EngS) : (s.modEng e f).pending = s.pending := rfl
@[simp] theorem modEng_out (s : State) (e : Nat) (f : EngS → EngS) : (s.modEng e f).out = s.out := rfl
@[simp] theorem modEng_free (s : State) (e : Nat) (f : EngS → EngS) : (s.modEng e f).free = s.free := rfl
@[simp] theorem modEng_regs (s : State) (e : Nat) (f : EngS → EngS) : (s.modEng e f).regs = s.regs := rfl
@[simp] theorem modEng_inForce (s : State) (e : Nat) (f : EngS → EngS) : (s.modEng e f).inForce = s.inForce := rfl
@[simp] theorem modEng_snaps (s : State) (e : Nat) (f : EngS → EngS) : (s.modEng e f).snaps = s.snaps := rfl
@[simp] theorem modEng_heldLo (s : State) (e : Nat) (f : EngS → EngS) : (s.modEng e f).heldLo = s.heldLo := rfl
@[simp] theorem modEng_commits (s : State) (e : Nat) (f : EngS → EngS) : (s.modEng e f).commits = s.commits := rfl
@[simp] theorem modEng_recQ (s : State) (e : Nat) (f : EngS → EngS) : (s.modEng e f).recQ = s.recQ := rfl
@[simp] theorem modEng_host (s : State) (e : Nat) (f : EngS → EngS) : (s.modEng e f).host = s.host := rfl
@[simp] theorem modEng_time (s : State) (e : Nat) (f : EngS → EngS) : (s.modEng e f).time = s.time := rfl
@[simp] theorem modEng_trig (s : State) (e : Nat) (f : EngS → EngS) : (s.modEng e f).trig = s.trig := rfl
@[simp] theorem modEng_plan (s : State) (e : Nat) (f : EngS → EngS) : (s.modEng e f).plan = s.plan := rfl
@[simp] theorem modEng_banks (s : State) (e : Nat) (f : EngS → EngS) : (s.modEng e f).banks = s.banks := rfl
@[simp] theorem modEng_bankMem (s : State) (e : Nat) (f : EngS → EngS) : (s.modEng e f).bankMem = s.bankMem := rfl
@[simp] theorem modEng_bankErr (s : State) (e : Nat) (f : EngS → EngS) : (s.modEng e f).bankErr = s.bankErr := rfl
@[simp] theorem modEng_bankBusy (s : State) (e : Nat) (f : EngS → EngS) : (s.modEng e f).bankBusy = s.bankBusy := rfl
@[simp] theorem modEng_dram (s : State) (e : Nat) (f : EngS → EngS) : (s.modEng e f).dram = s.dram := rfl
@[simp] theorem modEng_dramErr (s : State) (e : Nat) (f : EngS → EngS) : (s.modEng e f).dramErr = s.dramErr := rfl
@[simp] theorem modEng_marks (s : State) (e : Nat) (f : EngS → EngS) : (s.modEng e f).marks = s.marks := rfl
@[simp] theorem modEng_snsHeld (s : State) (e : Nat) (f : EngS → EngS) : (s.modEng e f).snsHeld = s.snsHeld := rfl
@[simp] theorem modEng_sched (s : State) (e : Nat) (f : EngS → EngS) : (s.modEng e f).sched = s.sched := rfl
@[simp] theorem modEng_fifos (s : State) (e : Nat) (f : EngS → EngS) : (s.modEng e f).fifos = s.fifos := rfl
@[simp] theorem modEng_evtBuf (s : State) (e : Nat) (f : EngS → EngS) : (s.modEng e f).evtBuf = s.evtBuf := rfl
@[simp] theorem modEng_evtDrop (s : State) (e : Nat) (f : EngS → EngS) : (s.modEng e f).evtDrop = s.evtDrop := rfl
@[simp] theorem modEng_cmds (s : State) (e : Nat) (f : EngS → EngS) : (s.modEng e f).cmds = s.cmds := rfl
@[simp] theorem modEng_hdmaDone (s : State) (e : Nat) (f : EngS → EngS) : (s.modEng e f).hdmaDone = s.hdmaDone := rfl
@[simp] theorem modEng_nets (s : State) (e : Nat) (f : EngS → EngS) : (s.modEng e f).nets = s.nets := rfl
@[simp] theorem modEng_wheel (s : State) (e : Nat) (f : EngS → EngS) : (s.modEng e f).wheel = s.wheel := rfl
@[simp] theorem modEng_ingests (s : State) (e : Nat) (f : EngS → EngS) : (s.modEng e f).ingests = s.ingests := rfl
@[simp] theorem modEng_egresses (s : State) (e : Nat) (f : EngS → EngS) : (s.modEng e f).egresses = s.egresses := rfl
@[simp] theorem modEng_sacn (s : State) (e : Nat) (f : EngS → EngS) : (s.modEng e f).sacn = s.sacn := rfl
@[simp] theorem modEng_dmxs (s : State) (e : Nat) (f : EngS → EngS) : (s.modEng e f).dmxs = s.dmxs := rfl
@[simp] theorem modEng_scans (s : State) (e : Nat) (f : EngS → EngS) : (s.modEng e f).scans = s.scans := rfl
@[simp] theorem modEng_leds (s : State) (e : Nat) (f : EngS → EngS) : (s.modEng e f).leds = s.leds := rfl
@[simp] theorem modEng_sense (s : State) (e : Nat) (f : EngS → EngS) : (s.modEng e f).sense = s.sense := rfl
@[simp] theorem modEng_cal (s : State) (e : Nat) (f : EngS → EngS) : (s.modEng e f).cal = s.cal := rfl
@[simp] theorem modEng_cls (s : State) (e : Nat) (f : EngS → EngS) : (s.modEng e f).cls = s.cls := rfl
@[simp] theorem modEng_group (s : State) (e : Nat) (f : EngS → EngS) : (s.modEng e f).group = s.group := rfl
@[simp] theorem modEng_rxFrames (s : State) (e : Nat) (f : EngS → EngS) : (s.modEng e f).rxFrames = s.rxFrames := rfl
@[simp] theorem modEng_key (s : State) (e : Nat) (f : EngS → EngS) : (s.modEng e f).key = s.key := rfl
@[simp] theorem modEng_nvm (s : State) (e : Nat) (f : EngS → EngS) : (s.modEng e f).nvm = s.nvm := rfl
@[simp] theorem modEng_nvmPend (s : State) (e : Nat) (f : EngS → EngS) : (s.modEng e f).nvmPend = s.nvmPend := rfl
@[simp] theorem modEng_nvmMap (s : State) (e : Nat) (f : EngS → EngS) : (s.modEng e f).nvmMap = s.nvmMap := rfl
@[simp] theorem modEng_mainPower (s : State) (e : Nat) (f : EngS → EngS) : (s.modEng e f).mainPower = s.mainPower := rfl
@[simp] theorem modEng_avs (s : State) (e : Nat) (f : EngS → EngS) : (s.modEng e f).avs = s.avs := rfl
@[simp] theorem modEng_dtsOff (s : State) (e : Nat) (f : EngS → EngS) : (s.modEng e f).dtsOff = s.dtsOff := rfl
@[simp] theorem modEng_engTest (s : State) (e : Nat) (f : EngS → EngS) : (s.modEng e f).engTest = s.engTest := rfl
@[simp] theorem modEng_groom (s : State) (e : Nat) (f : EngS → EngS) : (s.modEng e f).groom = s.groom := rfl

/-! `modPlan` changes `plan` and nothing else. -/
@[simp] theorem modPlan_pending (s : State) (f : PlanS → PlanS) : (s.modPlan f).pending = s.pending := rfl
@[simp] theorem modPlan_out (s : State) (f : PlanS → PlanS) : (s.modPlan f).out = s.out := rfl
@[simp] theorem modPlan_free (s : State) (f : PlanS → PlanS) : (s.modPlan f).free = s.free := rfl
@[simp] theorem modPlan_regs (s : State) (f : PlanS → PlanS) : (s.modPlan f).regs = s.regs := rfl
@[simp] theorem modPlan_inForce (s : State) (f : PlanS → PlanS) : (s.modPlan f).inForce = s.inForce := rfl
@[simp] theorem modPlan_snaps (s : State) (f : PlanS → PlanS) : (s.modPlan f).snaps = s.snaps := rfl
@[simp] theorem modPlan_heldLo (s : State) (f : PlanS → PlanS) : (s.modPlan f).heldLo = s.heldLo := rfl
@[simp] theorem modPlan_commits (s : State) (f : PlanS → PlanS) : (s.modPlan f).commits = s.commits := rfl
@[simp] theorem modPlan_recQ (s : State) (f : PlanS → PlanS) : (s.modPlan f).recQ = s.recQ := rfl
@[simp] theorem modPlan_host (s : State) (f : PlanS → PlanS) : (s.modPlan f).host = s.host := rfl
@[simp] theorem modPlan_time (s : State) (f : PlanS → PlanS) : (s.modPlan f).time = s.time := rfl
@[simp] theorem modPlan_trig (s : State) (f : PlanS → PlanS) : (s.modPlan f).trig = s.trig := rfl
@[simp] theorem modPlan_engs (s : State) (f : PlanS → PlanS) : (s.modPlan f).engs = s.engs := rfl
@[simp] theorem modPlan_plan (s : State) (f : PlanS → PlanS) : (s.modPlan f).plan = f s.plan := rfl
@[simp] theorem modPlan_banks (s : State) (f : PlanS → PlanS) : (s.modPlan f).banks = s.banks := rfl
@[simp] theorem modPlan_bankMem (s : State) (f : PlanS → PlanS) : (s.modPlan f).bankMem = s.bankMem := rfl
@[simp] theorem modPlan_bankErr (s : State) (f : PlanS → PlanS) : (s.modPlan f).bankErr = s.bankErr := rfl
@[simp] theorem modPlan_bankBusy (s : State) (f : PlanS → PlanS) : (s.modPlan f).bankBusy = s.bankBusy := rfl
@[simp] theorem modPlan_dram (s : State) (f : PlanS → PlanS) : (s.modPlan f).dram = s.dram := rfl
@[simp] theorem modPlan_dramErr (s : State) (f : PlanS → PlanS) : (s.modPlan f).dramErr = s.dramErr := rfl
@[simp] theorem modPlan_marks (s : State) (f : PlanS → PlanS) : (s.modPlan f).marks = s.marks := rfl
@[simp] theorem modPlan_snsHeld (s : State) (f : PlanS → PlanS) : (s.modPlan f).snsHeld = s.snsHeld := rfl
@[simp] theorem modPlan_sched (s : State) (f : PlanS → PlanS) : (s.modPlan f).sched = s.sched := rfl
@[simp] theorem modPlan_fifos (s : State) (f : PlanS → PlanS) : (s.modPlan f).fifos = s.fifos := rfl
@[simp] theorem modPlan_evtBuf (s : State) (f : PlanS → PlanS) : (s.modPlan f).evtBuf = s.evtBuf := rfl
@[simp] theorem modPlan_evtDrop (s : State) (f : PlanS → PlanS) : (s.modPlan f).evtDrop = s.evtDrop := rfl
@[simp] theorem modPlan_cmds (s : State) (f : PlanS → PlanS) : (s.modPlan f).cmds = s.cmds := rfl
@[simp] theorem modPlan_hdmaDone (s : State) (f : PlanS → PlanS) : (s.modPlan f).hdmaDone = s.hdmaDone := rfl
@[simp] theorem modPlan_nets (s : State) (f : PlanS → PlanS) : (s.modPlan f).nets = s.nets := rfl
@[simp] theorem modPlan_wheel (s : State) (f : PlanS → PlanS) : (s.modPlan f).wheel = s.wheel := rfl
@[simp] theorem modPlan_ingests (s : State) (f : PlanS → PlanS) : (s.modPlan f).ingests = s.ingests := rfl
@[simp] theorem modPlan_egresses (s : State) (f : PlanS → PlanS) : (s.modPlan f).egresses = s.egresses := rfl
@[simp] theorem modPlan_sacn (s : State) (f : PlanS → PlanS) : (s.modPlan f).sacn = s.sacn := rfl
@[simp] theorem modPlan_dmxs (s : State) (f : PlanS → PlanS) : (s.modPlan f).dmxs = s.dmxs := rfl
@[simp] theorem modPlan_scans (s : State) (f : PlanS → PlanS) : (s.modPlan f).scans = s.scans := rfl
@[simp] theorem modPlan_leds (s : State) (f : PlanS → PlanS) : (s.modPlan f).leds = s.leds := rfl
@[simp] theorem modPlan_sense (s : State) (f : PlanS → PlanS) : (s.modPlan f).sense = s.sense := rfl
@[simp] theorem modPlan_cal (s : State) (f : PlanS → PlanS) : (s.modPlan f).cal = s.cal := rfl
@[simp] theorem modPlan_cls (s : State) (f : PlanS → PlanS) : (s.modPlan f).cls = s.cls := rfl
@[simp] theorem modPlan_group (s : State) (f : PlanS → PlanS) : (s.modPlan f).group = s.group := rfl
@[simp] theorem modPlan_rxFrames (s : State) (f : PlanS → PlanS) : (s.modPlan f).rxFrames = s.rxFrames := rfl
@[simp] theorem modPlan_key (s : State) (f : PlanS → PlanS) : (s.modPlan f).key = s.key := rfl
@[simp] theorem modPlan_nvm (s : State) (f : PlanS → PlanS) : (s.modPlan f).nvm = s.nvm := rfl
@[simp] theorem modPlan_nvmPend (s : State) (f : PlanS → PlanS) : (s.modPlan f).nvmPend = s.nvmPend := rfl
@[simp] theorem modPlan_nvmMap (s : State) (f : PlanS → PlanS) : (s.modPlan f).nvmMap = s.nvmMap := rfl
@[simp] theorem modPlan_mainPower (s : State) (f : PlanS → PlanS) : (s.modPlan f).mainPower = s.mainPower := rfl
@[simp] theorem modPlan_avs (s : State) (f : PlanS → PlanS) : (s.modPlan f).avs = s.avs := rfl
@[simp] theorem modPlan_dtsOff (s : State) (f : PlanS → PlanS) : (s.modPlan f).dtsOff = s.dtsOff := rfl
@[simp] theorem modPlan_engTest (s : State) (f : PlanS → PlanS) : (s.modPlan f).engTest = s.engTest := rfl
@[simp] theorem modPlan_groom (s : State) (f : PlanS → PlanS) : (s.modPlan f).groom = s.groom := rfl

/-! `setBank` changes `banks` and nothing else. -/
@[simp] theorem setBank_pending (s : State) (b : Nat) (x : BankS) : (s.setBank b x).pending = s.pending := rfl
@[simp] theorem setBank_out (s : State) (b : Nat) (x : BankS) : (s.setBank b x).out = s.out := rfl
@[simp] theorem setBank_free (s : State) (b : Nat) (x : BankS) : (s.setBank b x).free = s.free := rfl
@[simp] theorem setBank_regs (s : State) (b : Nat) (x : BankS) : (s.setBank b x).regs = s.regs := rfl
@[simp] theorem setBank_inForce (s : State) (b : Nat) (x : BankS) : (s.setBank b x).inForce = s.inForce := rfl
@[simp] theorem setBank_snaps (s : State) (b : Nat) (x : BankS) : (s.setBank b x).snaps = s.snaps := rfl
@[simp] theorem setBank_heldLo (s : State) (b : Nat) (x : BankS) : (s.setBank b x).heldLo = s.heldLo := rfl
@[simp] theorem setBank_commits (s : State) (b : Nat) (x : BankS) : (s.setBank b x).commits = s.commits := rfl
@[simp] theorem setBank_recQ (s : State) (b : Nat) (x : BankS) : (s.setBank b x).recQ = s.recQ := rfl
@[simp] theorem setBank_host (s : State) (b : Nat) (x : BankS) : (s.setBank b x).host = s.host := rfl
@[simp] theorem setBank_time (s : State) (b : Nat) (x : BankS) : (s.setBank b x).time = s.time := rfl
@[simp] theorem setBank_trig (s : State) (b : Nat) (x : BankS) : (s.setBank b x).trig = s.trig := rfl
@[simp] theorem setBank_engs (s : State) (b : Nat) (x : BankS) : (s.setBank b x).engs = s.engs := rfl
@[simp] theorem setBank_plan (s : State) (b : Nat) (x : BankS) : (s.setBank b x).plan = s.plan := rfl
@[simp] theorem setBank_bankMem (s : State) (b : Nat) (x : BankS) : (s.setBank b x).bankMem = s.bankMem := rfl
@[simp] theorem setBank_bankErr (s : State) (b : Nat) (x : BankS) : (s.setBank b x).bankErr = s.bankErr := rfl
@[simp] theorem setBank_bankBusy (s : State) (b : Nat) (x : BankS) : (s.setBank b x).bankBusy = s.bankBusy := rfl
@[simp] theorem setBank_dram (s : State) (b : Nat) (x : BankS) : (s.setBank b x).dram = s.dram := rfl
@[simp] theorem setBank_dramErr (s : State) (b : Nat) (x : BankS) : (s.setBank b x).dramErr = s.dramErr := rfl
@[simp] theorem setBank_marks (s : State) (b : Nat) (x : BankS) : (s.setBank b x).marks = s.marks := rfl
@[simp] theorem setBank_snsHeld (s : State) (b : Nat) (x : BankS) : (s.setBank b x).snsHeld = s.snsHeld := rfl
@[simp] theorem setBank_sched (s : State) (b : Nat) (x : BankS) : (s.setBank b x).sched = s.sched := rfl
@[simp] theorem setBank_fifos (s : State) (b : Nat) (x : BankS) : (s.setBank b x).fifos = s.fifos := rfl
@[simp] theorem setBank_evtBuf (s : State) (b : Nat) (x : BankS) : (s.setBank b x).evtBuf = s.evtBuf := rfl
@[simp] theorem setBank_evtDrop (s : State) (b : Nat) (x : BankS) : (s.setBank b x).evtDrop = s.evtDrop := rfl
@[simp] theorem setBank_cmds (s : State) (b : Nat) (x : BankS) : (s.setBank b x).cmds = s.cmds := rfl
@[simp] theorem setBank_hdmaDone (s : State) (b : Nat) (x : BankS) : (s.setBank b x).hdmaDone = s.hdmaDone := rfl
@[simp] theorem setBank_nets (s : State) (b : Nat) (x : BankS) : (s.setBank b x).nets = s.nets := rfl
@[simp] theorem setBank_wheel (s : State) (b : Nat) (x : BankS) : (s.setBank b x).wheel = s.wheel := rfl
@[simp] theorem setBank_ingests (s : State) (b : Nat) (x : BankS) : (s.setBank b x).ingests = s.ingests := rfl
@[simp] theorem setBank_egresses (s : State) (b : Nat) (x : BankS) : (s.setBank b x).egresses = s.egresses := rfl
@[simp] theorem setBank_sacn (s : State) (b : Nat) (x : BankS) : (s.setBank b x).sacn = s.sacn := rfl
@[simp] theorem setBank_dmxs (s : State) (b : Nat) (x : BankS) : (s.setBank b x).dmxs = s.dmxs := rfl
@[simp] theorem setBank_scans (s : State) (b : Nat) (x : BankS) : (s.setBank b x).scans = s.scans := rfl
@[simp] theorem setBank_leds (s : State) (b : Nat) (x : BankS) : (s.setBank b x).leds = s.leds := rfl
@[simp] theorem setBank_sense (s : State) (b : Nat) (x : BankS) : (s.setBank b x).sense = s.sense := rfl
@[simp] theorem setBank_cal (s : State) (b : Nat) (x : BankS) : (s.setBank b x).cal = s.cal := rfl
@[simp] theorem setBank_cls (s : State) (b : Nat) (x : BankS) : (s.setBank b x).cls = s.cls := rfl
@[simp] theorem setBank_group (s : State) (b : Nat) (x : BankS) : (s.setBank b x).group = s.group := rfl
@[simp] theorem setBank_rxFrames (s : State) (b : Nat) (x : BankS) : (s.setBank b x).rxFrames = s.rxFrames := rfl
@[simp] theorem setBank_key (s : State) (b : Nat) (x : BankS) : (s.setBank b x).key = s.key := rfl
@[simp] theorem setBank_nvm (s : State) (b : Nat) (x : BankS) : (s.setBank b x).nvm = s.nvm := rfl
@[simp] theorem setBank_nvmPend (s : State) (b : Nat) (x : BankS) : (s.setBank b x).nvmPend = s.nvmPend := rfl
@[simp] theorem setBank_nvmMap (s : State) (b : Nat) (x : BankS) : (s.setBank b x).nvmMap = s.nvmMap := rfl
@[simp] theorem setBank_mainPower (s : State) (b : Nat) (x : BankS) : (s.setBank b x).mainPower = s.mainPower := rfl
@[simp] theorem setBank_avs (s : State) (b : Nat) (x : BankS) : (s.setBank b x).avs = s.avs := rfl
@[simp] theorem setBank_dtsOff (s : State) (b : Nat) (x : BankS) : (s.setBank b x).dtsOff = s.dtsOff := rfl
@[simp] theorem setBank_engTest (s : State) (b : Nat) (x : BankS) : (s.setBank b x).engTest = s.engTest := rfl
@[simp] theorem setBank_groom (s : State) (b : Nat) (x : BankS) : (s.setBank b x).groom = s.groom := rfl

/-! `modSched` changes `sched` and nothing else. -/
@[simp] theorem modSched_pending (s : State) (f : SchedS → SchedS) : (s.modSched f).pending = s.pending := rfl
@[simp] theorem modSched_out (s : State) (f : SchedS → SchedS) : (s.modSched f).out = s.out := rfl
@[simp] theorem modSched_free (s : State) (f : SchedS → SchedS) : (s.modSched f).free = s.free := rfl
@[simp] theorem modSched_regs (s : State) (f : SchedS → SchedS) : (s.modSched f).regs = s.regs := rfl
@[simp] theorem modSched_inForce (s : State) (f : SchedS → SchedS) : (s.modSched f).inForce = s.inForce := rfl
@[simp] theorem modSched_snaps (s : State) (f : SchedS → SchedS) : (s.modSched f).snaps = s.snaps := rfl
@[simp] theorem modSched_heldLo (s : State) (f : SchedS → SchedS) : (s.modSched f).heldLo = s.heldLo := rfl
@[simp] theorem modSched_commits (s : State) (f : SchedS → SchedS) : (s.modSched f).commits = s.commits := rfl
@[simp] theorem modSched_recQ (s : State) (f : SchedS → SchedS) : (s.modSched f).recQ = s.recQ := rfl
@[simp] theorem modSched_host (s : State) (f : SchedS → SchedS) : (s.modSched f).host = s.host := rfl
@[simp] theorem modSched_time (s : State) (f : SchedS → SchedS) : (s.modSched f).time = s.time := rfl
@[simp] theorem modSched_trig (s : State) (f : SchedS → SchedS) : (s.modSched f).trig = s.trig := rfl
@[simp] theorem modSched_engs (s : State) (f : SchedS → SchedS) : (s.modSched f).engs = s.engs := rfl
@[simp] theorem modSched_plan (s : State) (f : SchedS → SchedS) : (s.modSched f).plan = s.plan := rfl
@[simp] theorem modSched_banks (s : State) (f : SchedS → SchedS) : (s.modSched f).banks = s.banks := rfl
@[simp] theorem modSched_bankMem (s : State) (f : SchedS → SchedS) : (s.modSched f).bankMem = s.bankMem := rfl
@[simp] theorem modSched_bankErr (s : State) (f : SchedS → SchedS) : (s.modSched f).bankErr = s.bankErr := rfl
@[simp] theorem modSched_bankBusy (s : State) (f : SchedS → SchedS) : (s.modSched f).bankBusy = s.bankBusy := rfl
@[simp] theorem modSched_dram (s : State) (f : SchedS → SchedS) : (s.modSched f).dram = s.dram := rfl
@[simp] theorem modSched_dramErr (s : State) (f : SchedS → SchedS) : (s.modSched f).dramErr = s.dramErr := rfl
@[simp] theorem modSched_marks (s : State) (f : SchedS → SchedS) : (s.modSched f).marks = s.marks := rfl
@[simp] theorem modSched_snsHeld (s : State) (f : SchedS → SchedS) : (s.modSched f).snsHeld = s.snsHeld := rfl
@[simp] theorem modSched_sched (s : State) (f : SchedS → SchedS) : (s.modSched f).sched = f s.sched := rfl
@[simp] theorem modSched_fifos (s : State) (f : SchedS → SchedS) : (s.modSched f).fifos = s.fifos := rfl
@[simp] theorem modSched_evtBuf (s : State) (f : SchedS → SchedS) : (s.modSched f).evtBuf = s.evtBuf := rfl
@[simp] theorem modSched_evtDrop (s : State) (f : SchedS → SchedS) : (s.modSched f).evtDrop = s.evtDrop := rfl
@[simp] theorem modSched_cmds (s : State) (f : SchedS → SchedS) : (s.modSched f).cmds = s.cmds := rfl
@[simp] theorem modSched_hdmaDone (s : State) (f : SchedS → SchedS) : (s.modSched f).hdmaDone = s.hdmaDone := rfl
@[simp] theorem modSched_nets (s : State) (f : SchedS → SchedS) : (s.modSched f).nets = s.nets := rfl
@[simp] theorem modSched_wheel (s : State) (f : SchedS → SchedS) : (s.modSched f).wheel = s.wheel := rfl
@[simp] theorem modSched_ingests (s : State) (f : SchedS → SchedS) : (s.modSched f).ingests = s.ingests := rfl
@[simp] theorem modSched_egresses (s : State) (f : SchedS → SchedS) : (s.modSched f).egresses = s.egresses := rfl
@[simp] theorem modSched_sacn (s : State) (f : SchedS → SchedS) : (s.modSched f).sacn = s.sacn := rfl
@[simp] theorem modSched_dmxs (s : State) (f : SchedS → SchedS) : (s.modSched f).dmxs = s.dmxs := rfl
@[simp] theorem modSched_scans (s : State) (f : SchedS → SchedS) : (s.modSched f).scans = s.scans := rfl
@[simp] theorem modSched_leds (s : State) (f : SchedS → SchedS) : (s.modSched f).leds = s.leds := rfl
@[simp] theorem modSched_sense (s : State) (f : SchedS → SchedS) : (s.modSched f).sense = s.sense := rfl
@[simp] theorem modSched_cal (s : State) (f : SchedS → SchedS) : (s.modSched f).cal = s.cal := rfl
@[simp] theorem modSched_cls (s : State) (f : SchedS → SchedS) : (s.modSched f).cls = s.cls := rfl
@[simp] theorem modSched_group (s : State) (f : SchedS → SchedS) : (s.modSched f).group = s.group := rfl
@[simp] theorem modSched_rxFrames (s : State) (f : SchedS → SchedS) : (s.modSched f).rxFrames = s.rxFrames := rfl
@[simp] theorem modSched_key (s : State) (f : SchedS → SchedS) : (s.modSched f).key = s.key := rfl
@[simp] theorem modSched_nvm (s : State) (f : SchedS → SchedS) : (s.modSched f).nvm = s.nvm := rfl
@[simp] theorem modSched_nvmPend (s : State) (f : SchedS → SchedS) : (s.modSched f).nvmPend = s.nvmPend := rfl
@[simp] theorem modSched_nvmMap (s : State) (f : SchedS → SchedS) : (s.modSched f).nvmMap = s.nvmMap := rfl
@[simp] theorem modSched_mainPower (s : State) (f : SchedS → SchedS) : (s.modSched f).mainPower = s.mainPower := rfl
@[simp] theorem modSched_avs (s : State) (f : SchedS → SchedS) : (s.modSched f).avs = s.avs := rfl
@[simp] theorem modSched_dtsOff (s : State) (f : SchedS → SchedS) : (s.modSched f).dtsOff = s.dtsOff := rfl
@[simp] theorem modSched_engTest (s : State) (f : SchedS → SchedS) : (s.modSched f).engTest = s.engTest := rfl
@[simp] theorem modSched_groom (s : State) (f : SchedS → SchedS) : (s.modSched f).groom = s.groom := rfl

/-! `modFifo` changes `fifos` and nothing else. -/
@[simp] theorem modFifo_pending (s : State) (n : Nat) (f : FifoS → FifoS) : (s.modFifo n f).pending = s.pending := rfl
@[simp] theorem modFifo_out (s : State) (n : Nat) (f : FifoS → FifoS) : (s.modFifo n f).out = s.out := rfl
@[simp] theorem modFifo_free (s : State) (n : Nat) (f : FifoS → FifoS) : (s.modFifo n f).free = s.free := rfl
@[simp] theorem modFifo_regs (s : State) (n : Nat) (f : FifoS → FifoS) : (s.modFifo n f).regs = s.regs := rfl
@[simp] theorem modFifo_inForce (s : State) (n : Nat) (f : FifoS → FifoS) : (s.modFifo n f).inForce = s.inForce := rfl
@[simp] theorem modFifo_snaps (s : State) (n : Nat) (f : FifoS → FifoS) : (s.modFifo n f).snaps = s.snaps := rfl
@[simp] theorem modFifo_heldLo (s : State) (n : Nat) (f : FifoS → FifoS) : (s.modFifo n f).heldLo = s.heldLo := rfl
@[simp] theorem modFifo_commits (s : State) (n : Nat) (f : FifoS → FifoS) : (s.modFifo n f).commits = s.commits := rfl
@[simp] theorem modFifo_recQ (s : State) (n : Nat) (f : FifoS → FifoS) : (s.modFifo n f).recQ = s.recQ := rfl
@[simp] theorem modFifo_host (s : State) (n : Nat) (f : FifoS → FifoS) : (s.modFifo n f).host = s.host := rfl
@[simp] theorem modFifo_time (s : State) (n : Nat) (f : FifoS → FifoS) : (s.modFifo n f).time = s.time := rfl
@[simp] theorem modFifo_trig (s : State) (n : Nat) (f : FifoS → FifoS) : (s.modFifo n f).trig = s.trig := rfl
@[simp] theorem modFifo_engs (s : State) (n : Nat) (f : FifoS → FifoS) : (s.modFifo n f).engs = s.engs := rfl
@[simp] theorem modFifo_plan (s : State) (n : Nat) (f : FifoS → FifoS) : (s.modFifo n f).plan = s.plan := rfl
@[simp] theorem modFifo_banks (s : State) (n : Nat) (f : FifoS → FifoS) : (s.modFifo n f).banks = s.banks := rfl
@[simp] theorem modFifo_bankMem (s : State) (n : Nat) (f : FifoS → FifoS) : (s.modFifo n f).bankMem = s.bankMem := rfl
@[simp] theorem modFifo_bankErr (s : State) (n : Nat) (f : FifoS → FifoS) : (s.modFifo n f).bankErr = s.bankErr := rfl
@[simp] theorem modFifo_bankBusy (s : State) (n : Nat) (f : FifoS → FifoS) : (s.modFifo n f).bankBusy = s.bankBusy := rfl
@[simp] theorem modFifo_dram (s : State) (n : Nat) (f : FifoS → FifoS) : (s.modFifo n f).dram = s.dram := rfl
@[simp] theorem modFifo_dramErr (s : State) (n : Nat) (f : FifoS → FifoS) : (s.modFifo n f).dramErr = s.dramErr := rfl
@[simp] theorem modFifo_marks (s : State) (n : Nat) (f : FifoS → FifoS) : (s.modFifo n f).marks = s.marks := rfl
@[simp] theorem modFifo_snsHeld (s : State) (n : Nat) (f : FifoS → FifoS) : (s.modFifo n f).snsHeld = s.snsHeld := rfl
@[simp] theorem modFifo_sched (s : State) (n : Nat) (f : FifoS → FifoS) : (s.modFifo n f).sched = s.sched := rfl
@[simp] theorem modFifo_evtBuf (s : State) (n : Nat) (f : FifoS → FifoS) : (s.modFifo n f).evtBuf = s.evtBuf := rfl
@[simp] theorem modFifo_evtDrop (s : State) (n : Nat) (f : FifoS → FifoS) : (s.modFifo n f).evtDrop = s.evtDrop := rfl
@[simp] theorem modFifo_cmds (s : State) (n : Nat) (f : FifoS → FifoS) : (s.modFifo n f).cmds = s.cmds := rfl
@[simp] theorem modFifo_hdmaDone (s : State) (n : Nat) (f : FifoS → FifoS) : (s.modFifo n f).hdmaDone = s.hdmaDone := rfl
@[simp] theorem modFifo_nets (s : State) (n : Nat) (f : FifoS → FifoS) : (s.modFifo n f).nets = s.nets := rfl
@[simp] theorem modFifo_wheel (s : State) (n : Nat) (f : FifoS → FifoS) : (s.modFifo n f).wheel = s.wheel := rfl
@[simp] theorem modFifo_ingests (s : State) (n : Nat) (f : FifoS → FifoS) : (s.modFifo n f).ingests = s.ingests := rfl
@[simp] theorem modFifo_egresses (s : State) (n : Nat) (f : FifoS → FifoS) : (s.modFifo n f).egresses = s.egresses := rfl
@[simp] theorem modFifo_sacn (s : State) (n : Nat) (f : FifoS → FifoS) : (s.modFifo n f).sacn = s.sacn := rfl
@[simp] theorem modFifo_dmxs (s : State) (n : Nat) (f : FifoS → FifoS) : (s.modFifo n f).dmxs = s.dmxs := rfl
@[simp] theorem modFifo_scans (s : State) (n : Nat) (f : FifoS → FifoS) : (s.modFifo n f).scans = s.scans := rfl
@[simp] theorem modFifo_leds (s : State) (n : Nat) (f : FifoS → FifoS) : (s.modFifo n f).leds = s.leds := rfl
@[simp] theorem modFifo_sense (s : State) (n : Nat) (f : FifoS → FifoS) : (s.modFifo n f).sense = s.sense := rfl
@[simp] theorem modFifo_cal (s : State) (n : Nat) (f : FifoS → FifoS) : (s.modFifo n f).cal = s.cal := rfl
@[simp] theorem modFifo_cls (s : State) (n : Nat) (f : FifoS → FifoS) : (s.modFifo n f).cls = s.cls := rfl
@[simp] theorem modFifo_group (s : State) (n : Nat) (f : FifoS → FifoS) : (s.modFifo n f).group = s.group := rfl
@[simp] theorem modFifo_rxFrames (s : State) (n : Nat) (f : FifoS → FifoS) : (s.modFifo n f).rxFrames = s.rxFrames := rfl
@[simp] theorem modFifo_key (s : State) (n : Nat) (f : FifoS → FifoS) : (s.modFifo n f).key = s.key := rfl
@[simp] theorem modFifo_nvm (s : State) (n : Nat) (f : FifoS → FifoS) : (s.modFifo n f).nvm = s.nvm := rfl
@[simp] theorem modFifo_nvmPend (s : State) (n : Nat) (f : FifoS → FifoS) : (s.modFifo n f).nvmPend = s.nvmPend := rfl
@[simp] theorem modFifo_nvmMap (s : State) (n : Nat) (f : FifoS → FifoS) : (s.modFifo n f).nvmMap = s.nvmMap := rfl
@[simp] theorem modFifo_mainPower (s : State) (n : Nat) (f : FifoS → FifoS) : (s.modFifo n f).mainPower = s.mainPower := rfl
@[simp] theorem modFifo_avs (s : State) (n : Nat) (f : FifoS → FifoS) : (s.modFifo n f).avs = s.avs := rfl
@[simp] theorem modFifo_dtsOff (s : State) (n : Nat) (f : FifoS → FifoS) : (s.modFifo n f).dtsOff = s.dtsOff := rfl
@[simp] theorem modFifo_engTest (s : State) (n : Nat) (f : FifoS → FifoS) : (s.modFifo n f).engTest = s.engTest := rfl
@[simp] theorem modFifo_groom (s : State) (n : Nat) (f : FifoS → FifoS) : (s.modFifo n f).groom = s.groom := rfl

/-! `modNet` changes `nets` and nothing else. -/
@[simp] theorem modNet_pending (s : State) (p : Nat) (f : NetS → NetS) : (s.modNet p f).pending = s.pending := rfl
@[simp] theorem modNet_out (s : State) (p : Nat) (f : NetS → NetS) : (s.modNet p f).out = s.out := rfl
@[simp] theorem modNet_free (s : State) (p : Nat) (f : NetS → NetS) : (s.modNet p f).free = s.free := rfl
@[simp] theorem modNet_regs (s : State) (p : Nat) (f : NetS → NetS) : (s.modNet p f).regs = s.regs := rfl
@[simp] theorem modNet_inForce (s : State) (p : Nat) (f : NetS → NetS) : (s.modNet p f).inForce = s.inForce := rfl
@[simp] theorem modNet_snaps (s : State) (p : Nat) (f : NetS → NetS) : (s.modNet p f).snaps = s.snaps := rfl
@[simp] theorem modNet_heldLo (s : State) (p : Nat) (f : NetS → NetS) : (s.modNet p f).heldLo = s.heldLo := rfl
@[simp] theorem modNet_commits (s : State) (p : Nat) (f : NetS → NetS) : (s.modNet p f).commits = s.commits := rfl
@[simp] theorem modNet_recQ (s : State) (p : Nat) (f : NetS → NetS) : (s.modNet p f).recQ = s.recQ := rfl
@[simp] theorem modNet_host (s : State) (p : Nat) (f : NetS → NetS) : (s.modNet p f).host = s.host := rfl
@[simp] theorem modNet_time (s : State) (p : Nat) (f : NetS → NetS) : (s.modNet p f).time = s.time := rfl
@[simp] theorem modNet_trig (s : State) (p : Nat) (f : NetS → NetS) : (s.modNet p f).trig = s.trig := rfl
@[simp] theorem modNet_engs (s : State) (p : Nat) (f : NetS → NetS) : (s.modNet p f).engs = s.engs := rfl
@[simp] theorem modNet_plan (s : State) (p : Nat) (f : NetS → NetS) : (s.modNet p f).plan = s.plan := rfl
@[simp] theorem modNet_banks (s : State) (p : Nat) (f : NetS → NetS) : (s.modNet p f).banks = s.banks := rfl
@[simp] theorem modNet_bankMem (s : State) (p : Nat) (f : NetS → NetS) : (s.modNet p f).bankMem = s.bankMem := rfl
@[simp] theorem modNet_bankErr (s : State) (p : Nat) (f : NetS → NetS) : (s.modNet p f).bankErr = s.bankErr := rfl
@[simp] theorem modNet_bankBusy (s : State) (p : Nat) (f : NetS → NetS) : (s.modNet p f).bankBusy = s.bankBusy := rfl
@[simp] theorem modNet_dram (s : State) (p : Nat) (f : NetS → NetS) : (s.modNet p f).dram = s.dram := rfl
@[simp] theorem modNet_dramErr (s : State) (p : Nat) (f : NetS → NetS) : (s.modNet p f).dramErr = s.dramErr := rfl
@[simp] theorem modNet_marks (s : State) (p : Nat) (f : NetS → NetS) : (s.modNet p f).marks = s.marks := rfl
@[simp] theorem modNet_snsHeld (s : State) (p : Nat) (f : NetS → NetS) : (s.modNet p f).snsHeld = s.snsHeld := rfl
@[simp] theorem modNet_sched (s : State) (p : Nat) (f : NetS → NetS) : (s.modNet p f).sched = s.sched := rfl
@[simp] theorem modNet_fifos (s : State) (p : Nat) (f : NetS → NetS) : (s.modNet p f).fifos = s.fifos := rfl
@[simp] theorem modNet_evtBuf (s : State) (p : Nat) (f : NetS → NetS) : (s.modNet p f).evtBuf = s.evtBuf := rfl
@[simp] theorem modNet_evtDrop (s : State) (p : Nat) (f : NetS → NetS) : (s.modNet p f).evtDrop = s.evtDrop := rfl
@[simp] theorem modNet_cmds (s : State) (p : Nat) (f : NetS → NetS) : (s.modNet p f).cmds = s.cmds := rfl
@[simp] theorem modNet_hdmaDone (s : State) (p : Nat) (f : NetS → NetS) : (s.modNet p f).hdmaDone = s.hdmaDone := rfl
@[simp] theorem modNet_wheel (s : State) (p : Nat) (f : NetS → NetS) : (s.modNet p f).wheel = s.wheel := rfl
@[simp] theorem modNet_ingests (s : State) (p : Nat) (f : NetS → NetS) : (s.modNet p f).ingests = s.ingests := rfl
@[simp] theorem modNet_egresses (s : State) (p : Nat) (f : NetS → NetS) : (s.modNet p f).egresses = s.egresses := rfl
@[simp] theorem modNet_sacn (s : State) (p : Nat) (f : NetS → NetS) : (s.modNet p f).sacn = s.sacn := rfl
@[simp] theorem modNet_dmxs (s : State) (p : Nat) (f : NetS → NetS) : (s.modNet p f).dmxs = s.dmxs := rfl
@[simp] theorem modNet_scans (s : State) (p : Nat) (f : NetS → NetS) : (s.modNet p f).scans = s.scans := rfl
@[simp] theorem modNet_leds (s : State) (p : Nat) (f : NetS → NetS) : (s.modNet p f).leds = s.leds := rfl
@[simp] theorem modNet_sense (s : State) (p : Nat) (f : NetS → NetS) : (s.modNet p f).sense = s.sense := rfl
@[simp] theorem modNet_cal (s : State) (p : Nat) (f : NetS → NetS) : (s.modNet p f).cal = s.cal := rfl
@[simp] theorem modNet_cls (s : State) (p : Nat) (f : NetS → NetS) : (s.modNet p f).cls = s.cls := rfl
@[simp] theorem modNet_group (s : State) (p : Nat) (f : NetS → NetS) : (s.modNet p f).group = s.group := rfl
@[simp] theorem modNet_rxFrames (s : State) (p : Nat) (f : NetS → NetS) : (s.modNet p f).rxFrames = s.rxFrames := rfl
@[simp] theorem modNet_key (s : State) (p : Nat) (f : NetS → NetS) : (s.modNet p f).key = s.key := rfl
@[simp] theorem modNet_nvm (s : State) (p : Nat) (f : NetS → NetS) : (s.modNet p f).nvm = s.nvm := rfl
@[simp] theorem modNet_nvmPend (s : State) (p : Nat) (f : NetS → NetS) : (s.modNet p f).nvmPend = s.nvmPend := rfl
@[simp] theorem modNet_nvmMap (s : State) (p : Nat) (f : NetS → NetS) : (s.modNet p f).nvmMap = s.nvmMap := rfl
@[simp] theorem modNet_mainPower (s : State) (p : Nat) (f : NetS → NetS) : (s.modNet p f).mainPower = s.mainPower := rfl
@[simp] theorem modNet_avs (s : State) (p : Nat) (f : NetS → NetS) : (s.modNet p f).avs = s.avs := rfl
@[simp] theorem modNet_dtsOff (s : State) (p : Nat) (f : NetS → NetS) : (s.modNet p f).dtsOff = s.dtsOff := rfl
@[simp] theorem modNet_engTest (s : State) (p : Nat) (f : NetS → NetS) : (s.modNet p f).engTest = s.engTest := rfl
@[simp] theorem modNet_groom (s : State) (p : Nat) (f : NetS → NetS) : (s.modNet p f).groom = s.groom := rfl

/-! `modIngest` changes `ingests` and nothing else. -/
@[simp] theorem modIngest_pending (s : State) (n : Nat) (f : IngestS → IngestS) : (s.modIngest n f).pending = s.pending := rfl
@[simp] theorem modIngest_out (s : State) (n : Nat) (f : IngestS → IngestS) : (s.modIngest n f).out = s.out := rfl
@[simp] theorem modIngest_free (s : State) (n : Nat) (f : IngestS → IngestS) : (s.modIngest n f).free = s.free := rfl
@[simp] theorem modIngest_regs (s : State) (n : Nat) (f : IngestS → IngestS) : (s.modIngest n f).regs = s.regs := rfl
@[simp] theorem modIngest_inForce (s : State) (n : Nat) (f : IngestS → IngestS) : (s.modIngest n f).inForce = s.inForce := rfl
@[simp] theorem modIngest_snaps (s : State) (n : Nat) (f : IngestS → IngestS) : (s.modIngest n f).snaps = s.snaps := rfl
@[simp] theorem modIngest_heldLo (s : State) (n : Nat) (f : IngestS → IngestS) : (s.modIngest n f).heldLo = s.heldLo := rfl
@[simp] theorem modIngest_commits (s : State) (n : Nat) (f : IngestS → IngestS) : (s.modIngest n f).commits = s.commits := rfl
@[simp] theorem modIngest_recQ (s : State) (n : Nat) (f : IngestS → IngestS) : (s.modIngest n f).recQ = s.recQ := rfl
@[simp] theorem modIngest_host (s : State) (n : Nat) (f : IngestS → IngestS) : (s.modIngest n f).host = s.host := rfl
@[simp] theorem modIngest_time (s : State) (n : Nat) (f : IngestS → IngestS) : (s.modIngest n f).time = s.time := rfl
@[simp] theorem modIngest_trig (s : State) (n : Nat) (f : IngestS → IngestS) : (s.modIngest n f).trig = s.trig := rfl
@[simp] theorem modIngest_engs (s : State) (n : Nat) (f : IngestS → IngestS) : (s.modIngest n f).engs = s.engs := rfl
@[simp] theorem modIngest_plan (s : State) (n : Nat) (f : IngestS → IngestS) : (s.modIngest n f).plan = s.plan := rfl
@[simp] theorem modIngest_banks (s : State) (n : Nat) (f : IngestS → IngestS) : (s.modIngest n f).banks = s.banks := rfl
@[simp] theorem modIngest_bankMem (s : State) (n : Nat) (f : IngestS → IngestS) : (s.modIngest n f).bankMem = s.bankMem := rfl
@[simp] theorem modIngest_bankErr (s : State) (n : Nat) (f : IngestS → IngestS) : (s.modIngest n f).bankErr = s.bankErr := rfl
@[simp] theorem modIngest_bankBusy (s : State) (n : Nat) (f : IngestS → IngestS) : (s.modIngest n f).bankBusy = s.bankBusy := rfl
@[simp] theorem modIngest_dram (s : State) (n : Nat) (f : IngestS → IngestS) : (s.modIngest n f).dram = s.dram := rfl
@[simp] theorem modIngest_dramErr (s : State) (n : Nat) (f : IngestS → IngestS) : (s.modIngest n f).dramErr = s.dramErr := rfl
@[simp] theorem modIngest_marks (s : State) (n : Nat) (f : IngestS → IngestS) : (s.modIngest n f).marks = s.marks := rfl
@[simp] theorem modIngest_snsHeld (s : State) (n : Nat) (f : IngestS → IngestS) : (s.modIngest n f).snsHeld = s.snsHeld := rfl
@[simp] theorem modIngest_sched (s : State) (n : Nat) (f : IngestS → IngestS) : (s.modIngest n f).sched = s.sched := rfl
@[simp] theorem modIngest_fifos (s : State) (n : Nat) (f : IngestS → IngestS) : (s.modIngest n f).fifos = s.fifos := rfl
@[simp] theorem modIngest_evtBuf (s : State) (n : Nat) (f : IngestS → IngestS) : (s.modIngest n f).evtBuf = s.evtBuf := rfl
@[simp] theorem modIngest_evtDrop (s : State) (n : Nat) (f : IngestS → IngestS) : (s.modIngest n f).evtDrop = s.evtDrop := rfl
@[simp] theorem modIngest_cmds (s : State) (n : Nat) (f : IngestS → IngestS) : (s.modIngest n f).cmds = s.cmds := rfl
@[simp] theorem modIngest_hdmaDone (s : State) (n : Nat) (f : IngestS → IngestS) : (s.modIngest n f).hdmaDone = s.hdmaDone := rfl
@[simp] theorem modIngest_nets (s : State) (n : Nat) (f : IngestS → IngestS) : (s.modIngest n f).nets = s.nets := rfl
@[simp] theorem modIngest_wheel (s : State) (n : Nat) (f : IngestS → IngestS) : (s.modIngest n f).wheel = s.wheel := rfl
@[simp] theorem modIngest_egresses (s : State) (n : Nat) (f : IngestS → IngestS) : (s.modIngest n f).egresses = s.egresses := rfl
@[simp] theorem modIngest_sacn (s : State) (n : Nat) (f : IngestS → IngestS) : (s.modIngest n f).sacn = s.sacn := rfl
@[simp] theorem modIngest_dmxs (s : State) (n : Nat) (f : IngestS → IngestS) : (s.modIngest n f).dmxs = s.dmxs := rfl
@[simp] theorem modIngest_scans (s : State) (n : Nat) (f : IngestS → IngestS) : (s.modIngest n f).scans = s.scans := rfl
@[simp] theorem modIngest_leds (s : State) (n : Nat) (f : IngestS → IngestS) : (s.modIngest n f).leds = s.leds := rfl
@[simp] theorem modIngest_sense (s : State) (n : Nat) (f : IngestS → IngestS) : (s.modIngest n f).sense = s.sense := rfl
@[simp] theorem modIngest_cal (s : State) (n : Nat) (f : IngestS → IngestS) : (s.modIngest n f).cal = s.cal := rfl
@[simp] theorem modIngest_cls (s : State) (n : Nat) (f : IngestS → IngestS) : (s.modIngest n f).cls = s.cls := rfl
@[simp] theorem modIngest_group (s : State) (n : Nat) (f : IngestS → IngestS) : (s.modIngest n f).group = s.group := rfl
@[simp] theorem modIngest_rxFrames (s : State) (n : Nat) (f : IngestS → IngestS) : (s.modIngest n f).rxFrames = s.rxFrames := rfl
@[simp] theorem modIngest_key (s : State) (n : Nat) (f : IngestS → IngestS) : (s.modIngest n f).key = s.key := rfl
@[simp] theorem modIngest_nvm (s : State) (n : Nat) (f : IngestS → IngestS) : (s.modIngest n f).nvm = s.nvm := rfl
@[simp] theorem modIngest_nvmPend (s : State) (n : Nat) (f : IngestS → IngestS) : (s.modIngest n f).nvmPend = s.nvmPend := rfl
@[simp] theorem modIngest_nvmMap (s : State) (n : Nat) (f : IngestS → IngestS) : (s.modIngest n f).nvmMap = s.nvmMap := rfl
@[simp] theorem modIngest_mainPower (s : State) (n : Nat) (f : IngestS → IngestS) : (s.modIngest n f).mainPower = s.mainPower := rfl
@[simp] theorem modIngest_avs (s : State) (n : Nat) (f : IngestS → IngestS) : (s.modIngest n f).avs = s.avs := rfl
@[simp] theorem modIngest_dtsOff (s : State) (n : Nat) (f : IngestS → IngestS) : (s.modIngest n f).dtsOff = s.dtsOff := rfl
@[simp] theorem modIngest_engTest (s : State) (n : Nat) (f : IngestS → IngestS) : (s.modIngest n f).engTest = s.engTest := rfl
@[simp] theorem modIngest_groom (s : State) (n : Nat) (f : IngestS → IngestS) : (s.modIngest n f).groom = s.groom := rfl

/-! `setEgress` changes `egresses` and nothing else. -/
@[simp] theorem setEgress_pending (s : State) (n : Nat) (l : List EgressJob) : (s.setEgress n l).pending = s.pending := rfl
@[simp] theorem setEgress_out (s : State) (n : Nat) (l : List EgressJob) : (s.setEgress n l).out = s.out := rfl
@[simp] theorem setEgress_free (s : State) (n : Nat) (l : List EgressJob) : (s.setEgress n l).free = s.free := rfl
@[simp] theorem setEgress_regs (s : State) (n : Nat) (l : List EgressJob) : (s.setEgress n l).regs = s.regs := rfl
@[simp] theorem setEgress_inForce (s : State) (n : Nat) (l : List EgressJob) : (s.setEgress n l).inForce = s.inForce := rfl
@[simp] theorem setEgress_snaps (s : State) (n : Nat) (l : List EgressJob) : (s.setEgress n l).snaps = s.snaps := rfl
@[simp] theorem setEgress_heldLo (s : State) (n : Nat) (l : List EgressJob) : (s.setEgress n l).heldLo = s.heldLo := rfl
@[simp] theorem setEgress_commits (s : State) (n : Nat) (l : List EgressJob) : (s.setEgress n l).commits = s.commits := rfl
@[simp] theorem setEgress_recQ (s : State) (n : Nat) (l : List EgressJob) : (s.setEgress n l).recQ = s.recQ := rfl
@[simp] theorem setEgress_host (s : State) (n : Nat) (l : List EgressJob) : (s.setEgress n l).host = s.host := rfl
@[simp] theorem setEgress_time (s : State) (n : Nat) (l : List EgressJob) : (s.setEgress n l).time = s.time := rfl
@[simp] theorem setEgress_trig (s : State) (n : Nat) (l : List EgressJob) : (s.setEgress n l).trig = s.trig := rfl
@[simp] theorem setEgress_engs (s : State) (n : Nat) (l : List EgressJob) : (s.setEgress n l).engs = s.engs := rfl
@[simp] theorem setEgress_plan (s : State) (n : Nat) (l : List EgressJob) : (s.setEgress n l).plan = s.plan := rfl
@[simp] theorem setEgress_banks (s : State) (n : Nat) (l : List EgressJob) : (s.setEgress n l).banks = s.banks := rfl
@[simp] theorem setEgress_bankMem (s : State) (n : Nat) (l : List EgressJob) : (s.setEgress n l).bankMem = s.bankMem := rfl
@[simp] theorem setEgress_bankErr (s : State) (n : Nat) (l : List EgressJob) : (s.setEgress n l).bankErr = s.bankErr := rfl
@[simp] theorem setEgress_bankBusy (s : State) (n : Nat) (l : List EgressJob) : (s.setEgress n l).bankBusy = s.bankBusy := rfl
@[simp] theorem setEgress_dram (s : State) (n : Nat) (l : List EgressJob) : (s.setEgress n l).dram = s.dram := rfl
@[simp] theorem setEgress_dramErr (s : State) (n : Nat) (l : List EgressJob) : (s.setEgress n l).dramErr = s.dramErr := rfl
@[simp] theorem setEgress_marks (s : State) (n : Nat) (l : List EgressJob) : (s.setEgress n l).marks = s.marks := rfl
@[simp] theorem setEgress_snsHeld (s : State) (n : Nat) (l : List EgressJob) : (s.setEgress n l).snsHeld = s.snsHeld := rfl
@[simp] theorem setEgress_sched (s : State) (n : Nat) (l : List EgressJob) : (s.setEgress n l).sched = s.sched := rfl
@[simp] theorem setEgress_fifos (s : State) (n : Nat) (l : List EgressJob) : (s.setEgress n l).fifos = s.fifos := rfl
@[simp] theorem setEgress_evtBuf (s : State) (n : Nat) (l : List EgressJob) : (s.setEgress n l).evtBuf = s.evtBuf := rfl
@[simp] theorem setEgress_evtDrop (s : State) (n : Nat) (l : List EgressJob) : (s.setEgress n l).evtDrop = s.evtDrop := rfl
@[simp] theorem setEgress_cmds (s : State) (n : Nat) (l : List EgressJob) : (s.setEgress n l).cmds = s.cmds := rfl
@[simp] theorem setEgress_hdmaDone (s : State) (n : Nat) (l : List EgressJob) : (s.setEgress n l).hdmaDone = s.hdmaDone := rfl
@[simp] theorem setEgress_nets (s : State) (n : Nat) (l : List EgressJob) : (s.setEgress n l).nets = s.nets := rfl
@[simp] theorem setEgress_wheel (s : State) (n : Nat) (l : List EgressJob) : (s.setEgress n l).wheel = s.wheel := rfl
@[simp] theorem setEgress_ingests (s : State) (n : Nat) (l : List EgressJob) : (s.setEgress n l).ingests = s.ingests := rfl
@[simp] theorem setEgress_sacn (s : State) (n : Nat) (l : List EgressJob) : (s.setEgress n l).sacn = s.sacn := rfl
@[simp] theorem setEgress_dmxs (s : State) (n : Nat) (l : List EgressJob) : (s.setEgress n l).dmxs = s.dmxs := rfl
@[simp] theorem setEgress_scans (s : State) (n : Nat) (l : List EgressJob) : (s.setEgress n l).scans = s.scans := rfl
@[simp] theorem setEgress_leds (s : State) (n : Nat) (l : List EgressJob) : (s.setEgress n l).leds = s.leds := rfl
@[simp] theorem setEgress_sense (s : State) (n : Nat) (l : List EgressJob) : (s.setEgress n l).sense = s.sense := rfl
@[simp] theorem setEgress_cal (s : State) (n : Nat) (l : List EgressJob) : (s.setEgress n l).cal = s.cal := rfl
@[simp] theorem setEgress_cls (s : State) (n : Nat) (l : List EgressJob) : (s.setEgress n l).cls = s.cls := rfl
@[simp] theorem setEgress_group (s : State) (n : Nat) (l : List EgressJob) : (s.setEgress n l).group = s.group := rfl
@[simp] theorem setEgress_rxFrames (s : State) (n : Nat) (l : List EgressJob) : (s.setEgress n l).rxFrames = s.rxFrames := rfl
@[simp] theorem setEgress_key (s : State) (n : Nat) (l : List EgressJob) : (s.setEgress n l).key = s.key := rfl
@[simp] theorem setEgress_nvm (s : State) (n : Nat) (l : List EgressJob) : (s.setEgress n l).nvm = s.nvm := rfl
@[simp] theorem setEgress_nvmPend (s : State) (n : Nat) (l : List EgressJob) : (s.setEgress n l).nvmPend = s.nvmPend := rfl
@[simp] theorem setEgress_nvmMap (s : State) (n : Nat) (l : List EgressJob) : (s.setEgress n l).nvmMap = s.nvmMap := rfl
@[simp] theorem setEgress_mainPower (s : State) (n : Nat) (l : List EgressJob) : (s.setEgress n l).mainPower = s.mainPower := rfl
@[simp] theorem setEgress_avs (s : State) (n : Nat) (l : List EgressJob) : (s.setEgress n l).avs = s.avs := rfl
@[simp] theorem setEgress_dtsOff (s : State) (n : Nat) (l : List EgressJob) : (s.setEgress n l).dtsOff = s.dtsOff := rfl
@[simp] theorem setEgress_engTest (s : State) (n : Nat) (l : List EgressJob) : (s.setEgress n l).engTest = s.engTest := rfl
@[simp] theorem setEgress_groom (s : State) (n : Nat) (l : List EgressJob) : (s.setEgress n l).groom = s.groom := rfl

/-! `modSacn` changes `sacn` and nothing else. -/
@[simp] theorem modSacn_pending (s : State) (f : SacnS → SacnS) : (s.modSacn f).pending = s.pending := rfl
@[simp] theorem modSacn_out (s : State) (f : SacnS → SacnS) : (s.modSacn f).out = s.out := rfl
@[simp] theorem modSacn_free (s : State) (f : SacnS → SacnS) : (s.modSacn f).free = s.free := rfl
@[simp] theorem modSacn_regs (s : State) (f : SacnS → SacnS) : (s.modSacn f).regs = s.regs := rfl
@[simp] theorem modSacn_inForce (s : State) (f : SacnS → SacnS) : (s.modSacn f).inForce = s.inForce := rfl
@[simp] theorem modSacn_snaps (s : State) (f : SacnS → SacnS) : (s.modSacn f).snaps = s.snaps := rfl
@[simp] theorem modSacn_heldLo (s : State) (f : SacnS → SacnS) : (s.modSacn f).heldLo = s.heldLo := rfl
@[simp] theorem modSacn_commits (s : State) (f : SacnS → SacnS) : (s.modSacn f).commits = s.commits := rfl
@[simp] theorem modSacn_recQ (s : State) (f : SacnS → SacnS) : (s.modSacn f).recQ = s.recQ := rfl
@[simp] theorem modSacn_host (s : State) (f : SacnS → SacnS) : (s.modSacn f).host = s.host := rfl
@[simp] theorem modSacn_time (s : State) (f : SacnS → SacnS) : (s.modSacn f).time = s.time := rfl
@[simp] theorem modSacn_trig (s : State) (f : SacnS → SacnS) : (s.modSacn f).trig = s.trig := rfl
@[simp] theorem modSacn_engs (s : State) (f : SacnS → SacnS) : (s.modSacn f).engs = s.engs := rfl
@[simp] theorem modSacn_plan (s : State) (f : SacnS → SacnS) : (s.modSacn f).plan = s.plan := rfl
@[simp] theorem modSacn_banks (s : State) (f : SacnS → SacnS) : (s.modSacn f).banks = s.banks := rfl
@[simp] theorem modSacn_bankMem (s : State) (f : SacnS → SacnS) : (s.modSacn f).bankMem = s.bankMem := rfl
@[simp] theorem modSacn_bankErr (s : State) (f : SacnS → SacnS) : (s.modSacn f).bankErr = s.bankErr := rfl
@[simp] theorem modSacn_bankBusy (s : State) (f : SacnS → SacnS) : (s.modSacn f).bankBusy = s.bankBusy := rfl
@[simp] theorem modSacn_dram (s : State) (f : SacnS → SacnS) : (s.modSacn f).dram = s.dram := rfl
@[simp] theorem modSacn_dramErr (s : State) (f : SacnS → SacnS) : (s.modSacn f).dramErr = s.dramErr := rfl
@[simp] theorem modSacn_marks (s : State) (f : SacnS → SacnS) : (s.modSacn f).marks = s.marks := rfl
@[simp] theorem modSacn_snsHeld (s : State) (f : SacnS → SacnS) : (s.modSacn f).snsHeld = s.snsHeld := rfl
@[simp] theorem modSacn_sched (s : State) (f : SacnS → SacnS) : (s.modSacn f).sched = s.sched := rfl
@[simp] theorem modSacn_fifos (s : State) (f : SacnS → SacnS) : (s.modSacn f).fifos = s.fifos := rfl
@[simp] theorem modSacn_evtBuf (s : State) (f : SacnS → SacnS) : (s.modSacn f).evtBuf = s.evtBuf := rfl
@[simp] theorem modSacn_evtDrop (s : State) (f : SacnS → SacnS) : (s.modSacn f).evtDrop = s.evtDrop := rfl
@[simp] theorem modSacn_cmds (s : State) (f : SacnS → SacnS) : (s.modSacn f).cmds = s.cmds := rfl
@[simp] theorem modSacn_hdmaDone (s : State) (f : SacnS → SacnS) : (s.modSacn f).hdmaDone = s.hdmaDone := rfl
@[simp] theorem modSacn_nets (s : State) (f : SacnS → SacnS) : (s.modSacn f).nets = s.nets := rfl
@[simp] theorem modSacn_wheel (s : State) (f : SacnS → SacnS) : (s.modSacn f).wheel = s.wheel := rfl
@[simp] theorem modSacn_ingests (s : State) (f : SacnS → SacnS) : (s.modSacn f).ingests = s.ingests := rfl
@[simp] theorem modSacn_egresses (s : State) (f : SacnS → SacnS) : (s.modSacn f).egresses = s.egresses := rfl
@[simp] theorem modSacn_sacn (s : State) (f : SacnS → SacnS) : (s.modSacn f).sacn = f s.sacn := rfl
@[simp] theorem modSacn_dmxs (s : State) (f : SacnS → SacnS) : (s.modSacn f).dmxs = s.dmxs := rfl
@[simp] theorem modSacn_scans (s : State) (f : SacnS → SacnS) : (s.modSacn f).scans = s.scans := rfl
@[simp] theorem modSacn_leds (s : State) (f : SacnS → SacnS) : (s.modSacn f).leds = s.leds := rfl
@[simp] theorem modSacn_sense (s : State) (f : SacnS → SacnS) : (s.modSacn f).sense = s.sense := rfl
@[simp] theorem modSacn_cal (s : State) (f : SacnS → SacnS) : (s.modSacn f).cal = s.cal := rfl
@[simp] theorem modSacn_cls (s : State) (f : SacnS → SacnS) : (s.modSacn f).cls = s.cls := rfl
@[simp] theorem modSacn_group (s : State) (f : SacnS → SacnS) : (s.modSacn f).group = s.group := rfl
@[simp] theorem modSacn_rxFrames (s : State) (f : SacnS → SacnS) : (s.modSacn f).rxFrames = s.rxFrames := rfl
@[simp] theorem modSacn_key (s : State) (f : SacnS → SacnS) : (s.modSacn f).key = s.key := rfl
@[simp] theorem modSacn_nvm (s : State) (f : SacnS → SacnS) : (s.modSacn f).nvm = s.nvm := rfl
@[simp] theorem modSacn_nvmPend (s : State) (f : SacnS → SacnS) : (s.modSacn f).nvmPend = s.nvmPend := rfl
@[simp] theorem modSacn_nvmMap (s : State) (f : SacnS → SacnS) : (s.modSacn f).nvmMap = s.nvmMap := rfl
@[simp] theorem modSacn_mainPower (s : State) (f : SacnS → SacnS) : (s.modSacn f).mainPower = s.mainPower := rfl
@[simp] theorem modSacn_avs (s : State) (f : SacnS → SacnS) : (s.modSacn f).avs = s.avs := rfl
@[simp] theorem modSacn_dtsOff (s : State) (f : SacnS → SacnS) : (s.modSacn f).dtsOff = s.dtsOff := rfl
@[simp] theorem modSacn_engTest (s : State) (f : SacnS → SacnS) : (s.modSacn f).engTest = s.engTest := rfl
@[simp] theorem modSacn_groom (s : State) (f : SacnS → SacnS) : (s.modSacn f).groom = s.groom := rfl

/-! `modDmx` changes `dmxs` and nothing else. -/
@[simp] theorem modDmx_pending (s : State) (n : Nat) (f : DmxS → DmxS) : (s.modDmx n f).pending = s.pending := rfl
@[simp] theorem modDmx_out (s : State) (n : Nat) (f : DmxS → DmxS) : (s.modDmx n f).out = s.out := rfl
@[simp] theorem modDmx_free (s : State) (n : Nat) (f : DmxS → DmxS) : (s.modDmx n f).free = s.free := rfl
@[simp] theorem modDmx_regs (s : State) (n : Nat) (f : DmxS → DmxS) : (s.modDmx n f).regs = s.regs := rfl
@[simp] theorem modDmx_inForce (s : State) (n : Nat) (f : DmxS → DmxS) : (s.modDmx n f).inForce = s.inForce := rfl
@[simp] theorem modDmx_snaps (s : State) (n : Nat) (f : DmxS → DmxS) : (s.modDmx n f).snaps = s.snaps := rfl
@[simp] theorem modDmx_heldLo (s : State) (n : Nat) (f : DmxS → DmxS) : (s.modDmx n f).heldLo = s.heldLo := rfl
@[simp] theorem modDmx_commits (s : State) (n : Nat) (f : DmxS → DmxS) : (s.modDmx n f).commits = s.commits := rfl
@[simp] theorem modDmx_recQ (s : State) (n : Nat) (f : DmxS → DmxS) : (s.modDmx n f).recQ = s.recQ := rfl
@[simp] theorem modDmx_host (s : State) (n : Nat) (f : DmxS → DmxS) : (s.modDmx n f).host = s.host := rfl
@[simp] theorem modDmx_time (s : State) (n : Nat) (f : DmxS → DmxS) : (s.modDmx n f).time = s.time := rfl
@[simp] theorem modDmx_trig (s : State) (n : Nat) (f : DmxS → DmxS) : (s.modDmx n f).trig = s.trig := rfl
@[simp] theorem modDmx_engs (s : State) (n : Nat) (f : DmxS → DmxS) : (s.modDmx n f).engs = s.engs := rfl
@[simp] theorem modDmx_plan (s : State) (n : Nat) (f : DmxS → DmxS) : (s.modDmx n f).plan = s.plan := rfl
@[simp] theorem modDmx_banks (s : State) (n : Nat) (f : DmxS → DmxS) : (s.modDmx n f).banks = s.banks := rfl
@[simp] theorem modDmx_bankMem (s : State) (n : Nat) (f : DmxS → DmxS) : (s.modDmx n f).bankMem = s.bankMem := rfl
@[simp] theorem modDmx_bankErr (s : State) (n : Nat) (f : DmxS → DmxS) : (s.modDmx n f).bankErr = s.bankErr := rfl
@[simp] theorem modDmx_bankBusy (s : State) (n : Nat) (f : DmxS → DmxS) : (s.modDmx n f).bankBusy = s.bankBusy := rfl
@[simp] theorem modDmx_dram (s : State) (n : Nat) (f : DmxS → DmxS) : (s.modDmx n f).dram = s.dram := rfl
@[simp] theorem modDmx_dramErr (s : State) (n : Nat) (f : DmxS → DmxS) : (s.modDmx n f).dramErr = s.dramErr := rfl
@[simp] theorem modDmx_marks (s : State) (n : Nat) (f : DmxS → DmxS) : (s.modDmx n f).marks = s.marks := rfl
@[simp] theorem modDmx_snsHeld (s : State) (n : Nat) (f : DmxS → DmxS) : (s.modDmx n f).snsHeld = s.snsHeld := rfl
@[simp] theorem modDmx_sched (s : State) (n : Nat) (f : DmxS → DmxS) : (s.modDmx n f).sched = s.sched := rfl
@[simp] theorem modDmx_fifos (s : State) (n : Nat) (f : DmxS → DmxS) : (s.modDmx n f).fifos = s.fifos := rfl
@[simp] theorem modDmx_evtBuf (s : State) (n : Nat) (f : DmxS → DmxS) : (s.modDmx n f).evtBuf = s.evtBuf := rfl
@[simp] theorem modDmx_evtDrop (s : State) (n : Nat) (f : DmxS → DmxS) : (s.modDmx n f).evtDrop = s.evtDrop := rfl
@[simp] theorem modDmx_cmds (s : State) (n : Nat) (f : DmxS → DmxS) : (s.modDmx n f).cmds = s.cmds := rfl
@[simp] theorem modDmx_hdmaDone (s : State) (n : Nat) (f : DmxS → DmxS) : (s.modDmx n f).hdmaDone = s.hdmaDone := rfl
@[simp] theorem modDmx_nets (s : State) (n : Nat) (f : DmxS → DmxS) : (s.modDmx n f).nets = s.nets := rfl
@[simp] theorem modDmx_wheel (s : State) (n : Nat) (f : DmxS → DmxS) : (s.modDmx n f).wheel = s.wheel := rfl
@[simp] theorem modDmx_ingests (s : State) (n : Nat) (f : DmxS → DmxS) : (s.modDmx n f).ingests = s.ingests := rfl
@[simp] theorem modDmx_egresses (s : State) (n : Nat) (f : DmxS → DmxS) : (s.modDmx n f).egresses = s.egresses := rfl
@[simp] theorem modDmx_sacn (s : State) (n : Nat) (f : DmxS → DmxS) : (s.modDmx n f).sacn = s.sacn := rfl
@[simp] theorem modDmx_scans (s : State) (n : Nat) (f : DmxS → DmxS) : (s.modDmx n f).scans = s.scans := rfl
@[simp] theorem modDmx_leds (s : State) (n : Nat) (f : DmxS → DmxS) : (s.modDmx n f).leds = s.leds := rfl
@[simp] theorem modDmx_sense (s : State) (n : Nat) (f : DmxS → DmxS) : (s.modDmx n f).sense = s.sense := rfl
@[simp] theorem modDmx_cal (s : State) (n : Nat) (f : DmxS → DmxS) : (s.modDmx n f).cal = s.cal := rfl
@[simp] theorem modDmx_cls (s : State) (n : Nat) (f : DmxS → DmxS) : (s.modDmx n f).cls = s.cls := rfl
@[simp] theorem modDmx_group (s : State) (n : Nat) (f : DmxS → DmxS) : (s.modDmx n f).group = s.group := rfl
@[simp] theorem modDmx_rxFrames (s : State) (n : Nat) (f : DmxS → DmxS) : (s.modDmx n f).rxFrames = s.rxFrames := rfl
@[simp] theorem modDmx_key (s : State) (n : Nat) (f : DmxS → DmxS) : (s.modDmx n f).key = s.key := rfl
@[simp] theorem modDmx_nvm (s : State) (n : Nat) (f : DmxS → DmxS) : (s.modDmx n f).nvm = s.nvm := rfl
@[simp] theorem modDmx_nvmPend (s : State) (n : Nat) (f : DmxS → DmxS) : (s.modDmx n f).nvmPend = s.nvmPend := rfl
@[simp] theorem modDmx_nvmMap (s : State) (n : Nat) (f : DmxS → DmxS) : (s.modDmx n f).nvmMap = s.nvmMap := rfl
@[simp] theorem modDmx_mainPower (s : State) (n : Nat) (f : DmxS → DmxS) : (s.modDmx n f).mainPower = s.mainPower := rfl
@[simp] theorem modDmx_avs (s : State) (n : Nat) (f : DmxS → DmxS) : (s.modDmx n f).avs = s.avs := rfl
@[simp] theorem modDmx_dtsOff (s : State) (n : Nat) (f : DmxS → DmxS) : (s.modDmx n f).dtsOff = s.dtsOff := rfl
@[simp] theorem modDmx_engTest (s : State) (n : Nat) (f : DmxS → DmxS) : (s.modDmx n f).engTest = s.engTest := rfl
@[simp] theorem modDmx_groom (s : State) (n : Nat) (f : DmxS → DmxS) : (s.modDmx n f).groom = s.groom := rfl

/-! `modScan` changes `scans` and nothing else. -/
@[simp] theorem modScan_pending (s : State) (n : Nat) (f : ScanS → ScanS) : (s.modScan n f).pending = s.pending := rfl
@[simp] theorem modScan_out (s : State) (n : Nat) (f : ScanS → ScanS) : (s.modScan n f).out = s.out := rfl
@[simp] theorem modScan_free (s : State) (n : Nat) (f : ScanS → ScanS) : (s.modScan n f).free = s.free := rfl
@[simp] theorem modScan_regs (s : State) (n : Nat) (f : ScanS → ScanS) : (s.modScan n f).regs = s.regs := rfl
@[simp] theorem modScan_inForce (s : State) (n : Nat) (f : ScanS → ScanS) : (s.modScan n f).inForce = s.inForce := rfl
@[simp] theorem modScan_snaps (s : State) (n : Nat) (f : ScanS → ScanS) : (s.modScan n f).snaps = s.snaps := rfl
@[simp] theorem modScan_heldLo (s : State) (n : Nat) (f : ScanS → ScanS) : (s.modScan n f).heldLo = s.heldLo := rfl
@[simp] theorem modScan_commits (s : State) (n : Nat) (f : ScanS → ScanS) : (s.modScan n f).commits = s.commits := rfl
@[simp] theorem modScan_recQ (s : State) (n : Nat) (f : ScanS → ScanS) : (s.modScan n f).recQ = s.recQ := rfl
@[simp] theorem modScan_host (s : State) (n : Nat) (f : ScanS → ScanS) : (s.modScan n f).host = s.host := rfl
@[simp] theorem modScan_time (s : State) (n : Nat) (f : ScanS → ScanS) : (s.modScan n f).time = s.time := rfl
@[simp] theorem modScan_trig (s : State) (n : Nat) (f : ScanS → ScanS) : (s.modScan n f).trig = s.trig := rfl
@[simp] theorem modScan_engs (s : State) (n : Nat) (f : ScanS → ScanS) : (s.modScan n f).engs = s.engs := rfl
@[simp] theorem modScan_plan (s : State) (n : Nat) (f : ScanS → ScanS) : (s.modScan n f).plan = s.plan := rfl
@[simp] theorem modScan_banks (s : State) (n : Nat) (f : ScanS → ScanS) : (s.modScan n f).banks = s.banks := rfl
@[simp] theorem modScan_bankMem (s : State) (n : Nat) (f : ScanS → ScanS) : (s.modScan n f).bankMem = s.bankMem := rfl
@[simp] theorem modScan_bankErr (s : State) (n : Nat) (f : ScanS → ScanS) : (s.modScan n f).bankErr = s.bankErr := rfl
@[simp] theorem modScan_bankBusy (s : State) (n : Nat) (f : ScanS → ScanS) : (s.modScan n f).bankBusy = s.bankBusy := rfl
@[simp] theorem modScan_dram (s : State) (n : Nat) (f : ScanS → ScanS) : (s.modScan n f).dram = s.dram := rfl
@[simp] theorem modScan_dramErr (s : State) (n : Nat) (f : ScanS → ScanS) : (s.modScan n f).dramErr = s.dramErr := rfl
@[simp] theorem modScan_marks (s : State) (n : Nat) (f : ScanS → ScanS) : (s.modScan n f).marks = s.marks := rfl
@[simp] theorem modScan_snsHeld (s : State) (n : Nat) (f : ScanS → ScanS) : (s.modScan n f).snsHeld = s.snsHeld := rfl
@[simp] theorem modScan_sched (s : State) (n : Nat) (f : ScanS → ScanS) : (s.modScan n f).sched = s.sched := rfl
@[simp] theorem modScan_fifos (s : State) (n : Nat) (f : ScanS → ScanS) : (s.modScan n f).fifos = s.fifos := rfl
@[simp] theorem modScan_evtBuf (s : State) (n : Nat) (f : ScanS → ScanS) : (s.modScan n f).evtBuf = s.evtBuf := rfl
@[simp] theorem modScan_evtDrop (s : State) (n : Nat) (f : ScanS → ScanS) : (s.modScan n f).evtDrop = s.evtDrop := rfl
@[simp] theorem modScan_cmds (s : State) (n : Nat) (f : ScanS → ScanS) : (s.modScan n f).cmds = s.cmds := rfl
@[simp] theorem modScan_hdmaDone (s : State) (n : Nat) (f : ScanS → ScanS) : (s.modScan n f).hdmaDone = s.hdmaDone := rfl
@[simp] theorem modScan_nets (s : State) (n : Nat) (f : ScanS → ScanS) : (s.modScan n f).nets = s.nets := rfl
@[simp] theorem modScan_wheel (s : State) (n : Nat) (f : ScanS → ScanS) : (s.modScan n f).wheel = s.wheel := rfl
@[simp] theorem modScan_ingests (s : State) (n : Nat) (f : ScanS → ScanS) : (s.modScan n f).ingests = s.ingests := rfl
@[simp] theorem modScan_egresses (s : State) (n : Nat) (f : ScanS → ScanS) : (s.modScan n f).egresses = s.egresses := rfl
@[simp] theorem modScan_sacn (s : State) (n : Nat) (f : ScanS → ScanS) : (s.modScan n f).sacn = s.sacn := rfl
@[simp] theorem modScan_dmxs (s : State) (n : Nat) (f : ScanS → ScanS) : (s.modScan n f).dmxs = s.dmxs := rfl
@[simp] theorem modScan_leds (s : State) (n : Nat) (f : ScanS → ScanS) : (s.modScan n f).leds = s.leds := rfl
@[simp] theorem modScan_sense (s : State) (n : Nat) (f : ScanS → ScanS) : (s.modScan n f).sense = s.sense := rfl
@[simp] theorem modScan_cal (s : State) (n : Nat) (f : ScanS → ScanS) : (s.modScan n f).cal = s.cal := rfl
@[simp] theorem modScan_cls (s : State) (n : Nat) (f : ScanS → ScanS) : (s.modScan n f).cls = s.cls := rfl
@[simp] theorem modScan_group (s : State) (n : Nat) (f : ScanS → ScanS) : (s.modScan n f).group = s.group := rfl
@[simp] theorem modScan_rxFrames (s : State) (n : Nat) (f : ScanS → ScanS) : (s.modScan n f).rxFrames = s.rxFrames := rfl
@[simp] theorem modScan_key (s : State) (n : Nat) (f : ScanS → ScanS) : (s.modScan n f).key = s.key := rfl
@[simp] theorem modScan_nvm (s : State) (n : Nat) (f : ScanS → ScanS) : (s.modScan n f).nvm = s.nvm := rfl
@[simp] theorem modScan_nvmPend (s : State) (n : Nat) (f : ScanS → ScanS) : (s.modScan n f).nvmPend = s.nvmPend := rfl
@[simp] theorem modScan_nvmMap (s : State) (n : Nat) (f : ScanS → ScanS) : (s.modScan n f).nvmMap = s.nvmMap := rfl
@[simp] theorem modScan_mainPower (s : State) (n : Nat) (f : ScanS → ScanS) : (s.modScan n f).mainPower = s.mainPower := rfl
@[simp] theorem modScan_avs (s : State) (n : Nat) (f : ScanS → ScanS) : (s.modScan n f).avs = s.avs := rfl
@[simp] theorem modScan_dtsOff (s : State) (n : Nat) (f : ScanS → ScanS) : (s.modScan n f).dtsOff = s.dtsOff := rfl
@[simp] theorem modScan_engTest (s : State) (n : Nat) (f : ScanS → ScanS) : (s.modScan n f).engTest = s.engTest := rfl
@[simp] theorem modScan_groom (s : State) (n : Nat) (f : ScanS → ScanS) : (s.modScan n f).groom = s.groom := rfl

/-! `modLed` changes `leds` and nothing else. -/
@[simp] theorem modLed_pending (s : State) (n : Nat) (f : LedS → LedS) : (s.modLed n f).pending = s.pending := rfl
@[simp] theorem modLed_out (s : State) (n : Nat) (f : LedS → LedS) : (s.modLed n f).out = s.out := rfl
@[simp] theorem modLed_free (s : State) (n : Nat) (f : LedS → LedS) : (s.modLed n f).free = s.free := rfl
@[simp] theorem modLed_regs (s : State) (n : Nat) (f : LedS → LedS) : (s.modLed n f).regs = s.regs := rfl
@[simp] theorem modLed_inForce (s : State) (n : Nat) (f : LedS → LedS) : (s.modLed n f).inForce = s.inForce := rfl
@[simp] theorem modLed_snaps (s : State) (n : Nat) (f : LedS → LedS) : (s.modLed n f).snaps = s.snaps := rfl
@[simp] theorem modLed_heldLo (s : State) (n : Nat) (f : LedS → LedS) : (s.modLed n f).heldLo = s.heldLo := rfl
@[simp] theorem modLed_commits (s : State) (n : Nat) (f : LedS → LedS) : (s.modLed n f).commits = s.commits := rfl
@[simp] theorem modLed_recQ (s : State) (n : Nat) (f : LedS → LedS) : (s.modLed n f).recQ = s.recQ := rfl
@[simp] theorem modLed_host (s : State) (n : Nat) (f : LedS → LedS) : (s.modLed n f).host = s.host := rfl
@[simp] theorem modLed_time (s : State) (n : Nat) (f : LedS → LedS) : (s.modLed n f).time = s.time := rfl
@[simp] theorem modLed_trig (s : State) (n : Nat) (f : LedS → LedS) : (s.modLed n f).trig = s.trig := rfl
@[simp] theorem modLed_engs (s : State) (n : Nat) (f : LedS → LedS) : (s.modLed n f).engs = s.engs := rfl
@[simp] theorem modLed_plan (s : State) (n : Nat) (f : LedS → LedS) : (s.modLed n f).plan = s.plan := rfl
@[simp] theorem modLed_banks (s : State) (n : Nat) (f : LedS → LedS) : (s.modLed n f).banks = s.banks := rfl
@[simp] theorem modLed_bankMem (s : State) (n : Nat) (f : LedS → LedS) : (s.modLed n f).bankMem = s.bankMem := rfl
@[simp] theorem modLed_bankErr (s : State) (n : Nat) (f : LedS → LedS) : (s.modLed n f).bankErr = s.bankErr := rfl
@[simp] theorem modLed_bankBusy (s : State) (n : Nat) (f : LedS → LedS) : (s.modLed n f).bankBusy = s.bankBusy := rfl
@[simp] theorem modLed_dram (s : State) (n : Nat) (f : LedS → LedS) : (s.modLed n f).dram = s.dram := rfl
@[simp] theorem modLed_dramErr (s : State) (n : Nat) (f : LedS → LedS) : (s.modLed n f).dramErr = s.dramErr := rfl
@[simp] theorem modLed_marks (s : State) (n : Nat) (f : LedS → LedS) : (s.modLed n f).marks = s.marks := rfl
@[simp] theorem modLed_snsHeld (s : State) (n : Nat) (f : LedS → LedS) : (s.modLed n f).snsHeld = s.snsHeld := rfl
@[simp] theorem modLed_sched (s : State) (n : Nat) (f : LedS → LedS) : (s.modLed n f).sched = s.sched := rfl
@[simp] theorem modLed_fifos (s : State) (n : Nat) (f : LedS → LedS) : (s.modLed n f).fifos = s.fifos := rfl
@[simp] theorem modLed_evtBuf (s : State) (n : Nat) (f : LedS → LedS) : (s.modLed n f).evtBuf = s.evtBuf := rfl
@[simp] theorem modLed_evtDrop (s : State) (n : Nat) (f : LedS → LedS) : (s.modLed n f).evtDrop = s.evtDrop := rfl
@[simp] theorem modLed_cmds (s : State) (n : Nat) (f : LedS → LedS) : (s.modLed n f).cmds = s.cmds := rfl
@[simp] theorem modLed_hdmaDone (s : State) (n : Nat) (f : LedS → LedS) : (s.modLed n f).hdmaDone = s.hdmaDone := rfl
@[simp] theorem modLed_nets (s : State) (n : Nat) (f : LedS → LedS) : (s.modLed n f).nets = s.nets := rfl
@[simp] theorem modLed_wheel (s : State) (n : Nat) (f : LedS → LedS) : (s.modLed n f).wheel = s.wheel := rfl
@[simp] theorem modLed_ingests (s : State) (n : Nat) (f : LedS → LedS) : (s.modLed n f).ingests = s.ingests := rfl
@[simp] theorem modLed_egresses (s : State) (n : Nat) (f : LedS → LedS) : (s.modLed n f).egresses = s.egresses := rfl
@[simp] theorem modLed_sacn (s : State) (n : Nat) (f : LedS → LedS) : (s.modLed n f).sacn = s.sacn := rfl
@[simp] theorem modLed_dmxs (s : State) (n : Nat) (f : LedS → LedS) : (s.modLed n f).dmxs = s.dmxs := rfl
@[simp] theorem modLed_scans (s : State) (n : Nat) (f : LedS → LedS) : (s.modLed n f).scans = s.scans := rfl
@[simp] theorem modLed_sense (s : State) (n : Nat) (f : LedS → LedS) : (s.modLed n f).sense = s.sense := rfl
@[simp] theorem modLed_cal (s : State) (n : Nat) (f : LedS → LedS) : (s.modLed n f).cal = s.cal := rfl
@[simp] theorem modLed_cls (s : State) (n : Nat) (f : LedS → LedS) : (s.modLed n f).cls = s.cls := rfl
@[simp] theorem modLed_group (s : State) (n : Nat) (f : LedS → LedS) : (s.modLed n f).group = s.group := rfl
@[simp] theorem modLed_rxFrames (s : State) (n : Nat) (f : LedS → LedS) : (s.modLed n f).rxFrames = s.rxFrames := rfl
@[simp] theorem modLed_key (s : State) (n : Nat) (f : LedS → LedS) : (s.modLed n f).key = s.key := rfl
@[simp] theorem modLed_nvm (s : State) (n : Nat) (f : LedS → LedS) : (s.modLed n f).nvm = s.nvm := rfl
@[simp] theorem modLed_nvmPend (s : State) (n : Nat) (f : LedS → LedS) : (s.modLed n f).nvmPend = s.nvmPend := rfl
@[simp] theorem modLed_nvmMap (s : State) (n : Nat) (f : LedS → LedS) : (s.modLed n f).nvmMap = s.nvmMap := rfl
@[simp] theorem modLed_mainPower (s : State) (n : Nat) (f : LedS → LedS) : (s.modLed n f).mainPower = s.mainPower := rfl
@[simp] theorem modLed_avs (s : State) (n : Nat) (f : LedS → LedS) : (s.modLed n f).avs = s.avs := rfl
@[simp] theorem modLed_dtsOff (s : State) (n : Nat) (f : LedS → LedS) : (s.modLed n f).dtsOff = s.dtsOff := rfl
@[simp] theorem modLed_engTest (s : State) (n : Nat) (f : LedS → LedS) : (s.modLed n f).engTest = s.engTest := rfl
@[simp] theorem modLed_groom (s : State) (n : Nat) (f : LedS → LedS) : (s.modLed n f).groom = s.groom := rfl

/-! `modSense` changes `sense` and nothing else. -/
@[simp] theorem modSense_pending (s : State) (f : SenseS → SenseS) : (s.modSense f).pending = s.pending := rfl
@[simp] theorem modSense_out (s : State) (f : SenseS → SenseS) : (s.modSense f).out = s.out := rfl
@[simp] theorem modSense_free (s : State) (f : SenseS → SenseS) : (s.modSense f).free = s.free := rfl
@[simp] theorem modSense_regs (s : State) (f : SenseS → SenseS) : (s.modSense f).regs = s.regs := rfl
@[simp] theorem modSense_inForce (s : State) (f : SenseS → SenseS) : (s.modSense f).inForce = s.inForce := rfl
@[simp] theorem modSense_snaps (s : State) (f : SenseS → SenseS) : (s.modSense f).snaps = s.snaps := rfl
@[simp] theorem modSense_heldLo (s : State) (f : SenseS → SenseS) : (s.modSense f).heldLo = s.heldLo := rfl
@[simp] theorem modSense_commits (s : State) (f : SenseS → SenseS) : (s.modSense f).commits = s.commits := rfl
@[simp] theorem modSense_recQ (s : State) (f : SenseS → SenseS) : (s.modSense f).recQ = s.recQ := rfl
@[simp] theorem modSense_host (s : State) (f : SenseS → SenseS) : (s.modSense f).host = s.host := rfl
@[simp] theorem modSense_time (s : State) (f : SenseS → SenseS) : (s.modSense f).time = s.time := rfl
@[simp] theorem modSense_trig (s : State) (f : SenseS → SenseS) : (s.modSense f).trig = s.trig := rfl
@[simp] theorem modSense_engs (s : State) (f : SenseS → SenseS) : (s.modSense f).engs = s.engs := rfl
@[simp] theorem modSense_plan (s : State) (f : SenseS → SenseS) : (s.modSense f).plan = s.plan := rfl
@[simp] theorem modSense_banks (s : State) (f : SenseS → SenseS) : (s.modSense f).banks = s.banks := rfl
@[simp] theorem modSense_bankMem (s : State) (f : SenseS → SenseS) : (s.modSense f).bankMem = s.bankMem := rfl
@[simp] theorem modSense_bankErr (s : State) (f : SenseS → SenseS) : (s.modSense f).bankErr = s.bankErr := rfl
@[simp] theorem modSense_bankBusy (s : State) (f : SenseS → SenseS) : (s.modSense f).bankBusy = s.bankBusy := rfl
@[simp] theorem modSense_dram (s : State) (f : SenseS → SenseS) : (s.modSense f).dram = s.dram := rfl
@[simp] theorem modSense_dramErr (s : State) (f : SenseS → SenseS) : (s.modSense f).dramErr = s.dramErr := rfl
@[simp] theorem modSense_marks (s : State) (f : SenseS → SenseS) : (s.modSense f).marks = s.marks := rfl
@[simp] theorem modSense_snsHeld (s : State) (f : SenseS → SenseS) : (s.modSense f).snsHeld = s.snsHeld := rfl
@[simp] theorem modSense_sched (s : State) (f : SenseS → SenseS) : (s.modSense f).sched = s.sched := rfl
@[simp] theorem modSense_fifos (s : State) (f : SenseS → SenseS) : (s.modSense f).fifos = s.fifos := rfl
@[simp] theorem modSense_evtBuf (s : State) (f : SenseS → SenseS) : (s.modSense f).evtBuf = s.evtBuf := rfl
@[simp] theorem modSense_evtDrop (s : State) (f : SenseS → SenseS) : (s.modSense f).evtDrop = s.evtDrop := rfl
@[simp] theorem modSense_cmds (s : State) (f : SenseS → SenseS) : (s.modSense f).cmds = s.cmds := rfl
@[simp] theorem modSense_hdmaDone (s : State) (f : SenseS → SenseS) : (s.modSense f).hdmaDone = s.hdmaDone := rfl
@[simp] theorem modSense_nets (s : State) (f : SenseS → SenseS) : (s.modSense f).nets = s.nets := rfl
@[simp] theorem modSense_wheel (s : State) (f : SenseS → SenseS) : (s.modSense f).wheel = s.wheel := rfl
@[simp] theorem modSense_ingests (s : State) (f : SenseS → SenseS) : (s.modSense f).ingests = s.ingests := rfl
@[simp] theorem modSense_egresses (s : State) (f : SenseS → SenseS) : (s.modSense f).egresses = s.egresses := rfl
@[simp] theorem modSense_sacn (s : State) (f : SenseS → SenseS) : (s.modSense f).sacn = s.sacn := rfl
@[simp] theorem modSense_dmxs (s : State) (f : SenseS → SenseS) : (s.modSense f).dmxs = s.dmxs := rfl
@[simp] theorem modSense_scans (s : State) (f : SenseS → SenseS) : (s.modSense f).scans = s.scans := rfl
@[simp] theorem modSense_leds (s : State) (f : SenseS → SenseS) : (s.modSense f).leds = s.leds := rfl
@[simp] theorem modSense_sense (s : State) (f : SenseS → SenseS) : (s.modSense f).sense = f s.sense := rfl
@[simp] theorem modSense_cal (s : State) (f : SenseS → SenseS) : (s.modSense f).cal = s.cal := rfl
@[simp] theorem modSense_cls (s : State) (f : SenseS → SenseS) : (s.modSense f).cls = s.cls := rfl
@[simp] theorem modSense_group (s : State) (f : SenseS → SenseS) : (s.modSense f).group = s.group := rfl
@[simp] theorem modSense_rxFrames (s : State) (f : SenseS → SenseS) : (s.modSense f).rxFrames = s.rxFrames := rfl
@[simp] theorem modSense_key (s : State) (f : SenseS → SenseS) : (s.modSense f).key = s.key := rfl
@[simp] theorem modSense_nvm (s : State) (f : SenseS → SenseS) : (s.modSense f).nvm = s.nvm := rfl
@[simp] theorem modSense_nvmPend (s : State) (f : SenseS → SenseS) : (s.modSense f).nvmPend = s.nvmPend := rfl
@[simp] theorem modSense_nvmMap (s : State) (f : SenseS → SenseS) : (s.modSense f).nvmMap = s.nvmMap := rfl
@[simp] theorem modSense_mainPower (s : State) (f : SenseS → SenseS) : (s.modSense f).mainPower = s.mainPower := rfl
@[simp] theorem modSense_avs (s : State) (f : SenseS → SenseS) : (s.modSense f).avs = s.avs := rfl
@[simp] theorem modSense_dtsOff (s : State) (f : SenseS → SenseS) : (s.modSense f).dtsOff = s.dtsOff := rfl
@[simp] theorem modSense_engTest (s : State) (f : SenseS → SenseS) : (s.modSense f).engTest = s.engTest := rfl
@[simp] theorem modSense_groom (s : State) (f : SenseS → SenseS) : (s.modSense f).groom = s.groom := rfl

/-! `modCal` changes `cal` and nothing else. -/
@[simp] theorem modCal_pending (s : State) (f : CalS → CalS) : (s.modCal f).pending = s.pending := rfl
@[simp] theorem modCal_out (s : State) (f : CalS → CalS) : (s.modCal f).out = s.out := rfl
@[simp] theorem modCal_free (s : State) (f : CalS → CalS) : (s.modCal f).free = s.free := rfl
@[simp] theorem modCal_regs (s : State) (f : CalS → CalS) : (s.modCal f).regs = s.regs := rfl
@[simp] theorem modCal_inForce (s : State) (f : CalS → CalS) : (s.modCal f).inForce = s.inForce := rfl
@[simp] theorem modCal_snaps (s : State) (f : CalS → CalS) : (s.modCal f).snaps = s.snaps := rfl
@[simp] theorem modCal_heldLo (s : State) (f : CalS → CalS) : (s.modCal f).heldLo = s.heldLo := rfl
@[simp] theorem modCal_commits (s : State) (f : CalS → CalS) : (s.modCal f).commits = s.commits := rfl
@[simp] theorem modCal_recQ (s : State) (f : CalS → CalS) : (s.modCal f).recQ = s.recQ := rfl
@[simp] theorem modCal_host (s : State) (f : CalS → CalS) : (s.modCal f).host = s.host := rfl
@[simp] theorem modCal_time (s : State) (f : CalS → CalS) : (s.modCal f).time = s.time := rfl
@[simp] theorem modCal_trig (s : State) (f : CalS → CalS) : (s.modCal f).trig = s.trig := rfl
@[simp] theorem modCal_engs (s : State) (f : CalS → CalS) : (s.modCal f).engs = s.engs := rfl
@[simp] theorem modCal_plan (s : State) (f : CalS → CalS) : (s.modCal f).plan = s.plan := rfl
@[simp] theorem modCal_banks (s : State) (f : CalS → CalS) : (s.modCal f).banks = s.banks := rfl
@[simp] theorem modCal_bankMem (s : State) (f : CalS → CalS) : (s.modCal f).bankMem = s.bankMem := rfl
@[simp] theorem modCal_bankErr (s : State) (f : CalS → CalS) : (s.modCal f).bankErr = s.bankErr := rfl
@[simp] theorem modCal_bankBusy (s : State) (f : CalS → CalS) : (s.modCal f).bankBusy = s.bankBusy := rfl
@[simp] theorem modCal_dram (s : State) (f : CalS → CalS) : (s.modCal f).dram = s.dram := rfl
@[simp] theorem modCal_dramErr (s : State) (f : CalS → CalS) : (s.modCal f).dramErr = s.dramErr := rfl
@[simp] theorem modCal_marks (s : State) (f : CalS → CalS) : (s.modCal f).marks = s.marks := rfl
@[simp] theorem modCal_snsHeld (s : State) (f : CalS → CalS) : (s.modCal f).snsHeld = s.snsHeld := rfl
@[simp] theorem modCal_sched (s : State) (f : CalS → CalS) : (s.modCal f).sched = s.sched := rfl
@[simp] theorem modCal_fifos (s : State) (f : CalS → CalS) : (s.modCal f).fifos = s.fifos := rfl
@[simp] theorem modCal_evtBuf (s : State) (f : CalS → CalS) : (s.modCal f).evtBuf = s.evtBuf := rfl
@[simp] theorem modCal_evtDrop (s : State) (f : CalS → CalS) : (s.modCal f).evtDrop = s.evtDrop := rfl
@[simp] theorem modCal_cmds (s : State) (f : CalS → CalS) : (s.modCal f).cmds = s.cmds := rfl
@[simp] theorem modCal_hdmaDone (s : State) (f : CalS → CalS) : (s.modCal f).hdmaDone = s.hdmaDone := rfl
@[simp] theorem modCal_nets (s : State) (f : CalS → CalS) : (s.modCal f).nets = s.nets := rfl
@[simp] theorem modCal_wheel (s : State) (f : CalS → CalS) : (s.modCal f).wheel = s.wheel := rfl
@[simp] theorem modCal_ingests (s : State) (f : CalS → CalS) : (s.modCal f).ingests = s.ingests := rfl
@[simp] theorem modCal_egresses (s : State) (f : CalS → CalS) : (s.modCal f).egresses = s.egresses := rfl
@[simp] theorem modCal_sacn (s : State) (f : CalS → CalS) : (s.modCal f).sacn = s.sacn := rfl
@[simp] theorem modCal_dmxs (s : State) (f : CalS → CalS) : (s.modCal f).dmxs = s.dmxs := rfl
@[simp] theorem modCal_scans (s : State) (f : CalS → CalS) : (s.modCal f).scans = s.scans := rfl
@[simp] theorem modCal_leds (s : State) (f : CalS → CalS) : (s.modCal f).leds = s.leds := rfl
@[simp] theorem modCal_sense (s : State) (f : CalS → CalS) : (s.modCal f).sense = s.sense := rfl
@[simp] theorem modCal_cal (s : State) (f : CalS → CalS) : (s.modCal f).cal = f s.cal := rfl
@[simp] theorem modCal_cls (s : State) (f : CalS → CalS) : (s.modCal f).cls = s.cls := rfl
@[simp] theorem modCal_group (s : State) (f : CalS → CalS) : (s.modCal f).group = s.group := rfl
@[simp] theorem modCal_rxFrames (s : State) (f : CalS → CalS) : (s.modCal f).rxFrames = s.rxFrames := rfl
@[simp] theorem modCal_key (s : State) (f : CalS → CalS) : (s.modCal f).key = s.key := rfl
@[simp] theorem modCal_nvm (s : State) (f : CalS → CalS) : (s.modCal f).nvm = s.nvm := rfl
@[simp] theorem modCal_nvmPend (s : State) (f : CalS → CalS) : (s.modCal f).nvmPend = s.nvmPend := rfl
@[simp] theorem modCal_nvmMap (s : State) (f : CalS → CalS) : (s.modCal f).nvmMap = s.nvmMap := rfl
@[simp] theorem modCal_mainPower (s : State) (f : CalS → CalS) : (s.modCal f).mainPower = s.mainPower := rfl
@[simp] theorem modCal_avs (s : State) (f : CalS → CalS) : (s.modCal f).avs = s.avs := rfl
@[simp] theorem modCal_dtsOff (s : State) (f : CalS → CalS) : (s.modCal f).dtsOff = s.dtsOff := rfl
@[simp] theorem modCal_engTest (s : State) (f : CalS → CalS) : (s.modCal f).engTest = s.engTest := rfl
@[simp] theorem modCal_groom (s : State) (f : CalS → CalS) : (s.modCal f).groom = s.groom := rfl

/-! `modCl` changes `cls` and nothing else. -/
@[simp] theorem modCl_pending (s : State) (p : Nat) (f : ClS → ClS) : (s.modCl p f).pending = s.pending := rfl
@[simp] theorem modCl_out (s : State) (p : Nat) (f : ClS → ClS) : (s.modCl p f).out = s.out := rfl
@[simp] theorem modCl_free (s : State) (p : Nat) (f : ClS → ClS) : (s.modCl p f).free = s.free := rfl
@[simp] theorem modCl_regs (s : State) (p : Nat) (f : ClS → ClS) : (s.modCl p f).regs = s.regs := rfl
@[simp] theorem modCl_inForce (s : State) (p : Nat) (f : ClS → ClS) : (s.modCl p f).inForce = s.inForce := rfl
@[simp] theorem modCl_snaps (s : State) (p : Nat) (f : ClS → ClS) : (s.modCl p f).snaps = s.snaps := rfl
@[simp] theorem modCl_heldLo (s : State) (p : Nat) (f : ClS → ClS) : (s.modCl p f).heldLo = s.heldLo := rfl
@[simp] theorem modCl_commits (s : State) (p : Nat) (f : ClS → ClS) : (s.modCl p f).commits = s.commits := rfl
@[simp] theorem modCl_recQ (s : State) (p : Nat) (f : ClS → ClS) : (s.modCl p f).recQ = s.recQ := rfl
@[simp] theorem modCl_host (s : State) (p : Nat) (f : ClS → ClS) : (s.modCl p f).host = s.host := rfl
@[simp] theorem modCl_time (s : State) (p : Nat) (f : ClS → ClS) : (s.modCl p f).time = s.time := rfl
@[simp] theorem modCl_trig (s : State) (p : Nat) (f : ClS → ClS) : (s.modCl p f).trig = s.trig := rfl
@[simp] theorem modCl_engs (s : State) (p : Nat) (f : ClS → ClS) : (s.modCl p f).engs = s.engs := rfl
@[simp] theorem modCl_plan (s : State) (p : Nat) (f : ClS → ClS) : (s.modCl p f).plan = s.plan := rfl
@[simp] theorem modCl_banks (s : State) (p : Nat) (f : ClS → ClS) : (s.modCl p f).banks = s.banks := rfl
@[simp] theorem modCl_bankMem (s : State) (p : Nat) (f : ClS → ClS) : (s.modCl p f).bankMem = s.bankMem := rfl
@[simp] theorem modCl_bankErr (s : State) (p : Nat) (f : ClS → ClS) : (s.modCl p f).bankErr = s.bankErr := rfl
@[simp] theorem modCl_bankBusy (s : State) (p : Nat) (f : ClS → ClS) : (s.modCl p f).bankBusy = s.bankBusy := rfl
@[simp] theorem modCl_dram (s : State) (p : Nat) (f : ClS → ClS) : (s.modCl p f).dram = s.dram := rfl
@[simp] theorem modCl_dramErr (s : State) (p : Nat) (f : ClS → ClS) : (s.modCl p f).dramErr = s.dramErr := rfl
@[simp] theorem modCl_marks (s : State) (p : Nat) (f : ClS → ClS) : (s.modCl p f).marks = s.marks := rfl
@[simp] theorem modCl_snsHeld (s : State) (p : Nat) (f : ClS → ClS) : (s.modCl p f).snsHeld = s.snsHeld := rfl
@[simp] theorem modCl_sched (s : State) (p : Nat) (f : ClS → ClS) : (s.modCl p f).sched = s.sched := rfl
@[simp] theorem modCl_fifos (s : State) (p : Nat) (f : ClS → ClS) : (s.modCl p f).fifos = s.fifos := rfl
@[simp] theorem modCl_evtBuf (s : State) (p : Nat) (f : ClS → ClS) : (s.modCl p f).evtBuf = s.evtBuf := rfl
@[simp] theorem modCl_evtDrop (s : State) (p : Nat) (f : ClS → ClS) : (s.modCl p f).evtDrop = s.evtDrop := rfl
@[simp] theorem modCl_cmds (s : State) (p : Nat) (f : ClS → ClS) : (s.modCl p f).cmds = s.cmds := rfl
@[simp] theorem modCl_hdmaDone (s : State) (p : Nat) (f : ClS → ClS) : (s.modCl p f).hdmaDone = s.hdmaDone := rfl
@[simp] theorem modCl_nets (s : State) (p : Nat) (f : ClS → ClS) : (s.modCl p f).nets = s.nets := rfl
@[simp] theorem modCl_wheel (s : State) (p : Nat) (f : ClS → ClS) : (s.modCl p f).wheel = s.wheel := rfl
@[simp] theorem modCl_ingests (s : State) (p : Nat) (f : ClS → ClS) : (s.modCl p f).ingests = s.ingests := rfl
@[simp] theorem modCl_egresses (s : State) (p : Nat) (f : ClS → ClS) : (s.modCl p f).egresses = s.egresses := rfl
@[simp] theorem modCl_sacn (s : State) (p : Nat) (f : ClS → ClS) : (s.modCl p f).sacn = s.sacn := rfl
@[simp] theorem modCl_dmxs (s : State) (p : Nat) (f : ClS → ClS) : (s.modCl p f).dmxs = s.dmxs := rfl
@[simp] theorem modCl_scans (s : State) (p : Nat) (f : ClS → ClS) : (s.modCl p f).scans = s.scans := rfl
@[simp] theorem modCl_leds (s : State) (p : Nat) (f : ClS → ClS) : (s.modCl p f).leds = s.leds := rfl
@[simp] theorem modCl_sense (s : State) (p : Nat) (f : ClS → ClS) : (s.modCl p f).sense = s.sense := rfl
@[simp] theorem modCl_cal (s : State) (p : Nat) (f : ClS → ClS) : (s.modCl p f).cal = s.cal := rfl
@[simp] theorem modCl_group (s : State) (p : Nat) (f : ClS → ClS) : (s.modCl p f).group = s.group := rfl
@[simp] theorem modCl_rxFrames (s : State) (p : Nat) (f : ClS → ClS) : (s.modCl p f).rxFrames = s.rxFrames := rfl
@[simp] theorem modCl_key (s : State) (p : Nat) (f : ClS → ClS) : (s.modCl p f).key = s.key := rfl
@[simp] theorem modCl_nvm (s : State) (p : Nat) (f : ClS → ClS) : (s.modCl p f).nvm = s.nvm := rfl
@[simp] theorem modCl_nvmPend (s : State) (p : Nat) (f : ClS → ClS) : (s.modCl p f).nvmPend = s.nvmPend := rfl
@[simp] theorem modCl_nvmMap (s : State) (p : Nat) (f : ClS → ClS) : (s.modCl p f).nvmMap = s.nvmMap := rfl
@[simp] theorem modCl_mainPower (s : State) (p : Nat) (f : ClS → ClS) : (s.modCl p f).mainPower = s.mainPower := rfl
@[simp] theorem modCl_avs (s : State) (p : Nat) (f : ClS → ClS) : (s.modCl p f).avs = s.avs := rfl
@[simp] theorem modCl_dtsOff (s : State) (p : Nat) (f : ClS → ClS) : (s.modCl p f).dtsOff = s.dtsOff := rfl
@[simp] theorem modCl_engTest (s : State) (p : Nat) (f : ClS → ClS) : (s.modCl p f).engTest = s.engTest := rfl
@[simp] theorem modCl_groom (s : State) (p : Nat) (f : ClS → ClS) : (s.modCl p f).groom = s.groom := rfl

/-! `modGroup` changes `group` and nothing else. -/
@[simp] theorem modGroup_pending (s : State) (f : GroupS → GroupS) : (s.modGroup f).pending = s.pending := rfl
@[simp] theorem modGroup_out (s : State) (f : GroupS → GroupS) : (s.modGroup f).out = s.out := rfl
@[simp] theorem modGroup_free (s : State) (f : GroupS → GroupS) : (s.modGroup f).free = s.free := rfl
@[simp] theorem modGroup_regs (s : State) (f : GroupS → GroupS) : (s.modGroup f).regs = s.regs := rfl
@[simp] theorem modGroup_inForce (s : State) (f : GroupS → GroupS) : (s.modGroup f).inForce = s.inForce := rfl
@[simp] theorem modGroup_snaps (s : State) (f : GroupS → GroupS) : (s.modGroup f).snaps = s.snaps := rfl
@[simp] theorem modGroup_heldLo (s : State) (f : GroupS → GroupS) : (s.modGroup f).heldLo = s.heldLo := rfl
@[simp] theorem modGroup_commits (s : State) (f : GroupS → GroupS) : (s.modGroup f).commits = s.commits := rfl
@[simp] theorem modGroup_recQ (s : State) (f : GroupS → GroupS) : (s.modGroup f).recQ = s.recQ := rfl
@[simp] theorem modGroup_host (s : State) (f : GroupS → GroupS) : (s.modGroup f).host = s.host := rfl
@[simp] theorem modGroup_time (s : State) (f : GroupS → GroupS) : (s.modGroup f).time = s.time := rfl
@[simp] theorem modGroup_trig (s : State) (f : GroupS → GroupS) : (s.modGroup f).trig = s.trig := rfl
@[simp] theorem modGroup_engs (s : State) (f : GroupS → GroupS) : (s.modGroup f).engs = s.engs := rfl
@[simp] theorem modGroup_plan (s : State) (f : GroupS → GroupS) : (s.modGroup f).plan = s.plan := rfl
@[simp] theorem modGroup_banks (s : State) (f : GroupS → GroupS) : (s.modGroup f).banks = s.banks := rfl
@[simp] theorem modGroup_bankMem (s : State) (f : GroupS → GroupS) : (s.modGroup f).bankMem = s.bankMem := rfl
@[simp] theorem modGroup_bankErr (s : State) (f : GroupS → GroupS) : (s.modGroup f).bankErr = s.bankErr := rfl
@[simp] theorem modGroup_bankBusy (s : State) (f : GroupS → GroupS) : (s.modGroup f).bankBusy = s.bankBusy := rfl
@[simp] theorem modGroup_dram (s : State) (f : GroupS → GroupS) : (s.modGroup f).dram = s.dram := rfl
@[simp] theorem modGroup_dramErr (s : State) (f : GroupS → GroupS) : (s.modGroup f).dramErr = s.dramErr := rfl
@[simp] theorem modGroup_marks (s : State) (f : GroupS → GroupS) : (s.modGroup f).marks = s.marks := rfl
@[simp] theorem modGroup_snsHeld (s : State) (f : GroupS → GroupS) : (s.modGroup f).snsHeld = s.snsHeld := rfl
@[simp] theorem modGroup_sched (s : State) (f : GroupS → GroupS) : (s.modGroup f).sched = s.sched := rfl
@[simp] theorem modGroup_fifos (s : State) (f : GroupS → GroupS) : (s.modGroup f).fifos = s.fifos := rfl
@[simp] theorem modGroup_evtBuf (s : State) (f : GroupS → GroupS) : (s.modGroup f).evtBuf = s.evtBuf := rfl
@[simp] theorem modGroup_evtDrop (s : State) (f : GroupS → GroupS) : (s.modGroup f).evtDrop = s.evtDrop := rfl
@[simp] theorem modGroup_cmds (s : State) (f : GroupS → GroupS) : (s.modGroup f).cmds = s.cmds := rfl
@[simp] theorem modGroup_hdmaDone (s : State) (f : GroupS → GroupS) : (s.modGroup f).hdmaDone = s.hdmaDone := rfl
@[simp] theorem modGroup_nets (s : State) (f : GroupS → GroupS) : (s.modGroup f).nets = s.nets := rfl
@[simp] theorem modGroup_wheel (s : State) (f : GroupS → GroupS) : (s.modGroup f).wheel = s.wheel := rfl
@[simp] theorem modGroup_ingests (s : State) (f : GroupS → GroupS) : (s.modGroup f).ingests = s.ingests := rfl
@[simp] theorem modGroup_egresses (s : State) (f : GroupS → GroupS) : (s.modGroup f).egresses = s.egresses := rfl
@[simp] theorem modGroup_sacn (s : State) (f : GroupS → GroupS) : (s.modGroup f).sacn = s.sacn := rfl
@[simp] theorem modGroup_dmxs (s : State) (f : GroupS → GroupS) : (s.modGroup f).dmxs = s.dmxs := rfl
@[simp] theorem modGroup_scans (s : State) (f : GroupS → GroupS) : (s.modGroup f).scans = s.scans := rfl
@[simp] theorem modGroup_leds (s : State) (f : GroupS → GroupS) : (s.modGroup f).leds = s.leds := rfl
@[simp] theorem modGroup_sense (s : State) (f : GroupS → GroupS) : (s.modGroup f).sense = s.sense := rfl
@[simp] theorem modGroup_cal (s : State) (f : GroupS → GroupS) : (s.modGroup f).cal = s.cal := rfl
@[simp] theorem modGroup_cls (s : State) (f : GroupS → GroupS) : (s.modGroup f).cls = s.cls := rfl
@[simp] theorem modGroup_group (s : State) (f : GroupS → GroupS) : (s.modGroup f).group = f s.group := rfl
@[simp] theorem modGroup_rxFrames (s : State) (f : GroupS → GroupS) : (s.modGroup f).rxFrames = s.rxFrames := rfl
@[simp] theorem modGroup_key (s : State) (f : GroupS → GroupS) : (s.modGroup f).key = s.key := rfl
@[simp] theorem modGroup_nvm (s : State) (f : GroupS → GroupS) : (s.modGroup f).nvm = s.nvm := rfl
@[simp] theorem modGroup_nvmPend (s : State) (f : GroupS → GroupS) : (s.modGroup f).nvmPend = s.nvmPend := rfl
@[simp] theorem modGroup_nvmMap (s : State) (f : GroupS → GroupS) : (s.modGroup f).nvmMap = s.nvmMap := rfl
@[simp] theorem modGroup_mainPower (s : State) (f : GroupS → GroupS) : (s.modGroup f).mainPower = s.mainPower := rfl
@[simp] theorem modGroup_avs (s : State) (f : GroupS → GroupS) : (s.modGroup f).avs = s.avs := rfl
@[simp] theorem modGroup_dtsOff (s : State) (f : GroupS → GroupS) : (s.modGroup f).dtsOff = s.dtsOff := rfl
@[simp] theorem modGroup_engTest (s : State) (f : GroupS → GroupS) : (s.modGroup f).engTest = s.engTest := rfl
@[simp] theorem modGroup_groom (s : State) (f : GroupS → GroupS) : (s.modGroup f).groom = s.groom := rfl

/-! `modKey` changes `key` and nothing else. -/
@[simp] theorem modKey_pending (s : State) (f : KeyS → KeyS) : (s.modKey f).pending = s.pending := rfl
@[simp] theorem modKey_out (s : State) (f : KeyS → KeyS) : (s.modKey f).out = s.out := rfl
@[simp] theorem modKey_free (s : State) (f : KeyS → KeyS) : (s.modKey f).free = s.free := rfl
@[simp] theorem modKey_regs (s : State) (f : KeyS → KeyS) : (s.modKey f).regs = s.regs := rfl
@[simp] theorem modKey_inForce (s : State) (f : KeyS → KeyS) : (s.modKey f).inForce = s.inForce := rfl
@[simp] theorem modKey_snaps (s : State) (f : KeyS → KeyS) : (s.modKey f).snaps = s.snaps := rfl
@[simp] theorem modKey_heldLo (s : State) (f : KeyS → KeyS) : (s.modKey f).heldLo = s.heldLo := rfl
@[simp] theorem modKey_commits (s : State) (f : KeyS → KeyS) : (s.modKey f).commits = s.commits := rfl
@[simp] theorem modKey_recQ (s : State) (f : KeyS → KeyS) : (s.modKey f).recQ = s.recQ := rfl
@[simp] theorem modKey_host (s : State) (f : KeyS → KeyS) : (s.modKey f).host = s.host := rfl
@[simp] theorem modKey_time (s : State) (f : KeyS → KeyS) : (s.modKey f).time = s.time := rfl
@[simp] theorem modKey_trig (s : State) (f : KeyS → KeyS) : (s.modKey f).trig = s.trig := rfl
@[simp] theorem modKey_engs (s : State) (f : KeyS → KeyS) : (s.modKey f).engs = s.engs := rfl
@[simp] theorem modKey_plan (s : State) (f : KeyS → KeyS) : (s.modKey f).plan = s.plan := rfl
@[simp] theorem modKey_banks (s : State) (f : KeyS → KeyS) : (s.modKey f).banks = s.banks := rfl
@[simp] theorem modKey_bankMem (s : State) (f : KeyS → KeyS) : (s.modKey f).bankMem = s.bankMem := rfl
@[simp] theorem modKey_bankErr (s : State) (f : KeyS → KeyS) : (s.modKey f).bankErr = s.bankErr := rfl
@[simp] theorem modKey_bankBusy (s : State) (f : KeyS → KeyS) : (s.modKey f).bankBusy = s.bankBusy := rfl
@[simp] theorem modKey_dram (s : State) (f : KeyS → KeyS) : (s.modKey f).dram = s.dram := rfl
@[simp] theorem modKey_dramErr (s : State) (f : KeyS → KeyS) : (s.modKey f).dramErr = s.dramErr := rfl
@[simp] theorem modKey_marks (s : State) (f : KeyS → KeyS) : (s.modKey f).marks = s.marks := rfl
@[simp] theorem modKey_snsHeld (s : State) (f : KeyS → KeyS) : (s.modKey f).snsHeld = s.snsHeld := rfl
@[simp] theorem modKey_sched (s : State) (f : KeyS → KeyS) : (s.modKey f).sched = s.sched := rfl
@[simp] theorem modKey_fifos (s : State) (f : KeyS → KeyS) : (s.modKey f).fifos = s.fifos := rfl
@[simp] theorem modKey_evtBuf (s : State) (f : KeyS → KeyS) : (s.modKey f).evtBuf = s.evtBuf := rfl
@[simp] theorem modKey_evtDrop (s : State) (f : KeyS → KeyS) : (s.modKey f).evtDrop = s.evtDrop := rfl
@[simp] theorem modKey_cmds (s : State) (f : KeyS → KeyS) : (s.modKey f).cmds = s.cmds := rfl
@[simp] theorem modKey_hdmaDone (s : State) (f : KeyS → KeyS) : (s.modKey f).hdmaDone = s.hdmaDone := rfl
@[simp] theorem modKey_nets (s : State) (f : KeyS → KeyS) : (s.modKey f).nets = s.nets := rfl
@[simp] theorem modKey_wheel (s : State) (f : KeyS → KeyS) : (s.modKey f).wheel = s.wheel := rfl
@[simp] theorem modKey_ingests (s : State) (f : KeyS → KeyS) : (s.modKey f).ingests = s.ingests := rfl
@[simp] theorem modKey_egresses (s : State) (f : KeyS → KeyS) : (s.modKey f).egresses = s.egresses := rfl
@[simp] theorem modKey_sacn (s : State) (f : KeyS → KeyS) : (s.modKey f).sacn = s.sacn := rfl
@[simp] theorem modKey_dmxs (s : State) (f : KeyS → KeyS) : (s.modKey f).dmxs = s.dmxs := rfl
@[simp] theorem modKey_scans (s : State) (f : KeyS → KeyS) : (s.modKey f).scans = s.scans := rfl
@[simp] theorem modKey_leds (s : State) (f : KeyS → KeyS) : (s.modKey f).leds = s.leds := rfl
@[simp] theorem modKey_sense (s : State) (f : KeyS → KeyS) : (s.modKey f).sense = s.sense := rfl
@[simp] theorem modKey_cal (s : State) (f : KeyS → KeyS) : (s.modKey f).cal = s.cal := rfl
@[simp] theorem modKey_cls (s : State) (f : KeyS → KeyS) : (s.modKey f).cls = s.cls := rfl
@[simp] theorem modKey_group (s : State) (f : KeyS → KeyS) : (s.modKey f).group = s.group := rfl
@[simp] theorem modKey_rxFrames (s : State) (f : KeyS → KeyS) : (s.modKey f).rxFrames = s.rxFrames := rfl
@[simp] theorem modKey_key (s : State) (f : KeyS → KeyS) : (s.modKey f).key = f s.key := rfl
@[simp] theorem modKey_nvm (s : State) (f : KeyS → KeyS) : (s.modKey f).nvm = s.nvm := rfl
@[simp] theorem modKey_nvmPend (s : State) (f : KeyS → KeyS) : (s.modKey f).nvmPend = s.nvmPend := rfl
@[simp] theorem modKey_nvmMap (s : State) (f : KeyS → KeyS) : (s.modKey f).nvmMap = s.nvmMap := rfl
@[simp] theorem modKey_mainPower (s : State) (f : KeyS → KeyS) : (s.modKey f).mainPower = s.mainPower := rfl
@[simp] theorem modKey_avs (s : State) (f : KeyS → KeyS) : (s.modKey f).avs = s.avs := rfl
@[simp] theorem modKey_dtsOff (s : State) (f : KeyS → KeyS) : (s.modKey f).dtsOff = s.dtsOff := rfl
@[simp] theorem modKey_engTest (s : State) (f : KeyS → KeyS) : (s.modKey f).engTest = s.engTest := rfl
@[simp] theorem modKey_groom (s : State) (f : KeyS → KeyS) : (s.modKey f).groom = s.groom := rfl

/-! `modAvs` changes `avs` and nothing else. -/
@[simp] theorem modAvs_pending (s : State) (f : AvsS → AvsS) : (s.modAvs f).pending = s.pending := rfl
@[simp] theorem modAvs_out (s : State) (f : AvsS → AvsS) : (s.modAvs f).out = s.out := rfl
@[simp] theorem modAvs_free (s : State) (f : AvsS → AvsS) : (s.modAvs f).free = s.free := rfl
@[simp] theorem modAvs_regs (s : State) (f : AvsS → AvsS) : (s.modAvs f).regs = s.regs := rfl
@[simp] theorem modAvs_inForce (s : State) (f : AvsS → AvsS) : (s.modAvs f).inForce = s.inForce := rfl
@[simp] theorem modAvs_snaps (s : State) (f : AvsS → AvsS) : (s.modAvs f).snaps = s.snaps := rfl
@[simp] theorem modAvs_heldLo (s : State) (f : AvsS → AvsS) : (s.modAvs f).heldLo = s.heldLo := rfl
@[simp] theorem modAvs_commits (s : State) (f : AvsS → AvsS) : (s.modAvs f).commits = s.commits := rfl
@[simp] theorem modAvs_recQ (s : State) (f : AvsS → AvsS) : (s.modAvs f).recQ = s.recQ := rfl
@[simp] theorem modAvs_host (s : State) (f : AvsS → AvsS) : (s.modAvs f).host = s.host := rfl
@[simp] theorem modAvs_time (s : State) (f : AvsS → AvsS) : (s.modAvs f).time = s.time := rfl
@[simp] theorem modAvs_trig (s : State) (f : AvsS → AvsS) : (s.modAvs f).trig = s.trig := rfl
@[simp] theorem modAvs_engs (s : State) (f : AvsS → AvsS) : (s.modAvs f).engs = s.engs := rfl
@[simp] theorem modAvs_plan (s : State) (f : AvsS → AvsS) : (s.modAvs f).plan = s.plan := rfl
@[simp] theorem modAvs_banks (s : State) (f : AvsS → AvsS) : (s.modAvs f).banks = s.banks := rfl
@[simp] theorem modAvs_bankMem (s : State) (f : AvsS → AvsS) : (s.modAvs f).bankMem = s.bankMem := rfl
@[simp] theorem modAvs_bankErr (s : State) (f : AvsS → AvsS) : (s.modAvs f).bankErr = s.bankErr := rfl
@[simp] theorem modAvs_bankBusy (s : State) (f : AvsS → AvsS) : (s.modAvs f).bankBusy = s.bankBusy := rfl
@[simp] theorem modAvs_dram (s : State) (f : AvsS → AvsS) : (s.modAvs f).dram = s.dram := rfl
@[simp] theorem modAvs_dramErr (s : State) (f : AvsS → AvsS) : (s.modAvs f).dramErr = s.dramErr := rfl
@[simp] theorem modAvs_marks (s : State) (f : AvsS → AvsS) : (s.modAvs f).marks = s.marks := rfl
@[simp] theorem modAvs_snsHeld (s : State) (f : AvsS → AvsS) : (s.modAvs f).snsHeld = s.snsHeld := rfl
@[simp] theorem modAvs_sched (s : State) (f : AvsS → AvsS) : (s.modAvs f).sched = s.sched := rfl
@[simp] theorem modAvs_fifos (s : State) (f : AvsS → AvsS) : (s.modAvs f).fifos = s.fifos := rfl
@[simp] theorem modAvs_evtBuf (s : State) (f : AvsS → AvsS) : (s.modAvs f).evtBuf = s.evtBuf := rfl
@[simp] theorem modAvs_evtDrop (s : State) (f : AvsS → AvsS) : (s.modAvs f).evtDrop = s.evtDrop := rfl
@[simp] theorem modAvs_cmds (s : State) (f : AvsS → AvsS) : (s.modAvs f).cmds = s.cmds := rfl
@[simp] theorem modAvs_hdmaDone (s : State) (f : AvsS → AvsS) : (s.modAvs f).hdmaDone = s.hdmaDone := rfl
@[simp] theorem modAvs_nets (s : State) (f : AvsS → AvsS) : (s.modAvs f).nets = s.nets := rfl
@[simp] theorem modAvs_wheel (s : State) (f : AvsS → AvsS) : (s.modAvs f).wheel = s.wheel := rfl
@[simp] theorem modAvs_ingests (s : State) (f : AvsS → AvsS) : (s.modAvs f).ingests = s.ingests := rfl
@[simp] theorem modAvs_egresses (s : State) (f : AvsS → AvsS) : (s.modAvs f).egresses = s.egresses := rfl
@[simp] theorem modAvs_sacn (s : State) (f : AvsS → AvsS) : (s.modAvs f).sacn = s.sacn := rfl
@[simp] theorem modAvs_dmxs (s : State) (f : AvsS → AvsS) : (s.modAvs f).dmxs = s.dmxs := rfl
@[simp] theorem modAvs_scans (s : State) (f : AvsS → AvsS) : (s.modAvs f).scans = s.scans := rfl
@[simp] theorem modAvs_leds (s : State) (f : AvsS → AvsS) : (s.modAvs f).leds = s.leds := rfl
@[simp] theorem modAvs_sense (s : State) (f : AvsS → AvsS) : (s.modAvs f).sense = s.sense := rfl
@[simp] theorem modAvs_cal (s : State) (f : AvsS → AvsS) : (s.modAvs f).cal = s.cal := rfl
@[simp] theorem modAvs_cls (s : State) (f : AvsS → AvsS) : (s.modAvs f).cls = s.cls := rfl
@[simp] theorem modAvs_group (s : State) (f : AvsS → AvsS) : (s.modAvs f).group = s.group := rfl
@[simp] theorem modAvs_rxFrames (s : State) (f : AvsS → AvsS) : (s.modAvs f).rxFrames = s.rxFrames := rfl
@[simp] theorem modAvs_key (s : State) (f : AvsS → AvsS) : (s.modAvs f).key = s.key := rfl
@[simp] theorem modAvs_nvm (s : State) (f : AvsS → AvsS) : (s.modAvs f).nvm = s.nvm := rfl
@[simp] theorem modAvs_nvmPend (s : State) (f : AvsS → AvsS) : (s.modAvs f).nvmPend = s.nvmPend := rfl
@[simp] theorem modAvs_nvmMap (s : State) (f : AvsS → AvsS) : (s.modAvs f).nvmMap = s.nvmMap := rfl
@[simp] theorem modAvs_mainPower (s : State) (f : AvsS → AvsS) : (s.modAvs f).mainPower = s.mainPower := rfl
@[simp] theorem modAvs_avs (s : State) (f : AvsS → AvsS) : (s.modAvs f).avs = f s.avs := rfl
@[simp] theorem modAvs_dtsOff (s : State) (f : AvsS → AvsS) : (s.modAvs f).dtsOff = s.dtsOff := rfl
@[simp] theorem modAvs_engTest (s : State) (f : AvsS → AvsS) : (s.modAvs f).engTest = s.engTest := rfl
@[simp] theorem modAvs_groom (s : State) (f : AvsS → AvsS) : (s.modAvs f).groom = s.groom := rfl

/-! `modGroom` changes `groom` and nothing else. -/
@[simp] theorem modGroom_pending (s : State) (f : GroomS → GroomS) : (s.modGroom f).pending = s.pending := rfl
@[simp] theorem modGroom_out (s : State) (f : GroomS → GroomS) : (s.modGroom f).out = s.out := rfl
@[simp] theorem modGroom_free (s : State) (f : GroomS → GroomS) : (s.modGroom f).free = s.free := rfl
@[simp] theorem modGroom_regs (s : State) (f : GroomS → GroomS) : (s.modGroom f).regs = s.regs := rfl
@[simp] theorem modGroom_inForce (s : State) (f : GroomS → GroomS) : (s.modGroom f).inForce = s.inForce := rfl
@[simp] theorem modGroom_snaps (s : State) (f : GroomS → GroomS) : (s.modGroom f).snaps = s.snaps := rfl
@[simp] theorem modGroom_heldLo (s : State) (f : GroomS → GroomS) : (s.modGroom f).heldLo = s.heldLo := rfl
@[simp] theorem modGroom_commits (s : State) (f : GroomS → GroomS) : (s.modGroom f).commits = s.commits := rfl
@[simp] theorem modGroom_recQ (s : State) (f : GroomS → GroomS) : (s.modGroom f).recQ = s.recQ := rfl
@[simp] theorem modGroom_host (s : State) (f : GroomS → GroomS) : (s.modGroom f).host = s.host := rfl
@[simp] theorem modGroom_time (s : State) (f : GroomS → GroomS) : (s.modGroom f).time = s.time := rfl
@[simp] theorem modGroom_trig (s : State) (f : GroomS → GroomS) : (s.modGroom f).trig = s.trig := rfl
@[simp] theorem modGroom_engs (s : State) (f : GroomS → GroomS) : (s.modGroom f).engs = s.engs := rfl
@[simp] theorem modGroom_plan (s : State) (f : GroomS → GroomS) : (s.modGroom f).plan = s.plan := rfl
@[simp] theorem modGroom_banks (s : State) (f : GroomS → GroomS) : (s.modGroom f).banks = s.banks := rfl
@[simp] theorem modGroom_bankMem (s : State) (f : GroomS → GroomS) : (s.modGroom f).bankMem = s.bankMem := rfl
@[simp] theorem modGroom_bankErr (s : State) (f : GroomS → GroomS) : (s.modGroom f).bankErr = s.bankErr := rfl
@[simp] theorem modGroom_bankBusy (s : State) (f : GroomS → GroomS) : (s.modGroom f).bankBusy = s.bankBusy := rfl
@[simp] theorem modGroom_dram (s : State) (f : GroomS → GroomS) : (s.modGroom f).dram = s.dram := rfl
@[simp] theorem modGroom_dramErr (s : State) (f : GroomS → GroomS) : (s.modGroom f).dramErr = s.dramErr := rfl
@[simp] theorem modGroom_marks (s : State) (f : GroomS → GroomS) : (s.modGroom f).marks = s.marks := rfl
@[simp] theorem modGroom_snsHeld (s : State) (f : GroomS → GroomS) : (s.modGroom f).snsHeld = s.snsHeld := rfl
@[simp] theorem modGroom_sched (s : State) (f : GroomS → GroomS) : (s.modGroom f).sched = s.sched := rfl
@[simp] theorem modGroom_fifos (s : State) (f : GroomS → GroomS) : (s.modGroom f).fifos = s.fifos := rfl
@[simp] theorem modGroom_evtBuf (s : State) (f : GroomS → GroomS) : (s.modGroom f).evtBuf = s.evtBuf := rfl
@[simp] theorem modGroom_evtDrop (s : State) (f : GroomS → GroomS) : (s.modGroom f).evtDrop = s.evtDrop := rfl
@[simp] theorem modGroom_cmds (s : State) (f : GroomS → GroomS) : (s.modGroom f).cmds = s.cmds := rfl
@[simp] theorem modGroom_hdmaDone (s : State) (f : GroomS → GroomS) : (s.modGroom f).hdmaDone = s.hdmaDone := rfl
@[simp] theorem modGroom_nets (s : State) (f : GroomS → GroomS) : (s.modGroom f).nets = s.nets := rfl
@[simp] theorem modGroom_wheel (s : State) (f : GroomS → GroomS) : (s.modGroom f).wheel = s.wheel := rfl
@[simp] theorem modGroom_ingests (s : State) (f : GroomS → GroomS) : (s.modGroom f).ingests = s.ingests := rfl
@[simp] theorem modGroom_egresses (s : State) (f : GroomS → GroomS) : (s.modGroom f).egresses = s.egresses := rfl
@[simp] theorem modGroom_sacn (s : State) (f : GroomS → GroomS) : (s.modGroom f).sacn = s.sacn := rfl
@[simp] theorem modGroom_dmxs (s : State) (f : GroomS → GroomS) : (s.modGroom f).dmxs = s.dmxs := rfl
@[simp] theorem modGroom_scans (s : State) (f : GroomS → GroomS) : (s.modGroom f).scans = s.scans := rfl
@[simp] theorem modGroom_leds (s : State) (f : GroomS → GroomS) : (s.modGroom f).leds = s.leds := rfl
@[simp] theorem modGroom_sense (s : State) (f : GroomS → GroomS) : (s.modGroom f).sense = s.sense := rfl
@[simp] theorem modGroom_cal (s : State) (f : GroomS → GroomS) : (s.modGroom f).cal = s.cal := rfl
@[simp] theorem modGroom_cls (s : State) (f : GroomS → GroomS) : (s.modGroom f).cls = s.cls := rfl
@[simp] theorem modGroom_group (s : State) (f : GroomS → GroomS) : (s.modGroom f).group = s.group := rfl
@[simp] theorem modGroom_rxFrames (s : State) (f : GroomS → GroomS) : (s.modGroom f).rxFrames = s.rxFrames := rfl
@[simp] theorem modGroom_key (s : State) (f : GroomS → GroomS) : (s.modGroom f).key = s.key := rfl
@[simp] theorem modGroom_nvm (s : State) (f : GroomS → GroomS) : (s.modGroom f).nvm = s.nvm := rfl
@[simp] theorem modGroom_nvmPend (s : State) (f : GroomS → GroomS) : (s.modGroom f).nvmPend = s.nvmPend := rfl
@[simp] theorem modGroom_nvmMap (s : State) (f : GroomS → GroomS) : (s.modGroom f).nvmMap = s.nvmMap := rfl
@[simp] theorem modGroom_mainPower (s : State) (f : GroomS → GroomS) : (s.modGroom f).mainPower = s.mainPower := rfl
@[simp] theorem modGroom_avs (s : State) (f : GroomS → GroomS) : (s.modGroom f).avs = s.avs := rfl
@[simp] theorem modGroom_dtsOff (s : State) (f : GroomS → GroomS) : (s.modGroom f).dtsOff = s.dtsOff := rfl
@[simp] theorem modGroom_engTest (s : State) (f : GroomS → GroomS) : (s.modGroom f).engTest = s.engTest := rfl
@[simp] theorem modGroom_groom (s : State) (f : GroomS → GroomS) : (s.modGroom f).groom = f s.groom := rfl

end Sys2Proof.Machine
end

