-- ==== Sys2Proof/Laws/Ops.lean ====
section
/-! SUPPORT. What the shared operations can do: fields of registers, events and their vectors, writes at the page arbiter. -/

namespace Sys2Proof.Machine

open Sys2Proof

/-! Bits of numbers. -/

theorem natBits_lt (v lo w : Nat) : natBits v lo w < 2 ^ w := Nat.mod_lt _ (by positivity)

theorem natSetBits_eq (v lo w x : Nat) :
    natSetBits v lo w x = v % 2 ^ lo + 2 ^ lo * (x % 2 ^ w + 2 ^ w * (v / 2 ^ (lo + w))) := by
  unfold natSetBits
  rw [pow_add]; ring

/-- A field read back after it is set. -/
theorem natBits_set_same (v lo w x : Nat) : natBits (natSetBits v lo w x) lo w = x % 2 ^ w := by
  rw [natSetBits_eq, natBits, Nat.add_mul_div_left _ _ (by positivity),
    Nat.div_eq_of_lt (Nat.mod_lt _ (by positivity)), Nat.zero_add, Nat.add_mul_mod_self_left, Nat.mod_mod]

/-- A field below one that is set. -/
theorem natBits_set_below (v lo w x a b : Nat) (h : a + b ≤ lo) :
    natBits (natSetBits v lo w x) a b = natBits v a b := by
  obtain ⟨c, rfl⟩ := Nat.exists_eq_add_of_le h
  simp only [natSetBits_eq, natBits]
  have e (y : Nat) : y / 2 ^ a % 2 ^ b = y % 2 ^ (a + b) / 2 ^ a := by
    rw [pow_add, Nat.mod_mul_right_div_self]
  have h1 : (2 : Nat) ^ (a + b + c) = 2 ^ (a + b) * 2 ^ c := pow_add 2 (a + b) c
  rw [e, e v, h1, mul_assoc, Nat.add_mul_mod_self_left, Nat.mod_mul_right_mod]

/-- A field above one that is set. -/
theorem natBits_set_above (v lo w x a b : Nat) (h : lo + w ≤ a) :
    natBits (natSetBits v lo w x) a b = natBits v a b := by
  obtain ⟨c, rfl⟩ := Nat.exists_eq_add_of_le h
  simp only [natBits]
  congr 1
  have h1 : (2 : Nat) ^ (lo + w + c) = 2 ^ lo * 2 ^ w * 2 ^ c := by rw [pow_add, pow_add]
  have h2 : (2 : Nat) ^ (lo + w) = 2 ^ lo * 2 ^ w := pow_add 2 lo w
  rw [natSetBits_eq, h1, mul_assoc, ← Nat.div_div_eq_div_mul, ← Nat.div_div_eq_div_mul,
    Nat.add_mul_div_left _ _ (by positivity), Nat.div_eq_of_lt (Nat.mod_lt v (by positivity)), Nat.zero_add,
    Nat.add_mul_div_left _ _ (by positivity), Nat.div_eq_of_lt (Nat.mod_lt x (by positivity)), Nat.zero_add]
  simp only [h2, Nat.div_div_eq_div_mul]
  congr 1; ring

theorem natSetBits_lt (v lo w x n : Nat) (hv : v < 2 ^ n) (h : lo + w ≤ n) : natSetBits v lo w x < 2 ^ n := by
  obtain ⟨c, rfl⟩ := Nat.exists_eq_add_of_le h
  have h1 : v / 2 ^ (lo + w) < 2 ^ c := by
    rw [Nat.div_lt_iff_lt_mul (by positivity), mul_comm, ← pow_add]; exact hv
  have h2 : v % 2 ^ lo < 2 ^ lo := Nat.mod_lt _ (by positivity)
  have h3 : x % 2 ^ w < 2 ^ w := Nat.mod_lt _ (by positivity)
  rw [natSetBits_eq]
  have h4 : x % 2 ^ w + 2 ^ w * (v / 2 ^ (lo + w)) < 2 ^ w * 2 ^ c := by
    calc x % 2 ^ w + 2 ^ w * (v / 2 ^ (lo + w)) < 2 ^ w + 2 ^ w * (v / 2 ^ (lo + w)) := by omega
      _ = 2 ^ w * (v / 2 ^ (lo + w) + 1) := by ring
      _ ≤ 2 ^ w * 2 ^ c := Nat.mul_le_mul_left _ h1
  calc v % 2 ^ lo + 2 ^ lo * (x % 2 ^ w + 2 ^ w * (v / 2 ^ (lo + w)))
      < 2 ^ lo + 2 ^ lo * (x % 2 ^ w + 2 ^ w * (v / 2 ^ (lo + w))) := by omega
    _ = 2 ^ lo * (x % 2 ^ w + 2 ^ w * (v / 2 ^ (lo + w)) + 1) := by ring
    _ ≤ 2 ^ lo * (2 ^ w * 2 ^ c) := Nat.mul_le_mul_left _ h4
    _ = 2 ^ (lo + w + c) := by rw [pow_add, pow_add, mul_assoc]

/-! Registers and their fields. -/

theorem reg_setReg (s : State) (k k' : Nat) (v : Word) :
    (s.setReg k v).reg k' = if k' = k then v else s.reg k' := mapGet_set regReset s.regs k k' v

@[simp] theorem reg_setReg_same (s : State) (k : Nat) (v : Word) : (s.setReg k v).reg k = v := by
  simp [reg_setReg]

theorem reg_setReg_ne (s : State) {k k' : Nat} (v : Word) (h : k' ≠ k) : (s.setReg k v).reg k' = s.reg k' := by
  simp [reg_setReg, h]

theorem reg_setFld_ne (s : State) (f : Fld) (v : Nat) {k : Nat} (h : k ≠ f.key) :
    (s.setFld f v).reg k = s.reg k := reg_setReg_ne s _ h

/-- A field read back after it is written. -/
theorem fld_setFld_same (s : State) (f : Fld) (v : Nat) (h : f.lo + f.w ≤ 32) :
    (s.setFld f v).fld f = v % 2 ^ f.w := by
  simp only [State.fld, State.setFld, reg_setReg_same, BitVec.toNat_ofNat]
  rw [Nat.mod_eq_of_lt (natSetBits_lt _ _ _ _ 32 (s.reg f.key).isLt h), natBits_set_same]

/-- A field of another register is untouched. -/
theorem fld_setFld_ne (s : State) (f g : Fld) (v : Nat) (h : g.key ≠ f.key) :
    (s.setFld f v).fld g = s.fld g := by simp [State.fld, reg_setFld_ne s f v h]

/-- A field of the same register at other bits is untouched. -/
theorem fld_setFld_apart (s : State) (f g : Fld) (v : Nat) (hk : g.key = f.key) (hf : f.lo + f.w ≤ 32)
    (h : g.lo + g.w ≤ f.lo ∨ f.lo + f.w ≤ g.lo) : (s.setFld f v).fld g = s.fld g := by
  simp only [State.fld, State.setFld, hk, reg_setReg_same, BitVec.toNat_ofNat]
  rw [Nat.mod_eq_of_lt (natSetBits_lt _ _ _ _ 32 (s.reg f.key).isLt hf)]
  rcases h with h | h
  · exact natBits_set_below _ _ _ _ _ _ h
  · exact natBits_set_above _ _ _ _ _ _ h

theorem setBit_eq (s : State) (f : Fld) (b : Bool) : s.setBit f b = s.setFld f (if b then 1 else 0) := rfl

theorem setInt_eq (s : State) (f : Fld) (i : Int) : s.setInt f i = s.setFld f (intBits f.w i) := rfl

theorem incFld_eq (s : State) (f : Fld) (n : Nat) : s.incFld f n = s.setFld f (s.fld f + n) := rfl

theorem satFld_eq (s : State) (f : Fld) (n : Nat) :
    s.satFld f n = s.setFld f (min (s.fld f + n) (2 ^ f.w - 1)) := rfl

theorem fld_lt (s : State) (f : Fld) : s.fld f < 2 ^ f.w := natBits_lt _ _ _

/-! Frames. -/

theorem Quiet.refl (s : State) : Quiet s s := rfl

theorem Quiet.trans {s t u : State} (h : Quiet s t) (g : Quiet t u) : Quiet s u := by
  unfold Quiet at *; rw [g, h]

theorem Quiet.ite {s t u : State} (c : Prop) [Decidable c] (h : Quiet s t) (g : Quiet s u) :
    Quiet s (if c then t else u) := by split <;> assumption

theorem quiet_setReg (s : State) (k : Nat) (v : Word) : Quiet s (s.setReg k v) := rfl

theorem quiet_setFld (s : State) (f : Fld) (v : Nat) : Quiet s (s.setFld f v) := rfl

theorem quiet_emit (s : State) (o : Out) : Quiet s (s.emit o) := rfl

theorem quiet_tryVector (s : State) (v : Nat) : Quiet s (s.tryVector v) := by
  unfold State.tryVector
  split
  · dsimp only
    split <;> rfl
  · rfl

theorem quiet_refresh (s : State) (p : Nat) : Quiet s (s.refresh p) :=
  Quiet.trans (t := s.setBit _ (s.pagePending p)) rfl (quiet_tryVector _ _)

theorem quiet_pushRec (s : State) (page code arg : Nat) (forced : Bool) (at_ : Nat) :
    Quiet s (s.pushRec page code arg forced at_) := by
  unfold State.pushRec; split <;> rfl

/-- An event changes registers, the queue of event records and what is sent, nothing else. -/
theorem quiet_occur (s : State) (page k arg : Nat) (forced : Bool) : Quiet s (s.occur page k arg forced) := by
  unfold State.occur
  refine Quiet.trans ?_ (quiet_refresh _ _)
  refine Quiet.trans (t := s.setReg (regKey page 0x10) (s.reg (regKey page 0x10) ||| BitVec.ofNat 32 (2 ^ k))) rfl ?_
  exact Quiet.ite _ (quiet_pushRec _ _ _ _ _ _) rfl

theorem quiet_raise (s : State) (page k arg : Nat) : Quiet s (s.raise page k arg) := quiet_occur _ _ _ _ _

theorem quiet_badAccess (s : State) (addr : Nat) : Quiet s (s.badAccess addr) :=
  Quiet.trans (quiet_setFld _ _ _) (quiet_raise _ _ _ _)

theorem quiet_refuseWrite (s : State) (q : Req) (p off : Nat) : Quiet s (s.refuseWrite q p off) := quiet_raise _ _ _ _

theorem quiet_storeReg (s : State) (p off : Nat) (v : Word) : Quiet s (s.storeReg p off v) := by
  unfold State.storeReg
  split
  · rfl
  · dsimp only; split <;> rfl

theorem RegsKept.refl (w : Nat → Bool) (s : State) : RegsKept w s s := fun _ _ => rfl

theorem RegsKept.trans {w : Nat → Bool} {s t u : State} (h : RegsKept w s t) (g : RegsKept w t u) : RegsKept w s u :=
  fun k hk => (g k hk).trans (h k hk)

theorem RegsKept.mono {w x : Nat → Bool} {s t : State} (hw : ∀ k, x k = false → w k = false) (h : RegsKept w s t) :
    RegsKept x s t := fun k hk => h k (hw k hk)

theorem regsKept_setReg {w : Nat → Bool} (s : State) (k : Nat) (v : Word) (h : w k = true) :
    RegsKept w s (s.setReg k v) := fun j hj => reg_setReg_ne s v (fun e => by simp_all)

theorem regsKept_setFld {w : Nat → Bool} (s : State) (f : Fld) (v : Nat) (h : w f.key = true) :
    RegsKept w s (s.setFld f v) := regsKept_setReg s _ _ h

theorem regsKept_setVecArm (s : State) (p v : Nat) (on : Bool) : RegsKept (evKey p) s (s.setVecArm v on) := by
  unfold State.setVecArm
  apply regsKept_setReg
  split <;> simp [evKey, HOST_VEC_ARM_LO_ARM, HOST_VEC_ARM_HI_ARM, Fld.key]

theorem regsKept_setPba (s : State) (p v : Nat) (on : Bool) (hv : v < 64) : RegsKept (evKey p) s (s.setPba v on) := by
  unfold State.setPba
  apply regsKept_setReg
  have : v / 32 = 0 ∨ v / 32 = 1 := by omega
  rcases this with h | h <;> simp [evKey, h]

theorem regsKept_tryVector (s : State) (p v : Nat) (hv : v < 64) : RegsKept (evKey p) s (s.tryVector v) := by
  unfold State.tryVector
  split
  · dsimp only
    split
    · exact (regsKept_setVecArm s p v false).trans (regsKept_setPba _ p v true hv)
    · exact regsKept_setVecArm s p v false
  · exact RegsKept.refl _ _

theorem routeVector_lt (s : State) (p : Nat) : s.routeVector p < 64 := fld_lt s (HOST_PAGE_ROUTE_VECTOR.nth p)

theorem regsKept_refresh (s : State) (p : Nat) : RegsKept (evKey p) s (s.refresh p) := by
  unfold State.refresh
  refine RegsKept.trans (regsKept_setFld s _ _ ?_) (regsKept_tryVector _ p _ (routeVector_lt s p))
  simp only [evKey, Fld.key, Fld.nth, HOST_PEND_PEND, Nat.mul_comm, List.contains_cons, Bool.or_eq_true, beq_iff_eq]
  simp

/-- The registers an event of page `p` may write. -/
theorem regsKept_occur (s : State) (page k arg : Nat) (forced : Bool) :
    RegsKept (evKey page) s (s.occur page k arg forced) := by
  unfold State.occur
  refine RegsKept.trans ?_ (regsKept_refresh _ page)
  have h : RegsKept (evKey page) s (s.setReg (regKey page 0x10) (s.reg (regKey page 0x10) ||| BitVec.ofNat 32 (2 ^ k))) :=
    regsKept_setReg s _ _ (by simp [evKey])
  refine h.trans ?_
  split
  · unfold State.pushRec; split <;> exact RegsKept.refl _ _
  · exact RegsKept.refl _ _

theorem regsKept_raise (s : State) (page k arg : Nat) : RegsKept (evKey page) s (s.raise page k arg) :=
  regsKept_occur s page k arg false

/-! Writes at the page arbiter (R63 to R67, R269). -/

/-- Everything the way to a page's arbiter can do with a write (R63, R269). -/
theorem passGate_cases (s : State) (q : Req) (p off : Nat) (v : Word) (f : State → State) :
    (s.gate q p = .served ∧ s.passGate q p off v f = f s) ∨
      (s.gate q p = .reserved ∧ s.passGate q p off v f = s.badAccess (p * 4096 + off)) ∨
      (s.gate q p = .held ∧ s.passGate q p off v f = s.hold269 (.write p off v)) ∨
      s.passGate q p off v f = s := by
  unfold State.passGate
  cases s.gate q p <;> simp

/-- Everything a page's arbiter can do with a write (R20, R65, R66). -/
theorem accept_cases (s : State) (q : Req) (p off : Nat) (eff : State → State) :
    (s.barred q p off = true ∧ s.accept q p off eff = s.refuseWrite q p off) ∨
      (s.barred q p off = false ∧ writableOff p off = true ∧ s.accept q p off eff = eff (s.countWrite p)) ∨
      (s.barred q p off = false ∧ writableOff p off = false ∧ s.accept q p off eff = s) := by
  unfold State.accept
  cases s.barred q p off <;> cases writableOff p off <;> simp

/-- A write that reaches its register counts and has its effect. -/
theorem write_accepted (s : State) (q : Req) (p off : Nat) (v : Word) (eff : State → State) (hg : s.gate q p = .served)
    (hw : writableOff p off = true) (hm : s.barred q p off = false) : s.write q p off v eff = eff (s.countWrite p) := by
  simp [State.write, State.passGate, State.accept, hg, hw, hm]

/-- A write under another requester's OWNER.HOLDER is refused (R65). -/
theorem write_refused (s : State) (q : Req) (p off : Nat) (v : Word) (eff : State → State) (hg : s.gate q p = .served)
    (hm : s.barred q p off = true) : s.write q p off v eff = s.refuseWrite q p off := by
  simp [State.write, State.passGate, State.accept, hg, hm]

/-! The canonical form of the memories. -/

theorem memWf_reset : State.reset.memWf = true := rfl

theorem memWf_setReg (s : State) (k : Nat) (v : Word) (h : s.memWf = true) : (s.setReg k v).memWf = true := by
  simp only [State.memWf, Bool.and_eq_true] at h ⊢
  exact ⟨⟨⟨⟨⟨⟨mapWf_set _ _ _ _ h.1.1.1.1.1.1, h.1.1.1.1.1.2⟩, h.1.1.1.1.2⟩, h.1.1.1.2⟩, h.1.1.2⟩, h.1.2⟩, h.2⟩

theorem memWf_setFld (s : State) (f : Fld) (v : Nat) (h : s.memWf = true) : (s.setFld f v).memWf = true :=
  memWf_setReg s _ _ h

theorem memWf_setAct (s : State) (f : Fld) (v : Nat) (h : s.memWf = true) : (s.setAct f v).memWf = true := by
  simp only [State.memWf, Bool.and_eq_true] at h ⊢
  exact ⟨⟨⟨⟨⟨⟨h.1.1.1.1.1.1, mapWf_set _ _ _ _ h.1.1.1.1.1.2⟩, h.1.1.1.1.2⟩, h.1.1.1.2⟩, h.1.1.2⟩, h.1.2⟩, h.2⟩

theorem memWf_putWord (s : State) (b off : Nat) (v : DWord) (h : s.memWf = true) : (s.putWord b off v).memWf = true := by
  simp only [State.memWf, Bool.and_eq_true] at h ⊢
  exact ⟨⟨⟨⟨⟨⟨h.1.1.1.1.1.1, h.1.1.1.1.1.2⟩, mapWf_set _ _ _ _ h.1.1.1.1.2⟩, h.1.1.1.2⟩, h.1.1.2⟩, h.1.2⟩, h.2⟩

theorem memWf_putErr (s : State) (b off e : Nat) (h : s.memWf = true) : (s.putErr b off e).memWf = true := by
  simp only [State.memWf, Bool.and_eq_true] at h ⊢
  exact ⟨⟨⟨⟨⟨⟨h.1.1.1.1.1.1, h.1.1.1.1.1.2⟩, h.1.1.1.1.2⟩, mapWf_set _ _ _ _ h.1.1.1.2⟩, h.1.1.2⟩, h.1.2⟩, h.2⟩

theorem memWf_putDramRaw (s : State) (a : Nat) (bs : List Byte) (h : s.memWf = true) :
    (s.putDramRaw a bs).memWf = true := by
  simp only [State.memWf, Bool.and_eq_true] at h ⊢
  exact ⟨⟨⟨⟨⟨⟨h.1.1.1.1.1.1, h.1.1.1.1.1.2⟩, h.1.1.1.1.2⟩, h.1.1.1.2⟩, mapWf_setList _ _ _ _ h.1.1.2⟩, h.1.2⟩, h.2⟩

theorem memWf_putDramErr (s : State) (a e : Nat) (h : s.memWf = true) : (s.putDramErr a e).memWf = true := by
  simp only [State.memWf, Bool.and_eq_true] at h ⊢
  exact ⟨⟨⟨⟨⟨⟨h.1.1.1.1.1.1, h.1.1.1.1.1.2⟩, h.1.1.1.1.2⟩, h.1.1.1.2⟩, h.1.1.2⟩, mapWf_set _ _ _ _ h.1.2⟩, h.2⟩

theorem memWf_putNvm (s : State) (a : Nat) (bs : List Byte) (h : s.memWf = true) : (s.putNvm a bs).memWf = true := by
  simp only [State.memWf, Bool.and_eq_true] at h ⊢
  exact ⟨⟨⟨⟨⟨⟨h.1.1.1.1.1.1, h.1.1.1.1.1.2⟩, h.1.1.1.1.2⟩, h.1.1.1.2⟩, h.1.1.2⟩, h.1.2⟩, mapWf_setList _ _ _ _ h.2⟩

/-- What a quiet change keeps of the canonical form: the memories; the registers are the change's own affair. -/
theorem memWf_quiet {s t : State} (h : Quiet s t) (hs : s.memWf = true) (hr : mapWf regReset t.regs = true) :
    t.memWf = true := by
  rw [h]
  simp only [State.memWf, Bool.and_eq_true] at hs ⊢
  exact ⟨⟨⟨⟨⟨⟨hr, hs.1.1.1.1.1.2⟩, hs.1.1.1.1.2⟩, hs.1.1.1.2⟩, hs.1.1.2⟩, hs.1.2⟩, hs.2⟩

end Sys2Proof.Machine
end

