-- ==== Sys2Proof/Tests/Slice0.lean ====
section
/-! SUPPORT. Tests of the model: ill-formed commands are refused by the check, the hypotheses of the statements are met by states shown here, and a few steps give what the spec's tables and worked cases say. -/

namespace Sys2Proof.Tests

set_option Elab.async false

open Sys2Proof Sys2Proof.Machine

/-- The state after reset with some register fields written. -/
def st (l : List (Fld × Nat)) : State :=
  { State.reset with regs := (l.foldl (fun (t : State) (p : Fld × Nat) => t.setFld p.1 p.2) State.reset).regs }

/-- A block in service. -/
def up (l : List (Fld × Nat)) : State := st ([(SYS_BOOT_PHASE_PHASE, 15), (SYS_STATUS_READY, 1)] ++ l)

/-- `s` with some fields in force. -/
def force (l : List (Fld × Nat)) (s : State) : State :=
  { s with inForce := (l.foldl (fun (t : State) (p : Fld × Nat) => t.setAct p.1 p.2) s).inForce }

/-- The state a command answers. -/
def after (o : Host.Outcome State Fault Refusal) : State := match o with | .next t => t | _ => State.reset

/-- A write of four bytes through BAR0, and its like. -/
def req (w : Bool) (a : Nat) (be : List Nat) (d : List Word) : MemReq := { write := w, addr := a, be := be, data := d }

/-! Ill-formed commands are refused (WellFormed). -/

/-- A good V syllable. -/
def vf : VF := ⟨false, 0, false, 0, 1, 2, 3⟩

theorem test_wf_units : Instr.wf (.nop 10 0) = false ∧ Instr.wf (.nop 9 4) = false ∧ Instr.wf (.nop 9 3) = true ∧
    Instr.wf (.linkUp 4 0) = false ∧ Instr.wf (.commitTake 256) = false ∧ Instr.wf (.registerWrite .pcie 1 2 0 none) = false ∧
    Instr.wf (.registerWrite .pcie 1 4096 0 none) = false ∧ Instr.wf (.submit .pcie 256) = false ∧ Instr.wf (.tioPulseEnd 16) = false ∧
    Instr.wf (.rowSpared 32) = false ∧ Instr.wf (.lapDue 8) = false ∧ Instr.wf (.abortDecided 43) = false ∧
    Instr.wf (.segTest 0 4 true) = false ∧ Instr.wf (.borrowStart 0 64) = false ∧ Instr.wf (.trgCue 64) = false ∧
    Instr.wf (.idle 16 []) = false ∧ Instr.wf (.fifoPush .pcie 15 8 0 []) = false ∧ Instr.wf (.fifoPop .pcie 15 [.push .pcie 8 0]) = false ∧
    Instr.wf (.fifoPop .pcie 15 [.push .pcie 7 0, .pop .mspi]) = true ∧ Instr.wf (.egressPacketHandover 8) = false ∧ Instr.wf (.genDone 16) = false := by decide

theorem test_wf_fields : Instr.wf (.vAdd 0 false vf) = true ∧ Instr.wf (.vAdd 0 false { vf with pr := 8 }) = false ∧
    Instr.wf (.vAdd 0 false { vf with d := 64 }) = false ∧ Instr.wf (.vAdd 0 false { vf with bs := true, b := 32 }) = false ∧
    MF.wf ⟨0, 64, 0, 0⟩ = false ∧ MXF.wf ⟨0, 0, 32, 0⟩ = false ∧ MLF.wf ⟨0, 0, 0, 16⟩ = false ∧ CF.wf ⟨0, 32, 0, 0⟩ = false ∧
    CIF.wf ⟨0, 0, 0, 65536⟩ = false ∧ CBF.wf ⟨0, 1024, 0⟩ = false := by decide

theorem test_wf_requests : MemReq.wf (req true 0 [16] [0]) = false ∧ MemReq.wf (req true 0 [15, 15] [0]) = false ∧
    MemReq.wf (req false 0 [15, 15] []) = true := by decide

/-! The hypotheses of the statements are met. -/

theorem wit_ticks : State.reset.pending = [] ∧ State.reset.phase = 0 ∧ (up []).pending = [] ∧ (up []).phase ≠ 0 := by decide +kernel

theorem wit_memory_form : State.reset.memWf = true ∧ step State.reset = .next State.reset := ⟨by decide +kernel, rfl⟩

theorem wit_plain_write : plainOff 9 0x014 = false ∧ plainOff 7 0x008 = true ∧ State.reset.gate .mspi 7 = .served ∧
    (regRow? 7 0x008).isSome = true ∧ writableOff 7 0x008 = true ∧ State.reset.mayWrite .mspi 7 = true ∧
    plainOff 10 0x0C0 = true ∧ shadowed 10 0x0C0 = true ∧ (up []).takeable 10 = false ∧ (up []).latchPort 10 = none := by decide +kernel

theorem wit_owner : (up []).gate .pcie 7 = .served ∧ (regRow? 7 0x008).isSome = true ∧ writableOff 7 0x008 = true ∧ (st [(PG_OWNER_HOLDER.inst 7, 1)]).fld (PG_OWNER_HOLDER.inst 7) = 1 ∧
    (up [(PG_OWNER_HOLDER.inst 7, 2)]).gate .pcie 7 = .served ∧ (up [(PG_OWNER_HOLDER.inst 7, 2)]).fld (PG_OWNER_HOLDER.inst 7) = 2 ∧
    natBits (3 : Word).toNat 0 2 = 3 ∧ natBits (2 : Word).toNat 0 2 ≠ 3 := by decide +kernel

theorem wit_pairs : isPairLo 2 0x09C = true ∧ (let p := 0x50
    let s := State.reset.setHeld .mspi (regKey p 0x078) (some 7)
    s.takeable p = false ∧ s.latchPort p = none ∧ s.gate .mspi p = .served ∧ isPairLo p 0x078 = true ∧ writableOff p 0x078 = true ∧ s.mayWrite .mspi p = true ∧
    isPairHi p 0x07C = true ∧ writableOff p 0x07C = true ∧ s.heldOf .mspi (regKey p 0x078) = some 7 ∧
    (regRow? p 0x078).isSome = true ∧ (regRow? p 0x07C).isSome = true) := by decide +kernel

theorem wit_commit_arming : (let p := 0x50
    let s := up []
    s.gate .mspi p = .served ∧ writableOff p 0x020 = true ∧ s.mayWrite .mspi p = true ∧ isCore p = false ∧
    s.armed p = false ∧ (s.setCommit p cmArmed 0).armed p = true ∧ s.time.transit = none ∧
    (0x10 : Word).getLsbD 4 = true ∧ (0x10 : Word).getLsbD 5 = false ∧ natBits (0x10 : Word).toNat 0 2 = mdNow ∧
    natBits (0x12 : Word).toNat 0 2 = mdTime ∧ (0x20 : Word).getLsbD 4 = false ∧ (0x20 : Word).getLsbD 5 = true) := by
  decide +kernel

/-- A time target that is ahead, one that is past and a refused mode. -/
theorem wit_commit_targets : (let at_ (n : Nat) : State := { st [(PG_COMMIT_TIME_TIME.inst 0x50, n)] with
      time := { State.reset.time with now := 100 * 65536, transit := some (3, 0) } }
    (at_ 101).st32 = 100 ∧ (at_ 101).time.transit ≠ none ∧ (at_ 101).modeOk 0x50 mdTime = true ∧
    ((at_ 101).fld (PG_COMMIT_TIME_TIME.inst 0x50) + 2 ^ 32 - (at_ 101).st32) % 2 ^ 32 = 1 ∧
    ((at_ 100).fld (PG_COMMIT_TIME_TIME.inst 0x50) + 2 ^ 32 - (at_ 100).st32) % 2 ^ 32 = 0 ∧
    (2 ^ 31 ≤ ((at_ 99).fld (PG_COMMIT_TIME_TIME.inst 0x50) + 2 ^ 32 - (at_ 99).st32) % 2 ^ 32) ∧
    (at_ 101).modeOk 2 mdNow = false) := by decide +kernel

/-- A cancel with the take pending together. -/
theorem wit_commit_cancel : (let s := (up []).setCommit 0x50 cmArmed 0
    let u := (s.countWrite 0x50).setFld (PG_COMMIT_MODE.inst 0x50) (natBits (0x20 : Word).toNat 0 2)
    s.armed 0x50 = true ∧ u.takeable 0x50 = true) ∧
    (let s := ((up []).setCommit 0x50 cmArmed 0).setUnit 0x50 ⟨mdTransit, 0, false, false, none, 0⟩
     let u := (s.countWrite 0x50).setFld (PG_COMMIT_MODE.inst 0x50) (natBits (0x20 : Word).toNat 0 2)
     s.armed 0x50 = true ∧ u.takeable 0x50 = false) := by decide +kernel

theorem wit_commit_cutoff : (let s := { up [] with time := { State.reset.time with now := 7, nextTransit := some (1, 7) } }
    s.time.nextTransit = some (1, 7) ∧ 7 ≤ s.time.now + commitLead 0x50 ∧ s.latchPort 0x50 = none) := by decide +kernel

theorem wit_commit_taken : State.reset.takeable 1 = false ∧
    (let s := (up [(SCHED_TICK_CFG_US, 1000)]).setCommit 5 cmArmed 0
     s.takeable 5 = true ∧ s.commitReason 5 = 0 ∧ mapWf regReset s.regs = true) ∧
    (let s := (up [(SCHED_TICK_CFG_US, 1001)]).setCommit 5 cmArmed 0
     s.takeable 5 = true ∧ s.commitReason 5 ≠ 0) ∧
    ([1, 5, 0x50, 0x51, 0x52, 0x53, 0x80, 0x81, 0x8F].all fun p =>
      ((up [(DRAM_USABLE_MIB_MIB, 8192)]).setCommit p cmArmed 0).takeable p &&
      ((up [(DRAM_USABLE_MIB_MIB, 8192)]).setCommit p cmArmed 0).commitReason p == 0) = true := by decide +kernel

theorem wit_event_bits : (up []).gate .pcie 3 = .served ∧ writableOff 3 0x010 = true ∧ (up []).mayWrite .pcie 3 = true ∧
    (eventMask 3).testBit 11 = true ∧ writableOff 3 0x018 = true := by decide +kernel

theorem wit_event_records : (let r : RecReq := ⟨3, 11, 5, false, 10, true⟩
    let s : State := { up [] with recQ := [r] }
    s.recQ[0]? = some r ∧ s.mayTake r = true ∧ (s.evtBuf.filter fun b => !b.2.2).length < 64) ∧
    (let s : State := { up [] with evtBuf := [(1, 2, false)] }
     s.evtBuf = [(1, 2, false)] ∧ s.prodIs 1 endDevice = true ∧ s.fifoRing 1 = false ∧ (s.fifo 1).stalls = [] ∧
     2 ≤ s.fifoSpace 1) ∧
    (let s : State := { st [(FIFO_STATUS_HELD.inst 1, 1)] with evtBuf := [(1, 2, false)] }
     s.evtBuf = [(1, 2, false)] ∧ s.prodIs 1 endDevice = true ∧ s.fifoRing 1 = false ∧ (s.fifo 1).stalls = [] ∧
     s.fifoSpace 1 < 2) := by decide +kernel

theorem wit_vectors : (let s : State := { up [(PG_EVENT_EN_EN.inst 3, 2048), (HOST_PAGE_ROUTE_MSIX_EN.nth 3, 1), (HOST_PAGE_ROUTE_VECTOR.nth 3, 63)]
      with host := { State.reset.host with msixEn := true } }
    s.gate .pcie 1 = .served ∧ s.mayWrite .pcie 1 = true ∧ s.host.msixEn = true ∧ s.host.fnMask = false ∧
    (s.setPba 63 true).pba 63 = true ∧ ((List.range 256).any fun p => s.fld (HOST_PAGE_ROUTE_VECTOR.nth p) == 63 &&
      s.bit (HOST_PAGE_ROUTE_MSIX_EN.nth p) && (s.setReg (regKey 3 0x010) 2048).pagePending p) = true) := by decide +kernel

theorem wit_host_requests : (let s := up [(DRAM_USABLE_MIB_MIB, 8)]
    s.hostGate = .served ∧ (∀ b ∈ (req true 0x7008 [15] [1]).be, b = 15) ∧ (∃ b ∈ (req true 0x7008 [7] [1]).be, b ≠ 15) ∧
    2 < (req false 0x7000 [15, 15, 15] []).be.length ∧ 0x7008 < 2 ^ 24 ∧ s.gate .pcie (0x7008 / 4096) = .served ∧
    s.act HOST_BAR2_WIN_WIN_GIB * 2 ^ 30 + 0x7FFFF8 + 8 ≤ s.dramUsable ∧ s.dramErrAt 0x7FFFF8 = 0 ∧
    s.dramUsable ≤ s.act HOST_BAR2_WIN_WIN_GIB * 2 ^ 30 + 0x800000 ∧ (req true 0x7FFFF8 [15, 15] [1, 2]).data.length = 2) := by
  decide +kernel

/-! A plan of one slot with one emit entry, and a frame of it. -/

/-- An emit entry of a page. -/
def emit (page level : Nat) (noReady : Bool) : EmitEnt := ⟨page, 0, 0, 0, 0, 0, 0, 10, level, noReady⟩

/-- A plan with one slot of one lap and the emit entries given, at 60 to 120 Hz. -/
def plan (l : List EmitEnt) : PlanTabs := ⟨9, [⟨0, 100, 0, 0, [⟨50, 0, false, 0, 0⟩], some [], []⟩], false, (60, 1), (120, 1), 0, 0, 0, 0,
  [], [], l, [], []⟩

/-- Frame 5 of it, launched from the instant 1000 ns. -/
def frame (l : List EmitEnt) : FrameRun := ⟨5, 1000 * 65536, plan l, 0, false, [], []⟩

/-- A state in which that frame is held, at instant `now`. -/
def held (l : List EmitEnt) (now : Nat) (regs : List (Fld × Nat)) : State := { up regs with
  time := { State.reset.time with now := now, mono := now }
  plan := { State.reset.plan with frames := [frame l] } }

theorem wit_transit : (let s := { up [] with time := { State.reset.time with now := 7, nextTransit := some (1, 7) } }
    s.time.nextTransit = some (1, 7) ∧ 7 ≤ s.time.now ∧ s.time.seam = none) ∧ State.reset.time.nextTransit = none ∧
    (let s := { up [] with time := { State.reset.time with now := 6, nextTransit := some (1, 7) } }
     s.time.now < 7) := by decide +kernel

theorem wit_emit : (let l := [emit 0xB1 0 false, emit 0x83 0 true, emit 0x69 0 true, emit 0x70 0 true]
    let s := held l (1000 * 65536) [(CL_STATUS_STATE.inst 1, clUp)]
    s.emitEntry 5 0 = some (frame l, emit 0xB1 0 false) ∧ (frame l).launchOf (emit 0xB1 0 false) ≤ s.time.now + 10 * 65536 ∧
    ((frame l).emitAt 0).fetched = none ∧ ((frame l).emitAt 0).launched = false ∧ s.clIsUp 1 = true ∧
    (frame l).shedEnt (emit 0xB1 0 false) = false ∧ s.launchSeam ((frame l).launchOf (emit 0xB1 0 false)) = false ∧ s.emitServed (frame l) (emit 0xB1 0 false) = true ∧
    ({ s with time := { s.time with seam := some (0, false), transit := some (5, 0) } }).launchSeam ((frame l).launchOf (emit 0xB1 0 false)) = true ∧
    (∀ i < 4, (s.emitEntry 5 i).isSome = true) ∧ pageBase 0xB1 = 0xB0 ∧ pageBase 0x83 = 0x80 ∧ pageBase 0x69 = 0x68 ∧
    pageBase 0x70 = 0x70 ∧ ((frame l).setEmit 0 ⟨none, some true, false⟩).emitAt 0 = ⟨none, some true, false⟩ ∧
    ((frame l).setEmit 0 ⟨none, some true, true⟩).emitAt 0 = ⟨none, some true, true⟩) := by decide +kernel

/-! The time base. -/

/-- A block in service whose time base stands at `now` (and the span clock with it), changed by `f`. -/
def timed (now : Nat) (f : TimeS → TimeS) (regs : List (Fld × Nat)) : State :=
  { up regs with time := f { State.reset.time with now := now, mono := now } }

theorem wit_anchor : (up []).gate .pcie 2 = .served ∧ State.reset.timeState = tsUnset ∧
    (let s := timed unitsPerSec id [(TIME_STATUS_STATE, tsFree), (TIME_CTRL_ANCHOR_EN, 1)]
     s.timeState ≠ tsUnset ∧ s.time.lastAnchor < s.time.now / unitsPerSec) := by decide +kernel

/-- A foreign master heard on port 1. -/
def mast : Master := ⟨1, 127, 0x1234, 1, 0, [128], 0x55, []⟩

/-- A block that follows it. -/
def follows (f : TimeS → TimeS) : State := timed (2 * unitsPerSec) (fun t => f { t with masters := [mast], inUse := some mast })
  [(TIME_CTRL_SOURCE, 1), (TIME_STATUS_SOURCE_IN_USE, 1), (TIME_PTP_CFG_PORT_EN, 2), (TIME_PTP_CFG_DOMAIN, 127), (TIME_STATUS_STATE, tsLocked)]

theorem wit_ptp : (let s := follows id
    let m : PtpSync := ⟨1, 0x1234, 1, 127, 4, -3, true, 5, 0, 9, 0xAB, 0xCD⟩
    s.ptpTakes 1 127 = true ∧ s.ptpTakes 2 127 = false ∧ s.fromMaster 1 0x1234 = true ∧ -7 ≤ m.logInterval ∧
    m.logInterval ≤ 1 ∧ s.time.delay = none ∧ s.time.delayReq = none ∧ s.fld TIME_CTRL_SOURCE = 1 ∧ s.time.syncWait = none ∧
    s.time.inUse = some mast ∧ s.time.lastReqAt = none ∧ (s.setBit TIME_PTP_CFG_DELAY_UNICAST false).bit TIME_PTP_CFG_DELAY_UNICAST = false ∧ s.netUp 1 = false ∧
    (s.setBit (NET_STATUS_LINK.inst 1) true).netUp 1 = true) ∧
    (let s := timed unitsPerSec id [(TIME_CTRL_SOURCE, 1), (TIME_STATUS_SOURCE_IN_USE, 1), (TIME_PTP_CFG_PORT_EN, 2), (TIME_PTP_CFG_DOMAIN, 127)]
     s.time.inUse = none ∧ s.ptpTakes 1 127 = true ∧ s.time.masters.length < 8) ∧
    (let s := follows fun t => { t with delayReq := some (4, 7), lastSync := some (5, 9) }
     s.ptpTakes 1 127 = true ∧ s.fromMaster 1 0x1234 = true ∧ s.time.delayReq = some (4, 7) ∧
     s.time.lastSync = some (5, 9) ∧ s.time.delay = none) := by decide +kernel

theorem wit_corrections : (let s := up [(TIME_CTRL_SW_SERVO, 1), (TIME_STATUS_STATE, tsFree)]
    s.gate .pcie 2 = .served ∧ s.mayWrite .pcie 2 = true ∧ s.bit TIME_CTRL_SW_SERVO = true ∧ s.timeState ≠ tsUnset ∧
    s.timeState ≠ tsHeld ∧ s.time.carveOpen = false ∧ |-(natSigned 32 (1000000 : Word).toNat * 65536)| ≤ (s.fld TIME_STEP_THRESH_NS * 65536 : Int) ∧
    (s.fld TIME_STEP_THRESH_NS * 65536 : Int) < |-(natSigned 32 (1000001 : Word).toNat * 65536)|) ∧
    State.reset.bit TIME_CTRL_SW_SERVO = false ∧ (let s := State.reset.setHeld .mspi (regKey 2 0x09C) (some 7)
    s.gate .mspi 2 = .served ∧ s.timeState = tsUnset ∧ s.heldOf .mspi (regKey 2 0x09C) = some 7 ∧
    s.fld TIME_STATUS_SOURCE_IN_USE = 0 ∧ s.time.swRem = 0) := by decide +kernel

theorem wit_time_control : (let s := timed 5 (fun t => { t with held := some ⟨-5, true⟩ }) [(TIME_STATUS_STATE, tsHeld)]
    s.gate .pcie 2 = .served ∧ s.mayWrite .pcie 2 = true ∧ s.moonUp = false ∧ s.fld CL_GROUP_STATUS_MEMBERS ≤ 1 ∧
    (0x40 : Word).toNat % 4 = s.fld TIME_CTRL_SOURCE ∧ s.fld TIME_STATUS_SOURCE_IN_USE = s.fld TIME_CTRL_SOURCE ∧
    (0x40 : Word).getLsbD 2 = s.bit TIME_CTRL_SW_SERVO ∧ (0x40 : Word).getLsbD 5 = false ∧ (0x40 : Word).getLsbD 6 = true ∧
    (0x40 : Word).getLsbD 7 = s.bit TIME_CTRL_FORCE_GLIDE ∧ s.timeState = tsHeld ∧ s.time.carveOpen = false ∧
    s.time.held = some ⟨-5, true⟩ ∧ (0x20 : Word).getLsbD 6 = false ∧ (0x20 : Word).getLsbD 5 = true ∧
    (0x20 : Word).getLsbD 2 = s.bit TIME_CTRL_SW_SERVO) ∧
    (let s := up [(TIME_STATUS_STATE, tsLocked), (TIME_CTRL_SW_SERVO, 1)]
     (0x84 : Word).getLsbD 2 = s.bit TIME_CTRL_SW_SERVO ∧ (0x84 : Word).getLsbD 5 = false ∧ (0x84 : Word).getLsbD 6 = false ∧
     (0x84 : Word).getLsbD 7 = true ∧ s.bit TIME_CTRL_FORCE_GLIDE = false ∧
     [tsFree, tsAcquire, tsLocked].contains s.timeState = true ∧ (0 : Word).getLsbD 2 = false ∧
     (0 : Word).toNat % 4 = s.fld TIME_CTRL_SOURCE) := by decide +kernel

theorem wit_glide : (let s := timed (1000 * 1000 * 65536) id [(TIME_STATUS_SOURCE_IN_USE, 2), (TIME_STATUS_STATE, tsLocked)]
    s.fld TIME_STATUS_SOURCE_IN_USE = 2 ∧ s.fld CL_LOSS_US_US * 1000 * 65536 ≤ s.time.mono - s.time.lastSource ∧
    [tsFree, tsAcquire, tsLocked].contains s.timeState = true) ∧
    (let s := timed (2 * unitsPerSec) id [(TIME_STATUS_SOURCE_IN_USE, 3), (TIME_STATUS_STATE, tsLocked)]
     s.fld TIME_STATUS_SOURCE_IN_USE = 3 ∧
     2 * s.rate.2 * (10 ^ 9 * 65536) / s.rate.1 ≤ s.time.mono - s.time.lastSource ∧
     (timed 0 id [(TIME_STATUS_SOURCE_IN_USE, 3)]).time.mono < 2 * s.rate.2 * (10 ^ 9 * 65536) / s.rate.1) ∧
    (let s := up [(TIME_STATUS_STATE, tsGlide), (TIME_GLIDE_LIMIT_S_S, 1), (TIME_GLIDE_AGE_MS_MS, 1001)]
     s.timeState = tsGlide ∧ s.fld TIME_GLIDE_LIMIT_S_S ≠ 0 ∧ s.time.glidePassed = false ∧
     s.fld TIME_GLIDE_LIMIT_S_S * 1000 < s.fld TIME_GLIDE_AGE_MS_MS) ∧
    (let s := follows fun t => { t with mono := 3 * unitsPerSec }
     s.time.inUse = some mast ∧ s.time.masters = [mast] ∧ s.fld TIME_STATUS_SOURCE_IN_USE = 1 ∧
     s.fld TIME_PTP_CFG_ANNOUNCE_TIMEOUT * intervalUnits mast.interval ≤ s.time.mono - s.time.lastAnnounce ∧
     [tsFree, tsAcquire, tsLocked].contains s.timeState = true) := by decide +kernel

/-! Triggers, edges and timecode. -/

theorem wit_triggers : (let s := up [(TRIG_TRG_TIME_TIME.nth 63, 1)]
    s.gate .pcie 3 = .served ∧ s.mayWrite .pcie 3 = true ∧ s.bit (TRIG_TRG_CFG_ARM.nth 63) = false ∧
    s.armRefused 63 ((0x10 : Word) ||| 8).toNat = false ∧ (0x10 : Word).toNat % 4 = 0 ∧
    (s.fld (TRIG_TRG_TIME_TIME.nth 63) + 2 ^ 32 - s.st32) % 2 ^ 32 = 1 ∧
    s.armRefused 63 ((0x03 : Word) ||| 8).toNat = true ∧ s.armRefused 63 ((0x80 : Word) ||| 8).toNat = true ∧
    (s.setArm 63 true).bit (TRIG_TRG_CFG_ARM.nth 63) = true) := by decide +kernel

/-- Trigger 7 armed AT the present instant with an action. -/
def trig (act arg : Nat) : State :=
  (up [(TRIG_TRG_CFG_ARM.nth 7, 1), (TRIG_TRG_CFG_ACTION.nth 7, act), (TRIG_TRG_CFG_ARG.nth 7, arg), (TRIG_TRG_CFG_PIN.nth 7, 15)])

theorem wit_trigger_actions : (up []).trgDue 7 = none ∧ (∀ act < 8, (trig act 24).trgDue 7 = some true ∧
    (trig act 24).fld (TRIG_TRG_CFG_MODE.nth 7) = 0 ∧ (trig act 24).fld (TRIG_TRG_CFG_PIN.nth 7) < 16 ∧
    (trig act 24).fld (TRIG_TRG_CFG_ACTION.nth 7) = act ∧ (∀ k < 7, (trig act 24).trgDue k = none) ∧
    (trig act 24).trig.pulses = []) ∧ (trig 6 24).snsHeld = none := by decide +kernel

theorem wit_pulse_end : (let s := { timed 100 id [] with trig := { State.reset.trig with pulses := [(15, 100, 9), (3, 107, 1)] } }
    s.trig.pulses = [(15, 100, 9), (3, 107, 1)] ∧ 100 ≤ s.time.mono ∧ (∀ x ∈ [((3 : Nat), (107 : Nat), (1 : Nat))], s.time.mono < x.2.1) ∧
    (∀ k < 9, s.trgDue k = none)) := by decide +kernel

theorem wit_edges : (let s := up [(TRIG_TIO_CFG_CAPTURE.nth 15, 1), (TRIG_FSYNC_CFG_IN_EDGE, 2)]
    (s.fld (TRIG_TIO_CFG_CAPTURE.nth 15)).testBit 0 = true ∧ (s.fld (TRIG_TIO_CFG_CAPTURE.nth 15)).testBit 1 = false ∧
    (s.fld TRIG_FSYNC_CFG_IN_EDGE).testBit 0 = false ∧ (s.fld TRIG_FSYNC_CFG_IN_EDGE).testBit 1 = true ∧
    0 + s.deglitch 15 ≤ { s with time := { s.time with now := s.deglitch 15 } }.time.now ∧ s.time.now < 1 + s.deglitch 15 ∧
    s.fld TIME_CTRL_SOURCE ≠ 3 ∧ s.capWaiting 16 = 0 ∧ (s.trig.lastEdge.find? fun p => p.1 == 16) = none) := by decide +kernel

theorem wit_timecode : (let s := timed unitsPerSec id [(TIME_LTC_OUT_CFG_EN, 1), (TIME_LTC_IN_CFG_EN, 1), (TIME_STATUS_STATE, tsFree),
      (TIME_LTC_IN_LAST_LOCK, 1)]
    s.bit TIME_LTC_OUT_CFG_EN = true ∧ s.timeState ≠ tsUnset ∧ s.time.ltcLast = none ∧ s.ltcIndex ≤ s.ltcIndex + 1 ∧
    s.bit TIME_LTC_IN_CFG_EN = true ∧ s.bit TIME_LTC_IN_LAST_LOCK = true ∧
    2 * (ltcRate s.time.ltcRate).2 * unitsPerSec ≤ (s.time.mono - s.time.ltcAt) * (ltcRate s.time.ltcRate).1) := by decide +kernel

/-! Engines. -/

/-- The slot tables an engine runs: two laps of 50 and 51 steps, three descriptors. -/
def slot : SlotTab := ⟨0, 100, 0, 0, [⟨50, 0, false, 0, 0⟩, ⟨51, 0, false, 0, 0⟩], some (List.replicate 3 ⟨0x1000, 0, false, 0x80000, 1, 1, 0, 0, 0⟩), []⟩

/-- Engine 9 as slot 5, running with bundle `y` next; P1 is all ones, P2 zero, S1 an address of bank 2 it owns. -/
def eng (y : Syls) (f : EngS → EngS) (regs : List (Fld × Nat)) : State :=
  { up ([(ENG_STATUS_STATE.inst 9, esRun), (ENG_STATUS_SLOT.inst 9, 5), (BANK_OWNER_CODE.inst 2, 13), (DRAM_USABLE_MIB_MIB, 8)] ++ regs) with
    engs := [(9, f { EngS.reset with
      tab := some slot
      imem := [(0, encodeBundle y)]
      p := [(1, 0xFFFFFFFF), (3, 1)]
      s := [(1, 0x80040)] })] }

/-- Whether the engine issues the bundle without a fault. -/
def issuesB (s : State) (e : Nat) (y : Syls) : Bool :=
  s.issuing e && (s.eng e).kernelWin == none && !s.lapFull e && decodeBundle (s.bundleNow e) == y &&
    mapGet (fun _ => 0) (s.eng e).imemErr (s.fld (ENG_SEG_MAP_SEG.inst e) * 8192 + (s.eng e).pc) == 0 &&
    (bundleFault (s.atStep e) y 0 true false).1 == 0 &&
    (match mAccess (s.atStep e) y.m with
     | some a => s.admits a.bank (.eng (s.engSlot e)) && a.words.all fun w => s.bankErrAt a.bank w.1 == 0 &&
         !s.borrowed a.bank w.1 && (s.bank a.bank).undef.all fun q => q.1 != w.1 / 8 * 8
     | none => true)

theorem issues_of {s : State} {e : Nat} {y : Syls} (h : issuesB s e y = true) : s.Issues e y := by
  simp only [issuesB, Bool.and_eq_true, beq_iff_eq, Bool.not_eq_true'] at h
  obtain ⟨⟨⟨⟨⟨⟨h1, h2⟩, h3⟩, h4⟩, h5⟩, h6⟩, h7⟩ := h
  refine ⟨h1, h2, h3, h4, h5, h6, fun a ha => ?_⟩
  rw [ha] at h7
  simp only [Bool.and_eq_true, List.all_eq_true, beq_iff_eq, Bool.not_eq_true', bne_iff_ne] at h7
  exact ⟨h7.1, fun w hw => ⟨(h7.2 w hw).1.1, (h7.2 w hw).1.2, (h7.2 w hw).2⟩⟩

/-- The syllables of each format with good operands. -/
def vops : List VOp := [.mov, .add, .sub, .minu, .mins, .maxu, .maxs, .and, .or, .xor, .andn, .shl, .shru, .shrs, .absdu,
  .cmpeq, .cmpne, .cmpltu, .cmplts, .cmpleu, .cmples, .sel, .avgu, .perm, .rotl, .splat, .rsum, .pack, .unpklu, .unpkhu,
  .unpkls, .unpkhs, .zipl, .ziph, .mul, .mulhu, .mulhs, .mulq, .macq, .fma, .fmul, .fadd, .fcvtu, .ucvtf, .fmin, .fmax]

/-- The forms a vector operation may take: lane mode, scalar flag, saturation. -/
def vforms : List VF := [vf, { vf with h16 := true }, { vf with bs := true }, { vf with h16 := true, bs := true },
  { vf with h16 := true, sm := 1 }, { vf with sm := 1 }]

/-- A bundle with one vector operation, the other slots NOP. -/
def vBundle (vb : Bool) (o : VOp) (f : VF) : Syls := if vb then ⟨.nop, .op o f, .nop, .nop⟩ else ⟨.op o f, .nop, .nop, .nop⟩

theorem wit_vector_ops : (vops.all fun o => vforms.any fun f => [false, true].any fun vb =>
    (vBundle vb o f).wf && issuesB (eng (vBundle vb o f) id []) 9 (vBundle vb o f)) = true := by decide +kernel

/-- One M syllable of every operation, executed. -/
def mops : List MSyl := ([MOp.vld, .vldp, .vst, .vstp, .vsts, .vstc, .sld, .sldp, .sst, .sstp, .ssts, .sstc].map fun o => .mem o ⟨1, 4, 1, 3⟩) ++
  [.idx .xld ⟨1, 4, 1, 5⟩, .idx .xst ⟨1, 4, 1, 5⟩, .lane .vget ⟨1, 4, 5, 15⟩, .lane .vput ⟨1, 4, 5, 15⟩,
   .chan .scstart ⟨1, 1, 0, 0, 2⟩, .chan .scstat ⟨1, 0, 4, 0, 0⟩, .nop]

theorem wit_memory_ops : (mops.all fun m => (memCmd 9 m).isSome && (Syls.wf ⟨.nop, .nop, m, .nop⟩) &&
    issuesB (eng ⟨.nop, .nop, m, .nop⟩ id []) 9 ⟨.nop, .nop, m, .nop⟩) = true ∧
    (mAccess ((eng ⟨.nop, .nop, .mem .vst ⟨1, 4, 1, 3⟩, .nop⟩ id []).atStep 9) (.mem .vst ⟨1, 4, 1, 3⟩)).isSome = true ∧
    mStart ((eng ⟨.nop, .nop, .nop, .nop⟩ id []).atStep 9) (.chan .scstart ⟨1, 1, 0, 0, 2⟩) = some (1, 2) := by decide +kernel

/-- One C syllable of every operation but KEND, and NOP. -/
def cops : List CSyl := ([COp.add, .sub, .and, .or, .xor, .shl, .shru, .shrs, .mul, .mins, .maxs, .cmpeq, .cmpne, .cmpltu, .cmplts, .cmpleu,
    .cmples, .pand, .por].map fun o => .reg o ⟨1, 3, 1, 1⟩) ++
  [.reg .pnot ⟨1, 3, 1, 0⟩, .reg .rdlc ⟨1, 3, 0, 0⟩, .reg .rdsys ⟨1, 3, 1, 0⟩, .imm .addi ⟨1, 3, 1, 7⟩, .imm .lil ⟨1, 3, 0, 7⟩, .imm .lih ⟨1, 3, 0, 7⟩,  .flow .br ⟨3, 0, 0x77⟩, .flow .loopi ⟨3, 3, 9⟩, .flow .loops ⟨3, 1, 9⟩, .lapmark 0x41, .fence 3 3, .owopen 2 4, .nop]

theorem wit_control_ops : (cops.all fun c => (ctlCmd 9 c).isSome && (Syls.wf ⟨.nop, .nop, .nop, c⟩) &&
    issuesB (eng ⟨.nop, .nop, .nop, c⟩ id []) 9 ⟨.nop, .nop, .nop, c⟩) = true ∧
    issuesB (eng ⟨.nop, .nop, .nop, .fend⟩ (fun x => { x with atFend := true }) []) 9 ⟨.nop, .nop, .nop, .fend⟩ = true ∧
    (let s := eng ⟨.nop, .nop, .nop, .nop⟩ id []
     (s.atStep 9).branch = none ∧ (∀ l ∈ (s.atStep 9).loops, l.end_ ≠ (s.atStep 9).pc) ∧
     cBranch (s.atStep 9) (.flow .br ⟨3, 0, 0x77⟩) = some 0x77 ∧ cLoop (s.atStep 9) (.flow .loopi ⟨3, 3, 9⟩) = some (3, 9) ∧
     cLoop (s.atStep 9) (.flow .loopi ⟨3, 0, 9⟩) = some (0, 9)) := by decide +kernel

/-- A delay slot, the end of a loop with passes left and of its last pass, a fence with a busy channel. -/
theorem wit_control_places : issuesB (eng ⟨.nop, .nop, .nop, .nop⟩ (fun x => { x with branch := some 0x77, inDelay := true }) []) 9 ⟨.nop, .nop, .nop, .nop⟩ = true ∧
    issuesB (eng ⟨.nop, .nop, .nop, .nop⟩ (fun x => { x with loops := [⟨0, 0, 2⟩] }) []) 9 ⟨.nop, .nop, .nop, .nop⟩ = true ∧
    issuesB (eng ⟨.nop, .nop, .nop, .nop⟩ (fun x => { x with loops := [⟨0, 0, 1⟩] }) []) 9 ⟨.nop, .nop, .nop, .nop⟩ = true ∧
    issuesB (eng ⟨.nop, .nop, .nop, .fence 3 1⟩ (fun x => { x with sc0 := ⟨[0], 0⟩ }) []) 9 ⟨.nop, .nop, .nop, .fence 3 1⟩ = true ∧
    ((eng ⟨.nop, .nop, .nop, .fence 3 1⟩ (fun x => { x with sc0 := ⟨[0], 0⟩ }) []).atStep 9).chansBusy 1 = true := by decide +kernel

theorem wit_illegal_op : (let y : Syls := ⟨.nop, .bad 1, .nop, .nop⟩
    let s := eng ⟨.nop, .nop, .nop, .nop⟩ (fun x => { x with imem := [(0, BitVec.ofNat 128 (0xF * 2 ^ 60))] }) []
    s.issuing 9 = true ∧ (s.eng 9).kernelWin = none ∧ s.lapFull 9 = false ∧ decodeBundle (s.bundleNow 9) = y ∧
    mapGet (fun _ => 0) (s.eng 9).imemErr (s.fld (ENG_SEG_MAP_SEG.inst 9) * 8192 + (s.eng 9).pc) = 0) := by decide +kernel

theorem wit_kernel_end : (let y : Syls := ⟨.nop, .nop, .nop, .kend⟩
    let s := eng y (fun x => { x with window := some ⟨1, 10, [], 5, some ⟨3, 8, 0⟩, true⟩ }) [(ENG_STATUS_STATE.inst 9, esWindow)]
    s.issuing 9 = true ∧ (s.eng 9).kernelWin = some (⟨1, 10, [], 5, some ⟨3, 8, 0⟩, true⟩, ⟨3, 8, 0⟩) ∧ s.lapFull 9 = false ∧
    decodeBundle (s.bundleNow 9) = y ∧ (bundleFault (s.atStep 9) y 0 true true).1 = 0 ∧ mAccess (s.atStep 9) y.m = none ∧
    mapGet (fun _ => 0) (s.eng 9).imemErr (s.fld (ENG_SEG_MAP_SEG.inst 9) * 8192 + (s.eng 9).pc) = 0 ∧
    kernelOk (vPend (s.atStep 9) (s.atStep 9).step 0 y.va ++ vPend (s.atStep 9) (s.atStep 9).step 1 y.vb ++
      mPend (s.atStep 9) (s.atStep 9).step y.m []) y = true) := by decide +kernel

/-- An engine whose lap mark waits for its save, with the lap's count just enough. -/
def saving : State := eng ⟨.nop, .nop, .nop, .nop⟩ (fun x => { x with mark := some (0x81, 7) })
  [(ENG_STATUS_STATE.inst 9, esSave), (ENG_LAP_SAVE_A_ADDR.inst 9, 0x80000), (ENG_STEP_IN_LAP_STEPS.inst 9, 27)]

theorem wit_lap_save : (saving.eng 9).mark = some (0x81, 7) ∧ saving.engState 9 = esSave ∧ (saving.eng 9).chansBusy 3 = false ∧
    saving.plan.active = none ∧
    (∀ b ∈ (saving.eng 9).banks, b.bank < 32) ∧ (saving.eng 9).flush.parity = [] ∧
    saving.saveStalls (saving.saveAddr 9 (saving.fld (ENG_LAP_NOW_LAP.inst 9))) 0x81 = none ∧
    saving.admits (natBits (saving.saveAddr 9 0) 18 5) (.eng (saving.engSlot 9)) = true ∧
    27 + (7 + 8 * vgrpCount 0x81) ≤ saving.lapSteps 9 ∧ 27 + (7 + 8 * vgrpCount 0x81) = saving.lapSteps 9 := by decide +kernel

theorem wit_fence_window : (let s := eng ⟨.nop, .nop, .nop, .nop⟩ (fun x => { x with fenceMask := 1 }) [(ENG_STATUS_STATE.inst 9, esFence)]
    s.engState 9 = esFence ∧ (s.eng 9).mark = none ∧ (s.eng 9).stripeWait = false ∧ (s.eng 9).chansBusy (s.eng 9).fenceMask = false) ∧
    (let s := eng ⟨.nop, .nop, .nop, .nop⟩ (fun x => { x with window := some ⟨1, 0, [], 5, none, true⟩ }) [(ENG_STATUS_STATE.inst 9, esWindow)]
     s.engState 9 = esWindow ∧ (s.eng 9).window = some ⟨1, 0, [], 5, none, true⟩ ∧ (∀ j < 2, s.scTask (8 + 2 * s.engSlot 9 + j) = none)) := by decide +kernel

theorem wit_pad_overrun : (let s := eng ⟨.nop, .nop, .nop, .nop⟩ id [(ENG_STATUS_STATE.inst 9, esPad), (ENG_STEP_IN_LAP_STEPS.inst 9, 48)]
    48 + 1 < s.lapSteps 9 ∧ s.engState 9 = esPad ∧ (s.eng 9).atFend = false ∧ s.fld (ENG_STEP_IN_LAP_STEPS.inst 9) = 48) ∧
    (let s := eng ⟨.nop, .nop, .nop, .nop⟩ (fun x => { x with window := some ⟨1, 4, [], 5, none, true⟩ }) [(ENG_STATUS_STATE.inst 9, esWindow)]
     s.engState 9 = esWindow ∧ (s.eng 9).window = some ⟨1, 4, [], 5, none, true⟩ ∧ s.fld (ENG_STEP_IN_LAP_STEPS.inst 9) + 1 < s.lapSteps 9) ∧
    (let s := eng ⟨.nop, .nop, .nop, .nop⟩ id [(ENG_STEP_IN_LAP_STEPS.inst 9, 50)]
     s.issuing 9 = true ∧ s.lapFull 9 = true) := by decide +kernel

theorem wit_descriptor : (let s := eng ⟨.nop, .nop, .nop, .nop⟩ (fun x => { x with sc1 := ⟨[2], 0⟩ }) []
    s.inDram 0x1000 64 = true ∧ ((s.eng 9).chan 1).queue = [2] ∧ (s.eng 9).tab = some slot ∧
    ((s.eng 9).descNow 1).isSome = true ∧ (((s.eng 9).descNow 1).all fun q => s.descStalls (s.fld (ENG_FRAME_NOW_FRAME_LO.inst 9)) q.2 == none) = true ∧
    s.admits (natBits 0x80000 18 5) (.chan (s.engSlot 9) 1) = true ∧
    (∀ i < 8, s.dramErrAt (0x1000 + 8 * i) = 0 ∧ s.portE (natBits 0x80000 18 5) (natBits 0x80000 0 18 + 8 * i) ≠ some true)) ∧ (up []).gate .pcie 0x19 = .served := by decide +kernel

/-! Plans. A small image: one slot of one lap of 100 steps, its code FEND alone, one bank of the slot, at 24 to 120 Hz. -/

/-- The four sections before the signature, as bytes, by type. -/
def sections : List (Nat × List Byte) := [
  (1, valBytes 16 (0x2F * 2 ^ 26 * 2 ^ 96)),
  (2, valBytes 2 1 ++ valBytes 6 0 ++ valBytes 4 0x80000 ++ valBytes 4 0x84000 ++ valBytes 16 0 ++ valBytes 8 100),
  (4, []),
  (5, valBytes 8 (2 + 8 * 2 ^ 8 + 2 ^ 32)),
  (6, [])]

/-- Header, directory and sections, each at its own 64 bytes from 0x100 on; the signature is zeros. -/
def image : List Byte :=
  let dir (k : Nat) (x : Nat × List Byte) : List Byte :=
    valBytes 2 x.1 ++ valBytes 2 0 ++ valBytes 4 (0x100 + 64 * k) ++ valBytes 4 x.2.length ++ valBytes 4 (crc32 x.2)
  valBytes 8 0x4C50534954_4C4942 ++ valBytes 2 1 ++ valBytes 2 0x0200 ++ valBytes 2 0x80 ++ valBytes 2 1 ++
  valBytes 4 24 ++ valBytes 4 1 ++ valBytes 4 120 ++ valBytes 4 1 ++ valBytes 8 0 ++
  valBytes 2 0 ++ valBytes 2 0x0100 ++ valBytes 4 640 ++ valBytes 4 6 ++ valBytes 4 77 ++ valBytes 72 0 ++
  ((sections.zipIdx.map fun x => dir x.2 x.1).flatten ++ (valBytes 2 0xFFF ++ valBytes 2 0 ++ valBytes 4 576 ++ valBytes 4 64 ++ valBytes 4 0)) ++
  valBytes 32 0 ++ (sections.map fun x => x.2 ++ List.replicate (64 - x.2.length) 0).flatten ++ valBytes 64 0

/-- The image keeps every rule of R171 to R188 but for the signature, and its plan reads as written. -/
theorem test_image : image.length = 640 ∧ headerFault image 2 0 = none ∧ dirFault image 8 = none ∧ rateFault image (60, 1) = false ∧
    sectsFault image (tabsOf image) = none ∧ (tabsOf image).id = 77 ∧
    ((tabsOf image).slots.map fun t => t.laps.map fun l => l.steps) = [[100]] := by decide +kernel

/-- One byte of a section changed gives CRC at its entry; a rate out of range gives RATE. -/
theorem test_image_refused : dirFault (image.set 0x160 7) 8 = some (5, 1) ∧ rateFault image (23, 1) = true ∧
    dirFault image 0 = some (8, 255) := by decide +kernel

/-- The image in DRAM, its checking at its end. -/
def loading (checked : Bool) : State :=
  { up [(DRAM_USABLE_MIB_MIB, 8), (SYS_SILICON_REV_BASE_REV, 2)] with
    dram := (image.zipIdx.filter fun x => x.1 != 0).map fun x => (x.2, x.1)
    plan := { State.reset.plan with loading := some (0, checked), checked := if checked then some (tabsOf image) else none } }

theorem wit_load : (up []).gate .pcie 4 = .served ∧ (up []).mayWrite .pcie 4 = true ∧ (up []).plan.loading = none ∧
    (loading false).plan.loading ≠ none ∧ (1 : Word).getLsbD 0 = true ∧ (1 : Word).getLsbD 1 = false ∧
    (2 : Word).getLsbD 0 = false ∧ (2 : Word).getLsbD 1 = true := by decide +kernel

theorem wit_load_check : (let s := loading false
    let h := s.dramBytes 0 128
    s.plan.loading = some (0, false) ∧ hSize h = 640 ∧ s.inDram 0 (max 128 (hSize h)) = true ∧ hDegrade h ≤ 15 ∧
    headerFault h (s.fld SYS_SILICON_REV_BASE_REV) (s.fld SYS_SILICON_REV_METAL_REV) = none ∧
    s.dramBytes 0 640 = image) := by decide +kernel

theorem wit_load_good (k : Nat) : (loading false).dramErrAt k = 0 ∧ (loading true).dramErrAt k = 0 := ⟨rfl, rfl⟩

theorem wit_load_done : (loading true).plan.loading = some (0, true) ∧ (loading true).plan.checked = some (tabsOf image) ∧
    (loading true).groom.segCorr = [] ∧ (∀ b ∈ (tabsOf image).bankList, ((loading true).bank b).borrow = none) ∧
    (tabsOf image).slots.length = 1 ∧ (loading true).slotState 0 ≠ ssLost ∧ ((loading true).setFld (ENG_SEG_MAP_SEG_OK.inst 0) 15).spareSeg 0 = some 1 ∧
    (loading true).slotEngine 0 = 0 := by decide +kernel

theorem wit_code_copy : (let p := tabsOf image
    let s := { up [(ENG_SEG_MAP_SEG_OK.inst 0, 15)] with plan := { State.reset.plan with staged := some p, copyDue := [0] } }
    0 ∈ s.plan.copyDue ∧ s.plan.staged = some p ∧ p.slots[0]?.isSome = true ∧
    (List.range 4).find? (fun g => g != 0 % 4 && (s.fld (ENG_SEG_MAP_SEG_OK.inst (s.slotEngine 0))).testBit g) = some 1) := by
  decide +kernel

/-- A plan of one slot with the laps given, in STANDARD or STRIPE of two stripes. -/
def laps (l : List LapEnt) (stripe : Bool) : PlanTabs :=
  { plan [] with slots := [⟨0, 100, 0, 0, l, some [], []⟩], stripe := stripe, stripes := if stripe then 2 else 0 }

/-- A state in which frame 5 of plan `p` is due. -/
def due (p : PlanTabs) : State := { timed (10 ^ 9 * 65536) id [] with plan := { State.reset.plan with active := some p, frameDue := some 5 } }

/-- A frame that fits, and one of 3 · 10^7 steps that does not. -/
theorem wit_frame_start : (let p := laps [⟨6144, 0, false, 0, 0⟩] false
    let s := due p
    s.plan.frameDue = some 5 ∧ s.plan.active = some p ∧ s.armed 2 = false ∧ s.armed 4 = false ∧ s.inRecovery = false ∧
    p.stripe = false ∧ s.groom.returned = [] ∧ s.plan.stopWriting = false ∧ s.plan.reports = [] ∧ s.plan.heldFaults = [] ∧
    s.plan.oldBanks = [] ∧ p.banks = [] ∧
    (admitFrame p s.rate s.tAdm (min s.plan.shed p.degrade) s.plan.ok (min (s.act PLAN_SHED_MIN_LEVELS) p.degrade)
      (s.fld PLAN_MARGIN_CFG_RESTORE_PCT) (s.fld PLAN_MARGIN_CFG_RESTORE_FRAMES)).1 = false) ∧
    (let p := laps [⟨30000000, 0, false, 0, 0⟩] false
     let s := due p
     (admitFrame p s.rate s.tAdm (min s.plan.shed p.degrade) s.plan.ok (min (s.act PLAN_SHED_MIN_LEVELS) p.degrade)
      (s.fld PLAN_MARGIN_CFG_RESTORE_PCT) (s.fld PLAN_MARGIN_CFG_RESTORE_FRAMES)).1 = true) := by decide +kernel

theorem wit_stripes : (let p := laps [⟨10, 0, true, 0, 0⟩, ⟨10, 0, true, 0, 0⟩] true
    let s := { due p with plan := { State.reset.plan with active := some p, frames := [{ frame [] with n := 2, plan := p }], stripeNext := 1 } }
    s.plan.active = some p ∧ p.stripe = true ∧ s.plan.frameDue = none ∧ (s.runningFrame.map fun f => (f.n, f.plan)) = some (2, p) ∧
    s.plan.stripeNext ≤ 1 ∧ 1 < p.stripes ∧ s.stripeAt p (2 - 1) 1 ≤ s.time.now) := by decide +kernel

/-- A state with plan slot 5 on engine 9, changed by `f`. -/
def served (regs : List (Fld × Nat)) (f : PlanS → PlanS) : State :=
  let s := eng ⟨.nop, .nop, .nop, .nop⟩ (fun x => { x with window := some ⟨1, 100, [], 5, none, true⟩ }) ([(PLAN_SLOT_ENGINE.nth 5, 9), (PLAN_SLOT_STATE.nth 5, ssRun), (PLAN_STATUS_STATE, 1)] ++ regs)
  { s with plan := f s.plan }

theorem wit_notices : (let s := served [] fun q => { q with notices := [(5, 0, 0)] }
    s.plan.notices = [(5, 0, 0)] ∧ s.slotState 5 ≠ ssLost ∧ s.slotTab 5 = some slot ∧
    s.fld (ENG_FRAME_NOW_FRAME_LO.inst (s.slotEngine 5)) = 0 ∧
    (s.setFld (ENG_FRAME_NOW_FRAME_LO.inst 9) 1).fld (ENG_FRAME_NOW_FRAME_LO.inst (s.slotEngine 5)) ≠ 0 ∧
    nextLap slot (s.eng (s.slotEngine 5)).shed (0 + 1) = some 1 ∧ slot.laps[1]?.isSome = true) := by decide +kernel

theorem wit_take_over : (let s := { served [(ENG_STATUS_ROLE.inst 3, roleReserve)] (fun q => { q with
      reports := [(9, 4, 0)], reserve := [(1, 3)], watch := [(5, ⟨0, 10, false, true⟩)] }) with
      time := { State.reset.time with now := 3000 * 65536, mono := 3000 * 65536 } }
    s.plan.reports = [(9, 4, 0)] ∧ s.role 9 = roleIn ∧ s.slotEngine (s.engSlot 9) = 9 ∧ s.slotState 5 = ssRun ∧
    s.engState (s.slotEngine 5) ∉ [esFence, esSave, esIdle, esFaulted] ∧
    (s.eng (s.slotEngine 5)).lastIssue + 2000 * 65536 ≤ s.time.mono ∧ (s.watch 5).active = true ∧ (s.watch 5).due ≤ s.monoPs ∧
    (s.watch 5).lifted = false ∧ s.engState (s.slotEngine 5) ≠ esFence ∧ s.slotEngine 5 < 10 ∧
    s.bit PLAN_STATUS_RESHADOW_PENDING = false ∧ (s.setBit PLAN_STATUS_RESHADOW_PENDING true).bit PLAN_STATUS_RESHADOW_PENDING = true ∧
    (s.setFld (ENG_STATUS_ROLE.inst 9) roleRetired).role 9 ≠ roleIn ∧ s.sched.running = [] ∧ s.reserveOf (5 / 4) = some 3 ∧ s.reserveOf 0 = none ∧
    (s.setEngState 9 esFence).engState (s.slotEngine 5) = esFence) := by decide +kernel

theorem wit_restore : (let s := served [(ENG_STATUS_STATE.inst 3, esResuming)] fun q => { q with restoring := [(3, 9, 4, some 0x80000)] }
    s.plan.restoring.find? (fun x => x.1 == 3) = some (3, 9, 4, some 0x80000) ∧ s.engState 3 = esResuming ∧
    (∀ k < 24, s.bankErrAt (natBits 0x80000 18 5) (natBits 0x80000 0 18 + 8 * k) = 0)) := by decide +kernel

theorem wit_reshadow : (let s := { served [(PLAN_STATUS_RESHADOW_PENDING, 1), (ENG_STATUS_ROLE.inst 3, roleReserve)] (fun q => { q with
      reserve := [(1, 3)], active := some { plan [] with slots := List.replicate 6 slot }, stopWriting := true, writeDue := [5] }) with pending := [] }
    s.bit PLAN_STATUS_RESHADOW_PENDING = true ∧ s.reserveOf 1 = some 3 ∧ s.reserveOf 0 ≠ s.reserveOf 1 ∧
    (s.plan.active.map fun p => p.slots[4 * 1 + 1]?) = some (some slot) ∧ s.plan.stopWriting = true ∧
    s.plan.writeDue = [5] ∧ s.slotEngine 5 < 10) := by
  decide +kernel

/-! Banks. -/

/-- A write of one dword to bank 2 at offset 0x40, and to a word across two dwords; a read. -/
theorem wit_bank_requests : (let s := up [(BANK_OWNER_CODE.inst 2, 1)]
    let w := req true 0x80040 [15] [7]
    s.hostGate = .served ∧ w.addr < 0x800000 ∧ bankReqOk w = true ∧ s.owner (natBits w.addr 18 5) = 1 ∧
    (s.bank 2).stalled = [] ∧ (s.bank 2).borrow = none ∧
    (∀ x ∈ reqWords 0x40 w.be w.data, s.bankErrAt 2 x.1 = 0) ∧ reqWords 0x40 w.be w.data = [(0x40, 0xFFFFFFFF, 7)] ∧
    (0x40 : Nat) ∈ (⟨[], [0x40], false⟩ : BankMeet).eWrites ∧ bankReqOk (req true 0x80041 [15] [7]) = false ∧
    bankReqOk (req false 0x80044 [15] []) = true ∧ (up []).owner 2 ≠ 1 ∧ s.gate .pcie (0x20 + 2) = .served) ∧
    (let s := { up [] with banks := [(2, ⟨some ⟨0, [], []⟩, [], none, none, [], [], [], []⟩)] }
     (s.bank 2).borrow = some ⟨0, [], []⟩ ∧ (0 : Nat) = natBits 0x80040 12 6) := by decide +kernel

theorem wit_groomer : (let s := { timed 500 id [(BANK_CTRL_SCRUB_EN.inst 31, 1), ((BANK_SPARE_MAP_GOOD.inst 31).nth 3, 1)] with
      banks := [(31, ⟨some ⟨63, [], []⟩, [⟨0, 0, .host 0 (req true 0 [15] [1]) ⟨[], [], false⟩⟩], some 500, some (7, 3), [], [], [9], []⟩)] }
    (up []).mayBorrow 31 = true ∧ (s.bank 31).borrow = some ⟨63, [], []⟩ ∧ (s.bank 31).stalled = [⟨0, 0, .host 0 (req true 0 [15] [1]) ⟨[], [], false⟩⟩] ∧
    (s.bank 31).holdoff = some 500 ∧ 500 ≤ s.time.mono ∧ s.bit (BANK_CTRL_SCRUB_EN.inst 31) = true ∧
    (s.bank 31).mirror = some (7, 3) ∧ (s.setBank 31 ⟨none, [], none, none, [], [], [9], []⟩).freeSpare 31 = some 3 ∧
    (9 : Nat) ∈ (s.bank 31).sparing ∧ ({ up [] with banks := [(31, ⟨none, [], none, none, [], [], [9], []⟩)] }).freeSpare 31 = none ∧
    ((up []).bankErrAt 31 0) = 0 ∧ ({ up [] with bankErr := [(bankKey 31 8, 1)] }).bankErrAt 31 8 = 1 ∧
    ({ up [] with bankErr := [(bankKey 31 8, 2)] }).bankErrAt 31 8 = 2) := by decide +kernel

/-! The scheduler. -/

/-- Context 255 in state `st`, its descriptor in bank 2 (owner SCHED) with word 0 `w0` and word 1 `w1`. -/
def task (st w0 w1 : Nat) (regs : List (Fld × Nat)) (f : SchedS → SchedS) : State :=
  { up ([(BANK_OWNER_CODE.inst 2, 2), (SCHED_CTX_STATE_STATE.nth 255, st), (SCHED_CTX_CFG_DESC_ADDR.nth 255, 0x80000),
      (SCHED_CTX_CFG_PRIO.nth 255, 15), (SCHED_CTX_STATE_UNIT.nth 255, natBits w0 0 4), (SCHED_CTX_STATE_INDEX.nth 255, natBits w0 4 5)] ++ regs) with
    bankMem := ([(bankKey 2 0, BitVec.ofNat 64 w0), (bankKey 2 8, BitVec.ofNat 64 w1)] : List (Nat × DWord)).filter fun x => x.2 != 0
    sched := f { State.reset.sched with ctx := [(255, ⟨w0, w1, 100⟩)] } }

theorem wit_task_commands : (let s := task csDormant (5 + 3 * 2 ^ 9) 0 [] id
    s.gate .pcie 5 = .served ∧ s.mayWrite .pcie 5 = true ∧ s.sched.faults = [] ∧ s.sched.done = [] ∧ s.marks = [] ∧
    s.sched.aborts = [] ∧ s.sched.waits = [] ∧ s.sched.voids = [] ∧ s.portE 2 0 ≠ some true ∧ s.portE 2 8 ≠ some true ∧ s.portE 2 56 ≠ some true ∧ s.ctxState 255 = csDormant ∧ s.owner (natBits (s.ctxDesc 255) 18 5) = 2 ∧
    s.bankErrAt 2 0 = 0 ∧ s.bankErrAt 2 8 = 0 ∧ s.descOk 255 (s.bankWord 2 0).toNat (s.bankWord 2 8).toNat = true ∧
    s.descOk 255 5 (2 ^ 9) = false ∧ s.waiters 255 = [] ∧ (up []).owner 0 ≠ 2 ∧ (up []).ctxState 3 = csFree) ∧
    (∀ start < 5, (task csDone (5 + start * 2 ^ 9) 0 [] id).descOk 255 (5 + start * 2 ^ 9) 0 = true) := by decide +kernel

theorem wit_task_running : (let s := task csRunning 0 (2 ^ 32 + 1) [(PLAN_SLOT_STATE.nth 0, ssRun)] fun x => { x with running := [(0, 255)] }
    s.ctxState 255 = csRunning ∧ s.ctxRunsOn 255 = some 0 ∧ s.unitCtx 0 = some 255 ∧ (0 : Nat) ∉ s.sched.commit ∧
    (0 : Nat) ∈ (s.modSched fun x => { x with commit := [0] }).sched.commit) := by decide +kernel

theorem wit_marks : (let s := { task csDelayed (5 + 2 ^ 9) 0 [] (fun x => { x with delay := [255] }) with marks := [.tick 100, .transit 5, .trigger 63] }
    s.sched.aborts = [] ∧ s.sched.waits = [] ∧ s.sched.voids = [] ∧ s.sched.delay.Nodup ∧ (∀ k ∈ s.sched.delay, k < 256 ∧ s.ctxState k = csDelayed) ∧ s.marks = [.tick 100, .transit 5, .trigger 63] ∧ s.sched.faults = [] ∧ s.sched.done = [] ∧
    s.sched.delay.filter (fun k => decide (((s.ctx k).wake + 2 ^ 32 - s.fld SCHED_TICK_NOW_TICKS) % 2 ^ 32 ≤ 100)) = [255] ∧
    s.sched.delay.filter (fun k => decide (((s.ctx k).wake + 2 ^ 32 - s.fld SCHED_TICK_NOW_TICKS) % 2 ^ 32 ≤ 99)) = []) ∧
    ({ up [] with marks := [.transit 5] }).marks = [.transit 5] ∧ ({ up [] with marks := [.trigger 63] }).marks = [.trigger 63] ∧
    (let s := task csRunning 5 0 [(SCHED_CTX_STATE_STATE.nth 7, csBlocked)] fun x => { x with
       running := [(41, 255)], done := [(41, 9)], ctx := [(7, ⟨2 * 2 ^ 9 + 255 * 2 ^ 16, 0, 0⟩), (255, ⟨5, 0, 0⟩)] }
     s.sched.done = [(41, 9)] ∧ s.unitCtx 41 = some 255 ∧ s.waiters 255 = [7]) ∧
    (task csRunning 5 0 [] fun x => { x with running := [(41, 255)], faults := [(41, ecUnit, 9)] }).sched.faults = [(41, ecUnit, 9)] := by
  decide +kernel

theorem wit_dispatch : (let s := task csReady 4 1 [(SCHED_CTRL_DISPATCH_EN, 1)] fun x => { x with ready := [(15, [255])] }
    s.sched.faults = [] ∧ s.sched.done = [] ∧ s.marks = [] ∧ s.sched.waits = [] ∧ s.sched.voids = [] ∧ (∀ k ∈ s.readyOrder, k < 256) ∧ s.bit SCHED_CTRL_DISPATCH_EN = true ∧ s.unitCtx 41 = none ∧
    s.candidate 41 = some 255 ∧ s.ctxState 255 = csReady ∧ s.owner (natBits (s.ctxDesc 255) 18 5) = 2 ∧
    (∀ i < 5, s.bankErrAt (natBits (s.ctxDesc 255) 18 5) (natBits (s.ctxDesc 255) 0 18 + 16 + 8 * i) = 0) ∧
    (up [(SCHED_CTRL_DISPATCH_EN, 0)]).bit SCHED_CTRL_DISPATCH_EN = false) := by decide +kernel

theorem wit_window_dispatch : (let s := { task csReady 0 (2 ^ 5 + 2 * 2 ^ 8 + 20 * 2 ^ 32) [(SCHED_CTRL_DISPATCH_EN, 1), (ENG_STATUS_STATE.inst 9, esWindow), (ENG_STATUS_SLOT.inst 9, 5)]
      (fun x => { x with ready := [(15, [255])] }) with
      engs := [(9, { EngS.reset with window := some ⟨2, 28, [], 5, none, true⟩ })] }
    (s.eng 9).window = some ⟨2, 28, [], 5, none, true⟩ ∧ s.engState 9 = esWindow ∧ s.unitCtx (s.engSlot 9) = none ∧
    s.windowCandidate (s.engSlot 9) 2 28 = some 255 ∧ s.windowCandidate (s.engSlot 9) 2 27 = none) := by decide +kernel

theorem wit_trace : (let s := task csFree 0 0 [] fun x => { x with trace := [(1, 2)] }
    s.sched.trace = [(1, 2)] ∧ s.prodIs 2 endDevice = true ∧ s.fifoRing 2 = false ∧ (s.fifo 2).stalls = [] ∧ 2 ≤ s.fifoSpace 2 ∧ (s.fifo 2).waiting = false ∧
    (s.setBit (FIFO_STATUS_HELD.inst 2) true).fifoSpace 2 < 2) := by decide +kernel

/-! FIFOs and the host transfer unit. -/

/-- A FIFO of the words and waiting pushes given. -/
def fq (ws : List (Option DWord)) (l : List Stall) : FifoS := { FifoS.idle with words := ws, stalls := l }

/-- A push of the host, by PCIe, that waits with the word 7, a word 8 behind it, and FULL set for it. -/
def waits : Stall := ⟨endHost, 1, [7], [8], 0, true⟩

/-- FIFO 15 between the host and itself, with contents and registers. -/
def fifo (x : FifoS) (regs : List (Fld × Nat)) : State :=
  force [(FIFO_BIND_PROD.inst 15, endHost), (FIFO_BIND_CONS.inst 15, endHost)] { timed (10 ^ 7 * 65536) id regs with fifos := [(15, x)] }

theorem wit_fifo_push : (let s := fifo FifoS.idle []
    s.gate .pcie (fifoPage 15) = .served ∧ s.mayWrite .pcie (fifoPage 15) = true ∧ s.prodIs 15 endHost = true ∧ 1 ≤ s.fifoSpace 15 ∧
    (s.fifo 15).stalls = [] ∧ s.bit (FIFO_STATUS_DROPPING.inst 15) = false ∧ s.fifoRing 15 = false ∧
    (up []).prodIs 15 endHost = false) ∧
    (let s := fifo (fq [] [waits]) [(FIFO_STATUS_HELD.inst 15, 1), (FIFO_STATUS_DROPPING.inst 15, 1)]
     s.fifoSpace 15 = 0 ∧ (s.fifo 15).stalls = [waits] ∧ s.stallOver 15 waits = true ∧ s.host.held = [] ∧ s.pcieHeld = true ∧ ((s.fifo 15).stalls.any fun k => k.prod == endHost && k.req == reqCode .pcie) = true ∧
     ((s.fifo 15).stalls.any fun k => k.prod == endHost && k.req == reqCode .mspi) = false ∧ s.bit (FIFO_STATUS_DROPPING.inst 15) = true ∧
     0 + s.fld (FIFO_PUSH_STALL_LIMIT_US.inst 15) * 1000 * unitsPerNs ≤ s.time.mono) ∧
    1 ≤ (fifo (fq [] [waits]) []).fifoSpace 15 ∧ waits.req + ({ waits with req := 2 }).req = 3 := by decide +kernel

theorem wit_fifo_pop : (let s := fifo (fq [some 7, none] []) [(FIFO_IDLE_TIMEOUT_US.inst 15, 1)]
    s.gate .pcie (fifoPage 15) = .served ∧ s.consIs 15 endHost = true ∧ (s.fifo 15).words = [some 7, none] ∧
    s.fld (FIFO_IDLE_TIMEOUT_US.inst 15) ≠ 0 ∧ (s.fifo 15).idleUp = false ∧
    (s.fifo 15).idleAt + s.fld (FIFO_IDLE_TIMEOUT_US.inst 15) * 1000 * unitsPerNs ≤ s.time.mono) ∧
    ((fifo (fq [none] []) []).fifo 15).words = [none] ∧ (fifo (fq [none] []) []).headPoison 15 = none ∧
    (fifo { fq [none] [] with headBad := some (0, 9) } []).headPoison 15 = some 9 ∧ (up []).consIs 15 endHost = false ∧
    ((fifo FifoS.idle []).fifo 15).words = [] := by decide +kernel

/-- FIFO 15 as a ring of 512 words with a mark three words back. -/
def marked : State := force [(FIFO_RING_SIZE_LOG2.inst 15, 12)]
  (fifo (fq [some 7] []) [(FIFO_STATUS_MARK_VALID.inst 15, 1), (FIFO_RD_POS_POS.inst 15, 3)])

theorem wit_fifo_marks : (let s := marked
    s.gate .pcie (fifoPage 15) = .served ∧ s.mayWrite .pcie (fifoPage 15) = true ∧ s.fifoRing 15 = true ∧
    s.bit (FIFO_STATUS_MARK_VALID.inst 15) = true ∧ s.bit (FIFO_STATUS_MARK_LOST.inst 15) = false ∧ s.sinceMark 15 = 3) ∧
    (∀ i < 6, (BitVec.ofNat 32 (2 ^ i) : Word).toNat % 64 = 2 ^ i) ∧ (fifo FifoS.idle []).fifoRing 15 = false := by decide +kernel

/-- The host transfer unit running a task of context 255 that moves 64 bytes at DRAM 0x1000 in a direction. -/
def hdma (dir : Nat) (ends : List (Fld × Nat)) (x : FifoS) : State :=
  force ends { task csRunning 5 (dir + 15 * 16) [(DRAM_USABLE_MIB_MIB, 8)] (fun y => { y with running := [(42, 255)], params := [(42, [0x2000, 0x1000, 64])] }) with
    fifos := [(15, x)] }

theorem wit_hdma : State.reset.unitCtx hdmaUnit = none ∧ (∀ dir < 4, (hdma dir [] FifoS.idle).unitCtx hdmaUnit = some 255 ∧
      (hdma dir [] FifoS.idle).hdmaReported = false ∧ natBits ((hdma dir [] FifoS.idle).ctx 255).w1 0 2 = dir ∧
      natBits (((hdma dir [] FifoS.idle).unitParams hdmaUnit).getD 2 0) 0 32 / 8 * 8 = 64) ∧
    (let s := hdma 0 [(FIFO_BIND_CONS.inst 15, endHdma)] (fq [some 1, some 2] [])
     s.consIs 15 endHdma = true ∧ (s.fifo 15).words = [(1 : DWord), 2].map some ++ [] ∧
     ([1, 2] : List DWord).length = min (min (64 - s.hdmaDone) (64 - (0x2000 + s.hdmaDone) % 64) / 8) (s.fifo 15).words.length) ∧
    (hdma 0 [] FifoS.idle).consIs 15 endHdma = false ∧ (hdma 1 [] FifoS.idle).prodIs 15 endHdma = false ∧
    (let s := hdma 1 [(FIFO_BIND_PROD.inst 15, endHdma)] FifoS.idle
     s.prodIs 15 endHdma = true ∧ (s.fifo 15).stalls = [] ∧ s.fifoRing 15 = false) ∧
    (hdma 2 [] FifoS.idle).inDram 0x1000 64 = true ∧ (up []).inDram 0x1000 64 = false ∧
    ({ hdma 2 [] FifoS.idle with dramErr := [(0x200, 2)] }).dramErrAt 0x1000 = 2 := by decide +kernel

/-! The command unit. -/

/-- FIFO0 with words waiting and commands accepted. -/
def cmdUnit (ws : List DWord) (cs : List CmdS) : State := { up [] with fifos := [(0, fq (ws.map some) [])], cmds := cs }

/-- Word 0 of a command: sequence number, class and length of its record. -/
def cmdWord (seq cls len : Nat) : DWord := BitVec.ofNat 64 (seq + cls * 2 ^ 32 + len * 2 ^ 40)

theorem wit_command_accept : (let s := cmdUnit [cmdWord 0 2 2, 9] []
    s.cmds.length < 4 ∧ (s.fifo 0).words = some (cmdWord 0 2 2) :: [some 9] ∧ cmdWordOk (cmdWord 0 2 2).toNat = true ∧
    s.fld FIFO_LAST_ACCEPTED_SEQ = 0xFFFFFFFF ∧ natBits (cmdWord 0 2 2).toNat 40 8 = 2 ∧ natBits (cmdWord 0 2 2).toNat 32 8 ≠ 0 ∧
    (0 + 2 ^ 32 - s.fld FIFO_LAST_ACCEPTED_SEQ) % 2 ^ 32 = 1) ∧ cmdWordOk (cmdWord 0 9 2).toNat = false ∧
    cmdWordOk (cmdWord 0 0 2).toNat = true ∧ (up []).fifoLevel 0 = 0 ∧
    (0xFFFFFFFF + 2 ^ 32 - (up []).fld FIFO_LAST_ACCEPTED_SEQ) % 2 ^ 32 = 0 := by decide +kernel

theorem wit_command_execute : (∀ cls < 4, (cmdUnit [] [⟨7, cls, [BitVec.ofNat 64 (7 + 8 * 2 ^ 12)], false, false, 0⟩]).cmds =
      [⟨7, cls, [BitVec.ofNat 64 (7 + 8 * 2 ^ 12)], false, false, 0⟩]) ∧
    (let p := natBits (BitVec.ofNat 64 (7 + 8 * 2 ^ 12) : DWord).toNat 0 10
     let off := natBits (BitVec.ofNat 64 (7 + 8 * 2 ^ 12) : DWord).toNat 12 12 / 4 * 4
     p = 7 ∧ off = 8 ∧ plainOff p off = true ∧ (up []).gate .pcie p = .served ∧ (regRow? p off).isSome = true ∧ writableOff p off = true ∧
     (up []).mayWrite .pcie p = true) ∧ blockType 14 = 0 ∧ (up []).recQ = [] ∧ (up []).evtBuf = [] ∧
    (up []).bit (HOST_PAGE_ROUTE_RECORD_EN.nth (fifoPage 0)) = true := by decide +kernel

/-! Network ports. -/

/-- Port 3 with its link up, changed by `f`. -/
def net (regs : List (Fld × Nat)) (f : NetS → NetS) : State :=
  { timed (10 ^ 9 * 65536) id ([(NET_STATUS_LINK.inst 3, 1), (NET_CTRL_MODE.inst 3, 2), (DRAM_USABLE_MIB_MIB, 8)] ++ regs) with nets := [(3, f NetS.idle)] }

theorem wit_ports : (let s := net [(NET_STATUS_PAUSED.inst 3, 1), (NET_STATUS_PAUSE_HOLDOFF.inst 3, 1), (NET_PAUSE_CFG_WD_EN.inst 3, 1), (NET_PAUSE_CFG_HONOUR.inst 3, 1),
      (NET_LPI_CFG_EN.inst 3, 1)] id
    s.gate .pcie (netPage 3) = .served ∧ s.mayWrite .pcie (netPage 3) = true ∧ s.netMode 3 = 2 ∧ natBits (2 : Word).toNat 0 3 = s.netMode 3 ∧
    s.netUp 3 = true ∧ s.bit (NET_STATUS_PAUSED.inst 3) = true ∧ (s.net 3).pauseEnd ≤ s.time.mono ∧
    s.bit (NET_PAUSE_CFG_WD_EN.inst 3) = true ∧ s.fld (NET_PAUSE_WD_US_US.inst 3) ≤ (s.time.mono - (s.net 3).pauseSince) / (1000 * unitsPerNs) ∧
    s.bit (NET_STATUS_PAUSE_HOLDOFF.inst 3) = true ∧ (s.net 3).holdEnd ≤ s.time.mono ∧ s.bit (NET_PAUSE_CFG_HONOUR.inst 3) = true ∧
    (net [(NET_PAUSE_CFG_HONOUR.inst 3, 1)] id).bit (NET_STATUS_PAUSE_HOLDOFF.inst 3) = false ∧
    2 ≤ s.netMode 3 ∧ s.netMode 3 ≤ 4 ∧ s.bit (NET_LPI_CFG_EN.inst 3) = true ∧ (s.fld TIME_PTP_CFG_PORT_EN).testBit 3 = false ∧
    (s.net 3).idleSince + s.fld (NET_LPI_CFG_IDLE_US.inst 3) * 1000 * unitsPerNs ≤ s.time.mono ∧ (s.net 3).buf = [] ∧ (s.net 3).queue = [] ∧ s.nextPaced 3 = none) ∧
    (let s := up [(NET_CTRL_MODE.inst 3, 2)]
     s.netMode 3 ≠ 0 ∧ s.netUp 3 = false ∧ (up []).netMode 3 = 0) ∧
    (let s := net [(NET_STATUS_TX_LPI.inst 3, 1)] fun x => { x with buf := [⟨4, 3, 0, [], none, none, none, none⟩] }
     s.bit (NET_STATUS_TX_LPI.inst 3) = true ∧ ∃ f ∈ (s.net 3).buf, f.src ≠ 1) := by decide +kernel

/-- A frame of 60 bytes and an EtherType. -/
def ether (t : Nat) (op : Nat) : List Byte := List.replicate 12 1 ++ valBytesBE 2 t ++ valBytesBE 2 op ++ List.replicate 44 0

theorem wit_frames : (let s := force [((NET_FLT_MATCH_EN.inst 3).nth 31, 1), ((NET_RXQ_CFG_DATA_LOG2.inst 3).nth 0, 12), ((NET_RXQ_CFG_CPL_LOG2.inst 3).nth 0, 12),
      ((NET_RXQ_CPL_BASE_BASE.inst 3).nth 0, 1), ((NET_RXQ_CFG_CONSUMER.inst 3).nth 0, 0)] (net [] id)
    let bs := ether 0x0800 0
    s.netUp 3 = true ∧ 64 ≤ bs.length + 4 ∧ beField bs 12 2 ≠ 0x8808 ∧ bs.length + 4 ≤ s.fld (NET_MAX_LEN_BYTES.inst 3) ∧ s.ptpCopies 3 bs = false ∧ s.rxLevel 3 0 < 65536 ∧
    s.filterHit 3 31 bs = true ∧ (∀ m < 31, s.filterHit 3 m bs = false) ∧ s.act ((NET_FLT_ACT_DROP.inst 3).nth 31) = 0 ∧ s.act ((NET_FLT_ACT_QUEUE.inst 3).nth 31) = 0 ∧
    s.act ((NET_RXQ_CFG_CONSUMER.inst 3).nth 0) = 0 ∧ s.inDram 0 60 = true ∧ s.inDram 4096 16 = true ∧
    2 ^ s.act ((NET_RXQ_CFG_DATA_LOG2.inst 3).nth 0) / 8 = 512 ∧ 2 ^ s.act ((NET_RXQ_CFG_CPL_LOG2.inst 3).nth 0) / 16 = 256 ∧
    beField (ether 0x8808 1) 12 2 = 0x8808 ∧ beField (ether 0x8808 1) 14 2 = 1 ∧ beField (ether 0x8808 2) 14 2 ≠ 1 ∧
    (up []).netUp 3 = false ∧ (∀ m < 32, (net [] id).filterHit 3 m bs = false) ∧
    (force [(NET_RX_DEFAULT_DROP.inst 3, 1)] (net [] id)).act (NET_RX_DEFAULT_DROP.inst 3) = 1 ∧
    (force [((NET_FLT_ACT_DROP.inst 3).nth 31, 1)] s).act ((NET_FLT_ACT_DROP.inst 3).nth 31) = 1) := by decide +kernel

theorem wit_stamps : (let s := net [] fun x => { x with tsq := [.stamp 5 6 7, .gap 1 2 true] }
    s.gate .pcie (netPage 3) = .served ∧ (s.net 3).tsq = [.stamp 5 6 7, .gap 1 2 true] ∧ ((net [] id).net 3).tsq = []) := by decide +kernel

/-- Ring 3 of port 3, of two descriptors at DRAM 0x1000, the first a whole frame of 46 bytes with its header at 0x2000; RING_TAIL 1. -/
def ring (word0 : Nat) : State :=
  let put (a n v : Nat) : List (Nat × Byte) := ((valBytes n v).zipIdx.map fun x => (a + x.2, x.1)).filter fun x => x.2 != 0
  { force [((NET_TXR_CFG_EN.inst 3).nth 3, 1), ((NET_TXR_CFG_LOG2.inst 3).nth 3, 1), ((NET_TXR_BASE_BASE.inst 3).nth 3, 1)]
      (net [((NET_TXR_TAIL_INDEX.inst 3).nth 3, 1)] id) with
    dram := put 0x1000 8 word0 ++ put 0x1008 8 0x3000 ++ put 0x1010 8 46 }

theorem wit_ring_take : (let s := ring (0x2000 + 14 * 2 ^ 40)
    let a := s.ringBase 3 3
    let d : TxDesc := ⟨(List.range 8).map fun i => s.dramWord (a + 8 * i)⟩
    s.gate .pcie (netPage 3) = .served ∧ s.mayWrite .pcie (netPage 3) = true ∧ s.act ((NET_TXR_CFG_EN.inst 3).nth 3) = 1 ∧
    s.ringRun 3 3 = none ∧ s.fld ((NET_TXR_HEAD_INDEX.inst 3).nth 3) % s.ringSize 3 3 = 0 ∧
    s.fld ((NET_TXR_TAIL_INDEX.inst 3).nth 3) % s.ringSize 3 3 = 1 ∧ a = 0x1000 ∧ s.inDram a 64 = true ∧ s.netUp 3 = true ∧
    d.flag 58 = false ∧ s.descFault 3 d (s.dramBytes d.hdrAddr d.hdrLen) [] = tcOk) ∧
    (let s := ring (0x2000 + 13 * 2 ^ 40)
     let d : TxDesc := ⟨(List.range 8).map fun i => s.dramWord (s.ringBase 3 3 + 8 * i)⟩
     s.descFault 3 d (s.dramBytes d.hdrAddr d.hdrLen) [] = tcBad) := by decide +kernel

theorem wit_ring_run : (let run : RingRun := ⟨0, 0, 1, 0, some 5, tcOk, tcOk, true, 1000000000, 3, true⟩
    let s := net [] fun x => { x with rings := [(3, run)] }
    s.ringRun 3 3 = some run ∧ run.left = 0 ∧ run.code < 8 ∧ run.code2 < 8 ∧ run.held = true ∧ (s.st32 + 2 ^ 32 - run.launch) % 2 ^ 32 < 2 ^ 31) := by
  decide +kernel

theorem wit_arbiter : (let f : TxFrame := ⟨4, 3, 0, [1], none, none, none, none⟩
    let s := net [] fun x => { x with buf := [f] }
    s.netUp 3 = true ∧ s.bit (NET_STATUS_PAUSED.inst 3) = false ∧ s.bit (NET_STATUS_TX_LPI.inst 3) = false ∧
    (s.net 3).lineFree ≤ s.time.mono ∧ txOrder[3]? = some (4, 3) ∧ ((s.net 3).buf.find? fun g => g.src == 4 && g.ring == 3) = some f ∧
    s.mayStart 3 f = true ∧ (s.net 3).queue = []) := by
  decide +kernel

theorem wit_wheel : (let l : List (Nat × List Nat) := [(2, [3]), (5, [0])]
    let s := up []
    (∃ i < 256, s.wheelMap i = .cls 2) ∧ wheelClients ⟨2, false, l⟩ 2 = [3] ∧ wheelClients ⟨2, false, l⟩ 1 = [] ∧
    (∃ i < 256, s.wheelMap i = .cls 0) ∧ (∀ c < 6, 1 ≤ c → wheelClients ⟨2, false, []⟩ c = [])) ∧
    nextRound 5 (State.reset.wheel.surplus + 4) (fun k => !(wheelClients ⟨0, true, [(5, [0])]⟩ (k + 1)).isEmpty) = some 4 := by
  decide +kernel

/-- Each class has its guaranteed positions among the kept ones, with no gap wider than 2 × 256 / G (R318). -/
theorem test_wheel_gaps : ([0, 1, 13, 27, 39, 40, 52].all fun g => [(1, g), (2, 2), (3, 3), (4, 3), (5, 4)].all fun q =>
    let l := (List.range 64).map (placeClass g)
    (l.filter fun c => c == q.1).length == q.2 && (List.range 64).all fun i => l.getD i 0 != q.1 ||
      ((List.range 65).any fun d => decide (1 ≤ d ∧ 4 * d * q.2 ≤ 512) && l.getD ((i + d) % 64) 0 == q.1)) = true := by decide +kernel

/-! Flows, DMX and RDM. -/

/-- A UDP datagram in IPv4 in Ethernet. -/
def udp (pay : List Byte) : List Byte :=
  let ip (c : Nat) : List Byte := [0x45, 0] ++ valBytesBE 2 (28 + pay.length) ++ valBytesBE 4 0 ++ [64, 17] ++ valBytesBE 2 c ++ [10, 0, 0, 1, 10, 0, 0, 2]
  List.replicate 12 1 ++ [8, 0] ++ ip (inetSum (ip 0)) ++ valBytesBE 2 5568 ++ valBytesBE 2 5568 ++ valBytesBE 2 (8 + pay.length) ++ [0, 0] ++ pay

/-- An RTP packet with one SRD of one pgroup of 4:4:4 10-bit. -/
def rtp (seq : Nat) : List Byte := udp ([0x80, 96] ++ valBytesBE 2 seq ++ valBytesBE 8 0 ++ valBytesBE 2 0 ++ valBytesBE 2 15 ++ valBytesBE 2 0 ++ valBytesBE 2 0 ++
  List.replicate 15 7)

/-- An E1.31 data packet of universe 3 with two slots. -/
def e131 (opts seq start : Nat) : List Byte := udp (valBytesBE 2 0x10 ++ valBytesBE 2 0 ++ acnId ++ valBytesBE 2 0x7000 ++ valBytesBE 4 4 ++ List.replicate 16 9 ++
  valBytesBE 2 0x7000 ++ valBytesBE 4 2 ++ List.replicate 64 0x41 ++ valBytesBE 1 100 ++ valBytesBE 2 0 ++ valBytesBE 1 seq ++ valBytesBE 1 opts ++ valBytesBE 2 3 ++
  valBytesBE 2 0x7000 ++ valBytesBE 1 2 ++ valBytesBE 1 0xA1 ++ valBytesBE 2 0 ++ valBytesBE 2 1 ++ valBytesBE 2 3 ++ valBytesBE 1 start ++ [200, 201])

/-- Port 3 with one filter that steers every frame to context 255 of a type, unit 7, universes 3 and 4. -/
def flow (type : Nat) (l : List (Fld × Nat)) : State :=
  force ([((NET_FLT_MATCH_EN.inst 3).nth 31, 1), ((NET_RXQ_CFG_CONSUMER.inst 3).nth 0, 1), ((NET_FLT_ACT_FLOW.inst 3).nth 31, 255),
    (FLOW_FLOW_CFG_TYPE.nth 255, type), (FLOW_FLOW_CFG_UNIT.nth 255, 7), (FLOW_FLOW_ARG_UNIV_FIRST.nth 255, 3), (FLOW_FLOW_CFG_UNIV_COUNT_M1.nth 255, 1)] ++ l) (net [] id)

theorem wit_flow_video : (let s := { flow ftVideoRx [(INGEST_CTRL_EN.inst 7, 1)] with ingests := [(7, { IngestS.idle with high := some 5000, got := [(5000, 1)] })] }
    let bs := rtp 5000
    s.netUp 3 = true ∧ 64 ≤ bs.length + 4 ∧ beField bs 12 2 ≠ 0x8808 ∧ bs.length + 4 ≤ s.fld (NET_MAX_LEN_BYTES.inst 3) ∧
    s.filterHit 3 31 bs = true ∧ (∀ m < 31, s.filterHit 3 m bs = false) ∧ s.ptpCopies 3 bs = false ∧ s.rxLevel 3 0 < 65536 ∧ s.act ((NET_FLT_ACT_DROP.inst 3).nth 31) = 0 ∧
    s.act ((NET_RXQ_CFG_CONSUMER.inst 3).nth (s.act ((NET_FLT_ACT_QUEUE.inst 3).nth 31))) = 1 ∧ s.flowType 255 = ftVideoRx ∧
    s.act (INGEST_CTRL_EN.inst 7) = 1 ∧ (rtpOf bs).map (fun r => (r.q, s.rtpGood 7 r)) = some (5000, true) ∧ s.stripeMode = false ∧
    (s.ingest 7).high = some 5000 ∧ (∃ g ∈ (s.ingest 7).got, g.1 = 5000) ∧ (rtpOf (rtp 100)).map (fun r => r.q) = some 100 ∧ 100 + 4096 < 5000 ∧
    rtpOf (ether 0x0800 0) = none ∧ (rtpOf ((rtp 5000).set 43 97)).map (fun r => s.rtpGood 7 r) = some false) ∧
    (flow 0 []).flowType 255 = 0 ∧ (flow ftVideoRx []).act (INGEST_CTRL_EN.inst 7) = 0 := by decide +kernel

/-- The packet is good, from a new source and from a known one with a sequence number behind and ahead. -/
theorem wit_flow_sacn : (let s := { flow ftSacnRx [] with sacn := { SacnS.idle with univs := [(3, { SacnUniv.idle with srcs := [⟨List.replicate 16 9, 100, 7, [], 0, 0⟩] })] } }
    let good (b : List Byte) : Bool := (b.drop 4).take 12 == acnId && beField b 18 4 == 4 && beField b 40 4 == 2 && beField b 117 1 == 2 &&
      beField b 118 1 == 0xA1 && beField b 119 2 == 0 && beField b 121 2 == 1 && decide (1 ≤ beField b 123 2 ∧ beField b 123 2 ≤ 513 ∧ 125 + beField b 123 2 ≤ b.length) &&
      decide (s.flowFirst 255 ≤ beField b 113 2 ∧ beField b 113 2 < s.flowFirst 255 + s.flowCount 255)
    s.flowType 255 = ftSacnRx ∧ isUdp (e131 0 8 0) = true ∧ s.snapHolds s.sacn.snap = false ∧ good (udpPayload (e131 0 8 0)) = true ∧
    beField (udpPayload (e131 0 8 0)) 125 1 = 0 ∧ good (udpPayload (e131 0x80 8 0)) = true ∧ (beField (udpPayload (e131 0x80 8 0)) 112 1).testBit 7 = true ∧
    (s.univ 3).srcs.map (fun y => y.cid) = [(udpPayload (e131 0 8 0)).drop 22 |>.take 16] ∧ (flow ftSacnRx []).univ 3 = SacnUniv.idle ∧
    0 < natSigned 8 ((8 + 256 - 7) % 256) ∧ natSigned 8 ((7 + 256 - 7) % 256) ≤ 0 ∧ -20 < natSigned 8 ((7 + 256 - 7) % 256)) := by decide +kernel

theorem wit_sacn_timeout : (let x : SacnSrc := ⟨List.replicate 16 9, 100, 7, [], 0, 0⟩
    let s := { timed (10 ^ 10 * 65536) id [] with sacn := { SacnS.idle with univs := [(3, { SacnUniv.idle with srcs := [x] })] } }
    (s.univ 3).srcs.find? (fun z => z.cid == List.replicate 16 9) = some x ∧
    x.at_ + s.fld SACN_RX_CFG_LOSS_MS * 1000000 * unitsPerNs ≤ s.time.mono ∧ (s.univ 3).srcs.filter (fun z => z.cid != List.replicate 16 9) = []) := by
  decide +kernel

theorem wit_sacn_send : (let x : SacnTx := ⟨7, 255, 3, [1, 2], false, 100, 3, false⟩
    let s := { net [] id with sacn := { SacnS.idle with queue := [x] } }
    x.ctx < 256 ∧ x.port < 4 ∧ s.sacn.queue = [] ++ x :: [] ∧ x.due ≤ s.time.mono ∧ s.netUp x.port = true) ∧
    (let x : SacnTx := ⟨7, 255, 3, [1, 2], false, 100, 3, false⟩
     let s := { flow ftSacnTx [] with sacn := { SacnS.idle with last := [(255 * 65536 + 3, 0, x)] } }
     s.sacnLast 255 (s.flowFirst 255 + 0) = some (0, x) ∧ s.fld SACN_KEEPALIVE_MS_MS ≠ 0 ∧ s.flowType 255 = ftSacnTx ∧ 0 < s.flowCount 255 ∧
     0 + s.fld SACN_KEEPALIVE_MS_MS * 1000000 * unitsPerNs ≤ s.time.mono) ∧ State.reset.sacn.queue = [] := by decide +kernel

theorem wit_egress : (let j : EgressJob := ⟨5, 0, (60, 1), 0, false, 0, 0⟩
    let s := { force [(EGRESS_TX_PORT.inst 7, 3)] (net [] id) with egresses := [(7, [j])] }
    s.egress 7 = j :: [] ∧ j.launch + egDue (s.egAct 7) j.rate j.next ≤ s.time.now + 20000 * unitsPerNs ∧ s.egAct 7 EGRESS_TX_PAIR = 0 ∧
    s.act (EGRESS_TX_PORT.inst 7) < 4 ∧ s.netUp 3 = true ∧ (s.net 3).queue = [] ∧ (up []).egress 7 = []) := by decide +kernel

/-- DMX port 15 in a role. -/
def dmx (role : Nat) (regs : List (Fld × Nat)) (f : DmxS → DmxS) : State :=
  force [(DMX_CTRL_ROLE.inst 15, role)] { timed (10 ^ 10 * 65536) id ([(DRAM_USABLE_MIB_MIB, 8)] ++ regs) with dmxs := [(15, f DmxS.idle)] }

theorem wit_dmx : (let s := dmx drController [(DMX_STATUS_LINE_BUSY.inst 15, 1)] id
    s.bit (DMX_STATUS_LINE_BUSY.inst 15) = true ∧ (s.dmx 15).busyEnd ≤ s.time.mono ∧ (s.dmx 15).rdm = none) ∧
    (∀ kind < 3, let s := dmx drController [(DMX_STATUS_LINE_BUSY.inst 15, 1)] fun x => { x with rdm := some ⟨7, kind, 0, true⟩ }
      (s.dmx 15).rdm = some ⟨7, kind, 0, true⟩ ∧ s.prodIs 3 endDevice = true ∧ 1 ≤ s.fifoSpace 3 ∧ (s.fifo 3).stalls = []) ∧
    (dmx drInput [] id).dmxRole 15 = drInput ∧ (dmx drResponder [] id).dmxRole 15 = drResponder ∧ (dmx drOff [] id).dmxRole 15 = drOff ∧
    (let s := dmx drInput [(DMX_STATUS_RX_VALID.inst 15, 1)] fun x => { x with snap := some 1, rx := some ([1], 5), held := some ([2], 6) }
     s.bit (DMX_STATUS_RX_VALID.inst 15) = true ∧ (s.dmx 15).rxAt + usUnits 1000000 ≤ s.time.mono ∧ (s.dmx 15).snap = some 1 ∧
     (s.dmx 15).rx = some ([1], 5) ∧ s.inDram (s.actPair (DMX_RX_BASE_LO_ADDR.inst 15) (DMX_RX_BASE_HI_ADDR.inst 15) / 64 * 64 + 1 % 2 * 576) 576 = true) ∧
    (let s := { flow ftSacnRx [] with sacn := { SacnS.idle with snap := some 1, univs := [(3, { SacnUniv.idle with last := some 7 }), (4, { SacnUniv.idle with last := some 7 })] } }
     s.sacn.snap = some 1 ∧ s.sacn.held = [] ∧ s.rxUnivs = [3, 4] ∧ (∀ u ∈ s.rxUnivs, (s.univ u).merged.length = 512 ∧ (s.univ u).last.isSome = true) ∧
     s.inDram (s.pair SACN_RX_BASE_LO_ADDR SACN_RX_BASE_HI_ADDR / 64 * 64 + 1 % 2 * (576 * 2)) (576 * 2) = true) := by decide +kernel

/-- A GET of 24 bytes from the console to a UID, with its checksum. -/
def rdmReq (dst cls pid : Nat) : List Byte :=
  let m : List Byte := [0xCC, 1, 24] ++ valBytesBE 6 dst ++ valBytesBE 6 1 ++ [0, 1, 0] ++ valBytesBE 2 0 ++ valBytesBE 1 cls ++ valBytesBE 2 pid ++ [0]
  m ++ rdmSum m

/-- Port 15 with a task of context 255 of a kind, its parameters given. -/
def rdmTask (kind : Nat) (prm : List Nat) : State :=
  { force [(DMX_CTRL_ROLE.inst 15, drController)] (task csRunning 2 kind [(DRAM_USABLE_MIB_MIB, 8)] fun y => { y with running := [(39, 255)], params := [(39, prm)] }) with
    time := { State.reset.time with now := 10 ^ 10 * 65536, mono := 10 ^ 10 * 65536 }
    dram := ((rdmReq 5 0x20 0x60).zipIdx.map fun x => (x.2, x.1)).filter fun x => x.2 != 0 }

theorem wit_rdm_start : (let s := rdmTask rkRequest [0, 24, 0, 0, 0]
    s.unitCtx (dmxUnit 15) = some 255 ∧ natBits (s.ctx 255).w1 0 2 = rkRequest ∧ s.dmxRole 15 = drController ∧ dmxUnit 15 ∉ s.sched.commit ∧
    s.rdmGapOk 15 rkRequest (s.unitParams (dmxUnit 15)) = true ∧ s.inDram 0 24 = true ∧ beField (s.dramBytes 0 24) 2 1 = 24) ∧
    (let s := rdmTask rkDub [0, 9, 12, 0, 0]
     natBits (s.ctx 255).w1 0 2 = rkDub ∧ s.rdmGapOk 15 rkDub (s.unitParams (dmxUnit 15)) = true) ∧
    (let s := rdmTask rkRequest [0, 23, 0, 0, 0]
     s.rdmGapOk 15 rkRequest (s.unitParams (dmxUnit 15)) = true) ∧ (up []).unitCtx (dmxUnit 15) = none := by decide +kernel

theorem wit_rdm_response : (let s := dmx drController [] fun x => { x with rdm := some ⟨7, rkRequest, 0, false⟩ }
    let i : RdmIn := ⟨5, rdmReq 5 0x21 0x60, true⟩
    (s.dmx 15).rdm = some ⟨7, rkRequest, 0, false⟩ ∧ i.bytes.length = beField i.bytes 2 1 + 2 ∧ i.bytes.length ≤ 257 ∧ beField i.bytes 0 2 = 0xCC01 ∧
    rdmOutcome rkRequest i = (roOk, i.bytes) ∧ s.prodIs 3 endDevice = true ∧ (s.fifo 3).stalls = [] ∧ (rdmRecord 7 15 roOk 5 i.bytes).length ≤ s.fifoSpace 3 ∧
    0 + usUnits (s.act (DMX_RESP_WAIT_US_US.inst 15)) ≤ s.time.mono) := by decide +kernel

/-- The responder's requests: to its UID 0x000100000005, of a discovery, a mute and a GET. -/
theorem wit_rdm_responder : (let s := force [(DMX_UID_HI_UID.inst 15, 1), (DMX_UID_LO_UID.inst 15, 5)] (dmx drResponder [] fun x => { x with answer := some ([1], 0, true), store := [[1]] })
    s.dmxRole 15 = drResponder ∧ s.dmxUid 15 = 0x100000005 ∧ (s.dmx 15).answer = some ([1], 0, true) ∧ 0 ≤ s.time.mono ∧
    (∀ x ∈ [(0x10, 1), (0x10, 2), (0x10, 3), (0x20, 0x60)], let b := rdmReq 0x100000005 x.1 x.2
      beField b 0 2 = 0xCC01 ∧ b.length = beField b 2 1 + 2 ∧ 24 ≤ beField b 2 1 ∧ b.drop (beField b 2 1) = rdmSum (b.take (beField b 2 1)) ∧ beField b 3 6 = s.dmxUid 15 ∧
      beField b 20 1 = x.1 ∧ beField b 21 2 = x.2)) ∧
    (let s := dmx drResponder [] id
     s.gate .pcie (dmxPage 15) = .served ∧ s.mayWrite .pcie (dmxPage 15) = true ∧ natBits (24 : Word).toNat 0 9 = 24 ∧ s.inDram 0 24 = true ∧ (s.dmx 15).store.length < 8 ∧
     8 ≤ ((dmx drResponder [] fun x => { x with store := List.replicate 8 [] }).dmx 15).store.length) := by decide +kernel

/-! Scan ports and LED blocks. -/

/-- Scan port 15 and its LED block with some settings, those of the frame in progress and of the incoming one alike. -/
def lamp (acts regs : List (Fld × Nat)) (f : ScanS → ScanS) (g : LedS → LedS) : State :=
  let s := force (acts.map fun p => (p.1.inst 15, p.2)) (timed (10 ^ 10 * 65536) id ([(DRAM_USABLE_MIB_MIB, 8)] ++ regs.map fun p => (p.1.inst 15, p.2)))
  { s with scans := [(15, f { ScanS.idle with cfg := s.inForceOf 15, cfgIn := s.inForceOf 15 })], leds := [(15, g LedS.idle)] }

/-- Its sequencer at word `w`, the first of a section. -/
def script (w : Nat) (sect : Sect) (loop : Option (Nat × Nat)) (acts : List (Fld × Nat)) (f : ScanS → ScanS) : State :=
  lamp acts [(LED_SCRIPT_CMD, w)] f fun x => { x with run := [⟨sect, 0, loop, 0, 0, 0⟩] }

/-- The words and the sections they stand in. -/
theorem wit_scan_scripts : (∀ op < 13, let s := script (op * 2 ^ 28) .line none [] id
      (s.led 15).run = ⟨.line, 0, none, 0, 0, 0⟩ :: [] ∧ (s.sectCfg 15 .line).word 0 = op * 2 ^ 28 ∧ opOf (op * 2 ^ 28) = op ∧ 0 ≤ s.time.mono) ∧
    (State.reset.led 15).run = [] ∧ opOf (12 * 2 ^ 28) = opPulse ∧
    (let s := script (opShiftData * 2 ^ 28) .lineBlock none [] fun x => { x with kind := .taken 0 false true }
     (s.sectCfg 15 .lineBlock).word 0 = opShiftData * 2 ^ 28 ∧ s.picture 15 = some (0, false)) ∧
    (script (opShiftData * 2 ^ 28) .lineBlock none [] id).picture 15 = none ∧
    (let s := script (opGoe * 2 ^ 28 + 3) .line none [(SCAN_MODE_DRIVE, 1)] id
     (s.sectCfg 15 .line).bMode = true ∧ (s.sectCfg 15 .line).word 0 = opGoe * 2 ^ 28 + 3) ∧
    (let s := script (opGoe * 2 ^ 28 + 3) .flip none [] fun x => { x with dark := true }
     (s.sectCfg 15 .flip).bMode = false ∧ (s.scan 15).dark = true ∧ (opGoe * 2 ^ 28 + 3).testBit 0 = true) ∧
    ((script (opGoe * 2 ^ 28 + 3) .flip none [] id).scan 15).dark = false ∧
    (let s := script (opRow * 2 ^ 28) .flip none [] id
     (s.led 15).run = ⟨.flip, 0, none, 0, 0, 0⟩ :: [] ∧ (s.sectCfg 15 .flip).word 0 = opRow * 2 ^ 28) ∧
    ((script 0 .line none [(SCAN_MODE_ROW_SERIAL, 1)] id).sectCfg 15 .line).f SCAN_MODE_ROW_SERIAL = 1 ∧
    ((script 0 .line none [] id).sectCfg 15 .line).f SCAN_MODE_ROW_SERIAL = 0 ∧ natBits (opRow * 2 ^ 28) 0 2 = 0 ∧ natBits (opRow * 2 ^ 28 + 2) 0 2 ≠ 0 := by
  decide +kernel

theorem wit_scan_reads : (let s := script (opRead * 2 ^ 28) .readback none [(LED_PROFILE_CHIP_CH, 16), (SCAN_GEOM_WIDTH, 4)] id
     natBits (opRead * 2 ^ 28) 0 16 = 0 ∧ (s.inCfg 15).readBits (opRead * 2 ^ 28) = 16 ∧ (s.sectCfg 15 .readback).chain = 16 ∧ 0 < (s.sectCfg 15 .readback).lines ∧
     (s.sectCfg 15 .readback).word 0 = opRead * 2 ^ 28) ∧ natBits (opRead * 2 ^ 28 + 5) 0 16 ≠ 0 ∧
    ((script (opEndLoop * 2 ^ 28) .line (some (4, 1)) [] id).led 15).run = [⟨.line, 0, some (4, 1), 0, 0, 0⟩] ∧
    ((script (opEndLoop * 2 ^ 28) .line (some (4, 2)) [] id).led 15).run = [⟨.line, 0, some (4, 2), 0, 0, 0⟩] := by
  decide +kernel

theorem wit_latch : (let s := lamp [(SCAN_MODE_SOURCE, 1), (SCAN_CTRL_EN, 1)] [(SCAN_FLIP_INFO_PENDING, 1)] (fun x => { x with on := true }) id
     s.latchDue 15 = true ∧ (let u := s.takeAtLatch 15
       let c := u.cfgOf 15 (u.inForceOf 15)
       ¬ ((timingFields.any fun f => c.f f != (u.inCfg 15).f f) = true ∨ (u.scan 15).moved = true) ∧ c.host = true ∧
       u.bit (SCAN_FLIP_INFO_PENDING.inst 15) = true ∧ (after (exec (.latchPoint 15 none) s)).windowOk 15 = true)) ∧
    (let s := lamp [(SCAN_MODE_SOURCE, 1), (SCAN_CTRL_EN, 1), (SCAN_GEOM_WIDTH, 8192)] [(SCAN_FLIP_INFO_PENDING, 1)] (fun x => { x with on := true }) id
     s.latchDue 15 = true ∧ (after (exec (.latchPoint 15 none) s)).windowOk 15 = false) ∧
    (let s := lamp [] [] (fun x => { x with on := true }) id
     s.latchDue 15 = true ∧ (let u := s.takeAtLatch 15
       (u.cfgOf 15 (u.inForceOf 15)).host = false ∧ u.entryOf (scanPage 15) = none ∧ u.bit (SCAN_FLIP_INFO_PENDING.inst 15) = false ∧ (u.scan 15).moved = false)) ∧
    (let s := lamp [] [] (fun x => { x with on := true, moved := true }) id
     s.latchDue 15 = true ∧ ((s.takeAtLatch 15).scan 15).moved = true) ∧ State.reset.latchDue 15 = false := by decide +kernel

/-- A PLAN source whose incoming frame has an emit entry of its page: taken without a window is open, late with none. -/
theorem wit_latch_plan : (∀ skip ∈ [false, true], let s := lamp [(SCAN_CTRL_EN, 1)] [] (fun x => { x with on := true, next := 6 }) id
    let e : EmitEnt := ⟨scanPage 15, 0, 0, 0, 0, 0, 0, 10, 0, true⟩
    let t := { s with plan := { s.plan with frames := [{ frame [e] with skipped := skip }] } }
    t.latchDue 15 = true ∧ (let u := t.takeAtLatch 15
      ¬ ((timingFields.any fun f => (u.cfgOf 15 (u.inForceOf 15)).f f != (u.inCfg 15).f f) = true ∨ (u.scan 15).moved = true) ∧
      (u.cfgOf 15 (u.inForceOf 15)).host = false ∧ (u.scan 15).next = 6 ∧
      (u.plan.frames.find? fun f => f.plan.emitTransit f.n == 6).isSome = true ∧ e.baseSel ≠ 9 ∧ e.level = 0) ∧
    (after (exec (.latchPoint 15 none) t)).windowOk 15 = true) ∧
    (let s := lamp [(SCAN_CTRL_EN, 1)] [] (fun x => { x with on := true, next := 6 }) id
     ({ s with plan := { s.plan with active := some (plan []) } }).windowOk 15 = false) := by decide +kernel

/-- A frame start that has come, of a kind. -/
def starts (k : FrameKind) : State := lamp [] [] (fun x => { x with on := true, kind := k, next := 7, nextAt := 5 }) id

theorem wit_port_frames : (∀ k ∈ [FrameKind.off, .blank, .taken 0 false true, .hold, .none], let s := starts k
      (s.scan 15).on = true ∧ (s.scan 15).seam = false ∧ (s.scan 15).nextAt ≤ s.time.now ∧ (s.scan 15).kind = k ∧ (s.led 15).run = [] ∧
      (s.inCfg 15).bMode = false) ∧ (State.reset.scan 15).on = false := by decide +kernel

theorem wit_slots : (∀ st ∈ [1, 2, 3], let s := lamp [(LED_ENTRY_0_LINE, 4)] [(SCAN_STATUS_STATE, st)] (fun x => { x with on := true, passes := 16 }) id
      (s.scan 15).on = true ∧ s.fld (SCAN_STATUS_STATE.inst 15) = st ∧ (s.scan 15).slot < (s.scan 15).passes * (s.useCfg 15).lines ∧
      (s.scan 15).frameAt + scanUnits ((s.useCfg 15).slotTicks (max 1 (s.scan 15).passes) (s.scan 15).slot) ≤ s.time.now ∧
      (s.useCfg 15).entry .line = some 4) ∧
    (∀ k ∈ [0, 7], let s := lamp [(SCAN_MODE_DRIVE, 1)] [] id fun x => { x with plane := some (k, 9) }
      (s.led 15).plane = some (k, 9) ∧ (s.useCfg 15).bMode = true ∧ 9 ≤ s.time.mono) ∧ (State.reset.led 15).plane = none := by decide +kernel

theorem wit_led_registers : (let s := lamp [] [(LED_CURVE_IDX_BANK, 1), (LED_CURVE_IDX_KNOT, 1024)] id id
     s.gate .pcie (ledPage 15) = .served ∧ s.mayWrite .pcie (ledPage 15) = true ∧ s.bit (LED_STATUS_GEN_BUSY.inst 15) = false ∧
     (16 : Word).getLsbD 4 = true ∧ (8 : Word).getLsbD 4 = false ∧ 511 / 256 ≠ s.act (LED_SCRIPT_SEL_HALF.inst 15) ∧ 255 / 256 = s.act (LED_SCRIPT_SEL_HALF.inst 15) ∧
     s.fld (LED_CURVE_IDX_BANK.inst 15) ≠ s.act (LED_CURVE_SEL_BANK.inst 15) ∧ 1024 ≤ s.fld (LED_CURVE_IDX_KNOT.inst 15)) ∧
    (lamp [] [] id id).fld (LED_CURVE_IDX_BANK.inst 15) = (lamp [] [] id id).act (LED_CURVE_SEL_BANK.inst 15) ∧
    (lamp [] [(LED_STATUS_GEN_BUSY, 1)] id id).bit (LED_STATUS_GEN_BUSY.inst 15) = true ∧
    ((lamp [] [] id fun x => { x with gen := some (3, 1, 0, 22528, 0, 0) }).led 15).gen = some (3, 1, 0, 22528, 0, 0) ∧ (State.reset.led 15).gen = none := by
  decide +kernel

theorem wit_ages : (let s := lamp [(LED_CTRL_DIAG_EN, 1), (SCAN_GEOM_WIDTH, 4)] [] (fun x => { x with on := true }) fun x => { x with ticks := 254 }
     (s.scan 15).on = true ∧ (s.useCfg 15).f LED_CTRL_DIAG_EN = 1 ∧ 0 ∈ (s.useCfg 15).channels ∧ (s.chan 15 0).st = chUnknown ∧
     (s.useCfg 15).f LED_DIAG_CFG_AGE_LIMIT < min 255 ((s.led 15).ticks + 1 - (s.chan 15 0).since)) ∧ (State.reset.scan 15).on = false := by decide +kernel

/-! Sense and calibration. -/

/-- The sense block in a sequence, its page in force, and the calibration unit, some registers written. -/
def sns (regs : List (Fld × Nat)) (f : SenseS → SenseS) (g : CalS → CalS) : State :=
  let s := timed (10 ^ 10 * 65536) id regs
  { s with sense := f { SenseS.reset with cfg := s.pageCopy sensePage, seq := some 1 }, cal := g CalS.reset, snsHeld := some (s.corrOf 23) }

/-- A step of a kind for a channel with the settings of reset. -/
def calStep (c step n : Nat) (s1 s2 : Rat) : CalStep := ⟨c, step, false, 0, [], true, none, n, s1, s2, 0, 0, 0, 0, 0, none, 0, 0, false⟩

theorem wit_sense_sequences : (let s := sns [] id id
     s.sense.seq ≠ some (seqNo s.time.now) ∧ s.sense.adopted = none ∧ s.cal.step = none ∧ s.sense.stand = .none) ∧
    (sns [] (fun x => { x with seq := some 625000 }) id).sense.seq = some (seqNo (sns [] id id).time.now) ∧
    (sns [] (fun x => { x with adopted := some 3 }) id).sense.adopted = some 3 ∧
    (∀ x ∈ [StandIn.none, .settle 23, .on 23], let s := sns [] (fun y => { y with stand := x }) fun y => { y with step := some (calStep 23 stPath 0 0 0) }
      s.sense.seq ≠ some (seqNo s.time.now) ∧ s.cal.step = some (calStep 23 stPath 0 0 0) ∧ (calStep 23 stPath 0 0 0).chan = 23 ∧ s.sense.stand = x) ∧
    (∀ x ∈ [StandIn.settle 23, .on 23, .off 23], (sns [] (fun y => { y with stand := x }) id).sense.stand = x) := by decide +kernel

theorem wit_sense_conversions : (let s := sns [(SENSE_CTRL_EN, 1)] id id
     s.snsCfg SENSE_CTRL_EN = 1 ∧ s.sense.seq ≠ none ∧ s.snsHeld = some (s.corrOf 23) ∧ (s.readingOf (s.corrOf 23) 32768).isSome = true ∧
     mapGet (fun _ => 0) s.sense.done 25 < 4 ∧ mapGet (fun _ => 0) s.sense.done 23 < slotsOf 23 s.sense.phase ∧ s.chopStep 23 = none ∧ s.frontOf 23 = 23) ∧
    (let s := sns [(SENSE_CTRL_EN, 1), (SENSE_CTRL_STREAM_EN, 1), (SENSE_STREAM_MASK_TRIG, 1)] id id
     let t := force [(FIFO_BIND_PROD.inst 4, endDevice)] s
     t.snsCfg SENSE_CTRL_EN = 1 ∧ t.snsCfg SENSE_CTRL_STREAM_EN = 1 ∧ t.snsCfg SENSE_STREAM_MASK_TRIG = 1 ∧ t.prodIs 4 endDevice = true ∧
     1 ≤ t.fifoSpace 4 ∧ (t.fifo 4).stalls = [] ∧ (t.fifo 4).words.length < 256) ∧
    (let s := sns [(SENSE_CTRL_EN, 1)] (fun x => { x with stand := .on 23 }) id
     mapGet (fun _ => 0) s.sense.done 24 < slotsOf 24 s.sense.phase ∧ s.chopStep 24 = none ∧ s.sense.stand = .on 23 ∧
     (s.readingOf (s.corrOf 23) 32768).isSome = true) ∧
    (∀ a ∈ [0, 10], let s := sns [(SENSE_CTRL_EN, 1), (SENSE_AVG_CFG_CURR, a)] id id
      mapGet (fun _ => (⟨0, 0, 0, false⟩ : SenseGroup)) s.sense.groups 23 = ⟨0, 0, 0, false⟩ ∧ decide (2 ^ s.avgLog 23 ≤ 1) = decide (a = 0)) ∧
    (∀ n ∈ [0, 2 ^ 20], ∀ x ∈ [none, some 7], let p := { calStep 23 stPath n 0 0 with first := x }
      let s := sns [(SENSE_CTRL_EN, 1)] id fun y => { y with step := some p }
      s.chopStep 23 = some p ∧ decide (p.n < 2 ^ cfgFld p.cfg CAL_CHOP_CFG_CHOP_LOG2) = decide (n = 0)) ∧
    slotsOf 0 1 ≤ 0 ∧ (sns [(SENSE_CTRL_EN, 0)] id id).snsCfg SENSE_CTRL_EN ≠ 1 := by decide +kernel

/-- A sensor whose reading no limit of the key store concerns, and one with TEMP enabled. -/
theorem wit_die_temp : (let s := { up [(KEY_TAMPER_CFG_TEMP_EN, 1)] with mainPower := true }
    s.tempOut = false ∧ 3 ∉ s.key.lines ∧ 7 ∉ s.dtsOff ∧ s.tamperOn 3 = true ∧ (-880 : Int) ≤ 400) := by decide +kernel

theorem wit_die_sensors : (let s := sns [] (fun x => { x with dtsSince := [(7, some 5)] }) id
     mapGet (fun _ => none) s.sense.dtsSince 7 = some 5 ∧ 7 ∉ s.dtsOff ∧ 5 + unitsPerSec ≤ s.time.mono) ∧
    mapGet (fun _ => none) State.reset.sense.dtsSince 7 = none ∧
    mapGet (fun _ => none) (sns [] (fun x => { x with dtsSince := [(7, some (10 ^ 10 * 65536))] }) id).sense.dtsSince 7 = some (10 ^ 10 * 65536) := by decide +kernel

theorem wit_cal_position : (let s := sns [(CAL_CTRL_AUTO_EN, 1)] id fun x => { x with nextPos := 24 }
    s.bit CAL_CTRL_AUTO_EN = true ∧ s.cal.posAt = none ∧ s.cal.step = none ∧ s.cal.auto = [] ∧ s.cal.task = [] ∧ s.calTasked = false ∧
    s.calReadyTask = false ∧ s.cal.nextPos ≤ 24 ∧ s.standinFree s.cal.nextPos = true) ∧ (sns [(CAL_CTRL_AUTO_EN, 0)] id id).bit CAL_CTRL_AUTO_EN = false := by decide +kernel

theorem wit_cal_steps : (∀ p ∈ [calStep 24 stPath (2 ^ 20) 0 0, calStep 23 stOffset (2 ^ 20) 0 0, calStep 23 stGain (2 ^ 20) 0 0], let s := sns [] id fun x => { x with step := some p }
      s.cal.step = some p ∧ s.cal.task = [] ∧ s.cal.auto = [] ∧ p.chan ≤ 24 ∧ 0 < p.n ∧ 2 ^ cfgFld p.cfg CAL_CHOP_CFG_CHOP_LOG2 ≤ p.n ∧
      cfgFld p.cfg CAL_DARK_CFG_N_OFF ≤ p.n ∧ 2 ^ cfgFld p.cfg CAL_REG_CFG_REG_LOG2 ≤ p.n) ∧
    (let s := { sns [] id fun x => { x with step := some (calStep 23 stOffset 0 0 0) } with time := { State.reset.time with mono := 10 ^ 15 * 65536 } }
     let p := calStep 23 stOffset 0 0 0
     s.cal.step = some p ∧ p.step ≠ stPath ∧ p.n < cfgFld p.cfg CAL_DARK_CFG_N_OFF ∧ s.runOver p = true ∧ p.step < 8) ∧
    (pathResult [] 0 1024 0 0).1 = crOk ∧ (pathResult [] 0 1 60000 (60000 * 60000)).1 = crLimits ∧ (gainResult (calStep 23 stGain 1024 0 0)).1 = crVariance := by
  decide +kernel

theorem wit_cal_store : (let s := sns [(NVM_SPARE_FREE_SECTORS, 2)] id fun x => { x with store := some (true, [1, 2], false, 5) }
    s.cal.store = some (true, [1, 2], false, 5) ∧ s.cal.storeHeld = none ∧ 2 ≤ s.fld NVM_SPARE_FREE_SECTORS ∧ s.fld NVM_SPARE_FREE_SECTORS < 3) ∧
    State.reset.cal.store = none ∧ State.reset.time.nextTransit = none ∧ State.reset.cal.step = none := by decide +kernel

/-! Camlek. -/

/-- Port 3 in a state, with registers of its page, and the group. -/
def link (state : Nat) (regs : List (Fld × Nat)) (f : ClS → ClS) (g : GroupS → GroupS) : State :=
  let s := timed (10 ^ 10 * 65536) id ([(CL_STATUS_STATE.inst 3, state), (CL_CTRL_EN.inst 3, 1), (DRAM_USABLE_MIB_MIB, 8)] ++ regs)
  { s with cls := [(3, f ClS.idle)], group := g GroupS.reset }

/-- A FRAME cell of one unit, and a control cell. -/
def cellTo (dest hops : Nat) : Cell := ⟨dest, hops, 3, false, false, 15, 1, 0, List.replicate 64 7⟩
def ctlCell (bcast : Bool) (kind origin seq content : Nat) : Cell := ⟨0, 0, 0, true, bcast, 0, 0, 0, ctlData kind origin seq content⟩

theorem wit_cells : (let s := { link clUp [] id id with inForce := (force [(CL_RXWIN_SET_BYTES.nth 15, 4096)] State.reset).inForce }
     s.clState 3 = clUp ∧ (cellTo 0 0).bcast = false ∧ 0 < 2 ^ 16 ∧ (s.cl 3).seqRx = 0 ∧ (cellTo 0 0).hops = 0 ∧ (cellTo 0 0).dest = s.member ∧
     (cellTo 0 0).ctrl = false ∧ s.winSet 15 ≠ 0 ∧ s.cellLate (s.fullFrame 0) = false ∧ 64 * 1 + 64 ≤ s.winSet 15 ∧
     s.inDram (s.winAddr 15 (s.fullFrame 0) + 64) 64 = true ∧ (cellTo 1 0).dest ≠ s.member ∧ 0 < (cellTo 0 1).hops ∧ s.clState ((cellTo 0 1).route % 4) = clUp ∧
     (ctlCell false 1 0 0 15).bcast = false ∧ (ctlCell false 1 0 0 15).dest = s.member ∧ (ctlCell false 1 0 0 15).ctrl = true ∧ cellKind (ctlCell false 1 0 0 15) = 1 ∧
     natBits (cellContent (ctlCell false 1 0 0 15)) 0 4 = 15 ∧ (0 + 2 ^ 16 - 0xFFFF) % 2 ^ 16 < 2 ^ 15 ∧ ¬ (0 + 2 ^ 16 - 1) % 2 ^ 16 < 2 ^ 15) ∧
    (let s := { link clUp [] id id with inForce := (force [(CL_RXWIN_SET_BYTES.nth 15, 4096)] State.reset).inForce, time := { State.reset.time with transit := some (9, 0) } }
     s.winSet 15 ≠ 0 ∧ s.clState 3 = clUp ∧ s.cellLate (s.fullFrame 0) = true) ∧ State.reset.clState 3 ≠ clUp := by decide +kernel

theorem wit_retry : (let s := link clUp [] (fun x => { x with retryAt := some 5, retry := [(7, cellTo 1 0)] }) id
     s.clState 3 = clUp ∧ (s.cl 3).retryAt = some 5 ∧ 5 + 16000 * unitsPerNs ≤ s.time.mono) ∧ (State.reset.cl 3).retryAt = none := by decide +kernel

theorem wit_arbiter_cells : (let b : Nat × Nat × List Nat := (0, 0x66, [])
     let s := link clUp [] (fun x => { x with blocks := [(3, 0x2D, [1])] ++ b :: [(2, 0x4B, [1])] }) id
     (s.cl 3).relock = false ∧ clMeasure ≤ s.clState 3 ∧ s.clState 3 ≤ clUp ∧ (s.cl 3).blocks = [(3, 0x2D, [1])] ++ b :: [(2, 0x4B, [1])] ∧
     (∀ y ∈ [((3 : Nat), (0x2D : Nat), [(1 : Nat)])], 0 < y.1)) ∧
    (let s := link clUp [] (fun x => { x with replay := [(7, cellTo 1 0)] }) id
     (s.cl 3).blocks = [] ∧ (s.cl 3).replay = [(7, cellTo 1 0)]) ∧
    (let s := link clUp [] (fun x => { x with ctl := [⟨cellTo 1 0, 5, true⟩] }) id
     (s.cl 3).blocks = [] ∧ (s.cl 3).replay = [] ∧ (s.cl 3).retryBytes + 256 ≤ 32768 ∧ (s.cl 3).ctl = [⟨cellTo 1 0, 5, true⟩]) ∧
    (let s := link clUp [] (fun x => { x with frames := [⟨cellTo 1 0, 5, false⟩, ⟨cellTo 2 0, 5, true⟩] }) id
     (s.cl 3).ctl = [] ∧ (s.cl 3).retryBytes + 256 ≤ 32768 ∧ (s.cl 3).nextFrame = some (1, ⟨cellTo 2 0, 5, true⟩)) ∧
    ¬ (clMeasure ≤ State.reset.clState 3) := by decide +kernel

theorem wit_time_exchange : (let s := link clMeasure [] (fun x => { x with sentAt := [(7, 100)], peerPair := some (50, 60) }) id
     s.clState 3 = clMeasure ∧ (s.cl 3).sentAt.find? (fun q => q.1 == 7 % 256) = some (7, 100) ∧ (s.cl 3).peerPair = some (50, 60)) ∧
    (let s := link clUp [] id id
     s.clState 3 = clUp ∧ (s.cl 3).timeAt + s.fld CL_TIME_CFG_SAMPLE_US * 1000 * unitsPerNs ≤ s.time.mono ∧ (s.cl 3).peerPair = none) := by decide +kernel

theorem wit_rate_steps : (let s := link clUp [(CL_CTRL_STEP_EN.inst 3, 1), (CL_STATUS_RATE.inst 3, 1)] (fun x => { x with lowRun := 70000 }) id
     s.clState 3 = clUp ∧ s.bit (CL_CTRL_STEP_EN.inst 3) = true ∧ s.inSeam = false ∧ (s.cl 3).agreed = none ∧ (s.cl 3).proposed = none ∧
     s.wantedRate 3 = some 0 ∧ s.time.now + 100000 * unitsPerNs ≤ transitInstant s.rate (10 ^ 6) ∧
     ¬ ((s.cl 3).proposed.isSome = true ∧ s.clDeviceId < s.peerId 3) ∧ 0 ≤ s.maxRate 3 ∧ s.planTraffic 3 s.plan.active ≤ s.clCapacity 0 ∧
     (lo32 1000 + 2 ^ 32 - lo32 s.frameNo) % 2 ^ 32 < 2 ^ 31 ∧ lo32 1000 ≠ lo32 s.frameNo) ∧
    ((link clUp [] (fun x => { x with proposed := some (1, 1000) }) id).cl 3).proposed = some (5 % 4, lo32 1000) ∧
    (let s := link clUp [] (fun x => { x with agreed := some (1, 1000), relock := true }) id
     (s.cl 3).agreed = some (1, 1000) ∧ (s.cl 3).relock = true) ∧ State.reset.wantedRate 3 = none := by decide +kernel

theorem wit_training : (∀ x ∈ [clDown, clSignal, clAlign, clExchange, clMeasure], let s := link x [] id id
     s.clState 3 = x ∧ s.bit (CL_CTRL_EN.inst 3) = true ∧ s.bit SYS_STATUS_RECOVERY = false) ∧
    (let s := link clFailed [] id id
     s.clState 3 = clFailed ∧ (s.reg (regKey (clPage 3) 0x010)).getLsbD 6 = false ∧ ((s.raise (clPage 3) 6 0).reg (regKey (clPage 3) 0x010)).getLsbD 6 = true) ∧
    (up [(SYS_STATUS_RECOVERY, 1)]).bit SYS_STATUS_RECOVERY = true ∧ State.reset.bit (CL_CTRL_EN.inst 3) = false ∧
    (∀ g ∈ [0, 9], let s := link clExchange [] (fun x => { x with caps := (List.range 6).map fun i => (i, if i = 2 then g else 0) }) id
      let caps := ((s.cl 3).caps.filter fun q => q.1 != 6) ++ [(6, 1)]
      (∀ q ∈ (s.cl 3).caps, q.2 < 2 ^ 32) ∧ 7 ≤ caps.length ∧ decide (natBits (mapGet (fun _ => 0) caps 2) 0 16 ≠ s.act CL_GROUP_CFG_GROUP_ID) = decide (g = 9) ∧
      mapGet (fun _ => 0) caps 4 + mapGet (fun _ => 0) caps 5 % 2 ^ 16 * 2 ^ 32 = s.planetId) ∧
    (let s := link clMeasure [] (fun x => { x with exch := 64 }) id
     s.clState 3 = clMeasure ∧ 64 ≤ (s.cl 3).exch ∧ clSignal ≤ s.clState 3 ∧ (s.cl 3).trainAt + 5000000 * unitsPerNs ≤ s.time.mono) := by decide +kernel

/-- Device 1 and its peer, device 2, on port 3. Lost by the planet the peer has left; lost by the moon the planet has. -/
theorem wit_members_lost : (∀ x ∈ [((1 : Nat), (0 : Nat), (1 : Nat)), (2, 1, 0)],
    let s := link clUp [(CL_PLANET_ID_LO_ID, x.1), (CL_DEVICE_ID_LO_ID, 1), (CL_GROUP_STATUS_MEMBERS, 2),
      (CL_GROUP_STATUS_MEMBER, x.2.1), (CL_STATUS_PEER_MEMBER.inst 3, x.2.2)] id fun g => { g with ids := [1, 2] }
    let order := memberOrder s.planetId s.groupIds
    let lost := (s.reachable.filter fun m => !(s.setClState 3 clDown).reachable.contains m).filterMap fun m => order[m]?
    s.clState 3 = clUp ∧ lost = [2] ∧ decide (s.planetId ∈ lost) = decide (x.1 = 2)) ∧
    (let s := link clUp [] id fun g => { g with ids := [1, 2] }
     (s.reachable.filter fun m => !s.reachable.contains m) = []) := by decide +kernel

/-- A staged plan's switch at transit 9 is a reason for a step. -/
theorem wit_rate_switch : (let s := (link clUp [(PLAN_SWITCH_SWITCH, 1)] id id).setCommit 4 cmArmed 0
    (s.setUnit 4 ⟨mdTransitN, 9, false, false, none, 0⟩).switchAt = some 9) := by decide +kernel

theorem wit_foreign : (∀ r ∈ [clAlign, clForeign], let s := link r [] id id
    clAlign ≤ s.clState 3 ∧ s.clState 3 ≤ clForeign ∧ s.clState 3 ≠ clUp) := by decide +kernel

theorem wit_lanes : (let s := link clUp [(CL_STATUS_LANE_OK.inst 3, 31), (CL_STATUS_SPARE_FOR.inst 3, 7)] (fun x => { x with failed := some 2, peerSaw := true }) id
     clAlign ≤ s.clState 3 ∧ s.clState 3 ≤ clUp ∧ (s.cl 3).failed = some 2 ∧ (s.cl 3).peerSaw = true ∧ s.fld (CL_STATUS_SPARE_FOR.inst 3) = 7) ∧
    (let s := link clUp [(CL_STATUS_LANE_OK.inst 3, 31), (CL_STATUS_SPARE_FOR.inst 3, 7)] id id
     s.clState 3 = clUp ∧ (s.fld (CL_STATUS_LANE_OK.inst 3)).testBit 2 = true ∧ ((s.cl 3).map.take 4).contains 2 = true ∧
     ((s.cl 3).map.take 4).contains 4 = false ∧ s.fld (CL_STATUS_SPARE_FOR.inst 3) = 7 ∧ (s.cl 3).failed = none ∧ (s.fld (CL_STATUS_LANE_OK.inst 3)).testBit 4 = true) ∧
    (let s := link clUp [(CL_STATUS_LANE_OK.inst 3, 29), (CL_STATUS_SPARE_FOR.inst 3, 1)] (fun x => { x with map := [0, 4, 2, 3, 1] }) id
     (s.fld (CL_STATUS_LANE_OK.inst 3)).testBit 4 = true ∧ ((s.cl 3).map.take 4).contains 4 = true ∧ s.fld (CL_STATUS_SPARE_FOR.inst 3) ≠ 7) := by decide +kernel

theorem wit_floods : (∀ kind ∈ [2, 3, 4, 5], let s := link clUp [(CL_GROUP_STATUS_ELECTING, 1)] id fun g => { g with expect := 1 }
     let c := ctlCell true kind 5 9 (1 + 7 * 2 ^ 8)
     c.bcast = true ∧ c.ctrl = true ∧ cellKind c = kind ∧ s.clState 3 = clUp ∧ 0 % 2 ^ 16 = (s.cl 3).seqRx ∧
     cellSeq c ∉ (mapGet (fun _ => []) s.group.seen (cellOrigin c) : List Nat) ∧ cellOrigin c ≠ s.member ∧ s.bit CL_GROUP_STATUS_ELECTING = true ∧
     s.group.cands = [] ∧ s.group.expect ≤ 1) ∧
    (link clUp [(CL_GROUP_STATUS_ELECTING, 1)] id fun g => { g with expect := 2 }).group.expect = 2 ∧
    (let s := link clUp [] id fun g => { g with seen := [(5, [9])] }
     cellSeq (ctlCell true 3 5 9 0) ∈ (mapGet (fun _ => []) s.group.seen (cellOrigin (ctlCell true 3 5 9 0)) : List Nat)) ∧
    (let s := link clUp [(CL_GROUP_STATUS_PRESENT, 3)] id fun g => { g with lossAt := some 5 }
     s.group.lossAt = some 5 ∧ 5 + 100000 * unitsPerNs ≤ s.time.mono ∧ s.bit CL_GROUP_STATUS_ELECTING = false ∧
     1 < ((List.range 8).filter fun m => (s.fld CL_GROUP_STATUS_PRESENT).testBit m).length) ∧ State.reset.group.lossAt = none := by decide +kernel

/-! The key store. -/

/-- A KEY task in progress: its word 1 and words 2 to 5. Slot 1 is VALID with a policy; bank 3 is SCHED's too. -/
def keys (w1 : Nat) (w : List Nat) (policy : Nat) (mat : List Byte) (regs : List (Fld × Nat)) : State :=
  let s := task csRunning 0 w1 ([(BANK_OWNER_CODE.inst 3, 2), (KEY_SLOT_STATE_STATE.nth 1, 1), (KEY_SLOT_POLICY_POLICY.nth 1, policy)] ++ regs) fun y =>
    { y with running := [(41, 255)], params := [(41, w)] }
  { s with key := { s.key with mat := [(1, mat)] } }

/-- SRC is slot 1, DST slot 2, BLOB 31. -/
def keyW1 (op : Nat) : Nat := op + 2 * 2 ^ 5 + 1 * 2 ^ 11 + 31 * 2 ^ 18

/-- Input in bank 2 and output in bank 3, of some lengths, at offset 64. -/
def keyWords (policy inLen outLen w5 : Nat) : List Nat := [policy, 0x80040 + inLen * 2 ^ 24, 0xC0040 + outLen * 2 ^ 24, w5]

theorem wit_key_tasks : (∀ op ∈ List.range 18, let s := keys (keyW1 op) (keyWords 0 32 1000 0) 0 [] []
     s.keyTask.map KeyTask.op = some op ∧ s.unitCtx keyUnit = some 255 ∧ ownerAdmits (s.owner (natBits (s.ctxDesc 255) 18 5)) .sched = true) ∧
    (let s := keys (keyW1 5) (keyWords 0 32 1000 0) 0 [] []
     s.keyTask.map KeyTask.inLen = some 32 ∧ s.keyTask.map KeyTask.outLen = some 1000 ∧ s.keyTask.map (fun t => natBits t.inAddr 18 5) = some 2 ∧
     s.keyTask.map (fun t => natBits t.outAddr 18 5) = some 3 ∧ ownerAdmits (s.owner 2) .sched = true ∧ ownerAdmits (s.owner 3) .sched = true ∧
     natBits (s.ctxDesc 255) 18 5 = 2 ∧ ownerAdmits (s.owner 4) .sched = false ∧ s.keyTask.map KeyTask.src = some 1 ∧ s.ksState 1 = 1 ∧ s.ksState 0 = 0) ∧
    State.reset.keyTask = none := by decide +kernel

theorem wit_key_banks (w1 : Nat) : ∀ b off, (keys w1 [] 0 [] []).bankErrAt b off = 0 := fun _ _ => rfl

/-- Each operation of Table 15-5 on slot 1 is open with its usage bit and closed without. -/
theorem wit_key_usage : (∀ q ∈ [(0x06, 7), (0x07, 8), (0x08, 9), (0x09, 5), (0x0A, 6), (0x0B, 12), (0x0F, 11), (0x01, 4)],
     let s := keys (keyW1 q.1) (keyWords 0 32 1000 0) (2 ^ q.2) [] []
     s.ksState 1 = 1 ∧ (s.ksPolicy 1).testBit q.2 = true ∧ ((keys (keyW1 q.1) [] 0 [] []).ksPolicy 1).testBit q.2 = false) ∧
    (keys 0 [] 0 [] [(KEY_SLOT_STATE_STATE.nth 1, 2)]).ksState 1 = 2 ∧ polType ((keys 0 [] 0x104 [] []).ksPolicy 1) = 4 ∧
    polType ((keys 0 [] 0x1010 [] []).ksPolicy 1) < 4 := by decide +kernel

/-- No segment is borrowed and no write meets the task's; a slot latched; lengths that Table 15-5 takes, and one it refuses. -/
theorem wit_key_latch : (let s := keys (keyW1 6) (keyWords 0 32 1000 0) 0x1080 [] []
     s.key.latch = none ∧ ({ s with key := { s.key with latch := some (s.slotNow 1) } }).key.latch = some (s.slotNow 1) ∧ (s.slotNow 1).policy = 0x1080 ∧
     (∀ b < 32, (s.bank b).borrow = none) ∧ s.engs = [] ∧ ¬ (65536 < 32 ∨ 1000 < 32)) ∧
    (∀ q ∈ [(0x01, 36, 0, 4 + 32 * 2 ^ 8), (0x04, 0, 64, 0), (0x05, 32, 32, 0), (0x06, 32, 32, 0), (0x07, 32, 64, 0), (0x08, 96, 0, 0), (0x09, 28, 32, 0), (0x0A, 44, 16, 0),
        (0x0E, 32, 304, 0), (0x0F, 32, 168, 0), (0x10, 32, 0, 0)],
      (keys (keyW1 q.1) (keyWords 0 q.2.1 q.2.2.1 q.2.2.2) 0 [] []).keyTask.map (fun t =>
        (t.op, t.labelLen != 0 && t.inLen == t.labelLen + t.ctxLen, t.inLen, t.outLen, decide (t.inLen < 12 + t.aadLen))) =
        some (q.1, q.1 == 0x01, q.2.1, q.2.2.1, decide (q.2.1 < 12))) := by decide +kernel

theorem wit_key_portE (w1 : Nat) : ∀ b off, (keys w1 [] 0 [] []).portE b off ≠ some true := fun _ _ h => by cases h

theorem wit_key_digests : (sha256 (List.replicate 32 0)).length ≤ 1000 ∧ ¬ (sha256 (List.replicate 32 0)).length ≤ 31 ∧
    (hmac256 (List.replicate 32 1) []).length ≤ 1000 ∧ 1000 < 65536 ∧
    ((keys (keyW1 5) (keyWords 0 70000 31 0) 0 [] []).keyTask.map fun t => (decide (65536 < t.inLen), t.outLen)) = some (true, 31) := by decide +kernel

theorem wit_key_points (a b : Nat) : (pointBytes (a, b)).length ≤ 1000 := by simp [pointBytes, valBytesBE, valBytes]

/-- Input of DECRYPT: IV, no AAD, 16 bytes and a tag. -/
def sealed (tag : List Byte) : List Byte := List.replicate 12 0 ++ List.replicate 16 7 ++ tag

/-- With its tag the input opens; with another it does not. -/
theorem wit_key_decrypt (key : List Byte) : (let tag := gcmTag key (List.replicate 12 0) [] (List.replicate 16 7)
    (sealed tag).length = 44 ∧ (sealed tag).drop 28 = tag ∧ (sealed (tag.map (· + 1))).length = 44 ∧ (sealed (tag.map (· + 1))).drop 28 ≠ tag ∧
    (∀ t, (sealed t).take 12 = List.replicate 12 0 ∧ ((sealed t).drop 12).take 16 = List.replicate 16 7)) := by
  have h := gcmTag_length key (List.replicate 12 0) [] (List.replicate 16 7)
  have d (t : List Byte) : (sealed t).drop 28 = t := List.drop_left' (by simp)
  refine ⟨by simp [sealed, gcmTag_length], d _, by simp [sealed, gcmTag_length], ?_, fun t => ⟨?_, ?_⟩⟩
  · rw [d]
    intro e
    have := congrArg (fun l => l.head?) e
    match htag : gcmTag key (List.replicate 12 0) [] (List.replicate 16 7), h with
    | a :: l, _ => rw [htag] at this; simp at this
  · simp only [sealed, List.append_assoc]; exact List.take_left' (by simp)
  · simp only [sealed, List.append_assoc]
    rw [List.drop_left' (by simp)]; exact List.take_left' (by simp)

theorem wit_key_fill : (let s := keys (keyW1 1) (keyWords 0x1011 20 0 (4 + 16 * 2 ^ 8)) 0x1011 [] []
     s.keyTask.map (fun t => (t.labelLen, t.ctxLen, t.inLen, t.fromRoot, t.dst)) = some (4, 16, 20, false, 2) ∧ (s.ksPolicy 1).testBit 4 = true ∧
     (s.keyTask.map fun t => polOk t.policy false true && polOk t.policy false false) = some true ∧ polType 0x1011 ≠ 5 ∧ s.ksState 2 ≠ 1) ∧
    (let s := keys (keyW1 1 + 2 ^ 17) (keyWords 0x1011 20 0 (4 + 16 * 2 ^ 8)) 0 [] [(KEY_STATUS_ROOT_STATE, 1)]
     (s.keyTask.map KeyTask.fromRoot) = some true ∧ s.rootValid = true) ∧ polOk 0xF011 false true = false ∧ (keys 0 [] 0 [] []).rootValid = false ∧
    (keys 0 [] 0 [] [(KEY_SLOT_STATE_STATE.nth 2, 1)]).ksState 2 = 1 := by decide +kernel

/-- The first 24 bytes of a copy as blob 31: policy 0x1011, generation 7, an imported key. -/
def blobHead : List Byte := ascii "EKEY" ++ valBytes 2 1 ++ valBytes 2 31 ++ valBytes 4 7 ++ valBytes 4 0x1011 ++ [2, 0, 0, 0] ++ valBytes 4 0

/-- The copy with a tag (Table 15-7). -/
def blobWith (tag : List Byte) : List Byte :=
  let body := blobHead ++ List.replicate 12 3 ++ List.replicate 64 5 ++ tag
  body ++ valBytes 4 (crc32 body) ++ List.replicate 136 0

theorem blobWith_ok (tag : List Byte) (h : tag.length = 16) : (blobWith tag).length = 256 ∧ (blobWith tag).take 0x18 = blobHead ∧
    (blobWith tag).take 4 = ascii "EKEY" ∧ leField (blobWith tag) 4 2 = 1 ∧ leField (blobWith tag) 6 2 = 31 ∧ leField (blobWith tag) 0x0C 4 = 0x1011 ∧
    leField (blobWith tag) 0x74 4 = crc32 ((blobWith tag).take 0x74) ∧ ((blobWith tag).drop 0x64).take 16 = tag := by
  have hh : blobHead.length = 0x18 := by decide
  have a : (blobWith tag).take 0x18 = blobHead := by
    simp only [blobWith, List.append_assoc]; exact List.take_left' hh
  have f (o n : Nat) (hn : o + n ≤ 0x18) : leField (blobWith tag) o n = leField blobHead o n := by
    rw [← a]; simp only [leField, List.drop_take, List.take_take]; congr 2; omega
  have body : (blobHead ++ List.replicate 12 3 ++ List.replicate 64 5 ++ tag).length = 0x74 := by simp [hh, h]
  refine ⟨?_, a, ?_, ?_, ?_, ?_, ?_, ?_⟩
  · simp only [blobWith, List.length_append, body]; simp [valBytes_length]
  · have : (blobWith tag).take 4 = ((blobWith tag).take 0x18).take 4 := by rw [List.take_take]; rfl
    rw [this, a]; decide
  · rw [f _ _ (by omega)]; decide
  · rw [f _ _ (by omega)]; decide
  · rw [f _ _ (by omega)]; decide
  · have hc : (blobWith tag).take 0x74 = blobHead ++ List.replicate 12 3 ++ List.replicate 64 5 ++ tag := by
      simp only [blobWith]; rw [List.append_assoc _ _ (List.replicate 136 0)]; exact List.take_left' body
    rw [hc, leField]
    have hd : (blobWith tag).drop 0x74 = valBytes 4 (crc32 (blobHead ++ List.replicate 12 3 ++ List.replicate 64 5 ++ tag)) ++ List.replicate 136 0 := by
      simp only [blobWith]; rw [List.append_assoc _ _ (List.replicate 136 0)]; exact List.drop_left' body
    rw [hd, List.take_left' (valBytes_length 4 _), bytesVal_valBytes]
    exact Nat.mod_eq_of_lt (crc32_lt _)
  · have hd : (blobWith tag).drop 0x64 = tag ++ (valBytes 4 (crc32 (blobHead ++ List.replicate 12 3 ++ List.replicate 64 5 ++ tag)) ++ List.replicate 136 0) := by
      simp only [blobWith, List.append_assoc]
      rw [show blobHead ++ (List.replicate 12 3 ++ (List.replicate 64 5 ++ (tag ++ (valBytes 4 (crc32 (blobHead ++ (List.replicate 12 3 ++ (List.replicate 64 5 ++ tag)))) ++ List.replicate 136 0)))) = (blobHead ++ List.replicate 12 3 ++ List.replicate 64 5) ++ (tag ++ (valBytes 4 (crc32 (blobHead ++ (List.replicate 12 3 ++ (List.replicate 64 5 ++ tag)))) ++ List.replicate 136 0)) by simp only [List.append_assoc]]
      exact List.drop_left' (by simp [hh])
    rw [hd]; exact List.take_left' h

/-- NVM holding that copy; slot 1 is VALID, the root too. -/
def stored (b : Bool) (tag : List Byte) : State :=
  { keys (keyW1 12) (keyWords 0 0 0 0) 0x1011 (List.replicate 32 5) [(KEY_STATUS_ROOT_STATE, 1), (NVM_SPARE_FREE_SECTORS, 2)] with
    nvm := mapSetList nvmDefault [] (blobAddr 31 b) (blobWith tag) }

theorem wit_key_blobs : ∀ b, (let s := stored b (List.replicate 16 9)
    s.keyTask.map KeyTask.blob = some 31 ∧ s.blobNewer 31 = some b ∧ s.ksState 2 ≠ 1 ∧ s.rootValid = true ∧ 2 ≤ s.fld NVM_SPARE_FREE_SECTORS ∧
    s.fld NVM_SPARE_FREE_SECTORS < 3) := by decide +kernel

theorem stored_wrapKey (s : State) (m : List (Nat × Byte)) (p : Nat) : ({ s with nvm := m } : State).wrapKey p = s.wrapKey p := by cases s; rfl
theorem stored_blobBytes (s : State) (m : List (Nat × Byte)) (i : Nat) (b : Bool) :
    ({ s with nvm := m } : State).blobBytes i b = mapGetList nvmDefault m (blobAddr i b) 256 := by cases s; rfl

/-- The tag the wrap key gives opens the copy. -/
theorem wit_key_opens (s0 : State) (b : Bool) : ∃ tag, (let s := { s0 with nvm := mapSetList nvmDefault [] (blobAddr 31 b) (blobWith tag) }
    let x := s.blobBytes 31 b
    let p := leField x 0x0C 4
    gcmTag (s.wrapKey p) ((x.drop 0x18).take 12) (x.take 0x18) ((x.drop 0x24).take 64) = (x.drop 0x64).take 16) := by
  refine ⟨gcmTag (s0.wrapKey 0x1011) (List.replicate 12 3) blobHead (List.replicate 64 5), ?_⟩
  have h := gcmTag_length (s0.wrapKey 0x1011) (List.replicate 12 3) blobHead (List.replicate 64 5)
  generalize ht : gcmTag (s0.wrapKey 0x1011) (List.replicate 12 3) blobHead (List.replicate 64 5) = tag at h
  obtain ⟨len, a, -, -, -, p, -, z⟩ := blobWith_ok tag h
  have hx : ({ s0 with nvm := mapSetList nvmDefault [] (blobAddr 31 b) (blobWith tag) } : State).blobBytes 31 b = blobWith tag := by
    have := mapGetList_setList nvmDefault (blobWith tag) [] (blobAddr 31 b)
    rw [len] at this
    rw [stored_blobBytes]; exact this
  have hi : ((blobWith tag).drop 0x18).take 12 = List.replicate 12 3 := by
    simp only [blobWith, List.append_assoc]
    rw [List.drop_left' (by decide)]; exact List.take_left' (by simp)
  have hc : ((blobWith tag).drop 0x24).take 64 = List.replicate 64 5 := by
    have : (blobWith tag).drop 0x24 = ((blobWith tag).drop 0x18).drop 12 := by rw [List.drop_drop]
    rw [this]
    simp only [blobWith, List.append_assoc]
    rw [List.drop_left' (l₁ := blobHead) (by decide), List.drop_left' (by simp)]; exact List.take_left' (by simp)
  simp only [hx, a, p, z, hi, hc, stored_wrapKey]
  exact ht

theorem wit_key_registers : (let s := keys 0 [] 0 [] []
     s.gate .pcie keyPage = .served ∧ s.mayWrite .pcie keyPage = true ∧ natBits (0x105 : Word).toNat 8 4 = 1 ∧ natBits (0x205 : Word).toNat 8 4 ≠ 1 ∧
     (0xC1EA0001 : Word).getLsbD 0 = true ∧ natBits (0xC1EA0001 : Word).toNat 16 16 = 0xC1EA ∧ natBits (1 : Word).toNat 16 16 ≠ 0xC1EA ∧
     s.tamperOn 2 = true ∧ 2 ∉ s.key.lines ∧ s.tamperOn 5 = false ∧ s.bit KEY_STATUS_TAMPER_ACTIVE = false) ∧
    (keys 0 [] 0 [] [(KEY_STATUS_TAMPER_ACTIVE, 1)]).bit KEY_STATUS_TAMPER_ACTIVE = true ∧
    (let s := keys 0 [] 0 [] [(KEY_IMPORT_SLOT_SLOT, 63), (KEY_IMPORT_POLICY_POLICY, 0x1011), (KEY_CTRL_IMPORT_LOCK, 0)]
     s.fld KEY_IMPORT_SLOT_SLOT = 63 ∧ s.bit KEY_CTRL_IMPORT_LOCK = false ∧ polOk (s.fld KEY_IMPORT_POLICY_POLICY) true false = true ∧ s.ksState 63 ≠ 1 ∧
     importKeyOk (polType (s.fld KEY_IMPORT_POLICY_POLICY)) s.importBytes = true) ∧
    (keys 0 [] 0 [] [(KEY_CTRL_IMPORT_LOCK, 1)]).bit KEY_CTRL_IMPORT_LOCK = true := by decide +kernel

/-! Bring-up and service. -/

/-- A boot phase in progress. -/
def boot (ph : Nat) (regs : List (Fld × Nat)) : State := st ([(SYS_BOOT_PHASE_PHASE, ph)] ++ regs)

theorem wit_reset : (boot 0 []).phase = 0 ∧ (boot 5 []).phase ≠ 0 ∧ (∀ p, p < 4 → ((boot 5 []).net p).rings = []) ∧
    (let s := { up [] with nvmPend := [(5, [1, 2])] }
     s.nvmPend = (5, [1, 2]) :: [] ∧ s.cal.store = none) ∧ State.reset.nvmPend = [] ∧ (up []).nvmPend = [] ∧ (up []).cal.store = none := by decide +kernel

theorem wit_boot_phases : (∀ ph ∈ [1, 2, 3, 4, 5, 6, 7, 8, 9, 10, 11], let s := boot ph []
      s.booting = true ∧ s.phase = ph ∧ s.groom.strapStop = false ∧ s.sectorsUsed ≤ 32 ∧ (∀ q ∈ s.cal.boot, q.1 < 25)) ∧ (boot 15 []).booting = false ∧
    ({ boot 2 [] with groom := { State.reset.groom with strapStop := true } } : State).groom.strapStop = true ∧ 255 % 256 = 255 ∧ 127 % 256 ≠ 255 ∧
    (boot 1 [(KEY_STATUS_ROOT_STATE, 1)]).rootValid = true ∧ (boot 8 []).newerSlot = none ∧
    ({ boot 8 [] with sense := { SenseS.reset with adopted := some 23 } } : State).sense.adopted = some 23 := by decide +kernel

/-- A valid calibration slot of generation 7 (Table 13-4). -/
def calBody : List Byte := [0x45, 0x43, 0x41, 0x4C] ++ valBytes 2 1 ++ valBytes 2 0x288 ++ valBytes 4 7 ++ List.replicate 636 0
def calImage : List Byte := calBody ++ (valBytes 4 (crc32 calBody) ++ List.replicate 372 0)

theorem calImage_ok : calImage.length = 1024 ∧ calSlotOk calImage = true := by
  have hb : calBody.length = 0x288 := by simp only [calBody, List.length_append, List.length_cons, List.length_nil, valBytes_length, List.length_replicate]
  have a : calImage.take 0x288 = calBody := List.take_left' hb
  have f (o n : Nat) (hn : o + n ≤ 0x288) : (calImage.drop o).take n = (calBody.drop o).take n := by
    rw [← a, List.drop_take, List.take_take]; congr 1; omega
  refine ⟨by rw [calImage, List.length_append, List.length_append, hb, valBytes_length, List.length_replicate], ?_⟩
  have z : leField calImage 0x288 4 = crc32 calBody := by
    rw [leField, calImage, List.drop_left' hb, List.take_left' (valBytes_length 4 _), bytesVal_valBytes]
    exact Nat.mod_eq_of_lt (crc32_lt _)
  have t4 : calImage.take 4 = calBody.take 4 := by have := f 0 4 (by omega); simpa using this
  have fl (o n : Nat) (hn : o + n ≤ 0x288) : leField calImage o n = leField calBody o n := by rw [leField, leField, f o n hn]
  simp only [calSlotOk, a, z, t4, fl 4 2 (by omega), fl 6 2 (by omega)]
  simp only [beq_self_eq_true, Bool.and_true]
  decide

theorem calSlot_nvm (s : State) (m : List (Nat × Byte)) (b : Bool) : ({ s with nvm := m } : State).calSlot b =
    if calSlotOk (mapGetList nvmDefault m (calSlotAt b) 1024) then some (mapGetList nvmDefault m (calSlotAt b) 1024) else none := rfl

theorem newerSlot_stored (s : State) (x : List Byte) (len : x.length = 1024) (ok : calSlotOk x = true) (b : Bool) :
    ({ s with nvm := mapSetList nvmDefault [] (calSlotAt b) x } : State).newerSlot = some (b, x) := by
  have mine : mapGetList nvmDefault (mapSetList nvmDefault [] (calSlotAt b) x) (calSlotAt b) 1024 = x := by
    have := mapGetList_setList nvmDefault x [] (calSlotAt b)
    rwa [len] at this
  have other : mapGetList nvmDefault (mapSetList nvmDefault [] (calSlotAt b) x) (calSlotAt !b) 1024 = (List.range 1024).map fun _ => 0#8 := by
    refine List.map_congr_left fun i hi => ?_
    rw [mapGet_setList_out]
    · rfl
    · have := List.mem_range.1 hi
      rw [len]; cases b <;> simp only [calSlotAt] <;> simp <;> omega
  have bad : calSlotOk ((List.range 1024).map fun _ => 0#8) = false := by decide +kernel
  have h1 := calSlot_nvm s (mapSetList nvmDefault [] (calSlotAt b) x) b
  have h2 := calSlot_nvm s (mapSetList nvmDefault [] (calSlotAt b) x) (!b)
  rw [mine, if_pos ok] at h1
  rw [other, if_neg (by rw [bad]; exact Bool.false_ne_true)] at h2
  generalize ({ s with nvm := mapSetList nvmDefault [] (calSlotAt b) x } : State) = u at h1 h2 ⊢
  cases b
  all_goals
    simp only [Bool.not_true, Bool.not_false] at h2
    unfold State.newerSlot
    rw [h1, h2]

theorem wit_boot_nvm (b : Bool) : ({ boot 8 [] with nvm := mapSetList nvmDefault [] (calSlotAt b) calImage } : State).newerSlot = some (b, calImage) :=
  newerSlot_stored _ _ calImage_ok.1 calImage_ok.2 b

theorem wit_recovery : (let s := up []
     s.gate .mspi 0 = .served ∧ s.mayWrite .mspi 0 = true ∧ natBits (0x1A5C3 : Word).toNat 0 16 = 0xA5C3 ∧ natBits (0x1A5C3 : Word).toNat 16 2 = 1 ∧ s.inRecovery = false) ∧
    (let s := up [(SYS_STATUS_RECOVERY, 1)]
     s.gate .mspi 0 = .served ∧ s.mayWrite .mspi 0 = true ∧ natBits (0x2A5C3 : Word).toNat 16 2 = 2 ∧ s.inRecovery = true) ∧
    natBits (0x1A5C2 : Word).toNat 0 16 ≠ 0xA5C3 ∧ (0x3FFFFC : Nat) % 4 = 0 ∧ 0x3FFFFC < 2 ^ 22 ∧ 0x3FFFFD % 4 ≠ 0 := by decide +kernel

theorem blank_abBody (s : State) (a n : Nat) (hn : 4 ≤ n + 8) (h : s.nvm = []) : s.abBody a n = none := by
  have g (c : Nat) : leField (s.nvmBytes c (n + 8)) 0 4 = 0 := by
    have e : ((s.nvmBytes c (n + 8)).drop 0).take 4 = List.replicate 4 0 := by
      simp only [State.nvmBytes, h, mapGetList, List.drop_zero, ← List.map_take, List.take_range, Nat.min_eq_left hn]
      rfl
    rw [leField, e]; rfl
  simp only [State.abBody, State.abNewer, abValid, g]
  simp

/-- A part whose map is a new part's has none to write; one whose map differs has. -/
theorem wit_repair : State.reset.repairDue = none ∧ State.reset.nvmPend = [] ∧ State.reset.cal.store = none ∧
    (up [((BANK_SPARE_MAP_ROW.inst 0).nth 0, 5)]).repairDue.isSome = true ∧ (up [((BANK_SPARE_MAP_ROW.inst 0).nth 0, 5)]).nvmPend = [] := by
  refine ⟨?_, rfl, rfl, ?_, rfl⟩
  · rw [State.repairDue, blank_abBody _ _ _ (by decide) rfl]; simp
  · have d : (up [((BANK_SPARE_MAP_ROW.inst 0).nth 0, 5)]).repairBody ≠ State.reset.repairBody := fun e =>
      absurd (congrArg List.head? e) (by decide +kernel)
    rw [State.repairDue, blank_abBody _ _ _ (by decide) rfl, Option.getD_none, if_neg d]; rfl

theorem wit_configuration : (boot 3 []).pcieHeld = false ∧ (boot 2 []).phase < 3 ∧ (boot 2 []).inRecovery = false ∧ 3 ≤ (boot 3 []).phase ∧
    (boot 3 []).host.cfg.find? (fun (p : Nat × Word) => p.1 == 5) = none ∧
    ({ boot 3 [] with host := { State.reset.host with cfg := [(5, 7)] } } : State).host.cfg.find? (fun (p : Nat × Word) => p.1 == 5) = some (5, 7) := by decide +kernel

/-- Adaptive voltage on, a plan running at a core voltage. -/
def volts (mv : Nat) (f : AvsS → AvsS) : State :=
  let s := timed (10 ^ 10 * 65536) id [(SPEED_AVS_CTRL_EN, 1), (SPEED_AVS_NOW_MV, mv), (PLAN_STATUS_STATE, 1)]
  { s with avs := f State.reset.avs, plan := { s.plan with active := some (plan []) } }

theorem wit_voltage : (∀ mv ∈ [700, 1000], let s := volts mv fun x => { x with up := true }
      s.avs.lastCmd + s.fld SPEED_AVS_STEP_SETTLE_US * 1000 * unitsPerNs ≤ s.time.mono ∧ s.avs.up = true ∧ s.avsPlanRuns = true ∧ s.avsOn = true ∧
      decide (s.fld SPEED_AVS_NOW_MV < s.fld SPEED_AVS_LIMITS_VMAX_MV) = decide (mv = 700)) ∧
    (let s := volts 750 id
     s.avs.periodAt + s.fld SPEED_AVS_STEP_PERIOD_MS * 1000000 * unitsPerNs ≤ s.time.mono ∧ s.plan.active = some (plan []) ∧ s.avs.moved = false ∧
     s.avsOn = true ∧ s.avsPlanRuns = true ∧ s.avs.lastCmd + s.fld SPEED_AVS_STEP_SETTLE_US * 1000 * unitsPerNs ≤ s.time.mono ∧
     s.avsStep ≤ s.fld SPEED_AVS_NOW_MV ∧ s.fld SPEED_AVS_LIMITS_VMIN_MV ≤ s.fld SPEED_AVS_NOW_MV - s.avsStep ∧
     pctOf ((plan []).avail s.rate) (s.fld SPEED_AVS_MARGIN_DOWN_PCT) ≤ (plan []).margin s.rate (s.avs.minShed.getD s.plan.shed) s.avsPredicted) ∧
    State.reset.plan.active = none ∧ State.reset.avs.inFlight = none ∧
    (∀ n ∈ [2, 3], (volts 750 fun x => { x with inFlight := some (750, n) }).avs.inFlight = some (750, n)) := by decide +kernel

theorem wit_engine_tests : (let s := up [(GROOM_CTRL_ENG_TEST_EN, 1), (ENG_STATUS_ROLE.inst 9, roleReserve), (ENG_STATUS_ROLE.inst 8, roleRetired)]
     s.bit GROOM_CTRL_ENG_TEST_EN = true ∧ 9 ∉ s.engTest ∧ s.role 9 = roleReserve ∧ s.role 8 = roleRetired ∧ s.bit (GROOM_ENG_RETIRE_PERMANENT.nth 8) = false) ∧
    (∀ role ∈ [roleTest, roleRetired], let s := { up [(ENG_STATUS_ROLE.inst 9, role)] with engTest := [9], groom := { State.reset.groom with passes := [(9, 100)] } }
      9 ∈ s.engTest ∧ s.role 9 = role ∧ max (s.fld GROOM_RETURN_RETURN_PASSES) 1 ≤ mapGet (fun _ => 0) s.groom.passes 9 + 1 ∧
      s.bit (GROOM_ENG_RETIRE_PERMANENT.nth 9) = false) ∧
    (let s := { up [(ENG_STATUS_ROLE.inst 9, roleTest)] with engTest := [9], plan := { State.reset.plan with reserve := [(1, 9)] } }
     s.plan.reserve.find? (fun (q : Nat × Nat) => q.1 == 1) = some (1, 9)) ∧
    ¬ max ((up []).fld GROOM_RETURN_RETURN_PASSES) 1 ≤ 0 := by decide +kernel

theorem wit_returned : (let s := { up [(ENG_STATUS_ROLE.inst 9, roleTest), (PLAN_SLOT_STATE.nth 0, ssLost), (ENG_SEG_MAP_SEG_OK.inst 9, 4)] with
        plan := { State.reset.plan with active := some (plan []) } }
     s.coldSpare 9 = true ∧ s.place = .slot 0 ∧ s.plan.active = some (plan []) ∧ ((plan []).slots[0]?).isSome = true ∧
     (List.range 4).find? (fun g => (s.fld (ENG_SEG_MAP_SEG_OK.inst 9)).testBit g) = some 2) ∧
    (let s := up [(ENG_STATUS_ROLE.inst 9, roleTest)]
     s.coldSpare 9 = true ∧ s.place = .group 0) ∧
    (let s := up [(ENG_STATUS_ROLE.inst 9, roleTest), (PLAN_SLOT_STATE.nth 7, ssLost)]
     s.coldSpare 9 = true ∧ s.place = .slot 7 ∧ s.plan.active = none) ∧
    (let s := { up [(ENG_STATUS_ROLE.inst 8, roleReserve), (ENG_STATUS_ROLE.inst 9, roleReserve)] with plan := { State.reset.plan with reserve := [(0, 8), (1, 9)] } }
     s.place = .spare) := by decide +kernel

theorem wit_segments : (let s := up []
     (9 < 10 ∧ 3 < 4) ∧ (∀ q ∈ s.plan.reserve, q.2 ≠ 9) ∧ s.role 9 = roleIn ∧ s.fld (ENG_SEG_MAP_SEG.inst 9) ≠ 3 ∧
     (∀ q ∈ s.plan.stagedSeg ++ s.plan.segDue, s.slotEngine q.1 = 9 → q.2 ≠ 3)) := by decide +kernel

theorem wit_dram_rows : (∀ e ∈ [0, 1, 2], let s := { up [(GROOM_CTRL_DRAM_SCRUB_EN, 1), (DRAM_USABLE_MIB_MIB, 8)] with dramErr := if e = 0 then [] else [(0x200, e)] }
      s.bit GROOM_CTRL_DRAM_SCRUB_EN = true ∧ s.inDram (0x1004 / 8 * 8) 8 = true ∧ s.dramErrAt 0x1004 = e ∧ 0 < s.dramFree 7 ∧ (7, 5) ∉ s.groom.dramMirror) ∧
    (let s := { up [] with groom := { State.reset.groom with dramMirror := [(7, 5)], dramCorr := [(7, 5, 999)] } }
     (7, 5) ∈ s.groom.dramMirror ∧ max (s.fld GROOM_ROW_CORR_LIMIT_COUNT) 1 ≤ 999 + 1) ∧
    ({ up [] with groom := { State.reset.groom with dramSpared := List.replicate 64 (7, 1) } } : State).dramFree 7 = 0 ∧
    64 - ((List.replicate 55 (7, 1) ++ [(7, 5)]).filter fun (q : Nat × Nat) => q.1 == 7).length = 8 := by decide +kernel

theorem wit_wear : (let s := { up [(SYS_POWER_HOURS_H, 240), (NVM_SPARE_FREE_SECTORS, 1)] with groom := { State.reset.groom with hot := true, lastWorst := some (5 / 2, 3) } }
     s.phase ≠ 0 ∧ s.fld SYS_POWER_HOURS_H % 240 = 0 ∧ s.groom.lastHours < s.fld SYS_POWER_HOURS_H ∧ s.groom.lastWorst = some (5 / 2, 3) ∧
     1 ≤ s.fld NVM_SPARE_FREE_SECTORS ∧ s.fld NVM_SPARE_FREE_SECTORS < 2) := by decide +kernel

theorem wit_refresh : (up []).mayRefresh = true ∧ (up []).bit DRAM_STATUS_SELF_REFRESH = false ∧
    ({ up [] with groom := { State.reset.groom with srAt := some 7 } } : State).groom.srAt = some 7 ∧ State.reset.groom.srAt = none ∧
    (lamp [] [] (fun x => { x with on := true }) id).mayRefresh = false := by decide +kernel

/-- NVM with the first eight records of the ring written (R492). -/
def worn : State :=
  let b : List Byte := [240, 0, 0, 0, 44, 1, 0, 0, 0, 0, 0, 0]
  { State.reset with nvm := mapSetList nvmDefault [] 0x10000 (List.replicate 8 (b ++ valBytes 4 (crc32 b))).flatten }

theorem wit_wear_records : 8 ≤ worn.wearRecords.length := by
  have first : ((List.range 8).filterMap fun i =>
      let x := worn.nvmBytes (0x10000 + 16 * i) 16
      if leField x 12 4 = crc32 (x.take 12) then some (leField x 0 4, leField x 4 2) else none).length = 8 := by decide +kernel
  rw [State.wearRecords, show 2048 = 8 + 2040 from rfl, List.range_add, List.filterMap_append, List.length_append, first]
  exact Nat.le_add_right 8 _

/-! Values of the spec's worked cases and of the standards it names. -/

/-- Chapter 1: 59.94 Hz at 1,700,000,000 s. -/
theorem test_transit_instants : transitInstant (60000, 1001) 101898101898 = (1699999999 * 10 ^ 9 + 998300000) * 65536 ∧
    transitInstant (60000, 1001) 101898101899 = (1700000000 * 10 ^ 9 + 14983333) * 65536 + 0x5555 ∧ lo32 101898101898 = 0xB999A48A := by decide

/-- Chapter 4: the bundles of the gain stage, and the product of one lane. -/
theorem test_bundles : encodeBundle ⟨.nop, .op .mulhu ⟨true, 0, true, 0, 10, 8, 7⟩, .mem .vldp ⟨0, 8, 4, 1⟩, .nop⟩ = 0x08104001C310A20700000000#128 ∧
    decodeBundle 0x08104001C310A20700000000#128 = ⟨.nop, .op .mulhu ⟨true, 0, true, 0, 10, 8, 7⟩, .mem .vldp ⟨0, 8, 4, 1⟩, .nop⟩ ∧
    decodeM 0x10145001 = .mem .vstp ⟨0, 10, 5, 1⟩ ∧ decodeC 0x8807A107 = .flow .loopi ⟨0, 61, 0x107⟩ ∧ decodeC 0x341CC000 = .imm .lil ⟨0, 7, 0, 0xC000⟩ ∧
    vLane .mulhu 0 16 0x8000 0xC000 0 = 0x6000 := by decide +kernel

/-- Chapter 5: the plan with the level "sparkle", its slot 5 alone. -/
def sparkle : PlanTabs :=
  let laps := List.replicate 71 ⟨6144, 0, false, 0, 200⟩ ++ List.replicate 970 ⟨6144, 0, false, 0, 0⟩ ++ [⟨4096, 0, false, 0, 0⟩] ++
    List.replicate 4 ⟨6144, 1, false, 0, 200⟩ ++ List.replicate 74 ⟨6144, 1, false, 0, 0⟩ ++ [⟨768, 1, false, 0, 0⟩]
  { plan [] with slots := [⟨0, 100, 0, 0, laps, some [], []⟩], outputLead := 300000 }

theorem test_margins : sparkle.avail (120, 1) = 8033333333 ∧ sparkle.margin (120, 1) 0 1130 = 99409253 ∧ sparkle.margin (120, 1) 0 1200 = -382625867 ∧
    sparkle.margin (120, 1) 1 1200 = 201374133 ∧ pctOf 8033333333 5 = 401666666 := by decide +kernel

/-- Settings with some fields given. -/
def cfgWith (l : List (Fld × Nat)) : PortCfg := ⟨fun f => ((l.find? fun p => p.1 == f).map fun p => p.2).getD 0, fun _ => 0, 120, 1⟩

/-- Chapter 11: slots of 2,170 and 2,171 ticks; SHIFT bits of a lane; the red pixel through the reset matrix. -/
theorem test_scan_cases : (let c := cfgWith [(SCAN_MODE_LINES_M1, 63)]
     c.slotTicks 30 1 = 2170 ∧ c.slotTicks 30 7 = 15190 ∧ c.slotTicks 30 8 = 17361) ∧
    (let s := lamp [(SCAN_FORMAT_MATRIX_EN, 1)] [] id id
     (s.inCfg 15).colour [16015, 26201, 61500] = [65517, 0, 0]) := by decide +kernel

/-- Chapter 12: derating at 68.5 °C. -/
theorem test_derating : derateOf (some 1096) 960 250 40 = 126000 ∧ [65535, 52428, 39321].map (fun b => (gainOf b 126000 8, residOf b 126000 8)) =
      [(201, 65406), (161, 65245), (120, 65514)] ∧ teffNext (some 1096) 1072 32 = 1096 ∧ teffNext (some 1096) 1056 32 = 1088 := by decide +kernel

/-- Chapter 16: the fit of the part with S0 960 ps at 625 days. -/
theorem test_wear : wearFit 960 15000 [(6144, 1080), (15000, 1110)] = some 3471 ∧ openRound 3471 1 = 3471 := by decide +kernel

/-- Chapter 10: spacing of the packets of the picture. -/
theorem test_egress_spacing : (let s := force [(TIME_FRAME_RATE_NUM_NUM, 120), (EGRESS_FORMAT_FMT.inst 7, 3), (EGRESS_SIZE_WIDTH.inst 7, 1920), (EGRESS_SIZE_HEIGHT.inst 7, 1080), (EGRESS_TX_SEG_PAYLOAD.inst 7, 1260), (EGRESS_TX_SPAN.inst 7, 1),
      (EGRESS_ACTIVE_NUM.inst 7, 1080), (EGRESS_ACTIVE_DEN.inst 7, 1125)] (up [])
    (s.egressSync 7).fld (EGRESS_PACKETS_N.inst 7) = 6172 ∧ (s.egressSync 7).fld (EGRESS_TRS_PS_PS.inst 7) = 1296176) := by decide +kernel

/-- CRC-32 of "123456789", SHA-256 of "abc" (FIPS 180-4), binary16 products and sums (IEEE 754). -/
theorem test_standards : crc32 (ascii "123456789") = 0xCBF43926 ∧
    bytesValBE (sha256 (ascii "abc")) = 0xBA7816BF8F01CFEA414140DE5DAE2223B00361A396177A9CB410FF61F20015AD ∧
    f16Mul 0x3E00 0x4000 = 0x4200 ∧ f16Mul 0x7BFF 0x7BFF = 0x7C00 ∧ f16Fma 0x3C00 0x3E00 0x4000 = 0x4400 := by decide +kernel

/-! A command, one step. -/

/-- A register keeps what is written to its fields, its reserved bits read 0; a configuration read answers its dword. -/
theorem test_register_write_read : (after (exec (.registerWrite .pcie 7 0x008 0xFFFFFFFF none) (up []))).reg (regKey 7 0x008) = 0x3 ∧
    (after (exec (.configurationRequest (.read 5)) ({ boot 3 [] with host := { State.reset.host with cfg := [(5, 7)] } }))).out = [.data .pcie [7]] := by decide +kernel

/-- A pop takes the oldest word. -/
theorem test_fifo_order : ((after (exec (.fifoPop .pcie 15 []) (fifo (fq [some 7, some 8] []) []))).fifo 15).words = [some 8] := by decide +kernel

/-- An empty queue idles. -/
theorem test_empty_queue : step State.reset = .next State.reset := rfl

/-- MEAS2 after one extend from zero is SHA-256 of 32 zeros and the digest (R463). -/
theorem test_extend : ((up []).measExtend 2 (List.replicate 32 1)).meas 2 = sha256 (List.replicate 32 0 ++ List.replicate 32 1) := by decide +kernel

/-- The hour tick counts; READY is driven low by a reset. -/
theorem test_hours_and_reset : (after (exec .hourTick (up [(SYS_POWER_HOURS_H, 41)]))).fld SYS_POWER_HOURS_H = 42 ∧
    (after (exec .resetAssert (up []))).phase = 0 ∧ (after (exec .resetAssert (up []))).bit SYS_STATUS_READY = false := by decide +kernel

end Sys2Proof.Tests
end

section
/-! PROOF. Reset (O6): every register reads its table's value, and no commit is armed on any page (R21, Table 02-1). -/

namespace Sys2Proof.Machine

open Sys2Proof

/-- No page from 180 on holds a register (Table 02-1). -/
theorem pageRows_eq_nil {p : Nat} (h : 180 ≤ p) : pageRows p = [] := by
  have single (k : Nat) (hk : k < 180) : (p == k) = false := by simp; omega
  have block (a b : Nat) (hb : b ≤ 180) : (decide (a ≤ p) && decide (p < b)) = false := by simp; omega
  simp [-Bool.and_eq_true, -Bool.decide_and, pageRows, single, block]

theorem regReset_reserved {p off : Nat} (hp : 180 ≤ p) (h0 : 0 < off) (h : off < 4096) :
    regReset (regKey p off) = 0 := by
  have hk : regKey p off / 4096 = p := by unfold regKey; omega
  have ho : regKey p off % 4096 = off := by unfold regKey; omega
  have hr : regRow? p off = none := by simp [regRow?, pageRows_eq_nil hp]
  unfold regReset
  simp only [hk, ho, hr]
  repeat rw [if_neg (by omega)]

/-- COMMIT_STATUS.STATE resets to IDLE on the pages that exist and reads 0 on those that do not. -/
theorem commitState_reset (p : Nat) : State.reset.commitState p = cmIdle := by
  by_cases h : p < 180
  · exact (show ∀ p < 180, State.reset.commitState p = cmIdle by decide +kernel) p h
  · have hr : State.reset.reg (regKey p 0x028) = 0 := regReset_reserved (by omega) (by decide) (by decide)
    simp [State.commitState, State.fld, Fld.key, Fld.inst, PG_COMMIT_STATUS_STATE, hr, natBits, cmIdle]

theorem armed_reset (p : Nat) : State.reset.armed p = false := by
  simp [State.armed, commitState_reset, cmIdle, cmArmed]

end Sys2Proof.Machine

open Sys2Proof Sys2Proof.Machine

/-- Settles O6: the register files of the reset state list nothing, so every register reads `regReset`; the thirty
fields and the commit states of the pages that exist are evaluated, and a page past the map reads 0. -/
theorem resetHoldsTableValues : Obligations.ResetHoldsTableValues := by
  unfold Obligations.ResetHoldsTableValues
  exact ⟨by decide +kernel, fun _ => rfl, armed_reset, rfl, rfl, rfl, memWf_reset⟩
end

section
/-! PROOF. Plain register writes (O7): SACN.RX_CFG counts as plain, but a write of its MERGE field merges every
universe anew (R337). -/

namespace Sys2Proof.Machine

open Sys2Proof

/-- Two sources of one universe at the same priority, the later one with fewer slots. -/
def twoSources : List SacnSrc := [⟨[], 100, 0, [1, 2], 0, 0⟩, ⟨[], 100, 0, [9], 1, 0⟩]

/-- The block after reset with universe 1 merged from `twoSources` under HTP, as RX_CFG.MERGE 0 has it (R337). -/
def mergedHtp : State :=
  { State.reset with sacn := { SacnS.idle with
      univs := [(1, ⟨twoSources, (mergeUniv false twoSources).1, (mergeUniv false twoSources).2, some 100, none⟩)] } }

/-- The number of slots in each universe's merged value. -/
def State.mergedSlots (s : State) : List Nat := s.sacn.univs.map fun q => q.2.slots

theorem mergedSlots_mergedHtp : mergedHtp.mergedSlots = [2] := by decide +kernel

/-- Writing RX_CFG.MERGE 1 (LTP) leaves universe 1 with the one slot of its latest source. -/
theorem mergedSlots_write_rxCfg : (mergedHtp.regWrite .mspi 0x70 0x09C 1).mergedSlots = [1] := by decide +kernel

end Sys2Proof.Machine

open Sys2Proof Sys2Proof.Machine

/-- Refutes O7: `plainOff` lets SACN.RX_CFG (page 0x70, offset 0x09C) through, and an accepted write that turns MERGE
from HTP to LTP changes, beside registers, the merged value of a universe with two sources (R337). -/
theorem not_plainWriteLands : ¬ Obligations.PlainWriteLands := by
  unfold Obligations.PlainWriteLands
  intro h
  obtain ⟨t, ht, -, -, -, -, hframe⟩ := h .mspi 0x70 0x09C 1
    ⟨0x09C, 0, 1, none, [⟨0, 1, .rw, false, 0⟩, ⟨1, 1, .rw, false, 0⟩, ⟨16, 12, .rw, false, 2500⟩]⟩ mergedHtp
    (by decide +kernel) (by decide +kernel) (by decide +kernel) (by decide +kernel) (by decide +kernel) (by decide +kernel)
  have hw : mergedHtp.regWrite .mspi 0x70 0x09C 1 = t := Host.Outcome.next.inj ht
  have hs : t.mergedSlots = mergedHtp.mergedSlots := by rw [hframe]; rfl
  rw [← hw, mergedSlots_write_rxCfg, mergedSlots_mergedHtp] at hs
  exact absurd hs (by decide)
end

section
/-! PROOF. Host requests (O14): BAR0 requests as register accesses, words of DRAM written and read through BAR2, the
alternation of a page arbiter's ties. -/

namespace Sys2Proof.Machine

open Sys2Proof

/-! Words of DRAM (R515). -/

@[simp] theorem dramByte_putDramErr (s : State) (a e x : Nat) : (s.putDramErr a e).dramByte x = s.dramByte x := rfl

@[simp] theorem dramBytes_putDramErr (s : State) (a e x n : Nat) : (s.putDramErr a e).dramBytes x n = s.dramBytes x n := rfl

theorem dramBytes_putDramRaw (s : State) (a : Nat) (bs : List Byte) : (s.putDramRaw a bs).dramBytes a bs.length = bs :=
  mapGetList_setList _ _ _ _

theorem dramByte_putDramRaw_out (s : State) (a x : Nat) (bs : List Byte) (h : x < a ∨ a + bs.length ≤ x) :
    (s.putDramRaw a bs).dramByte x = s.dramByte x :=
  mapGet_setList_out _ _ _ _ _ h

theorem writeDramWord_nothing (s : State) (a : Nat) (bs : List (Option Byte)) (h : ∀ b ∈ bs, b = none) :
    s.writeDramWord a bs = s := by
  have hn : bs.all (fun b => b.isNone) = true := by simpa using h
  simp [State.writeDramWord, hn]

theorem foldl_writeDramWord_nothing (s : State) (l : List Nat) (a : Nat → Nat) (bs : List (Option Byte))
    (h : ∀ b ∈ bs, b = none) : l.foldl (fun (t : State) (j : Nat) => t.writeDramWord (a j) bs) s = s := by
  induction l with
  | nil => rfl
  | cons j l ih => rw [List.foldl_cons, writeDramWord_nothing _ _ _ h, ih]

/-- A whole word written is stored and good again. -/
theorem writeDramWord_whole (s : State) (a : Nat) (bs : List Byte) (h : bs.length = 8) :
    s.writeDramWord a (bs.map some) = (s.putDramRaw a bs).putDramErr a 0 := by
  match bs, h with
  | [b0, b1, b2, b3, b4, b5, b6, b7], _ => rfl

theorem readDramWord_good (s : State) (a : Nat) (h : s.dramErrAt a = 0) : s.readDramWord a = (s.dramWord a, false, s) := by
  simp [State.readDramWord, h]

/-- A read of one good word answers its bytes and changes nothing. -/
theorem readDram_goodWord (s : State) (a : Nat) (ha : a % 8 = 0) (h : s.dramErrAt a = 0) :
    s.readDram a 8 = (s.dramBytes a 8, false, s) := by
  have hn : (a + 7) / 8 - a / 8 = 0 := by omega
  simp [State.readDram, State.readDramWords, hn, readDramWord_good s a h]

theorem readDram_zero (s : State) (a : Nat) : s.readDram a 0 = ([], false, s) := by simp [State.readDram]

theorem bytesVal_zeros (n : Nat) : bytesVal (List.replicate n 0#8) = 0 := by
  induction n with
  | zero => rfl
  | succ k ih => simp [List.replicate_succ, bytesVal, ih]

theorem dwords_zeros (n : Nat) : dwords n (List.replicate (4 * n) 0#8) = List.replicate n 0#32 := by
  simp [dwords, leField, bytesVal_zeros, List.drop_replicate, List.take_replicate]

/-! Bad accesses (R58, R82). -/

theorem reg_emit (s : State) (o : Out) (k : Nat) : (s.emit o).reg k = s.reg k := rfl

theorem fld_emit (s : State) (o : Out) (f : Fld) : (s.emit o).fld f = s.fld f := rfl

/-- A refresh of the vectors leaves the page's own EVENT alone. -/
theorem reg_event_refresh (s : State) (p : Nat) : (s.refresh p).reg (regKey p 0x010) = s.reg (regKey p 0x010) := by
  have hv : evKey (p + 1) (regKey p 0x010) = false := by
    simp [evKey, regKey]
    omega
  have hp : regKey p 0x010 ≠ ({ HOST_PEND_PEND.nth (p / 32) with lo := p % 32, w := 1 } : Fld).key := by
    simp only [regKey, Fld.key, Fld.nth, HOST_PEND_PEND]
    omega
  unfold State.refresh
  rw [regsKept_tryVector _ (p + 1) _ (routeVector_lt s p) _ hv]
  exact reg_setFld_ne _ _ _ hp

/-- EVENT[k] is set by its occurrence (R76). -/
theorem event_raise (s : State) (p k arg : Nat) (hk : k < 32) : ((s.raise p k arg).reg (regKey p 0x010)).getLsbD k = true := by
  have hb : ((s.setReg (regKey p 0x010) (s.reg (regKey p 0x010) ||| BitVec.ofNat 32 (2 ^ k))).reg (regKey p 0x010)).getLsbD k = true := by
    rw [reg_setReg_same, BitVec.getLsbD_or, BitVec.getLsbD_ofNat, Nat.testBit_two_pow_self]
    simp [hk]
  unfold State.raise State.occur
  rw [reg_event_refresh]
  split
  · unfold State.pushRec
    split <;> exact hb
  · exact hb

theorem badAccess_counts (s : State) (addr : Nat) :
    (s.badAccess addr).fld HOST_BAD_ACCESS_COUNT = (s.fld HOST_BAD_ACCESS_COUNT + 1) % 2 ^ 32 := by
  have hk : ((s.incFld HOST_BAD_ACCESS_COUNT 1).raise 1 8 addr).reg HOST_BAD_ACCESS_COUNT.key =
      (s.incFld HOST_BAD_ACCESS_COUNT 1).reg HOST_BAD_ACCESS_COUNT.key := regsKept_raise _ 1 8 addr _ (by decide)
  calc (s.badAccess addr).fld HOST_BAD_ACCESS_COUNT = (s.incFld HOST_BAD_ACCESS_COUNT 1).fld HOST_BAD_ACCESS_COUNT := by
        simp only [State.badAccess, State.fld, hk]
    _ = (s.fld HOST_BAD_ACCESS_COUNT + 1) % 2 ^ 32 := fld_setFld_same s HOST_BAD_ACCESS_COUNT _ (by decide)

theorem badAccess_event (s : State) (addr : Nat) : ((s.badAccess addr).reg (regKey 1 0x010)).getLsbD 8 = true :=
  event_raise _ 1 8 addr (by decide)

theorem MemKept.of_quiet {s t : State} (h : Quiet s t) : MemKept s t := by
  rw [h]
  exact ⟨fun _ => ⟨rfl, rfl⟩, fun _ _ => ⟨rfl, rfl⟩, fun _ _ => rfl⟩

/-! BAR0 (R59). -/

section
variable {s : State} (hg : s.hostGate = .served) (r : MemReq)
include hg

theorem bar0_write (hw : r.write = true) (hb : ∀ b ∈ r.be, b = 15) :
    s.bar0 r = (List.range r.be.length).foldl (fun (t : State) (i : Nat) =>
      t.regWrite .pcie (barDword r.addr i).1 (barDword r.addr i).2 (r.data.getD i 0)) s := by
  have hn : r.be.any (fun b => b != 15) = false := by simpa using hb
  simp [State.bar0, hg, hw, hn]

theorem bar0_write_partial (hw : r.write = true) (hb : ∃ b ∈ r.be, b ≠ 15) : s.bar0 r = s.badAccess r.addr := by
  have hy : r.be.any (fun b => b != 15) = true := by simpa using hb
  simp [State.bar0, hg, hw, hy]

theorem bar0_read_long (hw : r.write = false) (hn : 2 < r.be.length) :
    s.bar0 r = (s.badAccess r.addr).emit .abort := by
  simp [State.bar0, hg, hw, hn]

/-- A read of one dword is the register read at its page and offset. -/
theorem bar0_read_one (hw : r.write = false) (hn : r.be.length = 1) (ha : r.addr < 2 ^ 24) (h4 : r.addr % 4 = 0)
    (hp : s.gate .pcie (r.addr / 4096) = .served) :
    exec (.bar0Request r) s = exec (.snapshotRead .pcie (r.addr / 4096) (r.addr % 4096)) s := by
  have hd : barDword r.addr 0 = (r.addr / 4096, r.addr % 4096) := by
    simp only [barDword, Prod.mk.injEq]
    omega
  have ho : r.addr % 4096 % 4096 / 4 * 4 = r.addr % 4096 := by omega
  have h0 : s.bar0 r = s.serveRead .pcie (r.addr / 4096) (r.addr % 4096) fun t =>
      let x := t.regRead .pcie (r.addr / 4096) (r.addr % 4096)
      x.2.2.answer .pcie x.1 x.2.1 := by
    simp [State.bar0, State.readSeq, State.gateRead, State.serveRead, State.answer, hg, hw, hn, hd, hp]
  have h1 : exec (.snapshotRead .pcie (r.addr / 4096) (r.addr % 4096)) s =
      .next (s.serveRead .pcie (r.addr / 4096) (r.addr % 4096 % 4096 / 4 * 4) fun t =>
        let x := t.regRead .pcie (r.addr / 4096) (r.addr % 4096 % 4096 / 4 * 4)
        x.2.2.answer .pcie x.1 x.2.1) := rfl
  rw [h1, ho, ← h0]
  rfl

/-! BAR2 (R58). -/

theorem exec_bar2Access : exec (.bar2Access r) s = .next (s.bar2 r) := by
  show Host.Outcome.next (s.serveMem r (.bar2 r) fun t => t.bar2 r) = _
  simp [State.serveMem, hg]

end

/-- The bytes of a request for one whole word, as its two dwords carry them. -/
def wordBytes (r : MemReq) : List Byte :=
  valBytes 4 (r.data.getD 0 0).toNat ++ valBytes 4 (r.data.getD 1 0).toNat

section
variable {s : State} {r : MemReq} {a : Nat} (ha : s.act HOST_BAR2_WIN_WIN_GIB * 2 ^ 30 + r.addr = a)
include ha

theorem bar2_write_word (hw : r.write = true) (h8 : a % 8 = 0) (hb : r.be = [15, 15]) (hu : a + 8 ≤ s.dramUsable) :
    s.bar2 r = (s.putDramRaw a (wordBytes r)).putDramErr a 0 := by
  have hi : min 8 (s.dramUsable - a) = 8 := by omega
  have hw8 : a / 8 * 8 = a := by omega
  have hd : Nat.testBit 15 0 = true ∧ Nat.testBit 15 1 = true ∧ Nat.testBit 15 2 = true ∧ Nat.testBit 15 3 = true := by decide
  rw [← writeDramWord_whole s a (wordBytes r) (by simp [wordBytes, valBytes_length])]
  unfold State.bar2
  rw [ha]
  simp [hb, hw, hi, h8, hw8, hd, wordBytes, valBytes, List.range_succ]

theorem bar2_read_word (hw : r.write = false) (h8 : a % 8 = 0) (hb : r.be = [15, 15]) (hu : a + 8 ≤ s.dramUsable)
    (he : s.dramErrAt a = 0) : s.bar2 r = s.emit (.data .pcie (dwords 2 (s.dramBytes a 8))) := by
  have hi : min 8 (s.dramUsable - a) = 8 := by omega
  unfold State.bar2
  rw [ha]
  simp [hb, hw, hi, readDram_goodWord s a h8 he]

theorem bar2_write_beyond (hw : r.write = true) (hu : s.dramUsable ≤ a) (hb : r.be ≠ []) :
    s.bar2 r = s.badAccess r.addr := by
  have hi : s.dramUsable - a = 0 := by omega
  have hn : 0 < r.be.length := List.length_pos_iff.2 hb
  unfold State.bar2
  rw [ha]
  simp [hw, hi, hn, foldl_writeDramWord_nothing]

theorem bar2_read_beyond (hw : r.write = false) (hu : s.dramUsable ≤ a) (hb : r.be ≠ []) :
    s.bar2 r = (s.badAccess r.addr).emit (.data .pcie (List.replicate r.be.length 0)) := by
  have hi : s.dramUsable - a = 0 := by omega
  have hn : 0 < r.be.length := List.length_pos_iff.2 hb
  unfold State.bar2
  rw [ha]
  simp [hw, hi, hn, readDram_zero, dwords_zeros]

end

/-! Ties at a page arbiter (R60). -/

theorem exec_write (q : Req) (p off : Nat) (v : Word) (s : State) :
    exec (.registerWrite q p off v none) s = .next (s.regWrite q p off v) := rfl

/-- The requester that wins a tie is served first, the other's write in the state that leaves. -/
theorem exec_write_tie_won (q : Req) (p off o : Nat) (v w : Word) (s : State) (hh : s.pcieHeld = false)
    (hq : s.tieWinner p = q) :
    exec (.registerWrite q p off v (some (.write o w))) s =
      .next (((s.tieTurn p).regWrite q p off v).regWrite (otherReq q) p o w) := by
  show execRegisterWrite q p off v (some (.write o w)) s = _
  simp [execRegisterWrite, hh, hq, State.pageAcc]

theorem exec_write_tie_lost (q : Req) (p off o : Nat) (v w : Word) (s : State) (hh : s.pcieHeld = false)
    (hq : s.tieWinner p ≠ q) :
    exec (.registerWrite q p off v (some (.write o w))) s =
      .next (((s.tieTurn p).regWrite (otherReq q) p o w).regWrite q p off v) := by
  show execRegisterWrite q p off v (some (.write o w)) s = _
  simp [execRegisterWrite, hh, hq, State.pageAcc]

/-- After a tie the next one of the page goes to the other requester. -/
theorem tieWinner_tieTurn (s : State) (p : Nat) : (s.tieTurn p).tieWinner p = otherReq (s.tieWinner p) := by
  unfold State.tieTurn State.tieWinner
  by_cases h : s.host.tiePcie.contains p <;> simp_all [otherReq]

end Sys2Proof.Machine
open Sys2Proof Sys2Proof.Machine

/-- Settles O14, a lemma per kind of request; the tie's order is what `execRegisterWrite` writes out. -/
theorem hostRequestsReachRegistersAndMemory : Obligations.HostRequestsReachRegistersAndMemory := by
  unfold Obligations.HostRequestsReachRegistersAndMemory
  intro r s hg
  refine ⟨fun hw hb => congrArg _ (bar0_write hg r hw hb), fun hw hb => congrArg _ (bar0_write_partial hg r hw hb),
    fun hw hn => congrArg _ (bar0_read_long hg r hw hn), bar0_read_one hg r, ?word, ?beyond, ?tie⟩
  case word =>
    intro a
    have ha : s.act HOST_BAR2_WIN_WIN_GIB * 2 ^ 30 + r.addr = a := rfl
    clear_value a
    intro hr hb _ hu he
    have h8 : a % 8 = 0 := by omega
    refine ⟨fun hw => ⟨_, exec_bar2Access hg r, ?_⟩, fun hw => ?_⟩
    · rw [bar2_write_word ha hw h8 hb hu]
      have hl : (wordBytes r).length = 8 := by simp [wordBytes, valBytes_length]
      refine ⟨?_, fun x hx => dramByte_putDramRaw_out s a x _ (by omega), rfl⟩
      have hd := dramBytes_putDramRaw s a (wordBytes r)
      rw [hl] at hd
      exact hd
    · rw [exec_bar2Access hg, bar2_read_word ha hw h8 hb hu he]
  case beyond =>
    intro a
    have ha : s.act HOST_BAR2_WIN_WIN_GIB * 2 ^ 30 + r.addr = a := rfl
    clear_value a
    intro hu hb
    refine ⟨_, exec_bar2Access hg r, ?_⟩
    cases hw : r.write
    · rw [bar2_read_beyond ha hw hu hb]
      refine ⟨MemKept.of_quiet ((quiet_badAccess s r.addr).trans (quiet_emit _ _)), ?_, ?_, fun _ => by simp [State.emit]⟩
      · rw [fld_emit, badAccess_counts]
      · rw [reg_emit, badAccess_event]
    · rw [bar2_write_beyond ha hw hu hb]
      exact ⟨MemKept.of_quiet (quiet_badAccess s r.addr), badAccess_counts s r.addr, badAccess_event s r.addr,
        fun h => by simp at h⟩
  case tie =>
    intro q p off o v w u hh
    refine ⟨fun hq hu => ?_, fun hq hu => ?_, tieWinner_tieTurn s p, rfl⟩
    · rw [exec_write_tie_won q p off o v w s hh hq, Host.Outcome.next.inj hu, exec_write]
    · rw [exec_write_tie_lost q p off o v w s hh hq, Host.Outcome.next.inj hu, exec_write]
end

section
/-! PROOF. What the step of an engine keeps (R129, R130): the frames of its parts, and the step that issues a bundle
without a fault. -/

namespace Sys2Proof.Machine

open Sys2Proof

/-! Engines beside the rest of the state. -/

@[simp] theorem eng_setEng_same (s : State) (e : Nat) (x : EngS) : (s.setEng e x).eng e = x := mapGet_set_same _ _ _ _

theorem eng_setEng_ne (s : State) {e k : Nat} (x : EngS) (h : k ≠ e) : (s.setEng e x).eng k = s.eng k :=
  mapGet_set_ne _ _ _ h

@[simp] theorem eng_modEng_same (s : State) (e : Nat) (f : EngS → EngS) : (s.modEng e f).eng e = f (s.eng e) :=
  eng_setEng_same _ _ _

theorem eng_setFld (s : State) (f : Fld) (v k : Nat) : (s.setFld f v).eng k = s.eng k := rfl

theorem eng_incFld (s : State) (f : Fld) (n k : Nat) : (s.incFld f n).eng k = s.eng k := rfl

theorem eng_setPair (s : State) (lo hi : Fld) (v k : Nat) : (s.setPair lo hi v).eng k = s.eng k := rfl

/-- Nothing but registers and engine `e` differs between `s` and `t`. -/
def EngineStep (e : Nat) (s t : State) : Prop := t = { s with regs := t.regs, engs := t.engs } ∧ ∀ k, k ≠ e → t.eng k = s.eng k

namespace EngineStep

variable {e : Nat} {s t u : State}

theorem refl (e : Nat) (s : State) : EngineStep e s s := ⟨rfl, fun _ _ => rfl⟩

theorem trans (h : EngineStep e s t) (g : EngineStep e t u) : EngineStep e s u := by
  obtain ⟨ht, hte⟩ := h
  obtain ⟨hu, hue⟩ := g
  exact ⟨by rw [hu, ht], fun k hk => (hue k hk).trans (hte k hk)⟩

theorem setFld (e : Nat) (s : State) (f : Fld) (v : Nat) : EngineStep e s (s.setFld f v) := ⟨rfl, fun _ _ => rfl⟩

theorem setEng (e : Nat) (s : State) (x : EngS) : EngineStep e s (s.setEng e x) := ⟨rfl, fun _ hk => eng_setEng_ne s x hk⟩

theorem modEng (e : Nat) (s : State) (f : EngS → EngS) : EngineStep e s (s.modEng e f) := setEng e s _

theorem memKept (h : EngineStep e s t) : MemKept s t := by
  rw [h.1]
  exact ⟨fun _ => ⟨rfl, rfl⟩, fun _ _ => ⟨rfl, rfl⟩, fun _ _ => rfl⟩

theorem engineOnly (h : EngineStep e s t) : EngineOnly e s t := by
  obtain ⟨ht, hte⟩ := h
  exact ⟨by rw [ht], hte⟩

end EngineStep

namespace EngineOnly

variable {e : Nat} {s t u : State}

theorem refl (e : Nat) (s : State) : EngineOnly e s s := ⟨rfl, fun _ _ => rfl⟩

theorem trans (h : EngineOnly e s t) (g : EngineOnly e t u) : EngineOnly e s u := by
  obtain ⟨ht, hte⟩ := h
  obtain ⟨hu, hue⟩ := g
  exact ⟨by rw [hu, ht], fun k hk => (hue k hk).trans (hte k hk)⟩

theorem of_quiet (h : Quiet s t) : EngineOnly e s t := by
  rw [h]
  exact ⟨rfl, fun _ _ => rfl⟩

theorem ite (c : Prop) [Decidable c] (h : EngineOnly e s t) (g : EngineOnly e s u) : EngineOnly e s (if c then t else u) := by
  split <;> assumption

/-! Words of a bank, whatever their check state (R212, R213). -/

theorem setReg (e : Nat) (s : State) (k : Nat) (v : Word) : EngineOnly e s (s.setReg k v) := of_quiet (quiet_setReg s k v)

theorem setFld (e : Nat) (s : State) (f : Fld) (v : Nat) : EngineOnly e s (s.setFld f v) := of_quiet (quiet_setFld s f v)

theorem setBank (e : Nat) (s : State) (b : Nat) (x : BankS) : EngineOnly e s (s.setBank b x) := ⟨rfl, fun _ _ => rfl⟩

theorem putWord (e : Nat) (s : State) (b off : Nat) (v : DWord) : EngineOnly e s (s.putWord b off v) := ⟨rfl, fun _ _ => rfl⟩

theorem putErr (e : Nat) (s : State) (b off c : Nat) : EngineOnly e s (s.putErr b off c) := ⟨rfl, fun _ _ => rfl⟩

theorem needSpare (e : Nat) (s : State) (b row : Nat) : EngineOnly e s (s.needSpare b row) :=
  ite _ (refl e s) (setBank e s _ _)

theorem eccCorr (e : Nat) (s : State) (b off cls : Nat) : EngineOnly e s (s.eccCorr b off cls) := by
  unfold State.eccCorr
  refine trans ?_ (of_quiet (quiet_raise _ _ _ _))
  refine trans ?_ (putErr e _ _ _ _)
  have hn (f : Fld) (n k : Nat) (v : Word) (x : BankS) : EngineOnly e s (((s.setFld f n).setReg k v).setBank b x) :=
    ((setFld e s f n).trans (setReg e _ k v)).trans (setBank e _ b x)
  exact ite _ ((hn _ _ _ _ _).trans (needSpare e _ _ _)) (hn _ _ _ _ _)

theorem eccUncorr (e : Nat) (s : State) (b off cls : Nat) : EngineOnly e s (s.eccUncorr b off cls) := by
  unfold State.eccUncorr
  refine trans ?_ (of_quiet (quiet_raise _ _ _ _))
  exact ((setFld e s (BANK_ECC_UNCORR_COUNT_COUNT.inst b) _).trans (setReg e _ _ _)).trans (needSpare e _ _ _)

theorem writeWord (e : Nat) (s : State) (b off : Nat) (mask v : DWord) (cls : Nat) :
    EngineOnly e s (s.writeWord b off mask v cls) := by
  unfold State.writeWord
  refine ite _ (refl e s) (ite _ (trans (putWord e s _ _ _) (putErr e _ _ _ _)) ?_)
  exact ite _ (eccUncorr e s b off cls) (trans (ite _ (eccCorr e s b off cls) (refl e s)) (putWord e _ _ _ _))

theorem rmwWord (e : Nat) (s : State) (b off : Nat) (mask v : DWord) (clear : Bool) (cls : Nat) :
    EngineOnly e s (s.rmwWord b off mask v clear cls) :=
  ite _ (eccUncorr e s b off cls) (trans (ite _ (eccCorr e s b off cls) (refl e s)) (putWord e _ _ _ _))

theorem storeWords (e : Nat) (s : State) (a : MAcc) : EngineOnly e s (s.storeWords a) := by
  have all (l : List (Nat × Nat × Nat)) (t : State) : EngineOnly e t (t.storeWords { a with words := l }) := by
    induction l generalizing t with
    | nil => exact refl e t
    | cons w l ih => exact trans (ite _ (writeWord e t _ _ _ _ _) (rmwWord e t _ _ _ _ _ _)) (ih _)
  exact all a.words s

theorem dropGrant (e : Nat) (s : State) (b : Nat) (who : Who) : EngineOnly e s (s.dropGrant b who) :=
  ite _ (setBank e s _ _) (refl e s)

end EngineOnly

/-! Registers and results in flight of an engine. -/

/-- Engine `z` has the registers and the results in flight of `x`, `n` steps on. -/
def EngS.FileAfter (n : Nat) (x z : EngS) : Prop :=
  z.pend = x.pend ∧ z.step = x.step + n ∧ z.v = x.v ∧ z.s = x.s ∧ z.p = x.p

theorem EngS.FileAfter.refl (x : EngS) : EngS.FileAfter 0 x x := ⟨rfl, rfl, rfl, rfl, rfl⟩

theorem EngS.FileAfter.trans {m n : Nat} {x y z : EngS} (h : EngS.FileAfter m x y) (g : EngS.FileAfter n y z) :
    EngS.FileAfter (m + n) x z := by
  obtain ⟨hp, hn, hv, hs, hpr⟩ := h
  obtain ⟨gp, gn, gv, gs, gpr⟩ := g
  exact ⟨gp.trans hp, by omega, gv.trans hv, gs.trans hs, gpr.trans hpr⟩

/-- Control flow leaves registers, results in flight and the step count alone (R156, R157). -/
theorem fileAfter_advance (x : EngS) (c : CSyl) : EngS.FileAfter 0 x (x.advance c) := by
  unfold EngS.advance
  dsimp only
  repeat' split
  all_goals exact ⟨rfl, rfl, rfl, rfl, rfl⟩

theorem fileAfter_setChan (x : EngS) (c : Nat) (ch : Chan) : EngS.FileAfter 0 x (x.setChan c ch) := by
  unfold EngS.setChan
  split <;> exact ⟨rfl, rfl, rfl, rfl, rfl⟩

/-! The parts of a step after the stores. -/

theorem engineStep_descStart (e : Nat) (s : State) (c : Nat) : EngineStep e s (s.descStart e c) := by
  unfold State.descStart
  split
  · exact EngineStep.refl e s
  · exact EngineStep.setFld e s _ _

theorem eng_descStart (s : State) (e c k : Nat) : (s.descStart e c).eng k = s.eng k := by
  unfold State.descStart
  split
  · rfl
  · exact eng_incFld _ _ _ _

theorem engineStep_scPush (e : Nat) (s : State) (c d : Nat) : EngineStep e s (s.scPush e c d) := by
  unfold State.scPush
  dsimp only
  split
  · exact (EngineStep.modEng e s _).trans (engineStep_descStart e _ c)
  · exact EngineStep.modEng e s _

theorem fileAfter_scPush (s : State) (e c d : Nat) : EngS.FileAfter 0 (s.eng e) ((s.scPush e c d).eng e) := by
  unfold State.scPush
  dsimp only
  split
  · rw [eng_descStart, eng_modEng_same]
    exact fileAfter_setChan _ _ _
  · rw [eng_modEng_same]
    exact fileAfter_setChan _ _ _

theorem engineStep_countStep (e : Nat) (s : State) (n : Nat) (inLap : Bool) : EngineStep e s (s.countStep e n inLap) := by
  unfold State.countStep
  refine EngineStep.trans ?_ (EngineStep.modEng e _ _)
  have hp : EngineStep e s (s.setPair (ENG_STEPS_LO_COUNT.inst e) (ENG_STEPS_HI_COUNT.inst e)
      (s.pair (ENG_STEPS_LO_COUNT.inst e) (ENG_STEPS_HI_COUNT.inst e) + n)) :=
    (EngineStep.setFld e s _ _).trans (EngineStep.setFld e _ _ _)
  split
  · exact hp.trans (EngineStep.setFld e _ _ _)
  · exact hp

theorem fileAfter_countStep (s : State) (e n : Nat) (inLap : Bool) :
    EngS.FileAfter n (s.eng e) ((s.countStep e n inLap).eng e) := by
  unfold State.countStep
  rw [eng_modEng_same]
  split
  · rw [eng_incFld, eng_setPair]
    exact ⟨rfl, rfl, rfl, rfl, rfl⟩
  · rw [eng_setPair]
    exact ⟨rfl, rfl, rfl, rfl, rfl⟩

/-- What the C slot of plan code can do to its engine after a bundle that neither opens a window nor ends the frame:
nothing, or a new STATE with what the engine waits for. -/
theorem afterIssue_cases (s : State) (e : Nat) (x : EngS) (c : CSyl) (hk : x.kernelWin = none)
    (hw : ∀ win n, c ≠ .owopen win n) (hf : c ≠ .fend) :
    s.afterIssue e x c = s ∨ ∃ st f, (∀ z, EngS.FileAfter 0 z (f z)) ∧ s.afterIssue e x c = (s.setEngState e st).modEng e f := by
  cases c with
  | lapmark g =>
    simp only [State.afterIssue]
    refine .inr ⟨_, _, ?_, rfl⟩
    exact fun _ => ⟨rfl, rfl, rfl, rfl, rfl⟩
  | fence pr mask =>
    simp only [State.afterIssue]
    split
    · refine .inr ⟨_, _, ?_, rfl⟩
      exact fun _ => ⟨rfl, rfl, rfl, rfl, rfl⟩
    · exact .inl rfl
  | owopen win n => exact absurd rfl (hw win n)
  | kend => exact .inl (by simp [State.afterIssue, hk])
  | fend => exact absurd rfl hf
  | _ => exact .inl rfl

theorem engineStep_afterIssue (s : State) (e : Nat) (x : EngS) (c : CSyl) (hk : x.kernelWin = none)
    (hw : ∀ win n, c ≠ .owopen win n) (hf : c ≠ .fend) : EngineStep e s (s.afterIssue e x c) := by
  obtain h | ⟨st, f, -, h⟩ := afterIssue_cases s e x c hk hw hf <;> rw [h]
  · exact EngineStep.refl e s
  · exact (EngineStep.setFld e s _ _).trans (EngineStep.modEng e _ _)

theorem fileAfter_afterIssue (s : State) (e : Nat) (x : EngS) (c : CSyl) (hk : x.kernelWin = none)
    (hw : ∀ win n, c ≠ .owopen win n) (hf : c ≠ .fend) : EngS.FileAfter 0 (s.eng e) ((s.afterIssue e x c).eng e) := by
  obtain h | ⟨st, f, hfile, h⟩ := afterIssue_cases s e x c hk hw hf <;> rw [h]
  · exact EngS.FileAfter.refl _
  · rw [eng_modEng_same]
    exact hfile _

/-! The effect of a bundle (R129). -/

/-- `s` after the stores of a bundle's access. -/
def State.stored (s : State) (acc : Option MAcc) : State :=
  match acc with
  | some a => if a.kind = 0 then s else s.storeWords a
  | none => s

theorem engineOnly_stored (e : Nat) (s : State) (acc : Option MAcc) : EngineOnly e s (s.stored acc) := by
  cases acc with
  | none => exact EngineOnly.refl e s
  | some a => exact EngineOnly.ite _ (EngineOnly.refl e s) (EngineOnly.storeWords e s a)

/-- `s` after an executed SCSTART has queued its descriptor (R153). -/
def State.started (s : State) (e : Nat) (d : Option (Nat × Nat)) : State :=
  match d with
  | some (c, d) => s.scPush e c d
  | none => s

theorem engineStep_started (e : Nat) (s : State) (d : Option (Nat × Nat)) : EngineStep e s (s.started e d) := by
  cases d with
  | none => exact EngineStep.refl e s
  | some d => exact engineStep_scPush e s d.1 d.2

theorem fileAfter_started (s : State) (e : Nat) (d : Option (Nat × Nat)) :
    EngS.FileAfter 0 (s.eng e) ((s.started e d).eng e) := by
  cases d with
  | none => exact EngS.FileAfter.refl _
  | some d => exact fileAfter_scPush s e d.1 d.2

/-- Plan code's bundle: its stores, its results in flight, SCSTART, the counts, the access it leaves at port E, and
what the C slot does. -/
theorem perform_plan (s : State) (e : Nat) (x : EngS) (y : Syls) (rs : List Pend) (acc : Option MAcc) (hk : x.kernelWin = none) :
    s.perform e x y rs acc = (((((s.stored acc).setEng e { x.advance y.c with pend := x.pend ++ rs, first := false }).started e
      (mStart x y.m)).countStep e 1 (!x.atFend)).modEng e fun z =>
        { z with port := acc.map fun a => (a.bank, a.kind != 0, a.words.map fun w => w.1) }).afterIssue e x y.c := by
  unfold State.perform
  rw [hk]
  rfl

section
variable (s : State) (e : Nat) (x : EngS) (y : Syls) (rs : List Pend) (acc : Option MAcc)
  (hk : x.kernelWin = none) (hw : ∀ win n, y.c ≠ .owopen win n) (hf : y.c ≠ .fend)
include hk hw hf

theorem engineStep_perform : EngineStep e (s.stored acc) (s.perform e x y rs acc) := by
  rw [perform_plan s e x y rs acc hk]
  exact ((((EngineStep.setEng e _ _).trans (engineStep_started e _ _)).trans (engineStep_countStep e _ _ _)).trans
    (EngineStep.modEng e _ _)).trans (engineStep_afterIssue _ e x y.c hk hw hf)

/-- After the bundle its results are in flight, the engine is one step on, and no register has changed. -/
theorem fileAfter_perform : EngS.FileAfter 1 { x with pend := x.pend ++ rs } ((s.perform e x y rs acc).eng e) := by
  rw [perform_plan s e x y rs acc hk]
  obtain ⟨-, hstep, hv, hs, hp⟩ := fileAfter_advance x y.c
  have h0 : EngS.FileAfter 0 { x with pend := x.pend ++ rs }
      (((s.stored acc).setEng e { x.advance y.c with pend := x.pend ++ rs, first := false }).eng e) := by
    rw [eng_setEng_same]
    exact ⟨rfl, hstep, hv, hs, hp⟩
  have h1 := (h0.trans (fileAfter_started _ e (mStart x y.m))).trans (fileAfter_countStep _ e 1 (!x.atFend))
  refine (h1.trans (n := 0) ?_).trans (fileAfter_afterIssue _ e x y.c hk hw hf)
  rw [eng_modEng_same]
  exact ⟨rfl, rfl, rfl, rfl, rfl⟩

end

end Sys2Proof.Machine
end

section
/-! PROOF. Results that land (R130, R132, R135): the register write arbiter, register by register. -/

namespace Sys2Proof.Machine

open Sys2Proof

/-- The register a result goes to, read as a number. -/
def EngS.read (x : EngS) (d : Dest) : Nat :=
  match d with
  | .v i => x.rv i
  | .s i => x.rs i
  | .p i => x.rp i

/-- The bits of a register. -/
def Dest.bits (d : Dest) : Nat :=
  match d with
  | .v _ => 512
  | .s _ => 32
  | .p _ => 32

/-- Whether writes to a register are kept: all but S0 and P0 (R135). -/
def Dest.kept (d : Dest) : Bool :=
  match d with
  | .v _ => true
  | .s i => i != 0
  | .p i => i != 0

/-- Bit `k` of a register of width `w` after a write of the bits `m`. -/
theorem testBit_masked (w k m v old : Nat) (hk : k < w) :
    ((BitVec.ofNat w old &&& ~~~ BitVec.ofNat w m) ||| BitVec.ofNat w (v &&& m)).toNat.testBit k =
      if m.testBit k then v.testBit k else old.testBit k := by
  rw [BitVec.testBit_toNat]
  simp only [BitVec.getLsbD_or, BitVec.getLsbD_and, BitVec.getLsbD_not, BitVec.getLsbD_ofNat, Nat.testBit_and, hk,
    decide_true, Bool.true_and]
  cases m.testBit k <;> simp

theorem read_put_same (x : EngS) (d : Dest) (m v k : Nat) (hd : d.kept = true) (hk : k < d.bits) :
    ((x.put d m v).read d).testBit k = if m.testBit k then v.testBit k else (x.read d).testBit k := by
  cases d with
  | v i =>
    simp only [EngS.read, EngS.put]
    unfold EngS.rv
    rw [mapGet_set_same]
    exact testBit_masked 512 k m v (x.rv i) hk
  | s i =>
    have hi : i ≠ 0 := by simpa [Dest.kept] using hd
    simpa [EngS.read, EngS.put, EngS.rs, hi] using testBit_masked 32 k m v (x.rs i) hk
  | p i =>
    have hi : i ≠ 0 := by simpa [Dest.kept] using hd
    simpa [EngS.read, EngS.put, EngS.rp, hi] using testBit_masked 32 k m v (x.rp i) hk

theorem read_put_ne (x : EngS) {d c : Dest} (m v : Nat) (h : c ≠ d) : (x.put d m v).read c = x.read c := by
  cases d with
  | v i =>
    cases c with
    | v j =>
      have hj : j ≠ i := fun e => h (congrArg Dest.v e)
      simp only [EngS.read, EngS.put]
      unfold EngS.rv
      rw [mapGet_set_ne _ _ _ hj]
    | s j => rfl
    | p j => rfl
  | s i =>
    simp only [EngS.put]
    split
    · rfl
    · cases c with
      | v j => rfl
      | s j =>
        have hj : j ≠ i := fun e => h (congrArg Dest.s e)
        simp only [EngS.read, EngS.rs, mapGet_set_ne _ _ _ hj]
      | p j => rfl
  | p i =>
    simp only [EngS.put]
    split
    · rfl
    · cases c with
      | v j => rfl
      | s j => rfl
      | p j =>
        have hj : j ≠ i := fun e => h (congrArg Dest.p e)
        simp only [EngS.read, EngS.rp, mapGet_set_ne _ _ _ hj]

/-- The results among `l` land in order. -/
def EngS.putAll (x : EngS) (l : List Pend) : EngS := l.foldl (fun y q => y.put q.dest q.mask q.val) x

theorem read_putAll_other (x : EngS) (l : List Pend) (d : Dest) (h : ∀ q ∈ l, q.dest ≠ d) : (x.putAll l).read d = x.read d := by
  induction l generalizing x with
  | nil => rfl
  | cons q l ih =>
    have hq : d ≠ q.dest := fun e => h q (by simp) e.symm
    exact (ih _ fun b hb => h b (by simp [hb])).trans (read_put_ne x q.mask q.val hq)

/-- Where one result alone goes to its register, that register takes its bits under its mask. -/
theorem testBit_putAll (x : EngS) (l : List Pend) (q : Pend) (k : Nat) (hd : q.dest.kept = true) (hk : k < q.dest.bits)
    (h : ∀ b ∈ l, b.dest = q.dest → b = q) :
    ((x.putAll l).read q.dest).testBit k =
      if q ∈ l ∧ q.mask.testBit k = true then q.val.testBit k else (x.read q.dest).testBit k := by
  induction l generalizing x with
  | nil => simp [EngS.putAll]
  | cons b l ih =>
    have hl := ih (x.put b.dest b.mask b.val) fun c hc => h c (by simp [hc])
    by_cases hb : b.dest = q.dest
    · obtain rfl := h b (by simp) hb
      rw [read_put_same x b.dest b.mask b.val k hd hk] at hl
      simp only [EngS.putAll, List.foldl_cons] at hl ⊢
      rw [hl]
      by_cases hm : b.mask.testBit k = true <;> simp [hm]
    · rw [read_put_ne x b.mask b.val (Ne.symm hb)] at hl
      have hne : q ≠ b := fun e => hb (by rw [e])
      simpa [EngS.putAll, hne] using hl

/-! The register write arbiter (R132). -/

/-- The results due at step `n` that are stored: those that win their register. -/
def EngS.stores (x : EngS) (n : Nat) : List Pend :=
  (x.pend.filter fun q => q.land ≤ n).filter fun q => Pend.wins (x.pend.filter fun q => q.land ≤ n) q

theorem mem_stores (x : EngS) (n : Nat) (q : Pend) : q ∈ x.stores n ↔ (q ∈ x.pend ∧ q.land ≤ n) ∧
    ∀ b ∈ x.pend, b.land ≤ n → b.dest = q.dest → b.rank < q.rank ∨ (b.rank = q.rank ∧ b.issued ≤ q.issued) := by
  simp only [EngS.stores, Pend.wins, List.mem_filter, decide_eq_true_eq, List.all_eq_true, Bool.or_eq_true, Bool.and_eq_true,
    bne_iff_ne, beq_iff_eq, and_imp, or_assoc]
  refine and_congr_right fun _ => forall_congr' fun b => forall_congr' fun _ => forall_congr' fun _ => ?_
  exact ⟨fun h hd => h.resolve_left (by simpa using hd), fun h => or_iff_not_imp_left.2 fun hd => h (by simpa using hd)⟩

theorem read_landAt (x : EngS) (n : Nat) (d : Dest) : (x.landAt n).read d = (x.putAll (x.stores n)).read d := by
  cases d <;> rfl

/-- A register with no result due keeps its value. -/
theorem read_landAt_other (x : EngS) (n : Nat) (d : Dest) (h : ∀ q ∈ x.pend, q.land ≤ n → q.dest ≠ d) :
    (x.landAt n).read d = x.read d := by
  rw [read_landAt]
  refine read_putAll_other x _ d fun q hq => ?_
  obtain ⟨⟨hp, hn⟩, -⟩ := (mem_stores x n q).1 hq
  exact h q hp hn

/-- Of the results due for one register the one that comes last is stored, bit by bit under its mask. -/
theorem testBit_landAt (x : EngS) (n : Nat) (q : Pend) (k : Nat) (hd : q.dest.kept = true) (hk : k < q.dest.bits)
    (hq : q ∈ x.pend) (hn : q.land ≤ n)
    (hlast : ∀ b ∈ x.pend, b.land ≤ n → b.dest = q.dest → b = q ∨ b.rank < q.rank ∨ (b.rank = q.rank ∧ b.issued < q.issued)) :
    ((x.landAt n).read q.dest).testBit k = if q.mask.testBit k then q.val.testBit k else (x.read q.dest).testBit k := by
  have hmem : q ∈ x.stores n := by
    refine (mem_stores x n q).2 ⟨⟨hq, hn⟩, fun b hb hbn hbd => ?_⟩
    obtain rfl | h := hlast b hb hbn hbd
    · exact .inr ⟨rfl, le_rfl⟩
    · omega
  have honly : ∀ b ∈ x.stores n, b.dest = q.dest → b = q := by
    intro b hb hbd
    obtain ⟨⟨hbp, hbn⟩, hwin⟩ := (mem_stores x n b).1 hb
    refine (hlast b hbp hbn hbd).resolve_right fun h => ?_
    have := hwin q hq hn hbd.symm
    omega
  rw [read_landAt, testBit_putAll x _ q k hd hk honly]
  simp [hmem]

/-! What a landing leaves alone. -/

/-- Only registers, their parity and the results in flight differ between `x` and `z`. -/
def EngS.RegsOnly (x z : EngS) : Prop :=
  z = { x with v := z.v, s := z.s, p := z.p, parity := z.parity, pend := z.pend }

theorem EngS.RegsOnly.trans {x y z : EngS} (h : EngS.RegsOnly x y) (g : EngS.RegsOnly y z) : EngS.RegsOnly x z := by
  unfold EngS.RegsOnly at *
  rw [g, h]

theorem regsOnly_put (x : EngS) (d : Dest) (m v : Nat) : EngS.RegsOnly x (x.put d m v) := by
  cases d with
  | v i => rfl
  | s i =>
    simp only [EngS.put]
    split <;> rfl
  | p i =>
    simp only [EngS.put]
    split <;> rfl

theorem regsOnly_putAll (x : EngS) (l : List Pend) : EngS.RegsOnly x (x.putAll l) := by
  induction l generalizing x with
  | nil => rfl
  | cons q l ih => exact (regsOnly_put x q.dest q.mask q.val).trans (ih _)

theorem regsOnly_landAt (x : EngS) (n : Nat) : EngS.RegsOnly x (x.landAt n) := (regsOnly_putAll x (x.stores n)).trans rfl

@[simp] theorem landAt_step (x : EngS) (n : Nat) : (x.landAt n).step = x.step := by rw [regsOnly_landAt x n]
@[simp] theorem landAt_pc (x : EngS) (n : Nat) : (x.landAt n).pc = x.pc := by rw [regsOnly_landAt x n]
@[simp] theorem landAt_imem (x : EngS) (n : Nat) : (x.landAt n).imem = x.imem := by rw [regsOnly_landAt x n]
@[simp] theorem landAt_imemErr (x : EngS) (n : Nat) : (x.landAt n).imemErr = x.imemErr := by rw [regsOnly_landAt x n]
@[simp] theorem landAt_tab (x : EngS) (n : Nat) : (x.landAt n).tab = x.tab := by rw [regsOnly_landAt x n]
@[simp] theorem landAt_atFend (x : EngS) (n : Nat) : (x.landAt n).atFend = x.atFend := by rw [regsOnly_landAt x n]
@[simp] theorem landAt_window (x : EngS) (n : Nat) : (x.landAt n).window = x.window := by rw [regsOnly_landAt x n]

end Sys2Proof.Machine
end

section
/-! PROOF. The step that issues a bundle of plan code without a fault (R129, R167), and vector operations (O27). -/

namespace Sys2Proof.Machine

open Sys2Proof

/-! Accesses to good words (R152). -/

/-- A read at port E of a good word that no write of port S has met answers the word and changes nothing. -/
theorem eRead_good (s : State) (b off : Nat) (he : s.bankErrAt b off = 0) (hu : ∀ q ∈ (s.bank b).undef, q.1 ≠ off / 8 * 8) :
    s.eRead b off = (s.bankWord b off, false, s) := by
  have hn : (s.bank b).undef.find? (fun q => q.1 == off / 8 * 8) = none := by
    simpa [List.find?_eq_none] using hu
  simp [State.eRead, State.readWord, hn, he]

theorem loadWords_good (s : State) (b : Nat) (ws : List (Nat × Nat × Nat))
    (h : ∀ w ∈ ws, s.bankErrAt b w.1 = 0 ∧ ∀ q ∈ (s.bank b).undef, q.1 ≠ w.1 / 8 * 8) : (s.loadWords b ws).2 = (false, s) := by
  induction ws with
  | nil => rfl
  | cons w ws ih =>
    obtain ⟨he, hu⟩ := h w (by simp)
    simp [State.loadWords, eRead_good s b w.1 he hu, ih fun q hq => h q (by simp [hq])]

theorem loadAcc_good (s : State) (a : MAcc)
    (h : ∀ w ∈ a.words, s.bankErrAt a.bank w.1 = 0 ∧ ∀ q ∈ (s.bank a.bank).undef, q.1 ≠ w.1 / 8 * 8) :
    (s.loadAcc (some a) true).2 = (false, s) := by
  simp only [State.loadAcc]
  split
  · exact loadWords_good s a.bank a.words h
  · rfl

/-- An access none of whose words lies in a borrowed segment does not stall (R231). -/
theorem stallsAt_none (s : State) (a : MAcc) (h : ∀ w ∈ a.words, s.borrowed a.bank w.1 = false) :
    s.stallsAt (some a) = none := by
  have hn : a.words.find? (fun w => s.borrowed a.bank w.1) = none :=
    List.find?_eq_none.2 fun w hw => by simp [h w hw]
  simp [State.stallsAt, hn]

/-! The issue of a bundle (R129). -/

/-- Engine `e` as its bundle reads it, its access of the step before over. -/
def State.issuer (s : State) (e : Nat) : EngS := { s.atStep e with port := none }

/-- The state in which the bundle of engine `e` meets its checks. -/
def State.atIssue (s : State) (e : Nat) : State := s.setEng e (s.issuer e)

@[simp] theorem eng_atIssue (s : State) (e : Nat) : (s.atIssue e).eng e = s.issuer e := eng_setEng_same _ _ _

theorem kernelWin_issuer (s : State) (e : Nat) : (s.issuer e).kernelWin = (s.eng e).kernelWin := by
  simp [EngS.kernelWin, State.issuer, State.atStep]

theorem engWho_atIssue (s : State) (e : Nat) (h : (s.eng e).kernelWin = none) :
    (s.atIssue e).engWho e = .eng (s.engSlot e) := by
  unfold State.engWho
  rw [eng_atIssue, kernelWin_issuer, h]
  rfl

theorem lapFull_atIssue (s : State) (e : Nat) : (s.atIssue e).lapFull e = s.lapFull e := by
  unfold State.lapFull State.lapSteps EngS.lapEnt
  rw [eng_atIssue]
  simp only [State.issuer, State.atStep, landAt_tab, landAt_atFend]
  rfl

theorem bundleNow_atIssue (s : State) (e : Nat) : (s.atIssue e).bundleNow e = s.bundleNow e := by
  unfold State.bundleNow State.bundleAt
  rw [eng_atIssue]
  simp only [State.issuer, State.atStep, landAt_imem, landAt_pc]
  rfl

/-- The bundle's word being good, its fetch counts and raises nothing (R127). -/
theorem fetchEcc_atIssue (s : State) (e : Nat)
    (h : mapGet (fun _ => 0) (s.eng e).imemErr (s.fld (ENG_SEG_MAP_SEG.inst e) * 8192 + (s.eng e).pc) = 0) :
    (s.atIssue e).fetchEcc e = (0, s.atIssue e) := by
  have h' : mapGet (fun _ => 0) (s.issuer e).imemErr ((s.atIssue e).fld (ENG_SEG_MAP_SEG.inst e) * 8192 + (s.issuer e).pc) = 0 := by
    simp only [State.issuer, State.atStep, landAt_imemErr, landAt_pc]
    exact h
  unfold State.fetchEcc
  rw [eng_atIssue]
  simp [h']

/-- `s` with the arrival of the access's requester used up (R221). -/
def State.granted (s : State) (acc : Option MAcc) (who : Who) : State :=
  match acc with
  | some a => s.dropGrant a.bank who
  | none => s

theorem engineOnly_granted (e : Nat) (s : State) (acc : Option MAcc) (who : Who) : EngineOnly e s (s.granted acc who) := by
  cases acc with
  | none => exact EngineOnly.refl e s
  | some a => exact EngineOnly.dropGrant e s a.bank who

/-- The state a bundle without a fault takes its effect in. -/
def State.atEffect (s : State) (e : Nat) (y : Syls) : State :=
  (s.atIssue e).granted (mAccess (s.issuer e) y.m) (.eng (s.engSlot e))

theorem engineOnly_atEffect (s : State) (e : Nat) (y : Syls) : EngineOnly e s (s.atEffect e y) :=
  (EngineStep.setEng e s _).engineOnly.trans (engineOnly_granted e _ _ _)

/-- A bundle that issues without a fault takes its effect, with the results of its syllables as the engine stands at
the step. -/
theorem issue_performs (s : State) (e : Nat) (y : Syls) (h : s.Issues e y) :
    ∃ data, s.issue e = (s.atEffect e y).perform e (s.issuer e) y
      (y.results (s.issuer e) ((s.atIssue e).rdsys e) data) (mAccess (s.issuer e) y.m) := by
  obtain ⟨-, hk, hlap, hdec, hecc, hflt, hacc⟩ := h
  have hkx : (s.issuer e).kernelWin = none := (kernelWin_issuer s e).trans hk
  have hwho := engWho_atIssue s e hk
  have hdecode : decodeBundle ((s.atIssue e).bundleNow e) = y := by rw [bundleNow_atIssue, hdec]
  have hbreach (rs : List Pend) : (s.issuer e).breaches y rs = false := by simp [EngS.breaches, hkx]
  have hfault : (bundleFault (s.issuer e) y 0 true false).1 = 0 := hflt
  unfold State.issue
  extract_lets src x s1 f z acc own flt
  have hx : x = s.issuer e := rfl
  have hs : s1 = s.atIssue e := rfl
  have hf : f = s1.fetchEcc e := rfl
  have hz : z = decodeBundle (s1.bundleNow e) := rfl
  have hown : own = match acc with | some a => s1.admits a.bank (s1.engWho e) | none => true := rfl
  have ha : acc = mAccess x z.m := rfl
  have hflt : flt = bundleFault x z f.1 own x.kernelWin.isSome := rfl
  clear_value flt own acc z f s1 x
  rw [hs, fetchEcc_atIssue s e hecc] at hf
  rw [hs, hdecode] at hz
  rw [ha, hs, hz, hx, hwho] at hown
  rw [hflt, ha, hf, hz, hx, hs, lapFull_atIssue, hlap, hkx, hwho]
  cases hm : mAccess (s.issuer e) y.m with
  | none =>
    have ho : own = true := by rw [hown, hm]
    refine ⟨[], ?_⟩
    simp [ho, hbreach, hfault, State.stallsAt, State.complete, State.loadAcc, State.atEffect, State.granted, hm]
  | some a =>
    obtain ⟨hadm, hwords⟩ := hacc a hm
    have ho : own = true := by
      rw [hown, hm]
      exact hadm
    have hstall := stallsAt_none (s.atIssue e) a fun w hw => (hwords w hw).2.1
    have hload := loadAcc_good (s.atIssue e) a fun w hw => ⟨(hwords w hw).1, (hwords w hw).2.2⟩
    refine ⟨((s.atIssue e).loadAcc (some a) true).1, ?_⟩
    simp [ho, hbreach, hfault, hstall, hload, State.complete, State.atEffect, State.granted, hm, hwho]

/-- What the step of such a bundle leaves, where it neither opens a window nor ends the frame: its results in flight,
the engine one step on with its registers as they stood, and all but the engine's own part of the state. -/
theorem issue_keeps (s : State) (e : Nat) (y : Syls) (h : s.Issues e y) (hw : ∀ win n, y.c ≠ .owopen win n) (hf : y.c ≠ .fend) :
    ∃ data, EngS.FileAfter 1
        { s.atStep e with pend := (s.atStep e).pend ++ y.results (s.atStep e) ((s.atIssue e).rdsys e) data }
        ((s.issue e).eng e) ∧
      EngineOnly e s (s.issue e) ∧ (mAccess (s.atStep e) y.m = none → MemKept s (s.issue e)) := by
  obtain ⟨data, hp⟩ := issue_performs s e y h
  have hk : (s.issuer e).kernelWin = none := (kernelWin_issuer s e).trans h.2.1
  have hstep (rs : List Pend) (acc : Option MAcc) := engineStep_perform (s.atEffect e y) e (s.issuer e) y rs acc hk hw hf
  refine ⟨data, ?_, ?_, fun hm => ?_⟩
  · rw [hp]
    exact fileAfter_perform (s.atEffect e y) e (s.issuer e) y _ _ hk hw hf
  · rw [hp]
    exact ((engineOnly_atEffect s e y).trans (engineOnly_stored e _ _)).trans (hstep _ _).engineOnly
  · have hm' : mAccess (s.issuer e) y.m = none := hm
    have hs : (s.atEffect e y).stored (mAccess (s.issuer e) y.m) = s.atIssue e := by
      rw [hm', State.atEffect, hm']
      rfl
    rw [hp]
    exact ((EngineStep.setEng e s _).trans (hs ▸ hstep _ _)).memKept

/-! Vector operations in their slots (Table 04-3). -/

/-- The slot of the bundle a vector operation stands in: VB where `vb` says so for the operations of both, else its own. -/
def VOp.inVB (o : VOp) (vb : Bool) : Bool := if o.code < 0x20 then vb else decide (0x60 ≤ o.code)

theorem exec_vecCmd (e : Nat) (vb : Bool) (o : VOp) (f : VF) (s : State) :
    exec (vecCmd e vb o f) s = .next (s.vecOp e (o.inVB vb) o f) := by
  cases o <;> rfl

theorem opLookup_mem {α : Type} (t : List (Nat × α)) (c : Nat) (a : α) (h : opLookup t c = some a) : a ∈ t.map Prod.snd := by
  induction t with
  | nil => simp [opLookup] at h
  | cons p t ih =>
    unfold opLookup at h
    split at h
    · simp_all
    · simp [ih h]

/-- A syllable decodes to an operation of its slot alone (R142). -/
theorem decodeV_slot (vb : Bool) (w : Nat) (o : VOp) (f : VF) (h : decodeV vb w = .op o f) : o.inVB vb = vb := by
  have both : ∀ o ∈ vOpBoth.map Prod.snd, ∀ vb, VOp.inVB o vb = vb := by decide
  have own : ∀ vb, ∀ o ∈ (if vb then vOpB else vOpA).map Prod.snd, VOp.inVB o vb = vb := by decide
  unfold decodeV at h
  dsimp only at h
  split at h
  · cases h
  split at h
  · cases h
  split at h
  case h_1 o' ho =>
    split at h <;> cases h
    exact both _ (opLookup_mem _ _ _ ho) vb
  case h_2 =>
    split at h
    case h_1 o' ho =>
      split at h <;> cases h
      exact own vb _ (opLookup_mem _ _ _ ho)
    case h_2 => split at h <;> cases h

/-- A vector operation's command is the step that issues the bundle that holds it (log entry 14). -/
theorem exec_vecCmd_issues (e : Nat) (vb : Bool) (o : VOp) (f : VF) (y : Syls) (s : State) (h : s.Issues e y)
    (hy : (if vb then y.vb else y.va) = .op o f) : exec (vecCmd e vb o f) s = .next (s.issue e) := by
  obtain ⟨hi, -, -, hdec, -⟩ := h
  have hslot : o.inVB vb = vb := by
    rw [← hdec] at hy
    cases vb
    · exact decodeV_slot false _ o f hy
    · exact decodeV_slot true _ o f hy
  rw [exec_vecCmd, hslot]
  simp [State.vecOp, State.engStep, hi, hdec, hy]

/-- The result of a vector syllable is one result in flight with latency 2 (Table 04-1). -/
theorem vPend_op (x : EngS) (t rank : Nat) (o : VOp) (f : VF) :
    ∃ q, vPend x t rank (.op o f) = [q] ∧ q.land = t + 2 ∧ q.dest = if o.isCmp then .p f.d else .v f.d := by
  cases hc : o.isCmp
  · exact ⟨_, if_neg (by simp [hc]), rfl, rfl⟩
  · exact ⟨_, if_pos hc, rfl, rfl⟩

/-- A bundle's results hold that of its vector syllable in either slot. -/
theorem vPend_mem_results (y : Syls) (x : EngS) (sys : Nat → Nat) (data : List Nat) (vb : Bool) (o : VOp) (f : VF)
    (hy : (if vb then y.vb else y.va) = .op o f) (q : Pend) (hq : q ∈ vPend x x.step (if vb then 1 else 0) (.op o f)) :
    q ∈ y.results x sys data := by
  unfold Syls.results
  rw [← hy] at hq
  cases vb
  · exact List.mem_append_left _ (List.mem_append_left _ (List.mem_append_left _ hq))
  · exact List.mem_append_left _ (List.mem_append_left _ (List.mem_append_right _ hq))

end Sys2Proof.Machine

open Sys2Proof Sys2Proof.Machine

/-- Settles O27: the command is the step that issues the bundle, which without a fault performs it with the results of
its syllables in flight; and what lands is decided register by register by the write arbiter. -/
theorem vectorOpsIssueAndLand : Obligations.VectorOpsIssueAndLand := by
  unfold Obligations.VectorOpsIssueAndLand
  refine ⟨fun e vb o f y s hi hy hw hf => ?_, fun x n => ⟨fun q hq hn hlast => ?_, ?_, ?_, ?_, ?_, rfl, rfl⟩⟩
  · obtain ⟨data, ⟨hpend, hstep, hv, hs, hp⟩, honly, hmem⟩ := issue_keeps s e y hi hw hf
    obtain ⟨r, hr, hland, hdest⟩ := vPend_op (s.atStep e) (s.atStep e).step (if vb then 1 else 0) o f
    refine ⟨_, exec_vecCmd_issues e vb o f y s hi hy, fun q hq => ⟨?_, ?_⟩, ⟨r, hr, hdest⟩, hstep, hv, hs, hp, hmem, honly⟩
    · rw [hpend]
      exact List.mem_append_right _ (vPend_mem_results y _ _ data vb o f hy q hq)
    · rw [hr, List.mem_singleton] at hq
      rw [hq, hland]
  · have hbit (k : Nat) (hd : q.dest.kept = true) (hk : k < q.dest.bits) := testBit_landAt x n q k hd hk hq hn hlast
    cases hdest : q.dest with
    | v i =>
      rw [hdest] at hbit
      exact fun k hk => hbit k rfl hk
    | s i =>
      rw [hdest] at hbit
      exact fun k hk hi => hbit k (by simpa [Dest.kept] using hi) hk
    | p i =>
      rw [hdest] at hbit
      exact fun k hk hi => hbit k (by simpa [Dest.kept] using hi) hk
  · exact fun i h => read_landAt_other x n (.v i) h
  · exact fun i h => read_landAt_other x n (.s i) h
  · exact fun i h => read_landAt_other x n (.p i) h
  · exact fun q hq => by simp [EngS.landAt, hq, le_or_gt]
end

section
/-! PROOF. The transit that is reached (O15): what its registers read (R33, R36), and TRANSIT by cases of the next transit. -/

namespace Sys2Proof.Machine

open Sys2Proof

/-! The transit registers. -/

/-- Nothing but registers differs between `s` and `t`. -/
def RegWrites (s t : State) : Prop := t = { s with regs := t.regs }

theorem RegWrites.refl (s : State) : RegWrites s s := rfl

theorem RegWrites.setFld {s t : State} (h : RegWrites s t) (f : Fld) (v : Nat) : RegWrites s (t.setFld f v) := by
  unfold RegWrites at *
  rw [h]
  rfl

theorem RegWrites.modTime {s t : State} (h : RegWrites s t) (f : TimeS → TimeS) :
    t.modTime f = { s with regs := (t.modTime f).regs, time := (t.modTime f).time } := by
  unfold RegWrites at h
  rw [h]
  rfl

/-- The registers among the changes of a transit: number and ST32, then VALID and SEAM. -/
theorem fld_transitRegs (s : State) (n inst : Nat) (f : Fld) :
    (s.transitRegs n inst).fld f =
      (((((s.setFld TIME_TRANSIT_NUM_LO_NUM_LO n).setFld TIME_TRANSIT_NUM_HI_NUM_HI (n / 2 ^ 32)).setFld
        TIME_TRANSIT_ST32_ST32 (inst / unitsPerNs)).setBit TIME_TRANSIT_STATE_VALID true).setBit TIME_TRANSIT_STATE_SEAM false).fld f := by
  simp only [State.transitRegs, State.fld, State.reg, modTime_regs]

/-- A register other than STATE has what the transit wrote there before STATE. -/
theorem fld_transitRegs_number (s : State) (n inst : Nat) (f : Fld) (hf : f.key ≠ regKey 2 0x214) :
    (s.transitRegs n inst).fld f =
      (((s.setFld TIME_TRANSIT_NUM_LO_NUM_LO n).setFld TIME_TRANSIT_NUM_HI_NUM_HI (n / 2 ^ 32)).setFld
        TIME_TRANSIT_ST32_ST32 (inst / unitsPerNs)).fld f := by
  rw [fld_transitRegs, setBit_eq, setBit_eq, fld_setFld_ne _ TIME_TRANSIT_STATE_SEAM _ _ hf,
    fld_setFld_ne _ TIME_TRANSIT_STATE_VALID _ _ hf]

theorem st32_transitRegs (s : State) (n inst : Nat) :
    (s.transitRegs n inst).fld TIME_TRANSIT_ST32_ST32 = inst / 65536 % 2 ^ 32 := by
  rw [fld_transitRegs_number _ _ _ _ (by decide)]
  exact fld_setFld_same _ _ _ (by decide)

/-- The two halves of the number make the number, up to its 64 bits. -/
theorem number_transitRegs (s : State) (n inst : Nat) :
    (s.transitRegs n inst).pair TIME_TRANSIT_NUM_LO_NUM_LO TIME_TRANSIT_NUM_HI_NUM_HI = n % 2 ^ 64 := by
  have hlo : (s.transitRegs n inst).fld TIME_TRANSIT_NUM_LO_NUM_LO = n % 2 ^ 32 := by
    rw [fld_transitRegs_number _ _ _ _ (by decide), fld_setFld_ne _ _ _ _ (by decide), fld_setFld_ne _ _ _ _ (by decide)]
    exact fld_setFld_same _ _ _ (by decide)
  have hhi : (s.transitRegs n inst).fld TIME_TRANSIT_NUM_HI_NUM_HI = n / 2 ^ 32 % 2 ^ 32 := by
    rw [fld_transitRegs_number _ _ _ _ (by decide), fld_setFld_ne _ _ _ _ (by decide)]
    exact fld_setFld_same _ _ _ (by decide)
  rw [State.pair, hlo, hhi]
  omega

theorem valid_transitRegs (s : State) (n inst : Nat) : (s.transitRegs n inst).bit TIME_TRANSIT_STATE_VALID = true := by
  rw [State.bit, fld_transitRegs, setBit_eq, setBit_eq, fld_setFld_apart _ _ _ _ (by decide) (by decide) (by decide),
    fld_setFld_same _ _ _ (by decide)]
  rfl

theorem seam_transitRegs (s : State) (n inst : Nat) : (s.transitRegs n inst).bit TIME_TRANSIT_STATE_SEAM = false := by
  rw [State.bit, fld_transitRegs, setBit_eq, setBit_eq, fld_setFld_same _ _ _ (by decide)]
  rfl

/-- The next transit is the one after it at the rate in force (R27, R29). -/
theorem nextTransit_transitRegs (s : State) (n inst : Nat) :
    (s.transitRegs n inst).time.nextTransit = some (n + 1, (n + 1) * (s.rate.2) * (10 ^ 9 * 65536) / s.rate.1) := by
  simp only [State.transitRegs, modTime_time]
  rfl

/-- Nothing but registers and the time base differs. -/
theorem transitRegs_frame (s : State) (n inst : Nat) :
    s.transitRegs n inst = { s with regs := (s.transitRegs n inst).regs, time := (s.transitRegs n inst).time } := by
  unfold State.transitRegs
  have h := (((RegWrites.refl s).setFld TIME_TRANSIT_NUM_LO_NUM_LO n).setFld TIME_TRANSIT_NUM_HI_NUM_HI (n / 2 ^ 32)).setFld
    TIME_TRANSIT_ST32_ST32 (inst / unitsPerNs)
  exact RegWrites.modTime ((h.setFld TIME_TRANSIT_STATE_VALID _).setFld TIME_TRANSIT_STATE_SEAM _) _

/-! TRANSIT. -/

theorem exec_transit_underived (s : State) (h : s.time.nextTransit = none) : exec .transit s = .next s := by
  show execTransit s = _
  rw [execTransit, h]

theorem exec_transit_derived (s : State) (n inst : Nat) (h : s.time.nextTransit = some (n, inst)) :
    exec .transit s = .next (if inst ≤ s.time.now then s.atTransit n inst else s) := by
  show execTransit s = _
  rw [execTransit, h]

/-- Outside a seam the transit is its registers, the triggers that count transits, the units, what the planet named,
and this device's own step, if one is authorised. -/
theorem atTransit_no_seam (s : State) (n inst : Nat) (h : s.time.seam = none) :
    s.atTransit n inst =
      (let v := (((s.transitRegs n inst).eachTransit).transitUnits n).planetNamed n
       (match v.ownStep with | some d => v.applyStep d | none => v).modTime fun x => { x with stepSkip := false }) := by
  unfold State.atTransit
  rw [h]
  rfl

end Sys2Proof.Machine

open Sys2Proof Sys2Proof.Machine

/-- Settles O15: TRANSIT by cases of the next transit and its instant; the registers are written field by field. -/
theorem transitReached : Obligations.TransitReached := by
  unfold Obligations.TransitReached
  intro n inst s
  refine ⟨exec_transit_underived s, fun h hlt => ?_, fun h hle => ⟨?_, number_transitRegs s n inst, st32_transitRegs s n inst,
    valid_transitRegs s n inst, seam_transitRegs s n inst, rfl, rfl,
    nextTransit_transitRegs s n inst, transitRegs_frame s n inst, _, rfl, atTransit_no_seam s n inst⟩⟩
  · rw [exec_transit_derived s n inst h, if_neg (by omega)]
  · rw [exec_transit_derived s n inst h, if_pos hle]
end

section
/-! PROOF. What reads of emit data keep (Table 05-6): a read at a bank or of DRAM may correct, count, raise and stall, and
changes no byte, no word and nothing of the plan. -/

namespace Sys2Proof.Machine

open Sys2Proof

/-- The plan, the words of the banks and the bytes of DRAM are the same in `s` and `t`. -/
structure DataKept (s t : State) : Prop where
  plan : t.plan = s.plan
  bankMem : t.bankMem = s.bankMem
  dram : t.dram = s.dram

namespace DataKept

variable {s t u : State}

theorem refl (s : State) : DataKept s s := ⟨rfl, rfl, rfl⟩

theorem trans (h : DataKept s t) (g : DataKept t u) : DataKept s u :=
  ⟨g.plan.trans h.plan, g.bankMem.trans h.bankMem, g.dram.trans h.dram⟩

theorem ite (c : Prop) [Decidable c] (h : DataKept s t) (g : DataKept s u) : DataKept s (if c then t else u) := by
  split <;> assumption

theorem of_quiet (h : Quiet s t) : DataKept s t := by
  rw [h]
  exact ⟨rfl, rfl, rfl⟩

theorem bankWord (h : DataKept s t) (b off : Nat) : t.bankWord b off = s.bankWord b off := by
  rw [State.bankWord, h.bankMem]
  rfl

theorem dramByte (h : DataKept s t) (a : Nat) : t.dramByte a = s.dramByte a := by
  rw [State.dramByte, h.dram]
  rfl

/-- Reads one after the other, each of which keeps the data. -/
theorem foldl {α β : Type} (f : β × State → α → β × State) (hf : ∀ q a, DataKept q.2 (f q a).2) (l : List α) :
    ∀ q, DataKept q.2 (l.foldl f q).2 := by
  induction l with
  | nil => exact fun q => refl q.2
  | cons a l ih => exact fun q => (hf q a).trans (ih (f q a))

/-! One word. -/

theorem setReg (s : State) (k : Nat) (v : Word) : DataKept s (s.setReg k v) := ⟨rfl, rfl, rfl⟩

theorem incFld (s : State) (f : Fld) (n : Nat) : DataKept s (s.incFld f n) := setReg s _ _

theorem takeFree (s : State) : DataKept s s.takeFree := ⟨rfl, rfl, rfl⟩

theorem raise (s : State) (p k arg : Nat) : DataKept s (s.raise p k arg) := of_quiet (quiet_raise s p k arg)

theorem setBank (s : State) (b : Nat) (x : BankS) : DataKept s (s.setBank b x) := ⟨rfl, rfl, rfl⟩

theorem putErr (s : State) (b off e : Nat) : DataKept s (s.putErr b off e) := ⟨rfl, rfl, rfl⟩

theorem needSpare (s : State) (b row : Nat) : DataKept s (s.needSpare b row) := ite _ (refl s) (setBank s _ _)

theorem eccCorr (s : State) (b off cls : Nat) : DataKept s (s.eccCorr b off cls) := by
  unfold State.eccCorr
  refine trans (trans ?_ (putErr _ b off 0)) (raise _ _ _ _)
  have hcount (f : Fld) (n k : Nat) (v : Word) (x : BankS) : DataKept s (((s.incFld f n).setReg k v).setBank b x) :=
    ((incFld s f n).trans (setReg _ k v)).trans (setBank _ b x)
  exact ite _ ((hcount _ _ _ _ _).trans (needSpare _ _ _)) (hcount _ _ _ _ _)

theorem eccUncorr (s : State) (b off cls : Nat) : DataKept s (s.eccUncorr b off cls) :=
  (((incFld s _ _).trans (setReg _ _ _)).trans (needSpare _ _ _)).trans (raise _ _ _ _)

theorem readWord (s : State) (b off cls : Nat) : DataKept s (s.readWord b off cls).2.2 := by
  unfold State.readWord
  dsimp only
  split
  · exact refl s
  split
  · exact eccCorr s b off cls
  · exact eccUncorr s b off cls

theorem bankMeets (s : State) (b off : Nat) (laterS : Bool) : DataKept s (s.bankMeets b off laterS) := by
  unfold State.bankMeets
  refine trans ?_ (raise _ _ _ _)
  have hbusy (t : State) (x : Option Nat) (o : Out) : DataKept t (State.emit { t with bankBusy := x } o) := ⟨rfl, rfl, rfl⟩
  exact ((incFld s _ _).trans (setReg _ _ _)).trans (hbusy _ _ _)

/-- A read at port S (Table 06-4). -/
theorem sRead (s : State) (b off cls : Nat) : DataKept s (s.sRead b off cls).2.2 := by
  have hread := (takeFree s).trans (readWord s.takeFree b off cls)
  unfold State.sRead
  split
  · exact readWord s b off cls
  dsimp only
  split
  · exact (hread.trans (takeFree _)).trans (bankMeets _ _ _ _)
  · exact hread

theorem foreign (s : State) (b off cls : Nat) (write : Bool) : DataKept s (s.foreign b off cls write) :=
  (incFld s _ _).trans (raise _ _ _ _)

theorem stallServed (s : State) (b off cls : Nat) : DataKept s (s.stallServed b off cls) := ite _ (setBank s _ _) (refl s)

theorem emitWord (s : State) (b off : Nat) : DataKept s (s.emitWord b off).2 := by
  unfold State.emitWord
  dsimp only
  split
  · exact (stallServed s b off 2).trans (sRead _ _ _ _)
  · exact (stallServed s b off 2).trans (foreign _ _ _ _ _)

theorem dramCorr (s : State) : DataKept s s.dramCorr := ((incFld s _ _).trans (takeFree _)).trans (raise _ _ _ _)

theorem dramUncorr (s : State) : DataKept s s.dramUncorr := ((incFld s _ _).trans (takeFree _)).trans (raise _ _ _ _)

theorem readDramWord (s : State) (a : Nat) : DataKept s (s.readDramWord a).2.2 := by
  unfold State.readDramWord
  dsimp only
  split
  · exact refl s
  split
  · exact dramCorr s
  · exact (dramUncorr s).trans (takeFree _)

theorem readDramWords (n : Nat) : ∀ (s : State) (a : Nat), DataKept s (s.readDramWords a n).2.2 := by
  induction n with
  | zero => exact fun s _ => refl s
  | succ k ih => exact fun s a => (readDramWord s a).trans (ih _ _)

theorem readDram (s : State) (a n : Nat) : DataKept s (s.readDram a n).2.2 := by
  unfold State.readDram
  split
  · exact refl s
  · exact readDramWords _ s a

/-! The data of an entry (R350 to R352). -/

theorem emitBytes (s : State) (bank : Bool) (a n : Nat) : DataKept s (s.emitBytes bank a n).2 := by
  unfold State.emitBytes
  refine foldl _ (fun q i => ?_) _ ([], s)
  dsimp only
  split
  · exact emitWord _ _ _
  split
  · exact readDramWord _ _
  · exact refl _

theorem sourceBytes (s : State) (f : FrameRun) (e : EmitEnt) (off n : Nat) : DataKept s (s.sourceBytes f e off n).2 :=
  emitBytes s _ _ _

theorem fixtureSlots (f : FrameRun) (e : EmitEnt) (base : Nat) (l : List Nat) :
    ∀ (s : State) (i : Nat), DataKept s (s.fixtureSlots f e base i l).2 := by
  induction l with
  | nil => exact fun s _ => refl s
  | cons a l ih =>
    intro s i
    unfold State.fixtureSlots
    refine trans ?_ (ih _ _)
    split
    · exact refl s
    · exact sourceBytes s f e _ 2

theorem patchSlots (s : State) (f : FrameRun) (e : EmitEnt) (dmx : Bool) (out : Nat) :
    DataKept s (s.patchSlots f e dmx out).2 := by
  unfold State.patchSlots
  dsimp only
  refine foldl _ (fun q v => ?_) _ (_, s)
  exact fixtureSlots f e _ _ q.2 0

theorem readTemplate (s : State) (n leg : Nat) : DataKept s (s.readTemplate n leg).2.2 := by
  have hread := readDram s (s.egTemplate n leg) (s.act (EGRESS_TX_HDR_LEN.inst n))
  simp only [State.readTemplate]
  split
  · exact hread
  · exact refl s

/-! The fetches of the blocks. -/

theorem modDmx (s : State) (n : Nat) (f : DmxS → DmxS) : DataKept s (s.modDmx n f) := ⟨rfl, rfl, rfl⟩

theorem modSacn (s : State) (f : SacnS → SacnS) : DataKept s (s.modSacn f) := ⟨rfl, rfl, rfl⟩

theorem setEgress (s : State) (n : Nat) (l : List EgressJob) : DataKept s (s.setEgress n l) := ⟨rfl, rfl, rfl⟩

theorem dmxFetch (s : State) (n : Nat) (f : FrameRun) (e : EmitEnt) (ready : Bool) : DataKept s (s.dmxFetch n f e ready) := by
  unfold State.dmxFetch
  dsimp only
  split
  · exact refl s
  refine trans ?_ (modDmx _ n _)
  have hread : DataKept s (if e.arg.testBit 10 then s.patchSlots f e true n else s.sourceBytes f e 0 (natBits e.arg 0 10)).2 := by
    split
    · exact patchSlots s f e true n
    · exact sourceBytes s f e 0 _
  exact ite _ (hread.trans (takeFree _)) hread

theorem sacnFetch (s : State) (f : FrameRun) (e : EmitEnt) (ready : Bool) : DataKept s (s.sacnFetch f e ready) := by
  unfold State.sacnFetch
  dsimp only
  split
  · exact refl s
  refine trans ?_ (modSacn _ _)
  have hread (q : List (List Byte) × State) (j : Nat) :
      DataKept q.2 (if e.arg.testBit 8 then q.2.patchSlots f e false (s.flowFirst (natBits e.arg 0 8) + j)
        else q.2.sourceBytes f e (512 * j) 512).2 := by
    split
    · exact patchSlots q.2 f e false _
    · exact sourceBytes q.2 f e _ 512
  have hall := foldl (fun (q : List (List Byte) × State) j =>
    let x := if e.arg.testBit 8 then q.2.patchSlots f e false (s.flowFirst (natBits e.arg 0 8) + j) else q.2.sourceBytes f e (512 * j) 512
    (q.1 ++ [x.1], x.2)) hread (List.range (s.flowCount (natBits e.arg 0 8))) ([], s)
  exact ite _ (hall.trans (takeFree _)) hall

theorem egressFetch (s : State) (n : Nat) (f : FrameRun) (e : EmitEnt) (ready shed : Bool) (launch : Nat) :
    DataKept s (s.egressFetch n f e ready shed launch) := by
  have h1 := readTemplate s n 0
  rcases hr1 : s.readTemplate n 0 with ⟨l1, ok1, u1⟩
  rw [hr1] at h1
  have h2 := h1.trans (readTemplate u1 n 1)
  rcases hr2 : u1.readTemplate n 1 with ⟨l2, ok2, u2⟩
  rw [hr2] at h2
  simp only [State.egressFetch, hr1, hr2]
  split
  · exact refl s
  split
  · exact incFld s _ _
  split
  · exact ite _ (h2.trans (raise _ _ _ _)) ((ite _ (h2.trans (takeFree _)) h2).trans (setEgress _ n _))
  · exact ite _ (h1.trans (raise _ _ _ _)) ((ite _ (h1.trans (takeFree _)) h1).trans (setEgress _ n _))

end DataKept

end Sys2Proof.Machine
end

section
/-! PROOF. What launches keep: the records, cells and packets they send change nothing of the plan. -/

namespace Sys2Proof.Machine

open Sys2Proof

/-- The plan sequencer is the same in `s` and `t`. -/
structure PlanKept (s t : State) : Prop where
  plan : t.plan = s.plan

theorem DataKept.planKept {s t : State} (h : DataKept s t) : PlanKept s t := ⟨h.plan⟩

namespace PlanKept

variable {s t u : State}

theorem refl (s : State) : PlanKept s s := ⟨rfl⟩

theorem trans (h : PlanKept s t) (g : PlanKept t u) : PlanKept s u := ⟨g.plan.trans h.plan⟩

theorem ite (c : Prop) [Decidable c] (h : PlanKept s t) (g : PlanKept s u) : PlanKept s (if c then t else u) := by
  split <;> assumption

/-- Acts one after the other, each of which keeps the plan. -/
theorem foldl {α : Type} (f : State → α → State) (hf : ∀ t a, PlanKept t (f t a)) (l : List α) :
    ∀ s, PlanKept s (l.foldl f s) := by
  induction l with
  | nil => exact refl
  | cons a l ih => exact fun s => (hf s a).trans (ih (f s a))

theorem incFld (s : State) (f : Fld) (n : Nat) : PlanKept s (s.incFld f n) := ⟨rfl⟩

theorem setFld (s : State) (f : Fld) (v : Nat) : PlanKept s (s.setFld f v) := ⟨rfl⟩

theorem setBit (s : State) (f : Fld) (b : Bool) : PlanKept s (s.setBit f b) := ⟨rfl⟩

theorem raise (s : State) (p k arg : Nat) : PlanKept s (s.raise p k arg) := (DataKept.raise s p k arg).planKept

/-! Words of DRAM. -/

theorem putDramErr (s : State) (a e : Nat) : PlanKept s (s.putDramErr a e) := ⟨rfl⟩

/-- Bytes put one by one into a word. -/
theorem putBytes (a : Nat) (l : List (Option Byte × Nat)) (s : State) :
    PlanKept s (l.foldl (fun (u : State) q => match q.1 with
      | some b => { u with dram := mapSet dramDefault u.dram (a + q.2) b }
      | none => u) s) := by
  refine foldl _ (fun t q => ?_) l s
  split
  · exact ⟨rfl⟩
  · exact refl t

theorem writeDramWord (s : State) (a : Nat) (bs : List (Option Byte)) : PlanKept s (s.writeDramWord a bs) := by
  unfold State.writeDramWord
  extract_lets put s1
  have hs1 : PlanKept s s1 := ite _ ((DataKept.dramCorr s).planKept.trans (putDramErr _ a 0)) (refl s)
  split
  · exact refl s
  split
  · exact (putBytes a _ s).trans (putDramErr _ a 0)
  split
  · exact incFld s _ _
  · exact hs1.trans (putBytes a _ s1)

theorem writeDram (s : State) (a : Nat) (bs : List Byte) : PlanKept s (s.writeDram a bs) := by
  unfold State.writeDram
  exact ite _ (refl s) (foldl _ (fun t _ => writeDramWord t _ _) _ s)

/-! Records into FIFO3 (R268, R272). -/

theorem modFifo (s : State) (n : Nat) (f : FifoS → FifoS) : PlanKept s (s.modFifo n f) := ⟨rfl⟩

theorem fifoSync (s : State) (n : Nat) : PlanKept s (s.fifoSync n) := by
  unfold State.fifoSync
  have hcounts := ((setFld s (FIFO_LEVEL_WORDS.inst n) (s.fifoLevel n)).trans
    (setFld _ (FIFO_SPACE_WORDS.inst n) (s.fifoSpace n))).trans (setFld _ (FIFO_RETAINED_WORDS.inst n) (s.retained n))
  exact ((hcounts.trans (setBit _ _ _)).trans (setBit _ _ _)).trans (setBit _ _ _)

theorem markCheck (s : State) (n : Nat) : PlanKept s (s.markCheck n) := by
  unfold State.markCheck
  exact ite _ ((setBit s _ _).trans (raise _ _ _ _)) (refl s)

theorem acceptWord (s : State) (n : Nat) (w : DWord) : PlanKept s (s.acceptWord n w) := by
  unfold State.acceptWord
  have hring (c : Prop) [Decidable c] (a : Nat) (bs : List (Option Byte)) : PlanKept s (if c then s.writeDramWord a bs else s) :=
    ite c (writeDramWord s a bs) (refl s)
  exact (((hring _ _ _).trans (modFifo _ n _)).trans (incFld _ _ _)).trans (markCheck _ n)

theorem acceptWords (s : State) (n : Nat) (ws : List DWord) : PlanKept s (s.acceptWords n ws) := by
  unfold State.acceptWords
  exact (foldl _ (fun t w => acceptWord t n w) ws s).trans (fifoSync _ n)

theorem noteFull (s : State) (n : Nat) : PlanKept s (s.noteFull n) := by
  unfold State.noteFull
  exact (modFifo s n _).trans (foldl _ (fun t _ => raise t _ _ _) _ _)

theorem waitPush (s : State) (n prod req : Nat) (ws behind : List DWord) : PlanKept s (s.waitPush n prod req ws behind) := by
  unfold State.waitPush
  exact (modFifo s n _).trans (noteFull _ n)

theorem devPush (n : Nat) (ws : List DWord) (h : s.devPush n ws = some t) : PlanKept s t := by
  unfold State.devPush at h
  split at h
  · rw [← Option.some.inj h]
    exact acceptWords s n ws
  · cases h

theorem rdmReport (s : State) (n result : Nat) (fault : Bool) : PlanKept s (s.rdmReport n result fault) := ⟨rfl⟩

theorem responderWritten (s : State) (n : Nat) (ws : List DWord) : PlanKept s (s.responderWritten n ws) := by
  unfold State.responderWritten
  exact ite _ (raise s _ _ _) (refl s)

theorem modDmx (s : State) (n : Nat) (f : DmxS → DmxS) : PlanKept s (s.modDmx n f) := ⟨rfl⟩

theorem rdmPush (s : State) (n : Nat) (ws : List DWord) (fin : Option (Nat × Bool)) : PlanKept s (s.rdmPush n ws fin) := by
  unfold State.rdmPush
  split
  case h_1 t ht =>
    refine ((devPush 3 ws ht).trans ?_).trans (responderWritten _ n ws)
    cases fin with
    | none => exact refl t
    | some r => exact rdmReport t n r.1 r.2
  case h_2 => exact (modDmx s n _).trans (waitPush _ _ _ _ _ _)

theorem rdmFailed (s : State) (n ctx outcome : Nat) : PlanKept s (s.rdmFailed n ctx outcome) :=
  (incFld s _ _).trans (raise _ _ _ _)

theorem rdmEnd (s : State) (n : Nat) (r : RdmRun) (outcome st32 : Nat) (bs : List Byte) :
    PlanKept s (s.rdmEnd n r outcome st32 bs) := by
  unfold State.rdmEnd
  extract_lets fault s1 s2
  have hs1 : PlanKept s s1 := (modDmx s n _).trans (setBit _ _ _)
  exact (hs1.trans (ite _ (rdmFailed s1 n r.ctx outcome) (refl s1))).trans (rdmPush s2 n _ _)

/-! Cells (R443, R445). -/

theorem setRxFrame (s : State) (w t : Nat) (x : RxFrame) : PlanKept s (s.setRxFrame w t x) := ⟨rfl⟩

theorem deliverFrame (s : State) (c : Cell) : PlanKept s (s.deliverFrame c) := by
  unfold State.deliverFrame
  extract_lets t x a new
  split
  · exact refl s
  split
  · exact incFld s _ _
  split
  · exact (writeDram s a c.data).trans (setRxFrame _ _ _ _)
  · exact refl s

theorem deliverEnd (s : State) (c : Cell) : PlanKept s (s.deliverEnd c) := by
  unfold State.deliverEnd
  extract_lets w t
  exact ite _ (refl s) (ite _ (incFld s _ _) (setRxFrame s w t _))

theorem deliver (s : State) (c : Cell) : PlanKept s (s.deliver c) := by
  unfold State.deliver
  exact ite _ (ite _ (deliverEnd s c) (refl s)) (deliverFrame s c)

theorem queueCell (s : State) (p : Nat) (c : Cell) (fwd : Bool) : PlanKept s (s.queueCell p c fwd) := ⟨rfl⟩

theorem modCl (s : State) (p : Nat) (f : ClS → ClS) : PlanKept s (s.modCl p f) := ⟨rfl⟩

theorem detour (s : State) (p : Nat) (c : Cell) : PlanKept s (s.detour p c) := by
  unfold State.detour
  split
  · exact deliver s c
  split
  · exact refl s
  · refine ((incFld s (CL_DETOURS_COUNT.inst p) 1).trans ?_).trans (queueCell _ _ _ _)
    exact ite _ (refl _) ((modCl _ p _).trans (raise _ _ _ _))

theorem sendVia (s : State) (p : Nat) (c : Cell) (fwd : Bool) : PlanKept s (s.sendVia p c fwd) := by
  unfold State.sendVia
  exact ite _ (queueCell s p c fwd) (detour s p c)

/-! The launches of the blocks. -/

theorem dmxSend (s : State) (n : Nat) (slots : List Byte) : PlanKept s (s.dmxSend n slots) := by
  unfold State.dmxSend
  have hemit (t : State) (o : Out) : PlanKept t (t.emit o) := ⟨rfl⟩
  exact (((modDmx s n _).trans (setBit _ _ _)).trans (incFld _ _ _)).trans (hemit _ _)

theorem dmxLaunch (s : State) (n : Nat) (f : FrameRun) (cut : RdmIn) : PlanKept s (s.dmxLaunch n f cut) := by
  unfold State.dmxLaunch
  split
  · exact refl s
  split
  · exact (incFld s _ _).trans (raise _ _ _ _)
  extract_lets s1
  have hs1 : PlanKept s s1 := by
    simp only [s1]
    split
    · exact rdmEnd s n _ _ _ _
    · exact refl s
  have hsend (l : List Byte) : PlanKept s (s1.dmxSend n l) := hs1.trans (dmxSend s1 n l)
  split
  · refine ite _ (hsend _) ?_
    split
    · exact hsend _
    · exact hs1
  · exact hsend _
  · exact hs1

theorem egressLaunch (s : State) (n frame : Nat) : PlanKept s (s.egressLaunch n frame) := by
  unfold State.egressLaunch
  exact ite _ (setBit s _ _) (refl s)

theorem modSacn (s : State) (f : SacnS → SacnS) : PlanKept s (s.modSacn f) := ⟨rfl⟩

theorem sacnLaunch (s : State) (frame : Nat) (e : EmitEnt) (at_ : Nat) : PlanKept s (s.sacnLaunch frame e at_) := by
  simp only [State.sacnLaunch]
  split
  · exact refl s
  · exact modSacn s _

theorem modGroup (s : State) (f : GroupS → GroupS) : PlanKept s (s.modGroup f) := ⟨rfl⟩

theorem clLaunch (s : State) (n t : Nat) (f : FrameRun) (e : EmitEnt) (ready : Bool) : PlanKept s (s.clLaunch n t f e ready) := by
  unfold State.clLaunch
  extract_lets k a units hops route w fr r0 r endCell s1
  have hr0 : PlanKept s r0.2 := (DataKept.sourceBytes s f e 0 (64 * units)).planKept
  have hr : PlanKept s r.2 := ite _ (hr0.trans (DataKept.takeFree r0.2).planKept) hr0
  exact (hr.trans (modGroup r.2 _)).trans (foldl _ (fun u c => sendVia u n c false) _ s1)

end PlanKept

end Sys2Proof.Machine
end

section
/-! PROOF. The emit list (O16): a fetch and a launch by parts, what each counts and raises (R46, R186, R342). -/

namespace Sys2Proof.Machine

open Sys2Proof

/-! The entry of a command. -/

/-- The entry a command finds is not launched. -/
theorem emitEntry_not_launched {s : State} {n i : Nat} {f : FrameRun} {e : EmitEnt} (h : s.emitEntry n i = some (f, e)) :
    (f.emitAt i).launched = false := by
  unfold State.emitEntry at h
  split at h
  case h_1 g hg =>
    obtain ⟨e', -, he⟩ := Option.map_eq_some_iff.1 h
    have hl := List.find?_some hg
    rw [(Prod.mk.inj he).1] at hl
    simp_all
  case h_2 => cases h

theorem exec_emitFetch_none {s : State} {n i : Nat} (h : s.emitEntry n i = none) : exec (.emitFetch n i) s = .next s := by
  show execEmitFetch n i s = _
  rw [execEmitFetch, h]

theorem exec_emitLaunch_none {s : State} {n i : Nat} (cut : RdmIn) (h : s.emitEntry n i = none) :
    exec (.emitLaunch n i cut) s = .next s := by
  show execEmitLaunch n i cut s = _
  rw [execEmitLaunch, h]

/-- EMIT_FETCH acts on its entry once, from its fetch instant on and outside a seam. -/
theorem exec_emitFetch {s : State} {n i : Nat} {f : FrameRun} {e : EmitEnt} (h : s.emitEntry n i = some (f, e)) :
    exec (.emitFetch n i) s = .next (if f.launchOf e ≤ s.time.now + e.lead * 65536 ∧ (f.emitAt i).fetched = none ∧
      s.launchSeam (f.launchOf e) = false then s.emitFetch f i e else s) := by
  show execEmitFetch n i s = _
  rw [execEmitFetch, h]
  simp [emitEntry_not_launched h, unitsPerNs]

/-- EMIT_LAUNCH acts on its entry from its launch instant on and outside a seam. -/
theorem exec_emitLaunch {s : State} {n i : Nat} {f : FrameRun} {e : EmitEnt} (cut : RdmIn) (h : s.emitEntry n i = some (f, e)) :
    exec (.emitLaunch n i cut) s = .next (if f.launchOf e ≤ s.time.now ∧ s.launchSeam (f.launchOf e) = false then
      s.emitLaunch f i e cut else s) := by
  show execEmitLaunch n i cut s = _
  rw [execEmitLaunch, h]
  simp [emitEntry_not_launched h]

/-! The fallback (R46, R186). -/

/-- A block that launches has at most 16 pages, from its first one on (Table 02-2). -/
theorem launchPage_bounds {p : Nat} (h : pageBase p ∈ [0x80, 0x68, 0x70, 0xB0]) :
    104 ≤ pageBase p ∧ pageBase p ≤ p ∧ p < pageBase p + 16 ∧ p < 192 := by
  simp only [pageBase, Bool.and_eq_true, decide_eq_true_eq, List.mem_cons, List.not_mem_nil, or_false] at h ⊢
  revert h
  repeat' split
  all_goals omega

/-- An entry that is served names a page of a block that launches. -/
theorem emitServed_page {s : State} {f : FrameRun} {e : EmitEnt} (h : s.emitServed f e = true) :
    pageBase e.page ∈ [0x80, 0x68, 0x70, 0xB0] := by
  simp only [State.emitServed] at h
  simp only [List.mem_cons, List.not_mem_nil, or_false]
  by_contra hn
  obtain ⟨h1, h2, h3, h4⟩ : pageBase e.page ≠ 0x80 ∧ pageBase e.page ≠ 0x68 ∧ pageBase e.page ≠ 0x70 ∧ pageBase e.page ≠ 0xB0 := by
    tauto
  simp [h1, h2, h3, h4] at h

/-- A late entry of such a page is counted. -/
theorem emitLate_counts {s : State} {f : FrameRun} {e : EmitEnt} (h : s.emitServed f e = true) :
    (s.emitLate f e).fld PLAN_EMIT_NOT_READY_COUNT = (s.fld PLAN_EMIT_NOT_READY_COUNT + 1) % 2 ^ 32 := by
  have hpage := launchPage_bounds (emitServed_page h)
  have hk : evKey e.page PLAN_EMIT_NOT_READY_COUNT.key = false := by
    simp [evKey, regKey, Fld.key, PLAN_EMIT_NOT_READY_COUNT]
    omega
  rw [State.emitLate, if_pos h, State.fld, regsKept_raise _ _ _ _ _ hk]
  exact fld_setFld_same s PLAN_EMIT_NOT_READY_COUNT _ (by decide)

theorem emitLate_event {s : State} {f : FrameRun} {e : EmitEnt} (h : s.emitServed f e = true) :
    ((s.emitLate f e).reg (regKey e.page 0x010)).getLsbD 3 = true := by
  rw [State.emitLate, if_pos h]
  exact event_raise _ _ _ _ (by decide)

theorem emitLate_dataKept (s : State) (f : FrameRun) (e : EmitEnt) : DataKept s (s.emitLate f e) := by
  unfold State.emitLate
  exact DataKept.ite _ ((DataKept.incFld s _ _).trans (DataKept.raise _ _ _ _)) (DataKept.refl s)

/-! The fetch (R186). -/

/-- Whether the data of entry `i` of a frame is ready at span-clock instant `now`. -/
def FrameRun.dataReady (f : FrameRun) (i : Nat) (e : EmitEnt) (now : Nat) : Bool :=
  !f.skipped && (e.noReady || match (f.emitAt i).readyAt with | some t => decide (t < now) | none => false)

/-- Whether the fetch of entry `i` goes on. -/
def State.fetchGoes (s : State) (f : FrameRun) (i : Nat) (e : EmitEnt) : Bool := f.dataReady i e s.time.mono && !f.shedEnt e

/-- Whether the fetch of entry `i` finds the entry late. -/
def State.fetchLate (s : State) (f : FrameRun) (i : Nat) (e : EmitEnt) : Bool :=
  !f.dataReady i e s.time.mono && !f.shedEnt e && s.emitServed f e

/-- `s` with entry `i` marked fetched. -/
def State.fetchMarked (s : State) (f : FrameRun) (i : Nat) (e : EmitEnt) : State :=
  s.setEmit f i { f.emitAt i with fetched := some (s.fetchGoes f i e) }

/-- `s` as the block of entry `i` finds it: the entry marked, and its fallback made if it is late. -/
def State.fetchBegun (s : State) (f : FrameRun) (i : Nat) (e : EmitEnt) : State :=
  if f.dataReady i e s.time.mono = true ∨ f.shedEnt e = true then s.fetchMarked f i e else (s.fetchMarked f i e).emitLate f e

theorem emitFetch_eq (s : State) (f : FrameRun) (i : Nat) (e : EmitEnt) :
    s.emitFetch f i e =
      (let t := s.fetchBegun f i e
       let n := e.page - pageBase e.page
       if pageBase e.page = 0x80 then t.dmxFetch n f e (s.fetchGoes f i e)
       else if pageBase e.page = 0x68 then t.egressFetch n f e (s.fetchGoes f i e) (f.shedEnt e) (f.launchOf e)
       else if pageBase e.page = 0x70 then t.sacnFetch f e (s.fetchGoes f i e)
       else t) := rfl

theorem emitServed_fetchMarked (s : State) (f : FrameRun) (i : Nat) (e : EmitEnt) :
    (s.fetchMarked f i e).emitServed f e = s.emitServed f e := rfl

theorem fetchBegun_late {s : State} {f : FrameRun} {i : Nat} {e : EmitEnt} (h : s.fetchLate f i e = true) :
    s.fetchBegun f i e = (s.fetchMarked f i e).emitLate f e := by
  simp only [State.fetchLate, Bool.and_eq_true, Bool.not_eq_true'] at h
  simp [State.fetchBegun, h]

theorem fetchBegun_not_late {s : State} {f : FrameRun} {i : Nat} {e : EmitEnt} (h : s.fetchLate f i e = false) :
    s.fetchBegun f i e = s.fetchMarked f i e := by
  unfold State.fetchBegun
  split
  case isTrue => rfl
  case isFalse hn =>
    rw [State.emitLate, emitServed_fetchMarked, if_neg]
    simp_all [State.fetchLate]

/-- A fetch that goes on is not late. -/
theorem fetchLate_of_goes {s : State} {f : FrameRun} {i : Nat} {e : EmitEnt} (h : s.fetchGoes f i e = true) :
    s.fetchLate f i e = false := by
  simp only [State.fetchGoes, Bool.and_eq_true] at h
  simp [State.fetchLate, h.1]

theorem fetchGoes_of_late {s : State} {f : FrameRun} {i : Nat} {e : EmitEnt} (h : s.fetchLate f i e = true) :
    s.fetchGoes f i e = false := by
  cases hg : s.fetchGoes f i e with
  | false => rfl
  | true => simp [fetchLate_of_goes hg] at h

/-- The fetch reads data and changes none: the entry's mark apart, the plan is as it was. -/
theorem emitFetch_dataKept (s : State) (f : FrameRun) (i : Nat) (e : EmitEnt) :
    DataKept (s.fetchMarked f i e) (s.emitFetch f i e) := by
  have hbegun : DataKept (s.fetchMarked f i e) (s.fetchBegun f i e) :=
    DataKept.ite _ (DataKept.refl _) (emitLate_dataKept _ f e)
  rw [emitFetch_eq]
  refine hbegun.trans ?_
  dsimp only
  refine DataKept.ite _ (DataKept.dmxFetch _ _ _ _ _) (DataKept.ite _ (DataKept.egressFetch _ _ _ _ _ _ _) ?_)
  exact DataKept.ite _ (DataKept.sacnFetch _ _ _ _) (DataKept.refl _)

/-- What a late entry's block does beyond the fallback: an egress unit may count the picture as skipped (R335). -/
theorem emitFetch_late_cases {s : State} {f : FrameRun} {i : Nat} {e : EmitEnt} (h : s.fetchLate f i e = true) :
    s.emitFetch f i e = (s.fetchMarked f i e).emitLate f e ∨
      pageBase e.page = 0x68 ∧ s.emitFetch f i e =
        ((s.fetchMarked f i e).emitLate f e).incFld (EGRESS_FRAMES_SKIPPED_COUNT.inst (e.page - 0x68)) 1 := by
  rw [emitFetch_eq, fetchGoes_of_late h, fetchBegun_late h]
  dsimp only
  split
  · exact .inl (by simp [State.dmxFetch])
  split
  case isTrue hb =>
    rw [hb, State.egressFetch]
    split
    · exact .inl rfl
    · exact .inr ⟨rfl, by simp⟩
  split
  · exact .inl (by simp [State.sacnFetch])
  · exact .inl rfl

/-- Registers but for the count of skipped pictures are those of the fallback. -/
theorem reg_emitFetch_late {s : State} {f : FrameRun} {i : Nat} {e : EmitEnt} (h : s.fetchLate f i e = true) (k : Nat)
    (hk : k ≠ regKey e.page 0x078) : (s.emitFetch f i e).reg k = ((s.fetchMarked f i e).emitLate f e).reg k := by
  obtain ht | ⟨hb, ht⟩ := emitFetch_late_cases h <;> rw [ht]
  refine reg_setFld_ne _ _ _ fun hkey => hk ?_
  have hpage := launchPage_bounds (p := e.page) (by simp [hb])
  rw [hkey]
  simp only [Fld.key, Fld.inst, EGRESS_FRAMES_SKIPPED_COUNT, regKey]
  omega

theorem emitFetch_late_counts {s : State} {f : FrameRun} {i : Nat} {e : EmitEnt} (h : s.fetchLate f i e = true) :
    (s.emitFetch f i e).fld PLAN_EMIT_NOT_READY_COUNT = (s.fld PLAN_EMIT_NOT_READY_COUNT + 1) % 2 ^ 32 := by
  have hs : (s.fetchMarked f i e).emitServed f e = true := by simp_all [State.fetchLate, emitServed_fetchMarked]
  have hpage := launchPage_bounds (emitServed_page hs)
  rw [State.fld, reg_emitFetch_late h _ (by simp only [Fld.key, PLAN_EMIT_NOT_READY_COUNT, regKey]; omega)]
  exact emitLate_counts hs

theorem emitFetch_late_event {s : State} {f : FrameRun} {i : Nat} {e : EmitEnt} (h : s.fetchLate f i e = true) :
    ((s.emitFetch f i e).reg (regKey e.page 0x010)).getLsbD 3 = true := by
  have hs : (s.fetchMarked f i e).emitServed f e = true := by simp_all [State.fetchLate, emitServed_fetchMarked]
  rw [reg_emitFetch_late h _ (by simp only [regKey]; omega)]
  exact emitLate_event hs

/-- The fetch of a Camlek entry that is not late marks it and no more (R444). -/
theorem emitFetch_camlek {s : State} {f : FrameRun} {i : Nat} {e : EmitEnt} (hb : pageBase e.page = 0xB0)
    (h : s.fetchLate f i e = false) : s.emitFetch f i e = s.fetchMarked f i e := by
  rw [emitFetch_eq, fetchBegun_not_late h]
  simp [hb]

@[simp] theorem dmx_modDmx_same (s : State) (n : Nat) (g : DmxS → DmxS) : (s.modDmx n g).dmx n = g (s.dmx n) :=
  mapGet_set_same _ _ _ _

/-- What a port whose turn it is holds after the fetch of an unpatched entry: the start code and its slots (R342). -/
theorem dmxFetch_holds {s : State} {n : Nat} {f : FrameRun} {e : EmitEnt} (hr : s.dmxRole n = drController)
    (ht : s.dmxTurn n (f.plan.emitTransit f.n) = true) (hp : e.arg.testBit 10 = false) :
    ((s.dmxFetch n f e true).dmx n).fetched = some (f.n, BitVec.ofNat 8 (s.act (DMX_TX_CFG_START_CODE.inst n)) ::
      (s.sourceBytes f e 0 (natBits e.arg 0 10)).1.take (natBits e.arg 0 10)) := by
  simp [State.dmxFetch, hr, ht, hp]

theorem emitFetch_dmx {s : State} {f : FrameRun} {i : Nat} {e : EmitEnt} (hb : pageBase e.page = 0x80)
    (h : s.fetchGoes f i e = true) : s.emitFetch f i e = (s.fetchMarked f i e).dmxFetch (e.page - 0x80) f e true := by
  rw [emitFetch_eq, fetchBegun_not_late (fetchLate_of_goes h), h, hb]
  rfl

/-! The launch (R184). -/

/-- `s` with entry `i` marked launched. -/
def State.launchMarked (s : State) (f : FrameRun) (i : Nat) : State :=
  s.setEmit f i { f.emitAt i with fetched := some ((f.emitAt i).fetched == some true), launched := true }

/-- `s` as the block of entry `i` finds it at the launch: an entry never fetched is late, if its level is not shed. -/
def State.launchBegun (s : State) (f : FrameRun) (i : Nat) (e : EmitEnt) : State :=
  if (f.emitAt i).fetched = none ∧ f.shedEnt e = false then (s.launchMarked f i).emitLate f e else s.launchMarked f i

theorem emitLaunch_eq (s : State) (f : FrameRun) (i : Nat) (e : EmitEnt) (cut : RdmIn) :
    s.emitLaunch f i e cut =
      (let t := s.launchBegun f i e
       let n := e.page - pageBase e.page
       if pageBase e.page = 0x80 then t.dmxLaunch n f cut
       else if pageBase e.page = 0x68 then t.egressLaunch n f.n
       else if pageBase e.page = 0x70 then t.sacnLaunch f.n e s.time.mono
       else if pageBase e.page = 0xB0 then
         (if s.emitServed f e then t.clLaunch n (f.plan.emitTransit f.n) f e ((f.emitAt i).fetched == some true) else t)
       else t) := by
  simp only [State.emitLaunch, State.launchBegun, Bool.not_eq_true]
  rfl

theorem launchBegun_fetched {s : State} {f : FrameRun} {i : Nat} {e : EmitEnt} (h : (f.emitAt i).fetched ≠ none) :
    s.launchBegun f i e = s.launchMarked f i := by
  rw [State.launchBegun, if_neg fun hn => h hn.1]

theorem emitLaunch_planKept (s : State) (f : FrameRun) (i : Nat) (e : EmitEnt) (cut : RdmIn) :
    PlanKept (s.launchMarked f i) (s.emitLaunch f i e cut) := by
  have hbegun : PlanKept (s.launchMarked f i) (s.launchBegun f i e) :=
    PlanKept.ite _ (emitLate_dataKept _ f e).planKept (PlanKept.refl _)
  rw [emitLaunch_eq]
  refine hbegun.trans ?_
  dsimp only
  refine PlanKept.ite _ (PlanKept.dmxLaunch _ _ _ _) (PlanKept.ite _ (PlanKept.egressLaunch _ _ _) ?_)
  refine PlanKept.ite _ (PlanKept.sacnLaunch _ _ _ _) (PlanKept.ite _ (PlanKept.ite _ ?_ (PlanKept.refl _)) (PlanKept.refl _))
  exact PlanKept.clLaunch _ _ _ _ _ _

/-- A launch at a port still busy is skipped and says so (R342). -/
theorem dmxLaunch_busy {s : State} {n : Nat} {f : FrameRun} (cut : RdmIn) (hr : s.dmxRole n = drController)
    (ht : s.dmxTurn n (f.plan.emitTransit f.n) = true) (hb : s.time.mono < (s.dmx n).busyEnd) :
    s.dmxLaunch n f cut = (s.incFld (DMX_SKIP_BUSY_COUNT.inst n) 1).raise (dmxPage n) 8 (lo32 f.n) := by
  simp [State.dmxLaunch, hr, ht, hb]

theorem skipBusy_counts (s : State) (n arg : Nat) :
    ((s.incFld (DMX_SKIP_BUSY_COUNT.inst n) 1).raise (dmxPage n) 8 arg).fld (DMX_SKIP_BUSY_COUNT.inst n) =
      (s.fld (DMX_SKIP_BUSY_COUNT.inst n) + 1) % 2 ^ 32 := by
  have hk : evKey (dmxPage n) (DMX_SKIP_BUSY_COUNT.inst n).key = false := by
    simp [evKey, regKey, Fld.key, Fld.inst, DMX_SKIP_BUSY_COUNT, dmxPage]
    omega
  rw [State.fld, regsKept_raise _ _ _ _ _ hk]
  exact fld_setFld_same s (DMX_SKIP_BUSY_COUNT.inst n) _ (show 0 + 32 ≤ 32 by decide)

/-- A launch of a fetched entry at a port still busy is counted on the port and raises DMX_SKIP_BUSY on its page. -/
theorem emitLaunch_busy {s : State} {f : FrameRun} {i : Nat} {e : EmitEnt} (cut : RdmIn) (hb : pageBase e.page = 0x80)
    (hr : s.dmxRole (e.page - 0x80) = drController) (ht : s.dmxTurn (e.page - 0x80) (f.plan.emitTransit f.n) = true)
    (hbusy : s.time.mono < (s.dmx (e.page - 0x80)).busyEnd) (hf : (f.emitAt i).fetched ≠ none) :
    (s.emitLaunch f i e cut).fld (DMX_SKIP_BUSY_COUNT.inst (e.page - 0x80)) =
        (s.fld (DMX_SKIP_BUSY_COUNT.inst (e.page - 0x80)) + 1) % 2 ^ 32 ∧
      ((s.emitLaunch f i e cut).reg (regKey e.page 0x010)).getLsbD 8 = true := by
  have hpage := launchPage_bounds (p := e.page) (by simp [hb])
  have hport : dmxPage (e.page - 0x80) = e.page := by
    unfold dmxPage
    omega
  have hlaunch : s.emitLaunch f i e cut = ((s.launchMarked f i).incFld (DMX_SKIP_BUSY_COUNT.inst (e.page - 0x80)) 1).raise
      (dmxPage (e.page - 0x80)) 8 (lo32 f.n) := by
    rw [emitLaunch_eq, launchBegun_fetched hf, hb]
    exact dmxLaunch_busy (s := s.launchMarked f i) cut hr ht hbusy
  rw [hlaunch]
  refine ⟨skipBusy_counts (s.launchMarked f i) _ _, ?_⟩
  rw [hport]
  exact event_raise _ _ _ _ (by decide)

end Sys2Proof.Machine

open Sys2Proof Sys2Proof.Machine

/-- Settles O16: each command acts by its guard on the entry it finds; a fetch reads and changes no data, so only the
entry's mark shows in the frames; a launch changes nothing else of the plan, and each block's part is its own launch. -/
theorem emitEntriesFetchAndLaunch : Obligations.EmitEntriesFetchAndLaunch := by
  unfold Obligations.EmitEntriesFetchAndLaunch
  intro n i cut s
  refine ⟨fun h => ⟨exec_emitFetch_none h, exec_emitLaunch_none cut h⟩, fun f e h => ?_⟩
  intro r marked ready go late b k u v
  have hgo : go = s.fetchGoes f i e := rfl
  have hlate : late = s.fetchLate f i e := rfl
  have hu : u = s.fetchMarked f i e := rfl
  have hv : v = s.launchMarked f i := rfl
  have hk : k = e.page - b := rfl
  have hb' : b = pageBase e.page := rfl
  clear_value u v late go b k
  subst hu hv hlate hgo hk hb'
  refine ⟨emitEntry_not_launched h, ?fetch, ?launch, ?beforeLaunch, ?beforeFetch⟩
  case fetch =>
    intro hdue hnew hseam
    have hexec : exec (.emitFetch n i) s = .next (s.emitFetch f i e) := by
      rw [exec_emitFetch h, if_pos ⟨hdue, hnew, hseam⟩]
    have hkept := emitFetch_dataKept s f i e
    refine ⟨_, hexec, congrArg _ hkept.plan, hkept.bankWord, hkept.dramByte,
      fun hl => ⟨emitFetch_late_counts hl, emitFetch_late_event hl⟩, emitFetch_camlek, fun hb hg hr ht hp => ?_⟩
    rw [hb] at hr ht ⊢
    rw [emitFetch_dmx hb hg]
    exact dmxFetch_holds hr ht hp
  case launch =>
    intro hdue hseam w
    have hexec : exec (.emitLaunch n i cut) s = .next (s.emitLaunch f i e cut) := by
      rw [exec_emitLaunch cut h, if_pos ⟨hdue, hseam⟩]
    have hw : w = s.launchBegun f i e := rfl
    clear_value w
    subst hw
    refine ⟨_, hexec, congrArg _ (emitLaunch_planKept s f i e cut).plan, fun hb => ?_, fun hb => ?_, fun hb => ?_, fun hb => ?_,
      fun hb hr ht hbusy hf => ?_⟩
    · rw [emitLaunch_eq, hb]; rfl
    · rw [emitLaunch_eq, hb]; rfl
    · rw [emitLaunch_eq, hb]; rfl
    · rw [emitLaunch_eq, hb]; rfl
    · rw [hb] at hr ht hbusy ⊢
      exact emitLaunch_busy cut hb hr ht hbusy hf
  case beforeLaunch =>
    intro hn
    rw [exec_emitLaunch cut h, if_neg]
    rintro ⟨hdue, hseam⟩
    obtain hn | hn := hn
    · omega
    · simp [hseam] at hn
  case beforeFetch =>
    intro hn
    rw [exec_emitFetch h, if_neg]
    rintro ⟨hdue, hnew, hseam⟩
    obtain hn | hn | hn := hn
    · omega
    · exact hn hnew
    · simp [hseam] at hn
end

section
/-! PROOF. The canonical form of the register files and memories (O5, R68, R211, R491, R515): `State.Canon`, the stores
that keep it, and what else of a state is free. Each function of the model then has one lemma, under its own name, that
it keeps the form; the proof of a function is the chain of the functions it calls. -/

namespace Sys2Proof.Machine

open Sys2Proof

theorem mapWf_filter {β : Type} [DecidableEq β] (d : Nat → β) (f : Nat × β → Bool) (m : List (Nat × β))
    (h : mapWf d m = true) : mapWf d (m.filter f) = true := by
  induction m with
  | nil => rfl
  | cons p t ih =>
    obtain ⟨hp, ht, hw⟩ := (mapWf_cons d p t).1 h
    rw [List.filter_cons]
    split
    · exact (mapWf_cons d p _).2 ⟨hp, fun q hq => ht q (List.mem_filter.1 hq).1, ih hw⟩
    · exact ih hw

theorem mapWf_foldl_set {β : Type} [DecidableEq β] (d : Nat → β) (l m : List (Nat × β)) (h : mapWf d m = true) :
    mapWf d (l.foldl (fun m q => mapSet d m q.1 q.2) m) = true := by
  induction l generalizing m with
  | nil => exact h
  | cons q l ih => exact ih _ (mapWf_set d m q.1 q.2 h)

/-- The register files and memories of `s` are in canonical form. -/
def State.Canon (s : State) : Prop := s.memWf = true

namespace State.Canon

variable {s t : State}

theorem setReg {k v} (h : s.Canon) : (s.setReg k v).Canon := memWf_setReg s k v h

theorem setAct {f v} (h : s.Canon) : (s.setAct f v).Canon := memWf_setAct s f v h

theorem putWord {b off v} (h : s.Canon) : (s.putWord b off v).Canon := memWf_putWord s b off v h

theorem putErr {b off e} (h : s.Canon) : (s.putErr b off e).Canon := memWf_putErr s b off e h

theorem putDramRaw {a bs} (h : s.Canon) : (s.putDramRaw a bs).Canon := memWf_putDramRaw s a bs h

theorem putDramErr {a e} (h : s.Canon) : (s.putDramErr a e).Canon := memWf_putDramErr s a e h

theorem putNvm {a bs} (h : s.Canon) : (s.putNvm a bs).Canon := memWf_putNvm s a bs h

/-- The seven maps a canonical state holds, each in canonical form. -/
theorem maps (h : s.Canon) : mapWf regReset s.regs = true ∧ mapWf regReset s.inForce = true ∧
    mapWf bankDefault s.bankMem = true ∧ mapWf (fun _ => 0) s.bankErr = true ∧ mapWf dramDefault s.dram = true ∧
    mapWf (fun _ => 0) s.dramErr = true ∧ mapWf nvmDefault s.nvm = true := by
  simpa only [Canon, State.memWf, Bool.and_eq_true, and_assoc] using h

theorem of_maps (hr : mapWf regReset s.regs = true) (hf : mapWf regReset s.inForce = true)
    (hb : mapWf bankDefault s.bankMem = true) (hbe : mapWf (fun _ => 0) s.bankErr = true)
    (hd : mapWf dramDefault s.dram = true) (hde : mapWf (fun _ => 0) s.dramErr = true)
    (hn : mapWf nvmDefault s.nvm = true) : s.Canon := by
  simp only [Canon, State.memWf, Bool.and_eq_true]
  exact ⟨⟨⟨⟨⟨⟨hr, hf⟩, hb⟩, hbe⟩, hd⟩, hde⟩, hn⟩

theorem with_inForce {m} (hm : mapWf regReset m = true) (h : s.Canon) :
    ({ s with inForce := m } : State).Canon := by
  obtain ⟨hr, -, hb, hbe, hd, hde, hn⟩ := h.maps
  exact of_maps hr hm hb hbe hd hde hn

theorem with_dram {m} (hm : mapWf dramDefault m = true) (h : s.Canon) : ({ s with dram := m } : State).Canon := by
  obtain ⟨hr, hf, hb, hbe, -, hde, hn⟩ := h.maps
  exact of_maps hr hf hb hbe hm hde hn

theorem zeroBanks (h : s.Canon) : ({ s with bankMem := [], bankErr := [] } : State).Canon := by
  obtain ⟨hr, hf, -, -, hd, hde, hn⟩ := h.maps
  exact of_maps hr hf rfl rfl hd hde hn

theorem zeroDram (h : s.Canon) : ({ s with dram := [], dramErr := [] } : State).Canon := by
  obtain ⟨hr, hf, hb, hbe, -, -, hn⟩ := h.maps
  exact of_maps hr hf hb hbe rfl rfl hn

/-! What is outside the memories may change freely. -/

theorem with_pending {x} (h : s.Canon) : ({ s with pending := x } : State).Canon := h

theorem with_bankBusy {x} (h : s.Canon) : ({ s with bankBusy := x } : State).Canon := h

theorem with_cmds {x} (h : s.Canon) : ({ s with cmds := x } : State).Canon := h

theorem with_dmxs_scans {x y} (h : s.Canon) : ({ s with dmxs := x, scans := y } : State).Canon := h

theorem with_dtsOff {x} (h : s.Canon) : ({ s with dtsOff := x } : State).Canon := h

theorem with_engTest {x} (h : s.Canon) : ({ s with engTest := x } : State).Canon := h

theorem with_evtBuf {x} (h : s.Canon) : ({ s with evtBuf := x } : State).Canon := h

theorem with_evtBuf_evtDrop {x y} (h : s.Canon) : ({ s with evtBuf := x, evtDrop := y } : State).Canon := h

theorem with_evtDrop {x} (h : s.Canon) : ({ s with evtDrop := x } : State).Canon := h

theorem with_free {x} (h : s.Canon) : ({ s with free := x } : State).Canon := h

theorem with_groom {x} (h : s.Canon) : ({ s with groom := x } : State).Canon := h

theorem with_hdmaDone {x} (h : s.Canon) : ({ s with hdmaDone := x } : State).Canon := h

theorem with_host {x} (h : s.Canon) : ({ s with host := x } : State).Canon := h

theorem with_ingests {x} (h : s.Canon) : ({ s with ingests := x } : State).Canon := h

theorem with_key_mainPower {x y} (h : s.Canon) : ({ s with key := x, mainPower := y } : State).Canon := h

theorem with_mainPower {x} (h : s.Canon) : ({ s with mainPower := x } : State).Canon := h

theorem with_marks {x} (h : s.Canon) : ({ s with marks := x } : State).Canon := h

theorem with_nvmMap {x} (h : s.Canon) : ({ s with nvmMap := x } : State).Canon := h

theorem with_nvmPend {x} (h : s.Canon) : ({ s with nvmPend := x } : State).Canon := h

theorem with_plan {x} (h : s.Canon) : ({ s with plan := x } : State).Canon := h

theorem with_recQ {x} (h : s.Canon) : ({ s with recQ := x } : State).Canon := h

theorem with_rxFrames {x} (h : s.Canon) : ({ s with rxFrames := x } : State).Canon := h

theorem with_sched {x} (h : s.Canon) : ({ s with sched := x } : State).Canon := h

theorem with_snsHeld {x} (h : s.Canon) : ({ s with snsHeld := x } : State).Canon := h

theorem with_time {x} (h : s.Canon) : ({ s with time := x } : State).Canon := h

theorem with_trig {x} (h : s.Canon) : ({ s with trig := x } : State).Canon := h

theorem with_wheel {x} (h : s.Canon) : ({ s with wheel := x } : State).Canon := h

theorem ite {c : Prop} [Decidable c] (h : s.Canon) (g : t.Canon) : (if c then s else t).Canon := by
  split <;> assumption

theorem iteSnd {α : Type} {c : Prop} [Decidable c] {x y : α × State} (h : x.2.Canon) (g : y.2.Canon) :
    (if c then x else y).2.Canon := by
  split <;> assumption

theorem iteThd {α β : Type} {c : Prop} [Decidable c] {x y : α × β × State} (h : x.2.2.Canon) (g : y.2.2.Canon) :
    (if c then x else y).2.2.Canon := by
  split <;> assumption

theorem snd {α : Type} {a : α} (h : s.Canon) : (a, s).2.Canon := h

theorem thd {α β : Type} {a : α} {b : β} (h : s.Canon) : (a, b, s).2.2.Canon := h

/-- A pass over a list keeps the form where each of its steps does. -/
theorem foldl {α : Type} {f : State → α → State} {l : List α} (h : s.Canon)
    (hf : ∀ t, t.Canon → ∀ a, (f t a).Canon) : (l.foldl f s).Canon := by
  induction l generalizing s with
  | nil => exact h
  | cons a l ih => exact ih (hf s h a)

theorem foldlSnd {α β : Type} {f : β × State → α → β × State} {l : List α} {q : β × State} (h : q.2.Canon)
    (hf : ∀ q, q.2.Canon → ∀ a, (f q a).2.Canon) : (l.foldl f q).2.Canon := by
  induction l generalizing q with
  | nil => exact h
  | cons a l ih => exact ih (hf q h a)

theorem foldlThd {α β γ : Type} {f : β × γ × State → α → β × γ × State} {l : List α} {q : β × γ × State}
    (h : q.2.2.Canon)
    (hf : ∀ q, q.2.2.Canon → ∀ a, (f q a).2.2.Canon) : (l.foldl f q).2.2.Canon := by
  induction l generalizing q with
  | nil => exact h
  | cons a l ih => exact ih (hf q h a)

end State.Canon

/-- What a command answers, where it is a next state, is in canonical form. -/
def Keeps (o : Host.Outcome State Fault Refusal) : Prop :=
  match o with
  | .next t => t.Canon
  | .fault _ => True
  | .refused _ => True

theorem Keeps.ite {c : Prop} [Decidable c] {a b : Host.Outcome State Fault Refusal} (h : Keeps a) (g : Keeps b) :
    Keeps (if c then a else b) := by
  split <;> assumption

end Sys2Proof.Machine
end

section
/-! PROOF. Canonical form (O5) kept by registers and events, writes and snapshots, DRAM and the banks, engines, steps
and laps, the slots of a bundle. -/

namespace Sys2Proof.Machine

open Sys2Proof

namespace State.Canon

variable {s : State}

/-! Registers and fields (R13, R18). -/

theorem setFld {f v} (h : s.Canon) : (s.setFld f v).Canon := h.setReg

theorem setBit {f b} (h : s.Canon) : (s.setBit f b).Canon := h.setFld

theorem setInt {f i} (h : s.Canon) : (s.setInt f i).Canon := h.setFld

theorem incFld {f n} (h : s.Canon) : (s.incFld f n).Canon := h.setFld

theorem satFld {f n} (h : s.Canon) : (s.satFld f n).Canon := h.setFld

theorem setPair {lo hi v} (h : s.Canon) : (s.setPair lo hi v).Canon := h.setFld.setFld

/-! Outputs and free values. -/

theorem emit {o} (h : s.Canon) : (s.emit o).Canon := h

theorem takeFree (h : s.Canon) : s.takeFree.Canon := h

/-! Blocks and event bits. -/

theorem setVecArm {v on} (h : s.Canon) : (s.setVecArm v on).Canon := h.setReg

theorem setPba {v on} (h : s.Canon) : (s.setPba v on).Canon := h.setReg

theorem sendMsix {v} (h : s.Canon) : (s.sendMsix v).Canon := h.emit

theorem tryVector {v} (h : s.Canon) : (s.tryVector v).Canon := ite (ite h.setVecArm.setPba h.setVecArm.sendMsix) h

theorem refresh {p} (h : s.Canon) : (s.refresh p).Canon := h.setBit.tryVector

theorem pushRec {page code arg forced at_} (h : s.Canon) : (s.pushRec page code arg forced at_).Canon :=
  ite h.with_recQ h

theorem recordOnly {page code arg} (h : s.Canon) : (s.recordOnly page code arg).Canon := h.pushRec

theorem occur {page k arg forced} (h : s.Canon) : (s.occur page k arg forced).Canon := by
  unfold State.occur
  extract_lets +onlyGivenNames ek s1 s2
  have hs2 : s2.Canon := ite h.setReg.pushRec h.setReg
  exact hs2.refresh

theorem raise {page k arg} (h : s.Canon) : (s.raise page k arg).Canon := h.occur

theorem badAccess {addr} (h : s.Canon) : (s.badAccess addr).Canon := h.incFld.raise

/-! Writes of registers (R18 to R20, R65, R66). -/

theorem refuseWrite {q p off} (h : s.Canon) : (s.refuseWrite q p off).Canon := h.raise

theorem countWrite {p} (h : s.Canon) : (s.countWrite p).Canon := h.incFld

theorem hold269 {h'} (h : s.Canon) : (s.hold269 h').Canon := h

theorem passGate {q p off v f} (h : s.Canon) (hf : ∀ x, x.Canon → (f x).Canon) : (s.passGate q p off v f).Canon := by
  unfold State.passGate
  split
  · exact hf _ h
  · exact h.badAccess
  · exact h
  · exact h
  · exact h.hold269

theorem accept {q p off eff} (h : s.Canon) (hf : ∀ x, x.Canon → (eff x).Canon) : (s.accept q p off eff).Canon :=
  ite h.refuseWrite <| ite (hf _ h.countWrite) h

theorem write {q p off v eff} (h : s.Canon) (hf : ∀ x, x.Canon → (eff x).Canon) : (s.write q p off v eff).Canon :=
  passGate h (fun _ ht => accept ht (fun _ h2 => hf _ h2))

theorem serveRead {q p off f} (h : s.Canon) (hf : ∀ x, x.Canon → (f x).Canon) : (s.serveRead q p off f).Canon := by
  unfold State.serveRead
  split
  · exact hf _ h
  · exact h.emit
  · exact h
  · exact h.emit
  · exact h.hold269

theorem storeReg {p off v} (h : s.Canon) : (s.storeReg p off v).Canon := by
  unfold State.storeReg
  split
  · exact h
  · exact ite h.setReg.setBit h.setReg

/-! Snapshots and held writes (R62). -/

theorem setSnap {q k v} (h : s.Canon) : (s.setSnap q k v).Canon := h

theorem setHeld {q k v} (h : s.Canon) : (s.setHeld q k v).Canon := h

theorem storePair {q p off v} (h : s.Canon) : (s.storePair q p off v).Canon := by
  unfold State.storePair
  extract_lets +onlyGivenNames k
  split
  · exact h.setHeld.storeReg.storeReg
  · exact h.storeReg

/-! Commit units. -/

theorem setUnit {p u'} (h : s.Canon) : (s.setUnit p u').Canon := h

/-! DMX line timing. -/

theorem modDmx {n f} (h : s.Canon) : (s.modDmx n f).Canon := h

theorem rdmReport {n result fault} (h : s.Canon) : (s.rdmReport n result fault).Canon := h

theorem rdmFailed {n ctx outcome} (h : s.Canon) : (s.rdmFailed n ctx outcome).Canon := h.incFld.raise

theorem responderWritten {n ws} (h : s.Canon) : (s.responderWritten n ws).Canon := ite h.raise h

theorem rdmWritten {n} (h : s.Canon) : (s.rdmWritten n).Canon := by
  unfold State.rdmWritten
  split
  · exact h.modDmx.rdmReport
  · exact h

/-! DRAM as its readers and writers see it. -/

theorem dramCorr (h : s.Canon) : s.dramCorr.Canon := h.incFld.takeFree.raise

theorem dramUncorr (h : s.Canon) : s.dramUncorr.Canon := h.incFld.takeFree.raise

theorem readDramWord {a} (h : s.Canon) : (s.readDramWord a).2.2.Canon :=
  iteThd (thd h) (iteThd (thd h.dramCorr) h.dramUncorr.takeFree)

theorem readDramWords {a n} (h : s.Canon) : (s.readDramWords a n).2.2.Canon := by
  induction n generalizing s a with
  | zero => exact h
  | succ k ih => exact ih h.readDramWord

theorem readDram {a n} (h : s.Canon) : (s.readDram a n).2.2.Canon := iteThd (thd h) h.readDramWords

theorem writeDramWord {a bs} (h : s.Canon) : (s.writeDramWord a bs).Canon := by
  unfold State.writeDramWord
  extract_lets put s1
  have hput {t : State} (ht : t.Canon) : (put t).Canon := by
    refine .foldl ht fun u hu q => ?_
    split
    · exact with_dram (mapWf_set _ _ _ _ hu.maps.2.2.2.2.1) hu
    · exact hu
  exact .ite h <| .ite (hput h).putDramErr <| .ite h.incFld <| hput (.ite h.dramCorr.putDramErr h)

theorem writeDram {a bs} (h : s.Canon) : (s.writeDram a bs).Canon := ite h (foldl h fun _ ht _ => ht.writeDramWord)

theorem poisonDram {a} (h : s.Canon) : (s.poisonDram a).Canon := h.putDramErr

/-! Scratchpad banks. -/

theorem setBank {b x} (h : s.Canon) : (s.setBank b x).Canon := h

theorem needSpare {b row} (h : s.Canon) : (s.needSpare b row).Canon := ite h h.setBank

theorem eccCorr {b off cls} (h : s.Canon) : (s.eccCorr b off cls).Canon := by
  unfold State.eccCorr
  extract_lets +onlyGivenNames o row s1 x n s2 s3
  have hs3 : s3.Canon := ite h.incFld.setReg.setBank.needSpare h.incFld.setReg.setBank
  exact hs3.putErr.raise

theorem eccUncorr {b off cls} (h : s.Canon) : (s.eccUncorr b off cls).Canon := h.incFld.setReg.needSpare.raise

theorem readWord {b off cls} (h : s.Canon) : (s.readWord b off cls).2.2.Canon :=
  iteThd (thd h) (iteThd (thd h.eccCorr) (thd h.eccUncorr))

theorem writeWord {b off mask v cls} (h : s.Canon) : (s.writeWord b off mask v cls).Canon := by
  unfold State.writeWord
  split
  · exact h
  · split
    · exact h.putWord.putErr
    · extract_lets +onlyGivenNames e
      split
      · exact h.eccUncorr
      · extract_lets +onlyGivenNames s1
        have hs1 : s1.Canon := ite h.eccCorr h
        exact hs1.putWord

theorem rmwWord {b off mask v clear cls} (h : s.Canon) : (s.rmwWord b off mask v clear cls).Canon := by
  unfold State.rmwWord
  extract_lets +onlyGivenNames e
  split
  · exact h.eccUncorr
  · extract_lets +onlyGivenNames s1
    have hs1 : s1.Canon := ite h.eccCorr h
    exact hs1.putWord

theorem foreign {b off cls write} (h : s.Canon) : (s.foreign b off cls write).Canon := h.incFld.raise

theorem raiseNoRec {page k} (h : s.Canon) : (s.raiseNoRec page k).Canon := h.setReg.refresh

theorem bankMode {b} (h : s.Canon) : (s.bankMode b).Canon := ite h h.setFld

theorem handover {b code cause} (h : s.Canon) : (s.handover b code cause).Canon :=
  ite h <| ite h.setFld.bankMode.raiseNoRec h.setFld.bankMode.raise

theorem bankMeets {b off laterS} (h : s.Canon) : (s.bankMeets b off laterS).Canon :=
  h.incFld.setReg.with_bankBusy.emit.raise

theorem wcoll {b off cls} (h : s.Canon) : (s.wcoll b off cls).Canon := h.incFld.setReg.raise

theorem bufSync {b off} (h : s.Canon) : (s.bufSync b off).Canon := by
  unfold State.bufSync
  split
  · exact h
  · exact ite h.setBank h

theorem storeS {b off mask v cls} (h : s.Canon) : (s.storeS b off mask v cls).Canon :=
  ite h.writeWord.bufSync h.writeWord.bufSync.setBank

theorem sWrite {b off mask v cls} (h : s.Canon) : (s.sWrite b off mask v cls).Canon := by
  unfold State.sWrite
  split
  · exact ite h.takeFree.wcoll h.takeFree.storeS
  · exact h.storeS

theorem sRead {b off cls} (h : s.Canon) : (s.sRead b off cls).2.2.Canon :=
  iteThd h.readWord (iteThd (thd h.takeFree.readWord.takeFree.bankMeets) h.takeFree.readWord)

theorem eRead {b off} (h : s.Canon) : (s.eRead b off).2.2.Canon := by
  unfold State.eRead
  extract_lets +onlyGivenNames x
  split
  · exact h.readWord
  · exact iteThd h.setBank.readWord (iteThd (thd h.setBank.takeFree.readWord) (iteThd (thd
    h.setBank.takeFree.readWord.takeFree.bankMeets) h.setBank.takeFree.readWord))

/-! Stalls at a borrowed segment (R231, R232). -/

theorem stall {b w} (h : s.Canon) : (s.stall b w).Canon := h.setBank

theorem stallWho {b off who} (h : s.Canon) : (s.stallWho b off who).Canon := ite h.stall h

theorem stallServed {b off cls} (h : s.Canon) : (s.stallServed b off cls).Canon := ite h.stall h

theorem dropGrant {b who} (h : s.Canon) : (s.dropGrant b who).Canon := ite h.setBank h

theorem hostWord {b k meet w} (h : s.Canon) : (s.hostWord b k meet w).Canon := by
  unfold State.hostWord
  split
  · exact h
  · split
    · exact h.wcoll
    · extract_lets +onlyGivenNames s1
      have hs1 : s1.Canon := by
        unfold s1
        split
        · exact h.writeWord
        · exact h.rmwWord
        · exact h.rmwWord
      exact ite hs1.setBank.bankMeets hs1

theorem hostRead {b meet off} (h : s.Canon) : (s.hostRead b meet off).2.2.Canon :=
  iteThd (thd h.readWord.takeFree.bankMeets) (iteThd (thd h.readWord.takeFree) h.readWord)

theorem hostReads {b meet off n ws} (h : s.Canon) : (s.hostReads b meet off n ws).2.2.Canon := by
  induction ws generalizing s with
  | nil => exact h
  | cons w l ih => exact ih h.hostRead

theorem hostForeign {b write ws} (h : s.Canon) : (s.hostForeign b write ws).Canon := foldl h fun _ ht _ => ht.foreign

theorem bankServe {own k r meet} (h : s.Canon) : (s.bankServe own k r meet).Canon :=
  ite (ite (foldl h fun _ ht _ => ht.hostWord) h.hostForeign) <| ite h.hostReads.emit h.hostForeign.emit

theorem bankRequest {k r meet} (h : s.Canon) : (s.bankRequest k r meet).Canon :=
  ite (ite h.stall h.bankServe) <| ite h.badAccess h.badAccess.emit

theorem serveMem {r h' f} (h : s.Canon) (hf : ∀ x, x.Canon → (f x).Canon) : (s.serveMem r h' f).Canon := by
  unfold State.serveMem
  split
  · exact hf _ h
  · exact ite h h.emit
  · exact h
  · exact h
  · exact h.hold269

theorem bar4 {r meet} (h : s.Canon) : (s.bar4 r meet).Canon :=
  ite h.bankRequest <| ite h.bankRequest <| ite h.badAccess h.badAccess.emit

theorem bankWin {k r meet} (h : s.Canon) : (s.bankWin k r meet).Canon :=
  serveMem h (fun _ ht => ite ht.bar4 ht.bankRequest)

theorem execBar4Access {r meet} (h : s.Canon) : Keeps (Machine.execBar4Access r meet s) := h.bankWin

theorem execSetAliasWrite {r meet} (h : s.Canon) : Keeps (Machine.execSetAliasWrite r meet s) := h.bankWin

theorem execClearAliasWrite {r meet} (h : s.Canon) : Keeps (Machine.execClearAliasWrite r meet s) := h.bankWin

/-! Spare rows (R234 to R236). -/

theorem spareStart {b row} (h : s.Canon) : (s.spareStart b row).Canon := by
  unfold State.spareStart
  extract_lets +onlyGivenNames x
  split
  · exact h.setBank
  · exact h.setBank.raise

theorem rowCopy {b row} (h : s.Canon) : (s.rowCopy b row).Canon := foldl h fun _ ht _ => ht.readWord

theorem spareSwitch {b} (h : s.Canon) : (s.spareSwitch b).Canon := by
  unfold State.spareSwitch
  extract_lets +onlyGivenNames x
  split
  · exact h
  · extract_lets +onlyGivenNames s1 s2
    have hs2 : s2.Canon := setBit (setFld (foldl h fun _ ht _ => ite ht.setBit ht))
    exact ite hs2.setFld.setBank.raise.raise hs2.setFld.setBank.raise

theorem spareEnd {b} (h : s.Canon) : (s.spareEnd b).Canon := by
  unfold State.spareEnd
  split
  · exact h
  · exact h.rowCopy.spareSwitch

theorem execRowSpareStart {b row} (h : s.Canon) : Keeps (Machine.execRowSpareStart b row s) := ite h.spareStart h

theorem execRowSpared {b} (h : s.Canon) : Keeps (Machine.execRowSpared b s) := h.spareEnd

/-! Borrowing and scrubbing (R229 to R233). -/

theorem execBorrowStart {b seg} (h : s.Canon) : Keeps (Machine.execBorrowStart b seg s) := by
  unfold Machine.execBorrowStart
  split
  · exact setBit (setFld (setBank (foldl h fun _ ht _ => ht.readWord)))
  · exact h

theorem restoreSeg {b w bad} (h : s.Canon) : (s.restoreSeg b w bad).Canon := foldl h fun _ ht _ => ht.putWord.putErr

theorem takeStalled {b a} (h : s.Canon) : (s.takeStalled b a).Canon := by
  unfold State.takeStalled
  split
  · exact h.bankServe
  · exact h
  · exact ite h h.setBank

theorem serveStalled {b seg l} (h : s.Canon) : (s.serveStalled b seg l).Canon := by
  induction l generalizing s with
  | nil => exact h
  | cons a l ih => exact ih h.setFld.raise.takeStalled

theorem spareFailed {b row} (h : s.Canon) : (s.spareFailed b row).Canon := h.spareEnd.spareStart.spareSwitch

theorem releaseBorrow {b w bad failed} (h : s.Canon) : (s.releaseBorrow b w bad failed).Canon := by
  unfold State.releaseBorrow
  extract_lets +onlyGivenNames s1 s2
  have hs2 : s2.Canon := foldl (restoreSeg (foldl h fun _ ht _ => ht.spareFailed)) fun _ ht _ => ht.needSpare
  exact hs2.setBank.setBit.serveStalled

theorem endBorrow {b} (h : s.Canon) : (s.endBorrow b).Canon := by
  unfold State.endBorrow
  split
  · exact h.releaseBorrow
  · exact h

theorem execBorrowRelease {b bad failed} (h : s.Canon) : Keeps (Machine.execBorrowRelease b bad failed s) := by
  unfold Machine.execBorrowRelease
  split
  · exact h
  · exact h.releaseBorrow

theorem execBorrowHoldoffEnd {b} (h : s.Canon) : Keeps (Machine.execBorrowHoldoffEnd b s) := by
  unfold Machine.execBorrowHoldoffEnd
  split
  · exact ite h.setBank h
  · exact h

theorem readStallMax {b} (h : s.Canon) : (s.readStallMax b).2.Canon := h.setFld

theorem execStallMaxRead {q b} (h : s.Canon) : Keeps (Machine.execStallMaxRead q b s) :=
  serveRead h (fun _ ht => ht.readStallMax.emit)

theorem execScrubRead {b word} (h : s.Canon) : Keeps (Machine.execScrubRead b word s) := by
  unfold Machine.execScrubRead
  exact Keeps.ite (setFld (sRead (.ite h.setBank h))) h

/-! An engine and its registers (R135). -/

theorem setEng {e x} (h : s.Canon) : (s.setEng e x).Canon := h

theorem modEng {e f} (h : s.Canon) : (s.modEng e f).Canon := h.setEng

theorem setEngState {e v} (h : s.Canon) : (s.setEngState e v).Canon := h.setFld

/-! Faults (R167, R168). -/

theorem engFault {e code addr slot} (h : s.Canon) : (s.engFault e code addr slot).Canon := by
  unfold State.engFault
  split
  · exact h
  · extract_lets +onlyGivenNames lap s1 s2
    have hs2 : s2.Canon := h.setEngState.setFld.setFld.setFld.setFld.setFld
    exact hs2.modEng.with_plan.raise

theorem kernelFault {e w k addr} (h : s.Canon) : (s.kernelFault e w k addr).Canon := h.modEng.with_sched.raise

/-! Steps (R129, R162). -/

theorem countStep {e n inLap} (h : s.Canon) : (s.countStep e n inLap).Canon := by
  unfold State.countStep
  extract_lets +onlyGivenNames s1 s2
  have hs2 : s2.Canon := ite h.setPair.incFld h.setPair
  exact hs2.modEng

/-! Bank accesses on port E (R152, R219). -/

theorem loadWords {b ws} (h : s.Canon) : (s.loadWords b ws).2.2.Canon := by
  induction ws generalizing s with
  | nil => exact h
  | cons w l ih => exact ih h.eRead

theorem storeWords {a} (h : s.Canon) : (s.storeWords a).Canon := foldl h fun _ ht _ => ite ht.writeWord ht.rmwWord

/-! Stream channels (R153, R181). -/

theorem descStart {e c} (h : s.Canon) : (s.descStart e c).Canon := ite h h.incFld

theorem scPush {e c d} (h : s.Canon) : (s.scPush e c d).Canon := ite h.modEng.descStart h.modEng

/-! Issue of a bundle (R129). -/

theorem fetchEcc {e} (h : s.Canon) : (s.fetchEcc e).2.Canon :=
  iteSnd h.with_groom.incFld.raise (iteSnd (snd h.raise) (snd h))

/-! What the C slot does after the bundle has issued. -/

theorem kernelEnd {e w result} (h : s.Canon) : (s.kernelEnd e w result).Canon := h.modEng.with_sched

theorem frameEnd {e} (h : s.Canon) : (s.frameEnd e).Canon := h.setEngState.setFld.modEng

theorem afterIssue {e x0 y} (h : s.Canon) : (s.afterIssue e x0 y).Canon := by
  unfold State.afterIssue
  split
  · exact h.setEngState.modEng
  · exact ite h.setEngState.modEng h
  · exact h.setEngState.modEng
  · split
    · exact h.kernelEnd
    · exact h
  · exact h.frameEnd
  · exact h

theorem perform {e x y rs acc} (h : s.Canon) : (s.perform e x y rs acc).Canon := by
  unfold State.perform
  extract_lets s1 x2 s2 s3 s4 s5 port
  have hs1 : s1.Canon := by
    unfold s1
    split
    · exact .ite h h.storeWords
    · exact h
  have hs3 : s3.Canon := by
    unfold s3
    split
    · exact hs1.setEng.scPush
    · exact hs1.setEng
  have hs5 : s5.Canon := by
    unfold s5
    split
    · exact hs3.countStep.modEng
    · exact hs3.countStep
  exact hs5.modEng.afterIssue

theorem breach {e x} (h : s.Canon) : (s.breach e x).Canon := by
  unfold State.breach
  split
  · exact h.kernelFault.countStep
  · exact h

theorem loadAcc {acc own} (h : s.Canon) : (s.loadAcc acc own).2.2.Canon := by
  unfold State.loadAcc
  split
  · exact iteThd h.loadWords (thd h)
  · exact h

theorem kernelForeign {e x acc} (h : s.Canon) : (s.kernelForeign e x acc).Canon := by
  unfold State.kernelForeign
  split
  · exact h.foreign.breach
  · exact h

theorem complete {e x y acc own flt} (h : s.Canon) : (s.complete e x y acc own flt).Canon := by
  unfold State.complete
  extract_lets +onlyGivenNames ld t1
  have ht1 : t1.Canon := by
    unfold t1
    split
    · exact h.loadAcc.dropGrant
    · exact h.loadAcc
  exact ite ht1.engFault <| ite ht1.engFault <| ite ht1.kernelForeign ht1.perform

theorem issue {e} (h : s.Canon) : (s.issue e).Canon := by
  unfold State.issue
  extract_lets x0 x s f y acc own flt
  have hs : s.Canon := h.setEng
  refine .ite hs.engFault <| .ite hs.fetchEcc.breach <| .ite hs.fetchEcc.engFault ?_
  split
  · exact h.stallWho
  · exact hs.fetchEcc.complete

theorem engStep {e p} (h : s.Canon) : (s.engStep e p).Canon := ite h.issue h

/-! Laps (R159 to R162). -/

theorem beginLap {e k} (h : s.Canon) : (s.beginLap e k).Canon := by
  unfold State.beginLap
  extract_lets +onlyGivenNames x
  split
  · exact h.setEngState
  · split
    · exact h.setEngState.modEng
    · exact h.setFld.setFld.modEng.setEngState

theorem lapEnd {e} (h : s.Canon) : (s.lapEnd e).Canon := by
  unfold State.lapEnd
  exact beginLap (with_plan (.ite h.recordOnly h))

theorem putRow {addr row ws} (h : s.Canon) : (s.putRow addr row ws).Canon := foldl h fun _ ht _ => ht.writeWord

theorem lapBanks {x t' slot k} (h : s.Canon) : (s.lapBanks x t' slot k).Canon := foldl h fun _ ht _ => ht.handover

theorem lapSave {e g' addr} (h : s.Canon) : (s.lapSave e g' addr).Canon := by
  unfold State.lapSave
  extract_lets +onlyGivenNames x lap a n rows good s0 room put
  split
  · exact h.setEng.dropGrant.engFault
  · split
    · exact h.setEng.dropGrant.engFault
    · split
      · exact h.setEng.dropGrant.engFault
      · extract_lets +onlyGivenNames k
        split
        · exact engFault (takeFree (countStep (foldl h.setEng.dropGrant.takeFree fun _ ht _ => ht.putRow)))
        · split
          · exact engFault (countStep (foldl h.setEng.dropGrant.takeFree fun _ ht _ => ht.putRow))
          · extract_lets +onlyGivenNames s1
            have hs1 : s1.Canon := countStep (foldl h.setEng.dropGrant fun _ ht _ => ht.putRow)
            extract_lets +onlyGivenNames s2
            have hs2 : s2.Canon := by
              unfold s2
              split
              · exact hs1.lapBanks
              · exact hs1
            exact ite hs2.lapEnd hs2.setEngState

theorem padStep {e} (h : s.Canon) : (s.padStep e).Canon := by
  unfold State.padStep
  extract_lets +onlyGivenNames x s1
  split
  · exact ite h.setEng.countStep.lapEnd h.setEng.countStep
  · split
    · exact ite h.engFault h.setEng.countStep.modEng
    · exact h

theorem windowEnd {e w} (h : s.Canon) : (s.windowEnd e w).Canon := h.setEngState.modEng

theorem vecOp {e vb o f} (h : s.Canon) : (s.vecOp e vb o f).Canon := h.engStep

theorem mOp {e m} (h : s.Canon) : (s.mOp e m).Canon := h.engStep

theorem cOp {e c} (h : s.Canon) : (s.cOp e c).Canon := h.engStep

theorem execNop {e sl} (h : s.Canon) : Keeps (Machine.execNop e sl s) := h.engStep

theorem execIllegalOp {e} (h : s.Canon) : Keeps (Machine.execIllegalOp e s) := h.engStep

theorem execVMov {e vb f} (h : s.Canon) : Keeps (Machine.execVMov e vb f s) := h.vecOp

theorem execVAdd {e vb f} (h : s.Canon) : Keeps (Machine.execVAdd e vb f s) := h.vecOp

theorem execVSub {e vb f} (h : s.Canon) : Keeps (Machine.execVSub e vb f s) := h.vecOp

theorem execVMinu {e vb f} (h : s.Canon) : Keeps (Machine.execVMinu e vb f s) := h.vecOp

theorem execVMins {e vb f} (h : s.Canon) : Keeps (Machine.execVMins e vb f s) := h.vecOp

theorem execVMaxu {e vb f} (h : s.Canon) : Keeps (Machine.execVMaxu e vb f s) := h.vecOp

theorem execVMaxs {e vb f} (h : s.Canon) : Keeps (Machine.execVMaxs e vb f s) := h.vecOp

theorem execVAnd {e vb f} (h : s.Canon) : Keeps (Machine.execVAnd e vb f s) := h.vecOp

theorem execVOr {e vb f} (h : s.Canon) : Keeps (Machine.execVOr e vb f s) := h.vecOp

theorem execVXor {e vb f} (h : s.Canon) : Keeps (Machine.execVXor e vb f s) := h.vecOp

theorem execVAndn {e vb f} (h : s.Canon) : Keeps (Machine.execVAndn e vb f s) := h.vecOp

theorem execVShl {e vb f} (h : s.Canon) : Keeps (Machine.execVShl e vb f s) := h.vecOp

theorem execVShru {e vb f} (h : s.Canon) : Keeps (Machine.execVShru e vb f s) := h.vecOp

theorem execVShrs {e vb f} (h : s.Canon) : Keeps (Machine.execVShrs e vb f s) := h.vecOp

theorem execAbsdu {e vb f} (h : s.Canon) : Keeps (Machine.execAbsdu e vb f s) := h.vecOp

theorem execVCmpeq {e vb f} (h : s.Canon) : Keeps (Machine.execVCmpeq e vb f s) := h.vecOp

theorem execVCmpne {e vb f} (h : s.Canon) : Keeps (Machine.execVCmpne e vb f s) := h.vecOp

theorem execVCmpltu {e vb f} (h : s.Canon) : Keeps (Machine.execVCmpltu e vb f s) := h.vecOp

theorem execVCmplts {e vb f} (h : s.Canon) : Keeps (Machine.execVCmplts e vb f s) := h.vecOp

theorem execVCmpleu {e vb f} (h : s.Canon) : Keeps (Machine.execVCmpleu e vb f s) := h.vecOp

theorem execVCmples {e vb f} (h : s.Canon) : Keeps (Machine.execVCmples e vb f s) := h.vecOp

theorem execSel {e vb f} (h : s.Canon) : Keeps (Machine.execSel e vb f s) := h.vecOp

theorem execAvgu {e vb f} (h : s.Canon) : Keeps (Machine.execAvgu e vb f s) := h.vecOp

theorem execPerm {e f} (h : s.Canon) : Keeps (Machine.execPerm e f s) := h.vecOp

theorem execRotl {e f} (h : s.Canon) : Keeps (Machine.execRotl e f s) := h.vecOp

theorem execSplat {e f} (h : s.Canon) : Keeps (Machine.execSplat e f s) := h.vecOp

theorem execRsum {e f} (h : s.Canon) : Keeps (Machine.execRsum e f s) := h.vecOp

theorem execPack {e f} (h : s.Canon) : Keeps (Machine.execPack e f s) := h.vecOp

theorem execUnpklu {e f} (h : s.Canon) : Keeps (Machine.execUnpklu e f s) := h.vecOp

theorem execUnpkhu {e f} (h : s.Canon) : Keeps (Machine.execUnpkhu e f s) := h.vecOp

theorem execUnpkls {e f} (h : s.Canon) : Keeps (Machine.execUnpkls e f s) := h.vecOp

theorem execUnpkhs {e f} (h : s.Canon) : Keeps (Machine.execUnpkhs e f s) := h.vecOp

theorem execZipl {e f} (h : s.Canon) : Keeps (Machine.execZipl e f s) := h.vecOp

theorem execZiph {e f} (h : s.Canon) : Keeps (Machine.execZiph e f s) := h.vecOp

theorem execVMul {e f} (h : s.Canon) : Keeps (Machine.execVMul e f s) := h.vecOp

theorem execMulhu {e f} (h : s.Canon) : Keeps (Machine.execMulhu e f s) := h.vecOp

theorem execMulhs {e f} (h : s.Canon) : Keeps (Machine.execMulhs e f s) := h.vecOp

theorem execMulq {e f} (h : s.Canon) : Keeps (Machine.execMulq e f s) := h.vecOp

theorem execMacq {e f} (h : s.Canon) : Keeps (Machine.execMacq e f s) := h.vecOp

theorem execFma {e f} (h : s.Canon) : Keeps (Machine.execFma e f s) := h.vecOp

theorem execFmul {e f} (h : s.Canon) : Keeps (Machine.execFmul e f s) := h.vecOp

theorem execFadd {e f} (h : s.Canon) : Keeps (Machine.execFadd e f s) := h.vecOp

theorem execFcvtu {e f} (h : s.Canon) : Keeps (Machine.execFcvtu e f s) := h.vecOp

theorem execUcvtf {e f} (h : s.Canon) : Keeps (Machine.execUcvtf e f s) := h.vecOp

theorem execFmin {e f} (h : s.Canon) : Keeps (Machine.execFmin e f s) := h.vecOp

theorem execFmax {e f} (h : s.Canon) : Keeps (Machine.execFmax e f s) := h.vecOp

theorem execVld {e f} (h : s.Canon) : Keeps (Machine.execVld e f s) := h.mOp

theorem execVldp {e f} (h : s.Canon) : Keeps (Machine.execVldp e f s) := h.mOp

theorem execVst {e f} (h : s.Canon) : Keeps (Machine.execVst e f s) := h.mOp

theorem execVstp {e f} (h : s.Canon) : Keeps (Machine.execVstp e f s) := h.mOp

theorem execVsts {e f} (h : s.Canon) : Keeps (Machine.execVsts e f s) := h.mOp

theorem execVstc {e f} (h : s.Canon) : Keeps (Machine.execVstc e f s) := h.mOp

theorem execXld {e f} (h : s.Canon) : Keeps (Machine.execXld e f s) := h.mOp

theorem execXst {e f} (h : s.Canon) : Keeps (Machine.execXst e f s) := h.mOp

theorem execSld {e f} (h : s.Canon) : Keeps (Machine.execSld e f s) := h.mOp

theorem execSldp {e f} (h : s.Canon) : Keeps (Machine.execSldp e f s) := h.mOp

theorem execSst {e f} (h : s.Canon) : Keeps (Machine.execSst e f s) := h.mOp

theorem execSstp {e f} (h : s.Canon) : Keeps (Machine.execSstp e f s) := h.mOp

theorem execSsts {e f} (h : s.Canon) : Keeps (Machine.execSsts e f s) := h.mOp

theorem execSstc {e f} (h : s.Canon) : Keeps (Machine.execSstc e f s) := h.mOp

theorem execVget {e f} (h : s.Canon) : Keeps (Machine.execVget e f s) := h.mOp

theorem execVput {e f} (h : s.Canon) : Keeps (Machine.execVput e f s) := h.mOp

theorem execScstart {e f} (h : s.Canon) : Keeps (Machine.execScstart e f s) := h.mOp

theorem execScstat {e f} (h : s.Canon) : Keeps (Machine.execScstat e f s) := h.mOp

theorem execCAdd {e f} (h : s.Canon) : Keeps (Machine.execCAdd e f s) := h.cOp

theorem execCSub {e f} (h : s.Canon) : Keeps (Machine.execCSub e f s) := h.cOp

theorem execCAnd {e f} (h : s.Canon) : Keeps (Machine.execCAnd e f s) := h.cOp

theorem execCOr {e f} (h : s.Canon) : Keeps (Machine.execCOr e f s) := h.cOp

theorem execCXor {e f} (h : s.Canon) : Keeps (Machine.execCXor e f s) := h.cOp

theorem execCShl {e f} (h : s.Canon) : Keeps (Machine.execCShl e f s) := h.cOp

theorem execCShru {e f} (h : s.Canon) : Keeps (Machine.execCShru e f s) := h.cOp

theorem execCShrs {e f} (h : s.Canon) : Keeps (Machine.execCShrs e f s) := h.cOp

theorem execCMul {e f} (h : s.Canon) : Keeps (Machine.execCMul e f s) := h.cOp

theorem execCMins {e f} (h : s.Canon) : Keeps (Machine.execCMins e f s) := h.cOp

theorem execCMaxs {e f} (h : s.Canon) : Keeps (Machine.execCMaxs e f s) := h.cOp

theorem execCCmpeq {e f} (h : s.Canon) : Keeps (Machine.execCCmpeq e f s) := h.cOp

theorem execCCmpne {e f} (h : s.Canon) : Keeps (Machine.execCCmpne e f s) := h.cOp

theorem execCCmpltu {e f} (h : s.Canon) : Keeps (Machine.execCCmpltu e f s) := h.cOp

theorem execCCmplts {e f} (h : s.Canon) : Keeps (Machine.execCCmplts e f s) := h.cOp

theorem execCCmpleu {e f} (h : s.Canon) : Keeps (Machine.execCCmpleu e f s) := h.cOp

theorem execCCmples {e f} (h : s.Canon) : Keeps (Machine.execCCmples e f s) := h.cOp

theorem execPand {e f} (h : s.Canon) : Keeps (Machine.execPand e f s) := h.cOp

theorem execPor {e f} (h : s.Canon) : Keeps (Machine.execPor e f s) := h.cOp

theorem execPnot {e f} (h : s.Canon) : Keeps (Machine.execPnot e f s) := h.cOp

theorem execRdlc {e f} (h : s.Canon) : Keeps (Machine.execRdlc e f s) := h.cOp

theorem execRdsys {e f} (h : s.Canon) : Keeps (Machine.execRdsys e f s) := h.cOp

theorem execAddi {e f} (h : s.Canon) : Keeps (Machine.execAddi e f s) := h.cOp

theorem execLil {e f} (h : s.Canon) : Keeps (Machine.execLil e f s) := h.cOp

theorem execLih {e f} (h : s.Canon) : Keeps (Machine.execLih e f s) := h.cOp

theorem execBr {e f} (h : s.Canon) : Keeps (Machine.execBr e f s) := h.cOp

theorem execLoopi {e f} (h : s.Canon) : Keeps (Machine.execLoopi e f s) := h.cOp

theorem execLoops {e f} (h : s.Canon) : Keeps (Machine.execLoops e f s) := h.cOp

theorem execLapmark {e vgrp} (h : s.Canon) : Keeps (Machine.execLapmark e vgrp s) := h.cOp

theorem execFence {e pr mask} (h : s.Canon) : Keeps (Machine.execFence e pr mask s) := h.cOp

theorem execOwopen {e win budget} (h : s.Canon) : Keeps (Machine.execOwopen e win budget s) := h.cOp

theorem execKend {e} (h : s.Canon) : Keeps (Machine.execKend e s) := h.cOp

theorem execFend {e} (h : s.Canon) : Keeps (Machine.execFend e s) := h.cOp

theorem execLapSave {e} (h : s.Canon) : Keeps (Machine.execLapSave e s) := by
  unfold Machine.execLapSave
  split
  · split
    · extract_lets +onlyGivenNames a
      split
      · exact h.stallWho
      · exact h.lapSave
    · exact h
  · exact h

theorem execFenceRelease {e} (h : s.Canon) : Keeps (Machine.execFenceRelease e s) := by
  unfold Machine.execFenceRelease
  extract_lets +onlyGivenNames x
  split
  · exact h.setEngState.modEng
  · exact h

theorem execPadStep {e} (h : s.Canon) : Keeps (Machine.execPadStep e s) := by
  unfold Machine.execPadStep
  split
  · exact h.padStep
  · split
    · split
      · exact h.padStep
      · exact h
    · exact h

theorem execLapOverrun {e} (h : s.Canon) : Keeps (Machine.execLapOverrun e s) := by
  unfold Machine.execLapOverrun
  extract_lets +onlyGivenNames x
  split
  · split
    · exact h.issue
    · split
      · split
        · exact h.padStep
        · exact h
      · split
        · split
          · exact h.engFault
          · exact h
        · exact h
  · exact h

/-! Descriptors (R154, R177, R178). -/

theorem scOwn {slot c d} (h : s.Canon) : (s.scOwn slot c d).Canon := h.incFld.raise

theorem burst {toDram bank off a cls} (h : s.Canon) : (s.burst toDram bank off a cls).Canon :=
  foldl h fun _ ht _ => ite (ite ht.sRead.writeDramWord.poisonDram ht.sRead.writeDramWord) <|
    ite ht.readDramWord.sWrite.putErr ht.readDramWord.sWrite

theorem runBursts {slot c num d l} (h : s.Canon) : (s.runBursts slot c num d l).Canon :=
  foldl h fun _ ht _ => ite ht.burst <| ite ht.scOwn ht.scOwn.foreign

theorem runDesc {slot c num fr d} (h : s.Canon) : (s.runDesc slot c num fr d).Canon := h.runBursts.dropGrant

theorem chanDone {e ch} (h : s.Canon) : (s.chanDone e ch).Canon := by
  unfold State.chanDone
  split
  · exact h
  · exact ite h.modEng h.modEng.descStart

theorem execDescriptorComplete {e ch} (h : s.Canon) : Keeps (Machine.execDescriptorComplete e ch s) := by
  unfold Machine.execDescriptorComplete
  extract_lets +onlyGivenNames fr
  split
  · split
    · exact h.stallWho
    · exact h.runDesc.chanDone
  · exact h.chanDone

theorem readImem {e} (h : s.Canon) : (s.readImem e).2.Canon := iteSnd (foldl h fun _ ht _ => ht.setFld) (snd h)

theorem execImemDataRead {q e} (h : s.Canon) : Keeps (Machine.execImemDataRead q e s) :=
  ite (serveRead h (fun _ ht => ht.readImem.emit)) h

end State.Canon

end Sys2Proof.Machine
end

section
/-! PROOF. Canonical form (O5) kept by NVM and calibration storage, the scheduler, the core supply and the speed
monitor, keys and attestation. -/

namespace Sys2Proof.Machine

open Sys2Proof

namespace State.Canon

variable {s : State}

/-! The NVM. -/

theorem spareSector {sec} (h : s.Canon) : (s.spareSector sec).2.Canon :=
  iteSnd (snd h.incFld.raise) (ite h.incFld.with_nvmMap.setFld.raise.raise h.incFld.with_nvmMap.setFld.raise)

theorem spareSectors {sec fails} (h : s.Canon) : (s.spareSectors sec fails).2.Canon := by
  induction fails generalizing s with
  | zero => exact h
  | succ k ih => exact iteSnd (ih h.spareSector) h.spareSector

theorem nvmStore {a bs fails} (h : s.Canon) : (s.nvmStore a bs fails).2.Canon :=
  iteSnd (snd h.spareSectors.putNvm) (snd h.spareSectors.takeFree.putNvm)

theorem nvmLater {a bs} (h : s.Canon) : (s.nvmLater a bs).Canon := h

/-! Pages and copies of them. -/

theorem modSense {f} (h : s.Canon) : (s.modSense f).Canon := h

theorem modCal {f} (h : s.Canon) : (s.modCal f).Canon := h

/-! Temperature sets (R410, R418, R419). -/

theorem putSet {q c k v} (h : s.Canon) : (s.putSet q c k v).Canon := ite h.setInt <| ite h.setInt h.setInt

theorem calRecompute (h : s.Canon) : s.calRecompute.Canon :=
  foldl (foldl h fun _ ht _ => ht.setInt.modSense) fun _ ht _ => ht.setInt.setInt

theorem stage {q c v t'} (h : s.Canon) : (s.stage q c v t').Canon := foldl h.setBit.modCal fun _ ht _ => ht.modCal

/-! Storage (R424 to R426). -/

theorem storeStart {task} (h : s.Canon) : (s.storeStart task).Canon :=
  ite h.setBit.modCal.setFld.with_sched h.setBit.modCal

theorem storeRequest {task} (h : s.Canon) : (s.storeRequest task).Canon := by
  unfold State.storeRequest
  split
  · exact h.modCal
  · exact h.storeStart

theorem storeTick (h : s.Canon) : s.storeTick.Canon := ite h.modCal.storeRequest h

theorem calApply (h : s.Canon) : s.calApply.Canon := by
  unfold State.calApply
  extract_lets +onlyGivenNames s1 s2 s3
  have hs3 : s3.Canon := raise (calRecompute (setBit (modCal (foldl h fun _ ht _ => ht.putSet))))
  extract_lets +onlyGivenNames s4
  have hs4 : s4.Canon := ite hs3.modCal.storeRequest hs3
  exact hs4.storeTick

theorem calTransit (h : s.Canon) : s.calTransit.Canon := ite h.calApply h.calRecompute.storeTick

/-! Steps (R411, R413, R417, R421, R422). -/

theorem calReport {c step reason q} (h : s.Canon) : (s.calReport c step reason q).Canon := by
  unfold State.calReport
  extract_lets +onlyGivenNames s1 s2
  have hs2 : s2.Canon := by
    unfold s2
    split
    · exact h.setFld.setFld.setFld.setInt
    · exact h.setFld.setFld.setFld
  extract_lets +onlyGivenNames s3
  have hs3 : s3.Canon := by
    unfold s3
    split
    · exact hs2.setInt
    · exact hs2
  extract_lets +onlyGivenNames s4
  have hs4 : s4.Canon := by
    unfold s4
    split
    · exact hs3.setFld
    · exact hs3
  extract_lets +onlyGivenNames s5
  have hs5 : s5.Canon := by
    unfold s5
    split
    · exact hs4.setFld
    · exact hs4
  exact ite hs5.raise hs5.raise

theorem calBegin {c step task} (h : s.Canon) : (s.calBegin c step task).Canon :=
  ite h.calReport <| ite h.calReport h.setFld.modCal

theorem calNext {fuel} (h : s.Canon) : (s.calNext fuel).Canon := by
  induction fuel generalizing s with
  | zero => exact h
  | succ k ih =>
    unfold State.calNext
    refine .ite h ?_
    split
    · exact ih h.modCal.calBegin
    · refine .ite (.ite h (with_sched h)) ?_
      split
      · exact .ite h (ih h.modCal.calBegin)
      · exact h

theorem calEnd (h : s.Canon) : s.calEnd.Canon := h.setFld.modCal.calNext

theorem calDispatched {w1} (h : s.Canon) : (s.calDispatched w1).Canon := ite h.storeRequest h.modCal.calNext

theorem calAbort (h : s.Canon) : s.calAbort.Canon := by
  unfold State.calAbort
  extract_lets +onlyGivenNames s1
  have hs1 : s1.Canon := by
    unfold s1
    split
    · exact ite h.calReport.setFld.modCal h
    · exact h
  exact hs1.modCal

/-! Contexts and their lists (R238, R247). -/

theorem modSched {f} (h : s.Canon) : (s.modSched f).Canon := h

theorem setCtx {n c} (h : s.Canon) : (s.setCtx n c).Canon := h.modSched

theorem setLevel {p l} (h : s.Canon) : (s.setLevel p l).Canon := h.modSched

theorem schedSync (h : s.Canon) : s.schedSync.Canon := h.setFld.setFld.setFld.setFld.setBit

/-! The trace (R257 to R259). -/

theorem trace {kind void sw ctx arg} (h : s.Canon) : (s.trace kind void sw ctx arg).Canon :=
  ite (ite h.incFld.incFld.modSched.incFld.raise h.incFld.modSched) h

/-! Decisions. -/

theorem setCtxState {n st cause} (h : s.Canon) : (s.setCtxState n st cause).Canon := h.setFld.setFld

theorem unlist {n} (h : s.Canon) : (s.unlist n).Canon := h.modSched

theorem makeReady {n} (h : s.Canon) : (s.makeReady n).Canon := h.setCtxState.setLevel.trace

theorem schedWrite {addr word v} (h : s.Canon) : (s.schedWrite addr word v).2.Canon :=
  iteSnd (snd h.stallServed.sWrite) (snd h.stallServed.foreign)

theorem writeStatus {n st cause result} (h : s.Canon) : (s.writeStatus n st cause result).Canon :=
  ite h.schedWrite h.schedWrite.raise

/-! Software commands (R247, R256). -/

theorem setResult {q ctx op code decided} (h : s.Canon) : (s.setResult q ctx op code decided).Canon := h.modSched

theorem cmdVoid {q ctx op code arg} (h : s.Canon) : (s.cmdVoid q ctx op code arg).Canon := h.setResult.raise.trace

theorem abortResult {q n code} (h : s.Canon) : (s.abortResult q n code).Canon := ite h.setResult h

theorem voidAbort {q n code} (h : s.Canon) : (s.voidAbort q n code).Canon := h.abortResult.raise.trace

theorem voidAborts {u' n st} (h : s.Canon) : (s.voidAborts u' n st).Canon :=
  foldl h.modSched fun _ ht _ => ht.voidAbort

theorem endOne {n st cause result} (h : s.Canon) : (s.endOne n st cause result).Canon := by
  unfold State.endOne
  extract_lets submitted u1 s1 s2 s3 s4
  have hs2 : s2.Canon := by
    unfold s2 u1
    split
    · exact h.unlist.setCtxState.modSched.voidAborts
    · exact h.unlist.setCtxState
  have hs4 : s4.Canon := .ite hs2.writeStatus.raise hs2.writeStatus
  exact .ite hs4.recordOnly hs4

theorem waitMet {k} (h : s.Canon) : (s.waitMet k).Canon := h.setCtxState.trace.makeReady

theorem endTask {n st cause result kind arg sw} (h : s.Canon) : (s.endTask n st cause result kind arg sw).Canon :=
  h.endOne.trace.modSched

theorem faultTask {n cause result} (h : s.Canon) : (s.faultTask n cause result).Canon := h.endTask

theorem wakeVoid {k arg} (h : s.Canon) : (s.wakeVoid k arg).Canon := h.modSched.trace

theorem takeWait (h : s.Canon) : s.takeWait.Canon := by
  unfold State.takeWait
  split
  · exact h
  · exact ite (ite h.modSched.waitMet h.modSched.endTask) <| ite h.modSched.wakeVoid h.modSched

theorem takeWaitsN {n} (h : s.Canon) : (s.takeWaitsN n).Canon := by
  induction n generalizing s with
  | zero => exact h
  | succ k ih => exact .ite h (ih h.takeWait)

theorem takeWaits (h : s.Canon) : s.takeWaits.Canon := h.takeWaitsN

/-! The order at the arbiter (R249). -/

theorem takeFault (h : s.Canon) : s.takeFault.Canon := by
  unfold State.takeFault
  split
  · exact h
  · extract_lets +onlyGivenNames s1
    split
    · exact h.modSched.faultTask
    · exact h.modSched

theorem takeFaults (h : s.Canon) : s.takeFaults.Canon := foldl h fun _ ht _ => ht.takeFault

theorem takeDone (h : s.Canon) : s.takeDone.Canon := by
  unfold State.takeDone
  split
  · exact h
  · extract_lets +onlyGivenNames s1
    split
    · exact h.modSched.endTask
    · exact h.modSched

theorem takeReports (h : s.Canon) : s.takeReports.Canon := foldl h.takeFaults fun _ ht _ => ht.takeDone

theorem wake {n} (h : s.Canon) : (s.wake n).Canon := h.modSched.setCtxState.trace.makeReady

theorem tickPass {n} (h : s.Canon) : (s.tickPass n).Canon := foldl h.incFld fun _ ht _ => ite ht.wake ht.wakeVoid

theorem releaseWait {st arg} (h : s.Canon) : (s.releaseWait st arg).Canon :=
  foldl h fun _ ht _ => ite ht.waitMet ht.wakeVoid

theorem takeMark (h : s.Canon) : s.takeMark.Canon := by
  unfold State.takeMark
  split
  · exact h
  · extract_lets +onlyGivenNames s1
    split
    · exact h.with_marks.releaseWait
    · exact h.with_marks.releaseWait
    · exact h.with_marks.tickPass

theorem takeMarks (h : s.Canon) : s.takeMarks.Canon := foldl h.takeReports.takeWaits fun _ ht _ => ht.takeMark

theorem takeUpTo {p} (h : s.Canon) : (s.takeUpTo p).Canon := by
  unfold State.takeUpTo
  split
  · exact h
  · exact foldl h.takeReports.takeWaits fun _ ht _ => ht.takeMark

/-! The software commands at the arbiter. -/

theorem cmdBadOp {q ctx op} (h : s.Canon) : (s.cmdBadOp q ctx op).Canon := h.setResult.raise

theorem startTask {n} (h : s.Canon) : (s.startTask n).Canon :=
  ite h.makeReady <| ite h.setCtx.setCtxState.modSched.trace <| ite (ite h.makeReady <|
    ite h.setCtxState.endTask h.setCtxState) h.setCtxState

theorem cmdSubmit {q n} (h : s.Canon) : (s.cmdSubmit q n).Canon := by
  unfold State.cmdSubmit
  extract_lets +onlyGivenNames s1
  split
  · extract_lets +onlyGivenNames a b off s'
    split
    · exact h.takeMarks.cmdVoid.schedSync
    · extract_lets +onlyGivenNames r0 r1 start
      split
      · exact h.takeMarks.stallServed.sRead.sRead.cmdVoid.schedSync
      · split
        · exact h.takeMarks.stallServed.sRead.sRead.cmdVoid.schedSync
        · extract_lets +onlyGivenNames w0 c s1
          have hs1 : s1.Canon := h.takeMarks.stallServed.sRead.sRead.setCtx.setCtxState
          exact hs1.setFld.setFld.setResult.trace.startTask.takeWaits.schedSync
  · exact h.takeMarks.cmdVoid.schedSync

theorem endBySoft {n cause kind} (h : s.Canon) : (s.endBySoft n cause kind).Canon := ite h.endTask.modSched h.endTask

theorem voidTogether {n l} (h : s.Canon) : (s.voidTogether n l).Canon := by
  unfold State.voidTogether
  split
  · exact h.takeWaits.schedSync
  · extract_lets +onlyGivenNames s1
    have hs1 : s1.Canon := foldl h.takeMarks fun _ ht _ => ite ht.cmdVoid <| ite ht.cmdVoid ht
    exact schedSync (foldl hs1 fun _ ht _ => ite ht.trace ht)

theorem cmdCancel {q n together} (h : s.Canon) : (s.cmdCancel q n together).Canon := by
  unfold State.cmdCancel
  extract_lets +onlyGivenNames s1 st s1
  have hs1 : s1.Canon := ite h.takeReports.cmdVoid <| ite h.takeReports.setResult.endBySoft h.takeReports.cmdVoid
  exact hs1.voidTogether

theorem cmdAbort {q n together} (h : s.Canon) : (s.cmdAbort q n together).Canon := by
  unfold State.cmdAbort
  extract_lets +onlyGivenNames s1 st s1
  have hs1 : s1.Canon := by
    unfold s1
    split
    · split
      · exact h.takeReports.setResult.modSched
      · exact h.takeReports
    · exact ite h.takeReports.setResult.endBySoft h.takeReports.cmdVoid
  exact hs1.voidTogether

theorem cmdRelease {q n} (h : s.Canon) : (s.cmdRelease q n).Canon :=
  ite h.takeMarks.setCtxState.setResult.trace.schedSync h.takeMarks.cmdVoid.schedSync

theorem taskCmd {q n op together} (h : s.Canon) : (s.taskCmd q n op together).Canon :=
  ite h.cmdSubmit <| ite h.cmdCancel <| ite h.cmdAbort <| ite h.cmdRelease h.cmdBadOp

theorem writeTaskCmd {q n op together} (h : s.Canon) : (s.writeTaskCmd q n op together).Canon :=
  write h (fun _ ht => ht.taskCmd)

theorem writeCtxCfg {n v} (h : s.Canon) : (s.writeCtxCfg n v).Canon :=
  ite h.takeMarks.setFld.setFld.setFld.schedSync h.takeMarks.raise.schedSync

/-! Dispatch (R243, R249). -/

theorem readParams {n} (h : s.Canon) : (s.readParams n).2.2.Canon :=
  iteThd (foldlThd h.stallServed fun _ ht _ => ht.sRead) (thd h.stallServed.foreign)

theorem dispatchOn {n u' arg} (h : s.Canon) : (s.dispatchOn n u' arg).Canon := by
  unfold State.dispatchOn
  extract_lets +onlyGivenNames s1 s2
  have hs2 : s2.Canon := h.unlist.setCtxState.incFld.modSched
  exact .ite (.ite (takeFree (rdmFailed (faultTask (.ite hs2.trace.readParams.modSched.schedWrite
      hs2.trace.readParams.modSched))))
    (faultTask (.ite hs2.trace.readParams.modSched.schedWrite hs2.trace.readParams.modSched))) <|
    .ite hs2.trace.readParams.modSched.faultTask.rdmFailed <|
    .ite hs2.trace.readParams.modSched.calDispatched hs2.trace.readParams.modSched

theorem dispatchPass (h : s.Canon) : s.dispatchPass.Canon := by
  unfold State.dispatchPass
  extract_lets +onlyGivenNames s1
  split
  · refine schedSync ?_
    refine takeWaits ?_
    refine foldl h.takeMarks fun _ ht _ => ?_
    split
    · exact ht
    · split
      · exact ht.dispatchOn
      · exact ht
  · exact h.takeMarks.schedSync

theorem startKernel {e n w} (h : s.Canon) : (s.startKernel e n w).Canon := h.modEng

theorem padSteps {e n} (h : s.Canon) : (s.padSteps e n).Canon := by
  induction n generalizing s with
  | zero => exact h
  | succ k ih => exact ih h.padStep

theorem windowAnswer {e delay w} (h : s.Canon) : (s.windowAnswer e delay w).Canon := by
  unfold State.windowAnswer
  extract_lets +onlyGivenNames s1 k
  split
  · split
    · exact h.takeMarks.schedSync
    · extract_lets +onlyGivenNames s1
      split
      · exact h.takeMarks.modEng.padSteps.schedSync
      · exact ite h.takeMarks.modEng.padSteps.schedSync <|
        ite (schedSync (takeWaits (ite h.takeMarks.modEng.padSteps.dispatchOn.startKernel
        h.takeMarks.modEng.padSteps.dispatchOn))) h.takeMarks.modEng.padSteps.incFld.trace.schedSync
  · exact h.takeMarks.schedSync

/-! Stream tasks (R244). -/

theorem runTaskBursts {d l} (h : s.Canon) : (s.runTaskBursts d l).Canon :=
  foldl h fun _ ht _ => ite ht.stallServed.foreign <| ite ht.stallServed.burst ht.stallServed

theorem scAdvance {u' n d} (h : s.Canon) : (s.scAdvance u' n d).Canon := h.runTaskBursts.modSched

theorem scPause {u'} (h : s.Canon) : (s.scPause u').Canon := by
  unfold State.scPause
  split
  · exact h
  · exact ite h.takeFree.scAdvance h

theorem scPauses {k} (h : s.Canon) : (s.scPauses k).Canon := h.scPause.scPause

theorem finishSc {u'} (h : s.Canon) : (s.finishSc u').Canon := by
  unfold State.finishSc
  split
  · exact h.scAdvance.modSched
  · exact h.modSched

/-! Units that stop existing (R245, R246). -/

theorem unitsLost {k} (h : s.Canon) : (s.unitsLost k).Canon := by
  unfold State.unitsLost
  refine schedSync ?_
  refine foldl h.scPauses fun _ ht _ => ?_
  split
  · exact ht.faultTask
  · exact ht

theorem slotTasksLost {k} (h : s.Canon) : (s.slotTasksLost k).Canon :=
  schedSync (foldl h.scPauses fun _ ht _ => ht.faultTask)

theorem planSwitched {slots} (h : s.Canon) : (s.planSwitched slots).Canon :=
  schedSync (foldl (foldl h fun _ ht _ => ht.scPauses) fun _ ht _ => ite ht.faultTask ht.endTask)

theorem execCtxCfgWrite {q n v} (h : s.Canon) : Keeps (Machine.execCtxCfgWrite q n v s) :=
  ite (write h (fun _ ht => ht.writeCtxCfg)) h

theorem execSubmit {q ctx} (h : s.Canon) : Keeps (Machine.execSubmit q ctx s) := h.writeTaskCmd

theorem execCancel {q ctx together} (h : s.Canon) : Keeps (Machine.execCancel q ctx together s) := h.writeTaskCmd

theorem execAbort {q ctx together} (h : s.Canon) : Keeps (Machine.execAbort q ctx together s) := h.writeTaskCmd

theorem execRelease {q ctx} (h : s.Canon) : Keeps (Machine.execRelease q ctx s) := h.writeTaskCmd

theorem execTaskCmdBadOp {q ctx op} (h : s.Canon) : Keeps (Machine.execTaskCmdBadOp q ctx op s) :=
  ite h.writeTaskCmd h

theorem execTick (h : s.Canon) : Keeps (Machine.execTick s) := h.takeUpTo.schedSync

theorem execSchedTransitMark (h : s.Canon) : Keeps (Machine.execSchedTransitMark s) := h.takeUpTo.schedSync

theorem execSchedTriggerMark (h : s.Canon) : Keeps (Machine.execSchedTriggerMark s) := h.takeUpTo.schedSync

theorem execDispatch (h : s.Canon) : Keeps (Machine.execDispatch s) := h.dispatchPass

theorem execWindowDispatch {e delay} (h : s.Canon) : Keeps (Machine.execWindowDispatch e delay s) := by
  unfold Machine.execWindowDispatch
  split
  · split
    · exact h.windowAnswer
    · exact h
  · exact h

theorem execWindowEnd {e} (h : s.Canon) : Keeps (Machine.execWindowEnd e s) := by
  unfold Machine.execWindowEnd
  split
  · split
    · exact h.scPauses.windowEnd
    · exact h
  · exact h

theorem execTaskComplete {u'} (h : s.Canon) : Keeps (Machine.execTaskComplete u' s) := by
  unfold Machine.execTaskComplete
  extract_lets +onlyGivenNames sc s1
  have hs1 : s1.Canon := ite h.finishSc h
  exact hs1.takeReports.takeWaits.schedSync

theorem execTaskFaulted (h : s.Canon) : Keeps (Machine.execTaskFaulted s) := h.takeFault.takeWaits.schedSync

/-! Step time (R194 to R196). -/

theorem speedSync (h : s.Canon) : s.speedSync.Canon := ite h.setFld.setBit h.setFld.setBit.raise

/-! Adaptive core voltage (R482, R483). -/

theorem modAvs {f} (h : s.Canon) : (s.modAvs f).Canon := h

theorem pmbusSend {cmd data} (h : s.Canon) : (s.pmbusSend cmd data).Canon := by
  unfold State.pmbusSend
  extract_lets +onlyGivenNames a pec s1
  have hs1 : s1.Canon := ite h.emit h
  exact hs1.emit

theorem avsCommand {mv} (h : s.Canon) : (s.avsCommand mv).Canon := by
  unfold State.avsCommand
  extract_lets +onlyGivenNames s1 s2
  have hs2 : s2.Canon := ite h.setFld.modAvs.pmbusSend.satFld h.setFld.modAvs.pmbusSend.satFld
  exact hs2.raise

theorem avsUp (h : s.Canon) : s.avsUp.Canon := ite (ite h.modAvs.raise h.modAvs.avsCommand) h

theorem avsFloor (h : s.Canon) : s.avsFloor.Canon := ite h.avsCommand h

theorem avsFrame {cond shed} (h : s.Canon) : (s.avsFrame cond shed).Canon := ite h.modAvs.avsUp h.modAvs

theorem avsPeriodEnd (h : s.Canon) : s.avsPeriodEnd.Canon := by
  unfold State.avsPeriodEnd
  extract_lets +onlyGivenNames s1 v w settled
  split
  · exact h.modAvs
  · exact ite h.modAvs.avsCommand h.modAvs

/-! The speed monitor (R195, R205). -/

theorem slowStep {e sample} (h : s.Canon) : (s.slowStep e sample).Canon := ite h.with_plan.raise.avsUp h

theorem speedInterval {samples vddcMv} (h : s.Canon) : (s.speedInterval samples vddcMv).Canon := by
  unfold State.speedInterval
  extract_lets l s1
  have hs1 : s1.Canon := .foldl h fun _ ht _ => ht.setFld.setBit
  exact speedSync (.foldl (with_plan hs1).setFld.setFld.setInt.setFld fun _ ht _ => ht.slowStep)

theorem wearSample {samples vddcMv} (h : s.Canon) : (s.wearSample samples vddcMv).Canon := h

theorem execSpeedSample {samples vddcMv} (h : s.Canon) : Keeps (Machine.execSpeedSample samples vddcMv s) :=
  h.speedInterval.wearSample

theorem execAvsSettle (h : s.Canon) : Keeps (Machine.execAvsSettle s) := ite h.avsUp h

theorem execAvsPeriod (h : s.Canon) : Keeps (Machine.execAvsPeriod s) := ite h.avsPeriodEnd h

theorem execPmbusTransactionEnd {ack} (h : s.Canon) : Keeps (Machine.execPmbusTransactionEnd ack s) := by
  unfold Machine.execPmbusTransactionEnd
  split
  · exact h
  · split
    · exact h.modAvs
    · split
      · exact h.modAvs.pmbusSend
      · exact h.modAvs.raise

/-! Ports and their state. -/

theorem modCl {p f} (h : s.Canon) : (s.modCl p f).Canon := h

theorem modGroup {f} (h : s.Canon) : (s.modGroup f).Canon := h

theorem setClState {p v} (h : s.Canon) : (s.setClState p v).Canon := h.setFld

/-! Queues (R443). -/

theorem queueBlock {p cls type ws} (h : s.Canon) : (s.queueBlock p cls type ws).Canon := h.modCl

theorem queueCell {p c fwd} (h : s.Canon) : (s.queueCell p c fwd).Canon := h.modCl

theorem flood {kind content} (h : s.Canon) : (s.flood kind content).Canon :=
  foldl h.modGroup fun _ ht _ => ht.queueCell

theorem floodTopology (h : s.Canon) : s.floodTopology.Canon := h.flood

/-! Slots (R458 to R461). -/

theorem modKey {f} (h : s.Canon) : (s.modKey f).Canon := h

theorem setMat {n m} (h : s.Canon) : (s.setMat n m).Canon := h.modKey

theorem emptySlot {n} (h : s.Canon) : (s.emptySlot n).Canon := h.setFld.setFld.setFld.setBit.setBit.setFld.setMat

theorem orphan {l meas} (h : s.Canon) : (s.orphan l meas).Canon := by
  unfold State.orphan
  extract_lets hit
  unfold hit
  split
  · exact h
  · exact raise (.foldl h fun _ ht _ => ht.setFld)

theorem clearSlot {n} (h : s.Canon) : (s.clearSlot n).Canon := h.emptySlot.orphan

theorem fillSlot {n policy origin parent loaded clear m} (h : s.Canon) :
    (s.fillSlot n policy origin parent loaded clear m).Canon :=
  h.setFld.setFld.setFld.setBit.setBit.setFld.setMat.orphan

/-! Measurements (R463). -/

theorem setMeas {k bs} (h : s.Canon) : (s.setMeas k bs).Canon := foldl h fun _ ht _ => ht.setFld

theorem measChanged {k} (h : s.Canon) : (s.measChanged k).Canon := h.orphan

theorem measExtend {k x} (h : s.Canon) : (s.measExtend k x).Canon := h.setMeas.incFld.measChanged

theorem measPlan {digest} (h : s.Canon) : (s.measPlan digest).Canon := h.setMeas.measExtend

/-! Derivation (R455, R457). -/

theorem publishId (h : s.Canon) : s.publishId.Canon := foldl h fun _ ht _ => ht.setFld

theorem deriveId (h : s.Canon) : s.deriveId.Canon := by
  unfold State.deriveId
  exact h.modKey.publishId

/-! KEY tasks (R466, R467). -/

theorem keyEnd {result outDone} (h : s.Canon) : (s.keyEnd result outDone).Canon := by
  unfold State.keyEnd
  extract_lets +onlyGivenNames s1
  have hs1 : s1.Canon := by
    unfold s1
    split
    · exact h.schedWrite
    · exact h
  exact modKey (ite hs1.modSched hs1.modSched)

/-! Tamper (R452 to R454). -/

theorem zeroize {cause} (h : s.Canon) : (s.zeroize cause).Canon := by
  unfold State.zeroize
  extract_lets +onlyGivenNames s1 s2
  have hs2 : s2.Canon := foldl h.modKey.publishId fun _ ht _ => ht.emptySlot
  extract_lets +onlyGivenNames s3
  have hs3 : s3.Canon := foldl hs2.setFld.setFld fun _ ht _ => ht.setFld
  extract_lets +onlyGivenNames s4 s5 s6
  have hs6 : s6.Canon := ite hs3.setFld.setFld.satFld.keyEnd hs3.setFld.setFld.satFld
  exact ite hs6.raise hs6

theorem tamperSync (h : s.Canon) : s.tamperSync.Canon := h.setBit

theorem tamperHolds {src} (h : s.Canon) : (s.tamperHolds src).Canon :=
  ite h <| ite h.modKey.tamperSync.zeroize h.modKey.tamperSync

theorem tamperEnds {src} (h : s.Canon) : (s.tamperEnds src).Canon := h.modKey.tamperSync

theorem tempWatch (h : s.Canon) : s.tempWatch.Canon := ite h.tamperHolds <| ite h.tamperEnds h

theorem execTamperInput {src} (h : s.Canon) : Keeps (Machine.execTamperInput src s) := h.tamperHolds

theorem execTamperLineRelease {src} (h : s.Canon) : Keeps (Machine.execTamperLineRelease src s) := h.tamperEnds

theorem writeZeroize {v} (h : s.Canon) : (s.writeZeroize v).Canon := ite h.zeroize h

theorem execZeroizeWrite {q v} (h : s.Canon) : Keeps (Machine.execZeroizeWrite q v s) :=
  write h (fun _ ht => ht.writeZeroize)

theorem writeTamperCfg {v} (h : s.Canon) : (s.writeTamperCfg v).Canon :=
  ite h.raise (foldl h.storeReg.tamperSync fun _ ht _ => ht.zeroize)

theorem execTamperCfgWrite {q v} (h : s.Canon) : Keeps (Machine.execTamperCfgWrite q v s) :=
  write h (fun _ ht => ht.writeTamperCfg)

/-! Import and register CLEAR (R462, R464, R465). -/

theorem writeSlotCmd {v} (h : s.Canon) : (s.writeSlotCmd v).Canon := ite h.clearSlot h

theorem execSlotClear {q v} (h : s.Canon) : Keeps (Machine.execSlotClear q v s) :=
  write h (fun _ ht => ht.writeSlotCmd)

theorem importGo (h : s.Canon) : s.importGo.Canon :=
  ite (raise (takeFree (foldl h fun _ ht _ => ht.setFld))) <| ite (raise (foldl h fun _ ht _ => ht.setFld)) <|
    ite (raise (foldl h fun _ ht _ => ht.setFld)) <| ite (raise (foldl h fun _ ht _ => ht.setFld)) <|
    ite (raise (foldl h fun _ ht _ => ht.setFld)) (raise (fillSlot (foldl h fun _ ht _ => ht.setFld)))

theorem execImportGo {q v} (h : s.Canon) : Keeps (Machine.execImportGo q v s) :=
  write h (fun _ ht => ite ht.importGo ht)

theorem execImportLockWrite {q v} (h : s.Canon) : Keeps (Machine.execImportLockWrite q v s) :=
  write h (fun _ ht => ht.storeReg)

/-! Operands of KEY tasks (R466). -/

theorem keyIn {t'} (h : s.Canon) : (s.keyIn t').2.2.Canon :=
  iteThd (thd h) (iteThd (thd h.stallServed.foreign) (foldlThd h.stallServed fun _ ht _ => ht.sRead))

theorem keyOut {t' bs} (h : s.Canon) : (s.keyOut t' bs).Canon := foldl h.stallServed fun _ ht _ => ht.sWrite

theorem withSrc {t' check f} (h : s.Canon) (hf : ∀ a0, (f a0).Canon) : (s.withSrc t' check f).Canon := by
  unfold State.withSrc
  split
  · exact hf _
  · exact ite h.keyEnd h.modKey

theorem keyDeliver {t' bs result} (h : s.Canon) : (s.keyDeliver t' bs result).Canon :=
  ite h.foreign.keyEnd h.keyOut.keyEnd

theorem withIn {t' f} (h : s.Canon) (hf : ∀ a0 x, x.Canon → (f a0 x).Canon) : (s.withIn t' f).Canon :=
  ite h.keyIn.keyEnd (hf _ _ h.keyIn)

theorem entropy (h : s.Canon) : (s.entropy).2.Canon := h.takeFree

theorem deriveInto {t' kin parent clear} (h : s.Canon) : (s.deriveInto t' kin parent clear).Canon :=
  ite h.keyEnd <| ite h.keyEnd (withIn h (fun _ _ ht => ht.fillSlot.keyEnd))

theorem opDerive {t'} (h : s.Canon) : (s.opDerive t').Canon :=
  ite (ite h.deriveInto h.keyEnd) (withSrc h (fun _ => h.deriveInto))

theorem opGenerate {t'} (h : s.Canon) : (s.opGenerate t').Canon :=
  ite h.keyEnd <| ite h.keyEnd h.entropy.entropy.fillSlot.keyEnd

theorem opPubkey {t'} (h : s.Canon) : (s.opPubkey t').Canon := withSrc h (fun _ => h.keyDeliver)

theorem opHash {t'} (h : s.Canon) : (s.opHash t').Canon := withIn h (fun _ _ ht => ht.keyDeliver)

theorem opMac {t'} (h : s.Canon) : (s.opMac t').Canon := withSrc h (fun _ => withIn h (fun _ _ ht => ht.keyDeliver))

theorem ecSign {d digest fuel} (h : s.Canon) : (s.ecSign d digest fuel).2.Canon := by
  induction fuel generalizing s with
  | zero => exact h.takeFree
  | succ f ih =>
    unfold State.ecSign
    split
    · exact h.takeFree
    · exact ih h.takeFree

theorem opSign {t'} (h : s.Canon) : (s.opSign t').Canon :=
  withSrc h (fun _ => withIn h (fun _ _ ht => ht.ecSign.keyDeliver))

theorem opVerify {t'} (h : s.Canon) : (s.opVerify t').Canon := withSrc h (fun _ => withIn h (fun _ _ ht => ht.keyEnd))

theorem opEncrypt {t'} (h : s.Canon) : (s.opEncrypt t').Canon :=
  withSrc h (fun _ => withIn h (fun _ _ ht => ht.keyDeliver))

theorem opDecrypt {t'} (h : s.Canon) : (s.opDecrypt t').Canon :=
  withSrc h (fun _ => withIn h (fun _ _ ht => ite ht.keyDeliver ht.keyEnd))

/-! Blobs (R468 to R471). -/

theorem blobSync {i} (h : s.Canon) : (s.blobSync i).Canon := h.setBit.setBit.setBit.setFld

theorem storeKey {t' fails l} (h : s.Canon) : (s.storeKey t' fails l).Canon :=
  ite h.keyEnd <| ite h.takeFree.nvmStore.blobSync.raise.keyEnd h.takeFree.nvmStore.blobSync.raise.keyEnd

theorem opStore {t' fails} (h : s.Canon) : (s.opStore t' fails).Canon := withSrc h (fun _ => h.storeKey)

theorem opLoad {t'} (h : s.Canon) : (s.opLoad t').Canon := by
  unfold State.opLoad
  split
  · exact h.keyEnd
  · exact ite h.keyEnd <| ite h.keyEnd <| ite h.fillSlot.keyEnd h.keyEnd

theorem opErase {t' fails} (h : s.Canon) : (s.opErase t' fails).Canon :=
  ite h.nvmStore.nvmStore.blobSync.keyEnd h.nvmStore.blobSync.keyEnd

/-! Attestation (R473, R474). -/

theorem opAttest {t'} (h : s.Canon) : (s.opAttest t').Canon :=
  ite h.keyEnd (withSrc h (fun _ => withIn h (fun _ _ ht => ht.ecSign.keyDeliver)))

theorem opChallenge {t'} (h : s.Canon) : (s.opChallenge t').Canon :=
  withSrc h (fun _ => withIn h (fun _ _ ht => ht.keyDeliver))

theorem opExtend {t'} (h : s.Canon) : (s.opExtend t').Canon := withIn h (fun _ _ ht => ht.measExtend.keyEnd)

theorem opRootCreate (h : s.Canon) : s.opRootCreate.Canon :=
  ite h.keyEnd <| ite h.takeFree.keyEnd h.entropy.modKey.satFld.setFld.deriveId.raise.keyEnd

theorem keyOp {op f} (h : s.Canon) (hf : ∀ a0, (f a0).Canon) : (s.keyOp op f).Canon := by
  unfold State.keyOp
  split
  · exact ite (ite (hf _) h.keyEnd) h
  · exact h

theorem execKeyDerive (h : s.Canon) : Keeps (Machine.execKeyDerive s) := keyOp h (fun _ => h.opDerive)

theorem execKeyGenerate (h : s.Canon) : Keeps (Machine.execKeyGenerate s) := keyOp h (fun _ => h.opGenerate)

theorem execKeyClear (h : s.Canon) : Keeps (Machine.execKeyClear s) := keyOp h (fun _ => h.clearSlot.keyEnd)

theorem execKeyPubkey (h : s.Canon) : Keeps (Machine.execKeyPubkey s) := keyOp h (fun _ => h.opPubkey)

theorem execKeyHash (h : s.Canon) : Keeps (Machine.execKeyHash s) := keyOp h (fun _ => h.opHash)

theorem execKeyMac (h : s.Canon) : Keeps (Machine.execKeyMac s) := keyOp h (fun _ => h.opMac)

theorem execKeySign (h : s.Canon) : Keeps (Machine.execKeySign s) := keyOp h (fun _ => h.opSign)

theorem execKeyVerify (h : s.Canon) : Keeps (Machine.execKeyVerify s) := keyOp h (fun _ => h.opVerify)

theorem execKeyEncrypt (h : s.Canon) : Keeps (Machine.execKeyEncrypt s) := keyOp h (fun _ => h.opEncrypt)

theorem execKeyDecrypt (h : s.Canon) : Keeps (Machine.execKeyDecrypt s) := keyOp h (fun _ => h.opDecrypt)

theorem execKeyStore {fails} (h : s.Canon) : Keeps (Machine.execKeyStore fails s) := keyOp h (fun _ => h.opStore)

theorem execKeyLoad (h : s.Canon) : Keeps (Machine.execKeyLoad s) := keyOp h (fun _ => h.opLoad)

theorem execKeyErase {fails} (h : s.Canon) : Keeps (Machine.execKeyErase fails s) := keyOp h (fun _ => h.opErase)

theorem execKeyAttest (h : s.Canon) : Keeps (Machine.execKeyAttest s) := keyOp h (fun _ => h.opAttest)

theorem execKeyChallenge (h : s.Canon) : Keeps (Machine.execKeyChallenge s) := keyOp h (fun _ => h.opChallenge)

theorem execKeyExtend (h : s.Canon) : Keeps (Machine.execKeyExtend s) := keyOp h (fun _ => h.opExtend)

theorem execRootCreate (h : s.Canon) : Keeps (Machine.execRootCreate s) := keyOp h (fun _ => h.opRootCreate)

end State.Canon

end Sys2Proof.Machine
end

section
/-! PROOF. Canonical form (O5) kept by network ports, video ingest and egress, the time base and PTP, the chain link. -/

namespace Sys2Proof.Machine

open Sys2Proof

namespace State.Canon

variable {s : State}

/-! Network ports. -/

theorem modNet {p f} (h : s.Canon) : (s.modNet p f).Canon := h

/-! Receive queues (R297, R298). -/

theorem qDrop {p q} (h : s.Canon) : (s.qDrop p q).Canon := h.incFld.raise

theorem ringRx {p i} (h : s.Canon) : (s.ringRx p i).Canon := by
  unfold State.ringRx
  extract_lets +onlyGivenNames q f size n tail head ct ch units skip start used
  split
  · exact h.qDrop
  · extract_lets +onlyGivenNames pass db cb s0
    have hs0 : s0.Canon := ite h h.takeFree
    extract_lets +onlyGivenNames s1
    have hs1 : s1.Canon := ite hs0.writeDram hs0
    extract_lets +onlyGivenNames s2
    have hs2 : s2.Canon := ite hs1.writeDram hs1
    extract_lets +onlyGivenNames s3 s4
    have hs4 : s4.Canon := ite hs2.setFld.setFld.modNet hs2.setFld.setFld
    exact ite hs4.raise hs4

/-! Pause (R309, R310). -/

theorem pauseFrame {p quanta} (h : s.Canon) : (s.pauseFrame p quanta).Canon :=
  ite h.incFld.incFld <| ite h.incFld <| ite h.incFld.setBit h.incFld.setBit.modNet

/-! The receive buffer (R299). -/

theorem rxBuffer {p lost len} (h : s.Canon) : (s.rxBuffer p lost len).Canon := h.modNet

/-! Reception (R293 to R298). -/

theorem steer {p bs} (h : s.Canon) : (s.steer p bs).2.Canon := by
  unfold State.steer
  extract_lets +onlyGivenNames hits s1
  split
  · exact iteSnd (snd (foldl h fun _ ht _ => ht.incFld)) (snd (foldl h fun _ ht _ => ht.incFld))
  · exact iteSnd (snd h.incFld) (snd h.incFld)

theorem receive {flow p bs fcsOk stamp lost} (h : s.Canon) (hf : ∀ a0 x, x.Canon → (flow a0 x).Canon) :
    (s.receive flow p bs fcsOk stamp lost).Canon := by
  unfold State.receive
  extract_lets +onlyGivenNames len
  split
  · exact h
  · split
    · exact h.rxBuffer.incFld.raise
    · extract_lets +onlyGivenNames s0
      split
      · exact h.incFld.incFld
      · split
        · exact ite h.incFld.incFld <| ite h.incFld.pauseFrame h.incFld.incFld
        · extract_lets +onlyGivenNames r q keep
          split
          · exact h.incFld.steer.incFld
          · extract_lets +onlyGivenNames max trunc s1
            have hs1 : s1.Canon := ite h.incFld.steer.incFld h.incFld.steer
            split
            · exact hs1
            · exact ite hs1.rxBuffer.ringRx <| ite (hf _ _ hs1.rxBuffer) hs1.incFld

/-! The TX buffer (R302). -/

theorem fillTx {p} (h : s.Canon) : (s.fillTx p).Canon := h.modNet

theorem putTx {p l} (h : s.Canon) : (s.putTx p l).Canon := ite h h.modNet.fillTx

theorem handTx {p f} (h : s.Canon) : (s.handTx p f).Canon := ite h.putTx h.incFld

theorem handFrame {p src at_ bs} (h : s.Canon) : (s.handFrame p src at_ bs).Canon := h.handTx

/-! Transmit descriptors (R304 to R308). -/

theorem setRun {p r x} (h : s.Canon) : (s.setRun p r x).Canon := h.modNet

theorem descDone {p r x} (h : s.Canon) : (s.descDone p r x).Canon := by
  unfold State.descDone
  extract_lets +onlyGivenNames a frames w6 code w7 s1
  have hs1 : s1.Canon := ite h.writeDram h
  extract_lets +onlyGivenNames s2 s3
  have hs3 : s3.Canon := ite hs1.setRun.setFld.raise hs1.setRun.setFld
  exact ite hs3 hs3.raise

theorem readShares {d l} (h : s.Canon) : (s.readShares d l).2.2.Canon := by
  induction l generalizing s with
  | nil => exact h
  | cons x l ih => exact iteThd h.readDram (ih h.readDram)

theorem takeDesc {p r idx} (h : s.Canon) : (s.takeDesc p r idx).Canon := by
  unfold State.takeDesc
  -- any number of words will do, and a variable keeps the read from being unrolled
  generalize 8 = k
  extract_lets a run h0 d pair x base t1 t2 c f n ks frames l1 l2 s2
  have hw : h0.2.2.Canon := h.readDramWords
  have h1 : t1.2.2.Canon := iteThd hw.readDram hw
  have h2 : t2.2.2.Canon := iteThd h1.readDram h1
  have hs2 : s2.Canon := h2.readShares.putTx.putTx
  exact .ite h.descDone <| .ite hw.descDone <| .ite hw.descDone <| .ite h2.descDone <| .ite h2.descDone hs2.setRun

/-! The timestamp queue (R315). -/

theorem tsqSync {p} (h : s.Canon) : (s.tsqSync p).Canon := h.setFld

theorem tsqPut {p stamp id} (h : s.Canon) : (s.tsqPut p stamp id).Canon :=
  ite h.modNet.tsqSync h.modNet.tsqSync.incFld.raise

theorem tsqRead {q p} (h : s.Canon) : (s.tsqRead q p).2.Canon := h.modNet.tsqSync.setSnap.setSnap

/-! The transmit arbiter (R300 to R303, R312, R314). -/

theorem descSent {p f st} (h : s.Canon) : (s.descSent p f st).Canon := by
  unfold State.descSent
  split
  · exact h
  · split
    · exact h
    · exact h.setRun

theorem reqSent {p f stamp} (h : s.Canon) : (s.reqSent p f stamp).Canon := by
  unfold State.reqSent
  split
  · exact ite h.with_time h
  · exact h

theorem startFrame {p f} (h : s.Canon) : (s.startFrame p f).Canon := by
  unfold State.startFrame
  extract_lets +onlyGivenNames bs stamp s1 s2 s3
  have hs3 : s3.Canon := by
    unfold s3
    split
    · exact h.modNet.emit.incFld.tsqPut
    · exact h.modNet.emit.incFld.reqSent
  exact ite hs3.fillTx.descSent.incFld.raise hs3.fillTx.descSent

theorem flushTx {p code count} (h : s.Canon) : (s.flushTx p code count).Canon := by
  unfold State.flushTx
  extract_lets +onlyGivenNames l s1
  refine foldl h.modNet fun _ ht _ => ?_
  split
  · split
    · exact ht.setRun
    · exact ht
  · exact ite ht.incFld ht

theorem endRuns {p} (h : s.Canon) : (s.endRuns p).Canon := by
  unfold State.endRuns
  refine foldl h fun _ ht _ => ?_
  split
  · exact ite ht.descDone ht
  · exact ht

/-! Modes and links (R290, R291). -/

theorem lpiOff {p} (h : s.Canon) : (s.lpiOff p).Canon := h.setBit.setBit

theorem netCtrl {p v} (h : s.Canon) : (s.netCtrl p v).Canon := by
  unfold State.netCtrl
  extract_lets +onlyGivenNames m old mode fec same s1
  split
  · exact h.setFld.setFld.setFld
  · extract_lets +onlyGivenNames s2
    have hs2 : s2.Canon := h.setFld.setFld.setFld.flushTx.endRuns.modNet
    exact ite hs2.tsqSync.setBit.lpiOff.raise hs2.tsqSync.setBit.lpiOff

theorem execPortRestart {q p v} (h : s.Canon) : Keeps (Machine.execPortRestart q p v s) :=
  ite (write h (fun _ ht => ht.netCtrl)) h

theorem execLinkUp {p speed} (h : s.Canon) : Keeps (Machine.execLinkUp p speed s) := ite h.setBit.setFld.raise h

theorem execLinkDown {p} (h : s.Canon) : Keeps (Machine.execLinkDown p s) :=
  ite h.setBit.lpiOff.flushTx.endRuns.raise h

theorem execPauseRx {p quanta} (h : s.Canon) : Keeps (Machine.execPauseRx p quanta s) := ite h.pauseFrame h

theorem execPauseExpiry {p} (h : s.Canon) : Keeps (Machine.execPauseExpiry p s) := ite h.setBit h

theorem execPauseWatchdog {p} (h : s.Canon) : Keeps (Machine.execPauseWatchdog p s) :=
  ite h.setBit.setBit.modNet.raise h

theorem execPauseHoldoffEnd {p} (h : s.Canon) : Keeps (Machine.execPauseHoldoffEnd p s) := ite h.setBit.raise h

theorem tsqPop {q p} (h : s.Canon) : (s.tsqPop q p).Canon := serveRead h (fun _ ht => ht.tsqRead.emit)

theorem txTurn {p} (h : s.Canon) : (s.txTurn p).Canon := by
  unfold State.txTurn
  split
  · split
    · exact h.startFrame
    · exact h
  · exact h

theorem execTxArbitrate {p pop pause} (h : s.Canon) : Keeps (Machine.execTxArbitrate p pop pause s) := by
  unfold Machine.execTxArbitrate
  extract_lets +onlyGivenNames s1
  have hs1 : s1.Canon := by
    unfold s1
    split
    · exact ite h.pauseFrame h
    · exact h
  extract_lets +onlyGivenNames s2
  have hs2 : s2.Canon := by
    unfold s2
    split
    · exact hs1.tsqPop
    · exact hs1
  exact ite hs2.txTurn h

theorem execTxrTailWrite {q p r v} (h : s.Canon) : Keeps (Machine.execTxrTailWrite q p r v s) :=
  ite (write h (fun _ ht => ht.storeReg)) h

theorem execTxDescriptor {p r} (h : s.Canon) : Keeps (Machine.execTxDescriptor p r s) := ite h.takeDesc h

theorem execLaunchAt {p r} (h : s.Canon) : Keeps (Machine.execLaunchAt p r s) := by
  unfold Machine.execLaunchAt
  split
  · exact ite h.setRun h
  · exact h

theorem execTxDescriptorDone {p r} (h : s.Canon) : Keeps (Machine.execTxDescriptorDone p r s) := by
  unfold Machine.execTxDescriptorDone
  split
  · exact ite h.descDone h
  · exact h

theorem execTsqPop {q p} (h : s.Canon) : Keeps (Machine.execTsqPop q p s) := ite h.tsqPop h

theorem execReceiveLpi {p on} (h : s.Canon) : Keeps (Machine.execReceiveLpi p on s) := ite h.setBit h

theorem execSerdesFail {p pll clk} (h : s.Canon) : Keeps (Machine.execSerdesFail p pll clk s) := ite h.raise h

/-! Video ingest. -/

theorem modIngest {n f} (h : s.Canon) : (s.modIngest n f).Canon := h

/-! The unit's settings in force. -/

theorem setPlane {n k v} (h : s.Canon) : (s.setPlane n k v).Canon := h.setFld

/-! Choosing planes (R330, R331). -/

theorem beginPicture {n ts stripe} (h : s.Canon) : (s.beginPicture n ts stripe).Canon := by
  unfold State.beginPicture
  extract_lets x c pic
  have hpic {p} : (pic p).Canon := h.modIngest
  unfold c
  split
  · exact hpic.incFld.raise
  · exact setBit (setFld (setFld (setFld (.ite (.ite hpic.modIngest.incFld.raise hpic.modIngest)
      (setPlane (.ite hpic.modIngest.incFld.raise hpic.modIngest))))))

theorem completePicture {n serial stamp lost} (h : s.Canon) : (s.completePicture n serial stamp lost).Canon := by
  unfold State.completePicture
  split
  · exact h
  · extract_lets +onlyGivenNames s1 s2
    have hs2 : s2.Canon := setBit (ite h.modIngest.incFld.incFld h.modIngest.incFld)
    split
    · exact hs2
    · extract_lets +onlyGivenNames s3
      have hs3 : s3.Canon := ite hs2 hs2.setPlane
      extract_lets +onlyGivenNames s4
      have hs4 : s4.Canon := ite hs3.setFld hs3
      exact hs4.setFld.modIngest

/-! Packets (R327, R328). -/

theorem writeSrd {n plane x data} (h : s.Canon) : (s.writeSrd n plane x data).Canon :=
  foldl h fun _ ht _ => foldl ht fun _ h2 _ => ite h2.writeDram h2

theorem judgeMissing {n} (h : s.Canon) : (s.judgeMissing n).Canon := by
  unfold State.judgeMissing
  extract_lets +onlyGivenNames x
  split
  · exact h
  · split
    · exact h
    · extract_lets +onlyGivenNames top inside has lost first runs hit s1 s2
      have hs2 : s2.Canon := foldl h.incFld fun _ ht _ => ite ht.setFld ht
      exact modIngest (foldl hs2 fun _ ht _ => ht.raise)

theorem countStripes {n t' l} (h : s.Canon) : (s.countStripes n t' l).Canon := foldl h fun _ ht _ => ht.modIngest

theorem takePacket {n p q stamp stripe} (h : s.Canon) : (s.takePacket n p q stamp stripe).Canon := by
  unfold State.takePacket
  extract_lets t0 s1 x
  have ht0 : t0.Canon := by
    unfold t0
    split
    · exact h.completePicture
    · exact h
  have hs1 : s1.Canon := by
    unfold s1
    split
    · exact h
    · exact ht0.beginPicture
  split
  · exact hs1
  · extract_lets s2 s3 s4 s5
    have hs2 : s2.Canon := by
      unfold s2
      split
      · exact .ite (.foldl hs1 fun _ ht _ => ht.writeSrd) hs1
      · exact hs1
    have hs3 : s3.Canon := by
      unfold s3
      split
      · exact hs2.countStripes
      · exact hs2
    have hs5 : s5.Canon := hs3.modIngest.judgeMissing
    exact .ite hs5.completePicture hs5

theorem ingestFrame {n i} (h : s.Canon) : (s.ingestFrame n i).Canon := by
  unfold State.ingestFrame
  split
  · exact h
  · split
    · exact h.incFld
    · extract_lets +onlyGivenNames bad
      split
      · exact h.incFld
      · extract_lets +onlyGivenNames stripe
        split
        · exact h.incFld
        · extract_lets +onlyGivenNames x q
          split
          · exact h.takePacket
          · exact ite h.incFld <| ite h.incFld h.takePacket

/-! The plane selector (R51, R330, R331). -/

theorem freePlanes {n} (h : s.Canon) : (s.freePlanes n).Canon :=
  foldl h fun _ ht _ => ite ht.modIngest.setPlane ht.modIngest

theorem selectStandard {n t'} (h : s.Canon) : (s.selectStandard n t').2.Canon := by
  unfold State.selectStandard
  extract_lets x d s0 done best use before s1
  have hs0 : s0.Canon := h.freePlanes
  have hs1 : s1.Canon := hs0.incFld.raise
  have huse {u : State} {k} (hu : u.Canon) : (use u k).Canon := hu.setPlane.setFld.modIngest
  unfold best
  split
  · exact snd (huse (.foldl hs0 fun _ ht _ => .ite ht ht.setPlane))
  · exact iteSnd (snd hs0.setFld) (snd (.ite (huse hs1) hs1))

theorem selectStripe {n t'} (h : s.Canon) : (s.selectStripe n t').2.Canon := h.freePlanes.setPlane.setFld.modIngest

theorem selectPlanes {t'} (h : s.Canon) : (s.selectPlanes t').Canon := by
  unfold State.selectPlanes
  refine with_plan (foldlSnd h fun q hq n => ?_)
  dsimp only
  split
  · exact hq
  · split
    · exact hq.selectStripe
    · exact hq.selectStandard

theorem stripeLate {t' q st} (h : s.Canon) : (s.stripeLate t' q st).Canon :=
  foldl h fun _ ht _ => ite ht <| ite ht.incFld.raise ht

/-! Commits (R325, R326). -/

theorem ingestTaken {t n} (h : s.Canon) : (s.ingestTaken t n).Canon := by
  unfold State.ingestTaken
  exact .ite (setBit (with_ingests (.foldl h fun _ ht _ => ht.setPlane))) h

/-! LOAD_STATUS and staging. -/

theorem modPlan {f} (h : s.Canon) : (s.modPlan f).Canon := h

theorem loadStatus {st reason sect} (h : s.Canon) : (s.loadStatus st reason sect).Canon := h.setFld.setFld.setFld

theorem planBanks (h : s.Canon) : s.planBanks.Canon := foldl h fun _ ht _ => ht.setBit

theorem refuseLoad {reason sect} (h : s.Canon) : (s.refuseLoad reason sect).Canon := h.loadStatus.modPlan.raise

theorem dropStaged (h : s.Canon) : s.dropStaged.Canon := h.modPlan.setFld.planBanks

theorem loadCmd {v} (h : s.Canon) : (s.loadCmd v).Canon := by
  unfold State.loadCmd
  extract_lets +onlyGivenNames busy s1
  have hs1 : s1.Canon := ite h.loadStatus.modPlan h
  split
  · split
    · exact hs1.raise
    · extract_lets +onlyGivenNames s2
      have hs2 : s2.Canon := ite hs1.dropStaged hs1
      exact hs2.loadStatus.setBit.modPlan.avsFloor
  · exact hs1

theorem readHeader {a} (h : s.Canon) : (s.readHeader a).2.2.Canon := by
  unfold State.readHeader
  split
  · exact h
  · split
    · exact h
    · extract_lets +onlyGivenNames r
      split
      · exact h.readDram
      · split
        · exact h.readDram
        · exact iteThd (thd h.readDram) (iteThd (thd h.readDram) (thd h.readDram))

theorem checkLoad {a} (h : s.Canon) : (s.checkLoad a).Canon := by
  unfold State.checkLoad
  extract_lets +onlyGivenNames h1
  split
  · exact h.readHeader.refuseLoad
  · extract_lets +onlyGivenNames r s1
    split
    · exact h.readHeader.readDram.refuseLoad
    · split
      · exact h.readHeader.readDram.refuseLoad
      · exact ite h.readHeader.readDram.setBit.refuseLoad <|
        ite h.readHeader.readDram.setBit.refuseLoad h.readHeader.readDram.setBit.loadStatus.modPlan

theorem stageSlot {k t'} (h : s.Canon) : (s.stageSlot k t').Canon := by
  unfold State.stageSlot
  extract_lets +onlyGivenNames e
  split
  · exact h.modEng.modPlan
  · exact h

theorem dropSegs (h : s.Canon) : s.dropSegs.Canon := foldl h fun _ ht _ => ite ht.setBit.raise ht

theorem stageLoad {a p} (h : s.Canon) : (s.stageLoad a p).Canon := by
  unfold State.stageLoad
  extract_lets +onlyGivenNames h1 r
  split
  · exact h.dropSegs.readDram.readDram.refuseLoad
  · extract_lets +onlyGivenNames s0
    have hs0 : s0.Canon := foldl h.dropSegs.readDram.readDram fun _ ht _ => ht.endBorrow
    extract_lets +onlyGivenNames s1 s2
    have hs2 : s2.Canon := modPlan (foldl hs0 fun _ ht _ => ht.stageSlot)
    exact hs2.setFld.loadStatus.planBanks.raise

theorem execPlanLoad {q v} (h : s.Canon) : Keeps (Machine.execPlanLoad q v s) := write h (fun _ ht => ht.loadCmd)

theorem execPlanAbort {q v} (h : s.Canon) : Keeps (Machine.execPlanAbort q v s) := write h (fun _ ht => ht.loadCmd)

theorem execLoadCheckEnd (h : s.Canon) : Keeps (Machine.execLoadCheckEnd s) := by
  unfold Machine.execLoadCheckEnd
  split
  · exact h.checkLoad
  · exact h

theorem execLoadDone (h : s.Canon) : Keeps (Machine.execLoadDone s) := by
  unfold Machine.execLoadDone
  split
  · exact h.stageLoad
  · exact h

/-! Emit sources (Table 05-6) and their data. -/

theorem emitWord {b off} (h : s.Canon) : (s.emitWord b off).2.Canon :=
  iteSnd h.stallServed.sRead (snd h.stallServed.foreign)

theorem emitBytes {bank a n} (h : s.Canon) : (s.emitBytes bank a n).2.Canon := by
  unfold State.emitBytes
  refine foldlSnd h fun q hq i => ?_
  dsimp only
  split
  · exact hq.emitWord
  · split
    · exact hq.readDramWord
    · exact hq

theorem sourceBytes {f e off n} (h : s.Canon) : (s.sourceBytes f e off n).2.Canon := h.emitBytes

theorem fixtureSlots {f e base i l} (h : s.Canon) : (s.fixtureSlots f e base i l).2.Canon := by
  induction l generalizing s i with
  | nil => exact h
  | cons a l ih => exact ih (iteSnd h h.sourceBytes)

theorem patchSlots {f e dmx out} (h : s.Canon) : (s.patchSlots f e dmx out).2.Canon :=
  foldlSnd h fun _ ht _ => ht.fixtureSlots

/-! Egress units. -/

theorem setEgress {n l} (h : s.Canon) : (s.setEgress n l).Canon := h

theorem egRow {g' bank a row x n} (h : s.Canon) : (s.egRow g' bank a row x n).2.Canon :=
  iteSnd h.emitBytes.emitBytes (iteSnd h.emitBytes.emitBytes.emitBytes h.emitBytes)

theorem egData {g' bank a l} (h : s.Canon) : (s.egData g' bank a l).2.Canon := by
  induction l generalizing s with
  | nil => exact h
  | cons x l ih => exact ih h.egRow

theorem readTemplate {n leg} (h : s.Canon) : (s.readTemplate n leg).2.2.Canon := iteThd h.readDram (thd h)

theorem egressFetch {n f e ready shed launch} (h : s.Canon) : (s.egressFetch n f e ready shed launch).Canon := by
  unfold State.egressFetch
  refine .ite h <| .ite h.incFld ?_
  have ht2 {c : Prop} [Decidable c] : (if c then (s.readTemplate n 0).2.2.readTemplate n 1
      else ([], true, (s.readTemplate n 0).2.2)).2.2.Canon := iteThd h.readTemplate.readTemplate (thd h.readTemplate)
  exact .ite ht2.raise (setEgress (.ite ht2.takeFree ht2))

theorem egressSeam {ta} (h : s.Canon) : (s.egressSeam ta).Canon := foldl h fun _ ht _ => ht.setEgress

theorem egressLaunch {n frame} (h : s.Canon) : (s.egressLaunch n frame).Canon := ite h.setBit h

theorem countFlow {typ unit} (h : s.Canon) : (s.countFlow typ unit).Canon := foldl h fun _ ht _ => ite ht.incFld ht

theorem egressHand {n j} (h : s.Canon) : (s.egressHand n j).Canon := by
  unfold State.egressHand
  extract_lets +onlyGivenNames g1 total seq d l r due port leg s1 s2
  have hs2 : s2.Canon := ite h.egData.readTemplate.handFrame.readTemplate.handFrame h.egData.readTemplate.handFrame
  exact ite hs2.incFld.countFlow.setEgress.incFld.setBit hs2.incFld.countFlow.setEgress

theorem execEgressPacketHandover {n} (h : s.Canon) : Keeps (Machine.execEgressPacketHandover n s) := by
  unfold Machine.execEgressPacketHandover
  split
  · exact ite h.egressHand h
  · exact h

/-! Low-power idle (R311). -/

theorem execLpiEnter {p} (h : s.Canon) : Keeps (Machine.execLpiEnter p s) := ite h.setBit h

theorem execLpiExit {p} (h : s.Canon) : Keeps (Machine.execLpiExit p s) := ite h.setBit h

theorem egressSync {n} (h : s.Canon) : (s.egressSync n).Canon := h.setFld.setFld

/-! STATE codes of TIME.STATUS (Table 03-1). -/

theorem modTime {f} (h : s.Canon) : (s.modTime f).Canon := h

theorem setTimeState {st} (h : s.Canon) : (s.setTimeState st).Canon :=
  ite h.setFld.raise <| ite h.setFld.raise h.setFld

theorem tickMark {n} (h : s.Canon) : (s.tickMark n).Canon := ite h <| ite h.with_marks.incFld.raise h.with_marks

theorem carveDone (h : s.Canon) : s.carveDone.Canon := ite h.modTime.setBit h

theorem tick (h : s.Canon) : s.tick.Canon := by
  unfold State.tick
  extract_lets +onlyGivenNames num inc used pulseOver s1 s2
  have hs2 : s2.Canon := ite h.modTime.setFld h.modTime
  exact tickMark (carveDone (ite hs2.emit hs2))

/-! The servo (R98, R99). -/

theorem servoAcquire (h : s.Canon) : s.servoAcquire.Canon := h.modTime.setTimeState

theorem servoLock {o} (h : s.Canon) : (s.servoLock o).Canon :=
  ite (ite h.modTime.servoAcquire h.modTime) <| ite (ite h.modTime.modTime.setTimeState h.modTime) h

theorem servoUpdate {o} (h : s.Canon) : (s.servoUpdate o).Canon := by
  unfold State.servoUpdate
  split
  · exact h.modTime
  · extract_lets +onlyGivenNames ts0 known ts s1
    have hs1 : s1.Canon := ite h h.takeFree
    extract_lets +onlyGivenNames acq kp ki integ x den lim clamped raw f s1 s2 s3
    have hs3 : s3.Canon := ite hs1.setInt.modTime.raise hs1.setInt.modTime
    exact hs3.servoLock

/-! Transits and the direct set of time (R87). -/

theorem rejudgeEach {inst at_} (h : s.Canon) : (s.rejudgeEach inst at_).Canon := h

theorem nextFromNow (h : s.Canon) : s.nextFromNow.Canon := h.modTime.rejudgeEach

theorem ltcSkip (h : s.Canon) : s.ltcSkip.Canon := h.modTime

/-! Glide and hold (R102, R107). -/

theorem enterGlide {lost} (h : s.Canon) : (s.enterGlide lost).Canon :=
  ite h h.setInt.setFld.modTime.setBit.setTimeState.raise

theorem forceGlide (h : s.Canon) : s.forceGlide.Canon := ite h.enterGlide h

theorem setTimeDirect {units} (h : s.Canon) : (s.setTimeDirect units).Canon :=
  forceGlide (ite h.modTime.nextFromNow.ltcSkip.setTimeState h.modTime.nextFromNow.ltcSkip.servoAcquire)

theorem hold {o sw} (h : s.Canon) : (s.hold o sw).Canon :=
  ite (ite h.modTime.setBit.setBit h.modTime.setBit) h.modTime.setBit.setInt.setTimeState.raise

theorem endHold (h : s.Canon) : s.endHold.Canon := h.modTime.setBit.servoAcquire.forceGlide

theorem checkMaster (h : s.Canon) : s.checkMaster.Canon := by
  unfold State.checkMaster
  split
  · exact h
  · exact ite (ite h.modTime.setPair.raise.servoAcquire h.modTime.setPair.raise.modTime) <|
    ite (ite h.modTime.setPair.raise.servoAcquire h.modTime.setPair.raise.modTime) h

theorem glideExit (h : s.Canon) : s.glideExit.Canon :=
  ite (ite h.servoAcquire.raise.checkMaster h.servoAcquire.raise) h

theorem judgeSample {o} (h : s.Canon) : (s.judgeSample o).Canon := by
  unfold State.judgeSample
  split
  · extract_lets +onlyGivenNames s1
    have hs1 : s1.Canon := ite h.modTime.setBit h
    extract_lets +onlyGivenNames s2
    have hs2 : s2.Canon := ite hs1.endHold <| ite hs1.servoAcquire hs1
    exact hs2.servoUpdate
  · exact ite h.servoUpdate h.hold.modTime

theorem acceptSample {o} (h : s.Canon) : (s.acceptSample o).Canon := by
  unfold State.acceptSample
  extract_lets +onlyGivenNames v s1 s2
  have hs2 : s2.Canon := ite h.setFld.modTime.recordOnly h.setFld.modTime
  extract_lets +onlyGivenNames s3
  have hs3 : s3.Canon := ite hs2.setBit hs2
  exact ite hs3.setTimeDirect.modTime hs3.glideExit.judgeSample

theorem offsetSample {src o} (h : s.Canon) : (s.offsetSample src o).Canon :=
  ite (ite h.incFld.modTime h.acceptSample) h

theorem softCorrection {o} (h : s.Canon) : (s.softCorrection o).Canon := ite h.setTimeDirect <| ite h.modTime h.hold

theorem setSource {src} (h : s.Canon) : (s.setSource src).Canon := by
  unfold State.setSource
  split
  · exact h
  · extract_lets +onlyGivenNames s1 s2
    have hs2 : s2.Canon := ite h.setFld.modTime h.setFld.modTime.setBit
    exact ite hs2 <| ite (ite hs2 hs2.modTime.setBit.setTimeState.forceGlide) <| ite hs2 hs2.servoAcquire

theorem pickSource (h : s.Canon) : s.pickSource.Canon := h.setSource

theorem floodStep {pend} (h : s.Canon) : (s.floodStep pend).Canon := by
  unfold State.floodStep
  split
  · exact ite h.flood h
  · exact h

theorem writeTimeCtrl {v} (h : s.Canon) : (s.writeTimeCtrl v).Canon := by
  unfold State.writeTimeCtrl
  extract_lets +onlyGivenNames w b wasSw wasGlide s1 s2
  have hs2 : s2.Canon := h.setFld.setBit.setBit.setBit.setBit.pickSource
  extract_lets +onlyGivenNames s3
  have hs3 : s3.Canon := ite hs2.enterGlide <| ite hs2.setTimeState hs2
  extract_lets +onlyGivenNames s4
  have hs4 : s4.Canon := ite hs3.servoAcquire <| ite hs3.modTime hs3
  extract_lets +onlyGivenNames auth pend s5
  have hs5 : s5.Canon := ite hs4 <| ite hs4.floodStep.modTime.setBit hs4.setBit
  split
  · split
    · exact hs5
    · split
      · exact ite (ite hs5.endHold.setBit.modTime.modTime hs5.endHold.setBit.modTime) hs5
      · exact hs5
  · exact hs5.setBit.modTime

theorem writeFreqAdj {v} (h : s.Canon) : (s.writeFreqAdj v).Canon := ite h.setInt h

theorem freqLimit (h : s.Canon) : s.freqLimit.Canon := h.setInt

theorem writeSwOffset {v} (h : s.Canon) : (s.writeSwOffset v).Canon := ite h.softCorrection h

theorem writeSetSecHi {q v} (h : s.Canon) : (s.writeSetSecHi q v).Canon := h.storePair.softCorrection

/-! The PTP engine (R94 to R97). -/

theorem newPath {m} (h : s.Canon) : (s.newPath m).Canon := ite h.modTime h.modTime.modTime.setBit

theorem takeBest (h : s.Canon) : s.takeBest.Canon := by
  unfold State.takeBest
  split
  · exact h
  · exact ite h.modTime <| ite h.modTime.newPath.modTime h.modTime.newPath.modTime.checkMaster

theorem loseMaster (h : s.Canon) : s.loseMaster.Canon := by
  unfold State.loseMaster
  split
  · exact h
  · extract_lets +onlyGivenNames s1 s2
    split
    · exact h.modTime.takeBest
    · exact ite h.modTime.takeBest.enterGlide h.modTime.takeBest

theorem ptpConfig (h : s.Canon) : s.ptpConfig.Canon := by
  unfold State.ptpConfig
  split
  · exact ite h h.loseMaster
  · exact h

theorem setWords {page off ws} (h : s.Canon) : (s.setWords page off ws).Canon := by
  induction ws generalizing s off with
  | nil => exact h
  | cons w l ih => exact ih h.setReg

theorem announce {m} (h : s.Canon) : (s.announce m).Canon := by
  unfold State.announce
  split
  · extract_lets +onlyGivenNames s1 isInUse
    split
    · extract_lets +onlyGivenNames s0
      have hs0 : s0.Canon := ite h.ptpConfig h.ptpConfig.setWords
      exact hs0.modTime.takeBest
    · exact ite h.ptpConfig.loseMaster h.ptpConfig
  · exact h

theorem ptpSample {t1 t2} (h : s.Canon) : (s.ptpSample t1 t2).Canon := by
  unfold State.ptpSample
  extract_lets +onlyGivenNames s1
  split
  · exact h.modTime.offsetSample
  · exact h.modTime

theorem sync {m} (h : s.Canon) : (s.sync m).Canon :=
  ite h <| ite (ite h.modTime.modTime h.modTime.ptpSample) h.ptpConfig

theorem followUp {m} (h : s.Canon) : (s.followUp m).Canon := by
  unfold State.followUp
  split
  · exact h
  · split
    · split
      · exact ite h.ptpSample h
      · exact h
    · exact h.ptpConfig

theorem delayResp {m} (h : s.Canon) : (s.delayResp m).Canon := by
  unfold State.delayResp
  split
  · exact h
  · split
    · split
      · exact ite h.modTime.setFld.setBit h
      · exact h
    · exact h.ptpConfig

theorem execAnchor (h : s.Canon) : Keeps (Machine.execAnchor s) := by
  unfold Machine.execAnchor
  extract_lets +onlyGivenNames sec
  split
  · exact ite h.modTime.pushRec h.modTime
  · exact h

theorem readNowNs {q} (h : s.Canon) : (s.readNowNs q).2.Canon := h.setSnap.setSnap.setSnap

theorem execNowNsRead {q} (h : s.Canon) : Keeps (Machine.execNowNsRead q s) :=
  serveRead h (fun _ ht => ht.readNowNs.emit)

theorem execAnnounceRx {m} (h : s.Canon) : Keeps (Machine.execAnnounceRx m s) := h.announce

theorem execSyncRx {m} (h : s.Canon) : Keeps (Machine.execSyncRx m s) := h.sync

theorem execFollowUpRx {m} (h : s.Canon) : Keeps (Machine.execFollowUpRx m s) := h.followUp

theorem execDelayRespRx {m} (h : s.Canon) : Keeps (Machine.execDelayRespRx m s) := h.delayResp

theorem execSetSecHiWrite {q v} (h : s.Canon) : Keeps (Machine.execSetSecHiWrite q v s) :=
  write h (fun _ ht => ht.writeSetSecHi)

theorem execSwOffsetWrite {q v} (h : s.Canon) : Keeps (Machine.execSwOffsetWrite q v s) :=
  write h (fun _ ht => ht.writeSwOffset)

theorem execFreqAdjWrite {q v} (h : s.Canon) : Keeps (Machine.execFreqAdjWrite q v s) :=
  write h (fun _ ht => ht.writeFreqAdj)

theorem execSwCorrectionAbsorbed (h : s.Canon) : Keeps (Machine.execSwCorrectionAbsorbed s) := ite h.modTime h

theorem execStepAuthWrite {q v} (h : s.Canon) : Keeps (Machine.execStepAuthWrite q v s) :=
  write h (fun _ ht => ht.writeTimeCtrl)

theorem execCarveAuthWrite {q v} (h : s.Canon) : Keeps (Machine.execCarveAuthWrite q v s) :=
  write h (fun _ ht => ht.writeTimeCtrl)

theorem execForceGlideWrite {q v} (h : s.Canon) : Keeps (Machine.execForceGlideWrite q v s) :=
  write h (fun _ ht => ht.writeTimeCtrl)

theorem execSwServoWrite {q v} (h : s.Canon) : Keeps (Machine.execSwServoWrite q v s) :=
  write h (fun _ ht => ht.writeTimeCtrl)

theorem execGlideTimeout (h : s.Canon) : Keeps (Machine.execGlideTimeout s) := ite h.enterGlide h

theorem execGlideLimit (h : s.Canon) : Keeps (Machine.execGlideLimit s) := by
  unfold Machine.execGlideLimit
  extract_lets +onlyGivenNames lim
  split
  · exact h.modTime.setBit.raise
  · exact h

theorem execAnnounceReceiptTimeout (h : s.Canon) : Keeps (Machine.execAnnounceReceiptTimeout s) := by
  unfold Machine.execAnnounceReceiptTimeout
  split
  · exact h
  · exact ite h.loseMaster h

/-! Receive windows (R445). -/

theorem setRxFrame {w t' x} (h : s.Canon) : (s.setRxFrame w t' x).Canon := h

theorem deliverFrame {c} (h : s.Canon) : (s.deliverFrame c).Canon :=
  ite h <| ite h.incFld <| ite h.writeDram.setRxFrame h

theorem deliverEnd {c} (h : s.Canon) : (s.deliverEnd c).Canon := ite h <| ite h.incFld h.setRxFrame

theorem judgeWindow {t' w} (h : s.Canon) : (s.judgeWindow t' w).Canon := by
  unfold State.judgeWindow
  split
  · exact h
  · extract_lets +onlyGivenNames x empty done a w0 row s1
    have hs1 : s1.Canon := ite h.writeDram h
    exact ite hs1.setFld.setBit.setBit hs1.setFld.setBit.setBit.incFld.raise

theorem judgeWindows {m} (h : s.Canon) : (s.judgeWindows m).Canon :=
  with_rxFrames (foldl h fun _ ht _ => ht.judgeWindow)

/-! Unicast cells at a hop (R443). -/

theorem deliver {c} (h : s.Canon) : (s.deliver c).Canon := ite (ite h.deliverEnd h) h.deliverFrame

theorem detour {p c} (h : s.Canon) : (s.detour p c).Canon := by
  unfold State.detour
  split
  · exact h.deliver
  · split
    · exact h
    · extract_lets +onlyGivenNames s1 s2
      have hs2 : s2.Canon := ite h.incFld h.incFld.modCl.raise
      exact hs2.queueCell

theorem sendVia {p c fwd} (h : s.Canon) : (s.sendVia p c fwd).Canon := ite h.queueCell h.detour

theorem hop {p c} (h : s.Canon) : (s.hop p c).Canon := ite (ite h.deliver h.incFld) h.sendVia

/-! Link reception and retry (R442). -/

theorem askRetry {p} (h : s.Canon) : (s.askRetry p).Canon := h.modCl.queueBlock

theorem linkRx {p seq ok c} (h : s.Canon) : (s.linkRx p seq ok c).2.Canon :=
  iteSnd (snd h) (iteSnd (snd h.incFld.askRetry) (iteSnd (snd h.incFld.modCl) (iteSnd (snd h) (snd h.askRetry))))

theorem floodRx {p c} (h : s.Canon) : (s.floodRx p c).2.Canon :=
  iteSnd (snd h) (foldl h.modGroup fun _ ht _ => ht.queueCell)

theorem execCellRx {p seq ok c} (h : s.Canon) : Keeps (Machine.execCellRx p seq ok c s) :=
  ite h <| ite h.linkRx.hop h.linkRx

theorem execFrameEnd {p seq ok c} (h : s.Canon) : Keeps (Machine.execFrameEnd p seq ok c s) :=
  ite h <| ite h.linkRx.hop h.linkRx

theorem execAckSend {p} (h : s.Canon) : Keeps (Machine.execAckSend p s) := ite h.queueBlock h

theorem execAckRx {p seq} (h : s.Canon) : Keeps (Machine.execAckRx p seq s) := ite h.modCl h

theorem execRetryReqRx {p seq} (h : s.Canon) : Keeps (Machine.execRetryReqRx p seq s) := ite h.incFld.modCl h

/-! The transmit arbiter (R443). -/

theorem emitCell {p seq c} (h : s.Canon) : (s.emitCell p seq c).Canon := h.emit

theorem sendCell {p c} (h : s.Canon) : (s.sendCell p c).Canon := h.modCl.incFld.emitCell

theorem sendTime {p} (h : s.Canon) : (s.sendTime p).Canon := h.modCl.emit

theorem execClTransmitArbiter {p} (h : s.Canon) : Keeps (Machine.execClTransmitArbiter p s) := by
  unfold Machine.execClTransmitArbiter
  extract_lets +onlyGivenNames x full
  split
  · exact h
  · split
    · exact ite h.modCl.sendTime h.modCl.emit
    · split
      · exact h.modCl.emitCell
      · split
        · exact h
        · split
          · exact h.modCl.sendCell
          · split
            · exact h.modCl.sendCell
            · exact h

/-! Time exchanges (R437 to R439). -/

theorem execTimeBlockSend {p} (h : s.Canon) : Keeps (Machine.execTimeBlockSend p s) :=
  ite (ite h.modCl.queueBlock h) h

theorem execTimeBlockRx {p no prev arrival} (h : s.Canon) : Keeps (Machine.execTimeBlockRx p no prev arrival s) :=
  ite h.modCl.queueBlock h

theorem showDelay {p d} (h : s.Canon) : (s.showDelay p d).Canon := h.setFld.setFld

theorem upstreamSample {t3 t4 d up} (h : s.Canon) : (s.upstreamSample t3 t4 d up).Canon :=
  ite h.setBit.offsetSample.setBit.setPair h.setBit.offsetSample

theorem execTimeRptRx {p no stamp up} (h : s.Canon) : Keeps (Machine.execTimeRptRx p no stamp up s) := by
  unfold Machine.execTimeRptRx
  extract_lets +onlyGivenNames x
  split
  · exact ite (ite h.modCl.showDelay.upstreamSample h.modCl.showDelay) h
  · exact h

/-! Lane rates (R446). -/

theorem execRatePropose {p n} (h : s.Canon) : Keeps (Machine.execRatePropose p n s) := by
  unfold Machine.execRatePropose
  split
  · exact ite h.modCl.queueBlock h
  · exact h

theorem execRateBlockRx {p code n kind} (h : s.Canon) : Keeps (Machine.execRateBlockRx p code n kind s) :=
  ite h <| ite (ite h.modCl.queueBlock h.queueBlock) <| ite (ite h.modCl h) <| ite (ite h.modCl h) h

theorem execRateRelockDone {p} (h : s.Canon) : Keeps (Machine.execRateRelockDone p s) := by
  unfold Machine.execRateRelockDone
  split
  · exact ite h.modCl.incFld.raise h
  · exact h

theorem clTransitAt {m p} (h : s.Canon) : (s.clTransitAt m p).Canon := by
  unfold State.clTransitAt
  split
  · extract_lets +onlyGivenNames x r cap pct big low s1 s2 gone s3
    have hs3 : s3.Canon := by
      unfold s3
      split
      · exact ite h.setFld.setFld.setFld.modCl.modCl h.setFld.setFld.setFld.modCl
      · exact h.setFld.setFld.setFld.modCl
    split
    · exact ite hs3 <| ite hs3.setFld.modCl <| ite hs3.modCl hs3
    · exact hs3
  · exact h

/-! Frame traffic (R444). -/

theorem clLaunch {n t' f e ready} (h : s.Canon) : (s.clLaunch n t' f e ready).Canon := by
  unfold State.clLaunch
  extract_lets +onlyGivenNames k a units hops route w fr r0 r endCell s1
  have hs1 : s1.Canon := modGroup (ite h.sourceBytes.takeFree h.sourceBytes)
  exact foldl hs1 fun _ ht _ => ht.sendVia

/-! Upstream and presence (R433, R438, R447, R448). -/

theorem numberPeers {order} (h : s.Canon) : (s.numberPeers order).Canon := by
  unfold State.numberPeers
  refine foldl h fun _ ht _ => ?_
  split
  · exact ite ht.setFld ht
  · exact ht

theorem losePath (h : s.Canon) : s.losePath.Canon := ite h.setBit.modGroup.enterGlide h.setBit.modGroup

theorem changePath {p} (h : s.Canon) : (s.changePath p).Canon := ite h.setBit.raise.servoAcquire h.setBit.raise

theorem regroup (h : s.Canon) : s.regroup.Canon := by
  unfold State.regroup
  extract_lets +onlyGivenNames links me n reach mask s1 s2
  have hs2 : s2.Canon := ite h.setFld h.setFld.raise
  split
  · exact hs2.setBit.setFld.modGroup
  · split
    · exact ite hs2.losePath hs2
    · exact ite hs2.setFld.setFld.setBit.modGroup.pickSource.changePath hs2.setFld.setFld.setBit.modGroup.pickSource

/-! Elections (R432). -/

theorem renumber {w ids} (h : s.Canon) : (s.renumber w ids).Canon :=
  h.modGroup.setFld.setFld.setBit.setPair.numberPeers

theorem leave {t} (h : s.Canon) : (s.leave t).Canon := ite h h.renumber

theorem floodRate {num den n} (h : s.Canon) : (s.floodRate num den n).Canon := h.flood

theorem decideElection (h : s.Canon) : s.decideElection.Canon := by
  unfold State.decideElection
  split
  · exact h
  · extract_lets +onlyGivenNames w old peers ids s1 s2 s3
    have hs3 : s3.Canon := ite h.renumber.setBit.modGroup.setFld h.renumber.setBit.modGroup.setFld.raise
    extract_lets +onlyGivenNames s4
    split
    · exact ite hs3.regroup.pickSource.floodTopology.floodRate hs3.regroup.pickSource.floodTopology
    · exact hs3.regroup.pickSource.floodTopology

theorem tryElection (h : s.Canon) : s.tryElection.Canon := ite h.decideElection h

theorem candidate_ {prio id} (h : s.Canon) : (s.candidate_ prio id).Canon := h.modGroup

theorem standForElection (h : s.Canon) : s.standForElection.Canon := h.candidate_.flood

theorem beginElection (h : s.Canon) : s.beginElection.Canon :=
  ite h <| ite h.setBit.modGroup.standForElection h.setBit.modGroup

theorem execPlanetLossTimeout (h : s.Canon) : Keeps (Machine.execPlanetLossTimeout s) := by
  unfold Machine.execPlanetLossTimeout
  split
  · exact ite h.beginElection.tryElection h
  · exact h

/-! Flooded cells (R440, R441). -/

theorem floodCell {p seq ok c k f} (h : s.Canon) (hf : ∀ x, x.Canon → (f x).Canon) :
    (s.floodCell p seq ok c k f).Canon :=
  ite h <| ite (ite (hf _ h.linkRx.floodRx) h.linkRx.floodRx) h.linkRx

theorem execElect {p seq ok c} (h : s.Canon) : Keeps (Machine.execElect p seq ok c s) :=
  floodCell h (fun _ ht => ht.beginElection.candidate_.tryElection)

theorem execTopology {p seq ok c ids} (h : s.Canon) : Keeps (Machine.execTopology p seq ok c ids s) := by
  unfold Machine.execTopology
  refine floodCell h (fun _ ht => ?_)
  extract_lets +onlyGivenNames all t1
  have ht1 : t1.Canon := ite ht ht.renumber
  exact ht1.modGroup.leave.regroup

theorem execRateCommit {p seq ok c} (h : s.Canon) : Keeps (Machine.execRateCommit p seq ok c s) :=
  floodCell h (fun _ ht => ite ht ht.modGroup)

theorem execGroupStep {p seq ok c} (h : s.Canon) : Keeps (Machine.execGroupStep p seq ok c s) :=
  floodCell h (fun _ ht => ite ht ht.modGroup)

/-! Link loss (R447). -/

theorem linkDown {p st} (h : s.Canon) : (s.linkDown p st).Canon := by
  unfold State.linkDown
  extract_lets x wasUp x1 s1 s2 cells
  have hs1 : s1.Canon := h.setClState.setFld.modCl
  have hs2 : s2.Canon := floodTopology (regroup (leave hs1.raise))
  exact .ite h <| .ite (.foldl hs2 fun _ ht _ => ht.detour) hs1

theorem execClLinkDown {p} (h : s.Canon) : Keeps (Machine.execClLinkDown p s) := ite h.linkDown h

theorem execRetryTimeout {p} (h : s.Canon) : Keeps (Machine.execRetryTimeout p s) := by
  unfold Machine.execRetryTimeout
  split
  · exact ite h.linkDown h
  · exact h

/-! Training (R431, R436). -/

theorem sendCaps {p} (h : s.Canon) : (s.sendCaps p).Canon := foldl h fun _ ht _ => ht.emit

theorem capsDone {p} (h : s.Canon) : (s.capsDone p).Canon :=
  ite h.setPair.setFld.setClState.raise <|
    ite h.setPair.setFld.setClState.raise h.setPair.setFld.setClState.setFld.modCl

theorem linkUp {p} (h : s.Canon) : (s.linkUp p).Canon :=
  ite (floodTopology (regroup (ite h.setClState.modCl.numberPeers.raise
    h.setClState.modCl.numberPeers.raise.renumber)))
    h.setClState.modCl.numberPeers.raise.floodTopology.beginElection.tryElection

theorem execClTrainingProgress {p t'} (h : s.Canon) : Keeps (Machine.execClTrainingProgress p t' s) := by
  unfold Machine.execClTrainingProgress
  extract_lets +onlyGivenNames st clear
  split
  · exact h
  · split
    · exact ite h.setClState.modCl h
    · exact ite h.setClState h
    · exact ite h.setClState.setFld.setFld.setFld.sendCaps h
    · exact ite (ite h.modCl.capsDone h.modCl) h
    · exact ite h.linkUp h

theorem execClTrainTimeout {p} (h : s.Canon) : Keeps (Machine.execClTrainTimeout p s) := ite h.linkDown h

/-! Lanes (R435). -/

theorem spareIn {p lane} (h : s.Canon) : (s.spareIn p lane).Canon := h.modCl.setFld.incFld.raise

theorem execLaneMarkSend {p} (h : s.Canon) : Keeps (Machine.execLaneMarkSend p s) := by
  unfold Machine.execLaneMarkSend
  extract_lets +onlyGivenNames x
  split
  · extract_lets +onlyGivenNames s1
    have hs1 : s1.Canon := by
      unfold s1
      split
      · exact ite h.spareIn h
      · exact h
    exact hs1.modCl.queueBlock
  · exact h

theorem execLaneMarkRx {p lane skew fail} (h : s.Canon) : Keeps (Machine.execLaneMarkRx p lane skew fail s) := by
  unfold Machine.execLaneMarkRx
  split
  · extract_lets +onlyGivenNames s1
    split
    · exact ite h.setFld.setBit.modCl h.setFld
    · exact h.setFld
  · exact h

theorem execLaneFail {p lane} (h : s.Canon) : Keeps (Machine.execLaneFail p lane s) :=
  ite (ite h.setBit <| ite h.setBit.linkDown.raise h.setBit.modCl) h

/-! What other commands do to the ports. -/

theorem clTransit {m} (h : s.Canon) : (s.clTransit m).Canon :=
  foldl (ite h.judgeWindows h) fun _ ht _ => ht.clTransitAt

theorem clCtrl {p} (h : s.Canon) : (s.clCtrl p).Canon := ite h <| ite h.setClState h.linkDown

theorem clTaken {t p} (h : s.Canon) : (s.clTaken t p).Canon := ite (foldl h fun _ ht _ => ht.linkDown) h

end State.Canon

end Sys2Proof.Machine
end

section
/-! PROOF. Canonical form (O5) kept by FIFOs, HDMA and the command unit, sACN, DMX and RDM, the plan sequencer. -/

namespace Sys2Proof.Machine

open Sys2Proof

namespace State.Canon

variable {s t : State}

/-! Spill FIFOs and the host queues. -/

theorem modFifo {n f} (h : s.Canon) : (s.modFifo n f).Canon := h

theorem fifoSync {n} (h : s.Canon) : (s.fifoSync n).Canon := h.setFld.setFld.setFld.setBit.setBit.setBit

theorem markCheck {n} (h : s.Canon) : (s.markCheck n).Canon := ite h.setBit.raise h

theorem acceptWord {n w} (h : s.Canon) : (s.acceptWord n w).Canon := by
  unfold State.acceptWord
  extract_lets +onlyGivenNames x s1
  have hs1 : s1.Canon := ite h.writeDramWord h
  exact hs1.modFifo.incFld.markCheck

theorem acceptWords {n ws} (h : s.Canon) : (s.acceptWords n ws).Canon :=
  fifoSync (foldl h fun _ ht _ => ht.acceptWord)

theorem noteFull {n} (h : s.Canon) : (s.noteFull n).Canon := foldl h.modFifo fun _ ht _ => ht.raise

theorem waitPush {n prod req ws behind} (h : s.Canon) : (s.waitPush n prod req ws behind).Canon := h.modFifo.noteFull

theorem hostPush {q n w} (h : s.Canon) : (s.hostPush q n w).Canon :=
  ite h.acceptWords.setBit <| ite h.modFifo <| ite h.incFld h.waitPush

theorem endRefused {n push r} (h : s.Canon) : (s.endRefused n push r).Canon := h.raise

theorem pushWin {q n k hi} (h : s.Canon) : (s.pushWin q n k hi).Canon := ite h.hostPush h.endRefused

theorem pushLow {q n k lo} (h : s.Canon) : (s.pushLow q n k lo).Canon := h.setSnap

theorem devPush {n ws} (h : s.Canon) (hd : s.devPush n ws = some t) : t.Canon := by
  unfold State.devPush at hd
  split at hd
  · exact Option.some.inj hd ▸ h.acceptWords
  · cases hd

theorem headWord {n} (h : s.Canon) : (s.headWord n).2.2.Canon := by
  unfold State.headWord
  split
  · exact h
  · exact h
  · split
    · exact h
    · exact iteThd (thd h.readDramWord.modFifo.incFld.raise) (thd h.readDramWord.modFifo)

theorem dropHead {n} (h : s.Canon) : (s.dropHead n).Canon := h.modFifo.incFld.fifoSync

theorem popWord {n} (h : s.Canon) : (s.popWord n).2.2.Canon := h.headWord.dropHead

theorem popWords {n k} (h : s.Canon) : (s.popWords n k).2.2.Canon := by
  induction k generalizing s with
  | zero => exact h
  | succ j ih => exact ih h.popWord

theorem hostWordRead {q n pop} (h : s.Canon) : (s.hostWordRead q n pop).2.2.Canon :=
  iteThd (thd h.endRefused) (iteThd (thd h.incFld) (iteThd h.popWord h.headWord))

theorem fifoRead {q n pop} (h : s.Canon) : (s.fifoRead q n pop).2.2.Canon := h.hostWordRead.setSnap

theorem answer {q w poison} (h : s.Canon) : (s.answer q w poison).Canon := h.emit

/-! Marks and flushes (R275 to R279). -/

theorem setMark {n} (h : s.Canon) : (s.setMark n).Canon := ite h.setFld.setBit.setBit.modFifo.fifoSync h.raise

theorem rewindFifo {n} (h : s.Canon) : (s.rewindFifo n).Canon := ite h.raise <| ite h.raise h.modFifo.setFld.fifoSync

theorem clearMark {n} (h : s.Canon) : (s.clearMark n).Canon := h.setBit.setBit.fifoSync

theorem flushFifo {n} (h : s.Canon) : (s.flushFifo n).Canon := h.modFifo.incFld.clearMark.setFld.raise

theorem fifoFlow {n v} (h : s.Canon) : (s.fifoFlow n v).Canon := by
  unfold State.fifoFlow
  extract_lets +onlyGivenNames s1
  have hs1 : s1.Canon := ite h.flushFifo h
  extract_lets +onlyGivenNames s2
  have hs2 : s2.Canon := ite hs1.flushFifo.setBit.fifoSync.noteFull hs1
  exact ite hs2.setBit.fifoSync hs2

theorem fifoCtrl {n v} (h : s.Canon) : (s.fifoCtrl n v).Canon := by
  unfold State.fifoCtrl
  extract_lets +onlyGivenNames b s0 s1
  have hs1 : s1.Canon := ite h.setBit.setMark h.setBit
  extract_lets +onlyGivenNames s2
  have hs2 : s2.Canon := ite hs1.rewindFifo hs1
  extract_lets +onlyGivenNames s3
  have hs3 : s3.Canon := ite hs2.clearMark hs2
  exact hs3.fifoFlow

theorem writeFifoCtrl {q n v} (h : s.Canon) : (s.writeFifoCtrl q n v).Canon := write h (fun _ ht => ht.fifoCtrl)

theorem fifoIdle {n} (h : s.Canon) : (s.fifoIdle n).Canon := ite h.modFifo.raise h

/-! Host transfers (R280, R281). -/

theorem hdmaEnd {n result} (h : s.Canon) : (s.hdmaEnd n result).Canon :=
  ite h.schedWrite.with_hdmaDone.modSched h.schedWrite.with_hdmaDone.modSched

theorem hdmaMoved {n len k} (h : s.Canon) : (s.hdmaMoved n len k).Canon := ite h.with_hdmaDone.hdmaEnd h.with_hdmaDone

theorem hdmaFromFifo {c f addr len room wait} (h : s.Canon) : (s.hdmaFromFifo c f addr len room wait).Canon := by
  unfold State.hdmaFromFifo
  refine .ite h.endRefused.hdmaEnd ?_
  extract_lets k g r s1
  have hs1 : s1.Canon := .ite h h.popWords.emit
  exact .ite (.ite h h.hdmaEnd) <| .ite (hdmaEnd (headWord (with_hdmaDone hs1))) hs1.hdmaMoved

theorem hdmaToFifo {c f len ws err} (h : s.Canon) : (s.hdmaToFifo c f len ws err).Canon := by
  unfold State.hdmaToFifo
  split
  · exact h.endRefused.hdmaEnd
  · split
    · exact h
    · split
      · exact h.hdmaEnd
      · extract_lets +onlyGivenNames k s1 s2
        have hs2 : s2.Canon := by
          unfold s2
          split
          · exact h.acceptWords
          · exact h.acceptWords.waitPush
        exact hs2.hdmaMoved

theorem hdmaStep {data err} (h : s.Canon) : (s.hdmaStep data err).Canon := by
  unfold State.hdmaStep
  split
  · exact h
  · exact ite h <| ite h.hdmaEnd <| ite h.hdmaFromFifo <| ite h.hdmaToFifo <| ite h.hdmaEnd <|
    ite (ite h.readDram.hdmaEnd h.readDram.emit.hdmaMoved) <| ite h.hdmaEnd h.writeDram.hdmaMoved

theorem pushed {n k} (h : s.Canon) : (s.pushed n k).Canon := by
  unfold State.pushed
  split
  · exact h.setBit
  · split
    · split
      · exact h.hdmaMoved
      · exact h
    · exact ite h.rdmWritten.responderWritten h

theorem completePush {n} (h : s.Canon) : (s.completePush n).Canon := by
  unfold State.completePush
  split
  · exact h
  · exact ite h.modFifo.acceptWords.pushed.noteFull h

theorem expirePush {n} (h : s.Canon) : (s.expirePush n).Canon := by
  unfold State.expirePush
  split
  · exact h
  · exact h.modFifo.incFld.setBit.raise.incFld

/-! The event queue (R81, R91, R286). -/

theorem evtSync (h : s.Canon) : s.evtSync.Canon := h.setFld

theorem executed {c} (h : s.Canon) : (s.executed c).Canon := ite h.with_cmds.setFld.recordOnly h.with_cmds.setFld

theorem markTaken {r} (h : s.Canon) : (s.markTaken r).Canon := by
  unfold State.markTaken
  split
  · exact ite h.executed h
  · exact h

theorem holdRecord {r} (h : s.Canon) : (s.holdRecord r).Canon :=
  ite h.incFld.with_evtBuf_evtDrop.evtSync <| ite h.incFld.with_evtBuf_evtDrop.evtSync <|
    ite h.incFld.incFld h.incFld.incFld.with_evtDrop.raise

theorem takeRecord {k} (h : s.Canon) : (s.takeRecord k).Canon := by
  unfold State.takeRecord
  split
  · exact h
  · exact ite h.with_recQ.holdRecord.markTaken h

theorem devWaits {n} (h : s.Canon) : (s.devWaits n).Canon := ite h h.modFifo.raise

theorem devTaken {n} (h : s.Canon) : (s.devTaken n).Canon := h.modFifo

theorem pushRecord (h : s.Canon) : s.pushRecord.Canon := by
  unfold State.pushRecord
  split
  · exact h
  · split
    · next hd => exact devTaken (evtSync (with_evtBuf (devPush h hd)))
    · exact h.devWaits

theorem pushTrace (h : s.Canon) : s.pushTrace.Canon := by
  unfold State.pushTrace
  split
  · exact h
  · split
    · next hd => exact devTaken (modSched (devPush h hd))
    · exact h.devWaits

/-! The command unit (R282 to R285). -/

theorem badWord (h : s.Canon) : s.badWord.Canon := h.popWord.incFld.raise

theorem acceptCmd {fuel} (h : s.Canon) : (s.acceptCmd fuel).Canon := by
  induction fuel generalizing s with
  | zero => exact h
  | succ k ih =>
    unfold State.acceptCmd
    extract_lets lev h1 w len q last d r s1 c s2
    have hs2 : s2.Canon := setFld (with_cmds (.ite h.popWords h.popWords.raise))
    exact .ite h <| .ite (ih h.badWord) <| .ite h <| .ite (ih h.badWord) <| .ite (ih h.popWords.raise) <|
      .ite hs2.executed hs2

theorem execMark {c} (h : s.Canon) : (s.execMark c).Canon :=
  ite h.with_cmds.recordOnly.executed h.with_cmds.recordOnly.takeRecord

theorem execHdmaBurst {data err} (h : s.Canon) : Keeps (Machine.execHdmaBurst data err s) := h.hdmaStep

theorem execCommandAccept (h : s.Canon) : Keeps (Machine.execCommandAccept s) := h.acceptCmd

theorem execCmdNop (h : s.Canon) : Keeps (Machine.execCmdNop s) := by
  unfold Machine.execCmdNop
  split
  · exact h.executed
  · exact h

theorem execCmdTask {together} (h : s.Canon) : Keeps (Machine.execCmdTask together s) := by
  unfold Machine.execCmdTask
  split
  · exact h.taskCmd.executed
  · exact h

theorem execCmdMark (h : s.Canon) : Keeps (Machine.execCmdMark s) := by
  unfold Machine.execCmdMark
  split
  · exact ite h h.execMark
  · exact h

theorem execEventRecordTake {k} (h : s.Canon) : Keeps (Machine.execEventRecordTake k s) := h.takeRecord

theorem execEventRecordPush (h : s.Canon) : Keeps (Machine.execEventRecordPush s) := h.pushRecord

theorem execTraceRecordPush (h : s.Canon) : Keeps (Machine.execTraceRecordPush s) := h.pushTrace

/-! sACN. -/

theorem modSacn {f} (h : s.Canon) : (s.modSacn f).Canon := h

theorem setUniv {u' x} (h : s.Canon) : (s.setUniv u' x).Canon := h.modSacn

/-! Reception (R336, R337). -/

theorem remerge {u' x} (h : s.Canon) : (s.remerge u' x).Canon := ite h.setUniv.raise h.setUniv

theorem writeRxCfg {v} (h : s.Canon) : (s.writeRxCfg v).Canon := h.storeReg.modSacn

theorem mergePacket {u' cid prio seq slots term} (h : s.Canon) :
    (s.mergePacket u' cid prio seq slots term).Canon := by
  unfold State.mergePacket
  extract_lets +onlyGivenNames x src
  split
  · exact ite h.incFld <| ite h.incFld.modSacn.remerge h.incFld.modSacn.remerge
  · split
    · exact h.incFld
    · extract_lets +onlyGivenNames s1 join
      split
      · exact h.incFld.modSacn.remerge.raise
      · split
        · exact ite h.incFld.modSacn.remerge.raise h.incFld.raise
        · exact h

theorem takeSacn {c b} (h : s.Canon) : (s.takeSacn c b).Canon := ite h.incFld <| ite h.incFld h.mergePacket

theorem sacnFrame {c i} (h : s.Canon) : (s.sacnFrame c i).Canon := ite h.incFld <| ite h.modSacn h.takeSacn

/-! Flow contexts (R322, R324). -/

theorem strayFrame {c p} (h : s.Canon) : (s.strayFrame c p).Canon := h.incFld.raise

theorem flowFrame {p i} (h : s.Canon) : (flowFrame p i s).Canon :=
  ite h.incFld.ingestFrame <| ite h.incFld.sacnFrame <| ite h.incFld.ringRx h.strayFrame

/-! Transmit (R339, R340). -/

theorem sacnSend {t'} (h : s.Canon) : (s.sacnSend t').Canon := by
  unfold State.sacnSend
  extract_lets +onlyGivenNames seq pay leg s1 s2
  have hs2 : s2.Canon := ite h.handFrame.takeFree.handFrame.takeFree h.handFrame.takeFree
  exact hs2.incFld.incFld.modSacn

theorem sacnFetch {f e ready} (h : s.Canon) : (s.sacnFetch f e ready).Canon :=
  ite h (modSacn (ite (takeFree (foldlSnd h fun _ ht _ => (iteSnd ht.patchSlots ht.sourceBytes))) (foldlSnd h fun _
    ht _ => (iteSnd ht.patchSlots ht.sourceBytes))))

theorem sacnLaunch {frame e at_} (h : s.Canon) : (s.sacnLaunch frame e at_).Canon := by
  unfold State.sacnLaunch
  extract_lets +onlyGivenNames c
  split
  · exact h
  · exact h.modSacn

theorem execSacnTxPacket (h : s.Canon) : Keeps (Machine.execSacnTxPacket s) := by
  unfold Machine.execSacnTxPacket
  split
  · split
    · exact ite h.modSacn.sacnSend.incFld h.modSacn.sacnSend
    · exact h
  · exact h

theorem execSacnKeepalive {ctx j} (h : s.Canon) : Keeps (Machine.execSacnKeepalive ctx j s) := by
  unfold Machine.execSacnKeepalive
  extract_lets +onlyGivenNames ms
  split
  · exact ite h.sacnSend.incFld h
  · exact h

theorem execSacnSourceTimeout {univ cid} (h : s.Canon) : Keeps (Machine.execSacnSourceTimeout univ cid s) := by
  unfold Machine.execSacnSourceTimeout
  extract_lets +onlyGivenNames x
  split
  · exact ite h.remerge h
  · exact h

/-! Receive snapshots (R338). -/

theorem statusRow {slots srcs prio last} (h : s.Canon) : (s.statusRow slots srcs prio last).2.Canon := by
  unfold State.statusRow
  extract_lets pick
  have hpick {t : State} {v} (ht : t.Canon) : (pick t v).2.Canon := by
    unfold pick
    split
    · exact ht
    · exact ht.takeFree
  exact snd (hpick (hpick (hpick h)))

theorem writeSet {a slots row} (h : s.Canon) : (s.writeSet a slots row).Canon := by
  unfold State.writeSet
  extract_lets +onlyGivenNames s1
  have hs1 : s1.Canon := ite h.writeDram h
  exact ite hs1.writeDram hs1

theorem writeSacnSet {m} (h : s.Canon) : (s.writeSacnSet m).Canon :=
  foldl h fun _ ht _ => ite ht.statusRow.writeSet ht.statusRow.takeFree.writeSet

theorem sacnSnapDone (h : s.Canon) : s.sacnSnapDone.Canon := by
  unfold State.sacnSnapDone
  split
  · exact h
  · exact foldl h.writeSacnSet.modSacn fun _ ht _ => ht.takeSacn

theorem sacnSnapshot {m} (h : s.Canon) : (s.sacnSnapshot m).Canon := ite h h.modSacn

/-! Commits of the FLOW page (R323, R340). -/

theorem flowTaken {t} (h : s.Canon) : (s.flowTaken t).Canon := by
  unfold State.flowTaken
  extract_lets +onlyGivenNames gap gone packets rx s1
  have hs1 : s1.Canon := ite h h.takeFree
  exact hs1.modSacn.setFld

/-! Records (Table 10-11). -/

theorem rdmPush {n ws fin} (h : s.Canon) : (s.rdmPush n ws fin).Canon := by
  unfold State.rdmPush
  split
  · next hd =>
    have ht := devPush h hd
    refine responderWritten ?_
    split
    · exact ht.rdmReport
    · exact ht
  · exact h.modDmx.waitPush

theorem rdmEnd {n r outcome st32 bs} (h : s.Canon) : (s.rdmEnd n r outcome st32 bs).Canon := by
  unfold State.rdmEnd
  extract_lets +onlyGivenNames fault s1 s2
  have hs2 : s2.Canon := ite h.modDmx.setBit.rdmFailed h.modDmx.setBit
  exact hs2.rdmPush

/-! Launches (R342). -/

theorem dmxSend {n slots} (h : s.Canon) : (s.dmxSend n slots).Canon := h.modDmx.setBit.incFld.emit

theorem dmxFetch {n f e ready} (h : s.Canon) : (s.dmxFetch n f e ready).Canon :=
  ite h (modDmx (ite (takeFree (iteSnd h.patchSlots h.sourceBytes)) (iteSnd h.patchSlots h.sourceBytes)))

theorem dmxLaunch {n f cut} (h : s.Canon) : (s.dmxLaunch n f cut).Canon := by
  unfold State.dmxLaunch
  split
  · exact h
  · split
    · exact h.incFld.raise
    · extract_lets +onlyGivenNames s1
      have hs1 : s1.Canon := by
        unfold s1
        split
        · exact h.rdmEnd
        · exact h
      split
      · split
        · exact hs1.dmxSend
        · split
          · exact hs1.dmxSend
          · exact hs1
      · exact hs1.dmxSend
      · exact hs1

theorem execDmxPacketEnd {n} (h : s.Canon) : Keeps (Machine.execDmxPacketEnd n s) := by
  unfold Machine.execDmxPacketEnd
  extract_lets +onlyGivenNames x
  split
  · extract_lets +onlyGivenNames s1
    split
    · split
      · exact ite h.setBit.modDmx.modDmx.rdmEnd h.setBit.modDmx.modDmx
      · exact h.setBit.modDmx
    · exact h.setBit.modDmx
  · exact h

/-! Reception (R343). -/

theorem dmxAccept {n slots st} (h : s.Canon) : (s.dmxAccept n slots st).Canon := h.modDmx

theorem execDmxRxPacket {n packet} (h : s.Canon) : Keeps (Machine.execDmxRxPacket n packet s) := by
  unfold Machine.execDmxRxPacket
  extract_lets +onlyGivenNames role
  split
  · split
    · exact h
    · split
      · exact h.incFld
      · split
        · exact h.incFld
        · exact ite h.incFld.setBit.modDmx.modDmx h.incFld.setBit.modDmx.dmxAccept
  · exact h

theorem execDmxRxTimeout {n} (h : s.Canon) : Keeps (Machine.execDmxRxTimeout n s) := ite h.setBit.raise h

theorem dmxSnapshot {n m} (h : s.Canon) : (s.dmxSnapshot n m).Canon := ite h.modDmx h

theorem dmxSnapDone {n} (h : s.Canon) : (s.dmxSnapDone n).Canon := by
  unfold State.dmxSnapDone
  split
  · exact h
  · extract_lets +onlyGivenNames a x slots r s1
    split
    · exact h.takeFree.statusRow.writeSet.modDmx.dmxAccept
    · exact h.takeFree.statusRow.writeSet.modDmx

theorem execSnapshotWriteDone {unit} (h : s.Canon) : Keeps (Machine.execSnapshotWriteDone unit s) :=
  ite h.dmxSnapDone <| ite h.sacnSnapDone h

/-! The RDM controller (R344 to R348). -/

theorem rdmRequest {n kind p} (h : s.Canon) : (s.rdmRequest n kind p).2.Canon :=
  iteSnd h.takeFree (iteSnd h.readDram (snd h))

theorem execRdmRequestStart {n} (h : s.Canon) : Keeps (Machine.execRdmRequestStart n s) := by
  unfold Machine.execRdmRequestStart
  split
  · exact h
  · extract_lets +onlyGivenNames kind p
    split
    · extract_lets +onlyGivenNames r
      split
      · exact h.rdmRequest.takeFree.rdmFailed.rdmReport
      · exact h.rdmRequest.modSched.modDmx.setBit.setBit.incFld.emit
    · exact h

theorem execRdmResponse {n r} (h : s.Canon) : Keeps (Machine.execRdmResponse n r s) := by
  unfold Machine.execRdmResponse
  split
  · exact ite h h.rdmEnd
  · exact h

theorem execRdmResponseTimeout {n} (h : s.Canon) : Keeps (Machine.execRdmResponseTimeout n s) := by
  unfold Machine.execRdmResponseTimeout
  split
  · exact ite h.rdmEnd h
  · exact h

/-! The responder (R349). -/

theorem execRdmRequestIn {n bytes} (h : s.Canon) : Keeps (Machine.execRdmRequestIn n bytes s) := by
  unfold Machine.execRdmRequestIn
  extract_lets +onlyGivenNames len dst cls pid uid all good
  split
  · extract_lets +onlyGivenNames due answer
    split
    · exact ite h.modDmx h
    · split
      · extract_lets +onlyGivenNames s1
        have hs1 : s1.Canon := ite h.setBit <| ite h.setBit h
        exact ite hs1 hs1.modDmx
      · exact ite h.rdmPush h.rdmPush.modDmx
  · exact h

theorem execRdmResponderAnswer {n} (h : s.Canon) : Keeps (Machine.execRdmResponderAnswer n s) := by
  unfold Machine.execRdmResponderAnswer
  split
  · extract_lets +onlyGivenNames b
    split
    · exact ite h.modDmx.emit.setFld.rdmPush h.modDmx.emit
    · exact h
  · exact h

theorem qmsgPush {n len} (h : s.Canon) : (s.qmsgPush n len).Canon := ite h <| ite h.raise h.readDram.modDmx.setFld

theorem execQmsgPush {q n v} (h : s.Canon) : Keeps (Machine.execQmsgPush q n v s) :=
  ite (write h (fun _ ht => ht.qmsgPush)) h

/-! Slots (Table 05-9). -/

theorem setSlotState {k v} (h : s.Canon) : (s.setSlotState k v).Canon := h.setFld

theorem enterService {e} (h : s.Canon) : (s.enterService e).Canon := h.setFld.modEng

theorem setRole {e role slot} (h : s.Canon) : (s.setRole e role slot).Canon := by
  unfold State.setRole
  extract_lets +onlyGivenNames s1 s2
  have hs2 : s2.Canon := ite h.setFld.setFld.enterService h.setFld.setFld
  exact ite hs2 hs2.raise

theorem shadowSync (h : s.Canon) : s.shadowSync.Canon := foldl h fun _ ht _ => ht.setBit

theorem undefRegs {e keep} (h : s.Canon) : (s.undefRegs e keep).Canon := h.modEng.with_free

theorem undefScalars {e} (h : s.Canon) : (s.undefScalars e).Canon := h.modEng.with_free

/-! The switch (R190 to R192). -/

theorem changeSeg {k seg} (h : s.Canon) : (s.changeSeg k seg).Canon := h.setFld.setBit

theorem planSwitch (h : s.Canon) : s.planSwitch.Canon := by
  unfold State.planSwitch
  split
  · exact h
  · extract_lets +onlyGivenNames n write old kept busy s1 s2 s3
    have hs3 : s3.Canon := foldl (modPlan (foldl h fun _ ht _ => ht.changeSeg)) fun _ ht _ => ite ht.setSlotState <|
      ite ht.setSlotState ht
    extract_lets +onlyGivenNames s4 s5
    have hs5 : s5.Canon := hs3.measPlan.planSwitched.setBit.shadowSync.setFld.loadStatus
    extract_lets +onlyGivenNames s6 s7
    have hs7 : s7.Canon := hs5.setFld.setFld.incFld.setFld.setAct.planBanks
    exact hs7.raise

theorem unstage {k} (h : s.Canon) : (s.unstage k).Canon := h.modPlan

theorem copyStaged {k} (h : s.Canon) : (s.copyStaged k).Canon := by
  unfold State.copyStaged
  extract_lets +onlyGivenNames e
  split
  · exact h
  · split
    · exact h.modEng.modPlan
    · exact h

theorem loadReserve {g'} (h : s.Canon) : (s.loadReserve g').Canon := by
  unfold State.loadReserve
  split
  · refine foldl h.setBit fun _ ht _ => ?_
    split
    · exact ht.modEng
    · exact ht
  · exact h

theorem reshadow (h : s.Canon) : s.reshadow.Canon := h.loadReserve.loadReserve.setBit.shadowSync.raise

theorem stopWritten (h : s.Canon) : s.stopWritten.Canon := by
  unfold State.stopWritten
  split
  · exact h
  · extract_lets +onlyGivenNames s1
    have hs1 : s1.Canon := by
      unfold s1
      refine foldl h fun _ ht _ => ?_
      split
      · exact ht.modEng.setBit
      · exact ht
    exact hs1.modPlan.setFld

/-! The lap watch (R204). -/

theorem setWatch {k w} (h : s.Canon) : (s.setWatch k w).Canon := h.modPlan

theorem lapDue {k j at_} (h : s.Canon) : (s.lapDue k j at_).Canon := by
  unfold State.lapDue
  split
  · exact h
  · split
    · exact h.setWatch
    · split
      · exact h.setWatch
      · exact h

theorem readyMarks {k lap fr} (h : s.Canon) : (s.readyMarks k lap fr).Canon := h.modPlan

theorem takeNotice {k lap fr} (h : s.Canon) : (s.takeNotice k lap fr).Canon := ite h.readyMarks h.readyMarks.lapDue

/-! Slots lost (R208, R246). -/

theorem loseSlot {k lap} (h : s.Canon) : (s.loseSlot k lap).Canon := h.setSlotState.shadowSync.slotTasksLost.raise

/-! Take-over (R206). -/

theorem segLost {e} (h : s.Canon) : (s.segLost e).Canon := ite h.setBit h

theorem countRetire {e} (h : s.Canon) : (s.countRetire e).Canon := ite h.satFld.with_groom.setBit h.satFld.with_groom

theorem stopChan {e ch} (h : s.Canon) : (s.stopChan e ch).Canon := by
  unfold State.stopChan
  split
  · exact h
  · exact h.takeFree.runBursts

theorem retire {e} (h : s.Canon) : (s.retire e).Canon := by
  unfold State.retire
  extract_lets +onlyGivenNames s1 s2
  have hs2 : s2.Canon := ite h.segLost.stopChan.stopChan.modEng h.segLost.stopChan.stopChan.modEng.setEngState
  exact hs2.countRetire.modPlan.setRole

theorem recordAt {a frame} (h : s.Canon) : (s.recordAt a frame).2.Canon := h.readWord.readWord

theorem chooseRecord {a b frame} (h : s.Canon) : (s.chooseRecord a b frame).2.Canon :=
  recordAt (frame := frame) h.recordAt

theorem claim {k r} (h : s.Canon) : (s.claim k r).Canon := by
  unfold State.claim
  extract_lets +onlyGivenNames e x s1 s2 s3
  have hs3 : s3.Canon := h.unitsLost.retire.unstage.with_engTest.setFld.setSlotState
  exact hs3.setRole.setFld.setFld.setFld.setFld.modEng.shadowSync

theorem takeOver {k cause} (h : s.Canon) : (s.takeOver k cause).Canon := by
  unfold State.takeOver
  extract_lets +onlyGivenNames lap
  split
  · exact h.unitsLost.retire.unstage.loseSlot.modPlan
  · split
    · exact h.unitsLost.retire.modPlan.loseSlot
    · exact h.claim.chooseRecord.setEngState.setWatch.modPlan

theorem takenOver {k old new lap cause} (h : s.Canon) : (s.takenOver k old new lap cause).Canon := h.incFld.raise

theorem recordRow {a row} (h : s.Canon) : (s.recordRow a row).2.2.Canon := h.loadWords

theorem restoreRows {r a ns} (h : s.Canon) : (s.restoreRows r a ns).Canon := foldl h fun _ ht _ => ht.recordRow.modEng

theorem restore {r a} (h : s.Canon) : (s.restore r a).2.Canon := by
  unfold State.restore
  exact snd (countStep (restoreRows (modEng (undefRegs h.recordRow.recordRow.recordRow))))

theorem resumeEng {r old cause rec} (h : s.Canon) : (s.resumeEng r old cause rec).Canon := by
  unfold State.resumeEng
  cases rec with
  | none => exact takenOver (lapDue (modEng (beginLap (modPlan h.undefRegs.undefScalars.modEng))))
  | some a => exact takenOver (lapDue (modEng (beginLap (modPlan h.restore))))

/-! Frame starts (R199 to R203). -/

theorem setShed {n ok} (h : s.Canon) : (s.setShed n ok).Canon :=
  ite h.setFld.modPlan.raise <| ite h.setFld.modPlan.raise h.setFld.modPlan

theorem switchBanks {p} (h : s.Canon) : (s.switchBanks p).Canon := by
  unfold State.switchBanks
  split
  · extract_lets +onlyGivenNames names s1 s2
    have hs2 : s2.Canon := foldl (foldl h fun _ ht _ => ht.handover) fun _ ht _ => ht.handover
    exact hs2.modPlan
  · exact h

theorem startBanks {p shed} (h : s.Canon) : (s.startBanks p shed).Canon := foldl h fun _ ht _ => ht.handover

theorem overrun {k} (h : s.Canon) : (s.overrun k).Canon := by
  unfold State.overrun
  extract_lets +onlyGivenNames e
  split
  · extract_lets +onlyGivenNames lap s0 s1
    have hs1 : s1.Canon := by
      unfold s1
      split
      · exact h.scPauses.faultTask
      · exact h.scPauses
    exact hs1.undefRegs.undefScalars.setEngState.schedSync.raise
  · exact h

theorem startSlot {f k shed p t'} (h : s.Canon) : (s.startSlot f k shed p t').Canon := by
  unfold State.startSlot
  extract_lets +onlyGivenNames s0
  have hs0 : s0.Canon := by
    unfold s0
    split
    · exact h.changeSeg.modPlan
    · exact h
  exact hs0.setFld.setFld.setFld.modEng.setWatch.beginLap.lapDue

theorem startLost {k shed p t'} (h : s.Canon) : (s.startLost k shed p t').Canon := h.modEng.setWatch.lapDue

theorem takeAtStart {k cause} (h : s.Canon) : (s.takeAtStart k cause).Canon := by
  unfold State.takeAtStart
  split
  · exact h.unitsLost.retire.modPlan.loseSlot
  · exact h.claim.undefRegs.undefScalars.setEngState.takenOver

theorem faultsAtStart (h : s.Canon) : s.faultsAtStart.Canon := by
  unfold State.faultsAtStart
  extract_lets +onlyGivenNames reps s1 s2
  have hs2 : s2.Canon := foldl h.modPlan fun _ ht _ => ite ht.takeOver ht.takeAtStart
  exact ite hs2 (foldl hs2.modPlan fun _ ht _ => ht.takeAtStart)

theorem startEngines {f p shed} (h : s.Canon) : (s.startEngines f p shed).Canon :=
  foldl h fun _ ht _ => ite ht.startLost <| ite ht ht.overrun.startSlot

theorem skipBanks {p} (h : s.Canon) : (s.skipBanks p).Canon := foldl h.switchBanks fun _ ht _ => ht.handover

theorem skipFrame {f p} (h : s.Canon) : (s.skipFrame f p).Canon := h.skipBanks.modPlan.incFld.raise

theorem marginRec {margin crit shed skipped} (h : s.Canon) : (s.marginRec margin crit shed skipped).Canon :=
  ite h.recordOnly h

theorem startRegs {p t'} (h : s.Canon) : (s.startRegs p t').Canon := h.setFld.setInt

theorem frameRegs {p shed t'} (h : s.Canon) : (s.frameRegs p shed t').Canon := h.setFld.setInt.setFld.setFld

theorem warnMargin {p shed t'} (h : s.Canon) : (s.warnMargin p shed t').Canon := ite h.modPlan.raise h.modPlan

theorem takeReturned {p} (h : s.Canon) : (s.takeReturned p).Canon := by
  unfold State.takeReturned
  refine foldl h.with_groom fun _ ht _ => ?_
  split
  · exact ite ht.modEng.setFld.setSlotState.unstage.setRole.setBit.setEngState.shadowSync.raise ht.setRole.raise
  · exact ht.setRole.raise

theorem frameStart {f p} (h : s.Canon) : (s.frameStart f p).Canon := by
  unfold State.frameStart
  extract_lets +onlyGivenNames s0 sa t1 s1 shed
  split
  · exact h.takeReturned.modPlan.startRegs.marginRec.skipFrame
  · extract_lets +onlyGivenNames shedMin a m s1
    have hs1 : s1.Canon := h.takeReturned.modPlan.startRegs.modPlan.setShed.marginRec
    split
    · exact hs1.skipFrame.avsFrame
    · extract_lets +onlyGivenNames s2 s3
      have hs3 : s3.Canon := hs1.frameRegs.warnMargin.modPlan.switchBanks.startBanks
      exact hs3.faultsAtStart.startEngines.avsFrame

theorem stripeStart {q} (h : s.Canon) : (s.stripeStart q).Canon := by
  unfold State.stripeStart
  extract_lets +onlyGivenNames s1
  refine foldl h.modPlan fun _ ht _ => ?_
  extract_lets +onlyGivenNames x
  split
  · split
    · exact ite ht.setEngState.modEng ht
    · exact ht
  · exact ht

theorem lostLap {k w} (h : s.Canon) : (s.lostLap k w).Canon := by
  unfold State.lostLap
  extract_lets +onlyGivenNames s1
  have hs1 : s1.Canon := by
    unfold s1
    split
    · exact h.lapBanks
    · exact h
  exact hs1.lapDue

theorem execStagedCodeCopy {slot} (h : s.Canon) : Keeps (Machine.execStagedCodeCopy slot s) := ite h.copyStaged h

theorem execReshadowed (h : s.Canon) : Keeps (Machine.execReshadowed s) := ite h.reshadow h

theorem execStopModeWriteDone (h : s.Canon) : Keeps (Machine.execStopModeWriteDone s) := ite h.stopWritten h

theorem execLapMarkNotice (h : s.Canon) : Keeps (Machine.execLapMarkNotice s) := by
  unfold Machine.execLapMarkNotice
  split
  · exact h
  · exact h.modPlan.takeNotice

theorem execFaultReport (h : s.Canon) : Keeps (Machine.execFaultReport s) := by
  unfold Machine.execFaultReport
  split
  · exact h
  · exact ite h.modPlan.takeOver h.modPlan

theorem execStallDetect {slot} (h : s.Canon) : Keeps (Machine.execStallDetect slot s) := ite h.takeOver h

theorem execLapDue {slot} (h : s.Canon) : Keeps (Machine.execLapDue slot s) := by
  unfold Machine.execLapDue
  extract_lets +onlyGivenNames w
  split
  · split
    · exact h.lostLap
    · split
      · exact h
      · split
        · exact h.setWatch.incFld.raise
        · exact h.takeOver
  · exact h

theorem execRestoreDone {e} (h : s.Canon) : Keeps (Machine.execRestoreDone e s) := by
  unfold Machine.execRestoreDone
  split
  · exact ite h.resumeEng h
  · exact h

end State.Canon

end Sys2Proof.Machine
end

section
/-! PROOF. Canonical form (O5) kept by scan ports and LEDs, sense and calibration steps, reset, boot and service. -/

namespace Sys2Proof.Machine

open Sys2Proof

namespace State.Canon

variable {s : State}

/-! Settings of the scan ports and their LED blocks. -/

theorem modScan {n f} (h : s.Canon) : (s.modScan n f).Canon := h

theorem modLed {n f} (h : s.Canon) : (s.modLed n f).Canon := h

/-! Checks of a commit. -/

theorem scanSync {n} (h : s.Canon) : (s.scanSync n).Canon := h.setFld.setFld

/-! Reading pixels (R361 to R365). -/

theorem scanPoison {n} (h : s.Canon) : (s.scanPoison n).Canon := h.incFld.raise

theorem scanWord {n base bank off} (h : s.Canon) : (s.scanWord n base bank off).2.Canon := by
  generalize hq : s.scanWord n base bank off = q
  unfold State.scanWord at hq
  extract_lets b o u r a d at hq
  split_ifs at hq <;> subst hq
  · exact snd h.stallServed.sRead.scanPoison
  · exact snd h.stallServed.sRead
  · exact snd h.stallServed.foreign
  · exact snd h.readDramWord.scanPoison
  · exact snd h.readDramWord
  · exact snd h

theorem scanBytes {n base bank off len} (h : s.Canon) : (s.scanBytes n base bank off len).2.Canon :=
  (foldlSnd h fun _ ht _ => ht.scanWord)

theorem rowPixels {n base bank v} (h : s.Canon) : (s.rowPixels n base bank v).2.Canon :=
  iteSnd h.scanBytes (iteSnd h.scanBytes (iteSnd h.scanBytes.scanBytes h.scanBytes.scanBytes.scanBytes))

/-! From pixel to driver output (R380, R381, R392). -/

theorem fetchLine {n base bank l} (h : s.Canon) : (s.fetchLine n base bank l).Canon :=
  foldl h fun _ ht _ => foldl ht.rowPixels fun _ h2 _ => h2.modLed

theorem fetchAll {n base bank} (h : s.Canon) : (s.fetchAll n base bank).Canon := foldl h fun _ ht _ => ht.fetchLine

/-! Derating (R395, R396). -/

theorem derate {n} (h : s.Canon) : (s.derate n).Canon := by
  unfold State.derate
  extract_lets c x on t teff s1 dn bal bits s2 s3
  have hs3 : s3.Canon := setBit (setFld (modLed (.ite h.raise h)))
  cases teff with
  | none => exact hs3
  | some e => exact hs3.setInt

/-! The scan sequencer (R383). -/

theorem seqGo {n r ticks} (h : s.Canon) : (s.seqGo n r ticks).Canon := h.modLed

theorem seqStep {n op f} (h : s.Canon) (hf : ∀ a0 a1 a2 x, x.Canon → (f a0 a1 a2 x).Canon) :
    (s.seqStep n op f).Canon := by
  unfold State.seqStep
  split
  · exact ite (hf _ _ _ _ h.seqGo) h
  · exact h

theorem driveGoe {n on clk run} (h : s.Canon) : (s.driveGoe n on clk run).Canon := h.modLed.emit

theorem execEndOp {n} (h : s.Canon) : Keeps (Machine.execEndOp n s) := seqStep h (fun _ _ _ _ ht => ht.modLed)

theorem execShiftData {n} (h : s.Canon) : Keeps (Machine.execShiftData n s) := by
  unfold Machine.execShiftData
  refine seqStep h (fun _ _ _ _ ht => ?_)
  extract_lets +onlyGivenNames t1
  have ht1 : t1.Canon := by
    unfold t1
    split
    · exact ht.fetchLine
    · exact ht
  exact ht1.modLed.emit

theorem execShiftConst {n} (h : s.Canon) : Keeps (Machine.execShiftConst n s) := seqStep h (fun _ _ _ _ ht => ht.emit)

theorem execShiftGain {n} (h : s.Canon) : Keeps (Machine.execShiftGain n s) := seqStep h (fun _ _ _ _ ht => ht.emit)

theorem execLatchOp {n} (h : s.Canon) : Keeps (Machine.execLatchOp n s) := seqStep h (fun _ _ _ _ ht => ht.emit)

theorem execGoeOp {n} (h : s.Canon) : Keeps (Machine.execGoeOp n s) :=
  seqStep h (fun _ _ _ _ ht => ite ht <| ite ht ht.driveGoe)

theorem execRowOp {n} (h : s.Canon) : Keeps (Machine.execRowOp n s) := by
  unfold Machine.execRowOp
  refine seqStep h (fun _ _ _ _ ht => ?_)
  split
  · exact ht
  · extract_lets +onlyGivenNames l m v t1
    have ht1 : t1.Canon := ite ht.emit ht
    exact ite ht1.emit ht1.modLed.emit

theorem execWaitOp {n} (h : s.Canon) : Keeps (Machine.execWaitOp n s) := seqStep h (fun _ _ _ _ ht => ht)

theorem execLoopOp {n} (h : s.Canon) : Keeps (Machine.execLoopOp n s) := seqStep h (fun _ _ _ _ ht => ht.seqGo)

theorem execEndLoopOp {n} (h : s.Canon) : Keeps (Machine.execEndLoopOp n s) := by
  unfold Machine.execEndLoopOp
  refine seqStep h (fun _ _ _ _ ht => ?_)
  split
  · exact ite ht.seqGo ht.seqGo
  · exact ht

theorem execShiftProbe {n} (h : s.Canon) : Keeps (Machine.execShiftProbe n s) := seqStep h (fun _ _ _ _ ht => ht.emit)

theorem execPulseOp {n} (h : s.Canon) : Keeps (Machine.execPulseOp n s) :=
  seqStep h (fun _ _ _ _ ht => ht.modLed.emit)

/-! Diagnosis (R397 to R400). -/

theorem setChan {n k x} (h : s.Canon) : (s.setChan n k x).Canon := h.modLed

theorem writeMap {n c k} (h : s.Canon) : (s.writeMap n c k).Canon := ite h (setChan (ite h.writeDram h))

theorem judgeChan {n confirm k verified open_ short rec_} (h : s.Canon) :
    (s.judgeChan n confirm k verified open_ short rec_).2.Canon :=
  iteSnd (snd h.setChan) (ite (ite h.setChan.incFld.raise h.setChan.incFld.raiseNoRec) <|
    ite (ite h.setChan.incFld.raise h.setChan.incFld.raiseNoRec) <|
    ite (ite h.setChan.raise h.setChan.raiseNoRec) h.setChan)

theorem judge {n c flags} (h : s.Canon) : (s.judge n c flags).Canon := by
  unfold State.judge
  extract_lets +onlyGivenNames two lane keys r s1
  have hs1 : s1.Canon := foldl (foldlSnd h fun _ ht _ => ht.judgeChan) fun _ ht _ => ht.writeMap
  exact hs1.modLed

theorem execReadOp {n flags} (h : s.Canon) : Keeps (Machine.execReadOp n flags s) := by
  unfold Machine.execReadOp
  split
  · exact ite h (seqStep h (fun _ _ _ _ ht => ite ht.judge ht))
  · exact h

theorem execVerifyAgeTick {n} (h : s.Canon) : Keeps (Machine.execVerifyAgeTick n s) := by
  unfold Machine.execVerifyAgeTick
  extract_lets +onlyGivenNames c
  split
  · exact foldl h.modLed fun _ ht _ => ite (ite ht.setChan.incFld.raise ht.setChan.incFld) ht
  · exact h

theorem chainTest {n c b} (h : s.Canon) : (s.chainTest n c b).Canon := by
  unfold State.chainTest
  extract_lets +onlyGivenNames k lane seen res chips s1 keys s2
  have hs2 : s2.Canon := foldl h.setFld.setBit.setFld fun _ ht _ => ite ht.setChan <| ite ht.setChan ht
  exact ite hs2.modLed.emit hs2.modLed.emit.raise

/-! Registers with an effect (R382, R392, R393, R400). -/

theorem ledCtrl {n v} (h : s.Canon) : (s.ledCtrl n v).Canon := by
  unfold State.ledCtrl
  extract_lets +onlyGivenNames s1 s2
  have hs2 : s2.Canon := ite h.storeReg.modLed h.storeReg
  exact ite hs2.modLed.setBit hs2

theorem execChainTestWrite {q n v} (h : s.Canon) : Keeps (Machine.execChainTestWrite q n v s) :=
  ite (write h (fun _ ht => ht.ledCtrl)) h

theorem execGen {q n v} (h : s.Canon) : Keeps (Machine.execGen q n v s) := ite (write h (fun _ ht => ht.ledCtrl)) h

theorem execGenDone {n} (h : s.Canon) : Keeps (Machine.execGenDone n s) := by
  unfold Machine.execGenDone
  split
  · exact h.modLed.setBit.raise
  · exact h

theorem writeScript {n k v} (h : s.Canon) : (s.writeScript n k v).Canon := ite h.raise h.storeReg

theorem execScriptWrite {q n k v} (h : s.Canon) : Keeps (Machine.execScriptWrite q n k v s) :=
  ite (write h (fun _ ht => ht.writeScript)) h

theorem nextKnot {n} (h : s.Canon) : (s.nextKnot n).Canon := h.setFld

theorem writeKnot {n v} (h : s.Canon) : (s.writeKnot n v).Canon := ite h.raise.nextKnot h.modLed.nextKnot

theorem readKnot {n} (h : s.Canon) : (s.readKnot n).2.Canon := h.nextKnot

theorem execCurveDataWrite {q n v} (h : s.Canon) : Keeps (Machine.execCurveDataWrite q n v s) :=
  ite (write h (fun _ ht => ht.writeKnot)) h

theorem execCurveDataRead {q n} (h : s.Canon) : Keeps (Machine.execCurveDataRead q n s) :=
  ite (serveRead h (fun _ ht => ht.readKnot.emit)) h

/-! Where frames lie (R356, R358). -/

theorem placeFrame {n m c} (h : s.Canon) : (s.placeFrame n m c).Canon := h.modScan

theorem placeMode {n m c} (h : s.Canon) : (s.placeMode n m c).Canon := h.modScan.placeFrame

/-! The latch point (R364, R369 to R371). -/

theorem scanLate {n reason} (h : s.Canon) : (s.scanLate n reason).Canon := h.raise

theorem setKind {n k} (h : s.Canon) : (s.setKind n k).Canon := h.modScan

theorem takePicture {n base bank host} (h : s.Canon) : (s.takePicture n base bank host).Canon :=
  ite h.setKind h.setKind.raise.scanLate

theorem leadCheck {n e} (h : s.Canon) : (s.leadCheck n e).Canon := ite h.incFld.raise h

theorem latchPlan {n} (h : s.Canon) : (s.latchPlan n).Canon := by
  unfold State.latchPlan
  split
  · exact h.setKind
  · split
    · exact h.setKind
    · exact ite h.leadCheck.setKind <| ite h.leadCheck.setKind.incFld.scanLate h.leadCheck.takePicture

theorem latchHost {n} (h : s.Canon) : (s.latchHost n).Canon := by
  unfold State.latchHost
  split
  · extract_lets +onlyGivenNames s1
    split
    · exact h.takePicture.setBit.setFld
    · exact h.takePicture
  · exact h.setKind

theorem masterLatch {n} (h : s.Canon) : (s.masterLatch n).Canon := h.modLed

theorem latchTest {n b} (h : s.Canon) : (s.latchTest n b).Canon := ite (ite h.chainTest h.setBit) h

theorem latchDiag {n} (h : s.Canon) : (s.latchDiag n).Canon := ite h.modLed h.modLed

theorem latchSections {n} (h : s.Canon) : (s.latchSections n).Canon := h.modLed.setBit

theorem latch {n b take} (h : s.Canon) (hf : ∀ x, x.Canon → (take x).Canon) : (s.latch n b take).Canon := by
  unfold State.latch
  extract_lets +onlyGivenNames s1 old s1 c s2
  have hs2 : s2.Canon := setBit (derate (masterLatch (modScan (hf _ h))))
  split
  · exact hs2.setKind
  · extract_lets +onlyGivenNames s3
    have hs3 : s3.Canon := ite hs2.latchHost hs2.latchPlan
    exact hs3.latchDiag.latchSections.latchTest

/-! Frame starts (R356, R366, R373 to R376). -/

theorem runSection {n c x} (h : s.Canon) : (s.runSection n c x).Canon := h.modLed

theorem darken {n} (h : s.Canon) : (s.darken n).Canon := h.driveGoe.modLed.emit

theorem ledFrame {n flip} (h : s.Canon) : (s.ledFrame n flip).Canon := by
  unfold State.ledFrame
  extract_lets +onlyGivenNames x d t1 s1 s2 s3
  have hs3 : s3.Canon := ite h.modLed.setFld.setBit.setFld.raise h.modLed.setFld.setBit.setFld
  exact ite (foldl hs3 fun _ ht _ => ht.setFld) hs3

theorem scheduleNext {n} (h : s.Canon) : (s.scheduleNext n).Canon := h.placeFrame

theorem flip {n host} (h : s.Canon) : (s.flip n host).Canon := by
  unfold State.flip
  extract_lets +onlyGivenNames m c s1 s2 s3
  have hs3 : s3.Canon := h.setFld.setFld.setFld.incFld.setBit.modScan.modLed.runSection
  exact ite hs3.recordOnly hs3

theorem holdFrame {n} (h : s.Canon) : (s.holdFrame n).Canon := by
  unfold State.holdFrame
  extract_lets +onlyGivenNames x m c low lower was s1 s2 s3
  have hs3 : s3.Canon := ite h.setFld.incFld.setBit.modScan.runSection.raise h.setFld.incFld.setBit.modScan.runSection
  exact ite hs3.raise hs3

theorem enterFrame {n state} (h : s.Canon) : (s.enterFrame n state).Canon := h.modScan.incFld.setFld.setBit.setBit

theorem scanOff {n} (h : s.Canon) : (s.scanOff n).Canon := h.darken.modScan.setBit.modLed.setFld.setBit.setBit.emit

theorem blankFrame {n} (h : s.Canon) : (s.blankFrame n).Canon := by
  unfold State.blankFrame
  extract_lets +onlyGivenNames oldCfg old c s1 s2
  have hs2 : s2.Canon := h.enterFrame.incFld.setBit.darken.modScan.modLed.ledFrame
  exact hs2.placeMode

theorem pictureFrame {n late} (h : s.Canon) : (s.pictureFrame n late).Canon := by
  unfold State.pictureFrame
  extract_lets x c left got fetchLate s1 s2 s3 s4 s5 s6 s7 s8
  have hs2 : s2.Canon := .ite h.modLed.modLed.raise h.modLed
  have hs3 : s3.Canon := by
    unfold s3
    cases got with
    | none => exact hs2
    | some q => exact .ite hs2.fetchAll hs2
  have hs5 : s5.Canon := enterFrame (.ite hs3.scanLate hs3)
  have hs6 : s6.Canon := by
    unfold s6
    cases got with
    | none => exact hs5.holdFrame
    | some q => exact hs5.flip
  exact scheduleNext (.ite hs6.ledFrame.raise.modScan hs6.ledFrame)

theorem seamState {n} (h : s.Canon) : (s.seamState n).Canon := ite h.setFld h

theorem execPortFrameStart {n late} (h : s.Canon) : Keeps (Machine.execPortFrameStart n late s) := by
  unfold Machine.execPortFrameStart
  split
  · split
    · exact h.scanOff
    · exact h.blankFrame
    · exact h.pictureFrame.seamState
  · exact h

/-! Line slots (R357, R385, R386, R390, R391, R399). -/

theorem probeSlot {n j c} (h : s.Canon) : (s.probeSlot n j c).Canon := ite h.modLed.incFld h

theorem firstPlane {n line c} (h : s.Canon) : (s.firstPlane n line c).Canon := h.modLed.emit

theorem lineSlot {n} (h : s.Canon) : (s.lineSlot n).Canon :=
  ite h.modScan <|
    ite h.modScan.driveGoe.modLed.probeSlot.modLed.firstPlane h.modScan.driveGoe.modLed.probeSlot.modLed

theorem execLineSlotStart {n} (h : s.Canon) : Keeps (Machine.execLineSlotStart n s) := ite h.lineSlot h

theorem execBmodePlane {n} (h : s.Canon) : Keeps (Machine.execBmodePlane n s) := by
  unfold Machine.execBmodePlane
  extract_lets +onlyGivenNames c
  split
  · exact ite (ite h.modLed.emit h.modLed.emit.emit) h
  · exact h

/-! What other commands do to a port. -/

theorem startPort {n m} (h : s.Canon) : (s.startPort n m).Canon := by
  unfold State.startPort
  extract_lets +onlyGivenNames s1
  split
  · exact h.modScan.modScan
  · exact h.modScan.modScan.modLed.placeMode

theorem scanTaken {t n m} (h : s.Canon) : (s.scanTaken t n m).Canon := by
  unfold State.scanTaken
  extract_lets +onlyGivenNames x fresh s1
  have hs1 : s1.Canon := ite h.incFld.raise h
  extract_lets +onlyGivenNames s2
  have hs2 : s2.Canon := ite hs1.setBit.modScan hs1
  exact ite hs2.scanSync.startPort hs2.scanSync

theorem ledTaken {n} (h : s.Canon) : (s.ledTaken n).Canon := h.modLed.setFld.setFld.scanSync

theorem scanSeam (h : s.Canon) : s.scanSeam.Canon :=
  foldl h fun _ ht _ => ite (ite ht.modScan ht.modScan.seamState) ht

theorem scanAfresh {n m} (h : s.Canon) : (s.scanAfresh n m).Canon := h.modScan.placeFrame.modScan

theorem scanTransitAt {m n} (h : s.Canon) : (s.scanTransitAt m n).Canon := ite h.startPort <| ite h.scanAfresh h

theorem scanTransit {m} (h : s.Canon) : (s.scanTransit m).Canon := foldl h fun _ ht _ => ht.scanTransitAt

theorem scanStep (h : s.Canon) : s.scanStep.Canon := foldl h fun _ ht _ => ite ht.placeFrame.modScan.incFld.incFld ht

theorem scanMoved (h : s.Canon) : s.scanMoved.Canon := foldl h fun _ ht _ => ite ht.modScan ht

/-! From code to reading (R405, R406). -/

theorem reading {h' k} (h : s.Canon) : (s.reading h' k).2.Canon := by
  unfold State.reading
  split
  · exact h
  · exact h.takeFree

theorem limitCheck {c old new} (h : s.Canon) : (s.limitCheck c old new).Canon := by
  unfold State.limitCheck
  extract_lets +onlyGivenNames raw num lo hi arg s1
  have hs1 : s1.Canon := ite h.raise h
  exact ite hs1.raise hs1

theorem publish {c g'} (h : s.Canon) : (s.publish c g').Canon := by
  unfold State.publish
  extract_lets +onlyGivenNames ok was old new s1 s2
  have hs2 : s2.Canon := ite h.setBit.setBit.setInt h.setBit.setBit
  extract_lets +onlyGivenNames s3
  have hs3 : s3.Canon := ite hs2.raise hs2
  exact ite hs3.limitCheck hs3

theorem average {c v valid standin} (h : s.Canon) : (s.average c v valid standin).Canon :=
  ite h.modSense.publish h.modSense

theorem sampleWord {c v standin trig valid at_} (h : s.Canon) :
    (s.sampleWord c v standin trig valid at_).Canon := by
  unfold State.sampleWord
  extract_lets w s1
  split
  · next hd => exact devPush h hd
  · exact h.incFld.raise

theorem stream {c v standin valid} (h : s.Canon) : (s.stream c v standin valid).Canon :=
  ite (ite h.modSense.sampleWord h.modSense) h

/-! Samples of the calibration steps (R414 to R416). -/

theorem modStep {f} (h : s.Canon) : (s.modStep f).Canon := h.modCal

theorem chopped {p k} (h : s.Canon) : (s.chopped p k).Canon := by
  unfold State.chopped
  split
  · split <;> exact h.modStep
  · exact h

theorem boardSample {c i valid} (h : s.Canon) : (s.boardSample c i valid).Canon := by
  unfold State.boardSample
  split
  · exact ite h <| ite (ite h.modStep h) <| ite h.modStep h
  · exact h

theorem regular {c k standin} (h : s.Canon) : (s.regular c k standin).Canon :=
  ite h.reading.average.stream.boardSample h.reading.average.stream

theorem execSenseConversion {ch trig code} (h : s.Canon) : Keeps (Machine.execSenseConversion ch trig code s) := by
  unfold Machine.execSenseConversion
  extract_lets +onlyGivenNames k key n s1
  split
  · exact h
  · split
    · split
      · exact ite (ite h.modSense.reading.with_snsHeld.sampleWord h.modSense.reading.with_snsHeld) h
      · exact h
    · split
      · exact h
      · split
        · exact h.modSense.chopped
        · split
          · split
            · exact h.modSense.regular
            · exact h.modSense.regular
            · exact h.modSense
          · exact ite h.modSense.regular h.modSense

/-! Sequences (R403, R412, R416, R428). -/

theorem standNext (h : s.Canon) : s.standNext.Canon := by
  unfold State.standNext
  extract_lets want set
  have hset {x} {t : State} (ht : t.Canon) : (set x t).Canon := ht.modSense.setFld
  clear_value want set
  split
  · exact hset h
  · split
    · split
      · exact hset h
      · exact .ite h.modStep h
    · exact .ite (hset h).modStep (hset h)
    · exact .ite h (hset h)
    · exact hset h

theorem closeWindow {p a b} (h : s.Canon) : (s.closeWindow p a b).Canon := ite h.modStep h.modStep

theorem gainBoundary {b} (h : s.Canon) : (s.gainBoundary b).Canon := by
  unfold State.gainBoundary
  split
  · split
    · extract_lets +onlyGivenNames bad
      split
      · exact h.modStep
      · exact ite h.closeWindow.modStep h.modStep
    · exact h
  · exact h

theorem dropCharge {b} (h : s.Canon) : (s.dropCharge b).Canon := foldl h fun _ ht _ => ite ht ht.modLed

theorem execSenseSequenceStart (h : s.Canon) : Keeps (Machine.execSenseSequenceStart s) :=
  ite h h.modSense.standNext.gainBoundary.dropCharge.calNext

/-! Die sensors (R404, R486). -/

theorem dtsWatch (h : s.Canon) : s.dtsWatch.Canon := foldl h fun _ ht _ => ht.modSense

theorem execDtsReading {k t'} (h : s.Canon) : Keeps (Machine.execDtsReading k t' s) :=
  ite h.setInt.setBit.dtsWatch.with_groom.tempWatch h

theorem execDtsFault {k} (h : s.Canon) : Keeps (Machine.execDtsFault k s) := by
  unfold Machine.execDtsFault
  split
  · exact ite h.with_dtsOff.raise.tempWatch h
  · exact h

/-! Steps end (R411, R414 to R417). -/

theorem execCalPositionStart (h : s.Canon) : Keeps (Machine.execCalPositionStart s) := ite h.setFld.modCal.calNext h

theorem pathRejects {c reason} (h : s.Canon) : (s.pathRejects c reason).Canon := ite h.modCal.modSense.raise h.modCal

theorem stageStep {p q v} (h : s.Canon) : (s.stageStep p q v).Canon := ite h.stage.with_sched.modCal h.stage

theorem execPathStepEnd (h : s.Canon) : Keeps (Machine.execPathStepEnd s) := by
  unfold Machine.execPathStepEnd
  split
  · split
    · extract_lets +onlyGivenNames r s1 s2
      have hs2 : s2.Canon := ite h.calReport.stageStep h.calReport
      extract_lets +onlyGivenNames s3
      have hs3 : s3.Canon := ite hs2 <| ite hs2.setBit hs2.setBit.raise
      exact hs3.pathRejects.calEnd
    · exact h
  · exact h

theorem execBoardOffsetEnd (h : s.Canon) : Keeps (Machine.execBoardOffsetEnd s) := by
  unfold Machine.execBoardOffsetEnd
  split
  · split
    · exact calEnd (ite h.calReport.stageStep h.calReport)
    · exact h
  · exact h

theorem execBoardGainEnd (h : s.Canon) : Keeps (Machine.execBoardGainEnd s) := by
  unfold Machine.execBoardGainEnd
  split
  · split
    · exact calEnd (ite h.calReport.stageStep h.calReport)
    · exact h
  · exact h

theorem execCalRunLimit (h : s.Canon) : Keeps (Machine.execCalRunLimit s) := by
  unfold Machine.execCalRunLimit
  split
  · exact ite h.calReport.calEnd h
  · exact h

theorem execCalRecompute (h : s.Canon) : Keeps (Machine.execCalRecompute s) := ite h.calRecompute h

theorem execCalStoreDone {fails} (h : s.Canon) : Keeps (Machine.execCalStoreDone fails s) := by
  unfold Machine.execCalStoreDone
  split
  · exact h
  · extract_lets s0 r s1 t1 x1 x2 s2
    have hs0 : s0.Canon := h.setBit.modCal
    have hr : r.2.Canon := nvmStore (.ite hs0.setFld hs0)
    have hs1 : s1.Canon := .ite hr.setFld.incFld.setFld.raise hr.raise
    have hs2 : s2.Canon := .ite hs1 <| .ite (with_sched hs1.setFld.setFld) (with_sched hs1)
    show State.Canon _
    split
    · exact hs2.modCal.storeStart
    · exact hs2

/-! Bring-up and service. -/

theorem modGroom {f} (h : s.Canon) : (s.modGroom f).Canon := h

/-! Reset (R501, R502). -/

theorem toReset (h : s.Canon) : s.toReset.Canon := by
  obtain ⟨hr, -, -, -, hd, hde, hn⟩ := h.maps
  exact setFld (setPair (of_maps (mapWf_filter _ _ _ hr) rfl rfl rfl hd hde hn))

theorem resetPins (h : s.Canon) : s.resetPins.Canon := h.emit.emit.emit

theorem checkRoot (h : s.Canon) : s.checkRoot.Canon := h.setFld

theorem bootStart (h : s.Canon) : s.bootStart.Canon := h.checkRoot.setFld.tamperSync

theorem readFuses {f} (h : s.Canon) : (s.readFuses f).Canon := h.setFld.setPair.setPair.setFld.modCal.modGroom

/-! Recovery mode (R481). -/

theorem setNow {f v} (h : s.Canon) : (s.setNow f v).Canon := h.setFld.setAct

theorem portsOff (h : s.Canon) : s.portsOff.Canon := by
  unfold State.portsOff
  extract_lets +onlyGivenNames s1
  have hs1 : s1.Canon := foldl h fun _ ht _ => ht.setNow.setNow.setFld
  exact foldl hs1.with_dmxs_scans fun _ ht _ => ht.netCtrl.setBit.clCtrl

theorem enterRecovery (h : s.Canon) : s.enterRecovery.Canon :=
  foldl h.modPlan.portsOff.setBit.setBit.emit fun _ ht _ => ite ht ht.setFld

theorem bootFail {phase cause} (h : s.Canon) : (s.bootFail phase cause).Canon := h.setBit.setFld.setFld.enterRecovery

theorem writeRecovery {q v} (h : s.Canon) : (s.writeRecovery q v).Canon :=
  ite h <| ite h.enterRecovery <| ite h.toReset.resetPins.setFld.bootStart h

theorem loadRepair (h : s.Canon) : s.loadRepair.Canon := by
  unfold State.loadRepair
  split
  · exact h
  · extract_lets +onlyGivenNames word s1 s2
    have hs2 : s2.Canon := foldl (foldl h fun _ ht _ => ht.setReg) fun _ ht _ => ht.setFld.setReg
    exact hs2.modSense.modGroom

theorem loadCounters (h : s.Canon) : s.loadCounters.Canon := by
  unfold State.loadCounters
  split
  · exact h
  · exact h.setFld.setFld

/-! Boot phases (R476 to R479). -/

theorem assignRoles {pass} (h : s.Canon) : (s.assignRoles pass).Canon := by
  unfold State.assignRoles
  extract_lets +onlyGivenNames good bad put s1
  have hs1 : s1.Canon := foldl h fun _ ht _ => ite ht.setFld.setFld ht.setFld.setFld.countRetire
  extract_lets +onlyGivenNames s2
  have hs2 : s2.Canon := foldl hs1 fun _ ht _ => ht.setFld.setFld.setFld
  extract_lets +onlyGivenNames res s3 s4
  have hs4 : s4.Canon := setFld (modPlan (foldl hs2 fun _ ht _ => ht.setFld.setFld))
  refine foldl hs4 fun _ ht _ => ?_
  split
  · exact ht.setFld
  · exact ht

theorem bootPaths {l} (h : s.Canon) : (s.bootPaths l).Canon := by
  unfold State.bootPaths
  refine foldl h fun _ ht _ => ?_
  extract_lets +onlyGivenNames cfg win lim reason t1 t2
  have ht2 : t2.Canon := ite ht.calReport.modCal ht.calReport
  extract_lets +onlyGivenNames t3
  have ht3 : t3.Canon := ite ht2 <| ite ht2.setBit ht2.setBit.raise
  exact ht3.pathRejects

theorem countSpares {b} (h : s.Canon) : (s.countSpares b).Canon := h.setFld

theorem bootBanks {rows bad} (h : s.Canon) : (s.bootBanks rows bad).Canon := by
  unfold State.bootBanks
  extract_lets s1 s2
  have hs1 : s1.Canon := .foldl h fun _ ht _ => countSpares (.foldl ht fun _ hu _ => hu.setBit)
  exact zeroBanks (.foldl hs1 fun _ ht _ => .ite ht.spareStart.spareSwitch ht)

theorem loadCalSlot {b x} (h : s.Canon) : (s.loadCalSlot b x).Canon := by
  unfold State.loadCalSlot
  extract_lets +onlyGivenNames s1
  have hs1 : s1.Canon := foldl h fun _ ht _ => foldl ht fun _ h2 _ => ite h2.putSet.putSet.putSet h2.putSet
  exact hs1.modCal.setFld.setFld

theorem loadCalFuses (h : s.Canon) : s.loadCalFuses.Canon := by
  unfold State.loadCalFuses
  extract_lets +onlyGivenNames s1
  have hs1 : s1.Canon := foldl h fun _ ht _ => foldl ht fun _ h2 _ => ite h2.putSet.putSet.putSet h2.putSet
  exact hs1.setFld.raise

theorem applyBootPaths (h : s.Canon) : s.applyBootPaths.Canon := by
  unfold State.applyBootPaths
  extract_lets +onlyGivenNames t1 s1
  have hs1 : s1.Canon := foldl h fun _ ht _ => foldl ht fun _ h2 _ => h2.putSet.modCal
  exact hs1.modCal.calRecompute

theorem bootNvm (h : s.Canon) : s.bootNvm.Canon := by
  unfold State.bootNvm
  extract_lets +onlyGivenNames s1 s1
  have hs1 : s1.Canon := by
    unfold s1
    split
    · exact h.loadCounters.loadCalSlot
    · exact h.loadCounters.loadCalFuses
  extract_lets +onlyGivenNames s2
  have hs2 : s2.Canon := foldl hs1.applyBootPaths fun _ ht _ => ht.blobSync
  split
  · exact hs2.setFld
  · exact hs2

theorem dramSpareSync (h : s.Canon) : s.dramSpareSync.Canon := h.setFld.setFld

theorem bootReady (h : s.Canon) : s.bootReady.Canon := emit (foldl h.setFld.setBit.setFld fun _ ht _ => ht.bankMode)

theorem nextPhase (h : s.Canon) : s.nextPhase.Canon := h.setFld

theorem bootPll {pmbus vout} (h : s.Canon) : (s.bootPll pmbus vout).Canon :=
  ite h.loadRepair.setFld.setReg.pmbusSend.modAvs.pmbusSend <|
    ite h.loadRepair.setFld.setReg.pmbusSend.pmbusSend.pmbusSend.pmbusSend.modAvs.raise
    h.loadRepair.setFld.setReg.pmbusSend.modAvs

theorem phaseEnd {r} (h : s.Canon) : (s.phaseEnd r).Canon := by
  cases r with
  | straps => exact .ite (nextPhase (.ite h.measExtend.deriveId h.measExtend)) h
  | pll => exact .ite (.ite h.bootFail (.ite h.bootPll.setFld.enterRecovery h.bootPll.nextPhase)) h
  | speed => exact .ite h.assignRoles.speedInterval.nextPhase h
  | sense => exact .ite h.bootPaths.nextPhase h
  | banks => exact .ite h.bootBanks.nextPhase h
  | dramTrain =>
    exact .ite (.ite (nextPhase (dramSpareSync (modGroom h.setFld.setFld.setFld)))
      (bootFail (dramSpareSync (modGroom h.setFld.setFld.setFld)))) h
  | dramEcc => exact .ite (.ite h.zeroDram.nextPhase h.bootFail) h
  | nvm => exact .ite h.bootNvm.nextPhase h
  | microcode fail image =>
    cases fail with
    | none => exact .ite h.measExtend.nextPhase h
    | some c => exact .ite h.bootFail h
  | links => exact .ite h.nextPhase h
  | check => exact .ite h.bootReady h

theorem execResetRelease {straps recoveryN f} (h : s.Canon) : Keeps (Machine.execResetRelease straps recoveryN f s) :=
  ite h.setFld.modGroom.readFuses.with_mainPower.bootStart h

theorem execResetAssert (h : s.Canon) : Keeps (Machine.execResetAssert s) := h.toReset.resetPins

theorem tearNvm (h : s.Canon) : s.tearNvm.Canon := by
  unfold State.tearNvm
  extract_lets +onlyGivenNames tear s1
  have hs1 : s1.Canon := by
    unfold s1
    split
    · exact h.takeFree.putNvm
    · exact h.takeFree.putNvm
    · exact h
  split
  · exact hs1.takeFree.putNvm
  · exact hs1

theorem execPowerFail (h : s.Canon) : Keeps (Machine.execPowerFail s) := h.tearNvm.toReset.resetPins

theorem execVbatChangeover {supply} (h : s.Canon) : Keeps (Machine.execVbatChangeover supply s) := by
  unfold Machine.execVbatChangeover
  split
  · exact h
  · exact h.with_mainPower.modKey
  · exact h.with_key_mainPower.setReg.setReg.setReg.checkRoot.publishId

theorem execBootPhaseEnd {r} (h : s.Canon) : Keeps (Machine.execBootPhaseEnd r s) := ite h.phaseEnd h

theorem execRecoveryEnter {q v} (h : s.Canon) : Keeps (Machine.execRecoveryEnter q v s) :=
  write h (fun _ ht => ht.writeRecovery)

theorem execRecoveryExit {q v} (h : s.Canon) : Keeps (Machine.execRecoveryExit q v s) :=
  write h (fun _ ht => ht.writeRecovery)

theorem config {r} (h : s.Canon) : (s.config r).Canon := by
  unfold State.config
  split
  · exact h
  · split
    · exact h.hold269
    · split
      · split
        · exact h.emit
        · exact h.takeFree.emit
      · exact h
      · exact foldl h.with_host fun _ ht _ => ite ht.setPba.sendMsix ht.tryVector

theorem execConfigurationRequest {r} (h : s.Canon) : Keeps (Machine.execConfigurationRequest r s) := h.config

/-! Engine tests (R487). -/

theorem returnEngine {e} (h : s.Canon) : (s.returnEngine e).Canon :=
  ite h.modGroom.setRole.modPlan.raise h.modGroom.setRole.modPlan

theorem execEngTest {e} (h : s.Canon) : Keeps (Machine.execEngTest e s) :=
  ite (ite h.setRole.with_engTest <| ite h.with_engTest h) h

theorem execEngTestEnd {e pass} (h : s.Canon) : Keeps (Machine.execEngTestEnd e pass s) :=
  ite (ite (ite h.with_engTest.setRole h.with_engTest.raise.retire.shadowSync) <|
    ite (ite h.with_engTest.modGroom.returnEngine h.with_engTest.modGroom) h.with_engTest.modGroom.raise) h

theorem execReturnedEngineLoaded {e} (h : s.Canon) : Keeps (Machine.execReturnedEngineLoaded e s) := by
  unfold Machine.execReturnedEngineLoaded
  split
  · split
    · split
      · split
        · exact h.setFld.modEng.modGroom
        · exact h
      · exact h
    · exact h.modPlan.setRole.loadReserve.shadowSync.raise
    · exact h
  · exact h

theorem execSegTest {e seg pass} (h : s.Canon) : Keeps (Machine.execSegTest e seg pass s) :=
  ite (ite h.setBit h.setBit.raise) h

/-! DRAM rows (R489). -/

theorem dramRowFails {ch row} (h : s.Canon) : (s.dramRowFails ch row).Canon := ite h <| ite h.raise h.modGroom

theorem execDramScrub {addr ch row newPass failsTest} (h : s.Canon) :
    Keeps (Machine.execDramScrub addr ch row newPass failsTest s) := by
  unfold Machine.execDramScrub
  split
  · exact h
  · extract_lets +onlyGivenNames s0
    have hs0 : s0.Canon := ite h.modGroom h
    extract_lets +onlyGivenNames err s1 old n s2
    have hs2 : s2.Canon := ite hs0.readDramWord.putDramErr.modGroom hs0.readDramWord
    exact ite hs2.dramRowFails hs2

theorem execDramRowSpared {ch row} (h : s.Canon) : Keeps (Machine.execDramRowSpared ch row s) :=
  ite (ite h.modGroom.dramSpareSync.raise.raise h.modGroom.dramSpareSync.raise) h

/-! NVM writes, hours, wear (R490 to R493). -/

theorem execNvmWriteDone {fails} (h : s.Canon) : Keeps (Machine.execNvmWriteDone fails s) := by
  unfold Machine.execNvmWriteDone
  split
  · split
    · exact h
    · exact h.nvmStore
  · exact h.with_nvmPend.nvmStore

theorem execHourTick (h : s.Canon) : Keeps (Machine.execHourTick s) := by
  unfold Machine.execHourTick
  split
  · exact h
  · extract_lets +onlyGivenNames s1 s2
    have hs2 : s2.Canon := ite h.incFld.incFld h.incFld
    exact hs2.nvmLater.modGroom

theorem refit (h : s.Canon) : s.refit.Canon := by
  unfold State.refit
  exact .ite h <| .ite h.takeFree.setFld.setBit.setBit.raise h.takeFree.setFld.setBit

theorem execWearRecord {fails} (h : s.Canon) : Keeps (Machine.execWearRecord fails s) := by
  unfold Machine.execWearRecord
  extract_lets +onlyGivenNames h1
  split
  · exact h.takeFree.setFld.nvmStore.modGroom.refit
  · exact h

/-! Self-refresh (R495). -/

theorem execSelfRefreshEnter (h : s.Canon) : Keeps (Machine.execSelfRefreshEnter s) := ite h.setBit.modGroom h

theorem execSelfRefreshExit (h : s.Canon) : Keeps (Machine.execSelfRefreshExit s) := by
  unfold Machine.execSelfRefreshExit
  split
  · exact h
  · exact h.setBit.setFld.modGroom

end State.Canon

end Sys2Proof.Machine
end

section
/-! PROOF. Canonical form (O5) kept by commits, triggers, register effects and host accesses, and the transit. -/

namespace Sys2Proof.Machine

open Sys2Proof

namespace State.Canon

variable {s : State}

/-! Changes of a commit unit. -/

theorem setCommit {p st reason} (h : s.Canon) : (s.setCommit p st reason).Canon := h.setFld.setFld

theorem refuseCommit {p mode reason} (h : s.Canon) : (s.refuseCommit p mode reason).Canon := h.setCommit.setUnit.raise

/-! Arming (R70, R71, R73). -/

theorem nameRate {p n} (h : s.Canon) : (s.nameRate p n).Canon := ite h.floodRate h

theorem armUnit {p m target skip} (h : s.Canon) : (s.armUnit p m target skip).Canon := h.setCommit.setUnit

theorem armTransit {p cutTogether} (h : s.Canon) : (s.armTransit p cutTogether).Canon := by
  unfold State.armTransit
  split
  · exact h.armUnit
  · exact h.armUnit.nameRate

theorem armTransitN {p cutTogether} (h : s.Canon) : (s.armTransitN p cutTogether).Canon :=
  ite h.refuseCommit <| ite h.refuseCommit h.armUnit.nameRate

theorem armTime {p} (h : s.Canon) : (s.armTime p).Canon := ite h.refuseCommit <| ite h.refuseCommit h.armUnit

/-! The seam of a rate change (R38 to R40, R74, R193). -/

theorem rateMismatch (h : s.Canon) : s.rateMismatch.Canon := by
  unfold State.rateMismatch
  split
  · exact ite h h.modPlan.setFld.raise
  · exact h

theorem rateResume (h : s.Canon) : s.rateResume.Canon := by
  unfold State.rateResume
  split
  · exact ite h.modPlan.setFld h
  · exact h

theorem refuseSeam {lost} (h : s.Canon) : (s.refuseSeam lost).Canon := foldl h fun _ ht _ => ite ht.refuseCommit ht

theorem openSeam {m inst rate} (h : s.Canon) : (s.openSeam m inst rate).Canon :=
  h.modTime.setBit.modPlan.egressSeam.scanSeam

theorem rateSeam {old n} (h : s.Canon) : (s.rateSeam old n).Canon := by
  unfold State.rateSeam
  extract_lets +onlyGivenNames new
  split
  · exact h
  · extract_lets +onlyGivenNames m inst s1 s2
    have hs2 : s2.Canon := foldl h.openSeam.rejudgeEach.refuseSeam fun _ ht _ => ht.egressSync
    exact hs2.rateMismatch

/-! Taking (R72). -/

theorem shadowIn {p} (h : s.Canon) : (s.shadowIn p).Canon :=
  with_inForce (mapWf_foldl_set _ _ _ (mapWf_filter _ _ _ h.maps.2.1)) h

theorem commitEffect {t p m} (h : s.Canon) : (s.commitEffect t p m).Canon :=
  ite h.rateSeam <| ite (ite h.planSwitch.scanMoved h) <| ite (ite h.calApply.setFld.setAct h) <| ite h.handover <|
    ite h.fifoSync <| ite h.flowTaken <| ite h.ingestTaken <| ite h.egressSync <| ite h.scanTaken <|
    ite h.ledTaken <| ite h.clTaken h

theorem commitIn {p frame m} (h : s.Canon) : (s.commitIn p frame m).Canon :=
  h.shadowIn.setCommit.setFld.setUnit.setBit.raise.commitEffect

theorem takeWith {p frame m reason} (h : s.Canon) : (s.takeWith p frame m reason).Canon :=
  ite h.commitIn h.refuseCommit

theorem takeCommit {p} (h : s.Canon) : (s.takeCommit p).Canon := ite h.takeWith h

theorem takeAtLatch {n} (h : s.Canon) : (s.takeAtLatch n).Canon := by
  unfold State.takeAtLatch
  exact setUnit (setUnit (.ite h.takeWith.takeWith <| .ite h.takeWith <| .ite h.takeWith h))

theorem commitsDue {n} (h : s.Canon) : (s.commitsDue n).Canon := foldl h fun _ ht _ => ht.setUnit

/-! Writes of COMMIT (R70, R73). -/

theorem cancelCommit {p takeTogether} (h : s.Canon) : (s.cancelCommit p takeTogether).Canon :=
  ite (ite h.takeCommit h.setCommit.setUnit) h

theorem armCommit {p m cutTogether} (h : s.Canon) : (s.armCommit p m cutTogether).Canon :=
  ite h.raise <| ite h.refuseCommit <| ite (ite h.armUnit.takeCommit h.armUnit) <| ite h.armTransit <|
    ite h.armTime h.armTransitN

theorem commitWrite {p v cutTogether takeTogether} (h : s.Canon) :
    (s.commitWrite p v cutTogether takeTogether).Canon := by
  unfold State.commitWrite
  extract_lets +onlyGivenNames m s1 s2
  have hs2 : s2.Canon := ite h.setFld.cancelCommit <| ite h.setFld.takeCommit h.setFld
  exact ite hs2.armCommit hs2

theorem execCommitArm {q page v cutoffTogether takeTogether} (h : s.Canon) :
    Keeps (Machine.execCommitArm q page v cutoffTogether takeTogether s) :=
  write h (fun _ ht => ht.commitWrite)

theorem execCommitCancel {q page v takeTogether} (h : s.Canon) :
    Keeps (Machine.execCommitCancel q page v takeTogether s) :=
  write h (fun _ ht => ht.commitWrite)

theorem execCommitCutoff {page} (h : s.Canon) : Keeps (Machine.execCommitCutoff page s) := by
  unfold Machine.execCommitCutoff
  split
  · exact ite h.setUnit h
  · exact h

theorem execCommitTake {page} (h : s.Canon) : Keeps (Machine.execCommitTake page s) := h.takeCommit

/-! Triggers (Table 03-6). -/

theorem setTrgUnit {n u'} (h : s.Canon) : (s.setTrgUnit n u').Canon := h

theorem setArm {n b} (h : s.Canon) : (s.setArm n b).Canon := h.setBit.setBit

/-! Capture (R119, R120). -/

theorem captureEdge {src rising stamp cap} (h : s.Canon) : (s.captureEdge src rising stamp cap).Canon :=
  ite h.incFld.raise h.with_trig.setFld.pushRec

theorem pinEdge {pin rising stamp} (h : s.Canon) : (s.pinEdge pin rising stamp).Canon :=
  ite h.setBit.captureEdge h.setBit

theorem drivePin {pin b} (h : s.Canon) : (s.drivePin pin b).Canon := by
  unfold State.drivePin
  extract_lets +onlyGivenNames s1 dir ball
  split
  · extract_lets +onlyGivenNames s2
    have hs2 : s2.Canon := ite (ite h.setBit <| ite h.setBit h.setBit.pinEdge) h.setBit
    exact hs2.emit
  · exact h.setBit

theorem actPin {pin l h'} (h : s.Canon) : (s.actPin pin l h').Canon := h.with_trig.drivePin

theorem pinWritten {pin} (h : s.Canon) : (s.pinWritten pin).Canon := h.drivePin

theorem fsyncPulse (h : s.Canon) : s.fsyncPulse.Canon := h.modTime.emit

theorem snsStart {ch} (h : s.Canon) : (s.snsStart ch).Canon := by
  unfold State.snsStart
  split
  · exact h.incFld.raise
  · exact h

theorem trgAct {n late lateNs} (h : s.Canon) : (s.trgAct n late lateNs).Canon := by
  unfold State.trgAct
  extract_lets act pin arg level s0 x0 s1 s2
  have hs1 : s1.Canon := .ite h.actPin <| .ite h.actPin <| .ite h.actPin <| .ite (with_trig h.actPin) <|
    .ite h.snsStart <| .ite h.fsyncPulse h
  exact .ite (recordOnly (with_marks hs1)) (with_marks hs1)

theorem trgLate {n lateNs} (h : s.Canon) : (s.trgLate n lateNs).Canon := h.setBit.setFld.raise.trgAct

theorem trgSkip {n} (h : s.Canon) : (s.trgSkip n).Canon := h.setBit.raise

theorem trgPast {n lateNs} (h : s.Canon) : (s.trgPast n lateNs).Canon := by
  unfold State.trgPast
  extract_lets +onlyGivenNames s1
  have hs1 : s1.Canon := ite h.trgSkip h.trgLate
  exact ite hs1.incFld.setTrgUnit hs1.setArm

theorem armTrigger {n v} (h : s.Canon) : (s.armTrigger n v).Canon :=
  ite h.storeReg.setArm.raise <| ite h.storeReg.setArm.setTrgUnit <|
    ite h.storeReg.setArm.trgPast h.storeReg.setArm.setTrgUnit

theorem writeTrgCfg {n v} (h : s.Canon) : (s.writeTrgCfg n v).Canon :=
  ite (ite h.raise h.storeReg.setArm) <| ite h.armTrigger h.storeReg

theorem writeTrgReg {n off v} (h : s.Canon) : (s.writeTrgReg n off v).Canon := ite h.raise h.storeReg

theorem trgOne {n} (h : s.Canon) : (s.trgOne n).Canon := by
  unfold State.trgOne
  split
  · exact h
  · exact ite h.trgAct.setArm <| ite h.trgAct.setTrgUnit h.trgAct.setTrgUnit

theorem pulseEnds {n} (h : s.Canon) : (s.pulseEnds n).Canon := foldl h.with_trig fun _ ht _ => ht.actPin

theorem trgBefore {n} (h : s.Canon) : (s.trgBefore n).Canon := foldl h fun _ ht _ => ht.pulseEnds.trgOne

theorem trgFire {n act} (h : s.Canon) : (s.trgFire n act).Canon := ite h.trgBefore.pulseEnds.trgOne h

theorem execTriggerArm {q n v} (h : s.Canon) : Keeps (Machine.execTriggerArm q n v s) :=
  write h (fun _ ht => ht.writeTrgCfg)

theorem execTriggerDisarm {q n v actionTogether} (h : s.Canon) :
    Keeps (Machine.execTriggerDisarm q n v actionTogether s) := by
  unfold Machine.execTriggerDisarm
  extract_lets +onlyGivenNames s1
  have hs1 : s1.Canon := ite h.trgFire h
  exact write hs1 (fun _ ht => ht.writeTrgCfg)

theorem execTrgCue {n} (h : s.Canon) : Keeps (Machine.execTrgCue n s) := h.trgFire

theorem execTrgTioSet {n} (h : s.Canon) : Keeps (Machine.execTrgTioSet n s) := h.trgFire

theorem execTrgTioClr {n} (h : s.Canon) : Keeps (Machine.execTrgTioClr n s) := h.trgFire

theorem execTrgTioToggle {n} (h : s.Canon) : Keeps (Machine.execTrgTioToggle n s) := h.trgFire

theorem execTrgTioPulse {n} (h : s.Canon) : Keeps (Machine.execTrgTioPulse n s) := h.trgFire

theorem execTrgTioSample {n} (h : s.Canon) : Keeps (Machine.execTrgTioSample n s) := h.trgFire

theorem execTrgSnsStart {n} (h : s.Canon) : Keeps (Machine.execTrgSnsStart n s) := h.trgFire

theorem execTrgFsyncPulse {n} (h : s.Canon) : Keeps (Machine.execTrgFsyncPulse n s) := h.trgFire

theorem execTioPulseEnd {pin} (h : s.Canon) : Keeps (Machine.execTioPulseEnd pin s) := by
  unfold Machine.execTioPulseEnd
  split
  · exact h.trgBefore.pulseEnds
  · exact h

/-! Edges (R119, R120). -/

theorem execTioEdge {pin rising stamp} (h : s.Canon) : Keeps (Machine.execTioEdge pin rising stamp s) :=
  ite h.pinEdge h

theorem fsyncSample {stamp} (h : s.Canon) : (s.fsyncSample stamp).Canon := by
  unfold State.fsyncSample
  split
  · exact h.modTime.offsetSample
  · exact h

theorem execFsyncEdge {rising stamp} (h : s.Canon) : Keeps (Machine.execFsyncEdge rising stamp s) := by
  unfold Machine.execFsyncEdge
  exact Keeps.ite (State.Canon.ite h.captureEdge.fsyncSample h.captureEdge) h

/-! Linear timecode (R121 to R123). -/

theorem execLtcOutFrame (h : s.Canon) : Keeps (Machine.execLtcOutFrame s) := by
  unfold Machine.execLtcOutFrame
  extract_lets +onlyGivenNames idx
  split
  · exact h.modTime.emit
  · exact h

theorem execLtcInFrame {f} (h : s.Canon) : Keeps (Machine.execLtcInFrame f s) := by
  unfold Machine.execLtcInFrame
  split
  · extract_lets +onlyGivenNames run s1 s2
    have hs2 : s2.Canon := h.modTime.setFld.setFld.setFld.setFld.setBit.setFld
    extract_lets +onlyGivenNames s3 gain s4
    have hs4 : s4.Canon := ite hs2.setFld.setBit.raise hs2.setFld
    exact ite hs4.recordOnly hs4
  · exact h

theorem execLtcInLost (h : s.Canon) : Keeps (Machine.execLtcInLost s) := by
  unfold Machine.execLtcInLost
  extract_lets +onlyGivenNames r
  split
  · exact h.setBit.modTime.raise
  · exact h

/-! Effects of writes, page by page. -/

theorem limit {f lo hi} (h : s.Canon) : (s.limit f lo hi).Canon := h.setFld

theorem clearEvents {p v together} (h : s.Canon) : (s.clearEvents p v together).Canon := h.setReg.refresh

theorem forceEvents {p v} (h : s.Canon) : (s.forceEvents p v).Canon := foldl h fun _ ht _ => ht.takeFree.occur

theorem armVectors {hi v} (h : s.Canon) : (s.armVectors hi v).Canon := foldl h.storeReg fun _ ht _ => ht.tryVector

theorem releaseVector {n} (h : s.Canon) : (s.releaseVector n).Canon := ite h.setPba.sendMsix h

theorem writeHost {off v} (h : s.Canon) : (s.writeHost off v).Canon :=
  ite h.armVectors <| ite h.armVectors <| ite h.storeReg.refresh <| ite h.storeReg.releaseVector h.storeReg

theorem writeTime {q off v} (h : s.Canon) : (s.writeTime q off v).Canon :=
  ite h.writeTimeCtrl <| ite h.writeFreqAdj <| ite h.writeSetSecHi <| ite h.writeSwOffset <| ite h.storeReg.limit <|
    ite h.storeReg.limit.freqLimit <| ite h.storeReg.limit.setInt.limit <|
    ite (ite h.storeReg.ltcSkip h.storeReg) h.storeReg

theorem writeTrig {off v} (h : s.Canon) : (s.writeTrig off v).Canon :=
  ite (ite h.writeTrgCfg h.writeTrgReg) <| ite h.storeReg.pinWritten h.storeReg

theorem writeSched {q off v} (h : s.Canon) : (s.writeSched q off v).Canon :=
  ite h.taskCmd <| ite h.writeCtxCfg h.storeReg

theorem writeKey {off v} (h : s.Canon) : (s.writeKey off v).Canon :=
  ite h.writeTamperCfg <| ite h.writeZeroize <| ite h.writeSlotCmd <| ite (ite h.importGo h) <|
    ite h.setReg h.storeReg

theorem writeSpeed {off v} (h : s.Canon) : (s.writeSpeed off v).Canon :=
  ite h.storeReg.limit.speedSync <| ite h.storeReg.limit <| ite (ite h.storeReg h.storeReg.modAvs) <|
    ite h.storeReg.limit.limit h.storeReg

theorem writeFifo {q n off v} (h : s.Canon) : (s.writeFifo q n off v).Canon :=
  ite h.fifoCtrl <| ite (ite h.pushLow h.pushWin) <| ite h.storeReg.limit <| ite h.storeReg.limit h.storeReg

theorem writeNet {p off v} (h : s.Canon) : (s.writeNet p off v).Canon :=
  ite h.netCtrl <| ite h.storeReg.limit <| ite h.storeReg.fillTx <| ite h.storeReg.limit <|
    ite h.storeReg.limit h.storeReg

theorem writeLed {n off v} (h : s.Canon) : (s.writeLed n off v).Canon :=
  ite h.ledCtrl <| ite h.writeKnot <| ite h.writeScript h.storeReg

theorem writePlain {q p off v} (h : s.Canon) : (s.writePlain q p off v).Canon :=
  ite h.setHeld <| ite (ite h.storePair.modScan h.storePair) h.storeReg

theorem takeFirst {p off} (h : s.Canon) : (s.takeFirst p off).Canon := by
  unfold State.takeFirst
  split
  · exact h
  · extract_lets +onlyGivenNames s1
    have hs1 : s1.Canon := by
      unfold s1
      split
      · exact ite h.takeAtLatch h
      · exact h
    exact ite hs1.takeCommit hs1

theorem regEffect {q p off v} (h : s.Canon) : (s.regEffect q p off v).Canon :=
  ite h.takeFirst.clearEvents <| ite h.takeFirst.storeReg.refresh <| ite h.takeFirst.forceEvents <|
    ite h.takeFirst.commitWrite <| ite h.takeFirst.writePlain <| ite h.takeFirst.writeRecovery <|
    ite h.takeFirst.writeHost <| ite h.takeFirst.writeTime <| ite h.takeFirst.writeTrig <| ite h.takeFirst.loadCmd <|
    ite h.takeFirst.writeSched <| ite h.takeFirst.writeKey <| ite h.takeFirst.writeSpeed <|
    ite h.takeFirst.writeFifo <| ite h.takeFirst.writeNet <| ite (ite h.takeFirst h.takeFirst.storeReg) <|
    ite h.takeFirst.writeRxCfg <| ite h.takeFirst.qmsgPush <| ite h.takeFirst.writeLed <|
    ite h.takeFirst.storeReg.clCtrl h.takeFirst.writePlain

theorem ownerTake {q p v} (h : s.Canon) : (s.ownerTake q p v).Canon := ite h.refuseWrite h.countWrite.setFld

theorem ownerWrite {q p v} (h : s.Canon) : (s.ownerWrite q p v).Canon := passGate h (fun _ ht => ht.ownerTake)

theorem regTake {q p off v} (h : s.Canon) : (s.regTake q p off v).Canon :=
  ite h.ownerTake (accept h (fun _ ht => ht.regEffect))

theorem regWrite {q p off v} (h : s.Canon) : (s.regWrite q p off v).Canon := passGate h (fun _ ht => ht.regTake)

/-! Reads. -/

theorem regRead {q p off} (h : s.Canon) : (s.regRead q p off).2.2.Canon :=
  iteThd h.readNowNs (iteThd (thd h.setSnap) (iteThd h.readImem (iteThd (thd h) (iteThd h.readStallMax (iteThd
    h.fifoRead (iteThd h.fifoRead (iteThd h.tsqRead (iteThd h.readKnot (thd h)))))))))

theorem gateRead {q p off} (h : s.Canon) : (s.gateRead q p off).2.2.Canon := by
  unfold State.gateRead
  split
  · exact h.regRead
  · exact h
  · exact h
  · exact h
  · exact h

theorem readSeq {q at_ i n} (h : s.Canon) : (s.readSeq q at_ i n).2.2.Canon := by
  induction n generalizing s i with
  | zero => exact h
  | succ k ih => exact ih h.gateRead

/-! BAR0 and BAR2 (R58, R59). -/

theorem bar0 {r} (h : s.Canon) : (s.bar0 r).Canon := by
  unfold State.bar0
  extract_lets +onlyGivenNames n
  split
  · exact h
  · exact h
  · exact h.hold269
  · exact ite h h.emit
  · exact ite (ite h.badAccess (foldl h fun _ ht _ => ht.regWrite)) <| ite h.badAccess.emit h.readSeq.emit

theorem bar2 {r} (h : s.Canon) : (s.bar2 r).Canon := by
  unfold State.bar2
  extract_lets +onlyGivenNames n a inside s1
  have hs1 : s1.Canon := ite h.badAccess h
  exact ite (foldl hs1 fun _ ht _ => ht.writeDramWord) hs1.readDram.emit

/-! The WRITE command of FIFO0 (R283). -/

theorem cmdWrites {seq i ws} (h : s.Canon) : (s.cmdWrites seq i ws).2.Canon := by
  induction ws generalizing s i with
  | nil => exact h
  | cons w l ih => exact ih (.ite h.raise h.regTake)

/-! MSPI (R480). -/

theorem mspiPut {p off v} (h : s.Canon) : (s.mspiPut p off v).Canon := h.modGroom.regWrite

theorem execBar0Request {r} (h : s.Canon) : Keeps (Machine.execBar0Request r s) := h.bar0

theorem execBar2Access {r} (h : s.Canon) : Keeps (Machine.execBar2Access r s) := serveMem h (fun _ ht => ht.bar2)

theorem pageAcc {q p a} (h : s.Canon) : (s.pageAcc q p a).Canon := by
  unfold State.pageAcc
  split
  · exact serveRead h (fun _ ht => ht.regRead.answer)
  · exact h.regWrite

theorem tieTurn {p} (h : s.Canon) : (s.tieTurn p).Canon := h

theorem execRegisterWrite {q page off v tie} (h : s.Canon) :
    Keeps (Machine.execRegisterWrite q page off v tie s) := by
  unfold Machine.execRegisterWrite
  split
  · exact h.regWrite
  · exact ite h.regWrite.pageAcc <| ite h.tieTurn.regWrite.pageAcc h.tieTurn.pageAcc.regWrite

theorem execSnapshotRead {q page off} (h : s.Canon) : Keeps (Machine.execSnapshotRead q page off s) :=
  serveRead h (fun _ ht => ht.regRead.answer)

theorem execPairHiWrite {q page off v} (h : s.Canon) : Keeps (Machine.execPairHiWrite q page off v s) := h.regWrite

theorem execOwnerWrite {q page v} (h : s.Canon) : Keeps (Machine.execOwnerWrite q page v s) := h.ownerWrite

theorem execEventClearWrite {q page v together} (h : s.Canon) :
    Keeps (Machine.execEventClearWrite q page v together s) :=
  write h (fun _ ht => ht.clearEvents)

theorem execEventForceWrite {q page v} (h : s.Canon) : Keeps (Machine.execEventForceWrite q page v s) :=
  write h (fun _ ht => ht.forceEvents)

theorem execVecArmWrite {q hi v} (h : s.Canon) : Keeps (Machine.execVecArmWrite q hi v s) :=
  write h (fun _ ht => ht.armVectors)

theorem execMsixUnmask {vector} (h : s.Canon) : Keeps (Machine.execMsixUnmask vector s) :=
  ite (write h (fun _ ht => ht.writeHost)) h

theorem execCmdWrite (h : s.Canon) : Keeps (Machine.execCmdWrite s) := by
  unfold Machine.execCmdWrite
  split
  · exact h.cmdWrites.executed
  · exact h

theorem execMspiRead {addr n cut} (h : s.Canon) : Keeps (Machine.execMspiRead addr n cut s) := by
  unfold Machine.execMspiRead
  split
  · exact h
  · split
    · exact h.emit
    · exact h.readSeq.emit

theorem execMspiWrite {addr ws cut} (h : s.Canon) : Keeps (Machine.execMspiWrite addr ws cut s) := by
  unfold Machine.execMspiWrite
  split
  · exact h
  · split
    · exact h.modGroom
    · exact foldl h fun _ ht _ => ht.mspiPut

theorem execMspiStatus (h : s.Canon) : Keeps (Machine.execMspiStatus s) := h.emit

/-! What waits behind a stalled push (R269). -/

theorem redo {h'} (h : s.Canon) : (s.redo h').Canon := by
  unfold State.redo
  split
  · exact h.regWrite
  · exact h.pageAcc
  · exact h.bar0
  · exact serveMem h (fun _ ht => ht.bar2)
  · exact h.bankWin
  · exact h.config

theorem redoHeld {l} (h : s.Canon) : (s.redoHeld l).Canon := by
  induction l generalizing s with
  | nil => exact h
  | cons r l ih => exact .ite (with_host h.redo) (ih h.redo)

theorem takeHeld (h : s.Canon) : s.takeHeld.Canon := ite h h.with_host.redoHeld

/-! The arbiter (R273, Table 08-4). -/

theorem fifoReq {n r} (h : s.Canon) : (s.fifoReq n r).Canon := by
  unfold State.fifoReq
  split
  · exact serveRead h (fun _ ht => ht.fifoRead.answer)
  · exact serveRead h (fun _ ht => ht.fifoRead.answer)
  · exact h.writeFifoCtrl
  · exact write h (fun _ ht => ht.commitWrite)
  · exact ite (write h (fun _ ht => ht.pushWin)) h
  · exact h.hdmaStep
  · exact ite h.acceptCmd h
  · exact ite h.pushRecord <| ite h.pushTrace h
  · exact h.fifoIdle
  · exact h.expirePush.takeHeld

/-- Every request that is pending at a FIFO's arbiter keeps the form when it is taken. -/
theorem fifoActs {n r} : ∀ a ∈ s.fifoActs n r, ∀ t : State, t.Canon → (a.act t).Canon := by
  have one (c q : Nat) : ∀ a ∈ [(⟨c, q, fun t => t.fifoReq n r⟩ : FifoAct)],
      ∀ t : State, t.Canon → (a.act t).Canon := by
    rintro a ha t ht
    obtain rfl := List.mem_singleton.1 ha
    exact ht.fifoReq
  unfold State.fifoActs
  extract_lets oneAct
  cases r with
  | ctrl q v =>
    dsimp only
    split
    · rintro a ha t ht
      obtain rfl | rfl := List.mem_pair.1 ha
      · exact ht.fifoReq
      · exact ht.fifoFlow
    · exact one _ _
  | pop | peek | commit | push | burst | accept | record | idle | expiry => exact one _ _

theorem arbitrate {n fuel l} (h : s.Canon) (hl : ∀ a ∈ l, ∀ t : State, t.Canon → (FifoAct.act a t).Canon) :
    (s.arbitrate n fuel l).Canon := by
  induction fuel generalizing s l with
  | zero => exact h
  | succ k ih =>
    unfold State.arbitrate
    extract_lets p
    split
    · exact h
    · next a ha =>
      exact ih (hl a (List.mem_of_getElem? ha) _ h.modFifo) fun b hb => hl b (List.mem_of_mem_eraseIdx hb)

theorem fifoArb {n r together} (h : s.Canon) : (s.fifoArb n r together).Canon := by
  unfold State.fifoArb
  refine .ite ?_ h
  split
  · exact h.fifoReq
  · refine h.arbitrate fun a ha => ?_
    obtain ⟨q, -, hq⟩ := List.mem_flatMap.1 ha
    exact fifoActs a hq

theorem execFifoPush {q n k v together} (h : s.Canon) : Keeps (Machine.execFifoPush q n k v together s) := h.fifoArb

theorem execPushComplete {n} (h : s.Canon) : Keeps (Machine.execPushComplete n s) := h.completePush.takeHeld

theorem execPushStallExpiry {n together} (h : s.Canon) : Keeps (Machine.execPushStallExpiry n together s) := h.fifoArb

theorem execFifoPop {q n together} (h : s.Canon) : Keeps (Machine.execFifoPop q n together s) := h.fifoArb

theorem execFifoPeek {q n together} (h : s.Canon) : Keeps (Machine.execFifoPeek q n together s) := h.fifoArb

theorem execFlush {q n v together} (h : s.Canon) : Keeps (Machine.execFlush q n v together s) := h.fifoArb

theorem execFlushAndHold {q n v together} (h : s.Canon) : Keeps (Machine.execFlushAndHold q n v together s) :=
  h.fifoArb

theorem execOpenFifo {q n v together} (h : s.Canon) : Keeps (Machine.execOpenFifo q n v together s) := h.fifoArb

theorem execMarkSet {q n v together} (h : s.Canon) : Keeps (Machine.execMarkSet q n v together s) := h.fifoArb

theorem execRewind {q n v together} (h : s.Canon) : Keeps (Machine.execRewind q n v together s) := h.fifoArb

theorem execMarkClear {q n v together} (h : s.Canon) : Keeps (Machine.execMarkClear q n v together s) := h.fifoArb

theorem execIdle {n together} (h : s.Canon) : Keeps (Machine.execIdle n together s) := h.fifoArb

/-! Messages received (R296). -/

theorem ptpMessage {p bs y t2} (h : s.Canon) : (s.ptpMessage p bs y t2).Canon :=
  ite h <| ite h.sync <| ite h.followUp <| ite h.delayResp <| ite h.announce h

theorem ptpFrame {p bs fcsOk stamp} (h : s.Canon) : (s.ptpFrame p bs fcsOk stamp).Canon := ite h.ptpMessage h

/-! Delay_Req (R94, R296, R300). -/

theorem sendDelayReq {seq} (h : s.Canon) : (s.sendDelayReq seq).Canon := by
  unfold State.sendDelayReq
  split
  · exact h
  · exact ite h.takeFree.modTime.handTx h

theorem execDelayReqSend {seq} (h : s.Canon) : Keeps (Machine.execDelayReqSend seq s) := h.sendDelayReq

/-! The registers and the plan at a transit. -/

theorem transitRegs {n inst} (h : s.Canon) : (s.transitRegs n inst).Canon :=
  h.setFld.setFld.setFld.setBit.setBit.modTime

theorem eachTransit (h : s.Canon) : s.eachTransit.Canon := h

theorem afterSeam {m} (h : s.Canon) : (s.afterSeam m).Canon := h.modPlan

theorem planTransit {n} (h : s.Canon) : (s.planTransit n).Canon := by
  unfold State.planTransit
  split
  · exact h
  · exact ite h <| ite h.modPlan h.modPlan

/-! Steps (R105, R106). -/

theorem stepTriggers {a b} (h : s.Canon) : (s.stepTriggers a b).Canon := foldl h fun _ ht _ => ite ht.trgPast ht

theorem stepServo (h : s.Canon) : s.stepServo.Canon := ite h.modTime.setTimeState h.servoAcquire

theorem applyStep {d} (h : s.Canon) : (s.applyStep d).Canon := by
  unfold State.applyStep
  extract_lets +onlyGivenNames a s1 s2 s3
  have hs3 : s3.Canon := by
    unfold s3
    split
    · exact h.modTime.tickMark.nextFromNow.ltcSkip.openSeam.refuseSeam
    · exact h.modTime.tickMark.nextFromNow.ltcSkip
  exact hs3.pushRec.stepTriggers.raise.setBit.stepServo.forceGlide.scanStep

theorem planetNamed {n} (h : s.Canon) : (s.planetNamed n).Canon := by
  unfold State.planetNamed
  extract_lets old u s1
  have hs1 : s1.Canon := by
    unfold s1
    split
    · exact .ite h.modGroup.setAct.setAct.rateSeam h
    · exact h
  split
  · exact .ite (.ite hs1.modGroup.applyStep hs1.modGroup) hs1
  · exact hs1

/-! The transit. -/

theorem transitUnits {n} (h : s.Canon) : (s.transitUnits n).Canon := by
  unfold State.transitUnits
  extract_lets s1 s2 s3 s4
  have hs3 : s3.Canon := sacnSnapshot <| selectPlanes <| with_marks (.ite h.fsyncPulse h)
  have hs4 : s4.Canon := .foldl hs3 fun _ ht _ => ht.dmxSnapshot
  exact hs4.rateResume.planTransit.commitsDue.scanTransit.calTransit.clTransit

theorem atTransit {n inst} (h : s.Canon) : (s.atTransit n inst).Canon := by
  unfold State.atTransit
  extract_lets +onlyGivenNames s1 s2
  have hs2 : s2.Canon := ite h.transitRegs.eachTransit.afterSeam h.transitRegs.eachTransit
  extract_lets +onlyGivenNames s3 s4
  have hs4 : s4.Canon := by
    unfold s4
    split
    · exact hs2.transitUnits.planetNamed.applyStep
    · exact hs2.transitUnits.planetNamed
  exact hs4.modTime

theorem execTransit (h : s.Canon) : Keeps (Machine.execTransit s) := by
  unfold Machine.execTransit
  split
  · exact ite h.atTransit h
  · exact h

/-! Frame starts and stripe instants (R199, R202). -/

theorem startDue (h : s.Canon) : s.startDue.Canon := by
  unfold State.startDue
  split
  · exact ite h <| ite h.stripeLate.frameStart h.frameStart
  · exact h

theorem execPlanFrameStart (h : s.Canon) : Keeps (Machine.execPlanFrameStart s) := h.startDue

theorem execStripeInstant {q} (h : s.Canon) : Keeps (Machine.execStripeInstant q s) := by
  unfold Machine.execStripeInstant
  split
  · split
    · exact ite h.startDue h
    · exact h
  · split
    · exact ite h.stripeLate.stripeStart h
    · exact h

/-! The emit list (R184, R186, R46). -/

theorem setEmit {f i r} (h : s.Canon) : (s.setEmit f i r).Canon := h.modPlan

theorem emitLate {f e} (h : s.Canon) : (s.emitLate f e).Canon := ite h.incFld.raise h

theorem emitFetch {f i e} (h : s.Canon) : (s.emitFetch f i e).Canon := by
  unfold State.emitFetch
  extract_lets +onlyGivenNames r marked ready shed go s1 s2
  have hs2 : s2.Canon := ite h.setEmit h.setEmit.emitLate
  exact ite hs2.dmxFetch <| ite hs2.egressFetch <| ite hs2.sacnFetch hs2

theorem execEmitFetch {frame i} (h : s.Canon) : Keeps (Machine.execEmitFetch frame i s) := by
  unfold Machine.execEmitFetch
  split
  · exact ite h.emitFetch h
  · exact h

theorem emitLaunch {f i e cut} (h : s.Canon) : (s.emitLaunch f i e cut).Canon := by
  unfold State.emitLaunch
  extract_lets +onlyGivenNames r shed s1 s2
  have hs2 : s2.Canon := ite h.setEmit.emitLate h.setEmit
  exact ite hs2.dmxLaunch <| ite hs2.egressLaunch <| ite hs2.sacnLaunch <| ite (ite hs2.clLaunch hs2) hs2

theorem execEmitLaunch {frame i cut} (h : s.Canon) : Keeps (Machine.execEmitLaunch frame i cut s) := by
  unfold Machine.execEmitLaunch
  split
  · exact ite h.emitLaunch h
  · exact h

/-! Aborts (R251). -/

theorem stopKernel {e} (h : s.Canon) : (s.stopKernel e).Canon := by
  unfold State.stopKernel
  split
  · exact h.modEng
  · exact h

theorem undefDesc {d} (h : s.Canon) : (s.undefDesc d).Canon :=
  foldl h fun _ ht _ => ite (ite ht.writeDram.takeFree (takeFree (foldl ht fun _ h2 _ => h2.sWrite))) ht

theorem stopUnit {u' n} (h : s.Canon) : (s.stopUnit u' n).Canon := by
  unfold State.stopUnit
  split
  · exact h.stopKernel
  · split
    · split
      · exact h.undefDesc
      · exact h
    · split
      · exact h.calAbort
      · split
        · exact h.modKey
        · split
          · extract_lets +onlyGivenNames w1 p len da s1
            have hs1 : s1.Canon := ite h.writeDram.takeFree h
            extract_lets +onlyGivenNames s2
            have hs2 : s2.Canon := ite hs1.modFifo hs1
            exact hs2.schedWrite.with_hdmaDone
          · exact h

theorem decideAbort {u' q n} (h : s.Canon) : (s.decideAbort u' q n).Canon :=
  ite h.takeReports.takeWaits.schedSync <|
    ite h.modSched.voidAbort h.modSched.stopUnit.abortResult.endTask.takeWaits.schedSync

theorem execAbortDecided {u'} (h : s.Canon) : Keeps (Machine.execAbortDecided u' s) := by
  unfold Machine.execAbortDecided
  split
  · exact h.decideAbort
  · exact h

/-! Frames received and latch points. -/

theorem execRxFrame {p bytes fcsOk stamp lost} (h : s.Canon) :
    Keeps (Machine.execRxFrame p bytes fcsOk stamp lost s) :=
  ite (ite (ptpFrame (receive h (fun _ _ ht => ht.flowFrame))) (receive h (fun _ _ ht => ht.flowFrame))) h

theorem execLatchPoint {n chain} (h : s.Canon) : Keeps (Machine.execLatchPoint n chain s) :=
  ite (latch h (fun _ ht => ht.takeAtLatch)) h

/-! The dynamic slot arbiter (R319). -/

theorem grant {w c surplus} (h : s.Canon) : (s.grant w c surplus).Canon := by
  unfold State.grant
  split
  · exact h
  · exact h.with_wheel.emit

theorem surplusTurn {w} (h : s.Canon) : (s.surplusTurn w).Canon := by
  unfold State.surplusTurn
  split
  · exact h.grant
  · exact h

theorem wheelTurn {w} (h : s.Canon) : (s.wheelTurn w).Canon := by
  unfold State.wheelTurn
  split
  · exact ite h.surplusTurn <| ite h.emit h
  · exact ite h.grant h.surplusTurn

theorem execDramWheelSlot {slot} (h : s.Canon) : Keeps (Machine.execDramWheelSlot slot s) := h.wheelTurn

end State.Canon

end Sys2Proof.Machine
end

section
/-! PROOF. Canonical form (O5) kept by every command, by a tick and so by every step. -/

namespace Sys2Proof.Machine

open Sys2Proof

namespace State.Canon

variable {s : State}

theorem exec {i} (h : s.Canon) : Keeps (Machine.exec i s) := by
  unfold Machine.exec
  split
  · exact h.execTransit
  · exact h.execEmitLaunch
  · exact h.execEmitFetch
  · exact h.execBar0Request
  · exact h.execBar2Access
  · exact h.execBar4Access
  · exact h.execSetAliasWrite
  · exact h.execClearAliasWrite
  · exact h.execRegisterWrite
  · exact h.execSnapshotRead
  · exact h.execPairHiWrite
  · exact h.execOwnerWrite
  · exact h.execCommitArm
  · exact h.execCommitCancel
  · exact h.execCommitCutoff
  · exact h.execCommitTake
  · exact h.execEventClearWrite
  · exact h.execEventForceWrite
  · exact h.execEventRecordTake
  · exact h.execEventRecordPush
  · exact h.execVecArmWrite
  · exact h.execMsixUnmask
  · exact h.execAnchor
  · exact h.execNowNsRead
  · exact h.execAnnounceRx
  · exact h.execSyncRx
  · exact h.execFollowUpRx
  · exact h.execDelayReqSend
  · exact h.execDelayRespRx
  · exact h.execSetSecHiWrite
  · exact h.execSwOffsetWrite
  · exact h.execFreqAdjWrite
  · exact h.execSwCorrectionAbsorbed
  · exact h.execStepAuthWrite
  · exact h.execCarveAuthWrite
  · exact h.execForceGlideWrite
  · exact h.execSwServoWrite
  · exact h.execGlideTimeout
  · exact h.execGlideLimit
  · exact h.execTriggerArm
  · exact h.execTriggerDisarm
  · exact h.execTrgCue
  · exact h.execTrgTioSet
  · exact h.execTrgTioClr
  · exact h.execTrgTioToggle
  · exact h.execTrgTioPulse
  · exact h.execTioPulseEnd
  · exact h.execTrgTioSample
  · exact h.execTrgSnsStart
  · exact h.execTrgFsyncPulse
  · exact h.execTioEdge
  · exact h.execFsyncEdge
  · exact h.execLtcOutFrame
  · exact h.execLtcInFrame
  · exact h.execLtcInLost
  · exact h.execNop
  · exact h.execIllegalOp
  · exact h.execVMov
  · exact h.execVAdd
  · exact h.execVSub
  · exact h.execVMinu
  · exact h.execVMins
  · exact h.execVMaxu
  · exact h.execVMaxs
  · exact h.execVAnd
  · exact h.execVOr
  · exact h.execVXor
  · exact h.execVAndn
  · exact h.execVShl
  · exact h.execVShru
  · exact h.execVShrs
  · exact h.execAbsdu
  · exact h.execVCmpeq
  · exact h.execVCmpne
  · exact h.execVCmpltu
  · exact h.execVCmplts
  · exact h.execVCmpleu
  · exact h.execVCmples
  · exact h.execSel
  · exact h.execAvgu
  · exact h.execPerm
  · exact h.execRotl
  · exact h.execSplat
  · exact h.execRsum
  · exact h.execPack
  · exact h.execUnpklu
  · exact h.execUnpkhu
  · exact h.execUnpkls
  · exact h.execUnpkhs
  · exact h.execZipl
  · exact h.execZiph
  · exact h.execVMul
  · exact h.execMulhu
  · exact h.execMulhs
  · exact h.execMulq
  · exact h.execMacq
  · exact h.execFma
  · exact h.execFmul
  · exact h.execFadd
  · exact h.execFcvtu
  · exact h.execUcvtf
  · exact h.execFmin
  · exact h.execFmax
  · exact h.execVld
  · exact h.execVldp
  · exact h.execVst
  · exact h.execVstp
  · exact h.execVsts
  · exact h.execVstc
  · exact h.execXld
  · exact h.execXst
  · exact h.execSld
  · exact h.execSldp
  · exact h.execSst
  · exact h.execSstp
  · exact h.execSsts
  · exact h.execSstc
  · exact h.execVget
  · exact h.execVput
  · exact h.execScstart
  · exact h.execScstat
  · exact h.execCAdd
  · exact h.execCSub
  · exact h.execCAnd
  · exact h.execCOr
  · exact h.execCXor
  · exact h.execCShl
  · exact h.execCShru
  · exact h.execCShrs
  · exact h.execCMul
  · exact h.execCMins
  · exact h.execCMaxs
  · exact h.execAddi
  · exact h.execLil
  · exact h.execLih
  · exact h.execCCmpeq
  · exact h.execCCmpne
  · exact h.execCCmpltu
  · exact h.execCCmplts
  · exact h.execCCmpleu
  · exact h.execCCmples
  · exact h.execPand
  · exact h.execPor
  · exact h.execPnot
  · exact h.execBr
  · exact h.execLoopi
  · exact h.execLoops
  · exact h.execRdlc
  · exact h.execLapmark
  · exact h.execLapSave
  · exact h.execFence
  · exact h.execFenceRelease
  · exact h.execOwopen
  · exact h.execWindowEnd
  · exact h.execKend
  · exact h.execRdsys
  · exact h.execFend
  · exact h.execPadStep
  · exact h.execLapOverrun
  · exact h.execDescriptorComplete
  · exact h.execImemDataRead
  · exact h.execPlanLoad
  · exact h.execPlanAbort
  · exact h.execLoadCheckEnd
  · exact h.execLoadDone
  · exact h.execStagedCodeCopy
  · exact h.execReshadowed
  · exact h.execStopModeWriteDone
  · exact h.execSpeedSample
  · exact h.execPlanFrameStart
  · exact h.execStripeInstant
  · exact h.execLapMarkNotice
  · exact h.execFaultReport
  · exact h.execStallDetect
  · exact h.execLapDue
  · exact h.execRestoreDone
  · exact h.execBorrowStart
  · exact h.execBorrowRelease
  · exact h.execBorrowHoldoffEnd
  · exact h.execStallMaxRead
  · exact h.execScrubRead
  · exact h.execRowSpareStart
  · exact h.execRowSpared
  · exact h.execCtxCfgWrite
  · exact h.execSubmit
  · exact h.execCancel
  · exact h.execAbort
  · exact h.execAbortDecided
  · exact h.execRelease
  · exact h.execTaskCmdBadOp
  · exact h.execTick
  · exact h.execSchedTransitMark
  · exact h.execSchedTriggerMark
  · exact h.execDispatch
  · exact h.execWindowDispatch
  · exact h.execTaskComplete
  · exact h.execTaskFaulted
  · exact h.execTraceRecordPush
  · exact h.execFifoPush
  · exact h.execPushComplete
  · exact h.execPushStallExpiry
  · exact h.execFifoPop
  · exact h.execFifoPeek
  · exact h.execFlush
  · exact h.execFlushAndHold
  · exact h.execOpenFifo
  · exact h.execMarkSet
  · exact h.execRewind
  · exact h.execMarkClear
  · exact h.execIdle
  · exact h.execHdmaBurst
  · exact h.execCommandAccept
  · exact h.execCmdNop
  · exact h.execCmdTask
  · exact h.execCmdWrite
  · exact h.execCmdMark
  · exact h.execPortRestart
  · exact h.execLinkUp
  · exact h.execLinkDown
  · exact h.execRxFrame
  · exact h.execPauseRx
  · exact h.execPauseExpiry
  · exact h.execPauseWatchdog
  · exact h.execPauseHoldoffEnd
  · exact h.execTxArbitrate
  · exact h.execTxrTailWrite
  · exact h.execTxDescriptor
  · exact h.execLaunchAt
  · exact h.execTxDescriptorDone
  · exact h.execTsqPop
  · exact h.execLpiEnter
  · exact h.execLpiExit
  · exact h.execDramWheelSlot
  · exact h.execEgressPacketHandover
  · exact h.execSacnSourceTimeout
  · exact h.execSnapshotWriteDone
  · exact h.execSacnTxPacket
  · exact h.execSacnKeepalive
  · exact h.execDmxPacketEnd
  · exact h.execDmxRxPacket
  · exact h.execDmxRxTimeout
  · exact h.execRdmRequestStart
  · exact h.execRdmResponse
  · exact h.execRdmResponseTimeout
  · exact h.execRdmRequestIn
  · exact h.execRdmResponderAnswer
  · exact h.execQmsgPush
  · exact h.execLatchPoint
  · exact h.execPortFrameStart
  · exact h.execLineSlotStart
  · exact h.execBmodePlane
  · exact h.execEndOp
  · exact h.execShiftData
  · exact h.execShiftConst
  · exact h.execShiftGain
  · exact h.execLatchOp
  · exact h.execGoeOp
  · exact h.execRowOp
  · exact h.execWaitOp
  · exact h.execLoopOp
  · exact h.execEndLoopOp
  · exact h.execReadOp
  · exact h.execShiftProbe
  · exact h.execPulseOp
  · exact h.execChainTestWrite
  · exact h.execVerifyAgeTick
  · exact h.execScriptWrite
  · exact h.execCurveDataWrite
  · exact h.execCurveDataRead
  · exact h.execGen
  · exact h.execGenDone
  · exact h.execSenseSequenceStart
  · exact h.execSenseConversion
  · exact h.execDtsReading
  · exact h.execDtsFault
  · exact h.execCalPositionStart
  · exact h.execPathStepEnd
  · exact h.execBoardOffsetEnd
  · exact h.execBoardGainEnd
  · exact h.execCalRunLimit
  · exact h.execCalRecompute
  · exact h.execCalStoreDone
  · exact h.execClTrainingProgress
  · exact h.execClTrainTimeout
  · exact h.execLaneMarkSend
  · exact h.execLaneMarkRx
  · exact h.execLaneFail
  · exact h.execTimeBlockSend
  · exact h.execTimeBlockRx
  · exact h.execTimeRptRx
  · exact h.execCellRx
  · exact h.execAckSend
  · exact h.execAckRx
  · exact h.execRetryReqRx
  · exact h.execRetryTimeout
  · exact h.execFrameEnd
  · exact h.execTopology
  · exact h.execRateCommit
  · exact h.execGroupStep
  · exact h.execElect
  · exact h.execRatePropose
  · exact h.execRateBlockRx
  · exact h.execRateRelockDone
  · exact h.execClLinkDown
  · exact h.execPlanetLossTimeout
  · exact h.execKeyDerive
  · exact h.execKeyGenerate
  · exact h.execKeyClear
  · exact h.execKeyPubkey
  · exact h.execKeyHash
  · exact h.execKeyMac
  · exact h.execKeySign
  · exact h.execKeyVerify
  · exact h.execKeyEncrypt
  · exact h.execKeyDecrypt
  · exact h.execKeyStore
  · exact h.execKeyLoad
  · exact h.execKeyErase
  · exact h.execKeyAttest
  · exact h.execKeyChallenge
  · exact h.execKeyExtend
  · exact h.execRootCreate
  · exact h.execSlotClear
  · exact h.execImportGo
  · exact h.execImportLockWrite
  · exact h.execZeroizeWrite
  · exact h.execTamperCfgWrite
  · exact h.execTamperInput
  · exact h.execResetRelease
  · exact h.execResetAssert
  · exact h.execPowerFail
  · exact h.execVbatChangeover
  · exact h.execBootPhaseEnd
  · exact h.execMspiRead
  · exact h.execMspiWrite
  · exact h.execMspiStatus
  · exact h.execRecoveryEnter
  · exact h.execRecoveryExit
  · exact h.execAvsSettle
  · exact h.execAvsPeriod
  · exact h.execPmbusTransactionEnd
  · exact h.execEngTest
  · exact h.execEngTestEnd
  · exact h.execSegTest
  · exact h.execDramScrub
  · exact h.execDramRowSpared
  · exact h.execNvmWriteDone
  · exact h.execHourTick
  · exact h.execWearRecord
  · exact h.execSelfRefreshEnter
  · exact h.execSelfRefreshExit
  · exact h.execAnnounceReceiptTimeout
  · exact h.execClTransmitArbiter
  · exact h.execConfigurationRequest
  · exact h.execTamperLineRelease
  · exact h.execReceiveLpi
  · exact h.execSerdesFail
  · exact h.execReturnedEngineLoaded

theorem busyPulse (h : s.Canon) : s.busyPulse.Canon := by
  unfold State.busyPulse
  split
  · exact ite h.with_bankBusy.emit h
  · exact h

theorem idleTick (h : s.Canon) : s.idleTick.Canon := ite h h.tick.busyPulse

end State.Canon

theorem Keeps.step {s : State} (h : s.Canon) : Keeps (Machine.step s) := by
  unfold Machine.step State.stepWith
  split
  · exact h.idleTick
  · exact State.Canon.exec h.with_pending

end Sys2Proof.Machine

open Sys2Proof Sys2Proof.Machine

/-- Settles O5: every function of the model keeps the canonical form, and so do the commands, the tick and the step made
of them. -/
theorem memoryFormKept : Obligations.MemoryFormKept := by
  unfold Obligations.MemoryFormKept
  intro s t h hs
  have ht := Keeps.step h
  rwa [hs] at ht
end

section
/-! PROOF. What writes, reads and events of a page leave in the page's own registers (R57 to R67, R76): the
registers every
page has (Table 02-2), PAGE_SEQ, and the gate. -/

namespace Sys2Proof.Machine

open Sys2Proof

theorem blockType_eq_zero {p : Nat} (h : 180 ≤ p) : blockType p = 0 := by
  have hne (k : Nat) (hk : k < 180) : (p == k) = false := by simp; omega
  have hlt (k : Nat) (hk : k ≤ 180) : decide (p < k) = false := by simp; omega
  simp [blockType, hne, hlt]

/-- Every page that serves lies below the first page Table 02-1 leaves free. -/
theorem lt_of_gate_served {s : State} {q : Req} {p : Nat} (h : s.gate q p = .served) : p < 180 := by
  have hb : blockType p ≠ 0 := by
    intro hb
    unfold State.gate at h
    cases q with
    | mspi => simp [hb] at h
    | pcie => cases hg : s.hostGate <;> simp [hg, hb] at h
  by_contra hp
  exact hb (blockType_eq_zero (Nat.le_of_not_lt hp))

/-- An event of a page writes none of the page's common registers but EVENT. -/
theorem evKey_common {p off : Nat} (h : off < 0x040) (h10 : off ≠ 0x010) : evKey p (regKey p off) = false := by
  obtain rfl | rfl | hp : p = 0 ∨ p = 1 ∨ 2 ≤ p := by omega
  all_goals
    simp only [evKey, regKey, List.contains_cons, List.contains_nil, Bool.or_false, Bool.or_eq_false_iff,
        beq_eq_false_iff_ne]
    omega

theorem reg_raise_common (s : State) (p k a : Nat) {off : Nat} (h : off < 0x040) (h10 : off ≠ 0x010) :
    (s.raise p k a).reg (regKey p off) = s.reg (regKey p off) := regsKept_raise s p k a _ (evKey_common h h10)

theorem key_inst (f : Fld) (p : Nat) (hp : f.page = 0) : (f.inst p).key = regKey p f.off := by
  simp [Fld.key, Fld.inst, hp]

theorem fld_raise_common (s : State) (p k a : Nat) (f : Fld) (hp : f.page = 0) (h : f.off < 0x040)
    (h10 : f.off ≠ 0x010) :
    (s.raise p k a).fld (f.inst p) = s.fld (f.inst p) := by
  simp only [State.fld, key_inst f p hp, reg_raise_common s p k a h h10]

theorem reg_countWrite {s : State} {p k : Nat} (h : k ≠ regKey p 0x01C) : (s.countWrite p).reg k = s.reg k :=
  reg_setFld_ne s _ _ (by rwa [key_inst _ p rfl])

theorem fld_countWrite {s : State} {p : Nat} {f : Fld} (h : f.key ≠ regKey p 0x01C) :
    (s.countWrite p).fld f = s.fld f := by
  simp only [State.fld, reg_countWrite h]

theorem pageSeq_countWrite (s : State) (p : Nat) :
    (s.countWrite p).fld (PG_PAGE_SEQ_SEQ.inst p) = (s.fld (PG_PAGE_SEQ_SEQ.inst p) + 1) % 2 ^ 32 :=
  fld_setFld_same s (PG_PAGE_SEQ_SEQ.inst p) _ (by simp [Fld.inst, PG_PAGE_SEQ_SEQ])

theorem regsKept_countWrite (s : State) (p : Nat) {w : Nat → Bool} (h : w (regKey p 0x01C) = true) :
    RegsKept w s (s.countWrite p) := regsKept_setFld s _ _ (by rwa [key_inst _ p rfl])

theorem not_barred {s : State} {q : Req} {p off : Nat} (h : s.mayWrite q p = true) : s.barred q p off = false := by
  simp [State.barred, h]

/-- Nothing but the register file differs between `s` and `t`. -/
def OnlyRegs (s t : State) : Prop := t = { s with regs := t.regs }

namespace OnlyRegs

theorem refl (s : State) : OnlyRegs s s := rfl

theorem trans {s t u : State} (h : OnlyRegs s t) (g : OnlyRegs t u) : OnlyRegs s u := by
  unfold OnlyRegs at *; rw [g, h]

theorem setReg {s t : State} (h : OnlyRegs s t) (k : Nat) (v : Word) : OnlyRegs s (t.setReg k v) := h.trans rfl

theorem setFld {s t : State} (h : OnlyRegs s t) (f : Fld) (v : Nat) : OnlyRegs s (t.setFld f v) := h.trans rfl

theorem countWrite (s : State) (p : Nat) : OnlyRegs s (s.countWrite p) :=
  (refl s).setFld (PG_PAGE_SEQ_SEQ.inst p) (s.fld (PG_PAGE_SEQ_SEQ.inst p) + 1)

end OnlyRegs

/-! The commands of a write and of a read at the page's arbiter. -/

theorem regWrite_served {s : State} {q : Req} {p : Nat} (h : s.gate q p = .served) (off : Nat) (v : Word) :
    s.regWrite q p off v = s.regTake q p off v := by
  simp [State.regWrite, State.passGate, h]

theorem regWrite_barred {s : State} {q : Req} {p off : Nat} (h : s.gate q p = .served) (ho : off ≠ 0x02C)
    (hb : s.barred q p off = true) (v : Word) : s.regWrite q p off v = s.refuseWrite q p off := by
  simp [regWrite_served h, State.regTake, State.accept, ho, hb]

theorem regWrite_accepted {s : State} {q : Req} {p off : Nat} (h : s.gate q p = .served) (ho : off ≠ 0x02C)
    (hw : writableOff p off = true) (hm : s.mayWrite q p = true) (v : Word) :
    s.regWrite q p off v = (s.countWrite p).regEffect q p off v := by
  simp [regWrite_served h, State.regTake, State.accept, ho, hw, not_barred hm]

theorem regTake_owner (s : State) (q : Req) (p : Nat) (v : Word) : s.regTake q p 0x02C v = s.ownerTake q p v := rfl

theorem ownerWrite_served {s : State} {q : Req} {p : Nat} (h : s.gate q p = .served) (v : Word) :
    s.ownerWrite q p v = s.ownerTake q p v := by
  simp [State.ownerWrite, State.passGate, h]

theorem ownerTake_refused {s : State} {q : Req} {p : Nat} {v : Word}
    (h : natBits v.toNat 0 2 = 3 ∨ (q = .pcie ∧ s.fld (PG_OWNER_HOLDER.inst p) = 2)) :
    s.ownerTake q p v = s.refuseWrite q p 0x02C := if_pos h

theorem ownerTake_accepted {s : State} {q : Req} {p : Nat} {v : Word}
    (h : ¬ (natBits v.toNat 0 2 = 3 ∨ (q = .pcie ∧ s.fld (PG_OWNER_HOLDER.inst p) = 2))) :
    s.ownerTake q p v = (s.countWrite p).setFld (PG_OWNER_HOLDER.inst p) (natBits v.toNat 0 2) := if_neg h

theorem exec_ownerWrite (q : Req) (p : Nat) (v : Word) (s : State) :
    exec (.ownerWrite q p v) s = .next (s.ownerWrite q p v) := rfl

theorem exec_snapshotRead {s : State} {q : Req} {p : Nat} (h : s.gate q p = .served) (off : Nat) :
    exec (.snapshotRead q p off) s = .next ((s.regRead q p (off % 4096 / 4 * 4)).2.2.answer q
      (s.regRead q p (off % 4096 / 4 * 4)).1 (s.regRead q p (off % 4096 / 4 * 4)).2.1) := by
  show Host.Outcome.next (s.serveRead q p (off % 4096 / 4 * 4) _) = _
  simp [State.serveRead, h]

theorem answer_last (s : State) (q : Req) (w : Word) (poison : Bool) :
    (s.answer q w poison).out.getLast? = some (.data q [w]) ∨
      (s.answer q w poison).out.getLast? = some (.poisoned [w]) := by
  unfold State.answer
  split <;> simp [State.emit]

end Sys2Proof.Machine

end

section
/-! PROOF. OWNER.HOLDER (O8, R65). -/

namespace Sys2Proof.Machine

open Sys2Proof

/-- HOLDER takes an accepted write of OWNER, PAGE_SEQ counts it, and nothing else changes. -/
theorem holder_ownerWritten (s : State) (p h : Nat) (hh : h < 4) :
    ((s.countWrite p).setFld (PG_OWNER_HOLDER.inst p) h).fld (PG_OWNER_HOLDER.inst p) = h :=
  (fld_setFld_same _ (PG_OWNER_HOLDER.inst p) h (by simp [Fld.inst, PG_OWNER_HOLDER])).trans (Nat.mod_eq_of_lt hh)

theorem pageSeq_ownerWritten (s : State) (p h : Nat) :
    ((s.countWrite p).setFld (PG_OWNER_HOLDER.inst p) h).fld (PG_PAGE_SEQ_SEQ.inst p) =
      (s.fld (PG_PAGE_SEQ_SEQ.inst p) + 1) % 2 ^ 32 := by
  rw [fld_setFld_ne, pageSeq_countWrite]
  simp [key_inst, PG_PAGE_SEQ_SEQ, PG_OWNER_HOLDER, regKey]

theorem regsKept_ownerWritten (s : State) (p h : Nat) :
    RegsKept (fun k => [regKey p 0x02C, regKey p 0x01C].contains k) s
      ((s.countWrite p).setFld (PG_OWNER_HOLDER.inst p) h) :=
  (regsKept_countWrite s p (by simp)).trans (regsKept_setFld _ _ _ (by simp [key_inst, PG_OWNER_HOLDER]))

end Sys2Proof.Machine

open Sys2Proof Sys2Proof.Machine

/-- Settles O8: the arbiter's check of a write of OWNER and of any other register, by requester and holder; a refused
write is the event and nothing more, and a served read ends with its answer. -/
theorem ownerHolderDecides : Obligations.OwnerHolderDecides := by
  unfold Obligations.OwnerHolderDecides
  intro q p off v s hg
  have hcmd : exec (.registerWrite q p off v none) s = .next (s.regWrite q p off v) := exec_write q p off v s
  have howner : exec (.ownerWrite q p v) s = .next (s.ownerTake q p v) := by rw [exec_ownerWrite, ownerWrite_served hg]
  refine ⟨?mspi, ?pcie, ?illegal, ?accepted, ?refused, ?read⟩
  case mspi =>
    rintro ho hr rfl hh
    rw [hcmd, regWrite_barred hg ho (by simp [State.barred, State.mayWrite, hh, hr])]
    rfl
  case pcie =>
    rintro rfl hh
    have htake : s.ownerTake .pcie p v = s.refuseWrite .pcie p 0x02C := ownerTake_refused (.inr ⟨rfl, hh⟩)
    rw [hcmd, howner, htake]
    refine ⟨?_, rfl⟩
    by_cases ho : off = 0x02C
    · subst ho
      rw [regWrite_served hg, regTake_owner, htake]
      rfl
    · rw [regWrite_barred hg ho (by simp [State.barred, State.mayWrite, hh])]
      rfl
  case illegal =>
    intro hv
    rw [howner, ownerTake_refused (.inl hv)]
    rfl
  case accepted =>
    intro hv hh
    rw [howner, ownerTake_accepted (not_or.2 ⟨hv, hh⟩)]
    exact ⟨_, rfl, holder_ownerWritten s p _ (natBits_lt v.toNat 0 2), pageSeq_ownerWritten s p _,
      regsKept_ownerWritten s p _, (OnlyRegs.countWrite s p).setFld _ _⟩
  case refused =>
    intro a
    exact ⟨quiet_raise s p 2 a, regsKept_raise s p 2 a,
      fld_raise_common s p 2 a PG_PAGE_SEQ_SEQ rfl (by decide) (by decide), event_raise s p 2 a (by decide)⟩
  case read =>
    rw [exec_snapshotRead hg]
    exact ⟨_, _, rfl, answer_last _ _ _ _⟩
end

section
/-! PROOF. Pairs of registers (O9, R62): where they lie, and what a write and a read of a half do. -/

namespace Sys2Proof.Machine

open Sys2Proof

/-- The pairs' first halves one by one: page block and offset. -/
def pairLos : List (Nat × Nat) := pairRows.flatMap fun r => (List.range r.2.2.2).map fun i => (r.1, r.2.1 + i * r.2.2.1)

theorem mem_pairLos {p off : Nat} (h : isPairLo p off = true) : (pageBase p, off) ∈ pairLos := by
  obtain ⟨r, hr, h⟩ := List.any_eq_true.1 h
  simp only [Bool.and_eq_true, beq_iff_eq, decide_eq_true_eq] at h
  obtain ⟨⟨hb, hle⟩, hi⟩ := h
  refine List.mem_flatMap.2 ⟨r, hr, List.mem_map.2 ⟨(off - r.2.1) / r.2.2.1, List.mem_range.2 ?_, ?_⟩⟩
  · split at hi
    · next h1 => simp_all
    · simp_all
  · rw [hb]
    split at hi
    · simp_all
    · next h1 =>
      simp only [Bool.and_eq_true, beq_iff_eq, decide_eq_true_eq] at hi
      rw [Nat.div_mul_cancel (Nat.dvd_of_mod_eq_zero hi.1), Nat.add_sub_cancel' hle]

/-- A first half stands at a whole dword between the common registers and the tables. -/
theorem pairLo_place {p off : Nat} (h : isPairLo p off = true) : off % 4 = 0 ∧ 0x040 ≤ off ∧ off < 0x400 :=
  (by decide : ∀ x ∈ pairLos, x.2 % 4 = 0 ∧ 0x040 ≤ x.2 ∧ x.2 < 0x400) _ (mem_pairLos h)

theorem pairHi_place {p off : Nat} (h : isPairHi p off = true) :
    isPairLo p (off - 4) = true ∧ off % 4 = 0 ∧ 0x044 ≤ off ∧ off < 0x404 := by
  simp only [isPairHi, Bool.and_eq_true, decide_eq_true_eq] at h
  have hp := pairLo_place h.2
  exact ⟨h.2, by omega⟩

theorem mem_pairLos_of_hi {p off : Nat} (h : isPairHi p off = true) :
    ∃ x ∈ pairLos, pageBase p = x.1 ∧ off = x.2 + 4 := by
  obtain ⟨hlo, -, hl, -⟩ := pairHi_place h
  exact ⟨_, mem_pairLos hlo, rfl, by omega⟩

/-- No register is both halves. -/
theorem pairHi_not_lo {p off : Nat} (h : isPairHi p off = true) : isPairLo p off = false := by
  obtain ⟨x, hx, hb, rfl⟩ := mem_pairLos_of_hi h
  refine Bool.eq_false_iff.2 fun ht => ?_
  have hn : (x.1, x.2 + 4) ∉ pairLos := (by decide : ∀ x ∈ pairLos, (x.1, x.2 + 4) ∉ pairLos) x hx
  exact hn (hb ▸ mem_pairLos ht)

/-- The read of a register at a whole dword of its page. -/
theorem dword_off {off : Nat} (h : off % 4 = 0) (hl : off < 4096) : off % 4096 / 4 * 4 = off := by omega

/-! Writes. -/

theorem countWrite_eq (s : State) (p : Nat) :
    s.countWrite p = s.setFld (PG_PAGE_SEQ_SEQ.inst p) (s.fld (PG_PAGE_SEQ_SEQ.inst p) + 1) := rfl

theorem takeable_setFld {s : State} {f : Fld} {v p : Nat} (h : regKey p 0x028 ≠ f.key) :
    (s.setFld f v).takeable p = s.takeable p := by
  have hc : (s.setFld f v).commitState p = s.commitState p :=
    fld_setFld_ne s f _ v (by rwa [key_inst _ p rfl])
  unfold State.takeable State.armed
  rw [hc]
  rfl

theorem takeable_countWrite (s : State) (p : Nat) : (s.countWrite p).takeable p = s.takeable p :=
  takeable_setFld (by simp [key_inst, PG_PAGE_SEQ_SEQ, regKey])

/-- With no take pending, none goes before a write (R73). -/
theorem takeFirst_idle {s : State} {p : Nat} (ht : s.takeable p = false)
    (hl : ∀ n, s.latchPort p = some n → s.latchDue n = false) (off : Nat) : s.takeFirst p off = s := by
  unfold State.takeFirst
  cases hn : s.latchPort p with
  | none => simp [ht]
  | some n => simp [hl n hn, ht]

theorem latchPort_setFld (s : State) (f : Fld) (v p : Nat) : (s.setFld f v).latchPort p = s.latchPort p := rfl

theorem latchDue_setFld (s : State) (f : Fld) (v n : Nat) : (s.setFld f v).latchDue n = s.latchDue n := rfl

/-- The count of a write moves no take before it. -/
theorem takeFirst_countWrite {s : State} {p : Nat} (ht : s.takeable p = false)
    (hl : ∀ n, s.latchPort p = some n → s.latchDue n = false) (off : Nat) :
    (s.countWrite p).takeFirst p off = s.countWrite p := by
  refine takeFirst_idle ((takeable_countWrite s p).trans ht) ?_ off
  intro n
  rw [countWrite_eq, latchPort_setFld, latchDue_setFld]
  exact hl n

section
variable {s : State} {q : Req} {p off : Nat} (hf : s.takeFirst p off = s) (v : Word)
include hf

/-- A write of a first half is held (R62). -/
theorem regEffect_pairLo (h : isPairLo p off = true) :
    s.regEffect q p off v = s.setHeld q (regKey p off) (some (v &&& ~~~ BitVec.ofNat 32 (lowMask p off))) := by
  obtain ⟨-, hl, -⟩ := pairLo_place h
  unfold State.regEffect
  rw [hf, if_neg (by omega), if_neg (by omega), if_neg (by omega), if_neg (by omega), if_pos h,
      State.writePlain, if_pos h]

/-- A second half has no effect of its own but TIME.SET_SEC_HI's (R87). -/
theorem regEffect_pairHi (h : isPairHi p off = true) (ht : ¬ (p = 2 ∧ off = 0x0A0)) :
    s.regEffect q p off v = s.writePlain q p off v := by
  obtain ⟨-, -, hl, -⟩ := pairHi_place h
  have hp : pageBase p = 2 → p = 2 := by unfold pageBase; split_ifs <;> omega
  obtain ⟨x, hx, hb, rfl⟩ := mem_pairLos_of_hi h
  have hc := (by decide : ∀ x ∈ pairLos, (x.1 ≠ 0 ∧ x.1 ≠ 1 ∧ x.1 ≠ 3 ∧ x.1 ≠ 5 ∧ x.1 ≠ 12 ∧ x.1 ≠ 13) ∧
      ¬ (x.1 = 4 ∧ x.2 + 4 = 0x048) ∧ ¬ (x.1 = 0x68 ∧ x.2 + 4 = 0x068) ∧ ¬ (x.1 = 0x70 ∧ x.2 + 4 = 0x09C) ∧
      ¬ (x.1 = 0x80 ∧ x.2 + 4 = 0x06C)) x hx
  unfold State.regEffect
  simp only [hf, h, hb, pairHi_not_lo h, not_true_eq_false, and_false, or_false, Bool.false_eq_true, if_false]
  repeat rw [if_neg (by omega)]

end


/-! A plain write of a register. -/

theorem OnlyRegs.storeReg {s t : State} (h : OnlyRegs s t) (p off : Nat) (v : Word) :
    OnlyRegs s (t.storeReg p off v) := by
  unfold State.storeReg
  split
  · exact h
  · next r _ =>
    have hr := h.setReg (regKey p off) (storeWord r (t.reg (regKey p off)) v)
    dsimp only
    split
    · exact hr.setFld _ _
    · exact hr

theorem reg_storeReg {s : State} {p off : Nat} {r : RegRow} (hr : regRow? p off = some r) (ho : off ≠ 0x028)
    (v : Word) :
    (s.storeReg p off v).reg (regKey p off) = storeWord r (s.reg (regKey p off)) v := by
  unfold State.storeReg
  simp only [hr]
  split
  · rw [State.setBit, reg_setFld_ne, reg_setReg_same]
    simp [key_inst, PG_COMMIT_STATUS_DIRTY, regKey, ho]
  · exact reg_setReg_same _ _ _

theorem regsKept_storeReg (s : State) (p off : Nat) (v : Word) {w : Nat → Bool} (ho : w (regKey p off) = true)
    (hd : w (regKey p 0x028) = true) : RegsKept w s (s.storeReg p off v) := by
  unfold State.storeReg
  split
  · exact RegsKept.refl _ _
  · next r _ =>
    refine RegsKept.trans (regsKept_setReg s _ (storeWord r (s.reg (regKey p off)) v) ho) ?_
    dsimp only
    split
    · exact regsKept_setFld _ _ _ (by rwa [key_inst _ p rfl])
    · exact RegsKept.refl _ _

theorem writePlain_pairHi {s : State} {q : Req} {p off : Nat} (h : isPairHi p off = true) (v : Word) :
    s.writePlain q p off v = if pageBase p = 0x90 ∧ off = 0x074 then
      (s.storePair q p off v).modScan (p - 0x90) fun x => { x with addrW := true } else s.storePair q p off v := by
  unfold State.writePlain
  rw [if_neg (by simp [pairHi_not_lo h]), if_pos h]

/-- Nothing but registers, held first halves and the scan ports' own data differs between `s` and `t`. -/
def OnlyPair (s t : State) : Prop := t = { s with regs := t.regs, heldLo := t.heldLo, scans := t.scans }

namespace OnlyPair

theorem of_onlyRegs {s t : State} (h : OnlyRegs s t) : OnlyPair s t := by
  unfold OnlyPair; rw [h]

theorem trans {s t u : State} (h : OnlyPair s t) (g : OnlyPair t u) : OnlyPair s u := by
  unfold OnlyPair at *; rw [g, h]

theorem setHeld {s t : State} (h : OnlyPair s t) (q : Req) (k : Nat) (v : Option Word) : OnlyPair s (t.setHeld q k v) :=
  h.trans rfl

theorem storeReg {s t : State} (h : OnlyPair s t) (p off : Nat) (v : Word) : OnlyPair s (t.storeReg p off v) :=
  h.trans (of_onlyRegs ((OnlyRegs.refl t).storeReg p off v))

theorem modScan {s t : State} (h : OnlyPair s t) (n : Nat) (f : ScanS → ScanS) : OnlyPair s (t.modScan n f) :=
  h.trans rfl

end OnlyPair

/-- A first half that is held leaves all but registers and held halves as it was. -/
theorem heldAfterCount (s : State) (q : Req) (p k : Nat) (v : Option Word) : (s.countWrite p).setHeld q k v =
    { s with regs := ((s.countWrite p).setHeld q k v).regs, heldLo := ((s.countWrite p).setHeld q k v).heldLo } := by
  conv_lhs => rw [OnlyRegs.countWrite s p]
  rfl

theorem countWrite_scans (s : State) (p : Nat) : (s.countWrite p).scans = s.scans := by
  rw [countWrite_eq, setFld_scans]

theorem storeReg_heldLo (s : State) (p off : Nat) (v : Word) : (s.storeReg p off v).heldLo = s.heldLo := by
  rw [(OnlyRegs.refl s).storeReg p off v]

theorem storeReg_scans (s : State) (p off : Nat) (v : Word) : (s.storeReg p off v).scans = s.scans := by
  rw [(OnlyRegs.refl s).storeReg p off v]

theorem heldOf_setHeld_same (s : State) (q : Req) (k : Nat) (v : Option Word) : (s.setHeld q k v).heldOf q k = v :=
  mapGet_set_same _ _ _ _

theorem RegsKept.setHeld {w : Nat → Bool} {s t : State} (h : RegsKept w s t) (q : Req) (k : Nat) (v : Option Word) :
    RegsKept w s (t.setHeld q k v) := h

section
variable {s u : State} (q : Req) (p off : Nat) (lo v : Word)

/-- The state in which both halves of a pair have been stored. -/
def State.pairStored (u : State) (q : Req) (p off : Nat) (lo v : Word) : State :=
  ((u.setHeld q (regKey p (off - 4)) none).storeReg p (off - 4) lo).storeReg p off v

/-- Both halves of a pair come into effect in one step (R62). -/
theorem storePair_held (h : s.heldOf q (regKey p (off - 4)) = some lo) :
    s.storePair q p off v = s.pairStored q p off lo v := by
  simp only [State.storePair, h, State.pairStored]

theorem pairStored_only (h : OnlyPair s u) : OnlyPair s (u.pairStored q p off lo v) :=
  ((h.setHeld q _ none).storeReg p _ lo).storeReg p off v

theorem pairStored_scans : (u.pairStored q p off lo v).scans = u.scans := by
  rw [State.pairStored, storeReg_scans, storeReg_scans]
  rfl

theorem pairStored_held : (u.pairStored q p off lo v).heldOf q (regKey p (off - 4)) = none := by
  rw [State.heldOf, State.pairStored, storeReg_heldLo, storeReg_heldLo]
  exact heldOf_setHeld_same u q _ none

theorem pairStored_hi {r : RegRow} (hr : regRow? p off = some r) (ho : 0x02C ≤ off) :
    (u.pairStored q p off lo v).reg (regKey p off) = storeWord r (u.reg (regKey p off)) v := by
  rw [State.pairStored, reg_storeReg hr (by omega)]
  congr 1
  refine regsKept_storeReg _ p (off - 4) lo (w := fun k => [regKey p (off - 4), regKey p 0x028].contains k) ?_ ?_ _ ?_
  all_goals simp [regKey]
  omega

theorem pairStored_lo {r : RegRow} (hr : regRow? p (off - 4) = some r) (ho : 0x030 ≤ off) :
    (u.pairStored q p off lo v).reg (regKey p (off - 4)) = storeWord r (u.reg (regKey p (off - 4))) lo := by
  have hk : (u.pairStored q p off lo v).reg (regKey p (off - 4)) =
      ((u.setHeld q (regKey p (off - 4)) none).storeReg p (off - 4) lo).reg (regKey p (off - 4)) := by
    refine regsKept_storeReg _ p off v (w := fun k => [regKey p off, regKey p 0x028].contains k) ?_ ?_ _ ?_
    all_goals simp [regKey]
    omega
  rw [hk, reg_storeReg hr (by omega)]
  rfl

theorem regsKept_pairStored (h : RegsKept (fun k => k == regKey p 0x01C) s u) :
    RegsKept (fun k => [regKey p (off - 4), regKey p off, regKey p 0x01C, regKey p 0x028].contains k) s
      (u.pairStored q p off lo v) := by
  have hh : RegsKept (fun k => [regKey p (off - 4), regKey p off, regKey p 0x01C, regKey p 0x028].contains k) s
      (u.setHeld q (regKey p (off - 4)) none) :=
    (h.mono (by simp +contextual)).setHeld _ _ _
  exact (hh.trans (regsKept_storeReg _ p _ lo (by simp) (by simp))).trans
      (regsKept_storeReg _ p off v (by simp) (by simp))

end

/-! Reads. -/

theorem heldOf_countWrite (s : State) (q : Req) (p k : Nat) : (s.countWrite p).heldOf q k = s.heldOf q k := by
  unfold State.heldOf
  rw [countWrite_eq, setFld_heldLo]

theorem snap_setSnap_same (s : State) (q : Req) (k : Nat) (v : Word) : (s.setSnap q k v).snap q k = v :=
  mapGet_set_same _ _ _ _

/-- The requesters' snapshots lie apart. -/
theorem snap_setSnap_other (s : State) {q q' : Req} {j k : Nat} (v : Word) (hq : q' ≠ q) (hj : j < 2 ^ 24)
    (hk : k < 2 ^ 24) :
    (s.setSnap q j v).snap q' k = s.snap q' k := by
  refine mapGet_set_ne _ _ _ ?_
  have hc : reqCode q' ≠ reqCode q := by cases q <;> cases q' <;> simp_all [reqCode]
  unfold reqKey
  omega

/-- A first half is read as it stands, its second half copied (R62). -/
theorem regRead_pairLo {p off : Nat} (h : isPairLo p off = true) (s : State) (q : Req) :
    s.regRead q p off =
      (s.reg (regKey p off), false, s.setSnap q (regKey p (off + 4)) (s.reg (regKey p (off + 4)))) := by
  have hn : ¬ (pageBase p = 2 ∧ off = 0x040) :=
    (by decide : ∀ x ∈ pairLos, ¬ (x.1 = 2 ∧ x.2 = 0x040)) _ (mem_pairLos h)
  unfold State.regRead
  rw [if_neg hn, if_pos h]

/-- A second half is read from the requester's copy (R62). -/
theorem regRead_pairHi {p off : Nat} (h : isPairHi p off = true) (s : State) (q : Req) :
    s.regRead q p off = (s.snap q (regKey p off), false, s) := by
  obtain ⟨-, -, hl, -⟩ := pairHi_place h
  have hsnap : snapOff p off = true := by simp [snapOff, h]
  have hplain : s.plainRead q p off = s.snap q (regKey p off) := by
    unfold State.plainRead
    rw [if_neg (by omega), if_pos hsnap]
  obtain ⟨x, hx, hb, rfl⟩ := mem_pairLos_of_hi h
  have hc := (by decide : ∀ x ∈ pairLos, ¬ (x.1 = 2 ∧ x.2 + 4 = 0x040) ∧ x.1 ≠ 0x20 ∧ (x.1 = 0x10 → x.2 + 4 < 0x084) ∧
      (x.1 = 0x40 → x.2 + 4 < 0x140) ∧ (x.1 = 0x50 → 0x06C < x.2 + 4) ∧ (x.1 = 0xA0 → 0x068 < x.2 + 4)) x hx
  unfold State.regRead
  simp only [hb, pairHi_not_lo h, Bool.false_eq_true, if_false, hplain]
  repeat rw [if_neg (by omega)]

/-- The vector arms are no pair: either register is read as it stands (R62). -/
theorem regRead_vecArm {off : Nat} (h : off = 0x048 ∨ off = 0x04C) (s : State) (q : Req) :
    s.regRead q 1 off = (s.reg (regKey 1 off), false, s) := by
  have hlo : isPairLo 1 off = false := by obtain rfl | rfl := h <;> decide
  have hsnap : snapOff 1 off = false := by obtain rfl | rfl := h <;> decide
  have hb : pageBase 1 = 1 := rfl
  unfold State.regRead State.plainRead
  simp only [hb, hlo, hsnap, Bool.false_eq_true, if_false]
  repeat rw [if_neg (by omega)]

theorem exec_pairHiWrite (q : Req) (p off : Nat) (v : Word) (s : State) :
    exec (.pairHiWrite q p off v) s = .next (s.regWrite q p off v) := rfl

theorem answer_good (s : State) (q : Req) (w : Word) : s.answer q w false = s.emit (.data q [w]) := by
  simp [State.answer]

end Sys2Proof.Machine

open Sys2Proof Sys2Proof.Machine

/-- Settles O9: the two halves by what a read and a write of each do at the arbiter. -/
theorem pairsActTogether : Obligations.PairsActTogether := by
  unfold Obligations.PairsActTogether
  intro q p off v s hg ht hl
  have hp := lt_of_gate_served hg
  have hfirst : (s.countWrite p).takeFirst p off = s.countWrite p :=
    takeFirst_countWrite ht hl off
  refine ⟨?readLo, ?readHi, ?writeLo, ?writeHi, ?vecArm⟩
  case readLo =>
    intro h
    obtain ⟨h4, -, hlt⟩ := pairLo_place h
    rw [exec_snapshotRead hg, dword_off h4 (by omega), regRead_pairLo h, answer_good]
    exact ⟨_, rfl, rfl, snap_setSnap_same _ _ _ _,
      fun q' k hq hk => snap_setSnap_other s _ hq (by unfold regKey; omega) hk, rfl⟩
  case readHi =>
    intro h
    obtain ⟨-, h4, -, hlt⟩ := pairHi_place h
    rw [exec_snapshotRead hg, dword_off h4 (by omega), regRead_pairHi h, answer_good]
  case writeLo =>
    intro h hw hm
    obtain ⟨-, hle, -⟩ := pairLo_place h
    rw [exec_write, regWrite_accepted hg (by omega) hw hm, regEffect_pairLo hfirst v h]
    exact ⟨_, rfl, heldOf_setHeld_same _ _ _ _, (regsKept_countWrite s p (by simp)).setHeld _ _ _,
        heldAfterCount s q p _ _⟩
  case writeHi =>
    intro lo rl rh h hset hw hm hheld hrl hrh
    obtain ⟨-, -, hle, -⟩ := pairHi_place h
    have hu := OnlyRegs.countWrite s p
    have hheld' : (s.countWrite p).heldOf q (regKey p (off - 4)) = some lo := by
      rwa [heldOf_countWrite]
    have hcount (k : Nat) (hk : k = regKey p off ∨ k = regKey p (off - 4)) : (s.countWrite p).reg k = s.reg k :=
      reg_countWrite (by unfold regKey at *; omega)
    have hlo := pairStored_lo (u := s.countWrite p) q p off lo v hrl (by omega)
    have hhi := pairStored_hi (u := s.countWrite p) q p off lo v hrh (by omega)
    rw [hcount _ (.inr rfl)] at hlo
    rw [hcount _ (.inl rfl)] at hhi
    have hkept := regsKept_pairStored (u := s.countWrite p) q p off lo v (regsKept_countWrite s p (by simp))
    have honly := pairStored_only q p off lo v (.of_onlyRegs hu)
    have hscans := pairStored_scans (u := s.countWrite p) q p off lo v
    have hnone := pairStored_held (u := s.countWrite p) q p off lo v
    rw [exec_pairHiWrite, regWrite_accepted hg (by omega) hw hm, regEffect_pairHi hfirst v h hset, writePlain_pairHi h,
      storePair_held q p off lo v hheld']
    split
    · next hb => exact ⟨_, rfl, hlo, hhi, hnone, hkept, honly.modScan _ _, fun hp => absurd hb.1 hp⟩
    · exact ⟨_, rfl, hlo, hhi, hnone, hkept, honly, fun _ => hscans.trans (countWrite_scans s p)⟩
  case vecArm =>
    rintro rfl h
    rw [exec_snapshotRead hg, dword_off (by omega) (by omega), regRead_vecArm h, answer_good]
end

section
/-! PROOF. Commit units (R68 to R73): what a refusal, an arming and a cancel leave in COMMIT_STATUS and in the unit. -/

namespace Sys2Proof.Machine

open Sys2Proof

namespace OnlyRegs

variable {s t : State}

theorem inForce (h : OnlyRegs s t) : t.inForce = s.inForce := by rw [h]

theorem modeOk (h : OnlyRegs s t) (p m : Nat) : t.modeOk p m = s.modeOk p m := by rw [h]; rfl

theorem unit (h : OnlyRegs s t) (p : Nat) : t.unit p = s.unit p := by rw [h]; rfl

theorem time (h : OnlyRegs s t) : t.time = s.time := by rw [h]

theorem nowNs (h : OnlyRegs s t) : t.nowNs = s.nowNs := by rw [State.nowNs, h.time, State.nowNs]

theorem st32 (h : OnlyRegs s t) : t.st32 = s.st32 := by rw [State.st32, h.nowNs, State.st32]

theorem setUnit_eq (h : OnlyRegs s t) (p : Nat) (u : CommitUnit) :
    t.setUnit p u = { s with regs := (t.setUnit p u).regs, commits := (t.setUnit p u).commits } := by
  conv_lhs => rw [h]
  conv_rhs => rw [h]
  rfl

end OnlyRegs

theorem inForce_of_quiet {s t : State} (h : Quiet s t) : t.inForce = s.inForce := by rw [h]

theorem unit_of_quiet {s t : State} (h : Quiet s t) (p : Nat) : t.unit p = s.unit p := by rw [h]; rfl

@[simp] theorem unit_setUnit_same (s : State) (p : Nat) (u : CommitUnit) : (s.setUnit p u).unit p = u :=
  mapGet_set_same _ _ _ _

theorem unit_setUnit_ne (s : State) {p k : Nat} (u : CommitUnit) (h : k ≠ p) : (s.setUnit p u).unit k = s.unit k :=
  mapGet_set_ne _ _ _ h

/-! COMMIT_STATUS. -/

section
variable (s : State) (p st reason : Nat)

theorem commitState_setCommit (h : st < 8) : (s.setCommit p st reason).commitState p = st := by
  unfold State.commitState State.setCommit
  rw [fld_setFld_apart _ (PG_COMMIT_STATUS_REASON.inst p) (PG_COMMIT_STATUS_STATE.inst p) _ rfl
    (by simp [Fld.inst, PG_COMMIT_STATUS_REASON])
    (by simp [Fld.inst, PG_COMMIT_STATUS_REASON, PG_COMMIT_STATUS_STATE]),
    fld_setFld_same _ (PG_COMMIT_STATUS_STATE.inst p) _ (by simp [Fld.inst, PG_COMMIT_STATUS_STATE])]
  exact Nat.mod_eq_of_lt h

theorem reason_setCommit : (s.setCommit p st reason).fld (PG_COMMIT_STATUS_REASON.inst p) = reason % 16 :=
  fld_setFld_same _ (PG_COMMIT_STATUS_REASON.inst p) _ (by simp [Fld.inst, PG_COMMIT_STATUS_REASON])

theorem onlyRegs_setCommit : OnlyRegs s (s.setCommit p st reason) := ((OnlyRegs.refl s).setFld _ _).setFld _ _

end

/-! A refusal (R72). -/

section
variable (s : State) (p mode reason : Nat)

theorem commitState_refuseCommit : (s.refuseCommit p mode reason).commitState p = cmRefused :=
  (fld_raise_common _ p 1 _ PG_COMMIT_STATUS_STATE rfl (by decide) (by decide)).trans
    (commitState_setCommit s p cmRefused reason (by decide))

theorem reason_refuseCommit :
    (s.refuseCommit p mode reason).fld (PG_COMMIT_STATUS_REASON.inst p) = reason % 16 :=
  (fld_raise_common _ p 1 _ PG_COMMIT_STATUS_REASON rfl (by decide) (by decide)).trans
      (reason_setCommit s p cmRefused reason)

theorem event_refuseCommit : ((s.refuseCommit p mode reason).reg (regKey p 0x010)).getLsbD 1 = true :=
  event_raise _ p 1 _ (by decide)

theorem inForce_refuseCommit : (s.refuseCommit p mode reason).inForce = s.inForce :=
  (inForce_of_quiet (quiet_raise _ p 1 _)).trans
    ((setUnit_inForce _ _ _).trans (onlyRegs_setCommit s p cmRefused reason).inForce)

end

/-! An arming (R70). -/

section
variable (s : State) (p m target : Nat) (skip : Bool)

theorem commitState_armUnit : (s.armUnit p m target skip).commitState p = cmArmed :=
  commitState_setCommit s p cmArmed 0 (by decide)

theorem inForce_armUnit : (s.armUnit p m target skip).inForce = s.inForce :=
  (setUnit_inForce _ _ _).trans (onlyRegs_setCommit s p cmArmed 0).inForce

theorem unit_armUnit :
    (s.armUnit p m target skip).unit p = { s.unit p with mode := m, target := target, skip := skip, due := none } :=
  unit_setUnit_same _ _ _

end

/-- A flood queues cells on the ports and changes no value in force. -/
theorem inForce_flood (s : State) (kind content : Nat) : (s.flood kind content).inForce = s.inForce := by
  have hfold (c : Cell) (l : List Nat) (t : State) :
      (l.foldl (fun (t : State) (p : Nat) => t.queueCell p c false) t).inForce = t.inForce := by
    induction l generalizing t with
    | nil => rfl
    | cons p l ih => exact ih _
  exact hfold _ _ _

theorem inForce_nameRate (s : State) (p n : Nat) : (s.nameRate p n).inForce = s.inForce := by
  unfold State.nameRate
  dsimp only
  split
  · exact inForce_flood _ _ _
  · rfl

theorem inForce_armTransit (s : State) (p : Nat) (cut : Bool) : (s.armTransit p cut).inForce = s.inForce := by
  unfold State.armTransit
  split
  · exact inForce_armUnit _ _ _ _ _
  · exact (inForce_nameRate _ _ _).trans (inForce_armUnit _ _ _ _ _)

theorem inForce_armTransitN (s : State) (p : Nat) (cut : Bool) : (s.armTransitN p cut).inForce = s.inForce := by
  unfold State.armTransitN
  dsimp only
  split
  · exact inForce_refuseCommit _ _ _ _
  · split
    · exact inForce_refuseCommit _ _ _ _
    · exact (inForce_nameRate _ _ _).trans (inForce_armUnit _ _ _ _ _)

theorem inForce_armTime (s : State) (p : Nat) : (s.armTime p).inForce = s.inForce := by
  unfold State.armTime
  dsimp only
  split
  · exact inForce_refuseCommit _ _ _ _
  · split
    · exact inForce_refuseCommit _ _ _ _
    · exact inForce_armUnit _ _ _ _ _

/-- An arming that takes nothing at once brings nothing into force. -/
theorem inForce_armCommit (s : State) (p m : Nat) (cut : Bool) (h : ¬ (m = mdNow ∧ isCore p = true)) :
    (s.armCommit p m cut).inForce = s.inForce := by
  unfold State.armCommit
  split
  · exact inForce_of_quiet (quiet_raise _ p 1 _)
  · split
    · exact inForce_refuseCommit _ _ _ _
    · split
      · next hm =>
        dsimp only
        rw [if_neg fun hc => h ⟨hm, hc⟩]
        exact inForce_armUnit _ _ _ _ _
      · split
        · exact inForce_armTransit _ _ _
        · split
          · exact inForce_armTime _ _
          · exact inForce_armTransitN _ _ _

/-! What an arming comes to (R70). -/

section
variable {s : State} {p m : Nat} {cut : Bool}

theorem armCommit_armed (h : s.armed p = true) : s.armCommit p m cut = s.raise p 1 (rsBusy + m * 16) := if_pos h

variable (ha : s.armed p = false)
include ha

theorem armCommit_mode (hm : s.modeOk p m = false) : s.armCommit p m cut = s.refuseCommit p m rsMode := by
  simp [State.armCommit, ha, hm]

variable (hm : s.modeOk p m = true)
include hm

theorem armCommit_now (h0 : m = mdNow) (hc : isCore p = false) : s.armCommit p m cut = s.armUnit p mdNow 0 false := by
  subst h0
  unfold State.armCommit
  rw [if_neg (by simp [ha]), if_neg (by simp [hm]), if_pos rfl]
  exact if_neg (by simp [hc])

theorem armCommit_time (h0 : m = mdTime) : s.armCommit p m cut = s.armTime p := by
  subst h0
  unfold State.armCommit
  rw [if_neg (by simp [ha]), if_neg (by simp [hm]), if_neg (by decide), if_neg (by decide), if_pos rfl]

theorem armCommit_transitN (h0 : m = mdTransitN) : s.armCommit p m cut = s.armTransitN p cut := by
  subst h0
  unfold State.armCommit
  rw [if_neg (by simp [ha]), if_neg (by simp [hm]), if_neg (by decide), if_neg (by decide), if_neg (by decide)]

end

section
variable {s : State} {p : Nat}

theorem armTime_noTime (h : s.time.transit = none) : s.armTime p = s.refuseCommit p mdTime rsNoTime := by
  simp [State.armTime, h]

theorem armTransitN_noTime {cut : Bool} (h : s.time.transit = none) :
    s.armTransitN p cut = s.refuseCommit p mdTransitN rsNoTime := by
  simp [State.armTransitN, h]

variable (h : s.time.transit ≠ none)
include h

theorem armTime_late (hd : (s.fld (PG_COMMIT_TIME_TIME.inst p) + 2 ^ 32 - s.st32) % 2 ^ 32 = 0 ∨
    2 ^ 31 ≤ (s.fld (PG_COMMIT_TIME_TIME.inst p) + 2 ^ 32 - s.st32) % 2 ^ 32) :
    s.armTime p = s.refuseCommit p mdTime rsLate := by
  unfold State.armTime
  rw [if_neg (by simpa using h), if_pos hd]

theorem armTime_ahead (hd : ¬ ((s.fld (PG_COMMIT_TIME_TIME.inst p) + 2 ^ 32 - s.st32) % 2 ^ 32 = 0 ∨
    2 ^ 31 ≤ (s.fld (PG_COMMIT_TIME_TIME.inst p) + 2 ^ 32 - s.st32) % 2 ^ 32)) :
    s.armTime p =
      s.armUnit p mdTime (s.nowNs + (s.fld (PG_COMMIT_TIME_TIME.inst p) + 2 ^ 32 - s.st32) % 2 ^ 32) false := by
  unfold State.armTime
  rw [if_neg (by simpa using h), if_neg hd]

end

/-! A cancel and a cut-off (R71, R73). -/

/-- The state in which the armed commit of page `p` has been cancelled. -/
def State.cancelled (s : State) (p : Nat) : State :=
  (s.setCommit p cmCancelled 0).setUnit p { s.unit p with due := none, skip := false }

theorem cancelCommit_alone {s : State} {p : Nat} {both : Bool} (ha : s.armed p = true)
    (h : both = false ∨ s.takeable p = false) : s.cancelCommit p both = s.cancelled p := by
  unfold State.cancelCommit
  rw [if_pos ha, if_neg]
  · rfl
  · rintro ⟨hb, ht⟩
    obtain h | h := h
    · simp [hb] at h
    · simp [ht] at h

/-- The take wins where both are pending together. -/
theorem cancelCommit_take {s : State} {p : Nat} (ha : s.armed p = true) (ht : s.takeable p = true) :
    s.cancelCommit p true = s.takeCommit p := by
  unfold State.cancelCommit
  rw [if_pos ha, if_pos ⟨rfl, ht⟩]

theorem commitState_cancelled (s : State) (p : Nat) : (s.cancelled p).commitState p = cmCancelled :=
  commitState_setCommit s p cmCancelled 0 (by decide)

theorem inForce_cancelled (s : State) (p : Nat) : (s.cancelled p).inForce = s.inForce :=
  (setUnit_inForce _ _ _).trans (onlyRegs_setCommit s p cmCancelled 0).inForce

theorem due_cancelled (s : State) (p : Nat) : ((s.cancelled p).unit p).due = none := by
  rw [State.cancelled, unit_setUnit_same]

theorem cancelled_eq {s t : State} (h : OnlyRegs s t) (p : Nat) :
    t.cancelled p = { s with regs := (t.cancelled p).regs, commits := (t.cancelled p).commits } :=
  (h.trans (onlyRegs_setCommit t p cmCancelled 0)).setUnit_eq p _

theorem exec_commitCutoff {s : State} {p n inst : Nat} (hn : s.time.nextTransit = some (n, inst))
    (hd : inst ≤ s.time.now + commitLead p) (hc : s.cutPort p = none) :
    exec (.commitCutoff p) s = .next (s.setUnit p { s.unit p with cut := true }) := by
  show execCommitCutoff p s = _
  simp [execCommitCutoff, hn, hd, hc]

/-! A write of COMMIT (R70, R73). -/

/-- The state in which an accepted write of COMMIT acts: counted, its mode stored. -/
def State.commitWritten (s : State) (p : Nat) (v : Word) : State :=
  (s.countWrite p).setFld (PG_COMMIT_MODE.inst p) (natBits v.toNat 0 2)

section
variable (s : State) (p : Nat) (v : Word)

theorem onlyRegs_commitWritten : OnlyRegs s (s.commitWritten p v) := (OnlyRegs.countWrite s p).setFld _ _

theorem fld_commitWritten {f : Fld} (hp : f.page = 0) (ho : f.off ≠ 0x01C) (hm : f.off ≠ 0x020) :
    (s.commitWritten p v).fld (f.inst p) = s.fld (f.inst p) := by
  unfold State.commitWritten
  rw [fld_setFld_ne, fld_countWrite]
  all_goals
    rw [key_inst f p hp]
    simp [key_inst, PG_COMMIT_MODE, regKey, ho, hm]

theorem armed_commitWritten : (s.commitWritten p v).armed p = s.armed p := by
  unfold State.armed State.commitState
  rw [fld_commitWritten s p v rfl (by decide) (by decide)]

end

section
variable {s : State} {q : Req} {p : Nat} {v : Word} (hg : s.gate q p = .served) (hw : writableOff p 0x020 = true)
  (hm : s.mayWrite q p = true)
include hg hw hm

theorem exec_commitArm {cut : Bool} (h4 : v.getLsbD 4 = true) (h5 : v.getLsbD 5 = false) :
    exec (.commitArm q p v cut false) s = .next ((s.commitWritten p v).armCommit p (natBits v.toNat 0 2) cut) := by
  show Host.Outcome.next (s.write q p 0x020 v _) = _
  rw [write_accepted s q p _ v _ hg hw (not_barred hm)]
  simp only [State.commitWrite, State.commitWritten, h4, h5, Bool.false_eq_true, and_false, if_true, if_false]

theorem exec_commitCancel {both : Bool} (h4 : v.getLsbD 4 = false) (h5 : v.getLsbD 5 = true) :
    exec (.commitCancel q p v both) s = .next ((s.commitWritten p v).cancelCommit p both) := by
  show Host.Outcome.next (s.write q p 0x020 v _) = _
  rw [write_accepted s q p _ v _ hg hw (not_barred hm)]
  simp only [State.commitWrite, State.commitWritten, h4, h5, Bool.false_eq_true, if_true, if_false]

end

end Sys2Proof.Machine

open Sys2Proof Sys2Proof.Machine

/-- Settles O10: the causes of refusal in their order, an arming that meets none, a cancel and a cut-off. -/
theorem commitArmingAndCancel : Obligations.CommitArmingAndCancel := by
  unfold Obligations.CommitArmingAndCancel
  intro q p v s
  refine ⟨?arm, ?cancel, ?cutoff⟩
  case arm =>
    intro cut hg hw hm h4 h5 hcore
    have hu := onlyRegs_commitWritten s p v
    rw [exec_commitArm hg hw hm h4 h5]
    refine ⟨_, rfl, (inForce_armCommit _ p _ cut hcore).trans hu.inForce, ?_⟩
    generalize hus : s.commitWritten p v = u at hu ⊢
    have harmed : u.armed p = s.armed p := hus ▸ armed_commitWritten s p v
    have hmode := hu.modeOk p
    have htime : u.fld (PG_COMMIT_TIME_TIME.inst p) = s.fld (PG_COMMIT_TIME_TIME.inst p) :=
      hus ▸ fld_commitWritten s p v rfl (by decide) (by decide)
    intro m d
    have hd : (u.fld (PG_COMMIT_TIME_TIME.inst p) + 2 ^ 32 - u.st32) % 2 ^ 32 = d := by rw [htime, hu.st32]
    rw [← harmed, ← hmode, ← hu.time]
    split_ifs with ha hok hnone hlate
    · rw [armCommit_armed ha]
      exact ⟨(fld_raise_common _ p 1 _ PG_COMMIT_STATUS_STATE rfl (by decide) (by decide)).trans (beq_iff_eq.1 ha),
        (unit_of_quiet (quiet_raise u p 1 _) p).trans (hu.unit p), event_raise u p 1 _ (by decide)⟩
    · rw [armCommit_mode (by simpa using ha) hok]
      exact ⟨commitState_refuseCommit _ _ _ _, reason_refuseCommit _ _ _ _⟩
    all_goals
      replace ha : u.armed p = false := by simpa using ha
      replace hok : u.modeOk p m = true := by simpa using hok
    · obtain ⟨hm2 | hm3, hnt⟩ := hnone
      · rw [armCommit_time ha hok hm2, armTime_noTime hnt]
        exact ⟨commitState_refuseCommit _ _ _ _, reason_refuseCommit _ _ _ _⟩
      · rw [armCommit_transitN ha hok hm3, armTransitN_noTime hnt]
        exact ⟨commitState_refuseCommit _ _ _ _, reason_refuseCommit _ _ _ _⟩
    · obtain ⟨hm2, hlate⟩ := hlate
      have hnt : u.time.transit ≠ none := fun hnt => hnone ⟨.inl hm2, hnt⟩
      rw [armCommit_time ha hok hm2, armTime_late hnt (by rwa [hd])]
      exact ⟨commitState_refuseCommit _ _ _ _, reason_refuseCommit _ _ _ _⟩
    · have hnow (h0 : m = mdNow) : u.armCommit p m cut = u.armUnit p mdNow 0 false :=
        armCommit_now ha hok h0 (Bool.eq_false_iff.2 fun hc => hcore ⟨h0, hc⟩)
      have hahead (h2 : m = mdTime) : u.armCommit p m cut = u.armUnit p mdTime (s.nowNs + d) false := by
        rw [armCommit_time ha hok h2, armTime_ahead (fun hnt => hnone ⟨.inl h2, hnt⟩)
            (by rw [hd]; exact fun hl => hlate ⟨h2, hl⟩),
          hd, hu.nowNs]
      refine ⟨?_, fun h2 => ?_⟩
      · rintro (h0 | h2)
        · rw [hnow h0, h0]
          exact ⟨commitState_armUnit _ _ _ _ _, by rw [unit_armUnit]⟩
        · rw [hahead h2, h2]
          exact ⟨commitState_armUnit _ _ _ _ _, by rw [unit_armUnit]⟩
      · rw [hahead h2, unit_armUnit]
  case cancel =>
    intro both hg hw hm h4 h5 ha u
    have hus : s.commitWritten p v = u := rfl
    have hu : OnlyRegs s u := onlyRegs_commitWritten s p v
    have hua : u.armed p = true := (armed_commitWritten s p v).trans ha
    rw [exec_commitCancel hg hw hm h4 h5, hus]
    clear_value u
    refine ⟨fun h => ?_, fun hb ht => ?_⟩
    · rw [cancelCommit_alone hua h]
      exact ⟨_, rfl, commitState_cancelled u p, (inForce_cancelled u p).trans hu.inForce, due_cancelled u p,
          cancelled_eq hu p⟩
    · rw [hb, cancelCommit_take hua ht]
  case cutoff =>
    intro n inst hn hdue hcut
    rw [exec_commitCutoff hn hdue hcut]
    exact ⟨_, rfl, by rw [unit_setUnit_same], fun k hk => unit_setUnit_ne s _ hk, rfl⟩
end

section
/-! PROOF. A commit's take (O11, R68, R69, R72): the page's shadow in force, its status, and what stays. -/

namespace Sys2Proof.Machine

open Sys2Proof

/-! The values in force after a take (R68). -/

section
variable {β : Type} (d : Nat → β) {k : Nat}

theorem mapGet_filter_kept {f : Nat × β → Bool} (m : List (Nat × β)) (h : ∀ q, q.1 = k → f q = true) :
    mapGet d (m.filter f) k = mapGet d m k := by
  induction m with
  | nil => rfl
  | cons q m ih =>
    by_cases hq : q.1 = k
    · simp [mapGet, h q hq, hq]
    · by_cases hf : f q = true <;> simp [mapGet, hf, hq, ih]

theorem mapGet_filter_dropped {f : Nat × β → Bool} (m : List (Nat × β)) (h : ∀ q, q.1 = k → f q = false) :
    mapGet d (m.filter f) k = d k := by
  induction m with
  | nil => rfl
  | cons q m ih =>
    by_cases hq : q.1 = k
    · simp [h q hq, ih]
    · by_cases hf : f q = true <;> simp [mapGet, hf, hq, ih]

variable [DecidableEq β]

theorem mapGet_foldl_set_ne (l : List (Nat × β)) (h : ∀ q ∈ l, q.1 ≠ k) (m : List (Nat × β)) :
    mapGet d (l.foldl (fun m q => mapSet d m q.1 q.2) m) k = mapGet d m k := by
  induction l generalizing m with
  | nil => rfl
  | cons q l ih =>
    rw [List.foldl_cons, ih (fun r hr => h r (List.mem_cons_of_mem q hr)),
      mapGet_set_ne d m q.2 (h q List.mem_cons_self).symm]

/-- A map written into one that has nothing at `k` reads at `k` as the map written. -/
theorem mapGet_foldl_set (l : List (Nat × β)) (hl : mapWf d l = true) (m : List (Nat × β)) (hm : mapGet d m k = d k) :
    mapGet d (l.foldl (fun m q => mapSet d m q.1 q.2) m) k = mapGet d l k := by
  induction l generalizing m with
  | nil => exact hm
  | cons q l ih =>
    obtain ⟨-, hlt, hwf⟩ := (mapWf_cons d q l).1 hl
    rw [List.foldl_cons]
    by_cases hq : q.1 = k
    · rw [mapGet_foldl_set_ne d l (fun r hr => by have := hlt r hr; omega)]
      simp [mapGet, hq]
    · rw [ih hwf _ ((mapGet_set_ne d m q.2 (Ne.symm hq)).trans hm)]
      simp [mapGet, hq]

end

/-- The whole shadow of the page is in force. -/
theorem act_shadowIn {s : State} {p : Nat} (hwf : mapWf regReset s.regs = true) {f : Fld} (hf : f.key / 4096 = p) :
    (s.shadowIn p).act f = s.fld f := by
  have hk : mapGet regReset (s.shadowIn p).inForce f.key = s.reg f.key :=
    calc mapGet regReset (s.shadowIn p).inForce f.key = mapGet regReset (s.pageCopy p) f.key :=
          mapGet_foldl_set regReset _ (mapWf_filter regReset _ _ hwf) _
            (mapGet_filter_dropped regReset _ fun q hq => by simp [hq, hf])
      _ = s.reg f.key := mapGet_filter_kept regReset _ fun q hq => by simp [hq, hf]
  unfold State.act State.fld
  rw [hk]

/-- What is in force of other pages stays. -/
theorem act_shadowIn_other (s : State) {p : Nat} {f : Fld} (hf : f.key / 4096 ≠ p) :
    (s.shadowIn p).act f = s.act f := by
  have hk : mapGet regReset (s.shadowIn p).inForce f.key = mapGet regReset s.inForce f.key := by
    refine (mapGet_foldl_set_ne regReset _ (fun q hq => ?_) _).trans
      (mapGet_filter_kept regReset _ fun q hq => by simp [hq, hf])
    have hpage : q.1 / 4096 = p := by simpa using (List.mem_filter.1 hq).2
    intro hk
    exact hf (hk ▸ hpage)
  unfold State.act
  rw [hk]

/-! The state a take leaves (R72). -/

theorem fld_setUnit (s : State) (p : Nat) (u : CommitUnit) (f : Fld) : (s.setUnit p u).fld f = s.fld f := rfl

/-- The state in which a commit of page `p` has come into force, before its event. -/
def State.committed (s : State) (p frame : Nat) : State :=
  ((((s.shadowIn p).setCommit p cmTaken 0).setFld (PG_COMMIT_STATUS_TAKEN_FRAME.inst p) frame).setUnit p
    { s.unit p with due := none, skip := false, taken := BitVec.ofNat 32 s.st32 }).setFld
        (PG_COMMIT_STATUS_DIRTY.inst p) 0

section
variable (s : State) (p frame : Nat)

theorem commitState_committed : (s.committed p frame).commitState p = cmTaken := by
  unfold State.committed State.commitState
  rw [fld_setFld_apart _ (PG_COMMIT_STATUS_DIRTY.inst p) (PG_COMMIT_STATUS_STATE.inst p) _ rfl
      (by simp [Fld.inst, PG_COMMIT_STATUS_DIRTY]) (by simp [Fld.inst, PG_COMMIT_STATUS_DIRTY, PG_COMMIT_STATUS_STATE]),
    fld_setUnit, fld_setFld_apart _ (PG_COMMIT_STATUS_TAKEN_FRAME.inst p) (PG_COMMIT_STATUS_STATE.inst p) _ rfl
      (by simp [Fld.inst, PG_COMMIT_STATUS_TAKEN_FRAME])
      (by simp [Fld.inst, PG_COMMIT_STATUS_TAKEN_FRAME, PG_COMMIT_STATUS_STATE])]
  exact commitState_setCommit _ p cmTaken 0 (by decide)

theorem takenFrame_committed : (s.committed p frame).fld (PG_COMMIT_STATUS_TAKEN_FRAME.inst p) = frame % 2 ^ 16 := by
  unfold State.committed
  rw [fld_setFld_apart _ (PG_COMMIT_STATUS_DIRTY.inst p) (PG_COMMIT_STATUS_TAKEN_FRAME.inst p) _ rfl
      (by simp [Fld.inst, PG_COMMIT_STATUS_DIRTY])
      (by simp [Fld.inst, PG_COMMIT_STATUS_DIRTY, PG_COMMIT_STATUS_TAKEN_FRAME]), fld_setUnit,
    fld_setFld_same _ (PG_COMMIT_STATUS_TAKEN_FRAME.inst p) frame (by simp [Fld.inst, PG_COMMIT_STATUS_TAKEN_FRAME])]
  rfl

theorem dirty_committed : (s.committed p frame).fld (PG_COMMIT_STATUS_DIRTY.inst p) = 0 :=
  fld_setFld_same _ (PG_COMMIT_STATUS_DIRTY.inst p) 0 (by simp [Fld.inst, PG_COMMIT_STATUS_DIRTY])

end

/-- Nothing but registers, values in force, commit units, records and outputs differs between `s` and `t`. -/
def OnlyCommit (s t : State) : Prop :=
  t = { s with regs := t.regs, inForce := t.inForce, commits := t.commits, recQ := t.recQ, out := t.out }

namespace OnlyCommit

variable {s t : State}

theorem refl (s : State) : OnlyCommit s s := rfl

theorem trans {u : State} (h : OnlyCommit s t) (g : OnlyCommit t u) : OnlyCommit s u := by
  unfold OnlyCommit at *; rw [g, h]

theorem setFld (h : OnlyCommit s t) (f : Fld) (v : Nat) : OnlyCommit s (t.setFld f v) := h.trans rfl

theorem setUnit (h : OnlyCommit s t) (p : Nat) (u : CommitUnit) : OnlyCommit s (t.setUnit p u) := h.trans rfl

theorem setCommit (h : OnlyCommit s t) (p st r : Nat) : OnlyCommit s (t.setCommit p st r) := (h.setFld _ _).setFld _ _

theorem shadowIn (h : OnlyCommit s t) (p : Nat) : OnlyCommit s (t.shadowIn p) := h.trans rfl

theorem raise (h : OnlyCommit s t) (p k a : Nat) : OnlyCommit s (t.raise p k a) := by
  refine h.trans ?_
  have hq := quiet_raise t p k a
  unfold OnlyCommit
  rw [hq]

theorem memKept (h : OnlyCommit s t) : MemKept s t := by
  rw [h]
  exact ⟨fun _ => ⟨rfl, rfl⟩, fun _ _ => ⟨rfl, rfl⟩, fun _ _ => rfl⟩

theorem committed (s : State) (p frame : Nat) : OnlyCommit s (s.committed p frame) :=
  (((((refl s).shadowIn p).setCommit p cmTaken 0).setFld _ _).setUnit p _).setFld _ _

theorem refuseCommit (s : State) (p mode reason : Nat) : OnlyCommit s (s.refuseCommit p mode reason) :=
  (((refl s).setCommit p cmRefused reason).setUnit p _).raise p 1 _

end OnlyCommit

theorem unit_setFld (s : State) (f : Fld) (v p : Nat) : (s.setFld f v).unit p = s.unit p := rfl

theorem unit_committed (s : State) (p frame : Nat) : ((s.committed p frame).unit p).taken = BitVec.ofNat 32 s.st32 := by
  rw [State.committed, unit_setFld, unit_setUnit_same]

theorem inForce_committed (s : State) (p frame : Nat) : (s.committed p frame).inForce = (s.shadowIn p).inForce :=
  (setFld_inForce _ _ _).trans <| (setUnit_inForce _ _ _).trans <| (setFld_inForce _ _ _).trans
    (onlyRegs_setCommit (s.shadowIn p) p cmTaken 0).inForce

/-- The pages whose commit does nothing beyond bringing the shadow into force. -/
theorem commitEffect_none {p : Nat} (h : [1, 5, 0x50, 0x51, 0x52, 0x53, 0x80, 0x81, 0x8F].contains p = true)
    (s before : State) (m : Option Nat) : s.commitEffect before p m = s := by
  simp only [List.contains_cons, List.contains_nil, Bool.or_false, Bool.or_eq_true, beq_iff_eq] at h
  have hb : pageBase p = 1 ∨ pageBase p = 5 ∨ pageBase p = 0x50 ∨ pageBase p = 0x80 := by
    obtain rfl | rfl | rfl | rfl | rfl | rfl | rfl | rfl | rfl := h <;> decide
  unfold State.commitEffect
  dsimp only
  repeat rw [if_neg (by omega)]

/-- The frame in which the commit of page `p` is taken: that of its transit, or the frame in progress (R72). -/
def State.takeFrame (s : State) (p : Nat) : Nat := match (s.unit p).due with | some n => n | none => s.frameNo

/-- The armed commit that is due is taken, where its block finds no cause, and refused where it does. -/
theorem takeCommit_due {s : State} {p : Nat} (h : s.takeable p = true) :
    s.takeCommit p = s.takeWith p (s.takeFrame p) (s.unit p).due (s.commitReason p) := by
  unfold State.takeCommit
  rw [if_pos h]
  rfl

theorem takeCommit_idle {s : State} {p : Nat} (h : s.takeable p = false) : s.takeCommit p = s := by
  unfold State.takeCommit
  rw [if_neg (by simp [h])]

theorem commitIn_eq (s : State) (p frame : Nat) (m : Option Nat) : s.commitIn p frame m =
    ((s.committed p frame).raise p 0 (lo32 frame + (s.unit p).mode * 2 ^ 32)).commitEffect s p m := rfl

theorem exec_commitTake (p : Nat) (s : State) : exec (.commitTake p) s = .next (s.takeCommit p) := rfl

/-- COMMIT_TIME of a taken commit reads the moment of the take (R72). -/
theorem plainRead_commitTime {s : State} {p : Nat} (h : s.commitState p = cmTaken) (q : Req) :
    s.plainRead q p 0x024 = (s.unit p).taken := by
  unfold State.plainRead
  rw [if_pos rfl, if_pos h]

theorem act_of_inForce {s t : State} (h : t.inForce = s.inForce) (f : Fld) : t.act f = s.act f := by
  rw [State.act, h, State.act]

end Sys2Proof.Machine

open Sys2Proof Sys2Proof.Machine

/-- Settles O11: a take by what it leaves before its event, and a refusal. -/
theorem commitTakenComesIntoForce : Obligations.CommitTakenComesIntoForce := by
  unfold Obligations.CommitTakenComesIntoForce
  intro p s
  refine ⟨fun h => ?idle, fun h hr hp => ?taken, fun h hr => ?refused⟩
  case idle => rw [exec_commitTake, takeCommit_idle h]
  case taken =>
    rw [exec_commitTake, takeCommit_due h]
    rw [State.takeWith, if_pos hr, commitIn_eq, commitEffect_none hp]
    have hstatus (f : Fld) (h0 : f.page = 0) (ho : f.off = 0x028) :
        ((s.committed p (s.takeFrame p)).raise p 0 (lo32 (s.takeFrame p) + (s.unit p).mode * 2 ^ 32)).fld (f.inst p) =
          (s.committed p (s.takeFrame p)).fld (f.inst p) :=
      fld_raise_common _ p 0 _ f h0 (by omega) (by omega)
    generalize hu : s.committed p (s.takeFrame p) = u at hstatus ⊢
    have hq := quiet_raise u p 0 (lo32 (s.takeFrame p) + (s.unit p).mode * 2 ^ 32)
    have honly : OnlyCommit s (u.raise p 0 (lo32 (s.takeFrame p) + (s.unit p).mode * 2 ^ 32)) :=
      (hu ▸ OnlyCommit.committed s p (s.takeFrame p)).raise p 0 _
    have hev := event_raise u p 0 (lo32 (s.takeFrame p) + (s.unit p).mode * 2 ^ 32) (by decide)
    generalize u.raise p 0 (lo32 (s.takeFrame p) + (s.unit p).mode * 2 ^ 32) = t at hstatus hq honly hev ⊢
    have hst : t.commitState p = cmTaken := (hstatus PG_COMMIT_STATUS_STATE rfl rfl).trans
        (hu ▸ commitState_committed s p (s.takeFrame p))
    have hforce : t.inForce = (s.shadowIn p).inForce := (inForce_of_quiet hq).trans
        (hu ▸ inForce_committed s p (s.takeFrame p))
    have hframe : u.fld (PG_COMMIT_STATUS_TAKEN_FRAME.inst p) = s.takeFrame p % 2 ^ 16 :=
        hu ▸ takenFrame_committed s p _
    refine ⟨t, rfl, hst, (hstatus PG_COMMIT_STATUS_TAKEN_FRAME rfl rfl).trans hframe, ?_,
      (hstatus PG_COMMIT_STATUS_DIRTY rfl rfl).trans (hu ▸ dirty_committed s p (s.takeFrame p)), hev,
          fun hwf f hf => ?_,
      fun f hf => ?_, honly.memKept⟩
    · rw [plainRead_commitTime hst, unit_of_quiet hq, ← hu, unit_committed]
    · rw [act_of_inForce hforce, act_shadowIn hwf hf]
    · rw [act_of_inForce hforce, act_shadowIn_other s hf]
  case refused =>
    rw [exec_commitTake, takeCommit_due h, State.takeWith, if_neg hr]
    exact ⟨_, rfl, commitState_refuseCommit _ _ _ _, inForce_refuseCommit _ _ _ _, reason_refuseCommit _ _ _ _,
      event_refuseCommit _ _ _ _, (OnlyCommit.refuseCommit _ _ _ _).memKept⟩
end

section
/-! PROOF. Event bits and records (O12, R76, R77, R80, R81, R268, R286): clearing, forcing, taking and pushing. -/

namespace Sys2Proof.Machine

open Sys2Proof

theorem Quiet.of_onlyRegs {s t : State} (h : OnlyRegs s t) : Quiet s t := by
  unfold Quiet; rw [h]

/-! The vector arbiter and HOST.PEND (R77, R78). -/

/-- The registers the vector arbiter may write: the vector arms and the pending-bit array. -/
def vecKey (k : Nat) : Bool := [regKey 1 0x048, regKey 1 0x04C, regKey 1 0xC00, regKey 1 0xC04].contains k

theorem reg_tryVector {v : Nat} (s : State) (hv : v < 64) {k : Nat} (h : vecKey k = false) :
    (s.tryVector v).reg k = s.reg k := by
  refine regsKept_tryVector s (32 * (k + 1)) v hv k ?_
  simp only [vecKey, evKey, List.contains_cons, List.contains_nil, Bool.or_false, Bool.or_eq_false_iff,
    beq_eq_false_iff_ne] at h ⊢
  obtain ⟨h1, h2, h3, h4⟩ := h
  refine ⟨?_, ?_, h1, h2, h3, h4⟩ <;> (unfold regKey; omega)

/-- The bit of HOST.PEND that follows page `p`. -/
def pendFld (p : Nat) : Fld := { HOST_PEND_PEND.nth (p / 32) with lo := p % 32, w := 1 }

theorem pagePending_refresh (s : State) (p : Nat) : (s.refresh p).pagePending p = s.pagePending p := by
  have hen : (s.refresh p).reg (regKey p 0x014) = s.reg (regKey p 0x014) :=
    regsKept_refresh s p _ (evKey_common (by decide) (by decide))
  unfold State.pagePending
  rw [reg_event_refresh, hen]

theorem key_pendFld {p : Nat} : (pendFld p).key = regKey 1 (0x100 + p / 32 * 4) := rfl

/-- A refresh brings HOST.PEND up to date. -/
theorem pend_refresh {s : State} {p : Nat} (hp : p < 256) : (s.refresh p).bit (pendFld p) = s.pagePending p := by
  have hv : vecKey (pendFld p).key = false := by
    rw [key_pendFld]
    simp only [vecKey, regKey, List.contains_cons, List.contains_nil, Bool.or_false, Bool.or_eq_false_iff,
      beq_eq_false_iff_ne]
    omega
  have hf : (s.refresh p).fld (pendFld p) = (if s.pagePending p then 1 else 0) % 2 ^ 1 := by
    have ht : (s.refresh p).fld (pendFld p) = (s.setBit (pendFld p) (s.pagePending p)).fld (pendFld p) := by
      unfold State.fld
      exact congrArg (fun w : Word => natBits w.toNat _ _) (reg_tryVector _ (routeVector_lt s p) hv)
    rw [ht, setBit_eq]
    refine fld_setFld_same s (pendFld p) _ ?_
    simp only [pendFld]
    omega
  rw [State.bit, hf]
  cases s.pagePending p <;> rfl

/-! Clearing (R76). -/

section
variable (s : State) (p : Nat) (v together : Word)

theorem event_clearEvents : (s.clearEvents p v together).reg (regKey p 0x010) =
    s.reg (regKey p 0x010) &&& ~~~ (v &&& ~~~ together) := by
  unfold State.clearEvents
  rw [reg_event_refresh, reg_setReg_same]

theorem pend_clearEvents (hp : p < 256) :
    (s.clearEvents p v together).bit (pendFld p) = (s.clearEvents p v together).pagePending p := by
  unfold State.clearEvents
  rw [pend_refresh hp, pagePending_refresh]

theorem regsKept_clearEvents : RegsKept (evKey p) s (s.clearEvents p v together) :=
  (regsKept_setReg s _ _ (by simp [evKey])).trans (regsKept_refresh _ p)

theorem quiet_clearEvents : Quiet s (s.clearEvents p v together) := (quiet_setReg s _ _).trans (quiet_refresh _ p)

end

/-! An occurrence (R76, R80). -/

theorem recQ_tryVector (s : State) (v : Nat) : (s.tryVector v).recQ = s.recQ := by
  unfold State.tryVector
  split
  · dsimp only
    split <;> rfl
  · rfl

section
variable (s : State) (p k arg : Nat) (forced : Bool)

/-- EVENT[k] is set by any occurrence of it, forced or real. -/
theorem event_occur :
    (s.occur p k arg forced).reg (regKey p 0x010) = s.reg (regKey p 0x010) ||| BitVec.ofNat 32 (2 ^ k) := by
  unfold State.occur
  rw [reg_event_refresh]
  have hset := reg_setReg_same s (regKey p 0x010) (s.reg (regKey p 0x010) ||| BitVec.ofNat 32 (2 ^ k))
  split
  · unfold State.pushRec
    split <;> exact hset
  · exact hset

/-- An occurrence that EVENT_EN and RECORD_EN allow queues its record. -/
theorem recQ_occur : (s.occur p k arg forced).recQ =
    if (s.reg (regKey p 0x014)).getLsbD k ∧ s.bit (HOST_PAGE_ROUTE_RECORD_EN.nth p) then
      s.recQ ++ [⟨p, k, arg % 2 ^ 41, forced, s.nowNs, !isCore p⟩] else s.recQ := by
  have hen : (s.setReg (regKey p 0x010) (s.reg (regKey p 0x010) ||| BitVec.ofNat 32 (2 ^ k))).reg (regKey p 0x014) =
      s.reg (regKey p 0x014) := reg_setReg_ne s _ (by simp [regKey])
  have hrec : (s.setReg (regKey p 0x010) (s.reg (regKey p 0x010) ||| BitVec.ofNat 32 (2 ^ k))).bit
      (HOST_PAGE_ROUTE_RECORD_EN.nth p) = s.bit (HOST_PAGE_ROUTE_RECORD_EN.nth p) := by
    unfold State.bit State.fld
    rw [reg_setReg_ne]
    simp only [regKey, Fld.key, Fld.nth, HOST_PAGE_ROUTE_RECORD_EN]
    omega
  have hq := setReg_recQ s (regKey p 0x010) (s.reg (regKey p 0x010) ||| BitVec.ofNat 32 (2 ^ k))
  have hn : (s.setReg (regKey p 0x010) (s.reg (regKey p 0x010) ||| BitVec.ofNat 32 (2 ^ k))).nowNs = s.nowNs := rfl
  unfold State.occur State.refresh
  rw [recQ_tryVector, setBit_eq, setFld_recQ]
  generalize s.setReg (regKey p 0x010) (s.reg (regKey p 0x010) ||| BitVec.ofNat 32 (2 ^ k)) = u at hen hrec hq hn ⊢
  rw [← hen, ← hrec, ← hq, ← hn]
  unfold State.pushRec
  split_ifs <;> simp_all

end

/-! Forcing (R76). -/

theorem getLsbD_oneBit {j k : Nat} (hj : j < 32) : (BitVec.ofNat 32 (2 ^ k)).getLsbD j = (k == j) := by
  rw [BitVec.getLsbD_ofNat, Nat.testBit_two_pow, decide_eq_true hj]
  exact Bool.true_and _

theorem filter_oneBit {k : Nat} (hk : k < 32) {f : Nat → Bool} (hf : f k = true) :
    (List.range 32).filter (fun j => (BitVec.ofNat 32 (2 ^ k)).getLsbD j && f j) = [k] := by
  refine Eq.trans ?_ ((by decide : ∀ k < 32, (List.range 32).filter (fun j => j == k) = [k]) k hk)
  refine List.filter_congr fun j hj => ?_
  rw [getLsbD_oneBit (List.mem_range.1 hj)]
  by_cases hjk : j = k
  · simp [hjk, hf]
  · have hkj : k ≠ j := fun h => hjk h.symm
    rw [beq_eq_false_iff_ne.2 hjk, beq_eq_false_iff_ne.2 hkj, Bool.false_and]

/-- A write of one defined bit of EVENT_FORCE is one occurrence. -/
theorem forceEvents_one {s : State} {p k : Nat} (hk : k < 32) (hm : (eventMask p).testBit k = true) :
    s.forceEvents p (BitVec.ofNat 32 (2 ^ k)) = s.takeFree.occur p k s.freeVal true := by
  unfold State.forceEvents
  rw [filter_oneBit hk hm]
  rfl

section
variable (s : State) (p : Nat) {k : Nat}

theorem event_forced (hk : k < 32) : ((s.takeFree.occur p k s.freeVal true).reg (regKey p 0x010)).getLsbD k = true := by
  rw [event_occur, BitVec.getLsbD_or, getLsbD_oneBit hk]
  simp

variable (k)

theorem recQ_forced : (s.takeFree.occur p k s.freeVal true).recQ =
    if (s.reg (regKey p 0x014)).getLsbD k ∧ s.bit (HOST_PAGE_ROUTE_RECORD_EN.nth p) then
      s.recQ ++ [⟨p, k, s.freeVal % 2 ^ 41, true, s.nowNs, !isCore p⟩] else s.recQ :=
          recQ_occur s.takeFree p k s.freeVal true

theorem regsKept_forced : RegsKept (evKey p) s (s.takeFree.occur p k s.freeVal true) :=
  regsKept_occur s.takeFree p k s.freeVal true

theorem forced_eq : s.takeFree.occur p k s.freeVal true =
    { s with
      regs := (s.takeFree.occur p k s.freeVal true).regs
      recQ := (s.takeFree.occur p k s.freeVal true).recQ
      out := (s.takeFree.occur p k s.freeVal true).out
      free := s.free + 1 } := quiet_occur s.takeFree p k s.freeVal true

/-- The count of a write leaves the page's routing alone. -/
theorem bit_recordEn_countWrite :
    (s.countWrite p).bit (HOST_PAGE_ROUTE_RECORD_EN.nth p) = s.bit (HOST_PAGE_ROUTE_RECORD_EN.nth p) := by
  unfold State.bit
  rw [fld_countWrite]
  simp only [regKey, Fld.key, Fld.nth, HOST_PAGE_ROUTE_RECORD_EN]
  omega

end

namespace OnlyRegs

variable {s t : State}

theorem recQ (h : OnlyRegs s t) : t.recQ = s.recQ := by rw [h]

theorem freeVal (h : OnlyRegs s t) : t.freeVal = s.freeVal := by rw [h]; rfl

end OnlyRegs

/-! The event arbiter's buffer (R81, R286). -/

/-- Nothing but registers, records, outputs and the FIFOs differs between `s` and `t`. -/
def OnlyRecords (s t : State) : Prop :=
  t = { s with
    regs := t.regs, recQ := t.recQ, out := t.out, fifos := t.fifos, evtBuf := t.evtBuf, evtDrop := t.evtDrop }

namespace OnlyRecords

variable {s t : State}

theorem refl (s : State) : OnlyRecords s s := rfl

theorem trans {u : State} (h : OnlyRecords s t) (g : OnlyRecords t u) : OnlyRecords s u := by
  unfold OnlyRecords at *; rw [g, h]

theorem of_quiet (h : Quiet s t) : OnlyRecords s t := by
  unfold OnlyRecords; rw [h]

theorem setFld (h : OnlyRecords s t) (f : Fld) (v : Nat) : OnlyRecords s (t.setFld f v) := h.trans rfl

theorem modFifo (h : OnlyRecords s t) (n : Nat) (f : FifoS → FifoS) : OnlyRecords s (t.modFifo n f) := h.trans rfl

theorem quiet {u : State} (h : OnlyRecords s t) (g : Quiet t u) : OnlyRecords s u := h.trans (of_quiet g)

theorem buffer (h : OnlyRecords s t) (b : List (DWord × DWord × Bool)) (d : Bool) :
    OnlyRecords s { t with evtBuf := b, evtDrop := d } := h.trans rfl

theorem memKept (h : OnlyRecords s t) : MemKept s t := by
  rw [h]
  exact ⟨fun _ => ⟨rfl, rfl⟩, fun _ _ => ⟨rfl, rfl⟩, fun _ _ => rfl⟩

end OnlyRecords

/-- The arbiter's buffer set to `b`, EVT_HELD following it. -/
def State.bufferTo (s : State) (b : List (DWord × DWord × Bool)) : State :=
  ({ s with evtBuf := b, evtDrop := false } : State).evtSync

section
variable (s : State) (b : List (DWord × DWord × Bool))

theorem evtBuf_bufferTo : (s.bufferTo b).evtBuf = b := setFld_evtBuf _ _ _

theorem evtDrop_bufferTo : (s.bufferTo b).evtDrop = false := setFld_evtDrop _ _ _

theorem recQ_bufferTo : (s.bufferTo b).recQ = s.recQ := setFld_recQ _ _ _

theorem cmds_bufferTo : (s.bufferTo b).cmds = s.cmds := setFld_cmds _ _ _

theorem onlyRecords_bufferTo : OnlyRecords s (s.bufferTo b) := ((OnlyRecords.refl s).buffer _ _).setFld _ _

theorem fld_bufferTo {f : Fld} (h : f.key ≠ (FIFO_EVT_HELD_RECORDS.inst 1).key) : (s.bufferTo b).fld f = s.fld f :=
  fld_setFld_ne _ (FIFO_EVT_HELD_RECORDS.inst 1) f _ h

end

/-- The record `r` as the arbiter holds it: numbered, in its two words (R81). -/
def State.heldRecord (s : State) (r : RecReq) : DWord × DWord × Bool :=
  ((s.recWords r (s.fld (FIFO_EVT_NEXT_SEQ_SEQ.inst 1))).1,
      (s.recWords r (s.fld (FIFO_EVT_NEXT_SEQ_SEQ.inst 1))).2, false)

/-- The state in which `r` has been numbered and held. -/
def State.numbered (s : State) (r : RecReq) : State :=
  (s.incFld (FIFO_EVT_NEXT_SEQ_SEQ.inst 1) 1).bufferTo (s.evtBuf ++ [s.heldRecord r])

section
variable (s : State) (r : RecReq)

theorem evtBuf_numbered : (s.numbered r).evtBuf = s.evtBuf ++ [s.heldRecord r] := evtBuf_bufferTo _ _

theorem evtDrop_numbered : (s.numbered r).evtDrop = false := evtDrop_bufferTo _ _

theorem recQ_numbered : (s.numbered r).recQ = s.recQ := (recQ_bufferTo _ _).trans (setFld_recQ _ _ _)

theorem cmds_numbered : (s.numbered r).cmds = s.cmds := (cmds_bufferTo _ _).trans (setFld_cmds _ _ _)

theorem onlyRecords_numbered : OnlyRecords s (s.numbered r) :=
  ((OnlyRecords.refl s).setFld _ _).trans (onlyRecords_bufferTo _ _)

theorem seq_numbered : (s.numbered r).fld (FIFO_EVT_NEXT_SEQ_SEQ.inst 1) =
    (s.fld (FIFO_EVT_NEXT_SEQ_SEQ.inst 1) + 1) % 2 ^ 32 :=
  (fld_bufferTo _ _ (by decide)).trans (fld_setFld_same s (FIFO_EVT_NEXT_SEQ_SEQ.inst 1) _ (by decide))

end

/-- With fewer than 64 records waiting, one more is numbered and held (R286). -/
theorem holdRecord_room {s : State} (r : RecReq) (h : (s.evtBuf.filter fun b => !b.2.2).length < 64) :
    s.holdRecord r = s.numbered r := by
  have hb : (s.incFld (FIFO_EVT_NEXT_SEQ_SEQ.inst 1) 1).evtBuf = s.evtBuf := setFld_evtBuf _ _ _
  unfold State.holdRecord
  dsimp only
  rw [if_pos h, hb]
  rfl

/-- Only a MARK's own record executes it (R285). -/
theorem markTaken_other {s : State} {r : RecReq} (h : s.headCmd 3 = none ∨ r.code ≠ 0x20) : s.markTaken r = s := by
  unfold State.markTaken
  split
  · next c hc =>
    refine if_neg fun hm => ?_
    obtain h | h := h
    · simp [hc] at h
    · exact h hm.2.2
  · rfl

theorem takeRecord_held {s : State} {k : Nat} {r : RecReq} (hr : s.recQ[k]? = some r) (hm : s.mayTake r = true)
    (hroom : (s.evtBuf.filter fun b => !b.2.2).length < 64) (hmark : s.headCmd 3 = none ∨ r.code ≠ 0x20) :
    s.takeRecord k = ({ s with recQ := s.recQ.eraseIdx k } : State).numbered r := by
  have hhead : (({ s with recQ := s.recQ.eraseIdx k } : State).numbered r).headCmd 3 = s.headCmd 3 := by
    unfold State.headCmd
    rw [cmds_numbered]
  have hhold : ({ s with recQ := s.recQ.eraseIdx k } : State).holdRecord r = _ := holdRecord_room r hroom
  simp only [State.takeRecord, hr, hm, if_true]
  rw [hhold, markTaken_other (by rwa [hhead])]

/-! A record into FIFO1 (R286). -/

@[simp] theorem fifo_modFifo_same (s : State) (n : Nat) (f : FifoS → FifoS) : (s.modFifo n f).fifo n = f (s.fifo n) :=
  mapGet_set_same _ _ _ _

theorem fifo_of_quiet {s t : State} (h : Quiet s t) (n : Nat) : t.fifo n = s.fifo n := by rw [h]; rfl

theorem fifoRing_of_quiet {s t : State} (h : Quiet s t) (n : Nat) : t.fifoRing n = s.fifoRing n := by rw [h]; rfl

theorem quiet_markCheck (s : State) (n : Nat) : Quiet s (s.markCheck n) := by
  unfold State.markCheck
  split
  · exact (quiet_setFld s _ _).trans (quiet_raise _ _ _ _)
  · exact Quiet.refl s

theorem quiet_fifoSync (s : State) (n : Nat) : Quiet s (s.fifoSync n) :=
  .of_onlyRegs ((((((OnlyRegs.refl s).setFld _ _).setFld _ _).setFld _ _).setFld _ _).setFld _ _ |>.setFld _ _)

/-- The data of a FIFO that has accepted the word `w` outside a ring. -/
def FifoS.accepted (x : FifoS) (mono : Nat) (w : DWord) : FifoS :=
  { x with
    words := x.words ++ [if 256 ≤ x.words.length then none else some w]
    idleAt := if x.words.isEmpty then mono else x.idleAt
    idleUp := if x.words.isEmpty then false else x.idleUp }

section
variable {s : State} {n : Nat} (h : s.fifoRing n = false) (w : DWord)
include h

/-- Outside a ring, a word is accepted in the FIFO's own data; what else changes is what an event may change. -/
theorem quiet_acceptWord : Quiet (s.modFifo n fun x => x.accepted s.time.mono w) (s.acceptWord n w) := by
  unfold State.acceptWord
  dsimp only
  rw [if_neg (by simp [h])]
  exact (quiet_setFld _ _ _).trans (quiet_markCheck _ n)

theorem words_acceptWord : ((s.acceptWord n w).fifo n).words =
    (s.fifo n).words ++ [if 256 ≤ (s.fifo n).words.length then none else some w] := by
  rw [fifo_of_quiet (quiet_acceptWord h w), fifo_modFifo_same]
  rfl

theorem fifoRing_acceptWord : (s.acceptWord n w).fifoRing n = false := by
  rw [fifoRing_of_quiet (quiet_acceptWord h w)]
  exact h

theorem onlyRecords_acceptWord : OnlyRecords s (s.acceptWord n w) :=
  ((OnlyRecords.refl s).modFifo n _).quiet (quiet_acceptWord h w)

end

/-! The push of a held record. -/

section
variable {s : State} {n : Nat} (a b : DWord)

theorem devPush_some (hp : s.prodIs n endDevice = true) (hs : 2 ≤ s.fifoSpace n) (hst : (s.fifo n).stalls = []) :
    s.devPush n [a, b] = some (((s.acceptWord n a).acceptWord n b).fifoSync n) := by
  unfold State.devPush
  rw [if_pos ⟨hp, hs, by simp [hst]⟩, State.acceptWords, List.foldl_cons, List.foldl_cons, List.foldl_nil]

theorem devPush_none (hs : s.fifoSpace n < 2) : s.devPush n [a, b] = none := by
  unfold State.devPush
  exact if_neg fun h => absurd h.2.1 (by simpa using hs)

variable (hr : s.fifoRing n = false)
include hr

theorem words_acceptPair : ((((s.acceptWord n a).acceptWord n b).fifoSync n).fifo n).words =
    (s.fifo n).words ++ [if 256 ≤ (s.fifo n).words.length then none else some a,
      if 255 ≤ (s.fifo n).words.length then none else some b] := by
  rw [fifo_of_quiet (quiet_fifoSync _ n), words_acceptWord (fifoRing_acceptWord hr a), words_acceptWord hr]
  simp

theorem onlyRecords_acceptPair : OnlyRecords s (((s.acceptWord n a).acceptWord n b).fifoSync n) :=
  ((onlyRecords_acceptWord hr a).trans (onlyRecords_acceptWord (fifoRing_acceptWord hr a) b)).quiet (quiet_fifoSync _ n)

end

section
variable (s : State) (rest : List (DWord × DWord × Bool))

/-- The state with `rest` left in the arbiter's buffer. -/
def State.bufferLeft (s : State) (rest : List (DWord × DWord × Bool)) : State :=
    ({ s with evtBuf := rest } : State).evtSync

theorem evtBuf_bufferLeft : (s.bufferLeft rest).evtBuf = rest := setFld_evtBuf _ _ _

theorem fifo_setFld (f : Fld) (v n : Nat) : (s.setFld f v).fifo n = s.fifo n := rfl

theorem fifo_bufferLeft (n : Nat) : (s.bufferLeft rest).fifo n = s.fifo n :=
  (fifo_setFld { s with evtBuf := rest } _ _ n).trans rfl

theorem onlyRecords_bufferLeft : OnlyRecords s (s.bufferLeft rest) :=
    ((OnlyRecords.refl s).buffer rest s.evtDrop).setFld _ _

theorem words_devTaken (n : Nat) : ((s.devTaken n).fifo n).words = (s.fifo n).words := by
  rw [State.devTaken, fifo_modFifo_same]

theorem evtBuf_devTaken (n : Nat) : (s.devTaken n).evtBuf = s.evtBuf := rfl

theorem onlyRecords_devTaken (n : Nat) : OnlyRecords s (s.devTaken n) := (OnlyRecords.refl s).modFifo n _

end

section
variable {s : State} {a b : DWord} {anchor : Bool} {rest : List (DWord × DWord × Bool)}
    (h : s.evtBuf = (a, b, anchor) :: rest)
include h

theorem pushRecord_some {u : State} (hd : s.devPush 1 [a, b] = some u) :
    s.pushRecord = (u.bufferLeft rest).devTaken 1 := by
  simp only [State.pushRecord, h, hd]
  rfl

theorem pushRecord_none (hd : s.devPush 1 [a, b] = none) : s.pushRecord = s.devWaits 1 := by
  simp only [State.pushRecord, h, hd]

end

theorem devWaits_again {s : State} {n : Nat} (h : (s.fifo n).waiting = true) : s.devWaits n = s := if_pos h

/-- FULL is raised once for a wait (R268). -/
theorem devWaits_first {s : State} {n : Nat} (h : (s.fifo n).waiting = false) :
    s.devWaits n = (s.modFifo n fun x => { x with waiting := true }).raise (fifoPage n) 9 endDevice :=
  if_neg (by simp [h])

theorem exec_eventRecordPush (s : State) : exec .eventRecordPush s = .next s.pushRecord := rfl

theorem exec_eventRecordTake (k : Nat) (s : State) : exec (.eventRecordTake k) s = .next (s.takeRecord k) := rfl

section
variable {s : State} {q : Req} {p : Nat} (hg : s.gate q p = .served) (hm : s.mayWrite q p = true)
include hg hm

theorem exec_eventClearWrite (hw : writableOff p 0x010 = true) (v together : Word) :
    exec (.eventClearWrite q p v together) s = .next ((s.countWrite p).clearEvents p v together) := by
  show Host.Outcome.next (s.write q p 0x010 v _) = _
  rw [write_accepted s q p _ v _ hg hw (not_barred hm)]

theorem exec_eventForceWrite (hw : writableOff p 0x018 = true) (v : Word) :
    exec (.eventForceWrite q p v) s = .next ((s.countWrite p).forceEvents p v) := by
  show Host.Outcome.next (s.write q p 0x018 v _) = _
  rw [write_accepted s q p _ v _ hg hw (not_barred hm)]

end

/-! What the commands do. -/

theorem exec_eventClearWrite_clears {q : Req} {p : Nat} {s : State} (v together : Word) (hg : s.gate q p = .served)
    (hw : writableOff p 0x010 = true) (hm : s.mayWrite q p = true) :
    ∃ t, exec (.eventClearWrite q p v together) s = .next t ∧
      t.reg (regKey p 0x010) = s.reg (regKey p 0x010) &&& ~~~ (v &&& ~~~ together) ∧
      (p < 256 → t.bit (pendFld p) = t.pagePending p) ∧
      RegsKept (fun k => evKey p k || k == regKey p 0x01C) s t ∧ Quiet s t := by
  rw [exec_eventClearWrite hg hm hw]
  refine ⟨_, rfl, ?_, fun hp => pend_clearEvents _ p v together hp, ?_, ?_⟩
  · rw [event_clearEvents, reg_countWrite (by simp [regKey])]
  · exact (regsKept_countWrite s p (by simp)).trans
      ((regsKept_clearEvents _ p v together).mono fun k hk => (Bool.or_eq_false_iff.1 hk).1)
  · exact (Quiet.of_onlyRegs (OnlyRegs.countWrite s p)).trans (quiet_clearEvents _ p v together)

theorem exec_eventRecordTake_holds {s : State} {k : Nat} {r : RecReq} (hr : s.recQ[k]? = some r)
    (hm : s.mayTake r = true)
    (hmark : s.headCmd 3 = none ∨ r.code ≠ 0x20) (hroom : (s.evtBuf.filter fun b => !b.2.2).length < 64) :
    ∃ t, exec (.eventRecordTake k) s = .next t ∧ t.recQ = s.recQ.eraseIdx k ∧
      (t.evtBuf = s.evtBuf ++ [s.heldRecord r] ∧
       t.fld (FIFO_EVT_NEXT_SEQ_SEQ.inst 1) = (s.fld (FIFO_EVT_NEXT_SEQ_SEQ.inst 1) + 1) % 2 ^ 32) ∧
      t.evtDrop = false ∧ MemKept s t := by
  rw [exec_eventRecordTake, takeRecord_held hr hm hroom hmark]
  exact ⟨_, rfl, recQ_numbered _ r, ⟨evtBuf_numbered _ r, seq_numbered _ r⟩, evtDrop_numbered _ r,
    (onlyRecords_numbered _ r).memKept⟩

theorem exec_eventRecordPush_enters {s : State} {a b : DWord} {anchor : Bool} {rest : List (DWord × DWord × Bool)}
    (hb : s.evtBuf = (a, b, anchor) :: rest) (hprod : s.prodIs 1 endDevice = true) (hring : s.fifoRing 1 = false)
    (hst : (s.fifo 1).stalls = []) (hs : 2 ≤ s.fifoSpace 1) :
    ∃ t, exec .eventRecordPush s = .next t ∧ t.evtBuf = rest ∧
      (t.fifo 1).words = (s.fifo 1).words ++ [if 256 ≤ (s.fifo 1).words.length then none else some a,
        if 255 ≤ (s.fifo 1).words.length then none else some b] ∧ MemKept s t := by
  rw [exec_eventRecordPush, pushRecord_some hb (devPush_some a b hprod hs hst)]
  have hwords := words_acceptPair a b hring
  have honly := onlyRecords_acceptPair a b hring
  generalize ((s.acceptWord 1 a).acceptWord 1 b).fifoSync 1 = u at hwords honly ⊢
  exact ⟨_, rfl, (evtBuf_devTaken _ 1).trans (evtBuf_bufferLeft u rest),
    ((words_devTaken _ 1).trans (congrArg FifoS.words (fifo_bufferLeft u rest 1))).trans hwords,
    ((honly.trans (onlyRecords_bufferLeft u rest)).trans (onlyRecords_devTaken _ 1)).memKept⟩

theorem exec_eventRecordPush_waits {s : State} {a b : DWord} {anchor : Bool} {rest : List (DWord × DWord × Bool)}
    (hb : s.evtBuf = (a, b, anchor) :: rest) (hs : s.fifoSpace 1 < 2) (hw : (s.fifo 1).waiting = false) :
    ∃ t, exec .eventRecordPush s = .next t ∧ t.evtBuf = s.evtBuf ∧ (t.fifo 1).words = (s.fifo 1).words ∧
      (t.fifo 1).waiting = true ∧ (t.reg (regKey (fifoPage 1) 0x010)).getLsbD 9 = true ∧ MemKept s t := by
  rw [exec_eventRecordPush, pushRecord_none hb (devPush_none a b hs), devWaits_first hw]
  have hq := quiet_raise (s.modFifo 1 fun x => { x with waiting := true }) (fifoPage 1) 9 endDevice
  have hfifo := (fifo_of_quiet hq 1).trans (fifo_modFifo_same s 1 _)
  have honly := ((OnlyRecords.refl s).modFifo 1 fun x => { x with waiting := true }).quiet hq
  have hev := event_raise (s.modFifo 1 fun x => { x with waiting := true }) (fifoPage 1) 9 endDevice (by decide)
  have hbuf : ((s.modFifo 1 fun x => { x with waiting := true }).raise (fifoPage 1) 9 endDevice).evtBuf = s.evtBuf := by
    rw [hq]
    rfl
  exact ⟨_, rfl, hbuf, by rw [hfifo], by rw [hfifo], hev, honly.memKept⟩

theorem exec_eventForceWrite_occurs {q : Req} {p k : Nat} {s : State} (hk : k < 32)
    (hmask : (eventMask p).testBit k = true)
    (hg : s.gate q p = .served) (hw : writableOff p 0x018 = true) (hm : s.mayWrite q p = true) :
    ∃ t, exec (.eventForceWrite q p (BitVec.ofNat 32 (2 ^ k))) s = .next t ∧
      (t.reg (regKey p 0x010)).getLsbD k = true ∧
      (t.recQ = if (s.reg (regKey p 0x014)).getLsbD k ∧ s.bit (HOST_PAGE_ROUTE_RECORD_EN.nth p) then
          s.recQ ++ [⟨p, k, s.freeVal % 2 ^ 41, true, s.nowNs, !isCore p⟩] else s.recQ) ∧
      RegsKept (fun j => evKey p j || j == regKey p 0x01C) s t ∧
      t = { s with regs := t.regs, recQ := t.recQ, out := t.out, free := s.free + 1 } := by
  rw [exec_eventForceWrite hg hm hw, forceEvents_one hk hmask]
  have hen : (s.countWrite p).reg (regKey p 0x014) = s.reg (regKey p 0x014) := reg_countWrite (by simp [regKey])
  have hrec := bit_recordEn_countWrite s p
  have hu := OnlyRegs.countWrite s p
  have hkept : RegsKept (fun j => evKey p j || j == regKey p 0x01C) s (s.countWrite p) :=
      regsKept_countWrite s p (by simp)
  generalize s.countWrite p = u at hu hen hrec hkept ⊢
  refine ⟨_, rfl, event_forced u p hk, ?_, ?_, ?_⟩
  · rw [recQ_forced, hen, hrec, hu.recQ, hu.freeVal, hu.nowNs]
  · exact hkept.trans ((regsKept_forced u p k).mono fun j hj => (Bool.or_eq_false_iff.1 hj).1)
  · have ht := forced_eq u p k
    generalize u.takeFree.occur p k u.freeVal true = t at ht ⊢
    refine ht.trans ?_
    conv_lhs => rw [hu]

end Sys2Proof.Machine

open Sys2Proof Sys2Proof.Machine

/-- Settles O12: the write of EVENT and its refresh, a forced occurrence, the arbiter's buffer and FIFO1's handshake. -/
theorem eventBitsSetClearedForced : Obligations.EventBitsSetClearedForced := by
  unfold Obligations.EventBitsSetClearedForced
  intro q p s
  refine ⟨?clear, ?force, ?take, ?push⟩
  case clear => exact fun v together hg hw hm => exec_eventClearWrite_clears v together hg hw hm
  case force => exact fun k hk hmask hg hw hm => exec_eventForceWrite_occurs hk hmask hg hw hm
  case take => exact fun k r hr hm hmark hroom => exec_eventRecordTake_holds hr hm hmark hroom
  case push =>
    intro a b anchor rest hb hprod hring hst
    refine ⟨exec_eventRecordPush_enters hb hprod hring hst, fun hs => ⟨fun hw => ?_, exec_eventRecordPush_waits hb hs⟩⟩
    rw [exec_eventRecordPush, pushRecord_none hb (devPush_none a b hs), devWaits_again hw]
end

section
/-! PROOF. The vectors (O13, R77, R78): an arm, the arbiter's three outcomes, and a mask lifted. -/

namespace Sys2Proof.Machine

open Sys2Proof

/-! Registers of the vectors. -/

theorem regRow_vecArm {off : Nat} (h : off = 0x048 ∨ off = 0x04C) :
    regRow? 1 off = some ⟨off, 0, 1, none, [⟨0, 32, .w1s, false, 4294967295⟩]⟩ := by
  obtain rfl | rfl := h <;> rfl

/-- The rows of the MSI-X table (Table 02-6). -/
theorem regRow_msixTable {n : Nat} (h : n < 64) :
    regRow? 1 (0x80C + 16 * n) = some ⟨0x800, 4, 256, none, [⟨0, 32, .rw, false, 0⟩]⟩ :=
  (by decide : ∀ n < 64, regRow? 1 (0x80C + 16 * n) = some ⟨0x800, 4, 256, none, [⟨0, 32, .rw, false, 0⟩]⟩) n h

/-- A word wholly RW takes what is written. -/
theorem storeWord_rw (r : RegRow) (hr : r.fields = [⟨0, 32, .rw, false, 0⟩]) (old v : Word) :
    storeWord r old v = v := by
  apply BitVec.eq_of_toNat_eq
  have hv := v.isLt
  simp [storeWord, hr, storeField, natBits, natSetBits]
  omega

/-- A word wholly W1S takes the bits written 1. -/
theorem storeWord_w1s (r : RegRow) (x : Nat) (hr : r.fields = [⟨0, 32, .w1s, false, x⟩]) (old v : Word) :
    storeWord r old v = old ||| v := by
  have hv : BitVec.ofNat 32 (v.toNat % 4294967296) = v := by
    rw [Nat.mod_eq_of_lt v.isLt, BitVec.ofNat_toNat, BitVec.setWidth_eq]
  simp [storeWord, hr, storeField, natBits, hv]

/-- A register of one field that is not shadowed is written without DIRTY. -/
theorem storeReg_unshadowed {s : State} {p off : Nat} {v : Word} {r : RegRow} {f : FieldRow}
    (hr : regRow? p off = some r)
    (hf : r.fields = [f]) (hs : f.sh = false) :
    s.storeReg p off v = s.setReg (regKey p off) (storeWord r (s.reg (regKey p off)) v) := by
  simp [State.storeReg, hr, hf, hs]

/-! The arms. -/

/-- The arm register of vector `v`. -/
theorem setVecArm_reg (s : State) (v : Nat) (on : Bool) {k : Nat} (h : k ≠ regKey 1 0x048) (h' : k ≠ regKey 1 0x04C) :
    (s.setVecArm v on).reg k = s.reg k := by
  unfold State.setVecArm
  refine reg_setReg_ne s _ ?_
  split
  · exact h
  · exact h'

theorem onlyRegs_setVecArm (s : State) (v : Nat) (on : Bool) : OnlyRegs s (s.setVecArm v on) :=
    (OnlyRegs.refl s).setReg _ _

theorem onlyRegs_setPba (s : State) (v : Nat) (on : Bool) : OnlyRegs s (s.setPba v on) := (OnlyRegs.refl s).setReg _ _

/-- One bit of a word set or cleared. -/
theorem getLsbD_setOne (w : Word) {j k : Nat} (hj : j < 32) (on : Bool) :
    (if on then w ||| BitVec.ofNat 32 (2 ^ k) else w &&& ~~~ BitVec.ofNat 32 (2 ^ k)).getLsbD j =
      if j = k then on else w.getLsbD j := by
  have hb := getLsbD_oneBit (k := k) hj
  cases on
  · rw [if_neg (by decide), BitVec.getLsbD_and, BitVec.getLsbD_not, hb]
    by_cases h : j = k
    · simp [h]
    · simp [h, Ne.symm h, hj]
  · rw [if_pos rfl, BitVec.getLsbD_or, hb]
    by_cases h : j = k
    · simp [h]
    · simp [h, Ne.symm h]

theorem setVecArm_lo (s : State) {v : Nat} (h : v < 32) (on : Bool) : s.setVecArm v on =
    s.setReg (regKey 1 0x048) (if on then s.reg (regKey 1 0x048) ||| BitVec.ofNat 32 (2 ^ (v % 32))
      else s.reg (regKey 1 0x048) &&& ~~~ BitVec.ofNat 32 (2 ^ (v % 32))) := by
  unfold State.setVecArm
  rw [if_pos h]
  rfl

theorem setVecArm_hi (s : State) {v : Nat} (h : ¬ v < 32) (on : Bool) : s.setVecArm v on =
    s.setReg (regKey 1 0x04C) (if on then s.reg (regKey 1 0x04C) ||| BitVec.ofNat 32 (2 ^ (v % 32))
      else s.reg (regKey 1 0x04C) &&& ~~~ BitVec.ofNat 32 (2 ^ (v % 32))) := by
  unfold State.setVecArm
  rw [if_neg h]
  rfl

theorem vecArmed_lo (s : State) {k : Nat} (h : k < 32) : s.vecArmed k = (s.reg (regKey 1 0x048)).getLsbD k := if_pos h

theorem vecArmed_hi (s : State) {k : Nat} (h : ¬ k < 32) : s.vecArmed k = (s.reg (regKey 1 0x04C)).getLsbD (k - 32) :=
  if_neg h

theorem vecArmed_setVecArm (s : State) {v k : Nat} (hv : v < 64) (hk : k < 64) (on : Bool) :
    (s.setVecArm v on).vecArmed k = if k = v then on else s.vecArmed k := by
  by_cases hv' : v < 32 <;> by_cases hk' : k < 32
  · rw [vecArmed_lo _ hk', vecArmed_lo s hk', setVecArm_lo s hv', reg_setReg_same, getLsbD_setOne _ hk',
      Nat.mod_eq_of_lt hv']
  · rw [vecArmed_hi _ hk', vecArmed_hi s hk', setVecArm_lo s hv', reg_setReg_ne s _ (by decide), if_neg (by omega)]
  · rw [vecArmed_lo _ hk', vecArmed_lo s hk', setVecArm_hi s hv', reg_setReg_ne s _ (by decide), if_neg (by omega)]
  · rw [vecArmed_hi _ hk', vecArmed_hi s hk', setVecArm_hi s hv', reg_setReg_same, getLsbD_setOne _ (by omega)]
    exact if_congr (by omega) rfl rfl

theorem vecArmed_of_reg {s t : State} (hl : t.reg (regKey 1 0x048) = s.reg (regKey 1 0x048))
    (hh : t.reg (regKey 1 0x04C) = s.reg (regKey 1 0x04C)) (k : Nat) : t.vecArmed k = s.vecArmed k := by
  unfold State.vecArmed
  split
  · exact congrArg (fun w : Word => w.getLsbD k) hl
  · exact congrArg (fun w : Word => w.getLsbD (k - 32)) hh

theorem pba_setPba_same (s : State) {v : Nat} (on : Bool) : (s.setPba v on).pba v = on := by
  have hb := getLsbD_setOne (s.reg (regKey 1 (0xC00 + 4 * (v / 32)))) (j := v % 32) (k := v % 32)
      (Nat.mod_lt v (by decide)) on
  unfold State.pba State.setPba
  dsimp only
  rw [reg_setReg_same, hb, if_pos rfl]

theorem vecMasked_of_reg {s t : State} (hh : t.host = s.host) {n : Nat}
    (hr : t.reg (regKey 1 (0x80C + 16 * n)) = s.reg (regKey 1 (0x80C + 16 * n))) : t.vecMasked n = s.vecMasked n := by
  unfold State.vecMasked
  rw [hh, hr]

theorem vecMasked_emit (s : State) (o : Out) (n : Nat) : (s.emit o).vecMasked n = s.vecMasked n :=
  vecMasked_of_reg (emit_host s o) (reg_emit s o _)

theorem pba_emit (s : State) (o : Out) (n : Nat) : (s.emit o).pba n = s.pba n := by
  rw [State.pba, reg_emit, State.pba]

/-! The arbiter's three outcomes (R78). -/

/-- A page routed to vector `v` is pending. -/
def State.routed (s : State) (v : Nat) : Bool :=
  (List.range 256).any fun p => s.fld (HOST_PAGE_ROUTE_VECTOR.nth p) == v && s.bit (HOST_PAGE_ROUTE_MSIX_EN.nth p) &&
    s.pagePending p

section
variable {s : State} {v : Nat}

theorem tryVector_idle (h : s.routed v = false) : s.tryVector v = s := by
  unfold State.tryVector
  refine if_neg ?_
  unfold State.routed at h
  simp [h]

variable (ha : s.vecArmed v = true) (he : s.host.msixEn = true) (h : s.routed v = true)
include ha he h

theorem tryVector_fires : s.tryVector v = if (s.setVecArm v false).vecMasked v then (s.setVecArm v false).setPba v true
    else (s.setVecArm v false).sendMsix v := by
  unfold State.tryVector
  unfold State.routed at h
  rw [if_pos (by simp only [ha, he, h, Bool.and_self])]

end

/-- Writes of PAGE_SEQ and of the vector arms change nothing that a page's routing or pending state reads. -/
theorem routed_of_regsKept {s t : State}
    (h : RegsKept (fun k => [regKey 1 0x01C, regKey 1 0x048, regKey 1 0x04C].contains k) s t)
    (v : Nat) : t.routed v = s.routed v := by
  have hroute (p : Nat) : t.reg (regKey 1 (0x400 + p * 4)) = s.reg (regKey 1 (0x400 + p * 4)) :=
    h _ (by simp [regKey]; omega)
  have hev (p : Nat) : t.reg (regKey p 0x010) = s.reg (regKey p 0x010) := h _ (by simp [regKey]; omega)
  have hen (p : Nat) : t.reg (regKey p 0x014) = s.reg (regKey p 0x014) := h _ (by simp [regKey]; omega)
  have hfld (p : Nat) (f : Fld) (hk : f.key = regKey 1 (0x400 + p * 4)) : t.fld f = s.fld f := by
    simp only [State.fld, hk, hroute]
  refine congrArg ((List.range 256).any) (funext fun p => ?_)
  rw [hfld p (HOST_PAGE_ROUTE_VECTOR.nth p) rfl, State.bit, hfld p (HOST_PAGE_ROUTE_MSIX_EN.nth p) rfl,
      State.pagePending,
    hev p, hen p]
  rfl

/-- The message of vector `v`'s table entry (R78). -/
def State.vecMsg (s : State) (v : Nat) : Out :=
  .msix ((s.reg (regKey 1 (0x800 + 16 * v))).toNat + (s.reg (regKey 1 (0x800 + 16 * v + 4))).toNat * 2 ^ 32)
    (s.reg (regKey 1 (0x800 + 16 * v + 8))).toNat

theorem sendMsix_eq (s : State) (v : Nat) : s.sendMsix v = s.emit (s.vecMsg v) := rfl

theorem vecMsg_of_regs {s t : State} {v : Nat}
    (h : ∀ k, regKey 1 (0x800 + 16 * v) ≤ k → k < regKey 1 (0x80C + 16 * v) → t.reg k = s.reg k) :
        t.vecMsg v = s.vecMsg v := by
  unfold State.vecMsg
  rw [h _ (by unfold regKey; omega) (by unfold regKey; omega), h _ (by unfold regKey; omega) (by unfold regKey; omega),
    h _ (by unfold regKey; omega) (by unfold regKey; omega)]

/-- Nothing but registers and outputs differs between `s` and `t`. -/
def OnlySent (s t : State) : Prop := t = { s with regs := t.regs, out := t.out }

namespace OnlySent

variable {s t : State}

theorem of_onlyRegs (h : OnlyRegs s t) : OnlySent s t := by
  unfold OnlySent; rw [h]

theorem trans {u : State} (h : OnlySent s t) (g : OnlySent t u) : OnlySent s u := by
  unfold OnlySent at *; rw [g, h]

theorem emit (h : OnlySent s t) (o : Out) : OnlySent s (t.emit o) := h.trans rfl

theorem tryVector (s : State) (v : Nat) : OnlySent s (s.tryVector v) := by
  unfold State.tryVector
  split
  · dsimp only
    split
    · exact of_onlyRegs ((onlyRegs_setVecArm s v false).trans (onlyRegs_setPba _ v true))
    · exact (of_onlyRegs (onlyRegs_setVecArm s v false)).emit _
  · rfl

end OnlySent

/-! A write of one bit of the arms. -/

/-- Arming one vector is a write of its bit and one turn of the arbiter. -/
theorem armVectors_one {n : Nat} (hn : n < 64) (s : State) :
    s.armVectors (decide (32 ≤ n)) (BitVec.ofNat 32 (2 ^ (n % 32))) = (s.setVecArm n true).tryVector n := by
  have hbits : (List.range 32).filter (fun j => (BitVec.ofNat 32 (2 ^ (n % 32))).getLsbD j) = [n % 32] := by
    simpa only [Bool.and_true] using filter_oneBit (f := fun _ => true) (Nat.mod_lt n (by decide)) rfl
  have hstore : s.storeReg 1 (if decide (32 ≤ n) then 0x04C else 0x048)
      (BitVec.ofNat 32 (2 ^ (n % 32))) = s.setVecArm n true := by
    by_cases h : n < 32
    · rw [if_neg (by simpa using h), storeReg_unshadowed (regRow_vecArm (.inl rfl)) rfl rfl, storeWord_w1s _ _ rfl,
        setVecArm_lo s h, if_pos rfl]
    · rw [if_pos (by simpa using h), storeReg_unshadowed (regRow_vecArm (.inr rfl)) rfl rfl, storeWord_w1s _ _ rfl,
        setVecArm_hi s h, if_pos rfl]
  have hvec : n % 32 + (if decide (32 ≤ n) then 32 else 0) = n := by
    split
    · next h =>
      have h : 32 ≤ n := by simpa using h
      omega
    · next h =>
      have h : ¬ 32 ≤ n := by simpa using h
      omega
  unfold State.armVectors
  dsimp only
  rw [hbits, hstore, List.foldl_cons, List.foldl_nil, hvec]

/-- The state in which a counted write has armed vector `n`. -/
def State.armedOne (s : State) (n : Nat) : State := (s.countWrite 1).setVecArm n true

theorem onlyRegs_armed (s : State) (n : Nat) : OnlyRegs s (s.armedOne n) :=
  (OnlyRegs.countWrite s 1).trans (onlyRegs_setVecArm _ n true)

theorem regsKept_armed (s : State) (n : Nat) :
    RegsKept (fun k => [regKey 1 0x01C, regKey 1 0x048, regKey 1 0x04C].contains k) s (s.armedOne n) := by
  intro k hk
  simp only [List.contains_cons, List.contains_nil, Bool.or_false, Bool.or_eq_false_iff, beq_eq_false_iff_ne] at hk
  obtain ⟨hseq, hlo, hhi⟩ := hk
  rw [State.armedOne, setVecArm_reg _ n true hlo hhi, reg_countWrite hseq]

theorem exec_vecArmWrite {s : State} {q : Req} {n : Nat} (hn : n < 64) (hg : s.gate q 1 = .served)
    (hm : s.mayWrite q 1 = true) :
    exec (.vecArmWrite q (decide (32 ≤ n)) (BitVec.ofNat 32 (2 ^ (n % 32)))) s =
      .next (((s.countWrite 1).setVecArm n true).tryVector n) := by
  have hw (hi : Bool) : writableOff 1 (if hi then 0x04C else 0x048) = true := by cases hi <;> decide
  show Host.Outcome.next (s.write q 1 _ _ _) = _
  rw [write_accepted s q 1 _ _ _ hg (hw _) (not_barred hm), armVectors_one hn]

/-! The mask of a held-back vector lifted (R78). -/

/-- The state in which vector `n`'s mask bit has been cleared by a counted write. -/
def State.unmasked (s : State) (n : Nat) : State :=
  (s.countWrite 1).setReg (regKey 1 (0x80C + 16 * n)) ((s.countWrite 1).reg (regKey 1 (0x80C + 16 * n)) &&& ~~~ 1)

section
variable {s : State} {n : Nat}

theorem onlyRegs_unmasked (s : State) (n : Nat) : OnlyRegs s (s.unmasked n) := (OnlyRegs.countWrite s 1).setReg _ _

theorem reg_unmasked {k : Nat} (h : k ≠ regKey 1 0x01C) (h' : k ≠ regKey 1 (0x80C + 16 * n)) :
    (s.unmasked n).reg k = s.reg k := by
  rw [State.unmasked, reg_setReg_ne _ _ h', reg_countWrite h]

theorem vecMasked_unmasked (hf : s.host.fnMask = false) : (s.unmasked n).vecMasked n = false := by
  have hh : (s.unmasked n).host = s.host := by rw [onlyRegs_unmasked s n]
  unfold State.vecMasked
  rw [hh, hf, State.unmasked, reg_setReg_same]
  simp

variable (hn : n < 64)
include hn

theorem writeHost_mask (t : State) (v : Word) : t.writeHost (0x80C + 16 * n) v =
    (t.setReg (regKey 1 (0x80C + 16 * n)) v).releaseVector n := by
  have hv : (0x80C + 16 * n - 0x800) / 16 = n := by omega
  have hstore : t.storeReg 1 (0x80C + 16 * n) v = t.setReg (regKey 1 (0x80C + 16 * n)) v := by
    rw [storeReg_unshadowed (regRow_msixTable hn) rfl rfl, storeWord_rw _ rfl]
  unfold State.writeHost
  rw [if_neg (by omega), if_neg (by omega)]
  dsimp only
  rw [if_neg (by omega), if_pos (by omega), hv, hstore]

theorem exec_msixUnmask (hg : s.gate .pcie 1 = .served) (hm : s.mayWrite .pcie 1 = true) :
    exec (.msixUnmask n) s = .next ((s.unmasked n).releaseVector n) := by
  have hw : writableOff 1 (0x80C + 16 * n) = true := (by decide : ∀ n < 64, writableOff 1 (0x80C + 16 * n) = true) n hn
  show execMsixUnmask n s = _
  rw [execMsixUnmask, if_pos hn, write_accepted s .pcie 1 _ _ _ hg hw (not_barred hm), writeHost_mask hn]
  rfl

end

theorem releaseVector_held {s : State} {n : Nat} (hp : s.pba n = true) (he : s.host.msixEn = true)
    (hm : s.vecMasked n = false) :
    s.releaseVector n = (s.setPba n false).sendMsix n := if_pos ⟨hp, he, by simp [hm]⟩

theorem reg_setPba {s : State} {n k : Nat} (on : Bool) (h : k ≠ regKey 1 (0xC00 + 4 * (n / 32))) :
    (s.setPba n on).reg k = s.reg k := reg_setReg_ne s _ h

/-! What the two commands do. -/

section
variable {s : State} {n : Nat} (hn : n < 64)
include hn

/-- What the arbiter makes of an armed vector (R78). -/
theorem tryVector_outcome (ha : s.vecArmed n = true) (he : s.host.msixEn = true) :
    if s.routed n = false then (s.tryVector n).vecArmed n = true ∧ (s.tryVector n).out = s.out
    else if s.vecMasked n then
      (s.tryVector n).vecArmed n = false ∧ (s.tryVector n).pba n = true ∧ (s.tryVector n).out = s.out
    else (s.tryVector n).vecArmed n = false ∧ (s.tryVector n).out = s.out ++ [s.vecMsg n] := by
  have hreg {k : Nat} (h : regKey 1 0x04C < k) : (s.setVecArm n false).reg k = s.reg k :=
    setVecArm_reg s n false (by unfold regKey at *; omega) (by omega)
  have hout : (s.setVecArm n false).out = s.out := by rw [onlyRegs_setVecArm s n false]
  have hhost : (s.setVecArm n false).host = s.host := by rw [onlyRegs_setVecArm s n false]
  have harm : (s.setVecArm n false).vecArmed n = false := by rw [vecArmed_setVecArm s hn hn, if_pos rfl]
  have hmask : (s.setVecArm n false).vecMasked n = s.vecMasked n :=
    vecMasked_of_reg hhost (hreg (by unfold regKey; omega))
  split
  · next hr => rw [tryVector_idle hr]; exact ⟨ha, rfl⟩
  · next hr =>
    rw [tryVector_fires ha he (by simpa using hr), hmask]
    split
    · next hm =>
      refine ⟨?_, pba_setPba_same _ true, ?_⟩
      · rw [vecArmed_of_reg (reg_setPba true (by unfold regKey; omega))
          (reg_setPba true (by unfold regKey; omega)), harm]
      · rw [onlyRegs_setPba (s.setVecArm n false) n true, hout]
    · next hm =>
      have hmsg : (s.setVecArm n false).vecMsg n = s.vecMsg n :=
          vecMsg_of_regs fun k hk _ => hreg (by unfold regKey at *; omega)
      exact ⟨harm, by rw [sendMsix_eq, emit_out, hout, hmsg]⟩

/-- The other vectors stay as they are. -/
theorem vecArmed_tryVector_other {k : Nat} (hk : k ≠ n) (hk' : k < 64) : (s.tryVector n).vecArmed k = s.vecArmed k := by
  have harm : (s.setVecArm n false).vecArmed k = s.vecArmed k := by rw [vecArmed_setVecArm s hn hk', if_neg hk]
  unfold State.tryVector
  split
  · dsimp only
    split
    · rw [vecArmed_of_reg (reg_setPba true (by unfold regKey; omega)) (reg_setPba true (by unfold regKey; omega)), harm]
    · exact harm
  · rfl

end

theorem exec_vecArmWrite_outcome {q : Req} {s : State} {n : Nat} (hn : n < 64) (hg : s.gate q 1 = .served)
    (hm : s.mayWrite q 1 = true) (he : s.host.msixEn = true) :
    ∃ t, exec (.vecArmWrite q (decide (32 ≤ n)) (BitVec.ofNat 32 (2 ^ (n % 32)))) s = .next t ∧
      (if s.routed n = false then t.vecArmed n = true ∧ t.out = s.out
       else if s.vecMasked n then t.vecArmed n = false ∧ t.pba n = true ∧ t.out = s.out
       else t.vecArmed n = false ∧ t.out = s.out ++ [s.vecMsg n]) ∧
      (∀ k, k ≠ n → k < 64 → t.vecArmed k = s.vecArmed k) ∧
      RegsKept (fun k => evKey 1 k || k == regKey 1 0x01C) s t ∧ OnlySent s t := by
  rw [exec_vecArmWrite hn hg hm]
  have hkept := regsKept_armed s n
  have hw := onlyRegs_armed s n
  have harmed (k : Nat) (hk : k < 64) : (s.armedOne n).vecArmed k = if k = n then true else s.vecArmed k := by
    rw [State.armedOne, vecArmed_setVecArm _ hn hk, vecArmed_of_reg (reg_countWrite (by decide))
        (reg_countWrite (by decide))]
  have hstep : (s.countWrite 1).setVecArm n true = s.armedOne n := rfl
  rw [hstep]
  generalize s.armedOne n = w at hkept hw harmed ⊢
  have hhost : w.host = s.host := by rw [hw]
  have hout : w.out = s.out := by rw [hw]
  have hfired := tryVector_outcome hn ((harmed n hn).trans (if_pos rfl)) (hhost ▸ he)
  have hreg {k : Nat} (h : regKey 1 0x04C < k) : w.reg k = s.reg k := hkept k (by simp [regKey] at *; omega)
  rw [routed_of_regsKept hkept, vecMasked_of_reg hhost (hreg (by unfold regKey; omega)),
    vecMsg_of_regs fun k hk _ => hreg (by unfold regKey at *; omega), hout] at hfired
  refine ⟨_, rfl, hfired, fun k hk hk' => ?_, ?_, (OnlySent.of_onlyRegs hw).trans (OnlySent.tryVector w n)⟩
  · rw [vecArmed_tryVector_other hn hk hk', harmed k hk', if_neg hk]
  · refine RegsKept.trans (hkept.mono fun k hk => ?_)
      ((regsKept_tryVector w 1 n hn).mono fun k hk => (Bool.or_eq_false_iff.1 hk).1)
    simp [evKey] at hk
    simp [hk]

theorem exec_msixUnmask_outcome {s : State} {n : Nat} (hn : n < 64) (hg : s.gate .pcie 1 = .served)
    (hm : s.mayWrite .pcie 1 = true) (he : s.host.msixEn = true) (hf : s.host.fnMask = false) (hp : s.pba n = true) :
    ∃ t, exec (.msixUnmask n) s = .next t ∧ t.vecMasked n = false ∧ t.pba n = false ∧
      t.out = s.out ++ [s.vecMsg n] ∧ OnlySent s t := by
  rw [exec_msixUnmask hn hg hm]
  have hw := onlyRegs_unmasked s n
  have hmask := vecMasked_unmasked (n := n) hf
  have hreg {k : Nat} (h : regKey 1 0x01C < k) (h' : k ≠ regKey 1 (0x80C + 16 * n)) : (s.unmasked n).reg k = s.reg k :=
    reg_unmasked (ne_of_gt h) h'
  generalize s.unmasked n = w at hw hmask hreg ⊢
  have hhost : w.host = s.host := by rw [hw]
  have hout : w.out = s.out := by rw [hw]
  have hpba : w.pba n = true := by
    rw [← hp, State.pba, hreg (by unfold regKey; omega) (by unfold regKey; omega), State.pba]
  rw [releaseVector_held hpba (hhost ▸ he) hmask, sendMsix_eq]
  have hsent : (w.setPba n false).vecMsg n = s.vecMsg n := vecMsg_of_regs fun k hk hk' => by
    rw [reg_setPba false (by unfold regKey at *; omega), hreg (by unfold regKey at *; omega) (by omega)]
  have hmask' : (w.setPba n false).vecMasked n = false :=
    (vecMasked_of_reg (by rw [onlyRegs_setPba w n false]) (reg_setPba false (by unfold regKey; omega))).trans hmask
  refine ⟨_, rfl, (vecMasked_emit _ _ n).trans hmask', (pba_emit _ _ n).trans (pba_setPba_same w false), ?_,
    ((OnlySent.of_onlyRegs hw).trans (.of_onlyRegs (onlyRegs_setPba w n false))).emit _⟩
  rw [emit_out, hsent, onlyRegs_setPba w n false, hout]

end Sys2Proof.Machine

open Sys2Proof Sys2Proof.Machine

/-- Settles O13: an arm as its bit and one turn of the arbiter, an unmasking as the release of a message held back. -/
theorem vectorsSendOnce : Obligations.VectorsSendOnce := by
  unfold Obligations.VectorsSendOnce
  intro q n s hn hi page entry msg
  exact ⟨fun hg hm he => exec_vecArmWrite_outcome hn hg hm he,
    fun hg hm he hf hp => exec_msixUnmask_outcome hn hg hm he hf hp⟩
end

section
/-! PROOF. Fields and frames of the time base (R85 to R110): fields that lie apart, events beside them, and what STATE, the
servo, a glide and the direct set of time change. -/

namespace Sys2Proof.Machine

open Sys2Proof

/-! Memories. -/

/-- The memories of `t` are those of `s`. -/
structure SameMems (s t : State) : Prop where
  dram : t.dram = s.dram
  dramErr : t.dramErr = s.dramErr
  bankMem : t.bankMem = s.bankMem
  bankErr : t.bankErr = s.bankErr
  nvm : t.nvm = s.nvm

namespace SameMems

variable {s t u : State}

theorem refl (s : State) : SameMems s s := ⟨rfl, rfl, rfl, rfl, rfl⟩

theorem trans (h : SameMems s t) (g : SameMems t u) : SameMems s u :=
  ⟨g.dram.trans h.dram, g.dramErr.trans h.dramErr, g.bankMem.trans h.bankMem, g.bankErr.trans h.bankErr, g.nvm.trans h.nvm⟩

theorem ite (c : Prop) [Decidable c] (h : SameMems s t) (g : SameMems s u) : SameMems s (if c then t else u) := by
  split <;> assumption

theorem quiet (h : SameMems s t) (g : Quiet t u) : SameMems s u := by
  rw [g]
  exact ⟨h.dram, h.dramErr, h.bankMem, h.bankErr, h.nvm⟩

theorem raise (h : SameMems s t) (p k a : Nat) : SameMems s (t.raise p k a) := h.quiet (quiet_raise t p k a)

theorem setFld (h : SameMems s t) (f : Fld) (v : Nat) : SameMems s (t.setFld f v) := h.quiet (quiet_setFld t f v)

theorem setBit (h : SameMems s t) (f : Fld) (b : Bool) : SameMems s (t.setBit f b) := h.setFld f _

theorem modTime (h : SameMems s t) (f : TimeS → TimeS) : SameMems s (t.modTime f) :=
  ⟨h.dram, h.dramErr, h.bankMem, h.bankErr, h.nvm⟩

theorem memKept (h : SameMems s t) : MemKept s t := by
  unfold MemKept State.dramByte State.dramErrAt State.bankWord State.bankErrAt State.nvmBytes
  rw [h.dram, h.dramErr, h.bankMem, h.bankErr, h.nvm]
  exact ⟨fun _ => ⟨rfl, rfl⟩, fun _ _ => ⟨rfl, rfl⟩, fun _ _ => rfl⟩

end SameMems

theorem time_of_quiet {s t : State} (h : Quiet s t) : t.time = s.time := by rw [h]

theorem time_raise (s : State) (p k a : Nat) : (s.raise p k a).time = s.time := time_of_quiet (quiet_raise s p k a)

/-! Fields. -/

theorem intBits_lt (w : Nat) (i : Int) : intBits w i < 2 ^ w := by
  have hpos : (0 : Int) < 2 ^ w := by positivity
  have hlt : i % 2 ^ w < 2 ^ w := Int.emod_lt_of_pos i hpos
  have h0 : 0 ≤ i % 2 ^ w := Int.emod_nonneg i hpos.ne'
  unfold intBits
  zify
  rwa [Int.toNat_of_nonneg h0]

/-- Whether a write of `f` leaves `g` alone: another register, or other bits of the same one. -/
def Fld.apart (f g : Fld) : Bool :=
  decide (g.key ≠ f.key ∨ f.lo + f.w ≤ 32 ∧ (g.lo + g.w ≤ f.lo ∨ f.lo + f.w ≤ g.lo))

section
variable (s : State) {f g : Fld} {p : Nat}

theorem fld_setFld_of_apart (h : f.apart g = true) (v : Nat) : (s.setFld f v).fld g = s.fld g := by
  by_cases hk : g.key = f.key
  · obtain hn | ⟨hf, hb⟩ := of_decide_eq_true h
    · exact absurd hk hn
    · exact fld_setFld_apart s f g v hk hf hb
  · exact fld_setFld_ne s f g v hk

theorem bit_setBit_same (h : f.lo + f.w ≤ 32 ∧ f.w ≠ 0) (b : Bool) : (s.setBit f b).bit f = b := by
  obtain ⟨hf, hw⟩ := h
  have h2 : 1 < 2 ^ f.w := Nat.one_lt_two_pow hw
  rw [State.bit, setBit_eq, fld_setFld_same s f _ hf]
  cases b
  · simp
  · simp [Nat.mod_eq_of_lt h2]

/-- An event of page `p` leaves a field outside the registers it may write alone. -/
theorem fld_raise (h : evKey p f.key = false) (k a : Nat) : (s.raise p k a).fld f = s.fld f := by
  simp only [State.fld, regsKept_raise s p k a _ h]

theorem fld_modTime (k : TimeS → TimeS) : (s.modTime k).fld f = s.fld f := rfl

theorem bit_modTime (k : TimeS → TimeS) : (s.modTime k).bit f = s.bit f := rfl

end

theorem fld_of_regsKept {s t : State} {w : Nat → Bool} (h : RegsKept w s t) {f : Fld} (hf : w f.key = false) :
    t.fld f = s.fld f := by simp only [State.fld, h _ hf]

theorem reg_modTime (s : State) (f : TimeS → TimeS) (k : Nat) : (s.modTime f).reg k = s.reg k := rfl

theorem modTime_modTime (s : State) (f g : TimeS → TimeS) : (s.modTime f).modTime g = s.modTime fun t => g (f t) := rfl

theorem RegsKept.modTime {w : Nat → Bool} {s t : State} (h : RegsKept w s t) (f : TimeS → TimeS) :
    RegsKept w s (t.modTime f) := h

/-! STATE (Table 03-1). -/

section
variable (s : State) (st : Nat)

/-- STATE takes the code, with one event at most. -/
theorem setTimeState_cases : s.setTimeState st = s.setFld TIME_STATUS_STATE st ∨
    ∃ k a, s.setTimeState st = (s.setFld TIME_STATUS_STATE st).raise 2 k a := by
  unfold State.setTimeState
  dsimp only
  split_ifs
  · exact .inr ⟨_, _, rfl⟩
  · exact .inr ⟨_, _, rfl⟩
  · exact .inl rfl

theorem quiet_setTimeState : Quiet s (s.setTimeState st) := by
  obtain h | ⟨k, a, h⟩ := setTimeState_cases s st <;> rw [h]
  · exact quiet_setFld s _ _
  · exact (quiet_setFld s _ _).trans (quiet_raise _ _ _ _)

theorem time_setTimeState : (s.setTimeState st).time = s.time := time_of_quiet (quiet_setTimeState s st)

theorem fld_setTimeState {f : Fld} (ha : TIME_STATUS_STATE.apart f = true) (he : evKey 2 f.key = false) :
    (s.setTimeState st).fld f = s.fld f := by
  obtain h | ⟨k, a, h⟩ := setTimeState_cases s st <;> rw [h]
  · exact fld_setFld_of_apart s ha st
  · exact (fld_raise _ he k a).trans (fld_setFld_of_apart s ha st)

theorem timeState_setTimeState (h : st < 8) : (s.setTimeState st).timeState = st := by
  have hset : (s.setFld TIME_STATUS_STATE st).fld TIME_STATUS_STATE = st :=
    (fld_setFld_same s TIME_STATUS_STATE st (by decide)).trans (Nat.mod_eq_of_lt h)
  unfold State.timeState
  obtain hc | ⟨k, a, hc⟩ := setTimeState_cases s st <;> rw [hc]
  · exact hset
  · exact (fld_raise _ (by decide) k a).trans hset

end

/-! The servo in ACQUIRE (R98). -/

section
variable (s : State)

theorem timeState_servoAcquire : s.servoAcquire.timeState = tsAcquire := timeState_setTimeState _ tsAcquire (by decide)

theorem time_servoAcquire : s.servoAcquire.time = { s.time with servoLocked := false, lockRun := 0, unlockRun := 0 } :=
  time_setTimeState _ _

theorem fld_servoAcquire {f : Fld} (ha : TIME_STATUS_STATE.apart f = true) (he : evKey 2 f.key = false) :
    s.servoAcquire.fld f = s.fld f := fld_setTimeState _ _ ha he

theorem sameMems_servoAcquire : SameMems s s.servoAcquire := ((SameMems.refl s).modTime _).quiet (quiet_setTimeState _ _)

end

/-! A glide begins (R107). -/

section
variable {s : State} (lost : Nat)

/-- FREE, ACQUIRE and LOCKED: the states a glide begins from that leave nothing held. -/
def State.steered (s : State) : Bool := [tsFree, tsAcquire, tsLocked].contains s.timeState

theorem steered_iff : s.steered = true ↔ s.timeState = tsFree ∨ s.timeState = tsAcquire ∨ s.timeState = tsLocked := by
  simp [State.steered]

theorem steered_ne_unset (h : s.steered = true) : s.timeState ≠ tsUnset := by
  obtain h | h | h := steered_iff.1 h <;> rw [h] <;> decide

/-- A glide that begins is told last. -/
theorem enterGlide_steered (h : s.steered = true) : s.enterGlide lost =
    ((((((s.setInt TIME_GLIDE_FREQ_ADJ s.glideFreq).setFld TIME_GLIDE_AGE_MS_MS 0).modTime fun t =>
      { t with glideUnits := 0, glidePassed := false, held := none }).setBit TIME_CTRL_STEP_AUTH false).setTimeState
        tsGlide).raise 2 10 lost) := by
  have hne : s.timeState ≠ tsGlide ∧ s.timeState ≠ tsHeld := by
    obtain h | h | h := steered_iff.1 h <;> rw [h] <;> decide
  obtain ⟨hg, hh⟩ := hne
  simp only [State.enterGlide, hg, hh, steered_ne_unset h, or_self, if_false]

theorem timeState_enterGlide (h : s.timeState ≠ tsUnset) : (s.enterGlide lost).timeState = tsGlide := by
  unfold State.enterGlide
  split
  · next hs => exact hs.resolve_right h
  · exact (fld_raise _ (by decide) _ _).trans (timeState_setTimeState _ tsGlide (by decide))

theorem sameMems_enterGlide (s : State) : SameMems s (s.enterGlide lost) :=
  .ite _ (.refl s) (((((((SameMems.refl s).setFld _ _).setFld _ _).modTime _).setBit _ _).quiet (quiet_setTimeState _ _)).raise 2 10 lost)

theorem time_enterGlide (h : s.steered = true) :
    (s.enterGlide lost).time = { s.time with glideUnits := 0, glidePassed := false, held := none } := by
  rw [enterGlide_steered lost h, time_raise, time_setTimeState, setBit_eq, setFld_time, modTime_time, setFld_time,
    setInt_eq, setFld_time]

theorem event_enterGlide (h : s.steered = true) : ((s.enterGlide lost).reg (regKey 2 0x010)).getLsbD 10 = true := by
  rw [enterGlide_steered lost h]
  exact event_raise _ 2 10 lost (by decide)

/-- A field beside those a glide writes. -/
theorem fld_enterGlide {f : Fld} (hs : TIME_STATUS_STATE.apart f = true) (he : evKey 2 f.key = false)
    (hf : TIME_GLIDE_FREQ_ADJ.apart f = true) (ha : TIME_GLIDE_AGE_MS_MS.apart f = true)
    (hc : TIME_CTRL_STEP_AUTH.apart f = true) : (s.enterGlide lost).fld f = s.fld f := by
  unfold State.enterGlide
  split
  · rfl
  · dsimp only
    rw [fld_raise _ he, fld_setTimeState _ _ hs he, setBit_eq, fld_setFld_of_apart _ hc, fld_modTime,
      fld_setFld_of_apart _ ha, setInt_eq, fld_setFld_of_apart _ hf]

theorem glideFreq_enterGlide (h : s.steered = true) :
    (s.enterGlide lost).fld TIME_GLIDE_FREQ_ADJ = intBits 32 s.glideFreq := by
  rw [enterGlide_steered lost h, fld_raise _ (by decide), fld_setTimeState _ _ (by decide) (by decide), setBit_eq,
    fld_setFld_of_apart _ (by decide), fld_modTime, fld_setFld_of_apart _ (by decide), setInt_eq,
    fld_setFld_same _ _ _ (by decide)]
  exact Nat.mod_eq_of_lt (intBits_lt 32 _)

theorem glideAge_enterGlide (h : s.steered = true) : (s.enterGlide lost).fld TIME_GLIDE_AGE_MS_MS = 0 := by
  rw [enterGlide_steered lost h, fld_raise _ (by decide), fld_setTimeState _ _ (by decide) (by decide), setBit_eq,
    fld_setFld_of_apart _ (by decide), fld_modTime, fld_setFld_same _ _ _ (by decide)]
  exact Nat.zero_mod _

end

theorem forceGlide_off {s : State} (h : s.bit TIME_CTRL_FORCE_GLIDE = false) : s.forceGlide = s := by
  simp [State.forceGlide, h]

end Sys2Proof.Machine
end

section
/-! PROOF. The tick of the TIME grid (O2, R86, R476), NOW_NS and the anchor (O17, R88, R90). -/

namespace Sys2Proof.Machine

open Sys2Proof

/-! The tick (R86). -/

/-- Nothing but registers, event records, what is sent, the time base, the marks and BANK_BUSY differs. -/
def OnlyTick (s t : State) : Prop := t = { s with
  regs := t.regs
  recQ := t.recQ
  out := t.out
  time := t.time
  marks := t.marks
  bankBusy := t.bankBusy }

namespace OnlyTick

variable {s t u : State}

theorem refl (s : State) : OnlyTick s s := rfl

theorem trans (h : OnlyTick s t) (g : OnlyTick t u) : OnlyTick s u := by
  unfold OnlyTick at *; rw [g, h]

theorem quiet (h : OnlyTick s t) (g : Quiet t u) : OnlyTick s u := h.trans (by rw [g]; rfl)

theorem modTime (h : OnlyTick s t) (f : TimeS → TimeS) : OnlyTick s (t.modTime f) := h.trans rfl

theorem ite (c : Prop) [Decidable c] (h : OnlyTick s t) (g : OnlyTick s u) : OnlyTick s (if c then t else u) := by
  split <;> assumption

theorem glide (h : OnlyTick s t) (c : Prop) [Decidable c] (f : Fld) (v : Nat) :
    OnlyTick s (if c then t.setFld f v else t) := .ite _ (h.quiet (quiet_setFld _ _ _)) h

theorem pulse (h : OnlyTick s t) (c : Bool) (o : Out) : OnlyTick s (if c then t.emit o else t) :=
  .ite _ (h.quiet (quiet_emit _ _)) h

theorem carveDone (h : OnlyTick s t) : OnlyTick s t.carveDone :=
  .ite _ ((h.modTime _).quiet (quiet_setFld _ _ _)) h

theorem tickMark (h : OnlyTick s t) (n : Nat) : OnlyTick s (t.tickMark n) := by
  have hm : OnlyTick s { t with marks := t.marks ++ [.tick n] } := h.trans rfl
  exact .ite _ h (.ite _ ((hm.quiet (quiet_setFld _ _ _)).quiet (quiet_raise _ _ _ _)) hm)

theorem busyPulse (h : OnlyTick s t) : OnlyTick s t.busyPulse := by
  unfold State.busyPulse
  split
  · exact .ite _ (h.trans rfl) h
  · exact h

theorem sameMems (h : OnlyTick s t) : SameMems s t := by
  rw [h]; exact ⟨rfl, rfl, rfl, rfl, rfl⟩

end OnlyTick

/-- The increment of one tick before the part below one unit is cut off: the nominal tick at the frequency in force and
the running slew (R86). -/
def State.tickSum (s : State) : Nat := (s.time.res + tickUnits * ((ppbScale : Int) + s.freqNow + s.slewNow)).toNat

/-- The time base, the span clock and the part below one unit after a tick. -/
def State.Ticked (s t : State) : Prop :=
  t.time.now = s.time.now + s.tickSum / ppbScale ∧ t.time.mono = s.time.mono + s.tickSum / ppbScale ∧
    t.time.res = s.tickSum % ppbScale

section
variable {s t : State} (h : s.Ticked t)
include h

theorem Ticked.of_time {u : State} (hu : u.time = t.time) : s.Ticked u := by
  unfold State.Ticked; rwa [hu]

/-- The end of a carve moves no clock (R103). -/
theorem Ticked.carveDone : s.Ticked t.carveDone := by
  unfold State.carveDone
  split
  · rw [State.Ticked, setBit_eq, setFld_time, modTime_time]
    exact h
  · exact h

theorem Ticked.tickMark (n : Nat) : s.Ticked (t.tickMark n) := by
  refine Ticked.of_time h ?_
  unfold State.tickMark
  dsimp only
  split_ifs
  · rfl
  · rw [time_raise, incFld_eq, setFld_time]
  · rfl

theorem Ticked.busyPulse : s.Ticked t.busyPulse := by
  refine Ticked.of_time h ?_
  unfold State.busyPulse
  split
  · split <;> rfl
  · rfl

theorem Ticked.glide (c : Prop) [Decidable c] (f : Fld) (v : Nat) : s.Ticked (if c then t.setFld f v else t) := by
  split
  · exact Ticked.of_time h (setFld_time _ _ _)
  · exact h

theorem Ticked.pulse (c : Bool) (o : Out) : s.Ticked (if c then t.emit o else t) := by
  split
  · exact Ticked.of_time h rfl
  · exact h

end

/-- A tick moves the time base and the span clock by one increment (R86). -/
theorem ticked_tick (s : State) : s.Ticked s.tick :=
  Ticked.tickMark (Ticked.carveDone (Ticked.pulse (Ticked.glide ⟨rfl, rfl, rfl⟩ _ _ _) _ _)) _

theorem onlyTick_tick (s : State) : OnlyTick s s.tick :=
  (((OnlyTick.refl s).modTime _).glide _ _ _ |>.pulse _ _).carveDone.tickMark _

theorem step_idle {s : State} (h : s.pending = []) : step s = .next s.idleTick := by
  unfold step State.stepWith
  rw [h]

theorem idleTick_inReset {s : State} (h : s.phase = 0) : s.idleTick = s := if_pos h

theorem idleTick_spec {s : State} (h : s.phase ≠ 0) : s.Ticked s.idleTick ∧ OnlyTick s s.idleTick := by
  unfold State.idleTick
  rw [if_neg h]
  exact ⟨Ticked.busyPulse (ticked_tick s), (onlyTick_tick s).busyPulse⟩

/-! NOW_NS and the anchor (R88, R90). -/

section
variable (s : State) (q : Req)

theorem snap_setSnap_ne {q' : Req} {k k' : Nat} (v : Word) (h : reqKey q' k' ≠ reqKey q k) :
    (s.setSnap q k v).snap q' k' = s.snap q' k' := mapGet_set_ne _ _ _ h

/-- The state a served read of NOW_NS answers. -/
def State.nowNsAnswered : State := (s.readNowNs q).2.emit (.data q [BitVec.ofNat 32 (s.readNowNs q).1])

theorem exec_nowNsRead (h : s.gate q 2 = .served) : exec (.nowNsRead q) s = .next (s.nowNsAnswered q) := by
  show execNowNsRead q s = _
  simp only [execNowNsRead, State.serveRead, h, State.nowNsAnswered]

theorem snap_nowNsAnswered (q' : Req) (k : Nat) : (s.nowNsAnswered q).snap q' k = (s.readNowNs q).2.snap q' k := rfl

theorem secLo_nowNsAnswered : (s.nowNsAnswered q).snap q TIME_NOW_SEC_LO_SEC_LO.key =
    BitVec.ofNat 32 (s.nowNs / 1000000000) := by
  rw [snap_nowNsAnswered, State.readNowNs, snap_setSnap_ne _ _ _ (by cases q <;> decide),
    snap_setSnap_ne _ _ _ (by cases q <;> decide), snap_setSnap_same]

theorem secHi_nowNsAnswered : (s.nowNsAnswered q).snap q TIME_NOW_SEC_HI_SEC_HI.key =
    BitVec.ofNat 32 (s.nowNs / 1000000000 / 2 ^ 32 % 2 ^ 16) := by
  rw [snap_nowNsAnswered, State.readNowNs, snap_setSnap_ne _ _ _ (by cases q <;> decide), snap_setSnap_same]

theorem frac_nowNsAnswered : (s.nowNsAnswered q).snap q TIME_NOW_FRAC_FRAC.key =
    BitVec.ofNat 32 (s.time.now % unitsPerNs) := by
  rw [snap_nowNsAnswered, State.readNowNs, snap_setSnap_same]

theorem nowNsAnswered_frame :
    s.nowNsAnswered q = { s with out := (s.nowNsAnswered q).out, snaps := (s.nowNsAnswered q).snaps } := by
  unfold State.nowNsAnswered State.readNowNs State.setSnap State.emit
  rfl

/-- The snapshots of the other requester stay. -/
theorem snap_nowNsAnswered_other {q' : Req} {k : Nat} (hq : q' ≠ q) (hk : k < 2 ^ 24) :
    (s.nowNsAnswered q).snap q' k = s.snap q' k := by
  rw [snap_nowNsAnswered, State.readNowNs]
  iterate 3 rw [snap_setSnap_other _ _ hq (by decide) hk]

end

section
variable {s : State}

theorem exec_anchor_idle (h : s.timeState = tsUnset ∨ s.time.now / unitsPerSec ≤ s.time.lastAnchor) :
    exec .anchor s = .next s := by
  show execAnchor s = _
  unfold execAnchor
  exact if_neg fun hc => h.elim hc.1 (not_le.2 hc.2)

/-- The state after the anchor of the second in progress. -/
def State.anchored (s : State) : State :=
  let n := s.time.now / unitsPerSec * 1000000000
  let s1 := s.modTime fun t => { t with lastAnchor := s.time.now / unitsPerSec }
  if s.bit TIME_CTRL_ANCHOR_EN then s1.pushRec 2 0x20 (n / 2 ^ 32) false n else s1

theorem exec_anchor_second (hu : s.timeState ≠ tsUnset) (h : s.time.lastAnchor < s.time.now / unitsPerSec) :
    exec .anchor s = .next s.anchored := by
  show execAnchor s = _
  unfold execAnchor
  exact if_pos ⟨hu, h⟩

theorem anchored_eq (s : State) : s.anchored =
    { s with
      time := { s.time with lastAnchor := s.time.now / unitsPerSec }
      recQ := if s.bit TIME_CTRL_ANCHOR_EN ∧ s.bit (HOST_PAGE_ROUTE_RECORD_EN.nth 2) then
        s.recQ ++ [⟨2, 0x20, s.time.now / unitsPerSec * 1000000000 / 2 ^ 32 % 2 ^ 41, false,
          s.time.now / unitsPerSec * 1000000000, true⟩] else s.recQ } := by
  have hr : (s.modTime fun t => { t with lastAnchor := s.time.now / unitsPerSec }).bit (HOST_PAGE_ROUTE_RECORD_EN.nth 2) =
      s.bit (HOST_PAGE_ROUTE_RECORD_EN.nth 2) := rfl
  unfold State.anchored State.pushRec
  dsimp only
  rw [hr]
  by_cases ha : s.bit TIME_CTRL_ANCHOR_EN
  · rw [if_pos ha]
    by_cases hb : s.bit (HOST_PAGE_ROUTE_RECORD_EN.nth 2)
    · rw [if_pos hb, if_pos ⟨ha, hb⟩]; rfl
    · rw [if_neg hb, if_neg fun h => hb h.2]; rfl
  · rw [if_neg ha, if_neg fun h => ha h.1]; rfl

end

end Sys2Proof.Machine

open Sys2Proof Sys2Proof.Machine

/-- Settles O2: an empty queue is one tick, and a tick moves both clocks by one increment. -/
theorem emptyQueueIsOneTick : Obligations.EmptyQueueIsOneTick := by
  unfold Obligations.EmptyQueueIsOneTick
  intro s hp
  rw [step_idle hp]
  refine ⟨fun h => by rw [idleTick_inReset h], fun h => ?_⟩
  obtain ⟨hc, ho⟩ := idleTick_spec h
  refine ⟨_, rfl, ?_, hc, ho.sameMems.memKept, ?_⟩
  all_goals rw [ho]
  · exact hp
  · exact ⟨rfl, rfl, rfl, rfl, rfl⟩

/-- Settles O17: a read of NOW_NS by the snapshots it takes, the anchor by its record. -/
theorem timeReadsAndAnchors : Obligations.TimeReadsAndAnchors := by
  unfold Obligations.TimeReadsAndAnchors
  intro q s
  refine ⟨fun hg => ?_, exec_anchor_idle, fun hu hs => ?_⟩
  · exact ⟨_, exec_nowNsRead s q hg, rfl, secLo_nowNsAnswered s q, secHi_nowNsAnswered s q, frac_nowNsAnswered s q,
      fun q' k hq hk => snap_nowNsAnswered_other s q hq hk, nowNsAnswered_frame s q⟩
  · refine ⟨_, exec_anchor_second hu hs, ?_⟩
    rw [anchored_eq]
    exact ⟨rfl, rfl, rfl⟩
end

section
/-! PROOF. Software corrections (O19, R87, R100 to R102, R110): a slew, a hold, FREQ_ADJ by hand and the direct set of time. -/

namespace Sys2Proof.Machine

open Sys2Proof

/-! A stored field. -/

/-- An RW field takes its bits of the word written (R18). -/
theorem natBits_storeField_same {f : FieldRow} (ha : f.acc = .rw) (hw : f.lo + f.w ≤ 32) (old v : Word) :
    natBits (storeField old v f).toNat f.lo f.w = natBits v.toNat f.lo f.w := by
  have hb : natBits v.toNat f.lo f.w % 2 ^ f.w = natBits v.toNat f.lo f.w := Nat.mod_eq_of_lt (natBits_lt _ _ _)
  simp only [storeField, ha, BitVec.toNat_ofNat]
  rw [Nat.mod_eq_of_lt (natSetBits_lt _ _ _ _ 32 old.isLt hw), natBits_set_same, hb]

/-- Whether a field is RW and lies apart from `w` bits from `lo` on. -/
def FieldRow.rwApart (lo w : Nat) (f : FieldRow) : Bool :=
  f.acc == .rw && decide (f.lo + f.w ≤ 32) && decide (lo + w ≤ f.lo ∨ f.lo + f.w ≤ lo)

theorem natBits_storeField_apart {f : FieldRow} {lo w : Nat} (h : f.rwApart lo w = true) (old v : Word) :
    natBits (storeField old v f).toNat lo w = natBits old.toNat lo w := by
  simp only [FieldRow.rwApart, Bool.and_eq_true, beq_iff_eq, decide_eq_true_eq] at h
  obtain ⟨⟨ha, hw⟩, hd⟩ := h
  simp only [storeField, ha, BitVec.toNat_ofNat]
  rw [Nat.mod_eq_of_lt (natSetBits_lt _ _ _ _ 32 old.isLt hw)]
  rcases hd with hd | hd
  · exact natBits_set_below _ _ _ _ _ _ hd
  · exact natBits_set_above _ _ _ _ _ _ hd

theorem natBits_storeFields_apart {lo w : Nat} (v : Word) (l : List FieldRow) (h : ∀ f ∈ l, f.rwApart lo w = true) :
    ∀ old : Word, natBits (l.foldl (fun x f => storeField x v f) old).toNat lo w = natBits old.toNat lo w := by
  induction l with
  | nil => exact fun _ => rfl
  | cons f l ih =>
    intro old
    rw [List.foldl_cons, ih (fun g hg => h g (List.mem_cons_of_mem f hg)),
      natBits_storeField_apart (h f List.mem_cons_self)]

/-- An RW field of a register is written with its bits, whatever RW fields come after it (R18). -/
theorem natBits_storeWord {r : RegRow} {f : FieldRow} {pre post : List FieldRow} (hr : r.fields = pre ++ f :: post)
    (ha : f.acc = .rw) (hw : f.lo + f.w ≤ 32) (hp : ∀ g ∈ post, g.rwApart f.lo f.w = true) (old v : Word) :
    natBits (storeWord r old v).toNat f.lo f.w = natBits v.toNat f.lo f.w := by
  rw [storeWord, hr, List.foldl_append, List.foldl_cons, natBits_storeFields_apart v post hp,
    natBits_storeField_same ha hw]

/-! What a correction may change. -/

/-- Nothing but registers, event records, what is sent and the time base's own data differs between `s` and `t`. -/
def OnlyTime (s t : State) : Prop := t = { s with
  regs := t.regs
  time := t.time
  recQ := t.recQ
  out := t.out }

namespace OnlyTime

variable {s t u : State}

theorem refl (s : State) : OnlyTime s s := rfl

theorem trans (h : OnlyTime s t) (g : OnlyTime t u) : OnlyTime s u := by
  unfold OnlyTime at *; rw [g, h]

theorem quiet (h : OnlyTime s t) (g : Quiet t u) : OnlyTime s u := h.trans (by rw [g]; rfl)

theorem onlyRegs (h : OnlyTime s t) (g : OnlyRegs t u) : OnlyTime s u := h.trans (by rw [g]; rfl)

theorem modTime (h : OnlyTime s t) (f : TimeS → TimeS) : OnlyTime s (t.modTime f) := h.trans rfl

theorem sameMems (h : OnlyTime s t) : SameMems s t := by
  rw [h]; exact ⟨rfl, rfl, rfl, rfl, rfl⟩

end OnlyTime

/-- Nothing but registers and the time base's own data differs between `s` and `t`. -/
def RegsTime (s t : State) : Prop := t = { s with regs := t.regs, time := t.time }

namespace RegsTime

variable {s t u : State}

theorem refl (s : State) : RegsTime s s := rfl

theorem trans (h : RegsTime s t) (g : RegsTime t u) : RegsTime s u := by
  unfold RegsTime at *; rw [g, h]

theorem onlyRegs (h : RegsTime s t) (g : OnlyRegs t u) : RegsTime s u := h.trans (by rw [g]; rfl)

theorem setFld (h : RegsTime s t) (f : Fld) (v : Nat) : RegsTime s (t.setFld f v) := h.trans rfl

theorem modTime (h : RegsTime s t) (f : TimeS → TimeS) : RegsTime s (t.modTime f) := h.trans rfl

theorem sameMems (h : RegsTime s t) : SameMems s t := by
  rw [h]; exact ⟨rfl, rfl, rfl, rfl, rfl⟩

end RegsTime

theorem time_countWrite (s : State) (p : Nat) : (s.countWrite p).time = s.time := (OnlyRegs.countWrite s p).time

theorem timeState_countWrite (s : State) : (s.countWrite 2).timeState = s.timeState := fld_countWrite (by decide)

theorem bit_countWrite {s : State} {p : Nat} {f : Fld} (h : f.key ≠ regKey p 0x01C) : (s.countWrite p).bit f = s.bit f := by
  simp only [State.bit, fld_countWrite h]

/-! A correction within the threshold, and one beyond it (R101, R102). -/

section
variable {s : State} {o : Int}

/-- A correction within the threshold, or any while the guard is suspended, is slewed. -/
theorem softCorrection_slewed (hu : s.timeState ≠ tsUnset) (h : |o| ≤ s.stepThresh ∨ s.time.carveOpen = true) :
    s.softCorrection o =
      s.modTime fun t => { t with swRem := o.natAbs * 256000000000, swForward := decide (o < 0) } := by
  rw [State.softCorrection, if_neg hu, if_pos h, ppbScale]

theorem softCorrection_held (hu : s.timeState ≠ tsUnset) (h : s.stepThresh < |o|) (hc : s.time.carveOpen = false) :
    s.softCorrection o = s.hold o true := by
  rw [State.softCorrection, if_neg hu, if_neg]
  simp [hc, h]

/-- The registers' and the time base's part of a correction newly held, before STATE follows. -/
def State.holdBegun (s : State) (o : Int) (sw : Bool) : State :=
  (s.modTime fun t => { t with held := some ⟨o, sw⟩, swRem := if sw then 0 else t.swRem }).setBit TIME_STATUS_HELD_DIR
    (decide (0 < o))

section
variable (sw : Bool) (h : s.timeState ≠ tsHeld)
include h

/-- A correction newly held is told last (R102). -/
theorem hold_begins : ∃ g a, s.hold o sw =
    (((s.holdBegun o sw).setInt TIME_GLIDE_FREQ_ADJ g).setTimeState tsHeld).raise 2 13 a := by
  rw [State.hold]
  exact ⟨_, _, if_neg h⟩

theorem timeState_hold : (s.hold o sw).timeState = tsHeld := by
  obtain ⟨g, a, hh⟩ := hold_begins (o := o) sw h
  rw [hh]
  exact (fld_raise _ (by decide) _ _).trans (timeState_setTimeState _ tsHeld (by decide))

theorem time_hold : (s.hold o sw).time = { s.time with held := some ⟨o, sw⟩, swRem := if sw then 0 else s.time.swRem } := by
  obtain ⟨g, a, hh⟩ := hold_begins (o := o) sw h
  rw [hh, time_raise, time_setTimeState, setInt_eq, setFld_time, State.holdBegun, setBit_eq, setFld_time, modTime_time]

theorem heldDir_hold : (s.hold o sw).bit TIME_STATUS_HELD_DIR = decide (0 < o) := by
  obtain ⟨g, a, hh⟩ := hold_begins (o := o) sw h
  have hd : (s.holdBegun o sw).bit TIME_STATUS_HELD_DIR = decide (0 < o) := bit_setBit_same _ (by decide) _
  rw [← hd, hh, State.bit, fld_raise _ (by decide), fld_setTimeState _ _ (by decide) (by decide), setInt_eq,
    fld_setFld_of_apart _ (by decide), State.bit]

theorem event_hold : ((s.hold o sw).reg (regKey 2 0x010)).getLsbD 13 = true := by
  obtain ⟨g, a, hh⟩ := hold_begins (o := o) sw h
  rw [hh]
  exact event_raise _ 2 13 a (by decide)

theorem onlyTime_hold : OnlyTime s (s.hold o sw) := by
  obtain ⟨g, a, hh⟩ := hold_begins (o := o) sw h
  rw [hh, State.holdBegun]
  exact (((((OnlyTime.refl s).modTime _).quiet (quiet_setFld _ _ _)).quiet (quiet_setFld _ _ _)).quiet
    (quiet_setTimeState _ _)).quiet (quiet_raise _ _ _ _)

end
end

/-! The direct set of time (R87). -/

section
variable (s : State) (units : Nat)

/-- The time set directly, before STATE follows. -/
def State.timeSet (s : State) (units : Nat) : State :=
  ((s.modTime fun t => { t with
    now := units
    res := 0
    lastAnchor := (units + unitsPerSec - 1) / unitsPerSec - 1
    lastAccepted := none
    outRun := 0
    lastSource := t.mono }).nextFromNow).ltcSkip

theorem regs_timeSet : (s.timeSet units).regs = s.regs := by
  unfold State.timeSet State.nextFromNow State.ltcSkip
  rfl

theorem fld_timeSet (f : Fld) : (s.timeSet units).fld f = s.fld f := by
  unfold State.fld State.reg
  rw [regs_timeSet]

theorem SameMems.rejudgeEach {s t : State} (h : SameMems s t) (inst at_ : Nat) : SameMems s (t.rejudgeEach inst at_) :=
  ⟨h.dram, h.dramErr, h.bankMem, h.bankErr, h.nvm⟩

theorem sameMems_timeSet : SameMems s (s.timeSet units) := by
  unfold State.timeSet State.nextFromNow State.ltcSkip
  exact ((((SameMems.refl s).modTime _).modTime _).rejudgeEach _ _).modTime _

/-- With no source in use and no glide forced STATE becomes FREE. -/
theorem setTimeDirect_free (h : s.fld TIME_STATUS_SOURCE_IN_USE = 0) (hf : s.bit TIME_CTRL_FORCE_GLIDE = false) :
    s.setTimeDirect units = (s.timeSet units).setTimeState tsFree := by
  have hd : s.setTimeDirect units = (if (s.timeSet units).fld TIME_STATUS_SOURCE_IN_USE = 0 then
      (s.timeSet units).setTimeState tsFree else (s.timeSet units).servoAcquire).forceGlide := rfl
  have hg : ((s.timeSet units).setTimeState tsFree).bit TIME_CTRL_FORCE_GLIDE = false := by
    rw [State.bit, fld_setTimeState _ _ (by decide) (by decide), fld_timeSet]
    exact hf
  rw [hd, fld_timeSet, if_pos h, forceGlide_off hg]

theorem nextTransit_timeSet : ∃ m, (s.timeSet units).time.nextTransit = some (m, transitInstant s.rate m) := ⟨_, rfl⟩

end

theorem rate_of_inForce {s t : State} (h : t.inForce = s.inForce) : t.rate = s.rate := by
  unfold State.rate State.act
  rw [h]

/-! The three registers of the time offered (R100). -/

section
variable {s : State} {q : Req} {lo : Word} (v : Word)

/-- The time the three registers give once both halves of the seconds are stored. -/
theorem setTimeValue_pairStored : (s.pairStored q 2 0x0A0 lo v).setTimeValue =
    ((lo.toNat + v.toNat % 2 ^ 16 * 2 ^ 32) * 1000000000 + s.fld TIME_SET_NS_NS) * 65536 := by
  have hlo : (s.pairStored q 2 0x0A0 lo v).fld TIME_SET_SEC_LO_SEC = lo.toNat := by
    have hk : (s.pairStored q 2 0x0A0 lo v).reg TIME_SET_SEC_LO_SEC.key = lo :=
      (pairStored_lo q 2 0x0A0 lo v (r := ⟨0x09C, 0, 1, none, [⟨0, 32, .rw, false, 0⟩]⟩) (by decide) (by decide)).trans
        (storeWord_rw _ rfl _ _)
    rw [State.fld, hk]
    exact (congrArg (· % 2 ^ 32) (Nat.div_one _)).trans (Nat.mod_eq_of_lt lo.isLt)
  have hhi : (s.pairStored q 2 0x0A0 lo v).fld TIME_SET_SEC_HI_SEC = v.toNat % 2 ^ 16 := by
    have hk : (s.pairStored q 2 0x0A0 lo v).reg TIME_SET_SEC_HI_SEC.key = _ :=
      pairStored_hi q 2 0x0A0 lo v (r := ⟨0x0A0, 0, 1, none, [⟨0, 16, .rw, false, 0⟩]⟩) (by decide) (by decide)
    rw [State.fld, hk]
    exact (natBits_storeWord (f := ⟨0, 16, .rw, false, 0⟩) (pre := []) (post := []) rfl rfl (by decide) (by simp) _ v).trans
      (congrArg (· % 2 ^ 16) (Nat.div_one _))
  have hns : (s.pairStored q 2 0x0A0 lo v).fld TIME_SET_NS_NS = s.fld TIME_SET_NS_NS :=
    fld_of_regsKept (regsKept_pairStored q 2 0x0A0 lo v (RegsKept.refl _ s)) (by decide)
  rw [State.setTimeValue, hlo, hhi, hns]
  rfl

/-- The pair's halves stored move no other field of the page. -/
theorem fld_pairStored_secHi {f : Fld}
    (h : [regKey 2 0x09C, regKey 2 0x0A0, regKey 2 0x01C, regKey 2 0x028].contains f.key = false) :
    (s.pairStored q 2 0x0A0 lo v).fld f = s.fld f :=
  fld_of_regsKept (regsKept_pairStored q 2 0x0A0 lo v (RegsKept.refl _ s)) h

/-- A write of SET_SEC_HI while UNSET sets the time to the value of the three registers (R87, R100). -/
theorem writeSetSecHi_unset (hu : s.timeState = tsUnset) (hf : s.bit TIME_CTRL_FORCE_GLIDE = false)
    (hh : s.heldOf q (regKey 2 0x09C) = some lo) (h0 : s.fld TIME_STATUS_SOURCE_IN_USE = 0) :
    s.writeSetSecHi q v = ((s.pairStored q 2 0x0A0 lo v).timeSet
      (((lo.toNat + v.toNat % 2 ^ 16 * 2 ^ 32) * 1000000000 + s.fld TIME_SET_NS_NS) * 65536)).setTimeState tsFree := by
  have hst : (s.pairStored q 2 0x0A0 lo v).timeState = tsUnset := (fld_pairStored_secHi v (by decide)).trans hu
  have hfg : (s.pairStored q 2 0x0A0 lo v).bit TIME_CTRL_FORCE_GLIDE = false := by
    rw [State.bit, fld_pairStored_secHi v (by decide)]
    exact hf
  have hsrc : (s.pairStored q 2 0x0A0 lo v).fld TIME_STATUS_SOURCE_IN_USE = 0 :=
    (fld_pairStored_secHi v (by decide)).trans h0
  have hpair : s.writeSetSecHi q v = (s.pairStored q 2 0x0A0 lo v).softCorrection
      (((s.pairStored q 2 0x0A0 lo v).time.now : Int) - (s.pairStored q 2 0x0A0 lo v).setTimeValue) := by
    simp only [State.writeSetSecHi, storePair_held q 2 0x0A0 lo v hh]
  rw [hpair, State.softCorrection, if_pos hst, setTimeDirect_free _ _ hsrc hfg, sub_sub_cancel, Int.toNat_natCast,
    setTimeValue_pairStored]

theorem sameMems_pairStored : SameMems s (s.pairStored q 2 0x0A0 lo v) := by
  rw [pairStored_only q 2 0x0A0 lo v (OnlyPair.of_onlyRegs (OnlyRegs.refl s))]
  exact ⟨rfl, rfl, rfl, rfl, rfl⟩

theorem rate_pairStored : (s.pairStored q 2 0x0A0 lo v).rate = s.rate := by
  have hf : (s.pairStored q 2 0x0A0 lo v).inForce = s.inForce := by
    rw [pairStored_only q 2 0x0A0 lo v (OnlyPair.of_onlyRegs (OnlyRegs.refl s))]
  exact rate_of_inForce hf

end

/-! The commands. -/

section
variable {s : State} {q : Req} (hg : s.gate q 2 = .served) (hm : s.mayWrite q 2 = true) (v : Word)
include hg hm

theorem exec_swOffsetWrite : exec (.swOffsetWrite q v) s = .next ((s.countWrite 2).writeSwOffset v) :=
  congrArg Host.Outcome.next (write_accepted s q 2 0x0A4 v _ hg (by decide) (not_barred hm))

theorem exec_freqAdjWrite : exec (.freqAdjWrite q v) s = .next ((s.countWrite 2).writeFreqAdj v) :=
  congrArg Host.Outcome.next (write_accepted s q 2 0x080 v _ hg (by decide) (not_barred hm))

theorem exec_setSecHiWrite : exec (.setSecHiWrite q v) s = .next ((s.countWrite 2).writeSetSecHi q v) :=
  congrArg Host.Outcome.next (write_accepted s q 2 0x0A0 v _ hg (by decide) (not_barred hm))

/-- Without SW_SERVO neither write does more than count (R110). -/
theorem exec_servo_off (h : s.bit TIME_CTRL_SW_SERVO = false) :
    exec (.swOffsetWrite q v) s = .next (s.countWrite 2) ∧ exec (.freqAdjWrite q v) s = .next (s.countWrite 2) := by
  have hb : (s.countWrite 2).bit TIME_CTRL_SW_SERVO = false := (bit_countWrite (by decide)).trans h
  rw [exec_swOffsetWrite hg hm, exec_freqAdjWrite hg hm]
  simp [State.writeSwOffset, State.writeFreqAdj, hb]

/-- Under SW_SERVO a write of SW_OFFSET_NS is a correction by its negative (R110). -/
theorem exec_swOffset_correction (h : s.bit TIME_CTRL_SW_SERVO = true) : exec (.swOffsetWrite q v) s =
    .next ((s.countWrite 2).softCorrection (-(natSigned 32 v.toNat * 65536))) := by
  have hb : (s.countWrite 2).bit TIME_CTRL_SW_SERVO = true := (bit_countWrite (by decide)).trans h
  rw [exec_swOffsetWrite hg hm, State.writeSwOffset, if_pos hb]
  rfl

theorem exec_freqAdj_limited (h : s.bit TIME_CTRL_SW_SERVO = true) : ∃ t, exec (.freqAdjWrite q v) s = .next t ∧
    t.fld TIME_FREQ_ADJ_ADJ = intBits 32 (clampInt (-((s.fld TIME_CARVE_MAX_PPB : Int) * 256))
      ((s.fld TIME_CARVE_MAX_PPB : Int) * 256) (natSigned 32 v.toNat)) ∧
    RegsKept (fun k => [TIME_FREQ_ADJ_ADJ.key, regKey 2 0x01C].contains k) s t ∧ OnlyRegs s t := by
  have hb : (s.countWrite 2).bit TIME_CTRL_SW_SERVO = true := (bit_countWrite (by decide)).trans h
  have hlim : (s.countWrite 2).fld TIME_CARVE_MAX_PPB = s.fld TIME_CARVE_MAX_PPB := fld_countWrite (by decide)
  refine ⟨_, exec_freqAdjWrite hg hm v, ?_⟩
  rw [State.writeFreqAdj, if_pos hb, hlim, setInt_eq]
  refine ⟨?_, (regsKept_countWrite s 2 (by decide)).trans (regsKept_setFld _ _ _ (by decide)),
    (OnlyRegs.countWrite s 2).setFld _ _⟩
  rw [fld_setFld_same _ _ _ (by decide)]
  exact Nat.mod_eq_of_lt (intBits_lt 32 _)

end

theorem exec_swCorrectionAbsorbed (s : State) : exec .swCorrectionAbsorbed s =
    .next (if s.time.swRem = 0 then s.modTime fun t => { t with swForward := false } else s) := rfl

end Sys2Proof.Machine

open Sys2Proof Sys2Proof.Machine

/-- Settles O19: a correction by the step guard's judgement, FREQ_ADJ by its limit, SET_SEC_HI by the direct set of time. -/
theorem softwareCorrectionsJudged : Obligations.SoftwareCorrectionsJudged := by
  unfold Obligations.SoftwareCorrectionsJudged
  intro q v s
  have hthresh : (s.countWrite 2).stepThresh = s.fld TIME_STEP_THRESH_NS * 65536 := by
    rw [State.stepThresh, fld_countWrite (by decide)]; rfl
  refine ⟨fun hg hm => ⟨⟨exec_servo_off hg hm v, fun hs hu hj => ?_, fun hs hu hh ho hc => ?_⟩,
    exec_freqAdj_limited hg hm v, fun lo hu hf hl h0 => ?_⟩, fun h => ?_, fun h => ?_⟩
  · refine ⟨_, exec_swOffset_correction hg hm v hs, ?_⟩
    rw [softCorrection_slewed (by rw [timeState_countWrite]; exact hu) (by rw [hthresh, time_countWrite]; exact hj)]
    exact ⟨by rw [modTime_time, time_countWrite], (regsKept_countWrite s 2 (by decide)).modTime _,
      ((RegsTime.refl s).onlyRegs (.countWrite s 2)).modTime _⟩
  · have hh' : (s.countWrite 2).timeState ≠ tsHeld := by rwa [timeState_countWrite]
    refine ⟨_, exec_swOffset_correction hg hm v hs, ?_⟩
    rw [softCorrection_held (by rw [timeState_countWrite]; exact hu) (by rw [hthresh]; exact ho)
      (by rw [time_countWrite]; exact hc)]
    refine ⟨timeState_hold true hh', by rw [time_hold true hh', time_countWrite]; rfl, heldDir_hold true hh',
      event_hold true hh', ((OnlyTime.refl s).onlyRegs (.countWrite s 2)).trans (onlyTime_hold true hh')⟩
  · refine ⟨_, exec_setSecHiWrite hg hm v, ?_⟩
    rw [writeSetSecHi_unset v (by rwa [timeState_countWrite]) (by rwa [bit_countWrite (by decide)])
      (by rwa [heldOf_countWrite]) (by rwa [fld_countWrite (by decide)]), fld_countWrite (by decide), time_setTimeState]
    refine ⟨rfl, timeState_setTimeState _ tsFree (by decide), ?_, ?_⟩
    · obtain ⟨m, hn⟩ := nextTransit_timeSet ((s.countWrite 2).pairStored q 2 0x0A0 lo v)
        (((lo.toNat + v.toNat % 2 ^ 16 * 2 ^ 32) * 1000000000 + s.fld TIME_SET_NS_NS) * 65536)
      exact ⟨m, by rw [hn, rate_pairStored, rate_of_inForce (OnlyRegs.countWrite s 2).inForce]⟩
    · exact ((((SameMems.refl s).quiet (.of_onlyRegs (.countWrite s 2))).trans (sameMems_pairStored v)).trans
        (sameMems_timeSet _ _)).quiet (quiet_setTimeState _ _) |>.memKept
  · rw [exec_swCorrectionAbsorbed, if_pos h]; rfl
  · rw [exec_swCorrectionAbsorbed, if_neg h]
end

section
/-! PROOF. Glides (O21, R107, R108, R439): the source lost, the limit passed, the only master silent. -/

namespace Sys2Proof.Machine

open Sys2Proof

/-! GLIDE_TIMEOUT. -/

section
variable {s : State}

theorem lossSpan_eq {src : Nat} (hs : src = s.fld TIME_STATUS_SOURCE_IN_USE) (h : src = 2 ∨ src = 3) :
    s.lossSpan = if src = 2 then s.fld CL_LOSS_US_US * 1000 * 65536 else
      2 * s.rate.2 * (10 ^ 9 * 65536) / s.rate.1 := by
  unfold State.lossSpan
  obtain rfl | rfl := h <;> rw [← hs] <;> rfl

/-- A source that follows another device is lost once its span is over (R107, R439). -/
theorem exec_glideTimeout {src : Nat} (hs : src = s.fld TIME_STATUS_SOURCE_IN_USE) (h : src = 2 ∨ src = 3) :
    exec .glideTimeout s = .next (if s.lossSpan ≤ s.time.mono - s.time.lastSource then s.enterGlide src else s) := by
  show execGlideTimeout s = _
  unfold execGlideTimeout
  rw [← hs]
  obtain rfl | rfl := h <;> simp only [decide_eq_true_eq]

/-! GLIDE_LIMIT. -/

/-- A glide that passes the limit for the first time clears TRACEABLE and is told (R108). -/
def State.limitPassed (s : State) : State :=
  ((s.modTime fun t => { t with glidePassed := true }).setBit TIME_STATUS_TRACEABLE false).raise 2 12
    (s.fld TIME_GLIDE_AGE_MS_MS)

theorem exec_glideLimit_passed (hg : s.timeState = tsGlide) (h0 : s.fld TIME_GLIDE_LIMIT_S_S ≠ 0)
    (hp : s.time.glidePassed = false) (hl : s.fld TIME_GLIDE_LIMIT_S_S * 1000 < s.fld TIME_GLIDE_AGE_MS_MS) :
    exec .glideLimit s = .next s.limitPassed := by
  show execGlideLimit s = _
  unfold execGlideLimit
  exact if_pos ⟨hg, h0, by simp [hp], hl⟩

theorem exec_glideLimit_idle (h : s.fld TIME_GLIDE_LIMIT_S_S = 0 ∨ s.time.glidePassed = true) :
    exec .glideLimit s = .next s := by
  show execGlideLimit s = _
  unfold execGlideLimit
  exact if_neg fun ⟨_, h0, hp, _⟩ => h.elim h0 hp

theorem time_limitPassed (s : State) : s.limitPassed.time = { s.time with glidePassed := true } := by
  rw [State.limitPassed, time_raise, setBit_eq, setFld_time, modTime_time]

theorem traceable_limitPassed (s : State) : s.limitPassed.bit TIME_STATUS_TRACEABLE = false := by
  rw [State.limitPassed, State.bit, fld_raise _ (by decide)]
  exact bit_setBit_same _ (by decide) false

theorem timeState_limitPassed (s : State) : s.limitPassed.timeState = s.timeState := by
  rw [State.limitPassed, State.timeState, fld_raise _ (by decide), setBit_eq, fld_setFld_of_apart _ (by decide),
    fld_modTime, State.timeState]

end

/-! The only master silent. -/

section
variable {s : State}

theorem takeBest_alone (h : s.time.masters = []) : s.takeBest = s := by
  have hb : s.bestMaster = none := by
    rw [State.bestMaster, h]
    rfl
  rw [State.takeBest, hb]

/-- The loss of the only master known begins a glide (R107). -/
theorem loseMaster_only {u : Master} (hu : s.time.inUse = some u) (hm : s.time.masters = [u])
    (hp : s.fld TIME_STATUS_SOURCE_IN_USE = 1) :
    s.loseMaster = (s.modTime fun t => { t with inUse := none, masters := [] }).enterGlide 1 := by
  have hdrop : (s.modTime fun t => { t with
      inUse := none
      masters := t.masters.filter fun m => !(m.clock == u.clock && m.port == u.port && m.domain == u.domain) }) =
      s.modTime fun t => { t with inUse := none, masters := [] } := by
    unfold State.modTime
    simp [hm]
  unfold State.loseMaster
  simp only [hu, hdrop]
  rw [takeBest_alone (by rw [modTime_time])]
  simp only [modTime_time, fld_modTime, hp, if_true]

theorem exec_announceReceiptTimeout {u : Master} (hu : s.time.inUse = some u)
    (h : s.fld TIME_PTP_CFG_ANNOUNCE_TIMEOUT * intervalUnits u.interval ≤ s.time.mono - s.time.lastAnnounce) :
    exec .announceReceiptTimeout s = .next s.loseMaster := by
  show execAnnounceReceiptTimeout s = _
  simp only [execAnnounceReceiptTimeout, hu, if_pos h]

end

end Sys2Proof.Machine

open Sys2Proof Sys2Proof.Machine

/-- Settles O21: what a glide that begins leaves, the limit by its two outcomes, the loss of the only master. -/
theorem glideEntryAndLimit : Obligations.GlideEntryAndLimit := by
  unfold Obligations.GlideEntryAndLimit
  intro s
  refine ⟨fun src hsrc h23 => ?_, fun hg h0 hp hl => ?_, fun h => exec_glideLimit_idle (.inl h),
    fun u hu hm hp hspan hst => ?_⟩
  · have hexec := exec_glideTimeout hsrc h23
    rw [lossSpan_eq hsrc h23] at hexec
    refine ⟨fun hlt => ?_, fun hle hst => ⟨_, hexec.trans (congrArg _ (if_pos hle)), ?_⟩⟩
    · rw [hexec, if_neg (by omega)]
    · have hs : s.steered = true := hst
      have ht := time_enterGlide src hs
      exact ⟨timeState_enterGlide src (steered_ne_unset hs), glideFreq_enterGlide src hs, event_enterGlide src hs,
        by rw [ht], by rw [ht], (sameMems_enterGlide src s).memKept⟩
  · exact ⟨_, exec_glideLimit_passed hg h0 hp hl, traceable_limitPassed s, (timeState_limitPassed s).trans hg,
      event_raise _ 2 12 _ (by decide), time_limitPassed s,
      exec_glideLimit_idle (.inr (by rw [time_limitPassed]))⟩
  · have hs : (s.modTime fun t => { t with inUse := none, masters := [] }).steered = true := hst
    have ht := time_enterGlide 1 hs
    refine ⟨_, exec_announceReceiptTimeout hu hspan, ?_⟩
    rw [loseMaster_only hu hm hp]
    exact ⟨by rw [ht, modTime_time], by rw [ht, modTime_time], timeState_enterGlide 1 (steered_ne_unset hs),
      (((SameMems.refl s).modTime _).trans (sameMems_enterGlide 1 _)).memKept⟩
end

section
/-! PROOF. TIME.CTRL (O20, R98, R102, R103, R107, R110): a write as the plain bits stored and then one bit after the other. -/

namespace Sys2Proof.Machine

open Sys2Proof

theorem natBits_one (v : Word) (k : Nat) : (natBits v.toNat k 1 == 1) = v.getLsbD k := by
  rw [← BitVec.testBit_toNat, Nat.testBit_eq_decide_div_mod_eq, natBits, pow_one]
  rfl

/-! The stages of a write. -/

/-- The bits of CTRL that are stored as written. -/
def State.ctrlStored (s : State) (v : Word) : State :=
  ((((s.setFld TIME_CTRL_SOURCE (natBits v.toNat 0 2)).setBit TIME_CTRL_SW_SERVO (v.getLsbD 2)).setBit
    TIME_CTRL_ANCHOR_EN (v.getLsbD 3)).setBit TIME_CTRL_OFFSET_REC_EN (v.getLsbD 4)).setBit TIME_CTRL_FORCE_GLIDE (v.getLsbD 7)

/-- FORCE_GLIDE changes from `was` to `b` (R107). -/
def State.glideBit (s : State) (was b : Bool) : State :=
  if b ∧ ¬ was then s.enterGlide (s.fld TIME_STATUS_SOURCE_IN_USE)
  else if ¬ b ∧ was ∧ s.timeState = tsGlide ∧ s.fld TIME_STATUS_SOURCE_IN_USE = 0 then s.setTimeState tsFree
  else s

/-- SW_SERVO changes from `was` to `b` (R110). -/
def State.servoBit (s : State) (was b : Bool) : State :=
  if was ∧ ¬ b ∧ s.timeState = tsLocked then s.servoAcquire
  else if was ∧ ¬ b then s.modTime fun t => { t with servoLocked := false, lockRun := 0 } else s

/-- What a write of `b` makes of STEP_AUTH (R103). -/
def State.stepAuthed (s : State) (b : Bool) : Bool := b && s.timeState == tsHeld && !s.bit TIME_STATUS_HELD_DIR

/-- STEP_AUTH is written `b` (R103). -/
def State.stepBit (s : State) (b : Bool) : State :=
  if s.transitPending ∧ s.bit TIME_CTRL_STEP_AUTH ∧ ¬ s.time.stepSkip then s
  else if s.stepAuthed b ∧ ¬ s.bit TIME_CTRL_STEP_AUTH then
    ((s.floodStep s.transitPending).modTime fun t => { t with stepSkip := s.transitPending }).setBit TIME_CTRL_STEP_AUTH true
  else s.setBit TIME_CTRL_STEP_AUTH (s.stepAuthed b)

/-- CARVE_AUTH over the held correction `h` (R103). -/
def State.carveHeld (s : State) (h : HeldCorr) : State :=
  let t := (s.endHold.setBit TIME_CTRL_CARVE_AUTH true).modTime fun t => { t with carveOpen := true, carveSoft := h.sw }
  if h.sw then t.modTime fun t => { t with swRem := h.o.natAbs * ppbScale, swForward := decide (h.o < 0) } else t

/-- CARVE_AUTH is written `b` (R103). -/
def State.carveBit (s : State) (b : Bool) : State :=
  if b then
    if s.time.carveOpen then s
    else match s.time.held with
      | some h => if s.timeState = tsHeld then s.carveHeld h else s
      | none => s
  else (s.setBit TIME_CTRL_CARVE_AUTH false).modTime fun t => { t with carveOpen := false, carveSoft := false }

theorem writeTimeCtrl_stages (s : State) (v : Word) : s.writeTimeCtrl v =
    ((((s.ctrlStored v).pickSource.glideBit (s.bit TIME_CTRL_FORCE_GLIDE) (v.getLsbD 7)).servoBit
      (s.bit TIME_CTRL_SW_SERVO) (v.getLsbD 2)).stepBit (v.getLsbD 5)).carveBit (v.getLsbD 6) := by
  unfold State.writeTimeCtrl
  simp only [natBits_one]
  rfl

theorem glideBit_same (s : State) (b : Bool) : s.glideBit b b = s := by
  cases b <;> simp [State.glideBit]

theorem servoBit_same (s : State) (b : Bool) : s.servoBit b b = s := by
  cases b <;> simp [State.servoBit]

theorem glideBit_set (s : State) : s.glideBit false true = s.enterGlide (s.fld TIME_STATUS_SOURCE_IN_USE) :=
  if_pos (by decide)

theorem carveBit_off (s : State) : s.carveBit false =
    (s.setBit TIME_CTRL_CARVE_AUTH false).modTime fun t => { t with carveOpen := false, carveSoft := false } := rfl

/-! The bits as stored. -/

section
variable (s : State) (v : Word)

theorem onlyRegs_ctrlStored : OnlyRegs s (s.ctrlStored v) :=
  (((((OnlyRegs.refl s).setFld _ _).setFld _ _).setFld _ _).setFld _ _).setFld _ _

theorem reg_ctrlStored {k : Nat} (h : k ≠ regKey 2 0x008) : (s.ctrlStored v).reg k = s.reg k := by
  unfold State.ctrlStored
  simp only [setBit_eq]
  iterate 5 rw [reg_setFld_ne _ _ _ (h.trans_eq (by decide))]

theorem fld_ctrlStored {f : Fld} (h : f.key ≠ regKey 2 0x008) : (s.ctrlStored v).fld f = s.fld f := by
  simp only [State.fld, reg_ctrlStored s v h]

theorem forceGlide_ctrlStored : (s.ctrlStored v).bit TIME_CTRL_FORCE_GLIDE = v.getLsbD 7 :=
  bit_setBit_same _ (by decide) _

/-- A bit of CTRL beside FORCE_GLIDE is read through its write. -/
theorem swServo_ctrlStored : (s.ctrlStored v).bit TIME_CTRL_SW_SERVO = v.getLsbD 2 := by
  rw [← bit_setBit_same (s.setFld TIME_CTRL_SOURCE (natBits v.toNat 0 2)) (f := TIME_CTRL_SW_SERVO) (by decide)
    (v.getLsbD 2), State.ctrlStored, State.bit]
  simp only [setBit_eq]
  iterate 3 rw [fld_setFld_of_apart _ (by decide)]
  rfl

theorem source_ctrlStored : (s.ctrlStored v).fld TIME_CTRL_SOURCE = v.toNat % 4 := by
  have h : (s.setFld TIME_CTRL_SOURCE (natBits v.toNat 0 2)).fld TIME_CTRL_SOURCE = v.toNat % 4 := by
    rw [fld_setFld_same _ _ _ (by decide)]
    simp [natBits, TIME_CTRL_SOURCE]
  rw [← h, State.ctrlStored]
  simp only [setBit_eq]
  iterate 4 rw [fld_setFld_of_apart _ (by decide)]

theorem stepAuth_ctrlStored : (s.ctrlStored v).bit TIME_CTRL_STEP_AUTH = s.bit TIME_CTRL_STEP_AUTH := by
  rw [State.bit, State.bit, State.ctrlStored]
  simp only [setBit_eq]
  iterate 5 rw [fld_setFld_of_apart _ (by decide)]

end

/-! The source (R93). -/

/-- On a device that is no moon a source in use stays. -/
theorem pickSource_stays {s : State} (hm : s.moonUp = false)
    (h : s.fld TIME_STATUS_SOURCE_IN_USE = s.fld TIME_CTRL_SOURCE) : s.pickSource = s := by
  rw [State.pickSource, hm, State.setSource]
  exact if_pos h

/-! STEP_AUTH (R103). -/

section
variable {s : State}

/-- A device without a group sends no STEP cell (R440). -/
theorem floodStep_lone (h : s.fld CL_GROUP_STATUS_MEMBERS ≤ 1) (pend : Bool) : s.floodStep pend = s := by
  unfold State.floodStep
  split
  · exact if_neg fun hc => absurd hc.2 (by omega)
  · rfl

variable (b : Bool)

/-- A write of STEP_AUTH on a lone device touches that bit and whether the next mark is passed over. -/
theorem stepBit_cases (h : s.fld CL_GROUP_STATUS_MEMBERS ≤ 1) : s.stepBit b = s ∨
    s.stepBit b = (s.modTime fun t => { t with stepSkip := s.transitPending }).setBit TIME_CTRL_STEP_AUTH true ∨
    s.stepBit b = s.setBit TIME_CTRL_STEP_AUTH (s.stepAuthed b) := by
  unfold State.stepBit
  rw [floodStep_lone h]
  split_ifs
  · exact .inl rfl
  · exact .inr (.inl rfl)
  · exact .inr (.inr rfl)

theorem stepAuth_stepBit : (s.stepBit b).bit TIME_CTRL_STEP_AUTH =
    if s.transitPending = true ∧ s.bit TIME_CTRL_STEP_AUTH = true ∧ s.time.stepSkip = false then true else s.stepAuthed b := by
  unfold State.stepBit
  simp only [Bool.not_eq_true]
  by_cases hp : s.transitPending = true ∧ s.bit TIME_CTRL_STEP_AUTH = true ∧ s.time.stepSkip = false
  · rw [if_pos hp, if_pos hp, hp.2.1]
  · rw [if_neg hp, if_neg hp]
    split
    · next ha => rw [bit_setBit_same _ (by decide), ha.1]
    · exact bit_setBit_same _ (by decide) _

variable (h : s.fld CL_GROUP_STATUS_MEMBERS ≤ 1)
include h

theorem time_stepBit : (s.stepBit b).time = s.time ∨ (s.stepBit b).time = { s.time with stepSkip := s.transitPending } := by
  obtain hc | hc | hc := stepBit_cases b h
  · exact .inl (by rw [hc])
  · exact .inr (by rw [hc, setBit_eq, setFld_time, modTime_time])
  · exact .inl (by rw [hc, setBit_eq, setFld_time])

theorem reg_stepBit {k : Nat} (hk : k ≠ regKey 2 0x008) : (s.stepBit b).reg k = s.reg k := by
  have hk' : k ≠ TIME_CTRL_STEP_AUTH.key := hk.trans_eq (by decide)
  obtain hc | hc | hc := stepBit_cases b h <;> rw [hc]
  · rw [setBit_eq, reg_setFld_ne _ _ _ hk', reg_modTime]
  · rw [setBit_eq, reg_setFld_ne _ _ _ hk']

theorem fld_stepBit {f : Fld} (hf : TIME_CTRL_STEP_AUTH.apart f = true) : (s.stepBit b).fld f = s.fld f := by
  obtain hc | hc | hc := stepBit_cases b h <;> rw [hc]
  · exact fld_setFld_of_apart _ hf _
  · exact fld_setFld_of_apart _ hf _

theorem regsTime_stepBit : RegsTime s (s.stepBit b) := by
  obtain hc | hc | hc := stepBit_cases b h <;> rw [hc]
  · exact .refl s
  · exact ((RegsTime.refl s).modTime _).setFld _ _
  · exact (RegsTime.refl s).setFld _ _

end

/-! The hold ends (R102, R103). -/

section
variable (s : State)

/-- The hold ended, before a forced glide takes the time base back. -/
def State.holdEnded (s : State) : State :=
  ((s.modTime fun t => { t with held := none }).setBit TIME_CTRL_STEP_AUTH false).servoAcquire

theorem endHold_eq : s.endHold = s.holdEnded.forceGlide := rfl

theorem steered_holdEnded : s.holdEnded.steered = true := steered_iff.2 (.inr (.inl (timeState_servoAcquire _)))

theorem fld_holdEnded {f : Fld} (hs : TIME_STATUS_STATE.apart f = true) (he : evKey 2 f.key = false)
    (hc : TIME_CTRL_STEP_AUTH.apart f = true) : s.holdEnded.fld f = s.fld f := by
  rw [State.holdEnded, fld_servoAcquire _ hs he, setBit_eq, fld_setFld_of_apart _ hc, fld_modTime]

theorem time_holdEnded : s.holdEnded.time =
    { s.time with held := none, servoLocked := false, lockRun := 0, unlockRun := 0 } := by
  rw [State.holdEnded, time_servoAcquire, setBit_eq, setFld_time, modTime_time]

theorem sameMems_holdEnded : SameMems s s.holdEnded :=
  (((SameMems.refl s).modTime _).setBit _ _).trans (sameMems_servoAcquire _)

theorem forced_holdEnded : s.holdEnded.bit TIME_CTRL_FORCE_GLIDE = s.bit TIME_CTRL_FORCE_GLIDE := by
  rw [State.bit, fld_holdEnded s (by decide) (by decide) (by decide), State.bit]

/-- A hold that ends leaves ACQUIRE, or GLIDE while one is forced. -/
theorem timeState_endHold : s.endHold.timeState = if s.bit TIME_CTRL_FORCE_GLIDE then tsGlide else tsAcquire := by
  rw [endHold_eq, State.forceGlide, forced_holdEnded]
  split
  · exact timeState_enterGlide _ (steered_ne_unset (steered_holdEnded s))
  · exact timeState_servoAcquire _

/-- A hold that ends keeps the time and holds nothing. -/
theorem time_endHold : s.endHold.time.held = none ∧ s.endHold.time.now = s.time.now := by
  rw [endHold_eq, State.forceGlide]
  split
  · rw [time_enterGlide _ (steered_holdEnded s), time_holdEnded]
    exact ⟨rfl, rfl⟩
  · rw [time_holdEnded]
    exact ⟨rfl, rfl⟩

theorem sameMems_endHold : SameMems s s.endHold := by
  rw [endHold_eq, State.forceGlide]
  exact .ite _ ((sameMems_holdEnded s).trans (sameMems_enterGlide _ _)) (sameMems_holdEnded s)

end

/-! CARVE_AUTH (R103). -/

section
variable {s : State} {h : HeldCorr}

theorem carveBit_held (hc : s.time.carveOpen = false) (hh : s.time.held = some h) (hs : s.timeState = tsHeld) :
    s.carveBit true = s.carveHeld h := by
  unfold State.carveBit
  simp only [if_true, hc, Bool.false_eq_true, if_false, hh, if_pos hs]

/-- A held correction of software is slewed exactly, with the guard suspended. -/
theorem carveHeld_soft (hw : h.sw = true) : s.carveHeld h =
    (s.endHold.setBit TIME_CTRL_CARVE_AUTH true).modTime fun t => { t with
      carveOpen := true
      carveSoft := true
      swRem := h.o.natAbs * 256000000000
      swForward := decide (h.o < 0) } := by
  simp only [State.carveHeld, hw, if_true, ppbScale, modTime_modTime]

theorem timeState_carveHeld (hw : h.sw = true) : (s.carveHeld h).timeState = s.endHold.timeState := by
  rw [carveHeld_soft hw, State.timeState, fld_modTime, setBit_eq, fld_setFld_of_apart _ (by decide), State.timeState]

theorem carveAuth_carveHeld (hw : h.sw = true) : (s.carveHeld h).bit TIME_CTRL_CARVE_AUTH = true := by
  rw [carveHeld_soft hw, bit_modTime]
  exact bit_setBit_same s.endHold (by decide) true

theorem time_carveHeld (hw : h.sw = true) : (s.carveHeld h).time = { s.endHold.time with
    carveOpen := true
    carveSoft := true
    swRem := h.o.natAbs * 256000000000
    swForward := decide (h.o < 0) } := by
  rw [carveHeld_soft hw, modTime_time, setBit_eq, setFld_time]

theorem sameMems_carveHeld (hw : h.sw = true) : SameMems s (s.carveHeld h) := by
  rw [carveHeld_soft hw]
  exact ((sameMems_endHold s).setBit _ _).modTime _

end

/-! SW_SERVO (R110). -/

section
variable (s : State) (was b : Bool)

/-- Handed back in LOCKED the servo is put in ACQUIRE. -/
theorem timeState_servoBit : (s.servoBit was b).timeState =
    if was = true ∧ b = false ∧ s.timeState = tsLocked then tsAcquire else s.timeState := by
  unfold State.servoBit
  simp only [Bool.not_eq_true]
  split
  · exact timeState_servoAcquire s
  · split <;> rfl

theorem fld_servoBit {f : Fld} (hs : TIME_STATUS_STATE.apart f = true) (he : evKey 2 f.key = false) :
    (s.servoBit was b).fld f = s.fld f := by
  unfold State.servoBit
  split_ifs
  · exact fld_servoAcquire s hs he
  · rfl
  · rfl

theorem now_servoBit : (s.servoBit was b).time.now = s.time.now := by
  unfold State.servoBit
  split_ifs
  · rw [time_servoAcquire]
  · rfl
  · rfl

theorem sameMems_servoBit : SameMems s (s.servoBit was b) :=
  .ite _ (sameMems_servoAcquire s) (.ite _ ((SameMems.refl s).modTime _) (.refl s))

end

/-! A write of CTRL on a lone device that leaves SOURCE as it is. -/

/-- The state in which such a write has been counted and its plain bits stored. -/
def State.ctrlWritten (s : State) (v : Word) : State := (s.countWrite 2).ctrlStored v

section
variable (s : State) (v : Word)

theorem onlyRegs_ctrlWritten : OnlyRegs s (s.ctrlWritten v) :=
  (OnlyRegs.countWrite s 2).trans (onlyRegs_ctrlStored _ v)

theorem time_ctrlWritten : (s.ctrlWritten v).time = s.time := (onlyRegs_ctrlWritten s v).time

theorem fld_ctrlWritten {f : Fld} (h : f.key ≠ regKey 2 0x008) (hc : f.key ≠ regKey 2 0x01C) :
    (s.ctrlWritten v).fld f = s.fld f := (fld_ctrlStored _ v h).trans (fld_countWrite hc)

theorem timeState_ctrlWritten : (s.ctrlWritten v).timeState = s.timeState := fld_ctrlWritten s v (by decide) (by decide)

theorem sameMems_ctrlWritten : SameMems s (s.ctrlWritten v) :=
  (SameMems.refl s).quiet (.of_onlyRegs (onlyRegs_ctrlWritten s v))

theorem glideFreq_ctrlWritten : (s.ctrlWritten v).glideFreq = s.glideFreq := by
  unfold State.glideFreq State.sfld
  rw [time_ctrlWritten, fld_ctrlWritten s v (by decide) (by decide)]

theorem transitPending_ctrlWritten : (s.ctrlWritten v).transitPending = s.transitPending := by
  unfold State.transitPending
  rw [time_ctrlWritten]

theorem stepAuthed_ctrlWritten (b : Bool) : (s.ctrlWritten v).stepAuthed b = s.stepAuthed b := by
  unfold State.stepAuthed State.bit
  rw [timeState_ctrlWritten, fld_ctrlWritten s v (by decide) (by decide)]

theorem stepAuth_ctrlWritten : (s.ctrlWritten v).bit TIME_CTRL_STEP_AUTH = s.bit TIME_CTRL_STEP_AUTH :=
  (stepAuth_ctrlStored _ v).trans (bit_countWrite (by decide))

end

/-! What the four commands leave. -/

theorem exec_ctrlWrite {s : State} {q : Req} (hg : s.gate q 2 = .served) (hm : s.mayWrite q 2 = true) (v : Word) :
    exec (.stepAuthWrite q v) s = .next ((s.countWrite 2).writeTimeCtrl v) :=
  congrArg Host.Outcome.next (write_accepted s q 2 0x008 v _ hg (by decide) (not_barred hm))

/-- The four commands that write CTRL are the same write. -/
theorem exec_ctrlWrites_same (s : State) (q : Req) (v : Word) : exec (.carveAuthWrite q v) s = exec (.stepAuthWrite q v) s ∧
    exec (.forceGlideWrite q v) s = exec (.stepAuthWrite q v) s ∧ exec (.swServoWrite q v) s = exec (.stepAuthWrite q v) s :=
  ⟨rfl, rfl, rfl⟩

section
variable {q : Req} {v : Word} {s : State} (hg : s.gate q 2 = .served) (hm : s.mayWrite q 2 = true)
  (hu : s.moonUp = false) (hn : s.fld CL_GROUP_STATUS_MEMBERS ≤ 1) (hs : v.toNat % 4 = s.fld TIME_CTRL_SOURCE)
  (hi : s.fld TIME_STATUS_SOURCE_IN_USE = s.fld TIME_CTRL_SOURCE)

include hg hm hu hs hi in
/-- On a lone device whose SOURCE stays, the write goes through its bits one after the other. -/
theorem exec_ctrlWrite_bits : exec (.stepAuthWrite q v) s = .next
    (((((s.ctrlWritten v).glideBit (s.bit TIME_CTRL_FORCE_GLIDE) (v.getLsbD 7)).servoBit
      (s.bit TIME_CTRL_SW_SERVO) (v.getLsbD 2)).stepBit (v.getLsbD 5)).carveBit (v.getLsbD 6)) := by
  have hmoon : (s.ctrlWritten v).moonUp = false := by
    rw [← hu]
    unfold State.moonUp State.bit
    rw [fld_ctrlWritten s v (by decide) (by decide), fld_ctrlWritten s v (by decide) (by decide)]
  have hsrc : (s.ctrlWritten v).fld TIME_STATUS_SOURCE_IN_USE = (s.ctrlWritten v).fld TIME_CTRL_SOURCE := by
    rw [fld_ctrlWritten s v (by decide) (by decide), hi, ← hs, State.ctrlWritten, source_ctrlStored]
  rw [exec_ctrlWrite hg hm, writeTimeCtrl_stages, ← State.ctrlWritten, pickSource_stays hmoon hsrc,
    bit_countWrite (by decide), bit_countWrite (by decide)]

include hn in
theorem members_ctrlWritten : (s.ctrlWritten v).fld CL_GROUP_STATUS_MEMBERS ≤ 1 := by
  rwa [fld_ctrlWritten s v (by decide) (by decide)]

include hn in
/-- What STEP_AUTH reads after a write of it, and what the write leaves (R103, R105). -/
theorem stepAuth_written (b : Bool) : ∃ t, ((s.ctrlWritten v).stepBit b).carveBit false = t ∧
    t.bit TIME_CTRL_STEP_AUTH = (if s.transitPending = true ∧ s.bit TIME_CTRL_STEP_AUTH = true ∧ s.time.stepSkip = false
      then true else s.stepAuthed b) ∧
    t.timeState = s.timeState ∧ t.time.held = s.time.held ∧ t.time.now = s.time.now ∧ RegsTime s t := by
  have hw := members_ctrlWritten (v := v) hn
  have htime : ((s.ctrlWritten v).stepBit b).time.held = s.time.held ∧ ((s.ctrlWritten v).stepBit b).time.now = s.time.now := by
    obtain ht | ht := time_stepBit b hw <;> rw [ht, time_ctrlWritten] <;> exact ⟨rfl, rfl⟩
  refine ⟨_, carveBit_off _, ?_, ?_, htime.1, htime.2, ?_⟩
  · rw [bit_modTime, State.bit, setBit_eq, fld_setFld_of_apart _ (by decide), ← State.bit, stepAuth_stepBit,
      transitPending_ctrlWritten, stepAuth_ctrlWritten, time_ctrlWritten, stepAuthed_ctrlWritten]
  · rw [State.timeState, fld_modTime, setBit_eq, fld_setFld_of_apart _ (by decide), fld_stepBit b hw (by decide)]
    exact timeState_ctrlWritten s v
  · exact ((((RegsTime.refl s).onlyRegs (onlyRegs_ctrlWritten s v)).trans (regsTime_stepBit b hw)).setFld _ _).modTime _

include hn in
/-- CARVE_AUTH over a held correction of software (R103). -/
theorem carveAuth_written {h : HeldCorr} (ht : s.timeState = tsHeld) (hc : s.time.carveOpen = false)
    (hh : s.time.held = some h) (hw : h.sw = true) (hf : v.getLsbD 7 = s.bit TIME_CTRL_FORCE_GLIDE) :
    ∃ t, ((s.ctrlWritten v).stepBit false).carveBit true = t ∧
      t.timeState = (if s.bit TIME_CTRL_FORCE_GLIDE then tsGlide else tsAcquire) ∧ t.time.held = none ∧
      t.time.swRem = h.o.natAbs * 256000000000 ∧ t.time.swForward = decide (h.o < 0) ∧ t.time.now = s.time.now ∧
      t.bit TIME_CTRL_CARVE_AUTH = true ∧ t.time.carveOpen = true ∧ MemKept s t := by
  have hmem := members_ctrlWritten (v := v) hn
  obtain ⟨hopen, hheld, hnow⟩ : ((s.ctrlWritten v).stepBit false).time.carveOpen = false ∧
      ((s.ctrlWritten v).stepBit false).time.held = some h ∧ ((s.ctrlWritten v).stepBit false).time.now = s.time.now := by
    obtain ht | ht := time_stepBit false hmem <;> rw [ht, time_ctrlWritten] <;> exact ⟨hc, hh, rfl⟩
  have hst : ((s.ctrlWritten v).stepBit false).timeState = tsHeld :=
    (fld_stepBit false hmem (by decide)).trans ((timeState_ctrlWritten s v).trans ht)
  have hforce : ((s.ctrlWritten v).stepBit false).bit TIME_CTRL_FORCE_GLIDE = s.bit TIME_CTRL_FORCE_GLIDE := by
    rw [State.bit, fld_stepBit false hmem (by decide), ← State.bit, State.ctrlWritten, forceGlide_ctrlStored, hf]
  have hkept : SameMems s ((s.ctrlWritten v).stepBit false) :=
    (sameMems_ctrlWritten s v).trans (regsTime_stepBit false hmem).sameMems
  obtain ⟨hnone, hkeep⟩ := time_endHold ((s.ctrlWritten v).stepBit false)
  refine ⟨_, carveBit_held hopen hheld hst, ?_, ?_, ?_, ?_, ?_, carveAuth_carveHeld hw, ?_,
    (hkept.trans (sameMems_carveHeld hw)).memKept⟩
  · rw [timeState_carveHeld hw, timeState_endHold, hforce]
  all_goals rw [time_carveHeld hw]
  · exact hnone
  · exact hkeep.trans hnow

include hn in
/-- FORCE_GLIDE newly set (R107). -/
theorem forceGlide_written (hst : s.steered = true) (hf : v.getLsbD 7 = true) :
    ∃ t, ((((s.ctrlWritten v).glideBit false true).servoBit (v.getLsbD 2) (v.getLsbD 2)).stepBit false).carveBit false = t ∧
      t.timeState = tsGlide ∧ t.bit TIME_CTRL_FORCE_GLIDE = true ∧
      t.fld TIME_GLIDE_FREQ_ADJ = intBits 32 s.glideFreq ∧ t.fld TIME_GLIDE_AGE_MS_MS = 0 ∧
      (t.reg (regKey 2 0x010)).getLsbD 10 = true ∧ t.time.now = s.time.now ∧ MemKept s t := by
  have hsw : (s.ctrlWritten v).steered = true := by rw [State.steered, timeState_ctrlWritten]; exact hst
  rw [glideBit_set, servoBit_same]
  generalize hl : (s.ctrlWritten v).fld TIME_STATUS_SOURCE_IN_USE = lost
  have hmem : ((s.ctrlWritten v).enterGlide lost).fld CL_GROUP_STATUS_MEMBERS ≤ 1 := by
    rw [fld_enterGlide lost (by decide) (by decide) (by decide) (by decide) (by decide)]
    exact members_ctrlWritten hn
  have hkeep {f : Fld} (h5 : TIME_CTRL_STEP_AUTH.apart f = true) (h6 : TIME_CTRL_CARVE_AUTH.apart f = true) :
      ((((s.ctrlWritten v).enterGlide lost).stepBit false).carveBit false).fld f =
        ((s.ctrlWritten v).enterGlide lost).fld f := by
    rw [carveBit_off, fld_modTime, setBit_eq, fld_setFld_of_apart _ h6, fld_stepBit false hmem h5]
  refine ⟨_, rfl, ?_, ?_, ?_, ?_, ?_, ?_, ?_⟩
  · exact (hkeep (by decide) (by decide)).trans (timeState_enterGlide lost (steered_ne_unset hsw))
  · rw [State.bit, hkeep (by decide) (by decide),
      fld_enterGlide lost (by decide) (by decide) (by decide) (by decide) (by decide), ← State.bit, State.ctrlWritten,
      forceGlide_ctrlStored, hf]
  · rw [hkeep (by decide) (by decide), glideFreq_enterGlide lost hsw, glideFreq_ctrlWritten]
  · rw [hkeep (by decide) (by decide), glideAge_enterGlide lost hsw]
  · rw [carveBit_off, reg_modTime, setBit_eq, reg_setFld_ne _ _ _ (by decide), reg_stepBit false hmem (by decide)]
    exact event_enterGlide lost hsw
  · rw [carveBit_off, modTime_time, setBit_eq, setFld_time]
    obtain ht | ht := time_stepBit false hmem <;> rw [ht, time_enterGlide lost hsw, time_ctrlWritten]
  · exact ((((sameMems_ctrlWritten s v).trans (sameMems_enterGlide lost _)).trans
      (regsTime_stepBit false hmem).sameMems).setBit _ _).modTime _ |>.memKept

include hn in
/-- SW_SERVO as written, and the servo handed back (R110). -/
theorem swServo_written : ∃ t, (((s.ctrlWritten v).servoBit (s.bit TIME_CTRL_SW_SERVO) (v.getLsbD 2)).stepBit false).carveBit false = t ∧
    t.bit TIME_CTRL_SW_SERVO = v.getLsbD 2 ∧ t.time.now = s.time.now ∧
    t.timeState = (if s.bit TIME_CTRL_SW_SERVO = true ∧ v.getLsbD 2 = false ∧ s.timeState = tsLocked then tsAcquire
      else s.timeState) ∧ MemKept s t := by
  generalize hz : (s.ctrlWritten v).servoBit (s.bit TIME_CTRL_SW_SERVO) (v.getLsbD 2) = z
  have hmem : z.fld CL_GROUP_STATUS_MEMBERS ≤ 1 := by
    rw [← hz, fld_servoBit _ _ _ (by decide) (by decide)]
    exact members_ctrlWritten hn
  have hkeep {f : Fld} (h5 : TIME_CTRL_STEP_AUTH.apart f = true) (h6 : TIME_CTRL_CARVE_AUTH.apart f = true) :
      ((z.stepBit false).carveBit false).fld f = z.fld f := by
    rw [carveBit_off, fld_modTime, setBit_eq, fld_setFld_of_apart _ h6, fld_stepBit false hmem h5]
  refine ⟨_, rfl, ?_, ?_, ?_, ?_⟩
  · rw [State.bit, hkeep (by decide) (by decide), ← hz, fld_servoBit _ _ _ (by decide) (by decide), ← State.bit,
      State.ctrlWritten, swServo_ctrlStored]
  · rw [carveBit_off, modTime_time, setBit_eq, setFld_time, ← time_ctrlWritten s v,
      ← now_servoBit (s.ctrlWritten v) (s.bit TIME_CTRL_SW_SERVO) (v.getLsbD 2), hz]
    obtain ht | ht := time_stepBit false hmem <;> rw [ht]
  · rw [State.timeState, hkeep (by decide) (by decide), ← State.timeState, ← hz, timeState_servoBit, timeState_ctrlWritten]
  · exact ((((sameMems_ctrlWritten s v).trans (hz ▸ sameMems_servoBit _ _ _)).trans
      (regsTime_stepBit false hmem).sameMems).setBit _ _).modTime _ |>.memKept

end

end Sys2Proof.Machine

open Sys2Proof Sys2Proof.Machine

/-- Settles O20: a write of CTRL bit by bit, each clause being the one bit that changes. -/
theorem timeControlBits : Obligations.TimeControlBits := by
  unfold Obligations.TimeControlBits
  intro q v s hg hm hu hn hs hi
  have hbits := exec_ctrlWrite_bits hg hm hu hs hi
  obtain ⟨hcarve, hglide, hservo⟩ := exec_ctrlWrites_same s q v
  refine ⟨fun h2 h6 h7 => ?_, fun h h2 h5 h6 h7 ht hc hh hw => ?_, fun h2 h5 h6 h7 h0 hst => ?_, fun h5 h6 h7 => ?_⟩
  · rw [h7, glideBit_same, h2, servoBit_same, h6] at hbits
    obtain ⟨t, rfl, ht⟩ := stepAuth_written (v := v) hn (v.getLsbD 5)
    exact ⟨_, hbits, ht⟩
  · rw [h7, glideBit_same, h2, servoBit_same, h5, h6] at hbits
    obtain ⟨t, rfl, ht⟩ := carveAuth_written hn ht hc hh hw h7
    exact ⟨_, hcarve.trans hbits, ht⟩
  · rw [h0, h7, ← h2, h5, h6] at hbits
    obtain ⟨t, rfl, ht⟩ := forceGlide_written hn hst h7
    exact ⟨_, hglide.trans hbits, ht⟩
  · rw [h7, glideBit_same, h5, h6] at hbits
    obtain ⟨t, rfl, ht⟩ := swServo_written (v := v) hn
    exact ⟨_, hservo.trans hbits, ht⟩
end

section
/-! PROOF. Arming and disarming triggers (O22, R111, R112, R114, R117): what a write of TRG_CFG_n comes to. -/

namespace Sys2Proof.Machine

open Sys2Proof

/-! Registers of the TRIG page. -/

/-- An event of TRIG writes none of the page's own registers. -/
theorem evKey_trig {off : Nat} (h : 0x040 ≤ off) : evKey 3 (regKey 3 off) = false := by
  simp only [evKey, regKey, List.contains_cons, List.contains_nil, Bool.or_false, Bool.or_eq_false_iff,
    beq_eq_false_iff_ne]
  omega

/-- A field of TRIG beside the page's common registers is kept by the page's events. -/
theorem fld_raise_trig (s : State) {f : Fld} (hp : f.page = 3) (h : 0x040 ≤ f.off) (k a : Nat) :
    (s.raise 3 k a).fld f = s.fld f :=
  fld_raise s (by rw [Fld.key, hp]; exact evKey_trig h) k a

theorem bit_raise_trig (s : State) {f : Fld} (hp : f.page = 3) (h : 0x040 ≤ f.off) (k a : Nat) :
    (s.raise 3 k a).bit f = s.bit f := by
  rw [State.bit, fld_raise_trig s hp h, State.bit]

theorem fld_countWrite_trig (s : State) {f : Fld} (hp : f.page = 3) (h : 0x040 ≤ f.off) :
    (s.countWrite 3).fld f = s.fld f :=
  fld_countWrite (by rw [Fld.key, hp]; unfold regKey; omega)

theorem bit_countWrite_trig (s : State) {f : Fld} (hp : f.page = 3) (h : 0x040 ≤ f.off) :
    (s.countWrite 3).bit f = s.bit f := by
  rw [State.bit, fld_countWrite_trig s hp h, State.bit]

/-- The place of TRG_CFG_n. -/
def trgCfgKey (n : Nat) : Nat := regKey 3 (0x400 + 0x10 * n)

/-- The place of trigger n's bit of ARMED_0 or ARMED_1. -/
def trgArmedKey (n : Nat) : Nat := regKey 3 (0x050 + 4 * (n / 32))

theorem key_arm (n : Nat) : (TRIG_TRG_CFG_ARM.nth n).key = trgCfgKey n := by
  simp only [Fld.key, Fld.nth, TRIG_TRG_CFG_ARM, trgCfgKey, regKey]
  omega

theorem key_action (n : Nat) : (TRIG_TRG_CFG_ACTION.nth n).key = trgCfgKey n := key_arm n

theorem key_armed (n : Nat) : (trgBit TRIG_ARMED_ARMED n).key = trgArmedKey n := by
  simp only [Fld.key, trgBit, Fld.nth, TRIG_ARMED_ARMED, trgArmedKey, regKey]
  omega

theorem trgKeys_ne (n : Nat) : trgArmedKey n ≠ trgCfgKey n := by
  unfold trgArmedKey trgCfgKey regKey
  omega

/-! ARM and its copy (R112). -/

section
variable (s : State) {n : Nat} (b : Bool)

theorem setArm_eq (n : Nat) : s.setArm n b =
    (s.setBit (TRIG_TRG_CFG_ARM.nth n) b).setBit (trgBit TRIG_ARMED_ARMED n) b := rfl

theorem onlyRegs_setArm (n : Nat) : OnlyRegs s (s.setArm n b) := ((OnlyRegs.refl s).setFld _ _).setFld _ _

theorem armed_setArm : (s.setArm n b).bit (trgBit TRIG_ARMED_ARMED n) = b :=
  bit_setBit_same _ (by simp only [trgBit]; omega) b

theorem arm_setArm (n : Nat) : (s.setArm n b).bit (TRIG_TRG_CFG_ARM.nth n) = b := by
  have hk : (TRIG_TRG_CFG_ARM.nth n).key ≠ (trgBit TRIG_ARMED_ARMED n).key := by
    rw [key_arm, key_armed]
    exact (trgKeys_ne n).symm
  rw [setArm_eq, State.bit, setBit_eq _ (trgBit TRIG_ARMED_ARMED n), fld_setFld_ne _ _ _ _ hk, ← State.bit]
  exact bit_setBit_same s (by simp [Fld.nth, TRIG_TRG_CFG_ARM]) b

/-- Any other register is untouched. -/
theorem reg_setArm {k : Nat} (hc : k ≠ trgCfgKey n) (ha : k ≠ trgArmedKey n) : (s.setArm n b).reg k = s.reg k := by
  rw [setArm_eq, setBit_eq, setBit_eq, reg_setFld_ne _ _ _ (by rwa [key_armed]), reg_setFld_ne _ _ _ (by rwa [key_arm])]

theorem fld_setArm {f : Fld} (hc : f.key ≠ trgCfgKey n) (ha : f.key ≠ trgArmedKey n) : (s.setArm n b).fld f = s.fld f := by
  simp only [State.fld, reg_setArm s b hc ha]

/-- The other bits of TRG_CFG_n are untouched. -/
theorem fld_setArm_cfg {f : Fld} (hk : f.key = trgCfgKey n) (hb : f.lo + f.w ≤ 3 ∨ 4 ≤ f.lo) :
    (s.setArm n b).fld f = s.fld f := by
  rw [setArm_eq, setBit_eq, setBit_eq, fld_setFld_ne _ _ _ _ (by rw [key_armed, hk]; exact (trgKeys_ne n).symm)]
  exact fld_setFld_apart s (TRIG_TRG_CFG_ARM.nth n) f _ (by rw [key_arm, hk]) (by simp [Fld.nth, TRIG_TRG_CFG_ARM])
    (by simpa [Fld.nth, TRIG_TRG_CFG_ARM] using hb)

end

/-! A write of TRG_CFG_n (R111, R117). -/

/-- The row of TRG_CFG_n in Table 03-6. -/
def trgCfgRow : RegRow := ⟨0x400, 16, 64, none, [⟨0, 2, .rw, false, 0⟩, ⟨2, 1, .rw, false, 0⟩, ⟨3, 1, .rw, false, 0⟩,
  ⟨4, 4, .rw, false, 0⟩, ⟨8, 4, .rw, false, 0⟩, ⟨12, 1, .rw, false, 0⟩, ⟨16, 16, .rw, false, 0⟩]⟩

section
variable {n : Nat} (hn : n < 64)
include hn

theorem regRow_trgCfg : regRow? 3 (TRIG_TRG_CFG_MODE.nth n).off = some trgCfgRow :=
  (by decide : ∀ n < 64, regRow? 3 (TRIG_TRG_CFG_MODE.nth n).off = some trgCfgRow) n hn

theorem writable_trgCfg : writableOff 3 (0x400 + 0x10 * n) = true :=
  (by decide : ∀ n < 64, writableOff 3 (0x400 + 0x10 * n) = true) n hn

/-- The configuration is stored field by field. -/
theorem action_storeReg (s : State) (w : Word) :
    (s.storeReg 3 (TRIG_TRG_CFG_MODE.nth n).off w).fld (TRIG_TRG_CFG_ACTION.nth n) = natBits w.toNat 4 4 := by
  have hreg := reg_storeReg (s := s) (regRow_trgCfg hn) (by simp only [Fld.nth, TRIG_TRG_CFG_MODE]; omega) w
  have hkey : (TRIG_TRG_CFG_ACTION.nth n).key = regKey 3 (TRIG_TRG_CFG_MODE.nth n).off := rfl
  rw [State.fld, hkey, hreg]
  exact natBits_storeWord (f := ⟨4, 4, .rw, false, 0⟩)
    (pre := [⟨0, 2, .rw, false, 0⟩, ⟨2, 1, .rw, false, 0⟩, ⟨3, 1, .rw, false, 0⟩]) rfl rfl (by decide) (by decide) _ w

end

theorem trgUnit_of_onlyRegs {s t : State} (h : OnlyRegs s t) (n : Nat) : t.trgUnit n = s.trgUnit n := by
  unfold State.trgUnit
  rw [h]

theorem trgUnit_setTrgUnit_same (s : State) (n : Nat) (u : TrgUnit) : (s.setTrgUnit n u).trgUnit n = u :=
  mapGet_set_same _ _ _ _

theorem trgUnit_setTrgUnit_ne (s : State) {n k : Nat} (u : TrgUnit) (h : k ≠ n) :
    (s.setTrgUnit n u).trgUnit k = s.trgUnit k := mapGet_set_ne _ _ _ h

theorem OnlyRegs.setTrgUnit_eq {s t : State} (h : OnlyRegs s t) (n : Nat) (u : TrgUnit) :
    t.setTrgUnit n u = { s with regs := (t.setTrgUnit n u).regs, trig := (t.setTrgUnit n u).trig } := by
  conv_lhs => rw [h]
  conv_rhs => rw [h]
  rfl

theorem fld_setTrgUnit (s : State) (n : Nat) (u : TrgUnit) (f : Fld) : (s.setTrgUnit n u).fld f = s.fld f := rfl

theorem bit_setTrgUnit (s : State) (n : Nat) (u : TrgUnit) (f : Fld) : (s.setTrgUnit n u).bit f = s.bit f := rfl

theorem next_setNext (s : State) (n x : Nat) :
    ((s.setTrgUnit n { s.trgUnit n with next := x }).trgUnit n).next = x := by
  rw [trgUnit_setTrgUnit_same]

theorem trgUnit_setNext_ne {s t : State} (h : OnlyRegs s t) {n k : Nat} (u : TrgUnit) (hk : k ≠ n) :
    (t.setTrgUnit n u).trgUnit k = s.trgUnit k := by
  rw [trgUnit_setTrgUnit_ne _ _ hk, trgUnit_of_onlyRegs h]

/-- The state an arming leaves before the next occurrence is set (R112). -/
def State.trgStored (s : State) (n : Nat) (w : Word) (b : Bool) : State :=
  (s.storeReg 3 (TRIG_TRG_CFG_MODE.nth n).off w).setArm n b

theorem onlyRegs_trgStored (s : State) (n : Nat) (w : Word) (b : Bool) : OnlyRegs s (s.trgStored n w b) :=
  ((OnlyRegs.refl s).storeReg 3 _ w).trans (onlyRegs_setArm _ b n)

section
variable {s : State} {n : Nat} {w : Word}

theorem writeTrgCfg_locked (ha : s.bit (TRIG_TRG_CFG_ARM.nth n) = true) (hw : w.getLsbD 3 = true) :
    s.writeTrgCfg n w = s.raise 3 11 n := by
  simp only [State.writeTrgCfg, ha, hw, if_true]

theorem writeTrgCfg_disarms (ha : s.bit (TRIG_TRG_CFG_ARM.nth n) = true) (hw : w.getLsbD 3 = false) :
    s.writeTrgCfg n w = s.trgStored n w false := by
  simp only [State.writeTrgCfg, ha, hw, if_true, Bool.false_eq_true, if_false, State.trgStored]

theorem writeTrgCfg_refused (ha : s.bit (TRIG_TRG_CFG_ARM.nth n) = false) (hw : w.getLsbD 3 = true)
    (hr : s.armRefused n w.toNat = true) : s.writeTrgCfg n w = (s.trgStored n w false).raise 3 11 n := by
  simp only [State.writeTrgCfg, ha, hw, if_true, Bool.false_eq_true, if_false, State.armTrigger, hr, State.trgStored]

/-- The ticks of ST32 from now to the target of an AT trigger (R112). -/
def State.trgAhead (s : State) (n : Nat) : Nat := (s.fld (TRIG_TRG_TIME_TIME.nth n) + 2 ^ 32 - s.st32) % 2 ^ 32

/-- An AT trigger whose target lies ahead is armed for the full count (R112). -/
theorem writeTrgCfg_at (ha : s.bit (TRIG_TRG_CFG_ARM.nth n) = false) (hw : w.getLsbD 3 = true)
    (hr : s.armRefused n w.toNat = false) (hm : natBits w.toNat 0 2 = 0) (hd : 0 < s.trgAhead n)
    (hd' : s.trgAhead n < 2 ^ 31) : s.writeTrgCfg n w = (s.trgStored n w true).setTrgUnit n
      { (s.trgStored n w true).trgUnit n with next := s.nowNs + s.trgAhead n } := by
  have hnot : ¬ (s.trgAhead n = 0 ∨ 2 ^ 31 ≤ s.trgAhead n) := by omega
  simp only [State.writeTrgCfg, ha, hw, if_true, Bool.false_eq_true, if_false, State.armTrigger, hr, hm]
  rw [if_neg (by decide)]
  exact if_neg hnot

end

/-! The commands. -/

section
variable {q : Req} {n : Nat} (v : Word) {s : State} (hn : n < 64) (hg : s.gate q 3 = .served)
  (hm : s.mayWrite q 3 = true)

include hn hg hm in
theorem exec_triggerArm : exec (.triggerArm q n v) s = .next ((s.countWrite 3).writeTrgCfg n (v ||| 8)) :=
  congrArg Host.Outcome.next (write_accepted s q 3 _ _ _ hg (writable_trgCfg hn) (not_barred hm))

include hn hg hm in
theorem exec_triggerDisarm : exec (.triggerDisarm q n v false) s =
    .next ((s.countWrite 3).writeTrgCfg n (v &&& ~~~ 8)) :=
  congrArg Host.Outcome.next (write_accepted s q 3 _ _ _ hg (writable_trgCfg hn) (not_barred hm))

theorem armBit_arm : (v ||| 8).getLsbD 3 = true := by simp

theorem armBit_disarm : (v &&& ~~~ 8).getLsbD 3 = false := by simp

/-- Setting ARM in the word leaves its other fields. -/
theorem action_armWord : natBits (v ||| 8).toNat 4 4 = natBits v.toNat 4 4 := by
  rw [natBits, natBits, ← Nat.shiftRight_eq_div_pow, ← Nat.shiftRight_eq_div_pow, BitVec.toNat_or,
    Nat.shiftRight_or_distrib]
  exact congrArg (· % 2 ^ 4) (Nat.or_zero _)

theorem mode_armWord : natBits (v ||| 8).toNat 0 2 = v.toNat % 4 := by
  have h := Nat.or_mod_two_pow (a := v.toNat) (b := 8) (n := 2)
  simpa [natBits] using h

theorem arm_countWrite (s : State) (n : Nat) :
    (s.countWrite 3).bit (TRIG_TRG_CFG_ARM.nth n) = s.bit (TRIG_TRG_CFG_ARM.nth n) :=
  bit_countWrite_trig s rfl (by simp only [Fld.nth, TRIG_TRG_CFG_ARM]; omega)

theorem time_trg_countWrite (s : State) (n : Nat) :
    (s.countWrite 3).fld (TRIG_TRG_TIME_TIME.nth n) = s.fld (TRIG_TRG_TIME_TIME.nth n) :=
  fld_countWrite_trig s rfl (by simp only [Fld.nth, TRIG_TRG_TIME_TIME]; omega)

/-- The count of a write changes nothing an arming is judged by. -/
theorem armRefused_countWrite (s : State) (n x : Nat) : (s.countWrite 3).armRefused n x = s.armRefused n x := by
  have hper : (s.countWrite 3).fld (TRIG_TRG_PERIOD_PERIOD.nth n) = s.fld (TRIG_TRG_PERIOD_PERIOD.nth n) :=
    fld_countWrite_trig s rfl (by simp only [Fld.nth, TRIG_TRG_PERIOD_PERIOD]; omega)
  unfold State.armRefused State.sfld
  rw [hper, time_trg_countWrite, rate_of_inForce (OnlyRegs.countWrite s 3).inForce]

theorem trgAhead_countWrite (s : State) (n : Nat) : (s.countWrite 3).trgAhead n = s.trgAhead n := by
  rw [State.trgAhead, time_trg_countWrite, (OnlyRegs.countWrite s 3).st32, State.trgAhead]

include hn hg hm

theorem exec_triggerArm_refused (ha : s.bit (TRIG_TRG_CFG_ARM.nth n) = false)
    (hr : s.armRefused n (v ||| 8).toNat = true) : ∃ t, exec (.triggerArm q n v) s = .next t ∧
      t.bit (TRIG_TRG_CFG_ARM.nth n) = false ∧ (t.reg (regKey 3 0x010)).getLsbD 11 = true ∧ Quiet s t := by
  refine ⟨_, exec_triggerArm v hn hg hm, ?_⟩
  rw [writeTrgCfg_refused ((arm_countWrite s n).trans ha) (armBit_arm v) ((armRefused_countWrite s n _).trans hr)]
  refine ⟨?_, event_raise _ 3 11 n (by decide), ?_⟩
  · rw [bit_raise_trig _ rfl (by simp only [Fld.nth, TRIG_TRG_CFG_ARM]; omega)]
    exact arm_setArm _ false n
  · exact (Quiet.of_onlyRegs ((OnlyRegs.countWrite s 3).trans (onlyRegs_trgStored _ n _ false))).trans
      (quiet_raise _ 3 11 n)

theorem exec_triggerArm_at (ha : s.bit (TRIG_TRG_CFG_ARM.nth n) = false) (hr : s.armRefused n (v ||| 8).toNat = false)
    (hmode : v.toNat % 4 = 0) (hd : 0 < s.trgAhead n) (hd' : s.trgAhead n < 2 ^ 31) :
    ∃ t, exec (.triggerArm q n v) s = .next t ∧ t.bit (TRIG_TRG_CFG_ARM.nth n) = true ∧
      t.bit (trgBit TRIG_ARMED_ARMED n) = true ∧ t.fld (TRIG_TRG_CFG_ACTION.nth n) = natBits v.toNat 4 4 ∧
      (t.trgUnit n).next = s.nowNs + s.trgAhead n ∧ (∀ k, k ≠ n → t.trgUnit k = s.trgUnit k) ∧
      t = { s with regs := t.regs, trig := t.trig } := by
  have hexec := exec_triggerArm v hn hg hm
  rw [writeTrgCfg_at ((arm_countWrite s n).trans ha) (armBit_arm v) ((armRefused_countWrite s n _).trans hr)
    ((mode_armWord v).trans hmode) (by rwa [trgAhead_countWrite]) (by rwa [trgAhead_countWrite]), trgAhead_countWrite,
    (OnlyRegs.countWrite s 3).nowNs] at hexec
  have hregs := (OnlyRegs.countWrite s 3).trans (onlyRegs_trgStored _ n (v ||| 8) true)
  have harm : ((s.countWrite 3).trgStored n (v ||| 8) true).bit (TRIG_TRG_CFG_ARM.nth n) = true := arm_setArm _ true n
  have harmed : ((s.countWrite 3).trgStored n (v ||| 8) true).bit (trgBit TRIG_ARMED_ARMED n) = true := armed_setArm _ true
  have hact : ((s.countWrite 3).trgStored n (v ||| 8) true).fld (TRIG_TRG_CFG_ACTION.nth n) = natBits v.toNat 4 4 :=
    (fld_setArm_cfg _ true (key_action n) (.inr (le_refl 4))).trans ((action_storeReg hn _ _).trans (action_armWord v))
  exact ⟨_, hexec, (bit_setTrgUnit _ n _ _).trans harm, (bit_setTrgUnit _ n _ _).trans harmed,
    (fld_setTrgUnit _ n _ _).trans hact, next_setNext _ n _, fun k hk => trgUnit_setNext_ne hregs _ hk,
    hregs.setTrgUnit_eq n _⟩

theorem exec_triggerDisarm_armed (ha : s.bit (TRIG_TRG_CFG_ARM.nth n) = true) :
    ∃ t, exec (.triggerDisarm q n v false) s = .next t ∧ t.bit (TRIG_TRG_CFG_ARM.nth n) = false ∧
      t.bit (trgBit TRIG_ARMED_ARMED n) = false ∧ OnlyRegs s t := by
  refine ⟨_, exec_triggerDisarm v hn hg hm, ?_⟩
  rw [writeTrgCfg_disarms ((arm_countWrite s n).trans ha) (armBit_disarm v)]
  exact ⟨arm_setArm _ false n, armed_setArm _ false, (OnlyRegs.countWrite s 3).trans (onlyRegs_trgStored _ n _ false)⟩

end

end Sys2Proof.Machine

open Sys2Proof Sys2Proof.Machine

/-- Settles O22: a write of TRG_CFG_n by ARM, the word's ARM bit and the judgement of the target. -/
theorem triggersArmAndDisarm : Obligations.TriggersArmAndDisarm := by
  unfold Obligations.TriggersArmAndDisarm
  intro q n v s hn hg hm
  refine ⟨fun ha => ?_, exec_triggerArm_refused v hn hg hm, exec_triggerArm_at v hn hg hm,
    exec_triggerDisarm_armed v hn hg hm⟩
  rw [exec_triggerArm v hn hg hm, writeTrgCfg_locked ((arm_countWrite s n).trans ha) (armBit_arm v)]
end

section
/-! PROOF. What an action drives (R116, R118, R119): captured edges, the level of a pin, the actions of a trigger. -/

namespace Sys2Proof.Machine

open Sys2Proof

theorem regs_pushRec (s : State) (p c a : Nat) (f : Bool) (at_ : Nat) : (s.pushRec p c a f at_).regs = s.regs := by
  unfold State.pushRec
  split <;> rfl

theorem fld_pushRec (s : State) (p c a : Nat) (f : Bool) (at_ : Nat) (g : Fld) : (s.pushRec p c a f at_).fld g = s.fld g := by
  unfold State.fld State.reg
  rw [regs_pushRec]

/-! Frames of an action. -/

/-- Nothing but registers, event records, what is sent and the triggers' own data differs; no pulse and no occurrence
is touched. -/
structure PinStep (s t : State) : Prop where
  frame : t = { s with regs := t.regs, recQ := t.recQ, out := t.out, trig := t.trig }
  pulses : t.trig.pulses = s.trig.pulses

namespace PinStep

variable {s t u : State}

theorem refl (s : State) : PinStep s s := ⟨rfl, rfl⟩

theorem trans (h : PinStep s t) (g : PinStep t u) : PinStep s u :=
  ⟨by rw [g.frame, h.frame], g.pulses.trans h.pulses⟩

theorem of_quiet (h : Quiet s t) : PinStep s t := ⟨by rw [h], by rw [h]⟩

theorem quiet (h : PinStep s t) (g : Quiet t u) : PinStep s u := h.trans (of_quiet g)

theorem setFld (h : PinStep s t) (f : Fld) (v : Nat) : PinStep s (t.setFld f v) := h.quiet (quiet_setFld t f v)

theorem setBit (h : PinStep s t) (f : Fld) (b : Bool) : PinStep s (t.setBit f b) := h.setFld f _

theorem ite (c : Prop) [Decidable c] (h : PinStep s t) (g : PinStep s u) : PinStep s (if c then t else u) := by
  split <;> assumption

theorem time (h : PinStep s t) : t.time = s.time := by rw [h.frame]

theorem marks (h : PinStep s t) : t.marks = s.marks := by rw [h.frame]

theorem sameMems (h : PinStep s t) : SameMems s t := by
  rw [h.frame]; exact ⟨rfl, rfl, rfl, rfl, rfl⟩

end PinStep

/-! Captured edges (R119). -/

/-- The stamp of an accepted edge is remembered. -/
def State.edgeSeen (s : State) (src stamp : Nat) : State :=
  { s with trig := { s.trig with lastEdge := mapSet (fun _ => 0) s.trig.lastEdge src stamp } }

theorem pinStep_edgeSeen (s : State) (src stamp : Nat) : PinStep s (s.edgeSeen src stamp) := ⟨rfl, rfl⟩

section
variable (s : State) (src : Nat) (rising : Bool) (stamp : Nat) (cap : Fld)

/-- An edge that is not taken is counted with its event. -/
theorem captureEdge_dropped (h : s.edgeTaken src stamp = false) :
    s.captureEdge src rising stamp cap = (s.incFld TRIG_CAP_DROP_COUNT 1).raise 3 10 src := by
  simp only [State.captureEdge, h, Bool.false_eq_true, not_false_eq_true, if_true]

/-- An edge that is taken is stored and recorded. -/
theorem captureEdge_taken (h : s.edgeTaken src stamp = true) : ∃ a, s.captureEdge src rising stamp cap =
    ((s.edgeSeen src stamp).setFld cap (st32Of (stamp / unitsPerNs))).pushRec 3 0x21 a false (stamp / unitsPerNs) := by
  refine ⟨src + (if rising then 32 else 0) + (stamp % unitsPerNs) * 64, ?_⟩
  simp only [State.captureEdge, h, not_true_eq_false, if_false, State.edgeSeen]

theorem pinStep_captureEdge : PinStep s (s.captureEdge src rising stamp cap) := by
  cases h : s.edgeTaken src stamp
  · rw [captureEdge_dropped s src rising stamp cap h]
    exact ((PinStep.refl s).setFld _ _).quiet (quiet_raise _ _ _ _)
  · obtain ⟨a, ha⟩ := captureEdge_taken s src rising stamp cap h
    rw [ha]
    exact ((pinStep_edgeSeen s src stamp).setFld _ _).quiet (quiet_pushRec _ _ _ _ _ _)

theorem fld_captureEdge {f : Fld} (hp : f.page = 3) (ho : 0x040 ≤ f.off) (hd : f.key ≠ TRIG_CAP_DROP_COUNT.key)
    (hc : f.key ≠ cap.key) : (s.captureEdge src rising stamp cap).fld f = s.fld f := by
  cases h : s.edgeTaken src stamp
  · rw [captureEdge_dropped s src rising stamp cap h, fld_raise_trig _ hp ho, incFld_eq, fld_setFld_ne _ _ _ _ hd]
  · obtain ⟨a, ha⟩ := captureEdge_taken s src rising stamp cap h
    rw [ha, fld_pushRec, fld_setFld_ne _ _ _ _ hc]
    rfl

end

/-! Pins (R118). -/

section
variable (s : State) {pin : Nat}

/-- The place of TIO_CFG of a pin. -/
def tioCfgKey (pin : Nat) : Nat := regKey 3 (0x100 + pin * 4)

theorem key_outLevel (pin : Nat) : (TRIG_TIO_CFG_OUT_LEVEL.nth pin).key = tioCfgKey pin := by
  simp only [Fld.key, Fld.nth, TRIG_TIO_CFG_OUT_LEVEL, tioCfgKey]

theorem key_level (pin : Nat) : (TRIG_TIO_CFG_LEVEL.nth pin).key = tioCfgKey pin := by
  simp only [Fld.key, Fld.nth, TRIG_TIO_CFG_LEVEL, tioCfgKey]

theorem tioCfgKey_ne {pin : Nat} (hp : pin < 16) : tioCfgKey pin ≠ TRIG_CAP_DROP_COUNT.key ∧
    tioCfgKey pin ≠ (TRIG_TIO_CAP_ST32.nth pin).key := by
  simp only [tioCfgKey, Fld.key, Fld.nth, TRIG_CAP_DROP_COUNT, TRIG_TIO_CAP_ST32, regKey]
  omega

theorem pinEdge_cases (pin : Nat) (rising : Bool) (stamp : Nat) :
    s.pinEdge pin rising stamp = (s.setBit (TRIG_TIO_CFG_LEVEL.nth pin) rising).captureEdge pin rising stamp
        (TRIG_TIO_CAP_ST32.nth pin) ∨
      s.pinEdge pin rising stamp = s.setBit (TRIG_TIO_CFG_LEVEL.nth pin) rising := ite_eq_or_eq _ _ _

theorem pinStep_pinEdge (pin : Nat) (rising : Bool) (stamp : Nat) : PinStep s (s.pinEdge pin rising stamp) :=
  .ite _ (((PinStep.refl s).setBit _ _).trans (pinStep_captureEdge _ _ _ _ _)) ((PinStep.refl s).setBit _ _)

/-- An edge of a pin leaves the other fields of TIO_CFG as they are. -/
theorem fld_pinEdge (hp : pin < 16) (rising : Bool) (stamp : Nat) {f : Fld} (hpage : f.page = 3) (hk : f.key = tioCfgKey pin)
    (hb : f.lo + f.w ≤ 9 ∨ 10 ≤ f.lo) : (s.pinEdge pin rising stamp).fld f = s.fld f := by
  have hset : (s.setBit (TRIG_TIO_CFG_LEVEL.nth pin) rising).fld f = s.fld f :=
    fld_setFld_apart s (TRIG_TIO_CFG_LEVEL.nth pin) f _ (hk.trans (key_level pin).symm)
      (by simp [Fld.nth, TRIG_TIO_CFG_LEVEL])
      (by simpa [Fld.nth, TRIG_TIO_CFG_LEVEL] using hb)
  have hoff : 0x040 ≤ f.off := by
    have hkey := hk
    simp only [Fld.key, hpage, tioCfgKey, regKey] at hkey
    omega
  obtain hd | hd := pinEdge_cases s pin rising stamp <;> rw [hd]
  · rw [fld_captureEdge _ _ _ _ _ hpage hoff (by rw [hk]; exact (tioCfgKey_ne hp).1)
      (by rw [hk]; exact (tioCfgKey_ne hp).2), hset]
  · exact hset

theorem bit_outLevel_pinEdge (hp : pin < 16) (rising : Bool) (stamp : Nat) :
    (s.pinEdge pin rising stamp).bit (TRIG_TIO_CFG_OUT_LEVEL.nth pin) = s.bit (TRIG_TIO_CFG_OUT_LEVEL.nth pin) := by
  rw [State.bit, fld_pinEdge s hp rising stamp rfl (key_outLevel pin) (.inl (by simp [Fld.nth, TRIG_TIO_CFG_OUT_LEVEL])), State.bit]

/-- A pin driven: OUT_LEVEL, the ball where it is an output, an edge where the level follows. -/
theorem drivePin_cases (pin : Nat) (b : Bool) : s.drivePin pin b = s.setBit (TRIG_TIO_CFG_OUT_LEVEL.nth pin) b ∨
    (∃ o, s.drivePin pin b = (s.setBit (TRIG_TIO_CFG_OUT_LEVEL.nth pin) b).emit o) ∨
    ∃ o i, s.drivePin pin b = ((s.setBit (TRIG_TIO_CFG_OUT_LEVEL.nth pin) b).pinEdge pin b i).emit o := by
  unfold State.drivePin
  dsimp only
  split_ifs
  · exact .inr (.inl ⟨_, rfl⟩)
  · exact .inr (.inl ⟨_, rfl⟩)
  · exact .inr (.inr ⟨_, _, rfl⟩)
  · exact .inr (.inl ⟨_, rfl⟩)
  · exact .inl rfl

theorem pinStep_drivePin (pin : Nat) (b : Bool) : PinStep s (s.drivePin pin b) := by
  have hset : PinStep s (s.setBit (TRIG_TIO_CFG_OUT_LEVEL.nth pin) b) := (PinStep.refl s).setBit _ b
  obtain h | ⟨o, h⟩ | ⟨o, i, h⟩ := drivePin_cases s pin b <;> rw [h]
  · exact hset
  · exact hset.quiet (quiet_emit _ _)
  · exact (hset.trans (pinStep_pinEdge _ _ _ _)).quiet (quiet_emit _ _)

theorem bit_emit (o : Out) (f : Fld) : (s.emit o).bit f = s.bit f := rfl

/-- OUT_LEVEL of a pin driven is the level driven (R118). -/
theorem outLevel_drivePin (hp : pin < 16) (b : Bool) : (s.drivePin pin b).bit (TRIG_TIO_CFG_OUT_LEVEL.nth pin) = b := by
  have hset : (s.setBit (TRIG_TIO_CFG_OUT_LEVEL.nth pin) b).bit (TRIG_TIO_CFG_OUT_LEVEL.nth pin) = b :=
    bit_setBit_same s (by simp [Fld.nth, TRIG_TIO_CFG_OUT_LEVEL]) b
  obtain h | ⟨o, h⟩ | ⟨o, i, h⟩ := drivePin_cases s pin b <;> rw [h]
  · exact hset
  · rw [bit_emit, hset]
  · rw [bit_emit, bit_outLevel_pinEdge _ hp, hset]

/-- What a pin's actions of the tick come to is remembered. -/
def State.droveSeen (s : State) (x : Nat × Nat × Bool × Bool) : State :=
  { s with trig := { s.trig with drove := x :: s.trig.drove.filter fun p => p.1 != x.1 } }

/-- An action drives the pin to `l` where it finds it low and to `h` where it finds it high (R118). -/
theorem actPin_eq (pin : Nat) (l h : Bool) : ∃ x, s.actPin pin l h =
    (s.droveSeen x).drivePin pin (if s.bit (TRIG_TIO_CFG_OUT_LEVEL.nth pin) then h else l) :=
  ⟨(pin, s.time.mono, _, _), rfl⟩

theorem pinStep_actPin (pin : Nat) (l h : Bool) : PinStep s (s.actPin pin l h) := by
  obtain ⟨x, hx⟩ := actPin_eq s pin l h
  have hd : PinStep s (s.droveSeen x) := ⟨rfl, rfl⟩
  rw [hx]
  exact hd.trans (pinStep_drivePin _ _ _)

theorem outLevel_actPin (hp : pin < 16) (l h : Bool) : (s.actPin pin l h).bit (TRIG_TIO_CFG_OUT_LEVEL.nth pin) =
    if s.bit (TRIG_TIO_CFG_OUT_LEVEL.nth pin) then h else l := by
  obtain ⟨x, hx⟩ := actPin_eq s pin l h
  rw [hx, outLevel_drivePin _ hp]

end

/-! The effect of an action, and how it is told (R116, R118). -/

/-- What the action of trigger `n` does, before it is told (Table 03-6). -/
def State.trgEffect (s : State) (n : Nat) : State :=
  let act := s.fld (TRIG_TRG_CFG_ACTION.nth n)
  let pin := s.fld (TRIG_TRG_CFG_PIN.nth n)
  let arg := s.fld (TRIG_TRG_CFG_ARG.nth n)
  if act = 1 then s.actPin pin true true
  else if act = 2 then s.actPin pin false false
  else if act = 3 then s.actPin pin true false
  else if act = 4 then
    let s2 := s.actPin pin true true
    { s2 with trig := { s2.trig with pulses := s2.trig.pulses ++ [(pin, s2.time.mono + arg * 10 * unitsPerNs, n)] } }
  else if act = 6 then s.snsStart (natBits arg 0 5)
  else if act = 7 then s.fsyncPulse
  else s

/-- The mark of trigger `n` reaches the scheduler. -/
def State.trgMark (s : State) (n : Nat) : State := { s with marks := s.marks ++ [.trigger n] }

/-- The mark, the record where one is due, and the trigger disarmed. -/
def State.trgDone (s : State) (n : Nat) (c : Bool) (a : Nat) : State :=
  (if c then (s.trgMark n).recordOnly 3 0x20 a else s.trgMark n).setArm n false

section
variable (s : State) (n : Nat) (c : Bool) (a : Nat)

theorem trgAct_told (late : Bool) (lateNs : Nat) : ∃ c a, s.trgAct n late lateNs =
    if c = true then ((s.trgEffect n).trgMark n).recordOnly 3 0x20 a else (s.trgEffect n).trgMark n :=
  ⟨decide (s.fld (TRIG_TRG_CFG_ACTION.nth n) = 0 ∨ s.bit (TRIG_TRG_CFG_REC.nth n)), _, by
    simp only [decide_eq_true_eq]; rfl⟩

/-- The end of an AT trigger beyond its action: registers, records and one mark. -/
theorem trgDone_frame : s.trgDone n c a = { s with
    regs := (s.trgDone n c a).regs
    recQ := (s.trgDone n c a).recQ
    out := (s.trgDone n c a).out
    marks := s.marks ++ [.trigger n] } := by
  unfold State.trgDone
  rw [onlyRegs_setArm _ false n]
  cases c
  · rfl
  · have hq := quiet_pushRec (s.trgMark n) 3 0x20 a false (s.trgMark n).nowNs
    simp only [if_true, State.recordOnly]
    rw [hq]
    rfl

theorem out_trgDone : (s.trgDone n c a).out = s.out := by
  unfold State.trgDone State.recordOnly State.pushRec
  split_ifs <;> rfl

theorem arm_trgDone : (s.trgDone n c a).bit (TRIG_TRG_CFG_ARM.nth n) = false := arm_setArm _ false n

theorem fld_trgDone {f : Fld} (hc : f.key ≠ trgCfgKey n) (ha : f.key ≠ trgArmedKey n) :
    (s.trgDone n c a).fld f = s.fld f := by
  unfold State.trgDone
  rw [fld_setArm _ false hc ha]
  cases c
  · rfl
  · exact fld_pushRec _ _ _ _ _ _ f

theorem marks_trgDone : (s.trgDone n c a).marks = s.marks ++ [.trigger n] := by rw [trgDone_frame]

theorem trig_trgDone : (s.trgDone n c a).trig = s.trig := by rw [trgDone_frame]

theorem time_trgDone : (s.trgDone n c a).time = s.time := by rw [trgDone_frame]

theorem snsHeld_trgDone : (s.trgDone n c a).snsHeld = s.snsHeld := by rw [trgDone_frame]

theorem sameMems_trgDone : SameMems s (s.trgDone n c a) := by
  rw [trgDone_frame]; exact ⟨rfl, rfl, rfl, rfl, rfl⟩

end

end Sys2Proof.Machine
end

section
/-! PROOF. A trigger that is due (O23, R112, R116, R118, R408): the order of a tick, each action's own effect, a pulse's end. -/

namespace Sys2Proof.Machine

open Sys2Proof

/-! What the actions change. -/

/-- Nothing but registers, event records, what is sent, the time base, the triggers and the held sample differs. -/
def OnlyAction (s t : State) : Prop := t = { s with
  regs := t.regs
  recQ := t.recQ
  out := t.out
  time := t.time
  trig := t.trig
  snsHeld := t.snsHeld }

namespace OnlyAction

variable {s t : State}

theorem of_pinStep (h : PinStep s t) : OnlyAction s t := by
  unfold OnlyAction; rw [h.frame]

theorem of_quiet (h : Quiet s t) : OnlyAction s t := by
  unfold OnlyAction; rw [h]

theorem marks (h : OnlyAction s t) : t.marks = s.marks := by rw [h]

theorem sameMems (h : OnlyAction s t) : SameMems s t := by
  rw [h]; exact ⟨rfl, rfl, rfl, rfl, rfl⟩

end OnlyAction

/-- The pulse of trigger `n` on a pin joins those running (R116). -/
def State.pulseFrom (s : State) (x : Nat × Nat × Nat) : State :=
  { s with trig := { s.trig with pulses := s.trig.pulses ++ [x] } }

section
variable (s : State)

theorem onlyAction_snsStart (ch : Nat) : OnlyAction s (s.snsStart ch) := by
  unfold State.snsStart
  split
  · exact .of_quiet ((quiet_setFld s _ _).trans (quiet_raise _ 11 10 ch))
  · rfl

theorem snsHeld_snsStart (ch : Nat) (h : s.snsHeld = none) : (s.snsStart ch).snsHeld = some (s.corrOf ch) := by
  unfold State.snsStart
  rw [h]

theorem onlyAction_fsyncPulse : OnlyAction s s.fsyncPulse := rfl

end

/-! Each action's own effect (Table 03-6). -/

section
variable {s : State} {n : Nat}

theorem trgEffect_tells (h : s.fld (TRIG_TRG_CFG_ACTION.nth n) = 0 ∨ s.fld (TRIG_TRG_CFG_ACTION.nth n) = 5) :
    s.trgEffect n = s := by
  unfold State.trgEffect
  obtain h | h := h <;> simp [h]

theorem trgEffect_set (h : s.fld (TRIG_TRG_CFG_ACTION.nth n) = 1) :
    s.trgEffect n = s.actPin (s.fld (TRIG_TRG_CFG_PIN.nth n)) true true := if_pos h

theorem trgEffect_clr (h : s.fld (TRIG_TRG_CFG_ACTION.nth n) = 2) :
    s.trgEffect n = s.actPin (s.fld (TRIG_TRG_CFG_PIN.nth n)) false false := by
  simp [State.trgEffect, h]

theorem trgEffect_toggle (h : s.fld (TRIG_TRG_CFG_ACTION.nth n) = 3) :
    s.trgEffect n = s.actPin (s.fld (TRIG_TRG_CFG_PIN.nth n)) true false := by
  simp [State.trgEffect, h]

theorem trgEffect_pulse (h : s.fld (TRIG_TRG_CFG_ACTION.nth n) = 4) : s.trgEffect n =
    (s.actPin (s.fld (TRIG_TRG_CFG_PIN.nth n)) true true).pulseFrom (s.fld (TRIG_TRG_CFG_PIN.nth n),
      (s.actPin (s.fld (TRIG_TRG_CFG_PIN.nth n)) true true).time.mono + s.fld (TRIG_TRG_CFG_ARG.nth n) * 10 * unitsPerNs, n) := by
  simp [State.trgEffect, h, State.pulseFrom]

theorem trgEffect_sample (h : s.fld (TRIG_TRG_CFG_ACTION.nth n) = 6) :
    s.trgEffect n = s.snsStart (natBits (s.fld (TRIG_TRG_CFG_ARG.nth n)) 0 5) := by
  simp [State.trgEffect, h]

theorem trgEffect_fsync (h : s.fld (TRIG_TRG_CFG_ACTION.nth n) = 7) : s.trgEffect n = s.fsyncPulse := by
  simp [State.trgEffect, h]

theorem onlyAction_trgEffect (s : State) (n : Nat) : OnlyAction s (s.trgEffect n) := by
  have hpin (l h : Bool) : OnlyAction s (s.actPin (s.fld (TRIG_TRG_CFG_PIN.nth n)) l h) :=
    .of_pinStep (pinStep_actPin s _ l h)
  unfold State.trgEffect
  dsimp only
  split_ifs
  · exact hpin true true
  · exact hpin false false
  · exact hpin true false
  · unfold OnlyAction
    rw [hpin true true]
  · exact onlyAction_snsStart s _
  · exact onlyAction_fsyncPulse s
  · rfl

end

/-! The triggers of a tick, in their order (R116). -/

section
variable {s : State} {n : Nat}

theorem trgOne_idle (h : s.trgDue n = none) : s.trgOne n = s := by
  rw [State.trgOne, h]

/-- An AT trigger that is due acts and is disarmed (R112). -/
theorem trgOne_at {last : Bool} (h : s.trgDue n = some last) (hm : s.fld (TRIG_TRG_CFG_MODE.nth n) = 0) :
    ∃ c a, s.trgOne n = (s.trgEffect n).trgDone n c a := by
  obtain ⟨c, a, ha⟩ := trgAct_told s n false 0
  refine ⟨c, a, ?_⟩
  simp only [State.trgOne, h, hm, if_true, ha, State.trgDone]

/-- A trigger none of whose pulses is over ends none. -/
theorem pulseEnds_idle (h : ∀ x ∈ s.trig.pulses, x.2.2 = n → s.time.mono < x.2.1) : s.pulseEnds n = s := by
  have hover : ∀ x ∈ s.trig.pulses, (x.2.2 == n && decide (x.2.1 ≤ s.time.mono)) = false := by
    intro x hx
    by_cases hxn : x.2.2 = n
    · have hlt := h x hx hxn
      simp [hxn, hlt]
    · simp [hxn]
  have hnone : s.trig.pulses.filter (fun x => x.2.2 == n && decide (x.2.1 ≤ s.time.mono)) = [] :=
    List.filter_eq_nil_iff.2 fun x hx => by simp [hover x hx]
  have hall : s.trig.pulses.filter (fun x => !(x.2.2 == n && decide (x.2.1 ≤ s.time.mono))) = s.trig.pulses :=
    List.filter_eq_self.2 fun x hx => by simp [hover x hx]
  unfold State.pulseEnds
  simp only [hnone, hall, List.foldl_nil]

theorem trgBefore_succ (s : State) (n : Nat) : s.trgBefore (n + 1) = ((s.trgBefore n).pulseEnds n).trgOne n := by
  simp [State.trgBefore, List.range_succ]

/-- Lower triggers of which none is due and none has a pulse over do nothing. -/
theorem trgBefore_idle (hd : ∀ k, k < n → s.trgDue k = none)
    (hp : ∀ x ∈ s.trig.pulses, x.2.2 < n → s.time.mono < x.2.1) : s.trgBefore n = s := by
  induction n with
  | zero => rfl
  | succ n ih =>
    have hidle := ih (fun k hk => hd k (Nat.lt_succ_of_lt hk)) fun x hx hxn => hp x hx (Nat.lt_succ_of_lt hxn)
    rw [trgBefore_succ, hidle, pulseEnds_idle fun x hx hxn => hp x hx (by omega), trgOne_idle (hd n n.lt_succ_self)]

/-- What an AT trigger leaves at its end does not touch another trigger. -/
theorem trgDue_trgDone {k : Nat} (hn : n < 64) (hk : k ≠ n) (c : Bool) (a : Nat) : (s.trgDone n c a).trgDue k = s.trgDue k := by
  have hfld {f : Fld} (hc : f.key ≠ trgCfgKey n) (ha : f.key ≠ trgArmedKey n) := fld_trgDone s n c a hc ha
  have harm := hfld (f := TRIG_TRG_CFG_ARM.nth k)
    (by simp only [Fld.key, Fld.nth, TRIG_TRG_CFG_ARM, trgCfgKey, regKey]; omega)
    (by simp only [Fld.key, Fld.nth, TRIG_TRG_CFG_ARM, trgArmedKey, regKey]; omega)
  have hmode := hfld (f := TRIG_TRG_CFG_MODE.nth k)
    (by simp only [Fld.key, Fld.nth, TRIG_TRG_CFG_MODE, trgCfgKey, regKey]; omega)
    (by simp only [Fld.key, Fld.nth, TRIG_TRG_CFG_MODE, trgArmedKey, regKey]; omega)
  have htime := hfld (f := TRIG_TRG_TIME_TIME.nth k)
    (by simp only [Fld.key, Fld.nth, TRIG_TRG_TIME_TIME, trgCfgKey, regKey]; omega)
    (by simp only [Fld.key, Fld.nth, TRIG_TRG_TIME_TIME, trgArmedKey, regKey]; omega)
  unfold State.trgDue State.trgOffset State.sfld State.bit State.trgUnit
  rw [harm, hmode, htime, time_trgDone, trig_trgDone]

/-- The command of a trigger's action, once it is due, is its turn after the lower ones (R116). -/
theorem trgFire_due {last : Bool} {act : Nat} (h : s.trgDue n = some last) (ha : s.fld (TRIG_TRG_CFG_ACTION.nth n) = act) :
    s.trgFire n act = ((s.trgBefore n).pulseEnds n).trgOne n :=
  if_pos ⟨by rw [h]; rfl, ha⟩

theorem trgFire_idle {act : Nat} (h : s.trgDue n = none) : s.trgFire n act = s :=
  if_neg fun hc => by simp [h] at hc

/-- An AT trigger that is due, alone in its tick, acts and is disarmed. -/
theorem trgFire_alone {last : Bool} {act : Nat} (h : s.trgDue n = some last) (hm : s.fld (TRIG_TRG_CFG_MODE.nth n) = 0)
    (ha : s.fld (TRIG_TRG_CFG_ACTION.nth n) = act) (hd : ∀ k, k < n → s.trgDue k = none)
    (hp : ∀ x ∈ s.trig.pulses, s.time.mono < x.2.1) : ∃ c a, s.trgFire n act = (s.trgEffect n).trgDone n c a := by
  obtain ⟨c, a, hone⟩ := trgOne_at h hm
  exact ⟨c, a, by rw [trgFire_due h ha, trgBefore_idle hd fun x hx _ => hp x hx, pulseEnds_idle fun x hx _ => hp x hx, hone]⟩

/-- Of the lower triggers only `k` is due, and it only tells. -/
theorem trgBefore_one {k : Nat} {last : Bool} (hn : n ≤ 64) (hk : k < n) (hdue : s.trgDue k = some last)
    (hm : s.fld (TRIG_TRG_CFG_MODE.nth k) = 0) (ha : s.fld (TRIG_TRG_CFG_ACTION.nth k) = 0)
    (hd : ∀ j, j < n → j ≠ k → s.trgDue j = none) (hp : ∀ x ∈ s.trig.pulses, s.time.mono < x.2.1) :
    ∃ c a, s.trgBefore n = s.trgDone k c a := by
  obtain ⟨c, a, hone⟩ := trgOne_at hdue hm
  rw [trgEffect_tells (.inl ha)] at hone
  refine ⟨c, a, ?_⟩
  have hpk (m : Nat) : ∀ x ∈ (s.trgDone k c a).trig.pulses, x.2.2 = m → (s.trgDone k c a).time.mono < x.2.1 := by
    rw [trig_trgDone, time_trgDone]
    exact fun x hx _ => hp x hx
  have hfrom (m : Nat) (hm : k + 1 ≤ m) (hmn : m ≤ n) : s.trgBefore m = s.trgDone k c a := by
    induction m, hm using Nat.le_induction with
    | base =>
      rw [trgBefore_succ, trgBefore_idle (fun j hj => hd j (by omega) (by omega)) fun x hx _ => hp x hx,
        pulseEnds_idle fun x hx _ => hp x hx, hone]
    | succ m hm ih =>
      rw [trgBefore_succ, ih (by omega), pulseEnds_idle (hpk m), trgOne_idle]
      rw [trgDue_trgDone (by omega) (by omega), hd m (by omega) (by omega)]
  exact hfrom n hk (le_refl n)

/-- Two cues of one tick: the lower number first. -/
theorem trgFire_two {k : Nat} {last last' : Bool} (hn : n < 64) (hdue : s.trgDue n = some last)
    (hm : s.fld (TRIG_TRG_CFG_MODE.nth n) = 0) (ha : s.fld (TRIG_TRG_CFG_ACTION.nth n) = 0) (hk : k < n)
    (hdue' : s.trgDue k = some last') (hm' : s.fld (TRIG_TRG_CFG_MODE.nth k) = 0)
    (ha' : s.fld (TRIG_TRG_CFG_ACTION.nth k) = 0) (hd : ∀ j, j < n → j ≠ k → s.trgDue j = none)
    (hp : ∀ x ∈ s.trig.pulses, s.time.mono < x.2.1) : (s.trgFire n 0).marks = s.marks ++ [.trigger k, .trigger n] := by
  obtain ⟨c, a, hbefore⟩ := trgBefore_one (by omega) hk hdue' hm' ha' hd hp
  have hcfg {f : Fld} (hf : f.key = trgCfgKey n) : (s.trgDone k c a).fld f = s.fld f :=
    fld_trgDone s k c a (by rw [hf]; unfold trgCfgKey regKey; omega)
      (by rw [hf]; unfold trgCfgKey trgArmedKey regKey; omega)
  have hdue2 : (s.trgDone k c a).trgDue n = some last := by rw [trgDue_trgDone (by omega) (by omega), hdue]
  obtain ⟨c', a', hone⟩ := trgOne_at hdue2 ((hcfg (f := TRIG_TRG_CFG_MODE.nth n) (key_arm n)).trans hm)
  rw [trgEffect_tells (.inl ((hcfg (key_action n)).trans ha))] at hone
  rw [trgFire_due hdue ha, hbefore, pulseEnds_idle, hone, marks_trgDone, marks_trgDone, List.append_assoc]
  · rfl
  · rw [trig_trgDone, time_trgDone]
    exact fun x hx _ => hp x hx

/-! A pulse's end (R116). -/

/-- The pulses still running. -/
def State.withPulses (s : State) (l : List (Nat × Nat × Nat)) : State := { s with trig := { s.trig with pulses := l } }

/-- The pulse that is over clears its pin. -/
theorem pulseEnds_first {pin e : Nat} {rest : List (Nat × Nat × Nat)} (h : s.trig.pulses = (pin, e, n) :: rest)
    (he : e ≤ s.time.mono) (hr : ∀ x ∈ rest, s.time.mono < x.2.1) :
    s.pulseEnds n = (s.withPulses rest).actPin pin false false := by
  have hover : ∀ x ∈ rest, (x.2.2 == n && decide (x.2.1 ≤ s.time.mono)) = false := by
    intro x hx
    have hlt := hr x hx
    simp [hlt]
  have hnone : rest.filter (fun x => x.2.2 == n && decide (x.2.1 ≤ s.time.mono)) = [] :=
    List.filter_eq_nil_iff.2 fun x hx => by simp [hover x hx]
  have hall : rest.filter (fun x => !(x.2.2 == n && decide (x.2.1 ≤ s.time.mono))) = rest :=
    List.filter_eq_self.2 fun x hx => by simp [hover x hx]
  unfold State.pulseEnds
  simp only [h, List.filter_cons, beq_self_eq_true, he, decide_true, Bool.and_self, if_true, Bool.not_true,
    Bool.false_eq_true, if_false, hnone, hall, List.foldl_cons, List.foldl_nil, State.withPulses]

/-! The commands. -/

theorem outLevel_trgDone {pin : Nat} (hn : n < 64) (hp : pin < 16) (c : Bool) (a : Nat) :
    (s.trgDone n c a).bit (TRIG_TIO_CFG_OUT_LEVEL.nth pin) = s.bit (TRIG_TIO_CFG_OUT_LEVEL.nth pin) := by
  have hne : tioCfgKey pin ≠ trgCfgKey n ∧ tioCfgKey pin ≠ trgArmedKey n := by
    unfold tioCfgKey trgCfgKey trgArmedKey regKey
    omega
  rw [State.bit, fld_trgDone s n c a (by rw [key_outLevel]; exact hne.1) (by rw [key_outLevel]; exact hne.2), State.bit]

/-- What every action leaves: the trigger disarmed, its mark sent, the memories as they were. -/
theorem trgDone_effect (s : State) (n : Nat) (c : Bool) (a : Nat) :
    ((s.trgEffect n).trgDone n c a).bit (TRIG_TRG_CFG_ARM.nth n) = false ∧
      ((s.trgEffect n).trgDone n c a).marks = s.marks ++ [.trigger n] ∧ MemKept s ((s.trgEffect n).trgDone n c a) := by
  have hact := onlyAction_trgEffect s n
  exact ⟨arm_trgDone _ n c a, by rw [marks_trgDone, hact.marks], (hact.sameMems.trans (sameMems_trgDone _ n c a)).memKept⟩

theorem exec_tioPulseEnd_idle {pin : Nat} (h : ∀ x ∈ s.trig.pulses, x.1 = pin → s.time.mono < x.2.1) :
    exec (.tioPulseEnd pin) s = .next s := by
  have hnone : s.trig.pulses.find? (fun p => p.1 == pin && decide (p.2.1 ≤ s.time.mono)) = none :=
    List.find?_eq_none.2 fun x hx => by
      intro hc
      simp only [Bool.and_eq_true, beq_iff_eq, decide_eq_true_eq] at hc
      exact absurd (h x hx hc.1) (Nat.not_lt.2 hc.2)
  show execTioPulseEnd pin s = _
  unfold execTioPulseEnd
  rw [hnone]

/-- A pulse that is over, with nothing else due before it (R116). -/
theorem exec_tioPulseEnd_over {pin e : Nat} {rest : List (Nat × Nat × Nat)} (h : s.trig.pulses = (pin, e, n) :: rest)
    (he : e ≤ s.time.mono) (hr : ∀ x ∈ rest, s.time.mono < x.2.1) (hd : ∀ k, k < n → s.trgDue k = none) :
    exec (.tioPulseEnd pin) s = .next ((s.withPulses rest).actPin pin false false) := by
  have hfind : s.trig.pulses.find? (fun p => p.1 == pin && decide (p.2.1 ≤ s.time.mono)) = some (pin, e, n) := by
    rw [h]
    exact List.find?_cons_of_pos (by simp [he])
  have hbefore : s.trgBefore n = s := trgBefore_idle hd fun x hx hxn => by
    rw [h] at hx
    obtain rfl | hx := List.mem_cons.1 hx
    · exact absurd hxn (Nat.lt_irrefl n)
    · exact hr x hx
  show execTioPulseEnd pin s = _
  unfold execTioPulseEnd
  rw [hfind]
  show Host.Outcome.next ((s.trgBefore n).pulseEnds n) = _
  rw [hbefore, pulseEnds_first h he hr]

end

end Sys2Proof.Machine

open Sys2Proof Sys2Proof.Machine

/-- Settles O23: a due trigger alone in its tick by the effect of its action, two cues by the order of their numbers,
the end of a pulse by the pin it clears. -/
theorem triggerActionsTaken : Obligations.TriggerActionsTaken := by
  unfold Obligations.TriggerActionsTaken
  intro n s hn
  refine ⟨fun h => ?_, fun last k last' h hm ha hk h' hm' ha' hd hp => ?_, fun last h hm hpin hd hp => ?_,
    fun pin e rest hpin => ⟨exec_tioPulseEnd_idle, fun hpul he hr hd => ?_⟩⟩
  · have hidle (act : Nat) : Host.Outcome.next (φ := Fault) (ρ := Refusal) (s.trgFire n act) = .next s :=
      congrArg _ (trgFire_idle h)
    exact ⟨hidle 0, hidle 1, hidle 2, hidle 3, hidle 4, hidle 5, hidle 6, hidle 7⟩
  · exact ⟨_, rfl, trgFire_two hn h hm ha hk h' hm' ha' hd hp⟩
  · have halone {act : Nat} (ha : s.fld (TRIG_TRG_CFG_ACTION.nth n) = act) := trgFire_alone h hm ha hd hp
    refine ⟨fun ha => ?_, fun ha => ?_, fun ha => ?_, fun ha => ?_, fun ha => ?_, fun ha => ?_, fun ha => ?_, fun ha => ?_⟩
    all_goals
      obtain ⟨c, a, hfire⟩ := halone ha
      refine ⟨_, congrArg Host.Outcome.next hfire, trgDone_effect s n c a, ?_⟩
    · rw [out_trgDone, trgEffect_tells (.inl ha)]
    · rw [outLevel_trgDone hn hpin, trgEffect_set ha, outLevel_actPin s hpin, ite_self]
    · rw [outLevel_trgDone hn hpin, trgEffect_clr ha, outLevel_actPin s hpin, ite_self]
    · rw [outLevel_trgDone hn hpin, trgEffect_toggle ha, outLevel_actPin s hpin]
      cases s.bit (TRIG_TIO_CFG_OUT_LEVEL.nth (s.fld (TRIG_TRG_CFG_PIN.nth n))) <;> rfl
    · have hstep := pinStep_actPin s (s.fld (TRIG_TRG_CFG_PIN.nth n)) true true
      rw [outLevel_trgDone hn hpin, trig_trgDone, trgEffect_pulse ha]
      refine ⟨(outLevel_actPin s hpin true true).trans (ite_self _), ?_⟩
      rw [State.pulseFrom, hstep.time, hstep.pulses]
      rfl
    · rw [out_trgDone, trgEffect_tells (.inr ha)]
    · intro hheld
      rw [snsHeld_trgDone, trgEffect_sample ha, snsHeld_snsStart s _ hheld]
    · rw [time_trgDone, out_trgDone, trgEffect_fsync ha]
      exact ⟨rfl, rfl⟩
  · have hstep := pinStep_actPin (s.withPulses rest) pin false false
    exact ⟨_, exec_tioPulseEnd_over hpul he hr hd, hstep.pulses, (outLevel_actPin _ hpin false false).trans (ite_self _),
      (SameMems.trans ⟨rfl, rfl, rfl, rfl, rfl⟩ hstep.sameMems).memKept⟩
end

section
/-! PROOF. Edges and timecode (O24, R119 to R123): an edge accepted, captured or counted; LTC frames sent, recorded, lost. -/

namespace Sys2Proof.Machine

open Sys2Proof

/-! Edges (R119, R120). -/

section
variable (s : State) (src stamp : Nat)

/-- Whether an edge comes too close after the source's last one, or finds its buffer full (R119). -/
def State.edgeClose (s : State) (src stamp : Nat) : Bool :=
  (match s.trig.lastEdge.find? fun p => p.1 == src with
    | some p => decide (stamp - p.2 < 40 * 65536)
    | none => false) || decide (8 ≤ s.capWaiting src)

theorem edgeTaken_eq : s.edgeTaken src stamp = !s.edgeClose src stamp := by
  have hflip (a b : Nat) : decide (a ≤ b) = !decide (b < a) := by
    rw [← decide_not]
    exact decide_eq_decide.2 Nat.not_lt.symm
  unfold State.edgeTaken State.edgeClose
  rw [Bool.not_or, hflip 8, Bool.not_not]
  cases s.trig.lastEdge.find? fun p => p.1 == src with
  | none => rfl
  | some p => exact congrArg (· && _) (hflip _ _)

theorem trig_of_quiet {s t : State} (h : Quiet s t) : t.trig = s.trig := by rw [h]

theorem edgeTaken_setBit (f : Fld) (b : Bool) : (s.setBit f b).edgeTaken src stamp = s.edgeTaken src stamp := rfl

end

section
variable {s : State} {pin stamp : Nat} {rising : Bool}

theorem exec_tioEdge_early (h : s.time.now < stamp + s.deglitch pin) : exec (.tioEdge pin rising stamp) s = .next s :=
  congrArg Host.Outcome.next (if_neg (Nat.not_le.2 h))

theorem exec_tioEdge_held (h : stamp + s.deglitch pin ≤ s.time.now) :
    exec (.tioEdge pin rising stamp) s = .next (s.pinEdge pin rising stamp) :=
  congrArg Host.Outcome.next (if_pos h)

theorem pinEdge_plain (h : (s.fld (TRIG_TIO_CFG_CAPTURE.nth pin)).testBit (if rising then 0 else 1) = false) :
    s.pinEdge pin rising stamp = s.setBit (TRIG_TIO_CFG_LEVEL.nth pin) rising := by
  simp only [State.pinEdge, h, Bool.false_eq_true, if_false]

theorem pinEdge_captured (h : (s.fld (TRIG_TIO_CFG_CAPTURE.nth pin)).testBit (if rising then 0 else 1) = true) :
    s.pinEdge pin rising stamp = (s.setBit (TRIG_TIO_CFG_LEVEL.nth pin) rising).captureEdge pin rising stamp
      (TRIG_TIO_CAP_ST32.nth pin) := by
  simp only [State.pinEdge, h, if_true]

theorem st32_mod (n : Nat) : st32Of n % 2 ^ 32 = n % 2 ^ 32 := Nat.mod_mod _ _

/-- A captured edge's stamp is stored (R119). -/
theorem cap_captureEdge (s : State) {src : Nat} {cap : Fld} (hw : cap.lo = 0 ∧ cap.w = 32)
    (h : s.edgeTaken src stamp = true) : (s.captureEdge src rising stamp cap).fld cap = stamp / 65536 % 2 ^ 32 := by
  obtain ⟨a, ha⟩ := captureEdge_taken s src rising stamp cap h
  rw [ha, fld_pushRec, fld_setFld_same _ _ _ (by omega), hw.2, st32_mod, unitsPerNs]

theorem drop_captureEdge (s : State) {src : Nat} {cap : Fld} (h : s.edgeTaken src stamp = false) :
    (s.captureEdge src rising stamp cap).fld TRIG_CAP_DROP_COUNT = (s.fld TRIG_CAP_DROP_COUNT + 1) % 2 ^ 32 ∧
      ((s.captureEdge src rising stamp cap).reg (regKey 3 0x010)).getLsbD 10 = true ∧
      (s.captureEdge src rising stamp cap).trig = s.trig := by
  rw [captureEdge_dropped s src rising stamp cap h]
  refine ⟨?_, event_raise _ 3 10 src (by decide), ?_⟩
  · rw [fld_raise_trig _ rfl (by decide), incFld_eq, fld_setFld_same _ _ _ (by decide)]
    rfl
  · exact trig_of_quiet ((quiet_setFld s _ _).trans (quiet_raise _ 3 10 src))

theorem keys_tioCap {pin : Nat} (hp : pin < 16) : (TRIG_TIO_CFG_LEVEL.nth pin).key ≠ TRIG_CAP_DROP_COUNT.key ∧
    (TRIG_TIO_CFG_LEVEL.nth pin).key ≠ (TRIG_TIO_CAP_ST32.nth pin).key := by
  rw [key_level]
  exact tioCfgKey_ne hp

/-- An edge of a kind that is captured (R119). -/
theorem pinEdge_outcome (hp : pin < 16)
    (h : (s.fld (TRIG_TIO_CFG_CAPTURE.nth pin)).testBit (if rising then 0 else 1) = true) :
    (s.pinEdge pin rising stamp).bit (TRIG_TIO_CFG_LEVEL.nth pin) = rising ∧ MemKept s (s.pinEdge pin rising stamp) ∧
      (if s.edgeClose pin stamp then
        (s.pinEdge pin rising stamp).fld TRIG_CAP_DROP_COUNT = (s.fld TRIG_CAP_DROP_COUNT + 1) % 2 ^ 32 ∧
        ((s.pinEdge pin rising stamp).reg (regKey 3 0x010)).getLsbD 10 = true ∧ (s.pinEdge pin rising stamp).trig = s.trig
      else (s.pinEdge pin rising stamp).fld (TRIG_TIO_CAP_ST32.nth pin) = stamp / 65536 % 2 ^ 32) := by
  obtain ⟨hdrop, hcap⟩ := keys_tioCap hp
  have hlevel : (s.pinEdge pin rising stamp).bit (TRIG_TIO_CFG_LEVEL.nth pin) = rising := by
    rw [pinEdge_captured h, State.bit, fld_captureEdge _ _ _ _ _ rfl (by simp only [Fld.nth, TRIG_TIO_CFG_LEVEL]; omega)
      hdrop hcap, ← State.bit]
    exact bit_setBit_same s (by simp [Fld.nth, TRIG_TIO_CFG_LEVEL]) rising
  refine ⟨hlevel, (pinStep_pinEdge s pin rising stamp).sameMems.memKept, ?_⟩
  have htaken := edgeTaken_setBit s pin stamp (TRIG_TIO_CFG_LEVEL.nth pin) rising
  rw [edgeTaken_eq s] at htaken
  rw [pinEdge_captured h]
  cases hc : s.edgeClose pin stamp
  · rw [hc] at htaken
    rw [if_neg Bool.false_ne_true]
    exact cap_captureEdge _ ⟨rfl, rfl⟩ htaken
  · rw [hc] at htaken
    obtain ⟨h1, h2, h3⟩ := drop_captureEdge (rising := rising) (cap := TRIG_TIO_CAP_ST32.nth pin) _ htaken
    rw [if_pos rfl]
    refine ⟨?_, h2, ?_⟩
    · rw [h1, setBit_eq, fld_setFld_ne _ _ _ _ hdrop.symm]
    · rw [h3, setBit_eq, setFld_trig]

/-- An FSYNC_IN edge of a kind that is not captured does nothing (R120). -/
theorem exec_fsyncEdge_plain (h : (s.fld TRIG_FSYNC_CFG_IN_EDGE).testBit (if rising then 0 else 1) = false) :
    exec (.fsyncEdge rising stamp) s = .next s := by
  show execFsyncEdge rising stamp s = _
  simp only [execFsyncEdge, h, Bool.false_eq_true, if_false]

/-- Unless SOURCE is FSYNC a captured FSYNC_IN edge is only captured (R93, R120). -/
theorem exec_fsyncEdge_captured (h : (s.fld TRIG_FSYNC_CFG_IN_EDGE).testBit (if rising then 0 else 1) = true)
    (hs : s.fld TIME_CTRL_SOURCE ≠ 3) :
    exec (.fsyncEdge rising stamp) s = .next (s.captureEdge 16 rising stamp TRIG_FSYNC_CAP_ST32) := by
  show execFsyncEdge rising stamp s = _
  simp only [execFsyncEdge, h, if_true, hs, false_and, if_false]

theorem regsKept_captureEdge_taken (s : State) {src : Nat} {cap : Fld} (h : s.edgeTaken src stamp = true) :
    RegsKept (fun k => k == cap.key) s (s.captureEdge src rising stamp cap) := by
  obtain ⟨a, ha⟩ := captureEdge_taken s src rising stamp cap h
  intro k hk
  have hne : k ≠ cap.key := by simpa using hk
  rw [ha, State.reg, regs_pushRec, ← State.reg, reg_setFld_ne _ _ _ hne]
  rfl

end

/-! Timecode out (R121). -/

section
variable {s : State}

theorem exec_ltcOut_due (he : s.bit TIME_LTC_OUT_CFG_EN = true) (hu : s.timeState ≠ tsUnset)
    (hd : ∀ k, s.time.ltcLast = some k → k < s.ltcIndex) :
    let l := s.ltcLabel (s.fld TIME_LTC_OUT_CFG_RATE) s.ltcIndex
    exec .ltcOutFrame s = .next { s with
      time := { s.time with ltcLast := some s.ltcIndex }
      out := s.out ++ [.ltcFrame (s.fld TIME_LTC_OUT_CFG_RATE) (bcd l.1) (bcd l.2.1) (bcd l.2.2.1) (bcd l.2.2.2)
        (s.fld TIME_LTC_OUT_UB_UB)] } := by
  have hdue : s.ltcDue = true := by
    unfold State.ltcDue
    cases hl : s.time.ltcLast with
    | none => rfl
    | some k => exact decide_eq_true (hd k hl)
  show execLtcOutFrame s = _
  unfold execLtcOutFrame
  exact if_pos ⟨he, hu, hdue⟩

theorem exec_ltcOut_again {k : Nat} (hl : s.time.ltcLast = some k) (hk : s.ltcIndex ≤ k) : exec .ltcOutFrame s = .next s := by
  have hdue : s.ltcDue = false := by
    unfold State.ltcDue
    rw [hl]
    exact decide_eq_false (Nat.not_lt.2 hk)
  show execLtcOutFrame s = _
  unfold execLtcOutFrame
  exact if_neg fun hc => by simp [hdue] at hc

end

/-! Timecode in (R123). -/

section
variable (s : State) (f : LtcIn)

/-- The valid frames in a row at one rate, this one included. -/
def State.ltcRow (s : State) (f : LtcIn) : Nat := if s.time.ltcRate = f.rate ∧ s.ltcFollows = true then s.time.ltcRun + 1 else 1

/-- A valid frame's label, rate and stamp are stored. -/
def State.ltcStored (s : State) (f : LtcIn) : State :=
  (((((((s.modTime fun t => { t with ltcRun := s.ltcRow f, ltcRate := f.rate, ltcAt := t.mono }).setFld
    TIME_LTC_IN_LAST_FF f.ff).setFld TIME_LTC_IN_LAST_SS f.ss).setFld TIME_LTC_IN_LAST_MM f.mm).setFld
      TIME_LTC_IN_LAST_HH f.hh).setBit TIME_LTC_IN_LAST_DF f.df).setFld TIME_LTC_IN_LAST_RATE f.rate).setFld
        TIME_LTC_IN_ST32_ST32 (st32Of f.stamp)

/-- The fourth frame in a row gains lock. -/
def State.ltcJudged (s : State) (f : LtcIn) : State :=
  if 4 ≤ s.ltcRow f ∧ ¬ s.bit TIME_LTC_IN_LAST_LOCK then
    ((s.ltcStored f).setBit TIME_LTC_IN_LAST_LOCK true).raise 2 18 f.rate
  else s.ltcStored f

/-- `s` with a record where one is wanted. -/
def State.recordIf (s : State) (c : Bool) (p code a : Nat) : State := if c then s.recordOnly p code a else s

theorem exec_ltcInFrame (h : s.bit TIME_LTC_IN_CFG_EN = true) : ∃ c a,
    exec (.ltcInFrame f) s = .next ((s.ltcJudged f).recordIf c 2 0x23 a) := by
  refine ⟨s.bit TIME_LTC_IN_CFG_REC_EN, natBits ((s.ltcJudged f).reg TIME_LTC_IN_LAST_FF.key).toNat 0 28, ?_⟩
  show execLtcInFrame f s = _
  unfold execLtcInFrame
  exact if_pos h

theorem fld_recordIf (c : Bool) (p code a : Nat) (g : Fld) : (s.recordIf c p code a).fld g = s.fld g := by
  cases c
  · rfl
  · exact fld_pushRec _ _ _ _ _ _ g

theorem quiet_recordIf (c : Bool) (p code a : Nat) : Quiet s (s.recordIf c p code a) := by
  cases c
  · exact Quiet.refl s
  · exact quiet_pushRec _ _ _ _ _ _

theorem regsTime_ltcStored : RegsTime s (s.ltcStored f) :=
  ((((((((RegsTime.refl s).modTime _).setFld _ _).setFld _ _).setFld _ _).setFld _ _).setFld _ _).setFld _ _).setFld _ _

theorem time_ltcStored : (s.ltcStored f).time =
    { s.time with ltcRun := s.ltcRow f, ltcRate := f.rate, ltcAt := s.time.mono } := by
  rw [State.ltcStored, setBit_eq]
  iterate 7 rw [setFld_time]
  rw [modTime_time]

theorem ff_ltcStored : (s.ltcStored f).fld TIME_LTC_IN_LAST_FF = f.ff % 2 ^ TIME_LTC_IN_LAST_FF.w := by
  rw [State.ltcStored, setBit_eq]
  iterate 6 rw [fld_setFld_of_apart _ (by decide)]
  exact fld_setFld_same _ _ _ (by decide)

theorem lock_ltcStored : (s.ltcStored f).bit TIME_LTC_IN_LAST_LOCK = s.bit TIME_LTC_IN_LAST_LOCK := by
  rw [State.bit, State.bit, State.ltcStored, setBit_eq]
  iterate 7 rw [fld_setFld_of_apart _ (by decide)]
  rw [fld_modTime]

theorem st32_ltcStored : (s.ltcStored f).fld TIME_LTC_IN_ST32_ST32 = f.stamp % 2 ^ 32 :=
  (fld_setFld_same _ _ _ (by decide)).trans (st32_mod f.stamp)

theorem quiet_ltcJudged : Quiet (s.ltcStored f) (s.ltcJudged f) :=
  Quiet.ite _ ((quiet_setFld _ _ _).trans (quiet_raise _ _ _ _)) (Quiet.refl _)

/-- Gaining lock leaves the frame stored. -/
theorem fld_ltcJudged {g : Fld} (hg : TIME_LTC_IN_LAST_LOCK.apart g = true) (he : evKey 2 g.key = false) :
    (s.ltcJudged f).fld g = (s.ltcStored f).fld g := by
  unfold State.ltcJudged
  split
  · rw [fld_raise _ he, setBit_eq, fld_setFld_of_apart _ hg]
  · rfl

theorem lock_ltcJudged : (s.ltcJudged f).bit TIME_LTC_IN_LAST_LOCK =
    if 4 ≤ s.ltcRow f then true else s.bit TIME_LTC_IN_LAST_LOCK := by
  unfold State.ltcJudged
  by_cases h4 : 4 ≤ s.ltcRow f <;> cases hl : s.bit TIME_LTC_IN_LAST_LOCK
  · rw [if_pos ⟨h4, Bool.false_ne_true⟩, if_pos h4, State.bit, fld_raise _ (by decide), ← State.bit]
    exact bit_setBit_same _ (by decide) true
  · rw [if_neg fun hc => hc.2 rfl, if_pos h4, lock_ltcStored, hl]
  · rw [if_neg fun hc => h4 hc.1, if_neg h4, lock_ltcStored, hl]
  · rw [if_neg fun hc => h4 hc.1, if_neg h4, lock_ltcStored, hl]

/-- What a valid frame leaves (R123). -/
theorem ltcIn_outcome (h : s.bit TIME_LTC_IN_CFG_EN = true) : ∃ t, exec (.ltcInFrame f) s = .next t ∧
    t.fld TIME_LTC_IN_LAST_FF = f.ff % 2 ^ TIME_LTC_IN_LAST_FF.w ∧ t.fld TIME_LTC_IN_ST32_ST32 = f.stamp % 2 ^ 32 ∧
    (t.time.ltcRun = s.ltcRow f ∧ (4 ≤ s.ltcRow f → t.bit TIME_LTC_IN_LAST_LOCK = true) ∧
      (s.ltcRow f < 4 → t.bit TIME_LTC_IN_LAST_LOCK = s.bit TIME_LTC_IN_LAST_LOCK)) ∧
    t.time.now = s.time.now ∧ t.time.integ = s.time.integ ∧ MemKept s t := by
  obtain ⟨c, a, hexec⟩ := exec_ltcInFrame s f h
  have hq : Quiet (s.ltcStored f) ((s.ltcJudged f).recordIf c 2 0x23 a) :=
    (quiet_ltcJudged s f).trans (quiet_recordIf _ _ _ _ _)
  have htime := (time_of_quiet hq).trans (time_ltcStored s f)
  have hlock : ((s.ltcJudged f).recordIf c 2 0x23 a).bit TIME_LTC_IN_LAST_LOCK = _ :=
    (congrArg (· == 1) (fld_recordIf _ c 2 0x23 a TIME_LTC_IN_LAST_LOCK)).trans (lock_ltcJudged s f)
  refine ⟨_, hexec, ?_, ?_, ⟨by rw [htime], fun h4 => ?_, fun h4 => ?_⟩, by rw [htime], by rw [htime], ?_⟩
  · rw [fld_recordIf, fld_ltcJudged s f (by decide) (by decide), ff_ltcStored]
  · rw [fld_recordIf, fld_ltcJudged s f (by decide) (by decide), st32_ltcStored]
  · rw [hlock, if_pos h4]
  · rw [hlock, if_neg (Nat.not_le.2 h4)]
  · exact ((regsTime_ltcStored s f).sameMems.quiet hq).memKept

end

/-- Lock is lost after two frame periods without a frame (R123). -/
theorem exec_ltcInLost {s : State} (hl : s.bit TIME_LTC_IN_LAST_LOCK = true)
    (h : 2 * (ltcRate s.time.ltcRate).2 * unitsPerSec ≤ (s.time.mono - s.time.ltcAt) * (ltcRate s.time.ltcRate).1) :
    exec .ltcInLost s = .next
      (((s.setBit TIME_LTC_IN_LAST_LOCK false).modTime fun t => { t with ltcRun := 0 }).raise 2 19 0) := by
  show execLtcInLost s = _
  unfold execLtcInLost
  exact if_pos ⟨hl, h⟩

end Sys2Proof.Machine

open Sys2Proof Sys2Proof.Machine

/-- Settles O24: an edge by DEGLITCH, its kind and its distance; LTC frames by what is sent, stored and judged. -/
theorem edgesAndTimecode : Obligations.EdgesAndTimecode := by
  unfold Obligations.EdgesAndTimecode
  intro pin stamp rising s hpin
  refine ⟨⟨exec_tioEdge_early, fun hh hc => ?_, fun hh hc => ⟨_, exec_tioEdge_held hh, pinEdge_outcome hpin hc⟩,
    exec_fsyncEdge_plain, fun hc hs hclose => ?_⟩, exec_ltcOut_due, fun k => exec_ltcOut_again, ltcIn_outcome s,
    fun hl h => ⟨_, exec_ltcInLost hl h, ?_⟩⟩
  · rw [exec_tioEdge_held hh, pinEdge_plain hc]
  · have htaken : s.edgeTaken 16 stamp = true := by
      rw [edgeTaken_eq]
      exact congrArg Bool.not hclose
    have hstep := pinStep_captureEdge s 16 rising stamp TRIG_FSYNC_CAP_ST32
    exact ⟨_, exec_fsyncEdge_captured hc hs, cap_captureEdge s ⟨rfl, rfl⟩ htaken, hstep.time,
      regsKept_captureEdge_taken s htaken, hstep.sameMems.memKept⟩
  · refine ⟨?_, event_raise _ 2 19 0 (by decide), ?_, ((((SameMems.refl s).setBit _ _).modTime _).raise 2 19 0).memKept⟩
    · rw [State.bit, fld_raise _ (by decide), fld_modTime, ← State.bit]
      exact bit_setBit_same s (by decide) false
    · rw [time_raise, modTime_time, setBit_eq, setFld_time]
end

section
/-! PROOF. The PTP engine (O18, R94, R96, R296, R300, R303): masters heard, Syncs, a Delay_Req, the first path delay. -/

namespace Sys2Proof.Machine

open Sys2Proof

/-! Masters (R94). -/

/-- The masters known and the memories are the same in `s` and `t`. -/
structure KeepsMasters (s t : State) : Prop where
  masters : t.time.masters = s.time.masters
  mems : SameMems s t

namespace KeepsMasters

variable {s t u : State}

theorem refl (s : State) : KeepsMasters s s := ⟨rfl, .refl s⟩

theorem trans (h : KeepsMasters s t) (g : KeepsMasters t u) : KeepsMasters s u :=
  ⟨g.masters.trans h.masters, h.mems.trans g.mems⟩

theorem ite (c : Prop) [Decidable c] (h : KeepsMasters s t) (g : KeepsMasters s u) :
    KeepsMasters s (if c then t else u) := by split <;> assumption

theorem quiet (h : KeepsMasters s t) (g : Quiet t u) : KeepsMasters s u :=
  ⟨by rw [time_of_quiet g, h.masters], h.mems.quiet g⟩

theorem modTime (h : KeepsMasters s t) (f : TimeS → TimeS) (hf : (f t.time).masters = t.time.masters) :
    KeepsMasters s (t.modTime f) := ⟨hf.trans h.masters, h.mems.modTime f⟩

theorem setFld (h : KeepsMasters s t) (f : Fld) (v : Nat) : KeepsMasters s (t.setFld f v) := h.quiet (quiet_setFld t f v)

theorem setBit (h : KeepsMasters s t) (f : Fld) (b : Bool) : KeepsMasters s (t.setBit f b) := h.setFld f _

theorem setPair (h : KeepsMasters s t) (lo hi : Fld) (v : Nat) : KeepsMasters s (t.setPair lo hi v) :=
  (h.setFld lo _).setFld hi _

theorem raise (h : KeepsMasters s t) (p k a : Nat) : KeepsMasters s (t.raise p k a) := h.quiet (quiet_raise t p k a)

theorem servoAcquire (h : KeepsMasters s t) : KeepsMasters s t.servoAcquire :=
  (h.modTime _ rfl).quiet (quiet_setTimeState _ _)

theorem newPath (h : KeepsMasters s t) (m : Master) : KeepsMasters s (t.newPath m) :=
  .ite _ (h.modTime _ rfl) (((h.modTime _ rfl).modTime _ rfl).setBit _ _)

theorem checkMaster (h : KeepsMasters s t) : KeepsMasters s t.checkMaster := by
  have hacq {u : State} (h : KeepsMasters s u) : KeepsMasters s (if u.timeState = tsLocked then u.servoAcquire else
      u.modTime fun t => { t with servoLocked := false, lockRun := 0 }) := .ite _ h.servoAcquire (h.modTime _ rfl)
  unfold State.checkMaster
  split
  · exact h
  · exact .ite _ (hacq (((h.modTime _ rfl).setPair _ _ _).raise _ _ _))
      (.ite _ (hacq (((h.modTime _ rfl).setPair _ _ _).raise _ _ _)) h)

/-- The comparison of masters changes which is in use, not which are known. -/
theorem takeBest (h : KeepsMasters s t) : KeepsMasters s t.takeBest := by
  unfold State.takeBest
  split
  · exact h
  · next m _ =>
    have hpath := ((h.modTime (fun x => { x with inUse := some m }) rfl).newPath m).modTime
      (fun x => { x with lastAnnounce := m.heard.headD x.mono }) rfl
    exact .ite _ (h.modTime _ rfl) (.ite _ hpath hpath.checkMaster)

theorem setWords (h : KeepsMasters s t) (p : Nat) (ws : List Word) : ∀ off, KeepsMasters s (t.setWords p off ws) := by
  induction ws generalizing t with
  | nil => exact fun _ => h
  | cons w ws ih => exact fun off => ih (h.quiet (quiet_setReg t _ w)) (off + 4)

end KeepsMasters

/-- Whether a known master is the one an Announce comes from. -/
def fromOf (m : Announce) (x : Master) : Bool := x.clock == m.clock && x.port == m.port && x.domain == m.domain

/-- The master as an Announce describes it, heard now. -/
def State.heardFrom (s : State) (m : Announce) : Master :=
  let heard := match s.time.masters.find? (fromOf m) with | some x => x.heard | none => []
  ⟨m.port, m.domain, m.clock, m.srcPort, m.logInterval,
    [m.prio1, m.clockClass, m.accuracy, m.variance, m.prio2, m.gm, m.steps, m.clock, m.srcPort],
    m.gm, (s.time.mono :: heard).take 2⟩

/-- The masters known after an Announce (R94). -/
def State.mastersHeard (s : State) (m : Announce) : List Master :=
  if s.time.masters.any (fromOf m) then s.time.masters.map fun x => if fromOf m x then s.heardFrom m else x
  else if s.time.masters.length < 8 then s.time.masters ++ [s.heardFrom m] else s.time.masters

section
variable {s : State} {m : Announce} (hu : s.time.inUse = none) (ht : s.ptpTakes m.port m.domain = true)

/-- The master of an Announce is among those known, unless the table is full (R94). -/
theorem heardFrom_mem (h : s.time.masters.any (fromOf m) = true ∨ s.time.masters.length < 8) :
    s.heardFrom m ∈ s.mastersHeard m := by
  unfold State.mastersHeard
  split
  · next hk =>
    obtain ⟨x, hx, hxm⟩ := List.any_eq_true.1 hk
    exact List.mem_map.2 ⟨x, hx, if_pos hxm⟩
  · next hk =>
    rw [if_pos (h.resolve_left hk)]
    exact List.mem_append_right _ List.mem_cons_self

theorem head_heardFrom (s : State) (m : Announce) : (s.heardFrom m).heard.head? = some s.time.mono := rfl

include hu

theorem ptpConfig_none : s.ptpConfig = s := by
  rw [State.ptpConfig, hu]

include ht

theorem announce_outside (h : ¬ (-3 ≤ m.logInterval ∧ m.logInterval ≤ 4)) : s.announce m = s := by
  simp only [State.announce, ht, if_true, ptpConfig_none hu, h, if_false, hu, Bool.false_eq_true]

/-- An Announce inside the profile while no master is in use: its metadata, the masters known, the comparison. -/
theorem announce_inside (h : -3 ≤ m.logInterval ∧ m.logInterval ≤ 4) : s.announce m =
    ((if m.smtlv = [] then s else s.setWords 2 0x0C0 (m.smtlv.take 12)).modTime fun t => { t with
      masters := if s.time.masters.any (fromOf m) then t.masters.map fun x => if fromOf m x then s.heardFrom m else x
        else if t.masters.length < 8 then t.masters ++ [s.heardFrom m] else t.masters
      inUse := t.inUse
      lastAnnounce := t.lastAnnounce }).takeBest := by
  simp only [State.announce, ht, if_true, ptpConfig_none hu, h, hu, Bool.false_eq_true, if_false, and_self]
  rfl

theorem exec_announceRx_inside (h : -3 ≤ m.logInterval ∧ m.logInterval ≤ 4)
    (hk : s.time.masters.any (fromOf m) = true ∨ s.time.masters.length < 8) :
    ∃ t, exec (.announceRx m) s = .next t ∧ MemKept s t ∧ ∃ x ∈ t.time.masters,
      x.clock = m.clock ∧ x.port = m.port ∧ x.domain = m.domain ∧ x.gm = m.gm ∧ x.interval = m.logInterval ∧
      x.heard.head? = some s.time.mono := by
  have hexec : exec (.announceRx m) s = .next (s.announce m) := rfl
  have hz : KeepsMasters s (if m.smtlv = [] then s else s.setWords 2 0x0C0 (m.smtlv.take 12)) :=
    .ite _ (.refl s) ((KeepsMasters.refl s).setWords 2 _ _)
  refine ⟨_, hexec, ?_⟩
  rw [announce_inside hu ht h]
  generalize (if m.smtlv = [] then s else s.setWords 2 0x0C0 (m.smtlv.take 12) : State) = z at hz ⊢
  have hbest := (KeepsMasters.refl (z.modTime fun t => { t with
      masters := if s.time.masters.any (fromOf m) then t.masters.map fun x => if fromOf m x then s.heardFrom m else x
        else if t.masters.length < 8 then t.masters ++ [s.heardFrom m] else t.masters
      inUse := t.inUse
      lastAnnounce := t.lastAnnounce })).takeBest
  refine ⟨((hz.mems.modTime _).trans hbest.mems).memKept, s.heardFrom m, ?_, rfl, rfl, rfl, rfl, rfl, head_heardFrom s m⟩
  rw [hbest.masters, modTime_time, hz.masters]
  exact heardFrom_mem hk

end

/-! Syncs and Follow_Ups (R96). -/

section
variable {s : State}

theorem ptpConfig_taken (h : ∀ u, s.time.inUse = some u → s.ptpTakes u.port u.domain = true) : s.ptpConfig = s := by
  unfold State.ptpConfig
  split
  · next u hu => exact if_pos (h u hu)
  · rfl

/-- A Sync that is not of the domain, the ports and the master changes nothing. -/
theorem sync_ignored {m : PtpSync} (h : s.ptpTakes m.port m.domain = false ∨ (s.fromMaster m.port m.clock = false ∧
    ∀ u, s.time.inUse = some u → s.ptpTakes u.port u.domain = true)) : s.sync m = s := by
  unfold State.sync
  by_cases ht : s.ptpTakes m.port m.domain = true
  · obtain ⟨hf, hu⟩ := h.resolve_left (by simp [ht])
    rw [if_neg (by simp [ht]), if_neg (by simp [hf]), ptpConfig_taken hu]
  · exact if_pos ht

/-- A one-step Sync, or the Follow_Up of a two-step one, makes no offset before a path delay is known. -/
theorem ptpSample_undelayed (h : s.time.delay = none) (t1 t2 : Int) : s.ptpSample t1 t2 =
    s.modTime fun t => { t with lastSync := some (t1, t2), syncWait := none } := by
  simp only [State.ptpSample, modTime_time, h]

section
variable {m : PtpSync} (ht : s.ptpTakes m.port m.domain = true) (hf : s.fromMaster m.port m.clock = true)
  (hl : -7 ≤ m.logInterval) (hr : m.logInterval ≤ 1)
include ht hf hl hr

theorem sync_twoStep (h : m.twoStep = true) : s.sync m = s.modTime fun t => { t with
    peer := some (m.port, m.clock, m.mac, m.ip)
    syncWait := some m } := by
  unfold State.sync
  rw [if_neg (by simp [ht]), if_pos ⟨hf, hl, hr⟩]
  simp only [h, if_true, modTime_modTime]

theorem sync_oneStep (h : m.twoStep = false) (hd : s.time.delay = none) : s.sync m = s.modTime fun t => { t with
    peer := some (m.port, m.clock, m.mac, m.ip)
    lastSync := some (m.t1 + m.corr, m.t2)
    syncWait := none } := by
  unfold State.sync
  rw [if_neg (by simp [ht]), if_pos ⟨hf, hl, hr⟩]
  simp only [h, Bool.false_eq_true, if_false]
  rw [ptpSample_undelayed (by rw [modTime_time]; exact hd), modTime_modTime]

end

section
variable {f : PtpFollowUp}

theorem followUp_matching {m : PtpSync} (ht : s.ptpTakes f.port f.domain = true) (hf : s.fromMaster f.port f.clock = true)
    (hw : s.time.syncWait = some m) (hs : m.seq = f.seq) (hp : m.port = f.port) (hd : s.time.delay = none) :
    s.followUp f = s.modTime fun t => { t with lastSync := some (f.t1 + f.corr + m.corr, m.t2), syncWait := none } := by
  simp only [State.followUp, ht, not_true_eq_false, if_false, hf, if_true, hw, hs, hp, and_self,
    ptpSample_undelayed hd]

theorem followUp_unawaited (hw : s.time.syncWait = none)
    (h : s.ptpTakes f.port f.domain = false ∨ s.fromMaster f.port f.clock = true) : s.followUp f = s := by
  unfold State.followUp
  by_cases ht : s.ptpTakes f.port f.domain = true
  · have hf := h.resolve_left (by simp [ht])
    rw [if_neg (by simp [ht]), if_pos hf, hw]
  · exact if_pos ht

end
end

/-! Delay_Req (R94, R296, R300, R303). -/

/-- Frames that become whole are the ones that waited. -/
theorem mem_moveIn {f : TxFrame} (kib : Nat) (q : List TxFrame) : ∀ buf rest, f ∈ q ∨ f ∈ buf ∨ f ∈ rest →
    f ∈ (moveIn kib q buf rest).1 ++ (moveIn kib q buf rest).2 := by
  induction q with
  | nil =>
    intro buf rest h
    simpa [moveIn] using h
  | cons g q ih =>
    intro buf rest h
    unfold moveIn
    split
    · refine ih _ _ ?_
      simp only [List.mem_cons, List.mem_append, List.not_mem_nil, or_false] at h ⊢
      tauto
    · refine ih _ _ ?_
      simp only [List.mem_cons, List.mem_append, List.not_mem_nil, or_false] at h ⊢
      tauto

section
variable (s : State) (p : Nat) (f : TxFrame)

theorem net_modNet_same (g : NetS → NetS) : (s.modNet p g).net p = g (s.net p) := mapGet_set_same _ _ _ _

/-- A frame handed to a port is in its buffer or waits for it (R302). -/
theorem mem_putTx : f ∈ ((s.putTx p [f]).net p).buf ++ ((s.putTx p [f]).net p).queue := by
  unfold State.putTx State.fillTx
  simp only [List.isEmpty_cons, Bool.false_eq_true, if_false, net_modNet_same]
  exact mem_moveIn _ _ _ _ (.inl (List.mem_append_right _ List.mem_cons_self))

/-- Nothing but the ports' own data differs. -/
theorem putTx_frame : s.putTx p [f] = { s with nets := (s.putTx p [f]).nets } := rfl

end

section
variable {s : State} {u : Master} (seq : Nat)

/-- The Delay_Req handed to the slave port, to the multicast address. -/
def State.delayReqTx (s : State) (u : Master) (seq : Nat) : TxFrame :=
  ⟨2, 0, 0, s.delayReqFrame u.port (seq % 65536) 0 0 s.freeVal false, none, none, none, some (seq % 65536)⟩

/-- A multicast Delay_Req carries no address of the master. -/
theorem delayReqFrame_multicast (s : State) (p n mac ip v : Nat) :
    s.delayReqFrame p n mac ip v false = s.delayReqFrame p n 0 0 v false := rfl

/-- The state that hands a Delay_Req on. -/
def State.reqDue (s : State) : State := s.takeFree.modTime fun t => { t with lastReqAt := some t.mono }

theorem sendDelayReq_first (hu : s.time.inUse = some u) (ht : s.ptpTakes u.port u.domain = true)
    (hl : s.time.lastReqAt = none) (hm : s.bit TIME_PTP_CFG_DELAY_UNICAST = false) :
    s.sendDelayReq seq = s.reqDue.handTx u.port (s.delayReqTx u seq) := by
  simp only [State.sendDelayReq, hu, ht, hl, hm, Bool.false_eq_true, not_false_eq_true, true_or, and_self, if_true]
  rw [delayReqFrame_multicast]
  rfl

/-- A frame dropped while the link is down is counted (R296). -/
theorem fld_downDropped (s : State) (p : Nat) : (s.incFld (NET_TX_DOWN_DROP_COUNT.inst p) 1).fld
    (NET_TX_DOWN_DROP_COUNT.inst p) = (s.fld (NET_TX_DOWN_DROP_COUNT.inst p) + 1) % 2 ^ 32 := by
  have hw : (NET_TX_DOWN_DROP_COUNT.inst p).w = 32 := rfl
  have hlo : (NET_TX_DOWN_DROP_COUNT.inst p).lo = 0 := rfl
  rw [incFld_eq, fld_setFld_same _ _ _ (by rw [hw, hlo]), hw]

theorem time_handTx (s : State) (p : Nat) (f : TxFrame) : (s.handTx p f).time = s.time := by
  unfold State.handTx
  split
  · rw [putTx_frame]
  · rw [incFld_eq, setFld_time]

/-- The first Delay_Req is handed to the slave port, or counted as dropped while its link is down. -/
theorem exec_delayReqSend_first (hu : s.time.inUse = some u) (ht : s.ptpTakes u.port u.domain = true)
    (hl : s.time.lastReqAt = none) (hm : s.bit TIME_PTP_CFG_DELAY_UNICAST = false) :
    ∃ t, exec (.delayReqSend seq) s = .next t ∧ t.time = { s.time with lastReqAt := some s.time.mono } ∧
      (s.netUp u.port = true → (∃ x ∈ (t.net u.port).buf ++ (t.net u.port).queue, x.src = 2 ∧ x.req = some (seq % 65536) ∧
        x.bytes = s.delayReqFrame u.port (seq % 65536) 0 0 s.freeVal false) ∧ t.regs = s.regs) ∧
      (s.netUp u.port = false → t.nets = s.nets ∧ t.fld (NET_TX_DOWN_DROP_COUNT.inst u.port) =
        (s.fld (NET_TX_DOWN_DROP_COUNT.inst u.port) + 1) % 2 ^ 32) ∧
      t = { s with regs := t.regs, time := t.time, nets := t.nets, free := s.free + 1 } := by
  have hexec : exec (.delayReqSend seq) s = .next (s.sendDelayReq seq) := rfl
  refine ⟨_, hexec, ?_⟩
  rw [sendDelayReq_first seq hu ht hl hm]
  refine ⟨time_handTx _ _ _, ?_⟩
  have hup : s.reqDue.netUp u.port = s.netUp u.port := rfl
  unfold State.handTx
  rw [hup]
  cases s.netUp u.port with
  | true =>
    simp only [if_true, reduceCtorEq, false_implies, true_and, true_implies]
    exact ⟨⟨⟨_, mem_putTx _ _ _, rfl, rfl, rfl⟩, by rw [putTx_frame]; rfl⟩, by rw [putTx_frame]; rfl⟩
  | false =>
    simp only [if_false, Bool.false_eq_true, false_implies, true_and, true_implies]
    have hcount := fld_downDropped s.reqDue u.port
    have hregs : OnlyRegs s.reqDue (s.reqDue.incFld (NET_TX_DOWN_DROP_COUNT.inst u.port) 1) :=
      (OnlyRegs.refl _).setFld _ _
    generalize s.reqDue.incFld (NET_TX_DOWN_DROP_COUNT.inst u.port) 1 = t at hcount hregs ⊢
    exact ⟨⟨by rw [hregs]; rfl, hcount⟩, by rw [hregs]; rfl⟩

end

/-! The first path delay (R96). -/

section
variable {s : State} {m : PtpDelayResp} {t1 t2 t3 : Int}

/-- The first path delay made, published and valid. -/
def State.firstDelay (s : State) (m : PtpDelayResp) (d : Int) : State :=
  ((s.modTime fun t => { t with delay := some d, delayPath := some (m.clock, m.port) }).setFld
    TIME_PATH_DELAY_NS_NS (intBits 32 (roundDiv d 65536))).setBit TIME_STATUS_DELAY_VALID true

theorem delayResp_first (ht : s.ptpTakes m.port m.domain = true) (hf : s.fromMaster m.port m.clock = true)
    (hr : s.time.delayReq = some (m.seq, t3)) (hs : s.time.lastSync = some (t1, t2)) (hd : s.time.delay = none) :
    s.delayResp m = s.firstDelay m (((t2 - t1) + (m.t4 - m.corr - t3)) / 2) := by
  simp only [State.delayResp, ht, not_true_eq_false, if_false, hf, if_true, hr, hs, hd, roundNs]
  rfl

theorem exec_delayRespRx_first (ht : s.ptpTakes m.port m.domain = true) (hf : s.fromMaster m.port m.clock = true)
    (hr : s.time.delayReq = some (m.seq, t3)) (hs : s.time.lastSync = some (t1, t2)) (hd : s.time.delay = none) :
    ∃ t, exec (.delayRespRx m) s = .next t ∧
      (let d := ((t2 - t1) + (m.t4 - m.corr - t3)) / 2
       t.time = { s.time with delay := some d, delayPath := some (m.clock, m.port) } ∧
       t.fld TIME_PATH_DELAY_NS_NS = intBits 32 (roundDiv d 65536) ∧ t.bit TIME_STATUS_DELAY_VALID = true) ∧
      RegsKept (fun k => [TIME_PATH_DELAY_NS_NS.key, TIME_STATUS_STATE.key].contains k) s t ∧
      t = { s with regs := t.regs, time := t.time } := by
  have hexec : exec (.delayRespRx m) s = .next (s.delayResp m) := rfl
  refine ⟨_, hexec, ?_⟩
  rw [delayResp_first ht hf hr hs hd]
  generalize ((t2 - t1) + (m.t4 - m.corr - t3)) / 2 = d
  unfold State.firstDelay
  refine ⟨⟨by rw [setBit_eq, setFld_time, setFld_time, modTime_time], ?_, bit_setBit_same _ (by decide) true⟩, ?_, ?_⟩
  · rw [setBit_eq, fld_setFld_of_apart _ (by decide), fld_setFld_same _ _ _ (by decide)]
    exact Nat.mod_eq_of_lt (intBits_lt 32 _)
  · exact (((RegsKept.refl _ s).modTime _).trans (regsKept_setFld _ _ _ (by decide))).trans
      (regsKept_setFld _ _ _ (by decide))
  · exact (((RegsTime.refl s).modTime _).setFld _ _).setFld _ _

end

end Sys2Proof.Machine

open Sys2Proof Sys2Proof.Machine

/-- Settles O18: an Announce leaves its master among those known, a Sync and its Follow_Up make the last pair of
stamps, and the first Delay_Req and its Delay_Resp are taken as the lemmas about each say. -/
theorem ptpMessagesTaken : Obligations.PtpMessagesTaken := by
  unfold Obligations.PtpMessagesTaken
  intro s
  have hannounce (m : Announce) : exec (.announceRx m) s = .next (s.announce m) := rfl
  have hsync (m : PtpSync) : exec (.syncRx m) s = .next (s.sync m) := rfl
  have hfollow (f : PtpFollowUp) : exec (.followUpRx f) s = .next (s.followUp f) := rfl
  refine ⟨fun m hu ht => ⟨fun h => ?_, exec_announceRx_inside hu ht⟩, fun m f => ⟨fun h => ?_, ?_, ?_, fun hw h => ?_⟩,
    fun u seq => exec_delayReqSend_first seq, fun m t1 t2 t3 => exec_delayRespRx_first⟩
  · rw [hannounce, announce_outside hu ht h]
  · rw [hsync, sync_ignored h]
  · intro ht hf hl hr
    refine ⟨fun h => ?_, fun h hd => ?_⟩
    · rw [hsync, sync_twoStep ht hf hl hr h]
      rfl
    · rw [hsync, sync_oneStep ht hf hl hr h hd]
      rfl
  · intro ht hf hw hs hp hd
    rw [hfollow, followUp_matching ht hf hw hs hp hd]
    rfl
  · rw [hfollow, followUp_unawaited hw h]

end

section
/-! PROOF. The encoding of a bundle and its decoding (O25): format by format, the fields of a syllable are the digits of its
word, and the opcode names the table its operation stands in (Tables 04-2 to 04-6). -/

namespace Sys2Proof.Machine

open Sys2Proof

/-! Words of a bundle (R140). -/

theorem bundleWord_words {a b c d : Nat} (ha : a < 2 ^ 32) (hb : b < 2 ^ 32) (hc : c < 2 ^ 32) (hd : d < 2 ^ 32) :
    (let w : Bundle := BitVec.ofNat 128 (a + b * 2 ^ 32 + c * 2 ^ 64 + d * 2 ^ 96)
     bundleWord w 0 = a ∧ bundleWord w 1 = b ∧ bundleWord w 2 = c ∧ bundleWord w 3 = d) := by
  simp only [bundleWord, natBits, BitVec.toNat_ofNat]
  refine ⟨?_, ?_, ?_, ?_⟩ <;> omega

theorem testBit_eq_natBits (w i : Nat) : w.testBit i = (natBits w i 1 == 1) := by
  rw [Nat.testBit_eq_decide_div_mod_eq]
  rfl

theorem toNat_beq_one (b : Bool) : (b.toNat == 1) = b := by cases b <;> rfl

/-! Vector syllables. -/

theorem VF.bounds {f : VF} (h : f.wf = true) : f.pr < 8 ∧ f.sm < 3 ∧ f.d < 64 ∧ f.a < 64 ∧ f.b < 64 := by
  obtain ⟨hpr, hsm, hd, ha, hb⟩ := of_decide_eq_true h
  refine ⟨hpr, hsm, hd, ha, ?_⟩
  split at hb <;> omega

theorem VOp.code_range (o : VOp) : 0 < o.code ∧ o.code < 128 := by cases o <;> decide

/-- The digits of the V format (Table 04-2). -/
theorem natBits_formatV {c h pr t sm d a b : Nat} (hc : c < 128) (hh : h < 2) (hpr : pr < 8) (ht : t < 2) (hsm : sm < 4)
    (hd : d < 64) (ha : a < 64) (hb : b < 64) :
    (let w := c * 2 ^ 25 + h * 2 ^ 24 + pr * 2 ^ 21 + t * 2 ^ 20 + sm * 2 ^ 18 + d * 2 ^ 12 + a * 2 ^ 6 + b
     w < 2 ^ 32 ∧ natBits w 25 7 = c ∧ natBits w 24 1 = h ∧ natBits w 21 3 = pr ∧ natBits w 20 1 = t ∧ natBits w 18 2 = sm ∧
       natBits w 12 6 = d ∧ natBits w 6 6 = a ∧ natBits w 0 6 = b) := by
  simp only [natBits]
  refine ⟨?_, ?_, ?_, ?_, ?_, ?_, ?_, ?_, ?_⟩ <;> omega

/-- The word of a vector operation holds its opcode and its fields. -/
theorem encodeV_op (o : VOp) {f : VF} (h : f.wf = true) :
    encodeV (.op o f) < 2 ^ 32 ∧ natBits (encodeV (.op o f)) 25 7 = o.code ∧ vFields (encodeV (.op o f)) = f := by
  obtain ⟨hpr, hsm, hd, ha, hb⟩ := VF.bounds h
  obtain ⟨hlt, hc, hh, hpr', ht, hsm', hd', ha', hb'⟩ :=
    natBits_formatV o.code_range.2 f.h16.toNat_lt hpr f.bs.toNat_lt (show f.sm < 4 by omega) hd ha hb
  refine ⟨hlt, hc, ?_⟩
  simp only [encodeV, vFields, testBit_eq_natBits, hh, hpr', ht, hsm', hd', ha', hb', toNat_beq_one]

/-- The tables of vector opcodes invert `VOp.code`: those below 0x20 stand in both slots, those from 0x60 on in VB (R142). -/
theorem opLookup_vOpBoth (o : VOp) : opLookup vOpBoth o.code = if o.code < 0x20 then some o else none := by
  cases o <;> rfl

theorem opLookup_vOpSlot (o : VOp) (h : 0x20 ≤ o.code) :
    opLookup (if o.inVB false then vOpB else vOpA) o.code = some o := by
  revert h
  cases o <;> decide

theorem decodeV_encodeV (vb : Bool) (y : VSyl) (h : y.wf vb = true) : encodeV y < 2 ^ 32 ∧ decodeV vb (encodeV y) = y := by
  cases y with
  | nop => exact ⟨by decide, rfl⟩
  | bad c => simp [VSyl.wf] at h
  | op o f =>
    simp only [VSyl.wf, Bool.and_eq_true] at h
    obtain ⟨⟨hf, hmode⟩, hslot⟩ := h
    obtain ⟨hlt, hcode, hfields⟩ := encodeV_op o hf
    have h0 : encodeV (.op o f) ≠ 0 := by
      intro h0
      have := o.code_range.1
      rw [← hcode, h0] at this
      exact absurd this (by decide)
    refine ⟨hlt, ?_⟩
    unfold decodeV
    simp only [h0, hcode, hfields, if_false, o.code_range.1.ne', opLookup_vOpBoth]
    by_cases hboth : o.code < 0x20
    · simp only [hboth, hmode, if_true]
    · have hvb : o.inVB false = vb := by
        cases vb <;> simp [VOp.inVB] at hslot ⊢ <;> omega
      have := opLookup_vOpSlot o (by omega)
      rw [hvb] at this
      simp only [hboth, if_false, this, hmode, if_true]

/-! Syllables of slots M and C: an opcode of six bits, a predicate, and the operands in 23 bits below them. -/

/-- The digits the formats of slots M and C share (Table 04-2). -/
theorem natBits_format {c pr x : Nat} (hc : c < 64) (hpr : pr < 8) (hx : x < 2 ^ 23) :
    (let w := c * 2 ^ 26 + pr * 2 ^ 23 + x
     w < 2 ^ 32 ∧ natBits w 26 6 = c ∧ natBits w 23 3 = pr ∧ ∀ lo n, lo + n ≤ 23 → natBits w lo n = natBits x lo n) := by
  refine ⟨by omega, by simp only [natBits]; omega, by simp only [natBits]; omega, fun lo n h => ?_⟩
  obtain ⟨k, hk⟩ := Nat.exists_eq_add_of_le h
  have hw : c * 2 ^ 26 + pr * 2 ^ 23 + x = x + 2 ^ lo * (2 ^ n * (2 ^ k * (c * 8 + pr))) := by
    rw [← mul_assoc, ← mul_assoc, ← pow_add, ← pow_add, ← hk]
    ring
  simp only [natBits]
  rw [hw, Nat.add_mul_div_left _ _ (by positivity), Nat.add_mul_mod_self_left]

theorem ne_zero_of_opcode {w c : Nat} (h : natBits w 26 6 = c) (hc : 0 < c) : w ≠ 0 := by
  rintro rfl
  rw [← h] at hc
  exact absurd hc (by decide)

/-! M syllables. -/

theorem MOp.code_range (o : MOp) : 0 < o.code ∧ o.code < 64 := by cases o <;> decide

/-- The tables of M opcodes invert `MOp.code`, each on its own range (Table 04-4). -/
theorem opLookup_mOps (o : MOp) :
    opLookup mOpV o.code = (if o.code ≤ 0x06 then some o else none) ∧
    opLookup mOpS o.code = (if 0x0C ≤ o.code ∧ o.code ≤ 0x11 then some o else none) ∧
    opLookup mOpX o.code = (if 0x08 ≤ o.code ∧ o.code ≤ 0x09 then some o else none) ∧
    opLookup mOpL o.code = (if 0x14 ≤ o.code ∧ o.code ≤ 0x15 then some o else none) ∧
    opLookup mOpC o.code = (if 0x20 ≤ o.code then some o else none) := by
  cases o <;> decide

/-- `decodeM` reads the operands of a word below its opcode and predicate by the table the opcode stands in. -/
theorem decodeM_word (o : MOp) {pr x : Nat} (hpr : pr < 8) (hx : x < 2 ^ 23) :
    (let w := o.code * 2 ^ 26 + pr * 2 ^ 23 + x
     w < 2 ^ 32 ∧
     (o.code ≤ 0x06 → decodeM w = .mem o ⟨pr, natBits x 17 6, natBits x 12 5, natBits x 0 12⟩) ∧
     (0x0C ≤ o.code → o.code ≤ 0x11 → natBits x 17 1 = 0 →
       decodeM w = .mem o ⟨pr, natBits x 18 5, natBits x 12 5, natBits x 0 12⟩) ∧
     (0x08 ≤ o.code → o.code ≤ 0x09 → natBits x 0 6 = 0 →
       decodeM w = .idx o ⟨pr, natBits x 17 6, natBits x 12 5, natBits x 6 6⟩) ∧
     (0x14 ≤ o.code → o.code ≤ 0x15 → natBits x 4 8 = 0 →
       decodeM w = .lane o ⟨pr, natBits x 17 6, natBits x 12 5, natBits x 0 4⟩) ∧
     (0x20 ≤ o.code → (o = .scstart → natBits x 17 5 = 0) →
       decodeM w = .chan o ⟨pr, natBits x 22 1, natBits x 17 5, natBits x 12 5, natBits x 0 12⟩)) := by
  intro w
  obtain ⟨hlt, hcode, hpred, hrest⟩ := natBits_format o.code_range.2 hpr hx
  obtain ⟨hV, hS, hX, hL, hC⟩ := opLookup_mOps o
  have h0 := o.code_range.1
  have hw : w ≠ 0 := ne_zero_of_opcode hcode h0
  have hfield (lo n : Nat) (h : lo + n ≤ 23) : natBits w lo n = natBits x lo n := hrest lo n h
  refine ⟨hlt, fun hv => ?_, fun hlo hhi hz => ?_, fun hlo hhi hz => ?_, fun hlo hhi hz => ?_, fun hlo hz => ?_⟩ <;>
    unfold decodeM <;>
    simp only [hw, show natBits w 26 6 = o.code from hcode, show natBits w 23 3 = pr from hpred, hfield, h0.ne', hV, hS, hX, hL, hC,
      if_false, Nat.reduceAdd, Nat.reduceLeDiff]
  · rw [if_pos hv]
  · rw [if_neg (by omega), if_pos ⟨hlo, hhi⟩]
    simp only [hz, if_true]
  · rw [if_neg (by omega), if_neg (by omega), if_pos ⟨hlo, hhi⟩]
    simp only [hz, if_true]
  · rw [if_neg (by omega), if_neg (by omega), if_neg (by omega), if_pos ⟨hlo, hhi⟩]
    simp only [hz, if_true]
  · rw [if_neg (by omega), if_neg (by omega), if_neg (by omega), if_neg (by omega), if_pos hlo]
    exact if_neg fun h => h.2 (hz h.1)

theorem decodeM_encodeM (y : MSyl) (h : y.wf = true) : encodeM y < 2 ^ 32 ∧ decodeM (encodeM y) = y := by
  cases y with
  | nop => exact ⟨by decide, rfl⟩
  | bad c => simp [MSyl.wf] at h
  | mem o f =>
    simp only [MSyl.wf, Bool.and_eq_true, Bool.or_eq_true, MF.wf, decide_eq_true_eq] at h
    obtain ⟨⟨hpr, hdata, hbase, hoff⟩, hv | ⟨⟨hlo, hhi⟩, hs⟩⟩ := h
    · obtain ⟨hlt, hmem, -⟩ := decodeM_word o hpr (show f.data * 2 ^ 17 + f.base * 2 ^ 12 + f.off < 2 ^ 23 by omega)
      have hw : encodeM (.mem o f) = o.code * 2 ^ 26 + f.pr * 2 ^ 23 + (f.data * 2 ^ 17 + f.base * 2 ^ 12 + f.off) := by
        rw [encodeM, if_neg (by omega)]
        omega
      rw [hw, hmem hv]
      refine ⟨hlt, ?_⟩
      simp only [natBits]
      congr 2 <;> omega
    · obtain ⟨hlt, -, hmem, -⟩ := decodeM_word o hpr (show f.data * 2 ^ 18 + f.base * 2 ^ 12 + f.off < 2 ^ 23 by omega)
      have hw : encodeM (.mem o f) = o.code * 2 ^ 26 + f.pr * 2 ^ 23 + (f.data * 2 ^ 18 + f.base * 2 ^ 12 + f.off) := by
        rw [encodeM, if_pos hlo]
        omega
      rw [hw, hmem hlo hhi (by rw [natBits]; omega)]
      refine ⟨hlt, ?_⟩
      simp only [natBits]
      congr 2 <;> omega
  | idx o f =>
    simp only [MSyl.wf, Bool.and_eq_true, Bool.or_eq_true, beq_iff_eq, decide_eq_true_eq] at h
    obtain ⟨⟨hpr, hdata, hbase, hidx⟩, ho⟩ := h
    have hrange : 0x08 ≤ o.code ∧ o.code ≤ 0x09 := by rcases ho with rfl | rfl <;> decide
    obtain ⟨hlt, -, -, hmem, -⟩ := decodeM_word o hpr (show f.data * 2 ^ 17 + f.base * 2 ^ 12 + f.idx * 2 ^ 6 < 2 ^ 23 by omega)
    have hw : encodeM (.idx o f) = o.code * 2 ^ 26 + f.pr * 2 ^ 23 + (f.data * 2 ^ 17 + f.base * 2 ^ 12 + f.idx * 2 ^ 6) := by
      simp only [encodeM, Nat.add_assoc]
    rw [hw, hmem hrange.1 hrange.2 (by rw [natBits]; omega)]
    refine ⟨hlt, ?_⟩
    simp only [natBits]
    congr 2 <;> omega
  | lane o f =>
    simp only [MSyl.wf, Bool.and_eq_true, Bool.or_eq_true, beq_iff_eq, MLF.wf, decide_eq_true_eq] at h
    obtain ⟨⟨hpr, hv, hs, hl⟩, ho⟩ := h
    have hrange : 0x14 ≤ o.code ∧ o.code ≤ 0x15 := by rcases ho with rfl | rfl <;> decide
    obtain ⟨hlt, -, -, -, hmem, -⟩ := decodeM_word o hpr (show f.v * 2 ^ 17 + f.s * 2 ^ 12 + f.lane < 2 ^ 23 by omega)
    have hw : encodeM (.lane o f) = o.code * 2 ^ 26 + f.pr * 2 ^ 23 + (f.v * 2 ^ 17 + f.s * 2 ^ 12 + f.lane) := by
      simp only [encodeM, Nat.add_assoc]
    rw [hw, hmem hrange.1 hrange.2 (by rw [natBits]; omega)]
    refine ⟨hlt, ?_⟩
    simp only [natBits]
    congr 2 <;> omega
  | chan o f =>
    simp only [MSyl.wf, Bool.and_eq_true, Bool.or_eq_true, beq_iff_eq, MCF.wf, decide_eq_true_eq] at h
    obtain ⟨⟨hpr, hch, hdata, hix, himm⟩, ho⟩ := h
    have hrange : 0x20 ≤ o.code := by rcases ho with ⟨rfl, -⟩ | rfl <;> decide
    have hstart : o = .scstart → f.data = 0 := by
      rintro rfl
      exact ho.elim (fun h => h.2) (fun h => absurd h (by decide))
    obtain ⟨hlt, -, -, -, -, hmem⟩ :=
      decodeM_word o hpr (show f.ch * 2 ^ 22 + f.data * 2 ^ 17 + f.ix * 2 ^ 12 + f.imm < 2 ^ 23 by omega)
    have hw : encodeM (.chan o f) =
        o.code * 2 ^ 26 + f.pr * 2 ^ 23 + (f.ch * 2 ^ 22 + f.data * 2 ^ 17 + f.ix * 2 ^ 12 + f.imm) := by
      simp only [encodeM, Nat.add_assoc]
    rw [hw, hmem hrange fun h => by rw [natBits]; have := hstart h; omega]
    refine ⟨hlt, ?_⟩
    simp only [natBits]
    congr 2 <;> omega

/-! C syllables. -/

theorem COp.code_range (o : COp) : 0 < o.code ∧ o.code < 64 := by cases o <;> decide

theorem opLookup_cOpR (o : COp) : opLookup cOpR o.code =
    if o.code ≤ 0x0B ∨ (0x10 ≤ o.code ∧ o.code ≤ 0x18) ∨ o = .rdlc ∨ o = .rdsys then some o else none := by
  cases o <;> decide

/-- The opcodes of the other C formats stand in no row of format CR (Table 04-5). -/
theorem opLookup_cOpR_other : opLookup cOpR 0x0C = none ∧ opLookup cOpR 0x0D = none ∧ opLookup cOpR 0x0E = none ∧
    opLookup cOpR 0x20 = none ∧ opLookup cOpR 0x22 = none ∧ opLookup cOpR 0x23 = none ∧ opLookup cOpR 0x28 = none ∧
    opLookup cOpR 0x29 = none ∧ opLookup cOpR 0x2A = none ∧ opLookup cOpR 0x2B = none ∧ opLookup cOpR 0x2F = none := by
  decide

/-- `decodeC` reads the operands of a word below its opcode and predicate in the format of the operation. -/
theorem decodeC_word (o : COp) {pr x : Nat} (hpr : pr < 8) (hx : x < 2 ^ 23) :
    (let w := o.code * 2 ^ 26 + pr * 2 ^ 23 + x
     let f : CF := ⟨pr, natBits x 18 5, natBits x 13 5, natBits x 8 5⟩
     w < 2 ^ 32 ∧
     (opLookup cOpR o.code = some o → natBits x 0 8 = 0 → cModeOk o f = true → decodeC w = .reg o f) ∧
     (o = .addi → decodeC w = .imm o ⟨pr, f.d, f.a, natBits x 0 13⟩) ∧
     (o = .lil → natBits x 16 2 = 0 → decodeC w = .imm o ⟨pr, f.d, 0, natBits x 0 16⟩) ∧
     (o = .lih → natBits x 16 2 = 0 → decodeC w = .imm o ⟨pr, f.d, 0, natBits x 0 16⟩) ∧
     (o = .br → natBits x 13 10 = 0 → decodeC w = .flow o ⟨pr, 0, natBits x 0 13⟩) ∧
     (o = .loopi → decodeC w = .flow o ⟨pr, natBits x 13 10, natBits x 0 13⟩) ∧
     (o = .loops → natBits x 18 5 = 0 → decodeC w = .flow o ⟨pr, f.a, natBits x 0 13⟩) ∧
     (o = .lapmark → pr = 0 → natBits x 8 15 = 0 → decodeC w = .lapmark (natBits x 0 8)) ∧
     (o = .fence → natBits x 2 21 = 0 → decodeC w = .fence pr (natBits x 0 2)) ∧
     (o = .owopen → pr = 0 → natBits x 0 16 ≠ 0 → decodeC w = .owopen (natBits x 16 7) (natBits x 0 16))) := by
  intro w f
  obtain ⟨hlt, hcode, hpred, hrest⟩ := natBits_format o.code_range.2 hpr hx
  have hfield (lo n : Nat) (h : lo + n ≤ 23) : natBits w lo n = natBits x lo n := hrest lo n h
  have h0 : w ≠ 0 := ne_zero_of_opcode hcode o.code_range.1
  have hc : natBits w 26 6 = o.code := hcode
  have hp : natBits w 23 3 = pr := hpred
  refine ⟨hlt, fun ho hz hm => ?_, ?_, ?_, ?_, ?_, ?_, ?_, ?_, ?_, ?_⟩
  · unfold decodeC
    simp only [h0, hc, hp, hfield, o.code_range.1.ne', ho, hz, Nat.reduceAdd, Nat.reduceLeDiff, if_false, true_and]
    exact if_pos hm
  all_goals
    rintro rfl
    unfold decodeC
    simp only [h0, hc, hp, hfield, COp.code, opLookup_cOpR_other, Nat.reduceAdd, Nat.reduceLeDiff, Nat.reduceEqDiff,
      OfNat.ofNat_ne_zero, if_true, if_false]
  · rfl
  · exact fun hz => if_pos hz
  · exact fun hz => if_pos hz
  · exact fun hz => if_pos hz
  · exact fun hz => if_pos hz
  · intro hp0 hz
    refine if_pos ?_
    have hcx : COp.code .lapmark = 0x28 := rfl
    simp only [natBits, w, hcx] at hz ⊢
    omega
  · exact fun hz => if_pos hz
  · exact fun hpr hn => if_pos ⟨hpr, hn⟩

theorem add_three (c p x y z : Nat) : c + p + x + y + z = c + p + (x + y + z) := by omega

theorem decodeC_encodeC (y : CSyl) (h : y.wf = true) : encodeC y < 2 ^ 32 ∧ decodeC (encodeC y) = y := by
  cases y with
  | nop => exact ⟨by decide, rfl⟩
  | bad c => simp [CSyl.wf] at h
  | kend => exact ⟨by decide, by decide⟩
  | fend => exact ⟨by decide, by decide⟩
  | lapmark g =>
    have hg : g < 256 := by simpa [CSyl.wf] using h
    obtain ⟨hlt, -, -, -, -, -, -, -, hlap, -⟩ := decodeC_word .lapmark (show 0 < 8 by decide) (show g < 2 ^ 23 by omega)
    have hpred (c : Nat) : c * 2 ^ 26 + g = c * 2 ^ 26 + 0 * 2 ^ 23 + g := by omega
    have hw : encodeC (.lapmark g) = COp.code .lapmark * 2 ^ 26 + 0 * 2 ^ 23 + g := hpred _
    rw [hw, hlap rfl rfl (by rw [natBits]; omega)]
    refine ⟨hlt, ?_⟩
    simp only [natBits]
    congr 1
    omega
  | reg o f =>
    simp only [CSyl.wf, Bool.and_eq_true, CF.wf, decide_eq_true_eq] at h
    obtain ⟨⟨⟨hpr, hd, ha, hb⟩, hmode⟩, ho⟩ := h
    have hop : opLookup cOpR o.code = some o := by
      rw [opLookup_cOpR, if_pos]
      simpa [or_assoc] using ho
    obtain ⟨hlt, hreg, -⟩ := decodeC_word o hpr (show f.d * 2 ^ 18 + f.a * 2 ^ 13 + f.b * 2 ^ 8 < 2 ^ 23 by omega)
    have hw : encodeC (.reg o f) = o.code * 2 ^ 26 + f.pr * 2 ^ 23 + (f.d * 2 ^ 18 + f.a * 2 ^ 13 + f.b * 2 ^ 8) :=
      add_three _ _ _ _ _
    have hf : (⟨f.pr, natBits (f.d * 2 ^ 18 + f.a * 2 ^ 13 + f.b * 2 ^ 8) 18 5,
        natBits (f.d * 2 ^ 18 + f.a * 2 ^ 13 + f.b * 2 ^ 8) 13 5,
        natBits (f.d * 2 ^ 18 + f.a * 2 ^ 13 + f.b * 2 ^ 8) 8 5⟩ : CF) = f := by
      simp only [natBits]
      congr 1 <;> omega
    rw [hf] at hreg
    rw [hw]
    exact ⟨hlt, hreg hop (by rw [natBits]; omega) hmode⟩
  | imm o f =>
    simp only [CSyl.wf, Bool.and_eq_true, Bool.or_eq_true, beq_iff_eq, decide_eq_true_eq, and_assoc] at h
    obtain ⟨hpr, hd, hform⟩ := h
    have hx : f.d * 2 ^ 18 + f.a * 2 ^ 13 + f.imm < 2 ^ 23 := by
      rcases hform with ⟨-, ha, hi⟩ | ⟨-, ha, hi⟩ <;> omega
    obtain ⟨hlt, -, haddi, hlil, hlih, -⟩ := decodeC_word o hpr hx
    have hw : encodeC (.imm o f) = o.code * 2 ^ 26 + f.pr * 2 ^ 23 + (f.d * 2 ^ 18 + f.a * 2 ^ 13 + f.imm) :=
      add_three _ _ _ _ _
    rw [hw]
    refine ⟨hlt, ?_⟩
    rcases hform with ⟨ho, ha, hi⟩ | ⟨ho | ho, ha, hi⟩
    · rw [haddi ho]
      simp only [natBits]
      congr 2 <;> omega
    · rw [hlil ho (by rw [natBits]; omega)]
      simp only [natBits]
      congr 2 <;> omega
    · rw [hlih ho (by rw [natBits]; omega)]
      simp only [natBits]
      congr 2 <;> omega
  | flow o f =>
    simp only [CSyl.wf, Bool.and_eq_true, Bool.or_eq_true, beq_iff_eq, decide_eq_true_eq, or_assoc] at h
    obtain ⟨⟨hpr, ht⟩, hform⟩ := h
    have hx : f.count * 2 ^ 13 + f.target < 2 ^ 23 := by
      rcases hform with ⟨-, hn⟩ | ⟨-, hn⟩ | ⟨-, hn⟩ <;> omega
    obtain ⟨hlt, -, -, -, -, hbr, hloopi, hloops, -⟩ := decodeC_word o hpr hx
    have hw : encodeC (.flow o f) = o.code * 2 ^ 26 + f.pr * 2 ^ 23 + (f.count * 2 ^ 13 + f.target) :=
      Nat.add_assoc _ _ _
    rw [hw]
    refine ⟨hlt, ?_⟩
    rcases hform with ⟨ho, hn⟩ | ⟨ho, hn⟩ | ⟨ho, hn⟩
    · rw [hbr ho (by rw [natBits]; omega)]
      simp only [natBits]
      congr 2 <;> omega
    · rw [hloopi ho]
      simp only [natBits]
      congr 2 <;> omega
    · rw [hloops ho (by rw [natBits]; omega)]
      simp only [natBits]
      congr 2 <;> omega
  | fence pr mask =>
    have hm : pr < 8 ∧ mask < 4 := by simpa [CSyl.wf] using h
    obtain ⟨hlt, -, -, -, -, -, -, -, -, hfence, -⟩ := decodeC_word .fence hm.1 (show mask < 2 ^ 23 by omega)
    have hw : encodeC (.fence pr mask) = COp.code .fence * 2 ^ 26 + pr * 2 ^ 23 + mask := rfl
    rw [hw, hfence rfl (by rw [natBits]; omega)]
    refine ⟨hlt, ?_⟩
    simp only [natBits]
    congr 1
    omega
  | owopen win n =>
    have hn : win < 128 ∧ 0 < n ∧ n < 2 ^ 16 := by simpa [CSyl.wf] using h
    obtain ⟨hlt, -, -, -, -, -, -, -, -, -, hopen⟩ :=
      decodeC_word .owopen (show 0 < 8 by decide) (show win * 2 ^ 16 + n < 2 ^ 23 by omega)
    have hpred (c : Nat) : c * 2 ^ 26 + win * 2 ^ 16 + n = c * 2 ^ 26 + 0 * 2 ^ 23 + (win * 2 ^ 16 + n) := by omega
    have hw : encodeC (.owopen win n) = COp.code .owopen * 2 ^ 26 + 0 * 2 ^ 23 + (win * 2 ^ 16 + n) :=
      hpred _
    rw [hw, hopen rfl rfl (by rw [natBits]; omega)]
    refine ⟨hlt, ?_⟩
    simp only [natBits]
    congr 1 <;> omega

end Sys2Proof.Machine

open Sys2Proof Sys2Proof.Machine

/-- Settles O25: each slot's word is its syllable's encoding, and each slot's decoder inverts that. -/
theorem bundlesDecodeAsEncoded : Obligations.BundlesDecodeAsEncoded := by
  unfold Obligations.BundlesDecodeAsEncoded
  intro y h
  simp only [Syls.wf, Bool.and_eq_true] at h
  obtain ⟨⟨⟨hva, hvb⟩, hm⟩, hc⟩ := h
  obtain ⟨la, da⟩ := decodeV_encodeV false y.va hva
  obtain ⟨lb, db⟩ := decodeV_encodeV true y.vb hvb
  obtain ⟨lm, dm⟩ := decodeM_encodeM y.m hm
  obtain ⟨lc, dc⟩ := decodeC_encodeC y.c hc
  obtain ⟨w0, w1, w2, w3⟩ := bundleWord_words la lb lm lc
  simp only [decodeBundle, encodeBundle, w0, w1, w2, w3, da, db, dm, dc]
end

section
/-! PROOF. Lanes (O26, R136, R143): a lane of a register put together from lanes, and what each operation places in its lanes
(Table 04-3). -/

namespace Sys2Proof.Machine

open Sys2Proof

/-! Registers from their lanes. -/

theorem packLanes_lane (w : Nat) (l : List Nat) (i : Nat) : packLanes w l / 2 ^ (w * i) % 2 ^ w = l.getD i 0 % 2 ^ w := by
  induction l generalizing i with
  | nil => simp [packLanes]
  | cons x t ih =>
    have hx : x % 2 ^ w < 2 ^ w := Nat.mod_lt _ (by positivity)
    cases i with
    | zero => simp [packLanes]
    | succ i =>
      have hpow : 2 ^ (w * (i + 1)) = 2 ^ w * 2 ^ (w * i) := by rw [← pow_add, Nat.mul_succ, Nat.add_comm]
      rw [packLanes, hpow, ← Nat.div_div_eq_div_mul, Nat.add_mul_div_left _ _ (by positivity), Nat.div_eq_of_lt hx, Nat.zero_add,
        ih, List.getD_cons_succ]

theorem laneGet_lt (h : Bool) (v i : Nat) : laneGet h v i < 2 ^ laneW h := Nat.mod_lt _ (by positivity)

/-- Lane `i` of a register whose lanes are given by `f`. -/
theorem laneGet_ofLanes (h : Bool) (f : Nat → Nat) {i : Nat} (hi : i < laneN h) :
    laneGet h (ofLanes h f) i = f i % 2 ^ laneW h := by
  rw [laneGet, ofLanes, packLanes_lane]
  simp [List.getD_eq_getElem?_getD, hi]

theorem laneGet_ofLanes_lt (h : Bool) (f : Nat → Nat) {i : Nat} (hi : i < laneN h) (hf : f i < 2 ^ laneW h) :
    laneGet h (ofLanes h f) i = f i := by
  rw [laneGet_ofLanes h f hi, Nat.mod_eq_of_lt hf]

/-- Bit `i` of predicate bits put side by side. -/
theorem testBit_packLanes (n : Nat) (f : Nat → Nat) {i : Nat} (hi : i < n) :
    (packLanes 1 ((List.range n).map f)).testBit i = (f i % 2 == 1) := by
  have h := packLanes_lane 1 ((List.range n).map f) i
  rw [Nat.one_mul, Nat.pow_one] at h
  rw [Nat.testBit_eq_decide_div_mod_eq, h]
  simp [List.getD_eq_getElem?_getD, hi]
  rfl

/-! Signed and saturated values (R144). -/

theorem natSigned_intBits {w : Nat} (hw : 0 < w) {i : Int} (hlo : -2 ^ (w - 1) ≤ i) (hhi : i < 2 ^ (w - 1)) :
    natSigned w (intBits w i) = i := by
  obtain ⟨k, rfl⟩ : ∃ k, w = k + 1 := ⟨w - 1, by omega⟩
  have hp : (2 : Int) ^ (k + 1) = 2 * 2 ^ k := by ring
  have hn : (2 : Nat) ^ (k + 1) = 2 * 2 ^ k := by ring
  have hc : ((2 ^ k : Nat) : Int) = 2 ^ k := by push_cast; rfl
  simp only [Nat.add_sub_cancel] at hlo hhi
  have hnn : 0 ≤ i % (2 ^ (k + 1) : Int) := Int.emod_nonneg _ (by positivity)
  have hlt : i % (2 ^ (k + 1) : Int) < 2 ^ (k + 1) := Int.emod_lt_of_pos _ (by positivity)
  have hm : (i % 2 ^ (k + 1)).toNat < 2 ^ (k + 1) := by omega
  simp only [natSigned, intBits, Nat.mod_eq_of_lt hm]
  by_cases h0 : 0 ≤ i
  · have he : i % 2 ^ (k + 1) = i := Int.emod_eq_of_lt h0 (by omega)
    rw [he, if_pos (by omega)]
    omega
  · have he : i % 2 ^ (k + 1) = i + 2 ^ (k + 1) := by
      rw [← Int.add_emod_right]
      exact Int.emod_eq_of_lt (by omega) (by omega)
    rw [he, if_neg (by omega)]
    omega

theorem natSigned_mod (w v : Nat) : natSigned w (v % 2 ^ w) = natSigned w v := by simp only [natSigned, Nat.mod_mod]

theorem natSigned_range (w v : Nat) (hw : 0 < w) : -2 ^ (w - 1) ≤ natSigned w v ∧ natSigned w v < 2 ^ (w - 1) := by
  obtain ⟨k, rfl⟩ : ∃ k, w = k + 1 := ⟨w - 1, by omega⟩
  have hp : (2 : Int) ^ (k + 1) = 2 * 2 ^ k := by ring
  have hn : (2 : Nat) ^ (k + 1) = 2 * 2 ^ k := by ring
  have hc : ((2 ^ k : Nat) : Int) = 2 ^ k := by push_cast; rfl
  have hm : v % 2 ^ (k + 1) < 2 ^ (k + 1) := Nat.mod_lt _ (by positivity)
  simp only [natSigned, Nat.add_sub_cancel]
  split <;> omega

theorem clampInt_range {lo hi : Int} (h : lo ≤ hi) (i : Int) : lo ≤ clampInt lo hi i ∧ clampInt lo hi i ≤ hi := by
  unfold clampInt
  split
  · omega
  · split <;> omega

/-- USAT holds a value that is not negative at the upper end of the unsigned range. -/
theorem satMode_usat (w n : Nat) : satMode 1 w (n : Int) = min n (2 ^ w - 1) := by
  have hc : ((2 ^ w : Nat) : Int) = 2 ^ w := by push_cast; rfl
  have h1 : 0 < 2 ^ w := by positivity
  simp only [satMode, if_true, clampInt]
  split
  · omega
  · split <;> omega

/-- SSAT holds a value at the ends of the signed range. -/
theorem natSigned_satMode_ssat {w : Nat} (hw : 0 < w) (i : Int) :
    natSigned w (satMode 2 w i) = clampInt (-(2 ^ (w - 1) - 1) - 1) (2 ^ (w - 1) - 1) i := by
  have hp : (0 : Int) < 2 ^ (w - 1) := by positivity
  have he : -((2 : Int) ^ (w - 1) - 1) - 1 = -2 ^ (w - 1) := by ring
  obtain ⟨hlo, hhi⟩ := clampInt_range (show -(2 : Int) ^ (w - 1) ≤ 2 ^ (w - 1) - 1 by omega) i
  rw [he]
  simp only [satMode]
  exact natSigned_intBits hw hlo (by omega)

/-! Lane operations (Table 04-3). -/

/-- The operations whose lanes stand by themselves. -/
theorem vResult_lanewise (o : VOp) (f : VF) (a b d bv : Nat) (en : Nat → Bool) {i : Nat} (hi : i < laneN f.h16)
    (ho : o ∈ [VOp.mov, .add, .sub, .minu, .mins, .maxu, .maxs, .and, .or, .xor, .andn, .shl, .shru, .shrs, .absdu, .avgu,
      .mul, .mulhu, .mulhs, .mulq, .macq, .fma, .fmul, .fadd, .fcvtu, .ucvtf, .fmin, .fmax]) :
    laneGet f.h16 (vResult o f a b d bv en) i =
      vLane o f.sm (laneW f.h16) (laneGet f.h16 a i) (if f.bs then bv % 2 ^ laneW f.h16 else laneGet f.h16 b i)
        (laneGet f.h16 d i) % 2 ^ laneW f.h16 := by
  have hr : vResult o f a b d bv en = ofLanes f.h16 fun j => vLane o f.sm (laneW f.h16) (laneGet f.h16 a j)
      (if f.bs then bv % 2 ^ laneW f.h16 else laneGet f.h16 b j) (laneGet f.h16 d j) := by
    fin_cases ho <;> rfl
  rw [hr, laneGet_ofLanes _ _ hi]

/-- A compare gives 0 or 1 in a lane. -/
theorem vLane_isCmp (o : VOp) (w a b : Nat) (h : o.isCmp = true) : vLane o 0 w a b 0 = 0 ∨ vLane o 0 w a b 0 = 1 := by
  cases o <;> simp [VOp.isCmp] at h <;> simp only [vLane] <;> split <;> simp

/-- A 16-bit lane widened with its sign reads as the same signed value (UNPKLS, UNPKHS). -/
theorem natSigned_widened (g : Nat → Nat) {i : Nat} (hi : i < laneN false) :
    natSigned 32 (laneGet false (ofLanes false fun j => intBits 32 (sgn 16 (g j))) i) = natSigned 16 (g i) := by
  obtain ⟨hlo, hhi⟩ := natSigned_range 16 (g i) (by decide)
  rw [laneGet_ofLanes false _ hi, show laneW false = 32 from rfl, natSigned_mod, sgn]
  exact natSigned_intBits (by decide) (by omega) (by omega)

/-- What each vector operation places in lane `i` (Table 04-3): the first part of O26. -/
theorem vResult_lanes (o : VOp) (f : VF) (a b d bv : Nat) (en : Nat → Bool) (i : Nat) (hi : i < laneN f.h16) :
    (let w := laneW f.h16
     let n := laneN f.h16
     let la (j : Nat) : Nat := laneGet f.h16 a j
     let lb (j : Nat) : Nat := if f.bs then bv % 2 ^ w else laneGet f.h16 b j
     let r : Nat := laneGet f.h16 (vResult o f a b d bv en) i
     (o = .sel → r = if en i then la i else lb i) ∧ (o = .perm → r = la (lb i % n)) ∧ (o = .rotl → r = la ((i + bv) % n)) ∧
     (o = .splat → r = la (bv % n)) ∧
     (o = .rsum → r = if i = 0 then ((List.range n).map fun j => if en j then la j else 0).sum % 2 ^ w else 0) ∧
     (o = .zipl → r = if i % 2 = 0 then la (i / 2) else lb (i / 2)) ∧
     (o = .ziph → r = if i % 2 = 0 then la (i / 2 + n / 2) else lb (i / 2 + n / 2)) ∧
     (o = .unpklu → f.h16 = false → r = laneGet true a i) ∧ (o = .unpkhu → f.h16 = false → r = laneGet true a (i + 16)) ∧
     (o = .unpkls → f.h16 = false → natSigned 32 r = natSigned 16 (laneGet true a i)) ∧
     (o = .unpkhs → f.h16 = false → natSigned 32 r = natSigned 16 (laneGet true a (i + 16))) ∧
     (o = .pack → f.h16 = true → f.sm = 1 →
       r = min (if i < 16 then laneGet false a i else laneGet false b (i - 16)) 65535)) := by
  intro w n la lb r
  have hla (j : Nat) : la j < 2 ^ w := laneGet_lt _ _ _
  have hlb (j : Nat) : lb j < 2 ^ w := by
    simp only [lb]
    split
    · exact Nat.mod_lt _ (by positivity)
    · exact laneGet_lt _ _ _
  have half (v j : Nat) : laneGet true v j < 2 ^ 16 := laneGet_lt true v j
  have pick (c : Prop) [Decidable c] {x y m : Nat} (hx : x < m) (hy : y < m) : (if c then x else y) < m := by
    split <;> assumption
  refine ⟨?_, ?_, ?_, ?_, ?_, ?_, ?_, ?_, ?_, ?_, ?_, ?_⟩
  · rintro rfl
    exact laneGet_ofLanes_lt f.h16 _ hi (pick _ (hla _) (hlb _))
  · rintro rfl
    exact laneGet_ofLanes_lt f.h16 _ hi (hla _)
  · rintro rfl
    exact laneGet_ofLanes_lt f.h16 _ hi (hla _)
  · rintro rfl
    exact laneGet_ofLanes_lt f.h16 _ hi (hla _)
  · rintro rfl
    exact laneGet_ofLanes_lt f.h16 _ hi (pick _ (Nat.mod_lt _ (by positivity)) (by positivity))
  · rintro rfl
    exact laneGet_ofLanes_lt f.h16 _ hi (pick _ (hla _) (hlb _))
  · rintro rfl
    exact laneGet_ofLanes_lt f.h16 _ hi (pick _ (hla _) (hlb _))
  · rintro rfl h
    simp only [r, h] at hi ⊢
    exact laneGet_ofLanes_lt false _ hi ((half _ _).trans (by decide))
  · rintro rfl h
    simp only [r, h] at hi ⊢
    exact laneGet_ofLanes_lt false _ hi ((half _ _).trans (by decide))
  · rintro rfl h
    simp only [r, h] at hi ⊢
    exact natSigned_widened _ hi
  · rintro rfl h
    simp only [r, h] at hi ⊢
    exact natSigned_widened _ hi
  · rintro rfl h hsm
    have hv : vResult .pack f a b d bv en =
        ofLanes true fun j => narrow f.sm (if j < 16 then laneGet false a j else laneGet false b (j - 16)) := rfl
    simp only [r, hv, h, hsm] at hi ⊢
    have hn (v : Nat) : narrow 1 v = min v 65535 := satMode_usat 16 v
    rw [laneGet_ofLanes_lt true _ hi, hn]
    rw [hn]
    exact lt_of_le_of_lt (min_le_right _ _) (by decide)

end Sys2Proof.Machine
end

section
/-! PROOF. Lane arithmetic as bit vectors (O26, R143 to R145): wrapping, saturation, signedness, shifts and the rounded
fixed-point product. -/

namespace Sys2Proof.Machine

open Sys2Proof

variable {w : Nat}

theorem sgn_toNat (a : BitVec w) : sgn w a.toNat = a.toInt := by
  simp only [sgn, natSigned, Nat.mod_eq_of_lt a.isLt, BitVec.toInt_eq_toNat_cond]
  push_cast
  rfl

theorem intBits_eq_ofInt (i : Int) : intBits w i = (BitVec.ofInt w i).toNat := by
  rw [BitVec.toNat_ofInt, intBits]
  push_cast
  rfl

theorem intBits_natCast (n : Nat) : intBits w (n : Int) = n % 2 ^ w := by
  have h : ((n : Int) % 2 ^ w) = ((n % 2 ^ w : Nat) : Int) := by push_cast; rfl
  rw [intBits, h, Int.toNat_natCast]

theorem intBits_sub (a b : BitVec w) : intBits w ((a.toNat : Int) - b.toNat) = (a - b).toNat := by
  have hb := b.isLt
  have hpow : ((2 ^ w : Nat) : Int) = 2 ^ w := by push_cast; rfl
  have hz : ((2 ^ w - b.toNat + a.toNat : Nat) : Int) = ((a.toNat : Int) - b.toNat) + 2 ^ w := by omega
  rw [BitVec.toNat_sub, ← intBits_natCast, hz, intBits, intBits, Int.add_emod_right]

/-- ADD, SUB and SHL under the three modes (R144). -/
theorem vLane_modes (hw : 0 < w) (a b : BitVec w) :
    (let L (o : VOp) (sm : Nat) : Nat := vLane o sm w a.toNat b.toNat 0
     let top : Int := 2 ^ (w - 1) - 1
     L .add 0 = (a + b).toNat ∧ L .sub 0 = (a - b).toNat ∧ L .shl 0 = (a <<< (b.toNat % w)).toNat ∧
     L .add 1 = min (a.toNat + b.toNat) (2 ^ w - 1) ∧ L .sub 1 = a.toNat - b.toNat ∧
     natSigned w (L .add 2) = clampInt (-top - 1) top (a.toInt + b.toInt) ∧
     natSigned w (L .sub 2) = clampInt (-top - 1) top (a.toInt - b.toInt)) := by
  have ha := a.isLt
  have hpow : ((2 ^ w : Nat) : Int) = 2 ^ w := by push_cast; rfl
  refine ⟨?_, ?_, ?_, ?_, ?_, ?_, ?_⟩
  · show intBits w ((a.toNat : Int) + b.toNat) = _
    rw [← Nat.cast_add, intBits_natCast, BitVec.toNat_add]
  · exact intBits_sub a b
  · show intBits w ((a.toNat : Int) * 2 ^ (b.toNat % w)) = _
    rw [BitVec.toNat_shiftLeft, Nat.shiftLeft_eq, ← intBits_natCast]
    push_cast
    rfl
  · exact satMode_usat w (a.toNat + b.toNat)
  · show satMode 1 w ((a.toNat : Int) - b.toNat) = _
    simp only [satMode, if_true, clampInt]
    split
    · omega
    · rw [if_neg (by omega)]
      omega
  · show natSigned w (satMode 2 w (sgn w a.toNat + sgn w b.toNat)) = _
    rw [natSigned_satMode_ssat hw, sgn_toNat, sgn_toNat]
  · show natSigned w (satMode 2 w (sgn w a.toNat - sgn w b.toNat)) = _
    rw [natSigned_satMode_ssat hw, sgn_toNat, sgn_toNat]

/-- Smallest and largest, logic, shifts, differences and averages (R143). -/
theorem vLane_bitwise (a b : BitVec w) :
    (let L (o : VOp) : Nat := vLane o 0 w a.toNat b.toNat 0
     L .minu = min a.toNat b.toNat ∧ L .maxu = max a.toNat b.toNat ∧
     L .mins = (if a.sle b then a else b).toNat ∧ L .maxs = (if a.sle b then b else a).toNat ∧
     L .and = (a &&& b).toNat ∧ L .or = (a ||| b).toNat ∧ L .xor = (a ^^^ b).toNat ∧
     L .andn = (a &&& ~~~b).toNat ∧ L .shru = (a >>> (b.toNat % w)).toNat ∧
     L .shrs = (a.sshiftRight (b.toNat % w)).toNat ∧ L .absdu = max a.toNat b.toNat - min a.toNat b.toNat ∧
     L .avgu = (a.toNat + b.toNat + 1) / 2) := by
  have hs (c : BitVec w) : sgn w c.toNat = c.toInt := sgn_toNat c
  refine ⟨rfl, rfl, ?_, ?_, ?_, ?_, ?_, ?_, ?_, ?_, ?_, rfl⟩
  · simp only [vLane, hs, BitVec.sle, decide_eq_true_eq]
    split <;> rfl
  · simp only [vLane, hs, BitVec.sle, decide_eq_true_eq]
    split <;> rfl
  · exact (BitVec.toNat_and a b).symm
  · exact (BitVec.toNat_or a b).symm
  · exact (BitVec.toNat_xor a b).symm
  · rw [BitVec.toNat_and, BitVec.toNat_not]
    rfl
  · rw [BitVec.toNat_ushiftRight, Nat.shiftRight_eq_div_pow]
    rfl
  · simp only [vLane, hs]
    rw [BitVec.sshiftRight, Int.shiftRight_eq_div_pow, intBits_eq_ofInt]
    push_cast
    rfl
  · simp only [vLane]
    split <;> omega

/-- Products (R143) and compares (R147). -/
theorem vLane_products (a b : BitVec w) :
    (let L (o : VOp) : Nat := vLane o 0 w a.toNat b.toNat 0
     L .mul = (a * b).toNat ∧ L .mulhu = a.toNat * b.toNat / 2 ^ w ∧
     L .mulhs = (BitVec.ofInt w (a.toInt * b.toInt / 2 ^ w)).toNat ∧
     L .cmplts = (if a.slt b then 1 else 0) ∧ L .cmples = (if a.sle b then 1 else 0) ∧
     L .cmpltu = (if a.ult b then 1 else 0) ∧ L .cmpleu = (if a.ule b then 1 else 0)) := by
  have hs (c : BitVec w) : sgn w c.toNat = c.toInt := sgn_toNat c
  refine ⟨(BitVec.toNat_mul a b).symm, rfl, ?_, ?_, ?_, ?_, ?_⟩
  · simp only [vLane, hs, intBits_eq_ofInt]
  · simp only [vLane, hs, BitVec.slt, decide_eq_true_eq]
  · simp only [vLane, hs, BitVec.sle, decide_eq_true_eq]
  · simp only [vLane, BitVec.ult, decide_eq_true_eq]
  · simp only [vLane, BitVec.ule, decide_eq_true_eq]

/-- The rounded product of MULQ and MACQ (R145) of operands read as signed, and as unsigned under USAT. -/
theorem fixMul_toNat (a b : BitVec w) (sm : Nat) :
    (let f := if w = 16 then 15 else 16
     fixMul sm w a.toNat b.toNat =
       if sm = 1 then (((a.toNat * b.toNat + 2 ^ (f - 1)) / 2 ^ f : Nat) : Int) else (a.toInt * b.toInt + 2 ^ (f - 1)) / 2 ^ f) := by
  intro f
  simp only [fixMul, sgn_toNat]
  split
  · push_cast
    rfl
  · rfl

/-- MULQ and MACQ under the three modes (R145). -/
theorem vLane_fixed (hw : 0 < w) (a b d : BitVec w) :
    (let L (o : VOp) (sm : Nat) : Nat := vLane o sm w a.toNat b.toNat d.toNat
     let top : Int := 2 ^ (w - 1) - 1
     let f := if w = 16 then 15 else 16
     L .mulq 1 = min ((a.toNat * b.toNat + 2 ^ (f - 1)) / 2 ^ f) (2 ^ w - 1) ∧
     natSigned w (L .mulq 2) = clampInt (-top - 1) top ((a.toInt * b.toInt + 2 ^ (f - 1)) / 2 ^ f) ∧
     L .macq 0 = (BitVec.ofInt w (d.toInt + (a.toInt * b.toInt + 2 ^ (f - 1)) / 2 ^ f)).toNat ∧
     L .macq 1 = min (d.toNat + (a.toNat * b.toNat + 2 ^ (f - 1)) / 2 ^ f) (2 ^ w - 1) ∧
     natSigned w (L .macq 2) = clampInt (-top - 1) top (d.toInt + (a.toInt * b.toInt + 2 ^ (f - 1)) / 2 ^ f)) := by
  intro L top f
  have hfix (sm : Nat) := fixMul_toNat a b sm
  refine ⟨?_, ?_, ?_, ?_, ?_⟩
  · show satMode 1 w (fixMul 1 w a.toNat b.toNat) = _
    rw [hfix 1, if_pos rfl, satMode_usat]
  · show natSigned w (satMode 2 w (fixMul 2 w a.toNat b.toNat)) = _
    rw [hfix 2, if_neg (by decide), natSigned_satMode_ssat hw]
  · show intBits w (sgn w d.toNat + fixMul 0 w a.toNat b.toNat) = _
    rw [hfix 0, if_neg (by decide), sgn_toNat, intBits_eq_ofInt]
  · show satMode 1 w ((d.toNat : Int) + fixMul 1 w a.toNat b.toNat) = _
    rw [hfix 1, if_pos rfl, ← Nat.cast_add, satMode_usat]
  · show natSigned w (satMode 2 w (sgn w d.toNat + fixMul 2 w a.toNat b.toNat)) = _
    rw [hfix 2, if_neg (by decide), sgn_toNat, natSigned_satMode_ssat hw]

end Sys2Proof.Machine
end

section
/-! PROOF. binary16 (O26, R146): rounding gives back the patterns of finite values, and what follows for FADD, FMUL, FMIN, FMAX
and the conversions. -/

namespace Sys2Proof.Machine

open Sys2Proof

/-! Patterns and their values. -/

/-- The sign bit of a pattern in its place. -/
def f16Sign (neg : Bool) : Nat := if neg then 0x8000 else 0

theorem f16_parts {v : Nat} (h : v < 2 ^ 16) : v = f16Sign (v.testBit 15) + natBits v 10 5 * 1024 + natBits v 0 10 := by
  rw [Nat.testBit_eq_decide_div_mod_eq]
  simp only [f16Sign, natBits, decide_eq_true_eq]
  split <;> omega

theorem rne_exact (q : Nat) {d : Nat} (hd : 0 < d) : rne (q * d) d = q := by
  have hr : q * d % d = 0 := Nat.mul_mod_left q d
  have hq : q * d / d = q := Nat.mul_div_cancel q hd
  simp [rne, hr, hq, hd]

/-- A value of eleven significant bits is its own rounding. -/
theorem f16Round_normal (neg : Bool) {k j : Nat} (hk : 1024 ≤ k) (hk' : k < 2048) (hj : 24 ≤ j) (hj' : j ≤ 53) :
    f16Round neg (k * 2 ^ j) = f16Sign neg + (j - 23) * 1024 + (k - 1024) := by
  have h1 : 2 ^ (j + 10) = 1024 * 2 ^ j := by rw [pow_add]; ring
  have h2 : 2 ^ (j + 10 + 1) = 2048 * 2 ^ j := by rw [pow_add, pow_add]; ring
  have hpos : 0 < 2 ^ j := by positivity
  have hlog : Nat.log2 (k * 2 ^ j) = j + 10 := by
    rw [Nat.log2_eq_iff (by positivity), h1, h2]
    exact ⟨Nat.mul_le_mul_right _ hk, Nat.mul_lt_mul_of_pos_right hk' hpos⟩
  have hbig : ¬ k * 2 ^ j < 2 ^ 34 := by
    have : 2 ^ 24 ≤ 2 ^ j := Nat.pow_le_pow_right (by decide) hj
    have : 1024 * 2 ^ 24 ≤ k * 2 ^ j := Nat.mul_le_mul hk this
    omega
  have hrne : rne (k * 2 ^ j) (2 ^ (j + 10 - 10)) = k := by
    rw [Nat.add_sub_cancel]
    exact rne_exact k hpos
  simp only [f16Round, hbig, if_false, hlog, hrne, f16Sign]
  rw [if_neg (by omega)]
  omega

theorem f16Round_small (neg : Bool) {k : Nat} (hk : k < 1024) : f16Round neg (k * 2 ^ 24) = f16Sign neg + k := by
  simp only [f16Round, rne_exact k (show 0 < 2 ^ 24 by decide)]
  rw [if_pos (by omega)]
  rfl

/-- Rounding the value of a finite pattern gives the pattern. -/
theorem f16Round_f16Of {v : Nat} (hv : v < 2 ^ 16) {n : Bool} {k : Nat} (h : f16Of v = .fin n k) : f16Round n k = v := by
  have hparts := f16_parts hv
  have hm : natBits v 0 10 < 1024 := natBits_lt v 0 10
  have he : natBits v 10 5 < 32 := natBits_lt v 10 5
  simp only [f16Of] at h
  generalize v.testBit 15 = s at *
  generalize natBits v 0 10 = m at *
  generalize natBits v 10 5 = e at *
  split at h
  · split at h <;> cases h
  split at h <;> cases h
  · rw [f16Round_small n hm]
    omega
  · have hmag : (1024 + m) * 2 ^ (e - 1) * 2 ^ 24 = (1024 + m) * 2 ^ (e + 23) := by
      rw [mul_assoc, ← pow_add]
      congr 2
      omega
    rw [hmag, f16Round_normal n (k := 1024 + m) (j := e + 23) (by omega) (by omega) (by omega) (by omega)]
    omega

/-- A finite value is a multiple of 2^-24 (R146). -/
theorem f16Of_fin_dvd {v : Nat} {n : Bool} {k : Nat} (h : f16Of v = .fin n k) : k / 2 ^ 24 * 2 ^ 24 = k := by
  simp only [f16Of] at h
  split at h
  · split at h <;> cases h
  split at h <;> cases h <;> rw [Nat.mul_div_cancel _ (by decide)]

theorem f16Of_inf {v : Nat} (hv : v < 2 ^ 16) {n : Bool} (h : f16Of v = .inf n) : v = f16Sign n + 0x7C00 := by
  have hparts := f16_parts hv
  simp only [f16Of] at h
  split at h
  next he =>
    split at h <;> cases h
    omega
  next => split at h <;> cases h

theorem f16Of_eq_nan (v : Nat) : f16Of v = .nan ↔ natBits v 10 5 = 31 ∧ natBits v 0 10 ≠ 0 := by
  simp only [f16Of]
  split
  next he => split <;> simp [*]
  next he => split <;> simp [*]

/-! Sums and products (R146). -/

theorem f16Prod_comm (a b : Nat) : f16Prod a b = f16Prod b a := Nat.mul_comm _ _

theorem f16Mul_comm (a b : Nat) : f16Mul a b = f16Mul b a := by
  unfold f16Mul
  cases f16Of a <;> cases f16Of b <;> simp only [bne_comm, f16Prod_comm]

theorem f16Add_comm (a b : Nat) : f16Add a b = f16Add b a := by
  unfold f16Add
  cases f16Of a <;> cases f16Of b <;> simp only [Bool.and_comm, Int.add_comm]
  next x y => cases x <;> cases y <;> rfl

theorem f16Of_one : f16Of 0x3C00 = .fin false (2 ^ 48) := by decide

theorem f16Of_negZero : f16Of 0x8000 = .fin true 0 := by decide

/-- The sign of a finite value that is zero or not, read from its signed magnitude. -/
theorem f16Round_signedMag (n : Bool) {k : Nat} (hk : k ≠ 0) :
    f16Round (decide (signedMag n k < 0)) (signedMag n k).natAbs = f16Round n k := by
  cases n
  · simp [signedMag, show ¬ (k : Int) < 0 by omega]
  · simp [signedMag, Nat.pos_of_ne_zero hk]

/-- Multiplying by 1 gives the operand back. -/
theorem f16Mul_one {a : Nat} (ha : a < 2 ^ 16) (hn : f16Of a ≠ .nan) : f16Mul a 0x3C00 = a := by
  unfold f16Mul
  rw [f16Of_one]
  cases h : f16Of a with
  | nan => exact absurd h hn
  | inf n =>
    have := f16Of_inf ha h
    cases n <;> simp [f16Sign] at this ⊢ <;> omega
  | fin n k =>
    have hk : f16Prod k (2 ^ 48) = k := f16Of_fin_dvd h
    simp only [Bool.bne_false, hk]
    exact f16Round_f16Of ha h

/-- Adding −0 gives the operand back. -/
theorem f16Add_negZero {a : Nat} (ha : a < 2 ^ 16) (hn : f16Of a ≠ .nan) : f16Add a 0x8000 = a := by
  unfold f16Add
  rw [f16Of_negZero]
  cases h : f16Of a with
  | nan => exact absurd h hn
  | inf n =>
    have := f16Of_inf ha h
    cases n <;> simp [f16Sign] at this ⊢ <;> omega
  | fin n k =>
    have hr := f16Round_f16Of ha h
    have hz : signedMag n k + signedMag true 0 = signedMag n k := by simp [signedMag]
    simp only [Bool.and_true, hz, f16Sum]
    by_cases hk : k = 0
    · subst hk
      rw [← hr]
      cases n <;> decide
    · rw [if_neg (by cases n <;> simp [signedMag, hk]), f16Round_signedMag n hk, hr]

/-- An operand that is NaN makes the result NaN, but of FMIN and FMAX the other operand, and of FCVTU 0. -/
theorem f16_of_nan {a b : Nat} (ha : f16Of a = .nan) :
    f16Mul a b = 0x7E00 ∧ f16Add a b = 0x7E00 ∧ (∀ d, f16Fma d a b = 0x7E00) ∧
      (f16Of b ≠ .nan → f16Min a b = b ∧ f16Max a b = b) ∧ f16ToU a = 0 := by
  refine ⟨by simp [f16Mul, ha, f16Nan], by simp [f16Add, ha, f16Nan], fun d => by simp [f16Fma, ha, f16Nan], fun hb => ?_,
    by simp [f16ToU, ha]⟩
  cases h : f16Of b with
  | nan => exact absurd h hb
  | inf n => simp [f16Min, f16Max, ha, h]
  | fin n k => simp [f16Min, f16Max, ha, h]

/-! Conversions of small integers (R146). -/

/-- A number below 2,048 is eleven bits at its place. -/
theorem small_significand {a : Nat} (h0 : 0 < a) (h : a < 2048) :
    ∃ l k, l ≤ 10 ∧ 1024 ≤ k ∧ k < 2048 ∧ a * 2 ^ (10 - l) = k := by
  have hl := Nat.log2_self_le h0.ne'
  have hu := Nat.lt_log2_self (n := a)
  have hle : a.log2 ≤ 10 := Nat.lt_succ_iff.1 ((Nat.log2_lt h0.ne').2 h)
  refine ⟨a.log2, _, hle, ?_, ?_, rfl⟩
  · calc 1024 = 2 ^ a.log2 * 2 ^ (10 - a.log2) := by rw [← pow_add, Nat.add_sub_cancel' hle]; rfl
      _ ≤ a * 2 ^ (10 - a.log2) := Nat.mul_le_mul_right _ hl
  · calc a * 2 ^ (10 - a.log2) < 2 ^ (a.log2 + 1) * 2 ^ (10 - a.log2) := Nat.mul_lt_mul_of_pos_right hu (by positivity)
      _ = 2 ^ 11 := by
        rw [← pow_add]
        congr 1
        omega

/-- The pattern of a value of eleven significant bits. -/
theorem f16Of_normal {k e : Nat} (hk : 1024 ≤ k) (hk' : k < 2048) (he : 0 < e) (he' : e < 31) :
    f16Of (e * 1024 + (k - 1024)) = .fin false (k * 2 ^ (e + 23)) := by
  have hexp : natBits (e * 1024 + (k - 1024)) 10 5 = e := by rw [natBits]; omega
  have hfrac : natBits (e * 1024 + (k - 1024)) 0 10 = k - 1024 := by rw [natBits]; omega
  have hneg : (e * 1024 + (k - 1024)).testBit 15 = false := Nat.testBit_lt_two_pow (by omega)
  have hmag : (1024 + (k - 1024)) * 2 ^ (e - 1) * 2 ^ 24 = k * 2 ^ (e + 23) := by
    rw [mul_assoc, ← pow_add, Nat.add_sub_cancel' hk, show e - 1 + 24 = e + 23 by omega]
  simp only [f16Of, hexp, hfrac, hneg, hmag]
  rw [if_neg (by omega), if_neg (by omega)]

/-- UCVTF followed by FCVTU gives back what binary16 holds exactly. -/
theorem f16ToU_uToF16 {a : Nat} (h : a ≤ 2048) : f16ToU (uToF16 a) = a := by
  obtain rfl | h0 := Nat.eq_zero_or_pos a
  · decide
  obtain rfl | hlt := Nat.eq_or_lt_of_le h
  · decide
  obtain ⟨l, k, hl, hk, hk', hak⟩ := small_significand h0 hlt
  have hmag : a * 2 ^ 48 = k * 2 ^ (l + 38) := by
    rw [← hak, mul_assoc, ← pow_add]
    congr 2
    omega
  have hround : uToF16 a = (l + 15) * 1024 + (k - 1024) := by
    simp only [uToF16, hmag]
    rw [f16Round_normal false hk hk' (by omega) (by omega), f16Sign, if_neg (show ¬ false = true by decide), if_neg (by omega)]
    omega
  rw [hround, f16ToU, f16Of_normal hk hk' (by omega) (by omega)]
  have hval : rne (k * 2 ^ (l + 15 + 23)) (2 ^ 48) = a := by
    rw [show l + 15 + 23 = l + 38 by omega, ← hmag]
    exact rne_exact a (by decide)
  simp only [hval, Bool.false_eq_true, if_false]
  omega

end Sys2Proof.Machine

open Sys2Proof Sys2Proof.Machine

/-- Settles O26: lanes by `laneGet_ofLanes`, lane arithmetic as bit vectors, and binary16 by rounding back its own values. -/
theorem vectorResultsByLane : Obligations.VectorResultsByLane := by
  unfold Obligations.VectorResultsByLane
  refine ⟨fun o f a b d bv en i hi => ?_, fun w a b d hw => ?_, fun a b ha hb => ?_, by decide, by decide, by decide, by decide⟩
  · obtain ⟨hsel, hperm, hrotl, hsplat, hrsum, hzipl, hziph, hulu, huhu, huls, huhs, hpack⟩ := vResult_lanes o f a b d bv en i hi
    refine ⟨vResult_lanewise o f a b d bv en hi, hsel, hperm, hrotl, hsplat, hrsum, hzipl, hziph, hulu, huhu, huls, huhs, hpack,
      fun hc => ?_⟩
    rw [vCmpBits, testBit_packLanes _ _ hi]
    obtain h | h := vLane_isCmp o (laneW f.h16) (laneGet f.h16 a i) (if f.bs then bv % 2 ^ laneW f.h16 else laneGet f.h16 b i) hc <;>
      rw [h]
  · have hpos : 0 < w := by omega
    obtain ⟨hadd, hsub, hshl, hadd1, hsub1, hadd2, hsub2⟩ := vLane_modes hpos a b
    obtain ⟨hminu, hmaxu, hmins, hmaxs, hand, hor, hxor, handn, hshru, hshrs, habs, havg⟩ := vLane_bitwise a b
    obtain ⟨hmul, hmulhu, hmulhs, hlts, hles, hltu, hleu⟩ := vLane_products a b
    obtain ⟨hq1, hq2, hc0, hc1, hc2⟩ := vLane_fixed hpos a b d
    exact ⟨hadd, hsub, hshl, hadd1, hsub1, hadd2, hsub2, hminu, hmaxu, hmins, hmaxs, hand, hor, hxor, handn, hshru, hshrs, habs,
      havg, hmul, hmulhu, hmulhs, hq1, hq2, hc0, hc1, hc2, hlts, hles, hltu, hleu⟩
  · intro nan
    have hnan (v : Nat) : nan v ↔ f16Of v = .nan := (f16Of_eq_nan v).symm
    simp only [hnan]
    exact ⟨f16Add_comm a b, f16Mul_comm a b, fun h => ⟨f16Mul_one ha h, f16Add_negZero ha h⟩, f16_of_nan, f16ToU_uToF16⟩
end

section
/-! PROOF. Stores of a bundle (O28, R148 to R151): what a write of good words leaves in every bit of every bank. -/

namespace Sys2Proof.Machine

open Sys2Proof

/-! Words of the banks. -/

theorem bankWord_putWord (s : State) (b off c o : Nat) (v : DWord) :
    (s.putWord b off v).bankWord c o = if bankKey c o = bankKey b off then v else s.bankWord c o :=
  mapGet_set bankDefault s.bankMem _ _ _

@[simp] theorem bankErrAt_putWord (s : State) (b off c o : Nat) (v : DWord) :
    (s.putWord b off v).bankErrAt c o = s.bankErrAt c o := rfl

@[simp] theorem bankWord_putErr (s : State) (b off e c o : Nat) : (s.putErr b off e).bankWord c o = s.bankWord c o := rfl

theorem bankErrAt_putErr (s : State) (b off e c o : Nat) :
    (s.putErr b off e).bankErrAt c o = if bankKey c o = bankKey b off then e else s.bankErrAt c o :=
  mapGet_set (fun _ => 0) s.bankErr _ _ _

/-- Words at one place have one content and one check state. -/
theorem bankWord_congr (s : State) {b off c o : Nat} (h : bankKey b off = bankKey c o) : s.bankWord b off = s.bankWord c o := by
  rw [State.bankWord, h, State.bankWord]

theorem bankErrAt_congr (s : State) {b off c o : Nat} (h : bankKey b off = bankKey c o) :
    s.bankErrAt b off = s.bankErrAt c o := by
  rw [State.bankErrAt, h, State.bankErrAt]

/-- Nothing but the content of bank words differs between `s` and `t`, and no check state reads otherwise. -/
def WordsOnly (s t : State) : Prop :=
  t = { s with bankMem := t.bankMem, bankErr := t.bankErr } ∧ ∀ b off, t.bankErrAt b off = s.bankErrAt b off

theorem WordsOnly.refl (s : State) : WordsOnly s s := ⟨rfl, fun _ _ => rfl⟩

theorem WordsOnly.trans {s t u : State} (h : WordsOnly s t) (g : WordsOnly t u) : WordsOnly s u := by
  obtain ⟨ht, hte⟩ := h
  obtain ⟨hu, hue⟩ := g
  exact ⟨by rw [hu, ht], fun b off => (hue b off).trans (hte b off)⟩

/-! One word (R212, R213). -/

/-- The bit a write with mask bit `m` and data bit `v` leaves: stored by kind 1, set by kind 2, cleared by kind 3. -/
def storedBit (kind : Nat) (m v old : Bool) : Bool :=
  if m then (if kind = 1 then v else if kind = 2 then old || v else old && !v) else old

/-- One word of an access as `State.storeWords` stores it. -/
def State.storeWord (s : State) (bank kind : Nat) (w : Nat × Nat × Nat) : State :=
  if kind = 1 then s.writeWord bank w.1 (BitVec.ofNat 64 w.2.1) (BitVec.ofNat 64 w.2.2) 0
  else s.rmwWord bank w.1 (BitVec.ofNat 64 w.2.1) (BitVec.ofNat 64 w.2.2) (kind == 3) 0

theorem storeWords_eq (s : State) (a : MAcc) : s.storeWords a = a.words.foldl (fun t w => t.storeWord a.bank a.kind w) s := rfl

theorem writeWord_good {s : State} {b off : Nat} (he : s.bankErrAt b off = 0) (m v : DWord) (cls : Nat) :
    WordsOnly s (s.writeWord b off m v cls) ∧ ∀ c o,
      (s.writeWord b off m v cls).bankWord c o =
        if bankKey c o = bankKey b off then (s.bankWord b off &&& ~~~m) ||| (v &&& m) else s.bankWord c o := by
  unfold State.writeWord
  split
  next hm =>
    refine ⟨WordsOnly.refl s, fun c o => ?_⟩
    split
    next hk =>
      have hm : m = 0#64 := hm
      have hnot : ~~~0#64 = BitVec.allOnes 64 := by decide
      rw [hm, hnot, BitVec.and_allOnes, BitVec.and_zero, BitVec.or_zero, bankWord_congr s hk]
    next => rfl
  next =>
    split
    next hm =>
      refine ⟨⟨rfl, fun c o => ?_⟩, fun c o => ?_⟩
      · rw [bankErrAt_putErr, bankErrAt_putWord]
        split
        next hk => rw [bankErrAt_congr s hk, he]
        next => rfl
      · have hnot : ~~~BitVec.allOnes 64 = 0#64 := by decide
        rw [bankWord_putErr, bankWord_putWord, hm, hnot, BitVec.and_zero, BitVec.zero_or, BitVec.and_allOnes]
    next =>
      simp only [he, OfNat.zero_ne_ofNat, if_false]
      exact ⟨⟨rfl, fun c o => rfl⟩, fun c o => bankWord_putWord s _ _ _ _ _⟩

theorem rmwWord_good {s : State} {b off : Nat} (he : s.bankErrAt b off = 0) (m v : DWord) (clear : Bool) (cls : Nat) :
    WordsOnly s (s.rmwWord b off m v clear cls) ∧ ∀ c o,
      (s.rmwWord b off m v clear cls).bankWord c o =
        if bankKey c o = bankKey b off then
          (if clear then s.bankWord b off &&& ~~~(v &&& m) else s.bankWord b off ||| (v &&& m)) else s.bankWord c o := by
  unfold State.rmwWord
  simp only [he, OfNat.zero_ne_ofNat, if_false, zero_ne_one]
  exact ⟨⟨rfl, fun c o => rfl⟩, fun c o => bankWord_putWord s _ _ _ _ _⟩

/-- A word stored where the word was good: the enabled bits take the data by the access's kind, all else is as before. -/
theorem storeWord_good {s : State} {bank kind : Nat} (hkind : kind = 1 ∨ kind = 2 ∨ kind = 3) {w : Nat × Nat × Nat}
    (he : s.bankErrAt bank w.1 = 0) :
    WordsOnly s (s.storeWord bank kind w) ∧ ∀ c o k, k < 64 →
      ((s.storeWord bank kind w).bankWord c o).getLsbD k =
        if bankKey c o = bankKey bank w.1 then
          storedBit kind (w.2.1.testBit k) (w.2.2.testBit k) ((s.bankWord bank w.1).getLsbD k)
        else (s.bankWord c o).getLsbD k := by
  unfold State.storeWord
  split
  next h1 =>
    obtain ⟨honly, hword⟩ := writeWord_good he (BitVec.ofNat 64 w.2.1) (BitVec.ofNat 64 w.2.2) 0
    refine ⟨honly, fun c o k hk => ?_⟩
    rw [hword]
    split
    · simp only [storedBit, h1, if_true, BitVec.getLsbD_or, BitVec.getLsbD_and, BitVec.getLsbD_not, BitVec.getLsbD_ofNat, hk,
        decide_true, Bool.true_and]
      cases w.2.1.testBit k <;> simp
    · rfl
  next h1 =>
    obtain ⟨honly, hword⟩ := rmwWord_good he (BitVec.ofNat 64 w.2.1) (BitVec.ofNat 64 w.2.2) (kind == 3) 0
    refine ⟨honly, fun c o k hk => ?_⟩
    rw [hword]
    split
    · obtain rfl | rfl := hkind.resolve_left h1
      · simp only [storedBit, Nat.reduceBEq, Bool.false_eq_true, if_false, BitVec.getLsbD_or, BitVec.getLsbD_and,
          BitVec.getLsbD_ofNat, hk, decide_true, Bool.true_and]
        cases w.2.1.testBit k <;> simp
      · simp only [storedBit, BEq.rfl, if_true, BitVec.getLsbD_and, BitVec.getLsbD_not, BitVec.getLsbD_ofNat, hk,
          decide_true, Bool.true_and]
        cases w.2.1.testBit k <;> simp
    · rfl

/-! All words of an access. -/

/-- Two words of an access enable no bit of one place both. -/
def wordsApart (bank : Nat) (w u : Nat × Nat × Nat) : Prop :=
  bankKey bank w.1 = bankKey bank u.1 → ∀ k, w.2.1.testBit k = true → u.2.1.testBit k = false

section

variable {bank kind : Nat} (hkind : kind = 1 ∨ kind = 2 ∨ kind = 3)
include hkind

theorem wordsOnly_storeFold (ws : List (Nat × Nat × Nat)) {s : State} (he : ∀ w ∈ ws, s.bankErrAt bank w.1 = 0) :
    WordsOnly s (ws.foldl (fun t w => t.storeWord bank kind w) s) := by
  induction ws generalizing s with
  | nil => exact WordsOnly.refl s
  | cons w ws ih =>
    obtain ⟨honly, -⟩ := storeWord_good hkind (he w (by simp))
    exact honly.trans (ih fun u hu => (honly.2 _ _).trans (he u (by simp [hu])))

/-- A bit that no word of the access enables is as before. -/
theorem bankWord_storeFold_other (ws : List (Nat × Nat × Nat)) {s : State} (he : ∀ w ∈ ws, s.bankErrAt bank w.1 = 0)
    {c o k : Nat} (hk : k < 64) (hother : ∀ w ∈ ws, bankKey c o = bankKey bank w.1 → w.2.1.testBit k = false) :
    ((ws.foldl (fun t w => t.storeWord bank kind w) s).bankWord c o).getLsbD k = (s.bankWord c o).getLsbD k := by
  induction ws generalizing s with
  | nil => rfl
  | cons w ws ih =>
    obtain ⟨honly, hbit⟩ := storeWord_good hkind (he w (by simp))
    rw [List.foldl_cons, ih (fun u hu => (honly.2 _ _).trans (he u (by simp [hu]))) fun u hu => hother u (by simp [hu]),
      hbit c o k hk]
    split
    next hkey => simp [storedBit, hother w (by simp) hkey, bankWord_congr s hkey]
    next => rfl

/-- A bit that a word of the access enables takes the data by the access's kind. -/
theorem bankWord_storeFold_enabled (ws : List (Nat × Nat × Nat)) (hapart : ws.Pairwise (wordsApart bank)) {s : State}
    (he : ∀ w ∈ ws, s.bankErrAt bank w.1 = 0) {w : Nat × Nat × Nat} (hw : w ∈ ws) {k : Nat} (hk : k < 64)
    (hm : w.2.1.testBit k = true) :
    ((ws.foldl (fun t w => t.storeWord bank kind w) s).bankWord bank w.1).getLsbD k =
      storedBit kind true (w.2.2.testBit k) ((s.bankWord bank w.1).getLsbD k) := by
  induction ws generalizing s with
  | nil => simp at hw
  | cons u ws ih =>
    obtain ⟨hhead, htail⟩ := List.pairwise_cons.1 hapart
    obtain ⟨honly, hbit⟩ := storeWord_good hkind (he u (by simp))
    have he' : ∀ v ∈ ws, (s.storeWord bank kind u).bankErrAt bank v.1 = 0 := fun v hv =>
      (honly.2 _ _).trans (he v (by simp [hv]))
    rw [List.foldl_cons]
    obtain rfl | hw := List.mem_cons.1 hw
    · rw [bankWord_storeFold_other hkind ws he' hk fun v hv hkey => hhead v hv hkey k hm, hbit _ _ k hk, if_pos rfl, hm]
    · rw [ih htail he' hw, hbit _ _ k hk]
      congr 1
      split
      next hkey =>
        have hu : u.2.1.testBit k = false := by
          by_contra hu
          rw [hhead w hw hkey.symm k (by simpa using hu)] at hm
          exact absurd hm (by decide)
        simp [storedBit, hu, bankWord_congr s hkey]
      next => rfl

end

end Sys2Proof.Machine
end

section
/-! PROOF. The words of an access (R148 to R151): a bundle's access enables no bit twice, and what its loads put in flight. -/

namespace Sys2Proof.Machine

open Sys2Proof

/-- Bits of a 32-bit half of a word. -/
theorem testBit_half {sh k : Nat} : ((2 ^ 32 - 1) * 2 ^ sh).testBit k = (decide (sh ≤ k) && decide (k - sh < 32)) := by
  rw [Nat.testBit_mul_two_pow, Nat.testBit_two_pow_sub_one]

/-- The words of any access lie apart: those of a row are different words, and lanes that meet in one word of XST are its
two halves. -/
theorem wordsApart_mAccess {x : EngS} {m : MSyl} {a : MAcc} (h : mAccess x m = some a) :
    a.words.Pairwise (wordsApart a.bank) := by
  cases m with
  | mem o f =>
    simp only [mAccess] at h
    split at h
    · split at h <;> cases h
      refine List.Pairwise.filter _ (List.pairwise_map.2 ?_)
      refine List.Pairwise.imp_of_mem (fun {i j} hi hj hij hkey => ?_) List.pairwise_lt_range
      simp only [List.mem_range, bankKey] at hi hj hkey
      omega
    · split at h <;> cases h
      exact List.pairwise_singleton _ _
  | idx o f =>
    simp only [mAccess] at h
    split at h <;> cases h
    refine List.pairwise_map.2 (List.Pairwise.imp_of_mem (fun {i j} hi hj hij hkey k hk => ?_)
      (List.Pairwise.filter _ List.pairwise_lt_range))
    simp only [List.mem_filter, List.mem_range, bankKey] at hi hj hkey
    simp only [testBit_half, Bool.and_eq_true, decide_eq_true_eq] at hk ⊢
    have hpar : i % 2 = 0 ∧ j % 2 ≠ 0 := by omega
    rw [if_pos hpar.1] at hk
    rw [if_neg hpar.2]
    simp only [Bool.and_eq_false_iff, decide_eq_false_iff_not]
    omega
  | nop => cases h
  | lane o f => cases h
  | chan o f => cases h
  | bad c => cases h

/-- The kind of an access is one of the four of R148 to R151. -/
theorem kind_mAccess {x : EngS} {m : MSyl} {a : MAcc} (h : mAccess x m = some a) (h0 : a.kind ≠ 0) :
    a.kind = 1 ∨ a.kind = 2 ∨ a.kind = 3 := by
  have hop (o : MOp) : o.kind = 0 ∨ o.kind = 1 ∨ o.kind = 2 ∨ o.kind = 3 := by cases o <;> decide
  cases m with
  | mem o f =>
    simp only [mAccess] at h
    split at h <;> split at h <;> cases h <;> exact (hop o).resolve_left h0
  | idx o f =>
    simp only [mAccess] at h
    split at h <;> cases h
    exact (hop o).resolve_left h0
  | nop => cases h
  | lane o f => cases h
  | chan o f => cases h
  | bad c => cases h

/-! Loads. -/

/-- The words a bundle's access loads. -/
def State.readBy (s : State) (acc : Option MAcc) : List Nat :=
  match acc with
  | some a => if a.kind = 0 then a.words.map fun w => (s.bankWord a.bank w.1).toNat else []
  | none => []

theorem loadWords_data (s : State) (b : Nat) (ws : List (Nat × Nat × Nat))
    (h : ∀ w ∈ ws, s.bankErrAt b w.1 = 0 ∧ ∀ q ∈ (s.bank b).undef, q.1 ≠ w.1 / 8 * 8) :
    s.loadWords b ws = (ws.map fun w => (s.bankWord b w.1).toNat, false, s) := by
  induction ws with
  | nil => rfl
  | cons w ws ih =>
    obtain ⟨he, hu⟩ := h w (by simp)
    simp [State.loadWords, eRead_good s b w.1 he hu, ih fun q hq => h q (by simp [hq])]

/-- An access to good words that no write of port S has met loads them and changes nothing. -/
theorem loadAcc_data (s : State) (acc : Option MAcc)
    (h : ∀ a, acc = some a → ∀ w ∈ a.words, s.bankErrAt a.bank w.1 = 0 ∧ ∀ q ∈ (s.bank a.bank).undef, q.1 ≠ w.1 / 8 * 8) :
    s.loadAcc acc true = (s.readBy acc, false, s) := by
  cases acc with
  | none => rfl
  | some a =>
    simp only [State.loadAcc, State.readBy, and_true]
    split
    · exact loadWords_data s a.bank a.words (h a rfl)
    · rfl

/-- Results of the M slot land one, two or four steps later (Table 04-1). -/
theorem land_mPend {x : EngS} {t : Nat} {m : MSyl} {data : List Nat} {q : Pend} (hq : q ∈ mPend x t m data) :
    q.land = t + 1 ∨ q.land = t + 2 ∨ q.land = t + 4 := by
  cases m with
  | mem o f =>
    simp only [mPend, List.mem_append] at hq
    obtain hq | hq := hq <;> repeat' split at hq
    all_goals simp only [List.mem_singleton, List.not_mem_nil] at hq
    all_goals simp [hq]
  | idx o f =>
    simp only [mPend] at hq
    split at hq
    · simp [List.mem_singleton.1 hq]
    · simp at hq
  | lane o f =>
    simp only [mPend] at hq
    repeat' split at hq
    all_goals simp only [List.mem_singleton, List.not_mem_nil] at hq
    all_goals simp [hq]
  | chan o f =>
    simp only [mPend] at hq
    repeat' split at hq
    all_goals simp only [List.mem_singleton, List.not_mem_nil] at hq
    all_goals simp [hq]
  | nop => simp [mPend] at hq
  | bad c => simp [mPend] at hq

end Sys2Proof.Machine
end

section
/-! PROOF. The issue of a bundle by its outcomes (R129, R165, R167): a fault before the access, or the access and its effect. -/

namespace Sys2Proof.Machine

open Sys2Proof

/-- Whether the bank of a bundle's access admits the code running on engine `e`. -/
def State.admitsAcc (s : State) (e : Nat) (acc : Option MAcc) : Bool :=
  match acc with
  | some a => s.admits a.bank (s.engWho e)
  | none => true

/-- The outcome `u` of a bundle, or the stall of its access (R231). -/
def State.unlessStalled (s : State) (e : Nat) (acc : Option MAcc) (u : State) : State :=
  match (s.atIssue e).stallsAt acc with
  | some (b, off) => s.stallWho b off ((s.atIssue e).engWho e)
  | none => u

/-- The outcome of a step whose lap has steps left, the bundle `y` having been fetched into `f`. -/
def State.checked (s : State) (e : Nat) (f : Nat × State) (y : Syls) : State :=
  let x := s.issuer e
  let acc := mAccess x y.m
  let own := (s.atIssue e).admitsAcc e acc
  let flt := bundleFault x y f.1 own x.kernelWin.isSome
  if f.1 ≠ 2 ∧ x.breaches y (y.results x ((s.atIssue e).rdsys e) []) then f.2.breach e x
  else if flt.1 ≠ 0 ∧ flt.1 < fcLoadPoison then f.2.engFault e flt.1 x.pc flt.2
  else s.unlessStalled e acc (f.2.complete e x y acc own flt)

theorem issue_eq (s : State) (e : Nat) : s.issue e =
    if s.lapFull e then (s.atIssue e).engFault e fcLapOverrun (s.issuer e).pc 3
    else s.checked e ((s.atIssue e).fetchEcc e) (decodeBundle (s.bundleNow e)) := by
  rw [← lapFull_atIssue, ← bundleNow_atIssue]
  rfl

/-- The fault of the bundle `y` of engine `e` before its access (R168), its word being good. -/
def State.faultOf (s : State) (e : Nat) (y : Syls) : Nat × Nat :=
  bundleFault (s.issuer e) y 0 ((s.atIssue e).admitsAcc e (mAccess (s.issuer e) y.m)) (s.issuer e).kernelWin.isSome

section

variable {s : State} {e : Nat} {y : Syls} (hlap : s.lapFull e = false) (hdec : decodeBundle (s.bundleNow e) = y)
  (hecc : mapGet (fun _ => 0) (s.eng e).imemErr (s.fld (ENG_SEG_MAP_SEG.inst e) * 8192 + (s.eng e).pc) = 0)
  (hbr : (s.issuer e).breaches y (y.results (s.issuer e) ((s.atIssue e).rdsys e) []) = false)
include hlap hdec hecc hbr

/-- A bundle with a fault that is found before its access. -/
theorem issue_faults (hf : (s.faultOf e y).1 ≠ 0) (hlt : (s.faultOf e y).1 < fcLoadPoison) :
    s.issue e = (s.atIssue e).engFault e (s.faultOf e y).1 (s.issuer e).pc (s.faultOf e y).2 := by
  rw [issue_eq, hlap, hdec, fetchEcc_atIssue s e hecc, if_neg (by decide), State.checked]
  dsimp only
  rw [if_neg (by simp [hbr]), ← State.faultOf, if_pos ⟨hf, hlt⟩]

/-- A bundle without a fault whose access, if any, is admitted and meets no borrowed segment. -/
theorem issue_completes (hf : (s.faultOf e y).1 = 0)
    (hadm : (s.atIssue e).admitsAcc e (mAccess (s.issuer e) y.m) = true)
    (hstall : (s.atIssue e).stallsAt (mAccess (s.issuer e) y.m) = none) :
    s.issue e = (s.atIssue e).complete e (s.issuer e) y (mAccess (s.issuer e) y.m) true (s.faultOf e y) := by
  rw [issue_eq, hlap, hdec, fetchEcc_atIssue s e hecc, if_neg (by decide), State.checked]
  dsimp only
  rw [if_neg (by simp [hbr]), ← State.faultOf, if_neg (by simp [hf]), State.unlessStalled, hstall, hadm]

end

/-- The access and effect of a bundle without a fault whose load, if any, finds good words (R152). -/
theorem complete_good {s : State} {e : Nat} {x : EngS} {y : Syls} {acc : Option MAcc} {flt : Nat × Nat} (hf : flt.1 = 0)
    {data : List Nat} (hload : s.loadAcc acc true = (data, false, s)) :
    s.complete e x y acc true flt =
      (s.granted acc (s.engWho e)).perform e x y (y.results x (s.rdsys e) data) acc := by
  unfold State.complete
  simp only [hload, hf, ne_eq, not_true_eq_false, Bool.false_eq_true, if_false]
  cases acc <;> rfl

theorem rdsys_atIssue (s : State) (e : Nat) : (s.atIssue e).rdsys e = s.rdsys e := by
  funext a
  have hw : ((s.atIssue e).eng e).window = (s.eng e).window := by
    rw [eng_atIssue]
    exact landAt_window _ _
  unfold State.rdsys
  rw [hw]
  rfl

/-- A bundle of plan code that issues without a fault takes its effect with the words its access loads. -/
theorem issue_performs_readBy {s : State} {e : Nat} {y : Syls} (h : s.Issues e y) :
    s.issue e = (s.atEffect e y).perform e (s.issuer e) y
      (y.results (s.issuer e) (s.rdsys e) (s.readBy (mAccess (s.issuer e) y.m))) (mAccess (s.issuer e) y.m) := by
  obtain ⟨-, hk, hlap, hdec, hecc, hflt, hacc⟩ := h
  have hkx : (s.issuer e).kernelWin = none := (kernelWin_issuer s e).trans hk
  have hwho := engWho_atIssue s e hk
  have hacc' : ∀ a, mAccess (s.issuer e) y.m = some a → _ := hacc
  have hadm : (s.atIssue e).admitsAcc e (mAccess (s.issuer e) y.m) = true := by
    unfold State.admitsAcc
    rw [hwho]
    split
    next a ha => exact (hacc' a ha).1
    next => rfl
  have hstall : (s.atIssue e).stallsAt (mAccess (s.issuer e) y.m) = none := by
    cases ha : mAccess (s.issuer e) y.m with
    | none => rfl
    | some a => exact stallsAt_none _ a fun w hw => ((hacc' a ha).2 w hw).2.1
  have hload := loadAcc_data (s.atIssue e) (mAccess (s.issuer e) y.m) fun a ha w hw =>
    ⟨((hacc' a ha).2 w hw).1, ((hacc' a ha).2 w hw).2.2⟩
  have hfault : (s.faultOf e y).1 = 0 := by
    rw [State.faultOf, hadm, hkx]
    exact hflt
  rw [issue_completes hlap hdec hecc (by simp [EngS.breaches, hkx]) hfault hadm hstall, complete_good hfault hload, hwho,
    rdsys_atIssue]
  rfl

end Sys2Proof.Machine
end

section
/-! PROOF. The state a bundle of plan code leaves (R129, R153, R156 to R166), and operations of slot M (O28). -/

namespace Sys2Proof.Machine

open Sys2Proof

/-! The engine after a bundle. -/

/-- Control flow changes the program address, the branch in progress and the loop levels, nothing else (R156, R157). -/
theorem advance_frame (x : EngS) (c : CSyl) : x.advance c =
    { x with
      pc := (x.advance c).pc
      branch := (x.advance c).branch
      inDelay := (x.advance c).inDelay
      loops := (x.advance c).loops } := by
  unfold EngS.advance
  dsimp only
  repeat' split
  all_goals rfl

/-- The channels of `x` after an executed SCSTART has queued its descriptor (R153). -/
def EngS.queued (x : EngS) (d : Option (Nat × Nat)) : EngS :=
  match d with
  | some (c, d) => x.setChan c { x.chan c with queue := (x.chan c).queue ++ [d] }
  | none => x

theorem queued_frame (x : EngS) (d : Option (Nat × Nat)) :
    x.queued d = { x with sc0 := (x.queued d).sc0, sc1 := (x.queued d).sc1 } := by
  cases d with
  | none => rfl
  | some d =>
    simp only [EngS.queued, EngS.setChan]
    split <;> rfl

theorem chan_queued (x : EngS) (c d : Nat) : ((x.queued (some (c, d))).chan c).queue = (x.chan c).queue ++ [d] := by
  by_cases h : c = 0 <;> simp [EngS.queued, EngS.setChan, EngS.chan, h]

/-- Engine `x` after the bundle `y` has put the results `rs` in flight, before what its C slot does. -/
def EngS.issued (x : EngS) (y : Syls) (rs : List Pend) (mono : Nat) (port : Option (Nat × Bool × List Nat)) : EngS :=
  { (({ x.advance y.c with pend := x.pend ++ rs, first := false } : EngS).queued (mStart x y.m)) with
    step := x.step + 1
    lastIssue := mono
    port := port }

section

variable (x : EngS) (y : Syls) (rs : List Pend) (mono : Nat) (port : Option (Nat × Bool × List Nat))

theorem issued_frame : x.issued y rs mono port =
    { x.advance y.c with
      pend := x.pend ++ rs
      first := false
      step := x.step + 1
      lastIssue := mono
      port := port
      sc0 := (x.issued y rs mono port).sc0
      sc1 := (x.issued y rs mono port).sc1 } := by
  unfold EngS.issued
  rw [queued_frame]

theorem chan_issued {c d : Nat} (h : mStart x y.m = some (c, d)) :
    ((x.issued y rs mono port).chan c).queue = (x.chan c).queue ++ [d] := by
  have hadv : (x.advance y.c).chan c = x.chan c := by
    rw [advance_frame]
    rfl
  have hq := chan_queued { x.advance y.c with pend := x.pend ++ rs, first := false } c d
  unfold EngS.issued
  rw [h]
  exact hq.trans (by rw [← hadv]; rfl)

theorem chans_issued (h : mStart x y.m = none) :
    (x.issued y rs mono port).sc0 = x.sc0 ∧ (x.issued y rs mono port).sc1 = x.sc1 := by
  unfold EngS.issued
  rw [h]
  dsimp only [EngS.queued]
  rw [advance_frame]
  exact ⟨rfl, rfl⟩

end

theorem flush_regsOnly (x : EngS) : EngS.RegsOnly x x.flush := by
  unfold EngS.flush
  generalize List.range (maxLatency + 1) = l
  suffices h : ∀ z, EngS.RegsOnly x z → EngS.RegsOnly x (l.foldl (fun w k => w.landAt (x.step + k)) z) from h x rfl
  induction l with
  | nil => exact fun z hz => hz
  | cons k l ih => exact fun z hz => ih _ (hz.trans (regsOnly_landAt z _))

/-! What the C slot does then. -/

/-- The engine after LAPMARK (R159). -/
theorem eng_afterIssue_lapmark (s : State) (e : Nat) (x : EngS) (g : Nat) : (s.afterIssue e x (.lapmark g)).eng e =
    { s.eng e with mark := some (g, x.pc), fenceMask := if (s.eng e).chansBusy 3 then 3 else 0 } := by
  simp only [State.afterIssue, eng_modEng_same, State.setEngState, eng_setFld]

/-- The engine after FENCE (R158). -/
theorem eng_afterIssue_fence (s : State) (e : Nat) (x : EngS) (pr m : Nat) : (s.afterIssue e x (.fence pr m)).eng e =
    if (x.rp pr).testBit 0 ∧ (s.eng e).chansBusy m then { s.eng e with fenceMask := m } else s.eng e := by
  simp only [State.afterIssue]
  split
  · simp only [eng_modEng_same, State.setEngState, eng_setFld]
  · rfl

/-- The engine after OWOPEN (R164). -/
theorem eng_afterIssue_owopen (s : State) (e : Nat) (x : EngS) (win n : Nat) : (s.afterIssue e x (.owopen win n)).eng e =
    { (s.eng e).flush with
      window := some ⟨win, 16 * n - 1, (s.eng e).loops, (s.eng e).pc, none, true⟩
      loops := [] } := by
  simp only [State.afterIssue, eng_modEng_same, State.setEngState, eng_setFld]

/-- An engine with its results landed whose frame has ended (R163). -/
def EngS.ended (z : EngS) : EngS :=
  { z with loops := [], padFrame := 0, atFend := false, first := false, branch := none, inDelay := false }

theorem frameEnd_eq (s : State) (e : Nat) : s.frameEnd e =
    ((s.setEngState e esIdle).setFld (ENG_PAD_STEPS_COUNT.inst e) (s.eng e).padFrame).modEng e fun z => z.flush.ended := rfl

/-- The engine after FEND (R163). -/
theorem eng_afterIssue_fend (s : State) (e : Nat) (x : EngS) : (s.afterIssue e x .fend).eng e = (s.eng e).flush.ended := by
  change (s.frameEnd e).eng e = _
  rw [frameEnd_eq, eng_modEng_same, eng_setFld, State.setEngState, eng_setFld]

/-- Program address, step count, tables and channels of an engine are the same in `z` and `w`. -/
def EngS.SameRun (z w : EngS) : Prop :=
  w.pc = z.pc ∧ w.step = z.step ∧ w.sc0 = z.sc0 ∧ w.sc1 = z.sc1 ∧ w.tab = z.tab

theorem EngS.sameRun_refl (z : EngS) : EngS.SameRun z z := ⟨rfl, rfl, rfl, rfl, rfl⟩

theorem EngS.sameRun_mark (z : EngS) (m : Option (Nat × Nat)) (f : Nat) :
    EngS.SameRun z { z with mark := m, fenceMask := f } := ⟨rfl, rfl, rfl, rfl, rfl⟩

theorem EngS.sameRun_fence (z : EngS) (f : Nat) : EngS.SameRun z { z with fenceMask := f } := ⟨rfl, rfl, rfl, rfl, rfl⟩

theorem EngS.SameRun.window {z w : EngS} (h : EngS.SameRun z w) (v : Option Window) (l : List Loop) :
    EngS.SameRun z { w with window := v, loops := l } := h

theorem EngS.SameRun.ended {z w : EngS} (h : EngS.SameRun z w) : EngS.SameRun z w.ended := h

theorem sameRun_flush (z : EngS) : EngS.SameRun z z.flush := by
  have h := flush_regsOnly z
  refine ⟨?_, ?_, ?_, ?_, ?_⟩ <;> rw [h]

section

variable (s : State) (e : Nat) (x : EngS) (c : CSyl) (hk : x.kernelWin = none)
include hk

/-- Of plan code, only LAPMARK, FENCE, OWOPEN and FEND do more than go on. -/
theorem afterIssue_plain (hl : ∀ g, c ≠ .lapmark g) (hf : ∀ pr m, c ≠ .fence pr m) (hw : ∀ win n, c ≠ .owopen win n)
    (he : c ≠ .fend) : s.afterIssue e x c = s := by
  cases c with
  | lapmark g => exact absurd rfl (hl g)
  | fence pr m => exact absurd rfl (hf pr m)
  | owopen win n => exact absurd rfl (hw win n)
  | fend => exact absurd rfl he
  | kend => simp [State.afterIssue, hk]
  | _ => rfl

theorem engineStep_afterIssue_plan : EngineStep e s (s.afterIssue e x c) := by
  by_cases hw : ∃ win n, c = .owopen win n
  · obtain ⟨win, n, rfl⟩ := hw
    simp only [State.afterIssue]
    exact (EngineStep.setFld e s _ _).trans (EngineStep.modEng e _ _)
  · by_cases hf : c = .fend
    · rw [hf]
      simp only [State.afterIssue, State.frameEnd]
      exact ((EngineStep.setFld e s _ _).trans (EngineStep.setFld e _ _ _)).trans (EngineStep.modEng e _ _)
    · exact engineStep_afterIssue s e x c hk (fun win n h => hw ⟨win, n, h⟩) hf

theorem sameRun_afterIssue : EngS.SameRun (s.eng e) ((s.afterIssue e x c).eng e) := by
  by_cases hl : ∃ g, c = .lapmark g
  · obtain ⟨g, rfl⟩ := hl
    rw [eng_afterIssue_lapmark]
    exact EngS.sameRun_mark _ _ _
  by_cases hf : ∃ pr m, c = .fence pr m
  · obtain ⟨pr, m, rfl⟩ := hf
    rw [eng_afterIssue_fence]
    split
    · exact EngS.sameRun_fence _ _
    · exact EngS.sameRun_refl _
  by_cases hw : ∃ win n, c = .owopen win n
  · obtain ⟨win, n, rfl⟩ := hw
    rw [eng_afterIssue_owopen]
    exact EngS.SameRun.window (sameRun_flush _) _ _
  by_cases he : c = .fend
  · rw [he, eng_afterIssue_fend]
    exact EngS.SameRun.ended (sameRun_flush _)
  · push Not at hl hf hw
    rw [afterIssue_plain s e x c hk hl hf hw he]
    exact EngS.sameRun_refl _

end

/-! The state of the bundle. -/

/-- A step of a kernel counts against its window and its BOUND (R164, R165). -/
def State.kernelStepped (s : State) (e : Nat) (x : EngS) : State :=
  match x.kernelWin with
  | some (w, k) =>
    s.modEng e fun z => { z with window := some { w with left := w.left - 1, kernel := some { k with left := k.left - 1 } } }
  | none => s

theorem engineStep_kernelStepped (s : State) (e : Nat) (x : EngS) : EngineStep e s (s.kernelStepped e x) := by
  unfold State.kernelStepped
  split
  · exact EngineStep.modEng e s _
  · exact EngineStep.refl e s

theorem kernelStepped_plan (s : State) (e : Nat) {x : EngS} (hk : x.kernelWin = none) : s.kernelStepped e x = s := by
  rw [State.kernelStepped, hk]

section

variable (s : State) (e : Nat) (x : EngS) (y : Syls) (rs : List Pend) (acc : Option MAcc)

/-- `s` after the stores of a bundle, its results in flight, SCSTART and the counts, plan code's or a kernel's. -/
def State.ranBy : State :=
  (((((s.stored acc).setEng e { x.advance y.c with pend := x.pend ++ rs, first := false }).started e (mStart x y.m)).countStep e 1
    (!x.atFend)).kernelStepped e x).modEng e fun z => { z with port := acc.map fun a => (a.bank, a.kind != 0, a.words.map fun w => w.1) }

theorem perform_ranBy : s.perform e x y rs acc = (s.ranBy e x y rs acc).afterIssue e x y.c := rfl

theorem engineStep_ranBy : EngineStep e (s.stored acc) (s.ranBy e x y rs acc) :=
  ((((EngineStep.setEng e _ _).trans (engineStep_started e _ _)).trans (engineStep_countStep e _ _ _)).trans
    (engineStep_kernelStepped _ e x)).trans (EngineStep.modEng e _ _)

theorem eng_started (t : State) (z : EngS) (d : Option (Nat × Nat)) : ((t.setEng e z).started e d).eng e = z.queued d := by
  cases d with
  | none => exact eng_setEng_same t e z
  | some d =>
    simp only [State.started, State.scPush, EngS.queued, eng_setEng_same]
    split
    · rw [eng_descStart, eng_modEng_same, eng_setEng_same]
    · rw [eng_modEng_same, eng_setEng_same]

theorem eng_countStep (t : State) (n : Nat) (inLap : Bool) :
    (t.countStep e n inLap).eng e = { t.eng e with step := (t.eng e).step + n, lastIssue := t.time.mono } := by
  unfold State.countStep
  rw [eng_modEng_same]
  split
  · rw [eng_incFld, eng_setPair]
  · rw [eng_setPair]

variable (hk : x.kernelWin = none)
include hk

theorem eng_ranBy : (s.ranBy e x y rs acc).eng e =
    x.issued y rs s.time.mono (acc.map fun a => (a.bank, a.kind != 0, a.words.map fun w => w.1)) := by
  have htime : (((s.stored acc).setEng e { x.advance y.c with pend := x.pend ++ rs, first := false }).started e
      (mStart x y.m)).time = s.time := by
    rw [(engineStep_started e _ _).1]
    exact (congrArg State.time (engineOnly_stored e s acc).1 :)
  have hstep : (({ x.advance y.c with pend := x.pend ++ rs, first := false } : EngS).queued (mStart x y.m)).step = x.step := by
    rw [queued_frame, advance_frame]
  unfold State.ranBy
  rw [eng_modEng_same, kernelStepped_plan _ e hk, eng_countStep, eng_started, htime, hstep]
  rfl

theorem engineStep_perform_plan : EngineStep e (s.stored acc) (s.perform e x y rs acc) :=
  (engineStep_ranBy s e x y rs acc).trans (engineStep_afterIssue_plan _ e x y.c hk)

end

end Sys2Proof.Machine
end

section
/-! PROOF. What a step with an M operation loads, stores and starts (O28). -/

namespace Sys2Proof.Machine

open Sys2Proof

theorem exec_memCmd {e : Nat} {m : MSyl} {i : Instr} (h : memCmd e m = some i) (s : State) :
    exec i s = .next (s.mOp e m) := by
  unfold memCmd at h
  split at h
  all_goals cases h
  all_goals rfl

theorem exec_ctlCmd {e : Nat} {c : CSyl} {i : Instr} (h : ctlCmd e c = some i) (s : State) :
    exec i s = .next (s.cOp e c) := by
  unfold ctlCmd at h
  split at h
  all_goals cases h
  all_goals rfl

/-- The command of an M syllable is the step that issues the bundle that holds it (log entry 14). -/
theorem exec_memCmd_issues {e : Nat} {y : Syls} {i : Instr} {s : State} (h : s.Issues e y) (hi : memCmd e y.m = some i) :
    exec i s = .next (s.issue e) := by
  obtain ⟨hrun, -, -, hdec, -⟩ := h
  rw [exec_memCmd hi]
  simp [State.mOp, State.engStep, hrun, hdec]

/-- The command of a C syllable is the step that issues the bundle that holds it (log entry 14). -/
theorem exec_ctlCmd_issues {e : Nat} {y : Syls} {i : Instr} {s : State} (h : s.Issues e y) (hi : ctlCmd e y.c = some i) :
    exec i s = .next (s.issue e) := by
  obtain ⟨hrun, -, -, hdec, -⟩ := h
  rw [exec_ctlCmd hi]
  simp [State.cOp, State.engStep, hrun, hdec]

/-! The memories. -/

/-- Granting an access changes no content and no check state of a memory. -/
theorem memKept_atEffect (s : State) (e : Nat) (y : Syls) : MemKept s (s.atEffect e y) := by
  have h (acc : Option MAcc) (who : Who) : MemKept (s.atIssue e) ((s.atIssue e).granted acc who) := by
    cases acc with
    | none => exact MemKept.of_quiet rfl
    | some a =>
      simp only [State.granted, State.dropGrant]
      split
      · exact ⟨fun _ => ⟨rfl, rfl⟩, fun _ _ => ⟨rfl, rfl⟩, fun _ _ => rfl⟩
      · exact MemKept.of_quiet rfl
  exact h _ _

theorem MemKept.trans {s t u : State} (h : MemKept s t) (g : MemKept t u) : MemKept s u := by
  obtain ⟨hd, hb, hn⟩ := h
  obtain ⟨gd, gb, gn⟩ := g
  exact ⟨fun a => ⟨(gd a).1.trans (hd a).1, (gd a).2.trans (hd a).2⟩,
    fun b o => ⟨(gb b o).1.trans (hb b o).1, (gb b o).2.trans (hb b o).2⟩, fun a n => (gn a n).trans (hn a n)⟩

theorem stored_load {s : State} {acc : Option MAcc} (h : ∀ a, acc = some a → a.kind = 0) : s.stored acc = s := by
  cases acc with
  | none => rfl
  | some a => exact if_pos (h a rfl)

theorem stored_store {s : State} {a : MAcc} (h : a.kind ≠ 0) :
    s.stored (some a) = a.words.foldl (fun t w => t.storeWord a.bank a.kind w) s :=
  (if_neg h).trans (storeWords_eq s a)

section

variable {s : State} {e : Nat} {y : Syls} (h : s.Issues e y)
include h

/-- The words of the access of a bundle that issues without a fault are good. -/
theorem bankErrAt_of_issues {a : MAcc} (ha : mAccess (s.atStep e) y.m = some a) {w : Nat × Nat × Nat} (hw : w ∈ a.words) :
    (s.atEffect e y).bankErrAt a.bank w.1 = 0 := by
  obtain ⟨-, -, -, -, -, -, hacc⟩ := h
  obtain ⟨he, -⟩ := (hacc a ha).2 w hw
  exact ((memKept_atEffect s e y).2.1 _ _).2.trans he

/-- After its access a bundle of plan code changes registers and its engine only. -/
theorem engineStep_issue : EngineStep e ((s.atEffect e y).stored (mAccess (s.atStep e) y.m)) (s.issue e) := by
  have hk : (s.issuer e).kernelWin = none := (kernelWin_issuer s e).trans h.2.1
  rw [issue_performs_readBy h]
  exact engineStep_perform_plan _ e _ y _ _ hk

theorem engineOnly_issue : EngineOnly e s (s.issue e) :=
  ((engineOnly_atEffect s e y).trans (engineOnly_stored e _ _)).trans (engineStep_issue h).engineOnly

/-- A bundle that stores nothing changes no memory. -/
theorem memKept_issue_of_load (hload : ∀ a, mAccess (s.atStep e) y.m = some a → a.kind = 0) : MemKept s (s.issue e) := by
  have hstep := engineStep_issue h
  rw [stored_load hload] at hstep
  exact (memKept_atEffect s e y).trans hstep.memKept

/-- Every word of a bank reads after a store as the stores leave it, whatever else the bundle does. -/
theorem bankWord_issue {a : MAcc} (ha : mAccess (s.atStep e) y.m = some a) (hkind : a.kind ≠ 0) (b off : Nat) :
    (s.issue e).bankWord b off =
      (a.words.foldl (fun t w => t.storeWord a.bank a.kind w) (s.atEffect e y)).bankWord b off := by
  have hstep := engineStep_issue h
  rw [ha, stored_store hkind] at hstep
  exact (hstep.memKept.2.1 b off).1

/-- No bundle without a fault changes a check state. -/
theorem bankErrAt_issue (b off : Nat) : (s.issue e).bankErrAt b off = s.bankErrAt b off := by
  by_cases hload : ∀ a, mAccess (s.atStep e) y.m = some a → a.kind = 0
  · exact ((memKept_issue_of_load h hload).2.1 b off).2
  · push Not at hload
    obtain ⟨a, ha, hkind⟩ := hload
    have hstep := engineStep_issue h
    rw [ha, stored_store hkind] at hstep
    have honly := wordsOnly_storeFold (kind_mAccess ha hkind) a.words fun w hw => bankErrAt_of_issues h ha hw
    exact ((hstep.memKept.2.1 b off).2.trans (honly.2 b off)).trans ((memKept_atEffect s e y).2.1 b off).2

/-- What a bundle without a fault leaves of its engine, whatever its C slot does (R153). -/
theorem sameRun_issue : ∃ rs mono port, EngS.SameRun ((s.issuer e).issued y rs mono port) ((s.issue e).eng e) := by
  have hk : (s.issuer e).kernelWin = none := (kernelWin_issuer s e).trans h.2.1
  rw [issue_performs_readBy h, perform_ranBy]
  have hrun (rs : List Pend) (acc : Option MAcc) :=
    sameRun_afterIssue ((s.atEffect e y).ranBy e (s.issuer e) y rs acc) e (s.issuer e) y.c hk
  simp only [eng_ranBy _ _ _ _ _ _ hk] at hrun
  exact ⟨_, _, _, hrun _ _⟩

/-- The results of a bundle are in flight after it, unless its C slot lets every result land. -/
theorem pend_issue (hw : ∀ win n, y.c ≠ .owopen win n) (hf : y.c ≠ .fend) :
    ((s.issue e).eng e).pend =
      (s.atStep e).pend ++ y.results (s.atStep e) (s.rdsys e) (s.readBy (mAccess (s.atStep e) y.m)) := by
  have hk : (s.issuer e).kernelWin = none := (kernelWin_issuer s e).trans h.2.1
  rw [issue_performs_readBy h]
  obtain ⟨hpend, -⟩ := fileAfter_perform (s.atEffect e y) e (s.issuer e) y
    (y.results (s.issuer e) (s.rdsys e) (s.readBy (mAccess (s.issuer e) y.m))) (mAccess (s.issuer e) y.m) hk hw hf
  exact hpend

end

end Sys2Proof.Machine
open Sys2Proof Sys2Proof.Machine

/-- Settles O28: the bundle's effect is the stores of its access, each of which enables no bit that another one does, and
the engine with its results in flight. -/
theorem memoryOpsIssue : Obligations.MemoryOpsIssue := by
  intro e y i s h hi
  obtain ⟨rs, mono, port, -, hstep, h0, h1, -⟩ := sameRun_issue h
  refine ⟨s.issue e, exec_memCmd_issues h hi, fun hw hf q hq => ?_, fun q hq => land_mPend hq, ?_, fun hnone => ?_,
    fun a ha => ⟨fun h0 => ?_, fun hkind => ⟨fun w hw k hk hm => ?_, fun b off k hk hother => ?_⟩⟩, bankErrAt_issue h,
    fun c d hd => ?_, fun hnone => ?_, engineOnly_issue h⟩
  · rw [pend_issue h hw hf]
    have hmem : q ∈ y.results (s.atStep e) (s.rdsys e) (s.readBy (mAccess (s.atStep e) y.m)) := by
      simp only [Syls.results, List.mem_append]
      exact .inl (.inr hq)
    exact List.mem_append_right _ hmem
  · rw [hstep, issued_frame]
    rfl
  · exact memKept_issue_of_load h fun a ha => by rw [hnone] at ha; cases ha
  · exact memKept_issue_of_load h fun b hb => by
      rw [ha] at hb
      cases hb
      exact h0
  · rw [bankWord_issue h ha hkind, bankWord_storeFold_enabled (kind_mAccess ha hkind) a.words (wordsApart_mAccess ha)
      (fun w hw => bankErrAt_of_issues h ha hw) hw hk hm, ((memKept_atEffect s e y).2.1 _ _).1]
    simp only [storedBit, if_true]
  · rw [bankWord_issue h ha hkind, bankWord_storeFold_other (kind_mAccess ha hkind) a.words
      (fun w hw => bankErrAt_of_issues h ha hw) hk hother, ((memKept_atEffect s e y).2.1 _ _).1]
  · have hchan : ((s.issue e).eng e).chan c = ((s.issuer e).issued y rs mono port).chan c := by
      rw [EngS.chan, EngS.chan, h0, h1]
    rw [hchan, chan_issued (s.issuer e) y rs mono port hd]
    rfl
  · obtain ⟨g0, g1⟩ := chans_issued (s.issuer e) y rs mono port hnone
    exact ⟨h0.trans g0, h1.trans g1⟩
end

section
/-! PROOF. Where an engine goes on (R156, R157), and its STATE through a bundle of plan code. -/

namespace Sys2Proof.Machine

open Sys2Proof

/-! Control flow. -/

/-- No branch is in progress and no loop ends at this bundle. -/
def EngS.Plain (x : EngS) : Prop := x.branch = none ∧ ∀ l ∈ x.loops, l.end_ ≠ x.pc

/-- The engine that issues the bundle after this one. -/
def EngS.onward (x : EngS) : EngS := { x with pc := (x.pc + 1) % 8192 }

section

variable {x : EngS} {c : CSyl}

/-- The delay slot of a taken branch (R156). -/
theorem advance_delaySlot {target : Nat} (h : x.branch = some target) : x.advance c =
    { x with pc := target, branch := none, inDelay := false, loops := popLoops x.loops target } := by
  simp only [EngS.advance, h]

/-- A taken branch issues its delay slot first (R156). -/
theorem advance_branch {target : Nat} (h : x.branch = none) (hb : cBranch x c = some target) :
    x.advance c = { x.onward with branch := some target, inDelay := true } := by
  simp only [EngS.advance, h, hb]
  rfl

/-- The engine once an executed LOOPI or LOOPS has pushed its level, or the next bundle's address is known (R157). -/
def EngS.pushed (x : EngS) (c : CSyl) : EngS :=
  match cLoop x c with
  | some (n, en) =>
    if n = 0 then { x with pc := (en + 1) % 8192 }
    else { x.onward with loops := ⟨(x.pc + 1) % 8192, en, n⟩ :: x.loops }
  | none => x.onward

theorem advance_pushed (h : x.Plain) (hb : cBranch x c = none) : x.advance c = x.pushed c := by
  obtain ⟨hbr, hend⟩ := h
  unfold EngS.advance
  dsimp only
  split
  next t ht => cases hbr.symm.trans ht
  next =>
    split
    next t ht => cases hb.symm.trans ht
    next =>
      split
      next l tl hl =>
        rw [if_neg (hend l (by rw [hl]; exact List.mem_cons_self))]
        rfl
      next => rfl

/-- The bundle at the end of the innermost loop (R157). -/
theorem advance_loopEnd {l : Loop} {tl : List Loop} (hl : x.loops = l :: tl) (hend : l.end_ = x.pc) (h : x.branch = none)
    (hb : cBranch x c = none) (hp : cLoop x c = none) : x.advance c =
      if 2 ≤ l.count then { x with pc := l.start, loops := { l with count := l.count - 1 } :: tl }
      else { x.onward with loops := tl } := by
  simp only [EngS.advance, EngS.onward, h, hb, hp, hl, hend, if_true]

end

/-- Program address, branch in progress and loop levels of an engine are the same in `z` and `w`. -/
def EngS.SameCtl (z w : EngS) : Prop := w.pc = z.pc ∧ w.branch = z.branch ∧ w.inDelay = z.inDelay ∧ w.loops = z.loops

theorem sameCtl_issued (x : EngS) (y : Syls) (rs : List Pend) (mono : Nat) (port : Option (Nat × Bool × List Nat)) :
    EngS.SameCtl (x.advance y.c) (x.issued y rs mono port) := by
  unfold EngS.SameCtl
  rw [issued_frame]
  exact ⟨rfl, rfl, rfl, rfl⟩

/-- Of plan code's C operations, only OWOPEN and FEND change where the engine goes on after control flow. -/
theorem sameCtl_afterIssue (s : State) (e : Nat) (x : EngS) (c : CSyl) (hk : x.kernelWin = none)
    (hw : ∀ win n, c ≠ .owopen win n) (he : c ≠ .fend) : EngS.SameCtl (s.eng e) ((s.afterIssue e x c).eng e) := by
  by_cases hl : ∃ g, c = .lapmark g
  · obtain ⟨g, rfl⟩ := hl
    rw [eng_afterIssue_lapmark]
    exact ⟨rfl, rfl, rfl, rfl⟩
  by_cases hf : ∃ pr m, c = .fence pr m
  · obtain ⟨pr, m, rfl⟩ := hf
    rw [eng_afterIssue_fence]
    split <;> exact ⟨rfl, rfl, rfl, rfl⟩
  · push Not at hl hf
    rw [afterIssue_plain s e x c hk hl hf hw he]
    exact ⟨rfl, rfl, rfl, rfl⟩

/-! STATE of the engine. -/

theorem engState_setFld_ne (s : State) (e : Nat) (f : Fld) (v : Nat) (h : (ENG_STATUS_STATE.inst e).key ≠ f.key) :
    (s.setFld f v).engState e = s.engState e := fld_setFld_ne s f _ v h

/-- Registers of one engine's page at different offsets are different. -/
theorem key_eng_ne {f g : Fld} (e : Nat) (hf : f.page = 16) (hg : g.page = 16) (h : f.off ≠ g.off) :
    (f.inst e).key ≠ (g.inst e).key := by
  simp only [Fld.key, regKey, Fld.inst, hf, hg]
  omega

theorem engState_setEngState (s : State) (e : Nat) {v : Nat} (h : v < 8) : (s.setEngState e v).engState e = v :=
  (fld_setFld_same s (ENG_STATUS_STATE.inst e) v (by simp [Fld.inst, ENG_STATUS_STATE])).trans (Nat.mod_eq_of_lt h)

@[simp] theorem engState_modEng (s : State) (e k : Nat) (f : EngS → EngS) : (s.modEng k f).engState e = s.engState e := rfl

/-- The counters of a step of engine `e`, and that of descriptors started outside a window (R162, R181). -/
def countKey (e k : Nat) : Bool :=
  [(ENG_STEPS_LO_COUNT.inst e).key, (ENG_STEPS_HI_COUNT.inst e).key, (ENG_STEP_IN_LAP_STEPS.inst e).key,
    PLAN_SC_OUTSIDE_COUNT.key].contains k

theorem countKey_status (e : Nat) : countKey e (ENG_STATUS_STATE.inst e).key = false := by
  simp [countKey, Fld.key, regKey, Fld.inst, ENG_STATUS_STATE, ENG_STEPS_LO_COUNT, ENG_STEPS_HI_COUNT, ENG_STEP_IN_LAP_STEPS,
    PLAN_SC_OUTSIDE_COUNT]
  omega

theorem regsKept_setEng (w : Nat → Bool) (s : State) (e : Nat) (x : EngS) : RegsKept w s (s.setEng e x) := fun _ _ => rfl

theorem regsKept_modEng (w : Nat → Bool) (s : State) (e : Nat) (f : EngS → EngS) : RegsKept w s (s.modEng e f) := fun _ _ => rfl

theorem regsKept_started (s : State) (e : Nat) (d : Option (Nat × Nat)) : RegsKept (countKey e) s (s.started e d) := by
  cases d with
  | none => exact RegsKept.refl _ s
  | some d =>
    simp only [State.started, State.scPush, State.descStart]
    repeat' split
    · exact fun _ _ => rfl
    · exact regsKept_setFld _ PLAN_SC_OUTSIDE_COUNT _ (by simp [countKey])
    · exact fun _ _ => rfl

theorem regsKept_countStep (s : State) (e n : Nat) (inLap : Bool) : RegsKept (countKey e) s (s.countStep e n inLap) := by
  have hpair (v : Nat) : RegsKept (countKey e) s (s.setPair (ENG_STEPS_LO_COUNT.inst e) (ENG_STEPS_HI_COUNT.inst e) v) :=
    (regsKept_setFld _ _ _ (by simp [countKey])).trans (regsKept_setFld _ _ _ (by simp [countKey]))
  have hlap (t : State) : RegsKept (countKey e) t (t.incFld (ENG_STEP_IN_LAP_STEPS.inst e) n) :=
    regsKept_setFld _ _ _ (by simp [countKey])
  unfold State.countStep
  dsimp only
  split
  · exact ((hpair _).trans (hlap _)).trans (regsKept_modEng _ _ e _)
  · exact (hpair _).trans (regsKept_modEng _ _ e _)

theorem regsKept_kernelStepped (w : Nat → Bool) (s : State) (e : Nat) (x : EngS) : RegsKept w s (s.kernelStepped e x) := by
  unfold State.kernelStepped
  split
  · exact regsKept_modEng w s e _
  · exact RegsKept.refl w s

theorem regsKept_ranBy (s : State) (e : Nat) (x : EngS) (y : Syls) (rs : List Pend) (acc : Option MAcc) :
    RegsKept (countKey e) (s.stored acc) (s.ranBy e x y rs acc) :=
  ((((regsKept_setEng _ _ e _).trans (regsKept_started _ e _)).trans (regsKept_countStep _ e _ _)).trans
    (regsKept_kernelStepped _ _ e x)).trans (regsKept_modEng _ _ e _)

/-! The state before the C slot's effect. -/

/-- `s` after the bundle `y` of plan code of engine `e`, before what its C slot does. -/
def State.beforeC (s : State) (e : Nat) (y : Syls) : State :=
  (s.atEffect e y).ranBy e (s.issuer e) y
    (y.results (s.issuer e) (s.rdsys e) (s.readBy (mAccess (s.issuer e) y.m))) (mAccess (s.issuer e) y.m)

theorem eng_beforeC (s : State) (e : Nat) (y : Syls) (hk : (s.eng e).kernelWin = none) :
    ∃ rs mono port, (s.beforeC e y).eng e = (s.issuer e).issued y rs mono port :=
  ⟨_, _, _, eng_ranBy _ e _ y _ _ ((kernelWin_issuer s e).trans hk)⟩

/-- An engine that issues outside a kernel is in RUN. -/
theorem engState_of_issuing {s : State} {e : Nat} (hrun : s.issuing e = true) (hk : (s.eng e).kernelWin = none) :
    s.engState e = esRun := by
  unfold State.issuing at hrun
  unfold EngS.kernelWin at hk
  cases hwin : (s.eng e).window with
  | none => simp_all
  | some w => cases hker : w.kernel <;> simp_all

theorem regs_atEffect (s : State) (e : Nat) (y : Syls) : (s.atEffect e y).regs = s.regs := by
  have h (acc : Option MAcc) (who : Who) : ((s.atIssue e).granted acc who).regs = s.regs := by
    cases acc with
    | none => rfl
    | some a =>
      simp only [State.granted, State.dropGrant]
      split <;> rfl
  exact h _ _

section

variable {s : State} {e : Nat} {y : Syls} (h : s.Issues e y)
include h

theorem issue_afterIssue : s.issue e = (s.beforeC e y).afterIssue e (s.issuer e) y.c := by
  rw [issue_performs_readBy h, perform_ranBy]
  rfl

/-- A bundle's stores write no register. -/
theorem regs_stored_of_issues : ((s.atEffect e y).stored (mAccess (s.atStep e) y.m)).regs = s.regs := by
  by_cases hload : ∀ a, mAccess (s.atStep e) y.m = some a → a.kind = 0
  · rw [stored_load hload, regs_atEffect]
  · push Not at hload
    obtain ⟨a, ha, hkind⟩ := hload
    rw [ha, stored_store hkind,
      (wordsOnly_storeFold (kind_mAccess ha hkind) a.words fun w hw => bankErrAt_of_issues h ha hw).1]
    exact regs_atEffect s e y

theorem engState_beforeC : (s.beforeC e y).engState e = esRun := by
  have hregs : RegsKept (countKey e) ((s.atEffect e y).stored (mAccess (s.issuer e) y.m)) (s.beforeC e y) :=
    regsKept_ranBy _ e _ y _ _
  rw [State.engState, fld_of_regsKept hregs (countKey_status e)]
  unfold State.fld State.reg
  rw [show ((s.atEffect e y).stored (mAccess (s.issuer e) y.m)).regs = s.regs from regs_stored_of_issues h]
  exact engState_of_issuing h.1 h.2.1

end

end Sys2Proof.Machine
end

section
/-! PROOF. What a step with a C operation computes and where the engine goes on (O29). -/

namespace Sys2Proof.Machine

open Sys2Proof

/-- Results of the C slot land at the next step (Table 04-1). -/
theorem land_cPend {x : EngS} {t : Nat} {sys : Nat → Nat} {c : CSyl} {q : Pend} (hq : q ∈ cPend x t sys c) :
    q.land = t + 1 := by
  cases c with
  | reg o f =>
    simp only [cPend] at hq
    split at hq
    · split at hq <;> simp_all
    · simp at hq
  | imm o f =>
    simp only [cPend] at hq
    split at hq <;> simp_all
  | _ => simp [cPend] at hq

theorem chansBusy_congr {x z : EngS} (h : z.sc0 = x.sc0 ∧ z.sc1 = x.sc1) (m : Nat) : z.chansBusy m = x.chansBusy m := by
  unfold EngS.chansBusy
  rw [h.1, h.2]

theorem sameCtl_flush (z : EngS) : EngS.SameCtl z z.flush := by
  have h := flush_regsOnly z
  refine ⟨?_, ?_, ?_, ?_⟩ <;> rw [h]

/-! STATE after the C operations that stop the engine. -/

theorem fld_modEng (s : State) (e : Nat) (f : EngS → EngS) (g : Fld) : (s.modEng e f).fld g = s.fld g := rfl

section

variable (s : State) (e : Nat) (x : EngS)

theorem stop_afterIssue_fence (pr m : Nat) :
    if (x.rp pr).testBit 0 = true ∧ (s.eng e).chansBusy m = true then
      (s.afterIssue e x (.fence pr m)).engState e = esFence ∧ ((s.afterIssue e x (.fence pr m)).eng e).fenceMask = m
    else (s.afterIssue e x (.fence pr m)).engState e = s.engState e := by
  rw [eng_afterIssue_fence]
  simp only [State.afterIssue]
  split
  · rw [engState_modEng, engState_setEngState s e (by decide)]
    exact ⟨rfl, rfl⟩
  · rfl

theorem engState_afterIssue_lapmark (g : Nat) :
    (s.afterIssue e x (.lapmark g)).engState e = if (s.eng e).chansBusy 3 then esFence else esSave := by
  simp only [State.afterIssue, engState_modEng]
  split
  · exact engState_setEngState _ e (by decide)
  · exact engState_setEngState _ e (by decide)

theorem engState_afterIssue_owopen (win n : Nat) : (s.afterIssue e x (.owopen win n)).engState e = esWindow := by
  simp only [State.afterIssue, engState_modEng]
  exact engState_setEngState _ e (by decide)

theorem engState_afterIssue_fend : (s.afterIssue e x .fend).engState e = esIdle := by
  change (s.frameEnd e).engState e = _
  rw [frameEnd_eq, engState_modEng, engState_setFld_ne _ e (ENG_PAD_STEPS_COUNT.inst e) _
    (key_eng_ne e rfl rfl (by decide))]
  exact engState_setEngState _ e (by decide)

/-- FEND reports the frame's padding steps (R163). -/
theorem padSteps_afterIssue_fend :
    (s.afterIssue e x .fend).fld (ENG_PAD_STEPS_COUNT.inst e) = (s.eng e).padFrame % 2 ^ 32 := by
  change (s.frameEnd e).fld _ = _
  rw [frameEnd_eq, fld_modEng, fld_setFld_same _ _ _ (by simp [Fld.inst, ENG_PAD_STEPS_COUNT])]
  rfl

end

/-! The engine before the C slot's effect. -/

section

variable {s : State} {e : Nat} (y : Syls) (hk : (s.eng e).kernelWin = none)
include hk

theorem sameCtl_beforeC : EngS.SameCtl ((s.issuer e).advance y.c) ((s.beforeC e y).eng e) := by
  obtain ⟨rs, mono, port, heng⟩ := eng_beforeC s e y hk
  rw [heng]
  exact sameCtl_issued _ _ _ _ _

theorem chansBusy_beforeC (h : mStart (s.issuer e) y.m = none) (m : Nat) :
    ((s.beforeC e y).eng e).chansBusy m = (s.issuer e).chansBusy m := by
  obtain ⟨rs, mono, port, heng⟩ := eng_beforeC s e y hk
  rw [heng]
  exact chansBusy_congr (chans_issued _ _ _ _ _ h) m

theorem padFrame_beforeC : ((s.beforeC e y).eng e).padFrame = (s.issuer e).padFrame := by
  obtain ⟨rs, mono, port, heng⟩ := eng_beforeC s e y hk
  rw [heng, issued_frame, advance_frame]

end

/-! What each C operation of plan code leaves. -/

section

variable {s : State} {e : Nat} {y : Syls} (h : s.Issues e y)
include h

/-- Control flow alone says where the engine goes on, but after OWOPEN and FEND. -/
theorem sameCtl_issue (hw : ∀ win n, y.c ≠ .owopen win n) (hf : y.c ≠ .fend) :
    EngS.SameCtl ((s.issuer e).advance y.c) ((s.issue e).eng e) := by
  obtain ⟨hpc, hbr, hin, hl⟩ := sameCtl_beforeC y h.2.1
  obtain ⟨gpc, gbr, gin, gl⟩ := sameCtl_afterIssue (s.beforeC e y) e (s.issuer e) y.c ((kernelWin_issuer s e).trans h.2.1) hw hf
  rw [issue_afterIssue h]
  exact ⟨gpc.trans hpc, gbr.trans hbr, gin.trans hin, gl.trans hl⟩

theorem pc_issue : ((s.issue e).eng e).pc = ((s.issuer e).advance y.c).pc := by
  obtain ⟨rs, mono, port, hpc, -⟩ := sameRun_issue h
  rw [hpc, issued_frame]

/-- STATE stays RUN but where the C slot stops the engine. -/
theorem engState_issue_run (hl : ∀ g, y.c ≠ .lapmark g) (hf : ∀ pr m, y.c ≠ .fence pr m) (hw : ∀ win n, y.c ≠ .owopen win n)
    (he : y.c ≠ .fend) : (s.issue e).engState e = esRun := by
  rw [issue_afterIssue h, afterIssue_plain _ e _ y.c ((kernelWin_issuer s e).trans h.2.1) hl hf hw he]
  exact engState_beforeC h

/-- FENCE (R158). -/
theorem issue_fence {pr m : Nat} (hc : y.c = .fence pr m) (hm : mStart (s.issuer e) y.m = none) :
    if ((s.issuer e).rp pr).testBit 0 = true ∧ (s.issuer e).chansBusy m = true then
      (s.issue e).engState e = esFence ∧ ((s.issue e).eng e).fenceMask = m
    else (s.issue e).engState e = esRun := by
  rw [issue_afterIssue h, hc, ← engState_beforeC h, ← chansBusy_beforeC y h.2.1 hm m]
  exact stop_afterIssue_fence _ e _ pr m

/-- LAPMARK (R159). -/
theorem issue_lapmark {g : Nat} (hc : y.c = .lapmark g) (hm : mStart (s.issuer e) y.m = none) :
    ((s.issue e).eng e).mark = some (g, (s.issuer e).pc) ∧
      (s.issue e).engState e = if (s.issuer e).chansBusy 3 then esFence else esSave := by
  rw [issue_afterIssue h, hc, ← chansBusy_beforeC y h.2.1 hm 3, eng_afterIssue_lapmark]
  exact ⟨rfl, engState_afterIssue_lapmark _ e _ g⟩

/-- OWOPEN (R164): where control flow goes on is where plan code resumes. -/
theorem issue_owopen {win n : Nat} (hc : y.c = .owopen win n) :
    (s.issue e).engState e = esWindow ∧
      ((s.issue e).eng e).window =
        some ⟨win, 16 * n - 1, ((s.issuer e).advance y.c).loops, ((s.issuer e).advance y.c).pc, none, true⟩ ∧
      ((s.issue e).eng e).loops = [] ∧ ((s.issue e).eng e).branch = ((s.issuer e).advance y.c).branch := by
  obtain ⟨hpc, hbr, -, hl⟩ := sameCtl_beforeC y h.2.1
  obtain ⟨-, gbr, -, -⟩ := sameCtl_flush ((s.beforeC e y).eng e)
  have heng := eng_afterIssue_owopen (s.beforeC e y) e (s.issuer e) win n
  rw [← hc, ← issue_afterIssue h] at heng
  refine ⟨?_, ?_, ?_, ?_⟩
  · rw [issue_afterIssue h, hc]
    exact engState_afterIssue_owopen _ e _ win n
  · rw [heng, ← hpc, ← hl]
  · rw [heng]
  · rw [heng, ← hbr, ← gbr]

/-- FEND (R163). -/
theorem issue_fend (hc : y.c = .fend) :
    (s.issue e).engState e = esIdle ∧ ((s.issue e).eng e).loops = [] ∧ ((s.issue e).eng e).atFend = false ∧
      (s.issue e).fld (ENG_PAD_STEPS_COUNT.inst e) = (s.issuer e).padFrame % 2 ^ 32 := by
  rw [issue_afterIssue h, hc, eng_afterIssue_fend, ← padFrame_beforeC y h.2.1]
  exact ⟨engState_afterIssue_fend _ e _, rfl, rfl, padSteps_afterIssue_fend _ e _⟩

end

end Sys2Proof.Machine
open Sys2Proof Sys2Proof.Machine

/-- Settles O29: control flow is `EngS.advance`, cut by a branch in progress, a branch taken, a level pushed and the end
of the innermost loop; LAPMARK, FENCE, OWOPEN and FEND stop the engine after it. -/
theorem controlOpsIssue : Obligations.ControlOpsIssue := by
  intro e y i s h hi
  refine ⟨s.issue e, exec_ctlCmd_issues h hi, ?_, engineOnly_issue h, fun hm => ?_, fun hw hf q hq => ⟨?_, land_cPend hq⟩,
    fun hl hf hw he => engState_issue_run h hl hf hw he, fun hp hb hl => ?_, fun f hc hpr hp => ?_, fun target ht he => ?_,
    fun n en hl hp => ?_, fun l tl hl hend hbr hb hp he hw => ?_, fun pr m hc hm => issue_fence h hc hm,
    fun g hc hm => issue_lapmark h hc hm, fun win n hc hp => ?_, fun hc => issue_fend h hc⟩
  · obtain ⟨rs, mono, port, -, hstep, -⟩ := sameRun_issue h
    rw [hstep, issued_frame]
    rfl
  · exact memKept_issue_of_load h fun a ha => by rw [hm] at ha; cases ha
  · rw [pend_issue h hw hf]
    have hmem : q ∈ y.results (s.atStep e) (s.rdsys e) (s.readBy (mAccess (s.atStep e) y.m)) := by
      simp only [Syls.results, List.mem_append]
      exact .inr hq
    exact List.mem_append_right _ hmem
  · have hadv : (s.issuer e).advance y.c = (s.issuer e).pushed y.c := advance_pushed hp hb
    have hl' : cLoop (s.issuer e) y.c = none := hl
    rw [pc_issue h, hadv, EngS.pushed, hl']
    rfl
  · have hb : cBranch (s.issuer e) y.c = some f.target := by
      rw [hc]
      exact if_pos hpr
    obtain ⟨hpc, hbr, hin, -⟩ := sameCtl_issue h (by simp [hc]) (by simp [hc])
    rw [hpc, hbr, hin, advance_branch (x := s.issuer e) hp.1 hb]
    exact ⟨rfl, rfl, rfl⟩
  · have hadv := advance_delaySlot (x := s.issuer e) (c := y.c) ht
    have hbr : ((s.issue e).eng e).branch = ((s.issuer e).advance y.c).branch := by
      by_cases hw : ∃ win n, y.c = .owopen win n
      · obtain ⟨win, n, hc⟩ := hw
        exact (issue_owopen h hc).2.2.2
      · push Not at hw
        exact (sameCtl_issue h hw he).2.1
    rw [pc_issue h, hbr, hadv]
    exact ⟨rfl, rfl⟩
  · have hl' : cLoop (s.issuer e) y.c = some (n, en) := hl
    have hb : cBranch (s.issuer e) y.c = none := by
      unfold cLoop at hl'
      split at hl' <;> simp_all [cBranch]
    have hne : (∀ win n, y.c ≠ .owopen win n) ∧ y.c ≠ .fend := by
      unfold cLoop at hl'
      split at hl' <;> simp_all
    obtain ⟨hpc, -, -, hloops⟩ := sameCtl_issue h hne.1 hne.2
    rw [hpc, hloops, advance_pushed (x := s.issuer e) hp hb, EngS.pushed, hl']
    dsimp only
    split <;> exact ⟨rfl, rfl⟩
  · obtain ⟨hpc, -, -, hloops⟩ := sameCtl_issue h hw he
    rw [hpc, hloops, advance_loopEnd (x := s.issuer e) hl hend hbr hb hp]
    split <;> exact ⟨rfl, rfl⟩
  · have hadv : (s.issuer e).advance y.c = (s.issuer e).onward := by
      rw [advance_pushed (x := s.issuer e) hp (by rw [hc]; rfl), EngS.pushed, hc]
      rfl
    obtain ⟨hst, hwin, hloops, -⟩ := issue_owopen h hc
    rw [hadv] at hwin
    exact ⟨hst, hwin, hloops⟩
end

section
/-! PROOF. What a fault of an engine records (R167, R168). -/

namespace Sys2Proof.Machine

open Sys2Proof

/-- An event of an engine's page writes none of the engine's other registers. -/
theorem evKey_eng (e off : Nat) (h : off ≠ 0x010) : evKey (engPage e) (regKey (16 + e) off) = false := by
  simp only [evKey, engPage, regKey, List.contains_cons, List.contains_nil, Bool.or_false, Bool.or_eq_false_iff, beq_eq_false_iff_ne]
  omega

/-! Fields of one engine's page. -/

theorem fld_setFld_eng_same (s : State) (e v : Nat) {f : Fld} (h : f.lo + f.w ≤ 32) :
    (s.setFld (f.inst e) v).fld (f.inst e) = v % 2 ^ f.w := fld_setFld_same s (f.inst e) v h

theorem fld_setFld_eng_ne (s : State) (e v : Nat) {f g : Fld} (hg : g.page = 16) (hf : f.page = 16) (h : g.off ≠ f.off) :
    (s.setFld (f.inst e) v).fld (g.inst e) = s.fld (g.inst e) := fld_setFld_ne s _ _ v (key_eng_ne e hg hf h)

theorem fld_setFld_eng_apart (s : State) (e v : Nat) {f g : Fld} (hp : g.page = f.page) (ho : g.off = f.off)
    (hf : f.lo + f.w ≤ 32) (h : g.lo + g.w ≤ f.lo ∨ f.lo + f.w ≤ g.lo) :
    (s.setFld (f.inst e) v).fld (g.inst e) = s.fld (g.inst e) :=
  fld_setFld_apart s (f.inst e) (g.inst e) v (by simp only [Fld.key, Fld.inst, hp, ho]) hf h

/-- The registers of a fault (R168): STATE, FAULT_INFO, FAULT_LAP, FAULT_FRAME. -/
def State.faultRegs (s : State) (e code addr slot : Nat) : State :=
  (((((s.setEngState e esFaulted).setFld (ENG_FAULT_INFO_CODE.inst e) code).setFld (ENG_FAULT_INFO_ADDR.inst e) addr).setFld
    (ENG_FAULT_INFO_SLOT.inst e) slot).setFld (ENG_FAULT_LAP_LAP.inst e) (s.fld (ENG_LAP_NOW_LAP.inst e))).setFld
    (ENG_FAULT_FRAME_FRAME_LO.inst e) (s.fld (ENG_FRAME_NOW_FRAME_LO.inst e))

/-- A report of a fault to the lap watch. -/
def State.withReport (s : State) (r : Nat × Nat × Nat) : State :=
  { s with plan := { s.plan with reports := s.plan.reports ++ [r] } }

theorem engineOnly_withReport (e : Nat) (s : State) (r : Nat × Nat × Nat) : EngineOnly e s (s.withReport r) :=
  ⟨rfl, fun _ _ => rfl⟩

theorem memKept_withReport (s : State) (r : Nat × Nat × Nat) : MemKept s (s.withReport r) :=
  ⟨fun _ => ⟨rfl, rfl⟩, fun _ _ => ⟨rfl, rfl⟩, fun _ _ => rfl⟩

/-- The fault recorded and reported to the lap watch, its event not yet raised. -/
def State.reported (s : State) (e code addr slot : Nat) : State :=
  ((s.faultRegs e code addr slot).modEng e EngS.flush).withReport (e, code, s.fld (ENG_LAP_NOW_LAP.inst e))

section

variable (s : State) (e code addr slot : Nat)

/-- What no fault touches: any register of the page but those of `State.faultRegs`. -/
theorem fld_faultRegs_ne {g : Fld} (hp : g.page = 16) (ho : g.off ≠ 0x00C ∧ g.off ≠ 0x054 ∧ g.off ≠ 0x058 ∧ g.off ≠ 0x05C) :
    (s.faultRegs e code addr slot).fld (g.inst e) = s.fld (g.inst e) := by
  obtain ⟨h0, h1, h2, h3⟩ := ho
  unfold State.faultRegs State.setEngState
  rw [fld_setFld_eng_ne _ e _ hp rfl h3, fld_setFld_eng_ne _ e _ hp rfl h2, fld_setFld_eng_ne _ e _ hp rfl h1,
    fld_setFld_eng_ne _ e _ hp rfl h1, fld_setFld_eng_ne _ e _ hp rfl h1, fld_setFld_eng_ne _ e _ hp rfl h0]

/-- STATE and the fields of a fault. -/
theorem fld_faultRegs :
    (s.faultRegs e code addr slot).engState e = esFaulted ∧
      (s.faultRegs e code addr slot).fld (ENG_FAULT_INFO_CODE.inst e) = code % 2 ^ 5 ∧
      (s.faultRegs e code addr slot).fld (ENG_FAULT_INFO_ADDR.inst e) = addr % 2 ^ 13 ∧
      (s.faultRegs e code addr slot).fld (ENG_FAULT_INFO_SLOT.inst e) = slot % 2 ^ 2 ∧
      (s.faultRegs e code addr slot).fld (ENG_FAULT_LAP_LAP.inst e) = s.fld (ENG_LAP_NOW_LAP.inst e) ∧
      (s.faultRegs e code addr slot).fld (ENG_FAULT_FRAME_FRAME_LO.inst e) = s.fld (ENG_FRAME_NOW_FRAME_LO.inst e) := by
  unfold State.faultRegs
  refine ⟨?_, ?_, ?_, ?_, ?_, ?_⟩
  · unfold State.engState State.setEngState
    rw [fld_setFld_eng_ne _ e _ rfl rfl (by decide), fld_setFld_eng_ne _ e _ rfl rfl (by decide),
      fld_setFld_eng_ne _ e _ rfl rfl (by decide), fld_setFld_eng_ne _ e _ rfl rfl (by decide),
      fld_setFld_eng_ne _ e _ rfl rfl (by decide), fld_setFld_eng_same _ e _ (by decide)]
    rfl
  · rw [fld_setFld_eng_ne _ e _ rfl rfl (by decide), fld_setFld_eng_ne _ e _ rfl rfl (by decide),
      fld_setFld_eng_apart _ e _ (f := ENG_FAULT_INFO_SLOT) (g := ENG_FAULT_INFO_CODE) rfl rfl (by decide) (by decide),
      fld_setFld_eng_apart _ e _ (f := ENG_FAULT_INFO_ADDR) (g := ENG_FAULT_INFO_CODE) rfl rfl (by decide) (by decide),
      fld_setFld_eng_same _ e _ (by decide)]
    rfl
  · rw [fld_setFld_eng_ne _ e _ rfl rfl (by decide), fld_setFld_eng_ne _ e _ rfl rfl (by decide),
      fld_setFld_eng_apart _ e _ (f := ENG_FAULT_INFO_SLOT) (g := ENG_FAULT_INFO_ADDR) rfl rfl (by decide) (by decide),
      fld_setFld_eng_same _ e _ (by decide)]
    rfl
  · rw [fld_setFld_eng_ne _ e _ rfl rfl (by decide), fld_setFld_eng_ne _ e _ rfl rfl (by decide),
      fld_setFld_eng_same _ e _ (by decide)]
    rfl
  · rw [fld_setFld_eng_ne _ e _ rfl rfl (by decide), fld_setFld_eng_same _ e _ (by decide)]
    exact Nat.mod_eq_of_lt (fld_lt s (ENG_LAP_NOW_LAP.inst e))
  · rw [fld_setFld_eng_same _ e _ (by decide)]
    exact Nat.mod_eq_of_lt (fld_lt s (ENG_FRAME_NOW_FRAME_LO.inst e))

theorem quiet_faultRegs : Quiet s (s.faultRegs e code addr slot) :=
  (((((quiet_setFld s _ _).trans (quiet_setFld _ _ _)).trans (quiet_setFld _ _ _)).trans (quiet_setFld _ _ _)).trans
    (quiet_setFld _ _ _)).trans (quiet_setFld _ _ _)

theorem engineOnly_reported : EngineOnly e s (s.reported e code addr slot) :=
  ((EngineOnly.of_quiet (quiet_faultRegs s e code addr slot)).trans (EngineStep.modEng e _ EngS.flush).engineOnly).trans
    (engineOnly_withReport e _ _)

theorem memKept_reported : MemKept s (s.reported e code addr slot) :=
  ((MemKept.of_quiet (quiet_faultRegs s e code addr slot)).trans (EngineStep.modEng e _ EngS.flush).memKept).trans
    (memKept_withReport _ _)

theorem fld_withReport (r : Nat × Nat × Nat) (g : Fld) : (s.withReport r).fld g = s.fld g := rfl

theorem fld_reported (g : Fld) : (s.reported e code addr slot).fld g = (s.faultRegs e code addr slot).fld g := by
  rw [State.reported, fld_withReport, fld_modEng]

theorem reports_reported :
    (s.reported e code addr slot).plan.reports = s.plan.reports ++ [(e, code, s.fld (ENG_LAP_NOW_LAP.inst e))] := by
  have hplan : ((s.faultRegs e code addr slot).modEng e EngS.flush).plan = s.plan := by
    rw [(EngineStep.modEng e _ EngS.flush).1, quiet_faultRegs s e code addr slot]
  rw [State.reported, State.withReport, hplan]

theorem engineOnly_engFault : EngineOnly e s (s.engFault e code addr slot) :=
  EngineOnly.ite _ (EngineOnly.refl e s) ((engineOnly_reported s e code addr slot).trans (EngineOnly.of_quiet (quiet_raise _ _ _ _)))

variable (h : s.engState e ≠ esFaulted)
include h

theorem engFault_eq : s.engFault e code addr slot = (s.reported e code addr slot).raise (engPage e) 6
    (code + addr * 2 ^ 5 + slot * 2 ^ 18 + s.fld (ENG_LAP_NOW_LAP.inst e) * 2 ^ 20) := if_neg h

theorem memKept_engFault : MemKept s (s.engFault e code addr slot) := by
  rw [engFault_eq s e code addr slot h]
  exact (memKept_reported s e code addr slot).trans (MemKept.of_quiet (quiet_raise _ _ _ _))

theorem fld_engFault {g : Fld} (hp : g.page = 16) (ho : g.off ≠ 0x010) :
    (s.engFault e code addr slot).fld (g.inst e) = (s.faultRegs e code addr slot).fld (g.inst e) := by
  have hkey : evKey (engPage e) (g.inst e).key = false := by
    simp only [Fld.key, Fld.inst, hp]
    exact evKey_eng e g.off ho
  rw [engFault_eq s e code addr slot h, fld_of_regsKept (regsKept_raise _ _ _ _) hkey]
  exact fld_reported s e code addr slot _

theorem engState_engFault : (s.engFault e code addr slot).engState e = esFaulted :=
  (fld_engFault s e code addr slot h (g := ENG_STATUS_STATE) rfl (by decide)).trans (fld_faultRegs s e code addr slot).1

theorem event_engFault : ((s.engFault e code addr slot).reg (regKey (0x10 + e) 0x010)).getLsbD 6 = true := by
  rw [engFault_eq s e code addr slot h]
  exact event_raise _ (engPage e) 6 _ (by decide)

theorem reports_engFault : (s.engFault e code addr slot).plan.reports =
    s.plan.reports ++ [(e, code, s.fld (ENG_LAP_NOW_LAP.inst e))] := by
  have hplan (t : State) (k a : Nat) : (t.raise (engPage e) k a).plan = t.plan := by rw [quiet_raise t (engPage e) k a]
  rw [engFault_eq s e code addr slot h, hplan]
  exact reports_reported s e code addr slot

end

end Sys2Proof.Machine
end

section
/-! PROOF. No step of an engine touches more than an engine step may touch (R129), whatever its outcome. -/

namespace Sys2Proof.Machine

open Sys2Proof

/-- Only KEND reads what window the bundle's engine stands in. -/
theorem afterIssue_windowless (s : State) (e : Nat) (x : EngS) {c : CSyl} (hc : c ≠ .kend) :
    s.afterIssue e x c = s.afterIssue e { x with window := none } c := by
  cases c with
  | kend => exact absurd rfl hc
  | _ => rfl

namespace EngineOnly

variable (e : Nat) (s : State)

/-! Reads of a bank (R212, R225, R231). -/

theorem takeFree : EngineOnly e s s.takeFree := ⟨rfl, fun _ _ => rfl⟩

theorem readWord (b off cls : Nat) : EngineOnly e s (s.readWord b off cls).2.2 := by
  unfold State.readWord
  dsimp only
  split
  · exact refl e s
  · split
    · exact eccCorr e s b off cls
    · exact eccUncorr e s b off cls

theorem bankMeets (b off : Nat) (laterS : Bool) : EngineOnly e s (s.bankMeets b off laterS) := by
  have hbusy (t : State) (n : Option Nat) : EngineOnly e t { t with bankBusy := n } := ⟨rfl, fun _ _ => rfl⟩
  unfold State.bankMeets
  refine trans ?_ (of_quiet ((quiet_emit _ _).trans (quiet_raise _ _ _ _)))
  exact ((setFld e s _ _).trans (setReg e _ _ _)).trans (hbusy _ _)

theorem eRead (b off : Nat) : EngineOnly e s (s.eRead b off).2.2 := by
  unfold State.eRead
  dsimp only
  split
  · exact readWord e s b off 0
  · next q _ =>
    generalize hu : s.setBank b _ = u
    have hs : EngineOnly e s u := hu ▸ setBank e s b _
    have hr : EngineOnly e s (u.takeFree.readWord b off 0).2.2 := (hs.trans (takeFree e u)).trans (readWord e _ b off 0)
    split
    · exact hs.trans (readWord e u b off 0)
    · split
      · exact hr
      · split
        · exact hr.trans ((takeFree e _).trans (bankMeets e _ b off false))
        · exact hr

theorem loadWords (b : Nat) (ws : List (Nat × Nat × Nat)) : EngineOnly e s (s.loadWords b ws).2.2 := by
  induction ws generalizing s with
  | nil => exact refl e s
  | cons w ws ih => exact (eRead e s b w.1).trans (ih _)

theorem loadAcc (acc : Option MAcc) (own : Bool) : EngineOnly e s (s.loadAcc acc own).2.2 := by
  unfold State.loadAcc
  split
  · split
    · exact loadWords e s _ _
    · exact refl e s
  · exact refl e s

theorem stallWho (b off : Nat) (who : Who) : EngineOnly e s (s.stallWho b off who) := ite _ (setBank e s b _) (refl e s)

theorem foreign (b off cls : Nat) (write : Bool) : EngineOnly e s (s.foreign b off cls write) :=
  (setFld e s _ _).trans (of_quiet (quiet_raise _ _ _ _))

/-! The fetch (R127). -/

theorem setGroom (g : GroomS) : EngineOnly e s { s with groom := g } := ⟨rfl, fun _ _ => rfl⟩

theorem fetchEcc : EngineOnly e s (s.fetchEcc e).2 := by
  unfold State.fetchEcc
  dsimp only
  split
  · exact ((setGroom e s _).trans (setFld e _ _ _)).trans (of_quiet (quiet_raise _ _ _ _))
  · split
    · exact of_quiet (quiet_raise _ _ _ _)
    · exact refl e s

/-! Kernels (R165, R242). -/

theorem setSched (d : SchedS) : EngineOnly e s { s with sched := d } := ⟨rfl, fun _ _ => rfl⟩

theorem kernelFault (w : Window) (k : Kernel) (addr : Nat) : EngineOnly e s (s.kernelFault e w k addr) :=
  ((EngineStep.modEng e s _).engineOnly.trans (setSched e _ _)).trans (of_quiet (quiet_raise _ _ _ _))

theorem breach (x : EngS) : EngineOnly e s (s.breach e x) := by
  unfold State.breach
  split
  · exact (kernelFault e s _ _ _).trans (engineStep_countStep e _ _ _).engineOnly
  · exact refl e s

theorem kernelForeign (x : EngS) (acc : Option MAcc) : EngineOnly e s (s.kernelForeign e x acc) := by
  unfold State.kernelForeign
  split
  · exact (foreign e s _ _ _ _).trans (breach e _ x)
  · exact refl e s

theorem kernelEnd (w : Window) (r : Nat) : EngineOnly e s (s.kernelEnd e w r) :=
  (EngineStep.modEng e s _).engineOnly.trans (setSched e _ _)

theorem afterIssue (x : EngS) (c : CSyl) : EngineOnly e s (s.afterIssue e x c) := by
  cases hk : x.kernelWin with
  | none => exact (engineStep_afterIssue_plan s e x c hk).engineOnly
  | some q =>
    obtain ⟨w, k⟩ := q
    by_cases hc : c = .kend
    · rw [hc]
      simp only [State.afterIssue, hk]
      exact kernelEnd e s _ _
    · rw [afterIssue_windowless s e x hc]
      exact (engineStep_afterIssue_plan s e { x with window := none } c rfl).engineOnly

end EngineOnly

section

variable (s : State) (e : Nat) (x : EngS) (y : Syls) (rs : List Pend) (acc : Option MAcc)

theorem EngineOnly.perform : EngineOnly e s (s.perform e x y rs acc) :=
  ((engineOnly_stored e s acc).trans (engineStep_ranBy s e x y rs acc).engineOnly).trans (EngineOnly.afterIssue e _ x y.c)

theorem EngineOnly.complete (own : Bool) (flt : Nat × Nat) : EngineOnly e s (s.complete e x y acc own flt) := by
  have hload (who : Who) : EngineOnly e s ((s.loadAcc acc own).2.2.granted acc who) :=
    (EngineOnly.loadAcc e s acc own).trans (engineOnly_granted e _ acc who)
  unfold State.complete
  dsimp only
  split
  · exact (hload _).trans (engineOnly_engFault _ e _ _ _)
  · split
    · exact (hload _).trans (engineOnly_engFault _ e _ _ _)
    · split
      · exact (hload _).trans (EngineOnly.kernelForeign e _ x acc)
      · exact (hload _).trans (EngineOnly.perform _ e x y _ acc)

end

theorem EngineOnly.issue (s : State) (e : Nat) : EngineOnly e s (s.issue e) := by
  have hat : EngineOnly e s (s.atIssue e) := (EngineStep.setEng e s _).engineOnly
  have hf := hat.trans (EngineOnly.fetchEcc e (s.atIssue e))
  rw [issue_eq]
  split
  · exact hat.trans (engineOnly_engFault _ e _ _ _)
  · unfold State.checked
    dsimp only
    split
    · exact hf.trans (EngineOnly.breach e _ _)
    · split
      · exact hf.trans (engineOnly_engFault _ e _ _ _)
      · unfold State.unlessStalled
        split
        · exact EngineOnly.stallWho e s _ _ _
        · exact hf.trans (EngineOnly.complete _ e _ _ _ _ _)

/-- Any step of an engine touches nothing but what an engine step may touch. -/
theorem EngineOnly.engStep (s : State) (e : Nat) (p : Syls → Bool) : EngineOnly e s (s.engStep e p) :=
  EngineOnly.ite _ (EngineOnly.issue s e) (EngineOnly.refl e s)

end Sys2Proof.Machine
end

section
/-! PROOF. The commands of one bundle, opcodes not listed, and the end of a kernel (O30). -/

namespace Sys2Proof.Machine

open Sys2Proof

/-- NOP in a slot is a command of the step that issues its bundle (R141, log entry 14). -/
theorem exec_nop_issues {e sl : Nat} {y : Syls} {s : State} (h : s.Issues e y) (hn : y.nopIn sl = true) :
    exec (.nop e sl) s = .next (s.issue e) := by
  obtain ⟨hrun, -, -, hdec, -⟩ := h
  change Host.Outcome.next (s.engStep e fun y => y.nopIn sl) = _
  simp [State.engStep, hrun, hdec, hn]

/-! The first slot with an opcode that is not listed (R142, R168). -/

/-- ILLEGAL_OP, once found, stays: no code is lower and no slot is earlier. -/
theorem lowFault_illegal (l : List (Nat × Nat)) (sl : Nat) : l.foldl lowFault (fcIllegalOp, sl) = (fcIllegalOp, sl) := by
  induction l with
  | nil => rfl
  | cons q l ih =>
    have hq : lowFault (fcIllegalOp, sl) q = (fcIllegalOp, sl) := by
      simp only [lowFault, fcIllegalOp, one_ne_zero, if_false]
      exact if_pos (Nat.eq_zero_or_pos q.1)
    rw [List.foldl_cons, hq, ih]

/-- ILLEGAL_OP is lower than what has been found before it. -/
theorem lowFault_to_illegal {a : Nat × Nat} (sl : Nat) (h : a.1 ≠ 1) : lowFault a (fcIllegalOp, sl) = (fcIllegalOp, sl) := by
  simp only [lowFault, fcIllegalOp, one_ne_zero, false_or]
  split
  · rfl
  · rw [if_neg (by omega)]

theorem foldl_to_illegal {a : Nat × Nat} (sl : Nat) (l : List (Nat × Nat)) (h : a.1 ≠ 1) :
    l.foldl lowFault (lowFault a (1, sl)) = (fcIllegalOp, sl) := by
  change l.foldl lowFault (lowFault a (fcIllegalOp, sl)) = _
  rw [lowFault_to_illegal sl h, lowFault_illegal]

/-- A code that is neither of two codes is not the lower of them. -/
theorem lowFault_ne {a b : Nat × Nat} {n : Nat} (ha : a.1 ≠ n) (hb : b.1 ≠ n) : (lowFault a b).1 ≠ n := by
  unfold lowFault
  split
  · exact hb
  · split <;> assumption

theorem VSyl.fault_bad {y : VSyl} {n : Nat} (h : n ≠ 0) : y.fault = n ↔ y = .bad n := by
  cases y <;> simp [VSyl.fault, h.symm]

theorem MSyl.fault_bad {y : MSyl} {n : Nat} (h : n ≠ 0) : y.fault = n ↔ y = .bad n := by
  cases y <;> simp [MSyl.fault, h.symm]

theorem CSyl.fault_bad {y : CSyl} {n : Nat} (h : n ≠ 0) : y.fault = n ↔ y = .bad n := by
  cases y <;> simp [CSyl.fault, h.symm]

/-- The decode faults of the four slots come first, so the first ILLEGAL_OP among them is the bundle's fault. -/
theorem firstIllegal (a b c d : Nat) (l : List (Nat × Nat)) (h : a = 1 ∨ b = 1 ∨ c = 1 ∨ d = 1) :
    ((b, 1) :: (c, 2) :: (d, 3) :: l).foldl lowFault (a, 0) =
      (fcIllegalOp, if a = 1 then 0 else if b = 1 then 1 else if c = 1 then 2 else 3) := by
  by_cases ha : a = 1
  · rw [if_pos ha, ha]
    exact lowFault_illegal _ 0
  rw [if_neg ha, List.foldl_cons]
  by_cases hb : b = 1
  · rw [if_pos hb, hb]
    exact foldl_to_illegal 1 _ ha
  rw [if_neg hb, List.foldl_cons]
  have hab := lowFault_ne (a := (a, 0)) (b := (b, 1)) ha hb
  by_cases hc : c = 1
  · rw [if_pos hc, hc]
    exact foldl_to_illegal 2 _ hab
  have hd : d = 1 := by simpa [ha, hb, hc] using h
  rw [if_neg hc, List.foldl_cons, hd]
  exact foldl_to_illegal 3 _ (lowFault_ne hab (b := (c, 2)) hc)

/-- The fault of a bundle with an opcode that is not listed: ILLEGAL_OP at the first such slot. -/
theorem bundleFault_illegal (x : EngS) (y : Syls) (ecc : Nat) (own inKernel : Bool)
    (h : y.va = .bad 1 ∨ y.vb = .bad 1 ∨ y.m = .bad 1 ∨ y.c = .bad 1) :
    bundleFault x y ecc own inKernel =
      (fcIllegalOp, if y.va = .bad 1 then 0 else if y.vb = .bad 1 then 1 else if y.m = .bad 1 then 2 else 3) := by
  simp only [← VSyl.fault_bad one_ne_zero, ← MSyl.fault_bad one_ne_zero, ← CSyl.fault_bad one_ne_zero] at h ⊢
  unfold bundleFault
  simp only [List.cons_append, List.nil_append]
  exact firstIllegal _ _ _ _ _ h

/-! An opcode that is not listed. -/

theorem engState_atIssue (s : State) (e : Nat) : (s.atIssue e).engState e = s.engState e := rfl

/-- The command ILLEGAL_OP is the step that issues a bundle with an opcode that is not listed. -/
theorem exec_illegalOp {s : State} {e : Nat} (hrun : s.issuing e = true)
    (h : (decodeBundle (s.bundleNow e)).va = .bad 1 ∨ (decodeBundle (s.bundleNow e)).vb = .bad 1 ∨
      (decodeBundle (s.bundleNow e)).m = .bad 1 ∨ (decodeBundle (s.bundleNow e)).c = .bad 1) :
    exec (.illegalOp e) s = .next (s.issue e) := by
  change Host.Outcome.next (s.engStep e _) = _
  unfold State.engStep
  rw [if_pos ⟨hrun, by simpa [fcIllegalOp, or_assoc] using h⟩]

/-! The end of a kernel (R165, R242). -/

theorem engSlot_of_regsKept {s t : State} {e : Nat} (h : RegsKept (countKey e) s t) : t.engSlot e = s.engSlot e :=
  fld_of_regsKept h (countKey_status e)

section

variable (s : State) (e : Nat) (w : Window) (r : Nat)

/-- What the end of a kernel leaves. -/
theorem kernelEnd_spec : ((s.kernelEnd e w r).eng e).window = some { w with kernel := none } ∧
    ((s.kernelEnd e w r).eng e).loops = [] ∧ (s.kernelEnd e w r).sched.done = s.sched.done ++ [(s.engSlot e, r % 2 ^ 16)] ∧
    (s.kernelEnd e w r).regs = s.regs := by
  have heng (f : EngS → EngS) (d : SchedS) : ({ s.modEng e f with sched := d } : State).eng e = f (s.eng e) :=
    eng_modEng_same s e f
  unfold State.kernelEnd
  rw [heng]
  exact ⟨rfl, rfl, rfl, rfl⟩

theorem memKept_kernelEnd : MemKept s (s.kernelEnd e w r) :=
  ⟨fun _ => ⟨rfl, rfl⟩, fun _ _ => ⟨rfl, rfl⟩, fun _ _ => rfl⟩

end

/-- A kernel's bundle with KEND that breaks no rule and has no access ends its kernel. -/
theorem issue_kend {s : State} {e : Nat} {y : Syls} {w : Window} {k : Kernel} (hk : (s.eng e).kernelWin = some (w, k))
    (hlap : s.lapFull e = false) (hdec : decodeBundle (s.bundleNow e) = y) (hc : y.c = .kend)
    (hecc : mapGet (fun _ => 0) (s.eng e).imemErr (s.fld (ENG_SEG_MAP_SEG.inst e) * 8192 + (s.eng e).pc) = 0)
    (hflt : (bundleFault (s.issuer e) y 0 true true).1 = 0) (hacc : mAccess (s.issuer e) y.m = none)
    (hok : kernelOk (y.results (s.issuer e) ((s.atIssue e).rdsys e) []) y = true) :
    s.issue e = ((s.atIssue e).ranBy e (s.issuer e) y (y.results (s.issuer e) ((s.atIssue e).rdsys e) []) none).kernelEnd e
      { w with left := w.left - 1, asked := true } ((s.issuer e).rs 24) := by
  have hkx : (s.issuer e).kernelWin = some (w, k) := (kernelWin_issuer s e).trans hk
  have hbr : (s.issuer e).breaches y (y.results (s.issuer e) ((s.atIssue e).rdsys e) []) = false := by
    simp [EngS.breaches, hkx, hok, hc]
  have hfault : (s.faultOf e y).1 = 0 := by
    rw [State.faultOf, hacc, hkx]
    exact hflt
  rw [issue_completes hlap hdec hecc hbr hfault (by rw [hacc]; rfl) (by rw [hacc]; rfl), hacc, complete_good hfault rfl,
    perform_ranBy, hc, State.afterIssue, hkx]
  rfl

end Sys2Proof.Machine
open Sys2Proof Sys2Proof.Machine

/-- Settles O30: each command of a bundle is `State.issue`; the fold of R168 stops at the first ILLEGAL_OP; KEND runs into
`State.kernelEnd`. -/
theorem oneBundleOneStep : Obligations.OneBundleOneStep := by
  intro e s
  refine ⟨fun y sl h hn => ?_, fun y hrun hk hlap hdec hecc hbad => ?_, fun y w k hrun hk hlap hdec hc hecc hflt hacc hok => ?_,
    fun p => EngineOnly.engStep s e p⟩
  · have hnop := exec_nop_issues h hn
    rw [hnop]
    obtain ⟨rs, mono, port, -, hstep, -⟩ := sameRun_issue h
    refine ⟨⟨_, rfl, ?_, EngineOnly.issue s e⟩, fun o f hy => exec_vecCmd_issues e false o f y s h hy,
      fun o f hy => exec_vecCmd_issues e true o f y s h hy, fun i hi => exec_memCmd_issues h hi,
      fun i hi => exec_ctlCmd_issues h hi⟩
    rw [hstep, issued_frame]
    rfl
  · have hst : (s.atIssue e).engState e ≠ esFaulted := by
      rw [engState_atIssue, engState_of_issuing hrun hk]
      decide
    have hbr : (s.issuer e).breaches y (y.results (s.issuer e) ((s.atIssue e).rdsys e) []) = false := by
      simp [EngS.breaches, kernelWin_issuer, hk]
    have hfault := bundleFault_illegal (s.issuer e) y 0 ((s.atIssue e).admitsAcc e (mAccess (s.issuer e) y.m))
      (s.issuer e).kernelWin.isSome hbad
    have hissue := issue_faults hlap hdec hecc hbr (by rw [State.faultOf, hfault]; exact one_ne_zero)
      (by rw [State.faultOf, hfault]; exact (by decide : fcIllegalOp < fcLoadPoison))
    rw [State.faultOf, hfault] at hissue
    refine ⟨s.issue e, exec_illegalOp hrun (hdec ▸ hbad), ?_⟩
    have hat : EngineStep e s (s.atIssue e) := EngineStep.setEng e s _
    rw [hissue]
    generalize hsl : (if y.va = .bad 1 then 0 else if y.vb = .bad 1 then 1 else if y.m = .bad 1 then 2 else 3) = sl
    obtain ⟨-, hcode, haddr, hslot, hl, hfr⟩ := fld_faultRegs (s.atIssue e) e fcIllegalOp (s.issuer e).pc sl
    have hfld (g : Fld) (hp : g.page = 16) (ho : g.off ≠ 0x010) :=
      fld_engFault (s.atIssue e) e fcIllegalOp (s.issuer e).pc sl hst (g := g) hp ho
    have hkept (g : Fld) (hp : g.page = 16) (ho : g.off ≠ 0x00C ∧ g.off ≠ 0x054 ∧ g.off ≠ 0x058 ∧ g.off ≠ 0x05C) :=
      fld_faultRegs_ne (s.atIssue e) e fcIllegalOp (s.issuer e).pc sl (g := g) hp ho
    have hsl4 : sl < 2 ^ 2 := by
      rw [← hsl]
      split_ifs <;> decide
    refine ⟨engState_engFault _ e _ _ _ hst, ?_, ?_, ?_, ?_, ?_, event_engFault _ e _ _ _ hst, reports_engFault _ e _ _ _ hst, ?_,
      hat.memKept.trans (memKept_engFault _ e _ _ _ hst), hat.engineOnly.trans (engineOnly_engFault _ e _ _ _)⟩
    · rw [hfld ENG_FAULT_INFO_CODE rfl (by decide), hcode]
      rfl
    · rw [hfld ENG_FAULT_INFO_ADDR rfl (by decide), haddr]
      simp [State.issuer, State.atStep]
    · rw [hfld ENG_FAULT_INFO_SLOT rfl (by decide), hslot, Nat.mod_eq_of_lt hsl4]
    · rw [hfld ENG_FAULT_LAP_LAP rfl (by decide), hl]
      rfl
    · rw [hfld ENG_FAULT_FRAME_FRAME_LO rfl (by decide), hfr]
      rfl
    · rw [State.pair, hfld ENG_STEPS_LO_COUNT rfl (by decide), hfld ENG_STEPS_HI_COUNT rfl (by decide),
        hkept ENG_STEPS_LO_COUNT rfl (by decide), hkept ENG_STEPS_HI_COUNT rfl (by decide)]
      rfl
  · have hrs : y.results (s.issuer e) ((s.atIssue e).rdsys e) [] = vPend (s.atStep e) (s.atStep e).step 0 y.va ++
        vPend (s.atStep e) (s.atStep e).step 1 y.vb ++ mPend (s.atStep e) (s.atStep e).step y.m [] := by
      rw [Syls.results, hc]
      exact List.append_nil _
    have hissue := issue_kend hk hlap hdec hc hecc hflt hacc (by rw [hrs]; exact hok)
    have hstep := (EngineStep.setEng e s (s.issuer e)).trans (engineStep_ranBy (s.atIssue e) e (s.issuer e) y
      (y.results (s.issuer e) ((s.atIssue e).rdsys e) []) none)
    have hregs := regsKept_ranBy (s.atIssue e) e (s.issuer e) y (y.results (s.issuer e) ((s.atIssue e).rdsys e) []) none
    have hexec : exec (.kend e) s = .next (s.issue e) := by
      change Host.Outcome.next (s.cOp e .kend) = _
      simp [State.cOp, State.engStep, hrun, hdec, hc]
    refine ⟨s.issue e, hexec, ?_⟩
    generalize (s.atIssue e).ranBy e (s.issuer e) y (y.results (s.issuer e) ((s.atIssue e).rdsys e) []) none = t at *
    obtain ⟨hwin, hloops, hdone, hkregs⟩ := kernelEnd_spec t e { w with left := w.left - 1, asked := true } ((s.issuer e).rs 24)
    refine ⟨?_, ?_, ?_, ?_, ?_, EngineOnly.issue s e⟩
    · rw [hissue, hwin]
    · rw [hissue, hdone, engSlot_of_regsKept hregs, hstep.1]
      rfl
    · have hstate : t.engState e = s.engState e := fld_of_regsKept hregs (countKey_status e)
      rw [hissue, ← hstate]
      unfold State.engState State.fld State.reg
      rw [hkregs]
    · rw [hissue, hloops]
    · rw [hissue]
      exact hstep.memKept.trans (memKept_kernelEnd t e _ _)
end

section
/-! PROOF. The save record of a lap (R160, R161, Table 04-7): which words it writes and what they hold. -/

namespace Sys2Proof.Machine

open Sys2Proof

/-! Whole words written to a bank. -/

/-- A whole word stored, good whatever the word was before (R212). -/
def State.putFull (s : State) (b : Nat) (q : Nat × DWord) : State := (s.putWord b q.1 q.2).putErr b q.1 0

theorem writeWord_full (s : State) (b off : Nat) (v : DWord) (cls : Nat) :
    s.writeWord b off (BitVec.allOnes 64) v cls = s.putFull b (off, v) := by
  unfold State.writeWord
  rw [if_neg (by decide), if_pos rfl]
  rfl

theorem bankWord_putFull (s : State) (b c o : Nat) (q : Nat × DWord) :
    (s.putFull b q).bankWord c o = if bankKey c o = bankKey b q.1 then q.2 else s.bankWord c o := by
  rw [State.putFull, bankWord_putErr, bankWord_putWord]

/-- Whole words written in the order of the list. -/
def State.putFulls (s : State) (b : Nat) (l : List (Nat × DWord)) : State := l.foldl (fun t q => t.putFull b q) s

theorem putFulls_cons (s : State) (b : Nat) (q : Nat × DWord) (l : List (Nat × DWord)) :
    s.putFulls b (q :: l) = (s.putFull b q).putFulls b l := by
  rw [State.putFulls, State.putFulls, List.foldl_cons]

/-- Nothing but words of the banks and their check states differs. -/
def BankMemOnly (s t : State) : Prop := t = { s with bankMem := t.bankMem, bankErr := t.bankErr }

theorem BankMemOnly.trans {s t u : State} (h : BankMemOnly s t) (g : BankMemOnly t u) : BankMemOnly s u := by
  unfold BankMemOnly at *
  rw [g, h]

theorem bankMemOnly_putFulls (s : State) (b : Nat) (l : List (Nat × DWord)) : BankMemOnly s (s.putFulls b l) := by
  induction l generalizing s with
  | nil => rfl
  | cons q l ih =>
    rw [putFulls_cons]
    exact BankMemOnly.trans (t := s.putFull b q) rfl (ih _)

/-- A place that the writes do not meet is as before. -/
theorem bankWord_putFulls_other {b c o : Nat} (l : List (Nat × DWord)) (h : ∀ q ∈ l, bankKey c o ≠ bankKey b q.1) (s : State) :
    (s.putFulls b l).bankWord c o = s.bankWord c o := by
  induction l generalizing s with
  | nil => rfl
  | cons q l ih =>
    rw [putFulls_cons, ih (fun p hp => h p (by simp [hp])), bankWord_putFull, if_neg (h q (by simp))]

/-- A place that the writes meet holds what all of them write there. -/
theorem bankWord_putFulls {b c o : Nat} {v : DWord} (l : List (Nat × DWord)) (s : State)
    (hall : ∀ q ∈ l, bankKey c o = bankKey b q.1 → q.2 = v)
    (h : s.bankWord c o = v ∨ ∃ q ∈ l, bankKey c o = bankKey b q.1) : (s.putFulls b l).bankWord c o = v := by
  induction l generalizing s with
  | nil =>
    obtain h | ⟨q, hq, -⟩ := h
    · exact h
    · simp at hq
  | cons q l ih =>
    rw [putFulls_cons]
    refine ih (s.putFull b q) (fun p hp => hall p (by simp [hp])) ?_
    rw [bankWord_putFull]
    by_cases hq : bankKey c o = bankKey b q.1
    · exact .inl (by rw [if_pos hq, hall q (by simp) hq])
    · rw [if_neg hq]
      obtain h | ⟨p, hp, hkey⟩ := h
      · exact .inl h
      · obtain rfl | hp := List.mem_cons.1 hp
        · exact absurd hkey hq
        · exact .inr ⟨p, hp, hkey⟩

/-! The rows of a record. -/

/-- The words a row of a record at `a` writes. -/
def rowPuts (a : Nat) (r : Nat × List Nat) : List (Nat × DWord) :=
  (r.2.zip (List.range 8)).map fun q => (natBits a 0 18 + 64 * r.1 + 8 * q.2, BitVec.ofNat 64 q.1)

theorem putRow_puts (s : State) (a : Nat) (r : Nat × List Nat) : s.putRow a r.1 r.2 = s.putFulls (natBits a 18 5) (rowPuts a r) := by
  unfold State.putRow State.putFulls rowPuts
  rw [List.foldl_map]
  simp only [writeWord_full]

/-- The rows of a record at `a` written. -/
def State.putRows (s : State) (a : Nat) (rows : List (Nat × List Nat)) : State := rows.foldl (fun u r => u.putRow a r.1 r.2) s

theorem putRows_puts (s : State) (a : Nat) (rows : List (Nat × List Nat)) :
    s.putRows a rows = s.putFulls (natBits a 18 5) (rows.flatMap (rowPuts a)) := by
  unfold State.putRows
  induction rows generalizing s with
  | nil => rfl
  | cons r rows ih =>
    rw [List.foldl_cons, ih, putRow_puts, List.flatMap_cons, State.putFulls, State.putFulls, State.putFulls, List.foldl_append]

theorem mem_rowPuts {a : Nat} {r : Nat × List Nat} {q : Nat × DWord} : q ∈ rowPuts a r ↔
    ∃ j w, j < 8 ∧ r.2[j]? = some w ∧ q = (natBits a 0 18 + 64 * r.1 + 8 * j, BitVec.ofNat 64 w) := by
  simp only [rowPuts, List.mem_map, Prod.exists]
  constructor
  · rintro ⟨w, j, hmem, rfl⟩
    obtain ⟨i, hi⟩ := List.mem_iff_getElem?.1 hmem
    obtain ⟨hw, hj⟩ := List.getElem?_zip_eq_some.1 hi
    obtain ⟨hlt, rfl⟩ := List.getElem?_eq_some_iff.1 hj
    rw [List.length_range] at hlt
    rw [List.getElem_range]
    exact ⟨i, w, hlt, hw, rfl⟩
  · rintro ⟨j, w, hj, hw, rfl⟩
    exact ⟨w, j, List.mem_iff_getElem?.2 ⟨j, List.getElem?_zip_eq_some.2 ⟨hw, List.getElem?_range hj⟩⟩, rfl⟩

/-- Different words of a record lie at different places. -/
theorem bankKey_record {bank base r j r' j' : Nat} (hr : r < 68) (hr' : r' < 68) (hj : j < 8) (hj' : j' < 8)
    (h : bankKey bank (base + 64 * r + 8 * j) = bankKey bank (base + 64 * r' + 8 * j')) : r = r' ∧ j = j' := by
  simp only [bankKey] at h
  omega

/-- A word of a row of a record, once the record is written, provided each row number stands for one row. -/
theorem bankWord_putRows {s : State} {a : Nat} {rows : List (Nat × List Nat)} {f : Nat → List Nat}
    (hf : ∀ r ∈ rows, r.1 < 68 ∧ r.2 = f r.1) {r : Nat × List Nat} (hr : r ∈ rows) {j w : Nat} (hj : j < 8)
    (hw : r.2[j]? = some w) :
    (s.putRows a rows).bankWord (natBits a 18 5) (natBits a 0 18 + 64 * r.1 + 8 * j) = BitVec.ofNat 64 w := by
  rw [putRows_puts]
  refine bankWord_putFulls _ _ (fun q hq hkey => ?_) (.inr ?_)
  · obtain ⟨r', hr', hq⟩ := List.mem_flatMap.1 hq
    obtain ⟨j', w', hj', hw', rfl⟩ := mem_rowPuts.1 hq
    obtain ⟨hrr, rfl⟩ := bankKey_record (hf r hr).1 (hf r' hr').1 hj hj' hkey
    have hrow : r'.2 = r.2 := by rw [(hf r' hr').2, (hf r hr).2, hrr]
    rw [hrow, hw] at hw'
    cases hw'
    rfl
  · exact ⟨_, List.mem_flatMap.2 ⟨r, hr, mem_rowPuts.2 ⟨j, w, hj, hw, rfl⟩⟩, rfl⟩

/-- A record writes no other bank. -/
theorem bankWord_putRows_other {s : State} {a b off : Nat} (rows : List (Nat × List Nat)) (h : b ≠ natBits a 18 5) :
    (s.putRows a rows).bankWord b off = s.bankWord b off := by
  rw [putRows_puts]
  refine bankWord_putFulls_other _ (fun q _ hkey => ?_) s
  simp only [bankKey] at hkey
  omega

theorem bankMemOnly_putRows (s : State) (a : Nat) (rows : List (Nat × List Nat)) : BankMemOnly s (s.putRows a rows) := by
  rw [putRows_puts]
  exact bankMemOnly_putFulls s _ _

/-! The rows of a save (Table 04-7). -/

/-- Word 0 of the header rows. -/
def saveHead (frame lap g : Nat) : Nat := frame % 2 ^ 32 + lap * 2 ^ 32 + g * 2 ^ 45

/-- The passes left of loop level `k`, the outer one being level 0. -/
def EngS.levelCount (x : EngS) (k : Nat) : Nat := match x.loops.reverse[k]? with | some q => q.count | none => 0

/-- The ends of loop level `k`. -/
def EngS.levelEnds (x : EngS) (k : Nat) : Nat := match x.loops.reverse[k]? with | some q => q.start + q.end_ * 2 ^ 16 | none => 0

/-- Row 0: the header. -/
def saveRow0 (x : EngS) (frame lap g : Nat) : List Nat :=
  [saveHead frame lap g, x.pc + x.loops.length * 2 ^ 13, x.levelCount 0 + x.levelCount 1 * 2 ^ 32,
      x.levelEnds 0 + x.levelEnds 1 * 2 ^ 32] ++
    (List.range 4).map fun j => x.rp (2 * j) + x.rp (2 * j + 1) * 2 ^ 32

/-- A row of a V register. -/
def saveRowV (x : EngS) (n : Nat) : List Nat := (List.range 8).map fun j => natBits (x.rv n) (64 * j) 64

/-- The row of a save with number `r`. -/
def saveRow (x : EngS) (frame lap g r : Nat) : List Nat :=
  if r = 0 then saveRow0 x frame lap g
  else if r = 1 then pairWords x.rs 0
  else if r = 2 then pairWords x.rs 16
  else if r = 3 then [saveHead frame lap g, 0, 0, 0, 0, 0, 0, 0]
  else saveRowV x (r - 4)

theorem saveRows_eq (x : EngS) (frame lap g : Nat) : saveRows x frame lap g =
    [(0, saveRow0 x frame lap g), (1, pairWords x.rs 0), (2, pairWords x.rs 16)] ++
      (vgrpRegs g).map (fun n => (4 + n, saveRowV x n)) ++ [(3, [saveHead frame lap g, 0, 0, 0, 0, 0, 0, 0])] := rfl

theorem mem_saveRows {x : EngS} {frame lap g : Nat} {r : Nat × List Nat} (h : r ∈ saveRows x frame lap g) :
    r.1 < 68 ∧ r.2 = saveRow x frame lap g r.1 := by
  simp only [saveRows_eq, List.cons_append, List.nil_append, List.mem_cons, List.mem_append, List.mem_map, vgrpRegs,
    List.mem_filter, List.mem_range, List.not_mem_nil, or_false] at h
  obtain rfl | rfl | rfl | ⟨n, ⟨hn, -⟩, rfl⟩ | rfl := h
  · exact ⟨by dsimp only; omega, rfl⟩
  · exact ⟨by dsimp only; omega, rfl⟩
  · exact ⟨by dsimp only; omega, rfl⟩
  · refine ⟨by dsimp only; omega, ?_⟩
    simp only [saveRow]
    rw [if_neg (by omega), if_neg (by omega), if_neg (by omega), if_neg (by omega), Nat.add_sub_cancel_left]
  · exact ⟨by dsimp only; omega, rfl⟩

section

variable {s : State} {x : EngS} {a frame lap g : Nat}

/-- The header's word 0 stands in the first and in the last row written. -/
theorem bankWord_saveHead {row : Nat} (h : row ∈ [0, 3]) :
    (s.putRows a (saveRows x frame lap g)).bankWord (natBits a 18 5) (natBits a 0 18 + 64 * row) =
      BitVec.ofNat 64 (saveHead frame lap g) := by
  have hrow (q : List Nat) (hq : (row, q) ∈ saveRows x frame lap g) (hw : q[0]? = some (saveHead frame lap g)) :=
    bankWord_putRows (s := s) (a := a) (fun r hr => mem_saveRows hr) hq (j := 0) (by decide) hw
  simp only [List.mem_cons, List.not_mem_nil, or_false] at h
  obtain rfl | rfl := h
  · exact hrow (saveRow0 x frame lap g) (by simp [saveRows_eq]) rfl
  · exact hrow [saveHead frame lap g, 0, 0, 0, 0, 0, 0, 0] (by simp [saveRows_eq]) rfl

theorem bankWord_saveS {j : Nat} (hj : j < 8) :
    (s.putRows a (saveRows x frame lap g)).bankWord (natBits a 18 5) (natBits a 0 18 + 64 + 8 * j) =
      BitVec.ofNat 64 (x.rs (2 * j) + x.rs (2 * j + 1) * 2 ^ 32) := by
  have hw : (pairWords x.rs 0)[j]? = some (x.rs (2 * j) + x.rs (2 * j + 1) * 2 ^ 32) := by
    simp [pairWords, List.getElem?_range hj]
  exact bankWord_putRows (fun r hr => mem_saveRows hr) (r := (1, pairWords x.rs 0)) (by simp [saveRows_eq]) hj hw

theorem bankWord_saveV {r j : Nat} (hr : r < 64) (hg : g.testBit (r / 8) = true) (hj : j < 8) :
    (s.putRows a (saveRows x frame lap g)).bankWord (natBits a 18 5) (natBits a 0 18 + 64 * (4 + r) + 8 * j) =
      BitVec.ofNat 64 (natBits (x.rv r) (64 * j) 64) := by
  have hmem : (4 + r, saveRowV x r) ∈ saveRows x frame lap g := by
    simp only [saveRows_eq, List.mem_append, List.mem_map, vgrpRegs, List.mem_filter, List.mem_range]
    exact .inl (.inr ⟨r, ⟨hr, hg⟩, rfl⟩)
  have hw : (saveRowV x r)[j]? = some (natBits (x.rv r) (64 * j) 64) := by
    simp [saveRowV, List.getElem?_range hj]
  exact bankWord_putRows (fun r hr => mem_saveRows hr) hmem hj hw

end

end Sys2Proof.Machine
end

section
/-! PROOF. Saving a lap (R159 to R162): the record, the bank schedule, the end of the lap. -/

namespace Sys2Proof.Machine

open Sys2Proof

/-! Hand-overs of the bank schedule (R183, R221). -/

/-- Registers of other pages than those of the engines. -/
def offEngines (k : Nat) : Bool := decide (k < 0x10000 ∨ 0x1A000 ≤ k)

theorem offEngines_eng {e : Nat} (he : e < 10) {f : Fld} (hp : f.page = 16) (ho : f.off < 4096) : offEngines (f.inst e).key = false := by
  simp only [offEngines, Fld.key, regKey, Fld.inst, hp, decide_eq_false_iff_not]
  omega

theorem regsKept_bankEvent {b : Nat} (hb : b < 32) {s t : State} (h : RegsKept (evKey (0x20 + b)) s t) : RegsKept offEngines s t := by
  refine h.mono fun k hk => ?_
  simp only [offEngines, decide_eq_false_iff_not] at hk
  simp only [evKey, regKey, List.contains_cons, List.contains_nil, Bool.or_false, Bool.or_eq_false_iff, beq_eq_false_iff_ne]
  omega

theorem regsKept_setBankFld {b : Nat} (s : State) (v : Nat) {f : Fld} (hp : f.page = 32) :
    RegsKept offEngines s (s.setFld (f.inst b) v) := by
  refine regsKept_setFld _ _ _ ?_
  simp only [offEngines, Fld.key, regKey, Fld.inst, hp, decide_eq_true_eq]
  omega

theorem quiet_bankMode (s : State) (b : Nat) : Quiet s (s.bankMode b) := by
  unfold State.bankMode
  dsimp only
  split
  · rfl
  · exact quiet_setFld s _ _

theorem quiet_raiseNoRec (s : State) (p k : Nat) : Quiet s (s.raiseNoRec p k) := (quiet_setReg s _ _).trans (quiet_refresh _ _)

theorem quiet_handover (s : State) (b code cause : Nat) : Quiet s (s.handover b code cause) := by
  have hset : Quiet s ((s.setFld (BANK_OWNER_CODE.inst b) code).bankMode b) := (quiet_setFld s _ _).trans (quiet_bankMode _ b)
  unfold State.handover
  dsimp only
  split
  · rfl
  · split
    · exact hset.trans (quiet_raiseNoRec _ _ _)
    · exact hset.trans (quiet_raise _ _ _ _)

theorem regsKept_handover {b : Nat} (hb : b < 32) (s : State) (code cause : Nat) : RegsKept offEngines s (s.handover b code cause) := by
  have hmode (t : State) : RegsKept offEngines t (t.bankMode b) := by
    unfold State.bankMode
    dsimp only
    split
    · exact RegsKept.refl _ t
    · exact regsKept_setBankFld t _ rfl
  have hset : RegsKept offEngines s ((s.setFld (BANK_OWNER_CODE.inst b) code).bankMode b) :=
    (regsKept_setBankFld s _ rfl).trans (hmode _)
  have hnorec (t : State) : RegsKept (evKey (0x20 + b)) t (t.raiseNoRec (0x20 + b) 10) :=
    (regsKept_setReg t _ _ (by simp [evKey])).trans (regsKept_refresh _ _)
  unfold State.handover
  dsimp only
  split
  · exact RegsKept.refl _ s
  · split
    · exact hset.trans (regsKept_bankEvent hb (hnorec _))
    · exact hset.trans (regsKept_bankEvent hb (regsKept_raise _ _ _ _))

/-- Hand-overs one after the other. -/
theorem quiet_handovers (l : List BankEnt) (cause : Nat) (s : State) :
    Quiet s (l.foldl (fun u b => u.handover b.bank b.owner cause) s) := by
  induction l generalizing s with
  | nil => rfl
  | cons b l ih => exact (quiet_handover s _ _ _).trans (ih _)

theorem regsKept_handovers {l : List BankEnt} (h : ∀ b ∈ l, b.bank < 32) (cause : Nat) (s : State) :
    RegsKept offEngines s (l.foldl (fun u b => u.handover b.bank b.owner cause) s) := by
  induction l generalizing s with
  | nil => exact RegsKept.refl _ s
  | cons b l ih =>
    exact (regsKept_handover (h b (by simp)) s _ _).trans (ih (fun c hc => h c (by simp [hc])) _)

/-! A step counted in the lap. -/

theorem stepInLap_countStep (s : State) (e n : Nat) : (s.countStep e n true).fld (ENG_STEP_IN_LAP_STEPS.inst e) =
    (s.fld (ENG_STEP_IN_LAP_STEPS.inst e) + n) % 2 ^ 13 := by
  have hpair (v : Nat) : (s.setPair (ENG_STEPS_LO_COUNT.inst e) (ENG_STEPS_HI_COUNT.inst e) v).fld (ENG_STEP_IN_LAP_STEPS.inst e) =
      s.fld (ENG_STEP_IN_LAP_STEPS.inst e) := by
    rw [State.setPair, fld_setFld_eng_ne _ e _ rfl rfl (by decide), fld_setFld_eng_ne _ e _ rfl rfl (by decide)]
  unfold State.countStep
  dsimp only
  rw [if_pos rfl, fld_modEng, State.incFld, fld_setFld_eng_same _ e _ (by decide), hpair]
  rfl

/-- A register of the engine's page that is no counter of steps. -/
theorem countKey_eng {e : Nat} (he : e < 10) {f : Fld} (hp : f.page = 16)
    (ho : f.off < 4096 ∧ f.off ≠ 0x060 ∧ f.off ≠ 0x064 ∧ f.off ≠ 0x048) : countKey e (f.inst e).key = false := by
  obtain ⟨h0, h1, h2, h3⟩ := ho
  simp only [countKey, Fld.key, regKey, Fld.inst, hp, ENG_STEPS_LO_COUNT, ENG_STEPS_HI_COUNT, ENG_STEP_IN_LAP_STEPS,
    PLAN_SC_OUTSIDE_COUNT, List.contains_cons, List.contains_nil, Bool.or_false, Bool.or_eq_false_iff, beq_eq_false_iff_ne]
  omega

/-! The next lap (R202). -/

theorem engineStep_beginLap (s : State) (e k : Nat) : EngineStep e s (s.beginLap e k) := by
  unfold State.beginLap
  dsimp only
  split
  · exact EngineStep.setFld e s _ _
  · split
    · exact (EngineStep.setFld e s _ _).trans (EngineStep.modEng e _ _)
    · exact (((EngineStep.setFld e s _ _).trans (EngineStep.setFld e _ _ _)).trans (EngineStep.modEng e _ _)).trans
        (EngineStep.setFld e _ _ _)

theorem mark_beginLap (s : State) (e k : Nat) : ((s.beginLap e k).eng e).mark = (s.eng e).mark := by
  unfold State.beginLap
  dsimp only
  split
  · rfl
  · split
    · rw [eng_modEng_same, State.setEngState, eng_setFld]
    · rw [State.setEngState, eng_setFld, eng_modEng_same, eng_setFld, eng_setFld]

/-- A lap's mark handed to the lap watch. -/
def State.withNotice (s : State) (r : Nat × Nat × Nat) : State :=
  { s with plan := { s.plan with notices := s.plan.notices ++ [r] } }

/-- The LAP record, where it is enabled. -/
def State.lapRecorded (s : State) (e : Nat) : State :=
  if s.bit (ENG_CTRL_LAPREC_EN.inst e) then
    s.recordOnly (engPage e) 0x20 (s.fld (ENG_LAP_NOW_LAP.inst e) + (s.eng e).padLap % 2 ^ 13 * 2 ^ 13) else s

theorem quiet_lapRecorded (s : State) (e : Nat) : Quiet s (s.lapRecorded e) := by
  unfold State.lapRecorded
  split
  · exact quiet_pushRec s _ _ _ _ _
  · rfl

theorem lapEnd_eq (s : State) (e : Nat) : s.lapEnd e =
    ((s.lapRecorded e).withNotice (s.engSlot e, s.fld (ENG_LAP_NOW_LAP.inst e),
      s.fld (ENG_FRAME_NOW_FRAME_LO.inst e))).beginLap e (s.fld (ENG_LAP_NOW_LAP.inst e) + 1) := rfl

/-- The end of a lap hands its mark, with its frame, to the lap watch. -/
theorem notices_lapEnd (s : State) (e : Nat) : (s.lapEnd e).plan.notices =
    s.plan.notices ++ [(s.engSlot e, s.fld (ENG_LAP_NOW_LAP.inst e), s.fld (ENG_FRAME_NOW_FRAME_LO.inst e))] := by
  rw [lapEnd_eq, (engineStep_beginLap _ e _).1, quiet_lapRecorded s e]
  rfl

theorem mark_lapEnd (s : State) (e : Nat) : ((s.lapEnd e).eng e).mark = (s.eng e).mark := by
  have heng (t : State) (r : Nat × Nat × Nat) : (t.withNotice r).eng e = t.eng e := rfl
  have hq : (s.lapRecorded e).eng e = s.eng e := by
    rw [(quiet_lapRecorded s e)]
    rfl
  rw [lapEnd_eq, mark_beginLap, heng, hq]

theorem engineOnly_lapEnd (s : State) (e : Nat) : EngineOnly e s (s.lapEnd e) := by
  have hnote (t : State) (r : Nat × Nat × Nat) : EngineOnly e t (t.withNotice r) := ⟨rfl, fun _ _ => rfl⟩
  rw [lapEnd_eq]
  exact ((EngineOnly.of_quiet (quiet_lapRecorded s e)).trans (hnote _ _)).trans (engineStep_beginLap _ e _).engineOnly

theorem memKept_lapEnd (s : State) (e : Nat) : MemKept s (s.lapEnd e) := by
  have hnote (t : State) (r : Nat × Nat × Nat) : MemKept t (t.withNotice r) :=
    ⟨fun _ => ⟨rfl, rfl⟩, fun _ _ => ⟨rfl, rfl⟩, fun _ _ => rfl⟩
  rw [lapEnd_eq]
  exact ((MemKept.of_quiet (quiet_lapRecorded s e)).trans (hnote _ _)).trans (engineStep_beginLap _ e _).memKept

end Sys2Proof.Machine
end

section
/-! PROOF. LAP_SAVE with both channels drained, good registers and room for the record (O31). -/

namespace Sys2Proof.Machine

open Sys2Proof

/-- With good registers every row of a save is written (R167). -/
theorem goodRows_eq {x : EngS} (h : x.parity = []) (rows : List (Nat × List Nat)) : goodRows x rows = rows := by
  have hbad (r : Nat) : x.rowBad r = false := by simp [EngS.rowBad, h]
  simp [goodRows, hbad]

/-- The lap in progress. -/
def State.lapNow (s : State) (e : Nat) : Nat := s.fld (ENG_LAP_NOW_LAP.inst e)

/-- The state in which the record is written, every result having landed. -/
def State.atSave (s : State) (e : Nat) : State :=
  (s.setEng e { (s.eng e).flush with mark := none, fenceMask := 0 }).dropGrant (natBits (s.saveAddr e (s.lapNow e)) 18 5)
    (.eng (s.engSlot e))

/-- The record of a save written. -/
def State.saved (s : State) (e g : Nat) : State :=
  (s.atSave e).putRows (s.saveAddr e (s.lapNow e))
    (saveRows (s.eng e).flush (s.fld (ENG_FRAME_NOW_FRAME_LO.inst e)) (s.lapNow e) g)

/-- The bank schedule entries of the end of the lap applied, where the engine's slot has a plan (R183). -/
def State.scheduled (s : State) (x : EngS) (slot lap : Nat) : State :=
  match x.tab with
  | some t => s.lapBanks x t slot lap
  | none => s

/-- The record written, its steps counted, the bank schedule applied. -/
def State.afterSave (s : State) (e g : Nat) : State :=
  ((s.saved e g).countStep e (7 + 8 * vgrpCount g) true).scheduled (s.eng e).flush (s.engSlot e) (s.lapNow e)

theorem lapSave_good {s : State} {e g : Nat} (addr : Nat) (hpar : (s.eng e).flush.parity = [])
    (hadm : s.admits (natBits (s.saveAddr e (s.lapNow e)) 18 5) (.eng (s.engSlot e)) = true)
    (hroom : s.fld (ENG_STEP_IN_LAP_STEPS.inst e) + (7 + 8 * vgrpCount g) ≤ s.lapSteps e) :
    s.lapSave e g addr =
      if s.lapSteps e - s.fld (ENG_STEP_IN_LAP_STEPS.inst e) = 7 + 8 * vgrpCount g then (s.afterSave e g).lapEnd e
      else (s.afterSave e g).setEngState e esPad := by
  have hbad : (s.eng e).flush.rowBad 0 = false := by simp [EngS.rowBad, hpar]
  have hadm' : s.admits (natBits (s.saveAddr e (s.fld (ENG_LAP_NOW_LAP.inst e))) 18 5) (.eng (s.engSlot e)) = true := hadm
  unfold State.lapSave
  dsimp only
  rw [if_neg (by omega), if_neg (by simp [hbad]), if_neg (not_not_intro hadm'), goodRows_eq hpar, if_neg (by simp),
    if_neg (by omega)]
  rfl

/-! What the save leaves. -/

theorem engineOnly_atSave (s : State) (e : Nat) : EngineOnly e s (s.atSave e) :=
  (EngineStep.setEng e s _).engineOnly.trans (EngineOnly.dropGrant e _ _ _)

/-- Taking a grant changes only what a bank keeps of its stalled accesses. -/
theorem dropGrant_banksOnly (s : State) (b : Nat) (who : Who) : s.dropGrant b who = { s with banks := (s.dropGrant b who).banks } := by
  unfold State.dropGrant
  dsimp only
  split <;> rfl

theorem mark_atSave (s : State) (e : Nat) : ((s.atSave e).eng e).mark = none := by
  have heng (t : State) (b : Nat) (who : Who) : (t.dropGrant b who).eng e = t.eng e := by
    rw [dropGrant_banksOnly]
    rfl
  rw [State.atSave, heng, eng_setEng_same]

theorem memKept_atSave (s : State) (e : Nat) : MemKept s (s.atSave e) := by
  have hdrop (t : State) (b : Nat) (who : Who) : MemKept t (t.dropGrant b who) := by
    rw [dropGrant_banksOnly]
    exact ⟨fun _ => ⟨rfl, rfl⟩, fun _ _ => ⟨rfl, rfl⟩, fun _ _ => rfl⟩
  exact (EngineStep.setEng e s _).memKept.trans (hdrop _ _ _)

/-- Registers, plan, DRAM and NVM as they were. -/
def SameBut (s t : State) : Prop := t.regs = s.regs ∧ t.plan = s.plan ∧ t.dram = s.dram ∧ t.nvm = s.nvm

theorem sameBut_saved (s : State) (e g : Nat) : SameBut s (s.saved e g) := by
  have hput := bankMemOnly_putRows (s.atSave e) (s.saveAddr e (s.lapNow e))
    (saveRows (s.eng e).flush (s.fld (ENG_FRAME_NOW_FRAME_LO.inst e)) (s.lapNow e) g)
  have hat : SameBut s (s.atSave e) := by
    unfold SameBut State.atSave
    rw [dropGrant_banksOnly]
    exact ⟨rfl, rfl, rfl, rfl⟩
  obtain ⟨hregs, hplan, hdram, hnvm⟩ := hat
  unfold SameBut
  rw [State.saved, hput]
  exact ⟨hregs, hplan, hdram, hnvm⟩

theorem engineOnly_saved (s : State) (e g : Nat) : EngineOnly e s (s.saved e g) := by
  refine (engineOnly_atSave s e).trans ?_
  rw [State.saved, bankMemOnly_putRows]
  exact ⟨rfl, fun _ _ => rfl⟩

theorem mark_saved (s : State) (e g : Nat) : ((s.saved e g).eng e).mark = none := by
  rw [State.saved, bankMemOnly_putRows]
  exact mark_atSave s e

section

variable (s : State) (e g : Nat)

theorem quiet_scheduled (x : EngS) (slot lap : Nat) : Quiet s (s.scheduled x slot lap) := by
  unfold State.scheduled
  split
  · exact quiet_handovers _ _ s
  · rfl

theorem regsKept_scheduled {x : EngS} (hb : ∀ b ∈ x.banks, b.bank < 32) (slot lap : Nat) :
    RegsKept offEngines s (s.scheduled x slot lap) := by
  unfold State.scheduled
  split
  · exact regsKept_handovers (fun b hmem => hb b (List.mem_of_mem_filter hmem)) _ s
  · exact RegsKept.refl _ s

theorem engineOnly_afterSave : EngineOnly e s (s.afterSave e g) :=
  ((engineOnly_saved s e g).trans (engineStep_countStep e _ _ _).engineOnly).trans
    (EngineOnly.of_quiet (quiet_scheduled _ _ _ _))

/-- After the record is written nothing more is written to a memory. -/
theorem memKept_saved_afterSave : MemKept (s.saved e g) (s.afterSave e g) :=
  (engineStep_countStep e _ _ _).memKept.trans (MemKept.of_quiet (quiet_scheduled _ _ _ _))

theorem mark_afterSave : ((s.afterSave e g).eng e).mark = none := by
  have heng (t : State) (x : EngS) (slot lap : Nat) : (t.scheduled x slot lap).eng e = t.eng e := by
    rw [quiet_scheduled t x slot lap]
    rfl
  rw [State.afterSave, heng, eng_countStep]
  exact mark_saved s e g

theorem others_afterSave : (s.afterSave e g).plan = s.plan ∧ (s.afterSave e g).dram = s.dram ∧ (s.afterSave e g).nvm = s.nvm := by
  obtain ⟨-, hplan, hdram, hnvm⟩ := sameBut_saved s e g
  rw [State.afterSave, quiet_scheduled, (engineStep_countStep e _ _ _).1]
  exact ⟨hplan, hdram, hnvm⟩

variable (hb : ∀ b ∈ (s.eng e).banks, b.bank < 32)
include hb

theorem regsKept_banksOf_flush (slot lap : Nat) (t : State) : RegsKept offEngines t (t.scheduled (s.eng e).flush slot lap) := by
  refine regsKept_scheduled t (fun b hmem => hb b ?_) slot lap
  rw [flush_regsOnly] at hmem
  exact hmem

variable (he : e < 10)
include he

theorem fld_afterSave {f : Fld} (hp : f.page = 16) (ho : f.off < 4096 ∧ f.off ≠ 0x060 ∧ f.off ≠ 0x064 ∧ f.off ≠ 0x048) :
    (s.afterSave e g).fld (f.inst e) = s.fld (f.inst e) := by
  obtain ⟨hregs, -⟩ := sameBut_saved s e g
  rw [State.afterSave, fld_of_regsKept (regsKept_banksOf_flush s e hb _ _ _) (offEngines_eng he hp ho.1),
    fld_of_regsKept (regsKept_countStep _ e _ _) (countKey_eng he hp ho)]
  unfold State.fld State.reg
  rw [hregs]

theorem stepInLap_afterSave : (s.afterSave e g).fld (ENG_STEP_IN_LAP_STEPS.inst e) =
    (s.fld (ENG_STEP_IN_LAP_STEPS.inst e) + (7 + 8 * vgrpCount g)) % 2 ^ 13 := by
  obtain ⟨hregs, -⟩ := sameBut_saved s e g
  rw [State.afterSave, fld_of_regsKept (regsKept_banksOf_flush s e hb _ _ _) (offEngines_eng he rfl (by decide)), stepInLap_countStep]
  unfold State.fld State.reg
  rw [hregs]

end

/-! The whole save. -/

section

variable {s : State} {e g addr : Nat} (he : e < 10) (hb : ∀ b ∈ (s.eng e).banks, b.bank < 32)
  (hpar : (s.eng e).flush.parity = [])
  (hadm : s.admits (natBits (s.saveAddr e (s.lapNow e)) 18 5) (.eng (s.engSlot e)) = true)
  (hroom : s.fld (ENG_STEP_IN_LAP_STEPS.inst e) + (7 + 8 * vgrpCount g) ≤ s.lapSteps e)

section

include hpar hadm hroom

/-- After the record is written a save changes registers, its engine and the notices. -/
theorem lapSave_frame : EngineOnly e s (s.lapSave e g addr) ∧ MemKept (s.saved e g) (s.lapSave e g addr) ∧
    ((s.lapSave e g addr).eng e).mark = none := by
  have honly := engineOnly_afterSave s e g
  have hmem := memKept_saved_afterSave s e g
  have hmark := mark_afterSave s e g
  rw [lapSave_good addr hpar hadm hroom]
  split
  · exact ⟨honly.trans (engineOnly_lapEnd _ e), hmem.trans (memKept_lapEnd _ e), (mark_lapEnd _ e).trans hmark⟩
  · exact ⟨honly.trans (EngineOnly.setFld e _ _ _), hmem.trans (EngineStep.setFld e _ _ _).memKept, hmark⟩

end

include he hb hpar hadm hroom

/-- A save short of the lap's count pads on. -/
theorem lapSave_pads (h : s.fld (ENG_STEP_IN_LAP_STEPS.inst e) + (7 + 8 * vgrpCount g) < s.lapSteps e) :
    (s.lapSave e g addr).engState e = esPad ∧ (s.lapSave e g addr).fld (ENG_STEP_IN_LAP_STEPS.inst e) =
      (s.fld (ENG_STEP_IN_LAP_STEPS.inst e) + (7 + 8 * vgrpCount g)) % 2 ^ 13 := by
  rw [lapSave_good addr hpar hadm hroom, if_neg (by omega)]
  refine ⟨engState_setEngState _ e (by decide), ?_⟩
  rw [State.setEngState, fld_setFld_eng_ne _ e _ rfl rfl (by decide), stepInLap_afterSave s e g hb he]

/-- A save that uses the lap's count exactly ends the lap. -/
theorem lapSave_ends (h : s.fld (ENG_STEP_IN_LAP_STEPS.inst e) + (7 + 8 * vgrpCount g) = s.lapSteps e) :
    (s.lapSave e g addr).plan.notices =
      s.plan.notices ++ [(s.engSlot e, s.lapNow e, s.fld (ENG_FRAME_NOW_FRAME_LO.inst e))] := by
  have hfld {f : Fld} := fld_afterSave s e g hb he (f := f)
  rw [lapSave_good addr hpar hadm hroom, if_pos (by omega), notices_lapEnd, (others_afterSave s e g).1, State.engSlot,
    hfld rfl (by decide), hfld rfl (by decide), hfld rfl (by decide)]
  rfl

end

end Sys2Proof.Machine
end

section
/-! PROOF. Releasing a fence, ending a window, padding, overrunning (O31). -/

namespace Sys2Proof.Machine

open Sys2Proof

/-! The registers a change of STATE writes. -/

theorem regsKept_setEngState (s : State) (e v : Nat) :
    RegsKept (fun k => k == (ENG_STATUS_STATE.inst e).key) s (s.setEngState e v) := regsKept_setFld s _ _ (by simp)

/-- An engine that goes on in another STATE. -/
theorem engineStep_stateEng (s : State) (e v : Nat) (f : EngS → EngS) : EngineStep e s ((s.setEngState e v).modEng e f) :=
  (EngineStep.setFld e s _ _).trans (EngineStep.modEng e _ f)

theorem eng_stateEng (s : State) (e v : Nat) (f : EngS → EngS) : ((s.setEngState e v).modEng e f).eng e = f (s.eng e) := by
  rw [eng_modEng_same, State.setEngState, eng_setFld]

/-! FENCE_RELEASE (R163). -/

theorem exec_fenceRelease {s : State} {e : Nat} (hst : s.engState e = esFence) (hm : (s.eng e).mark = none)
    (hw : (s.eng e).stripeWait = false) (hb : (s.eng e).chansBusy (s.eng e).fenceMask = false) :
    exec (.fenceRelease e) s =
      .next ((s.setEngState e esRun).modEng e fun z => { z with fenceMask := 0, lastIssue := s.time.mono }) := by
  change (if _ then _ else _) = _
  rw [if_pos ⟨hst, hm, by simp [hw], by simp [hb]⟩]

/-! WINDOW_END (R164). -/

theorem scPause_none {s : State} {u : Nat} (h : s.scTask u = none) : s.scPause u = s := by
  simp only [State.scPause, h]

/-- With no stream task of the slot in progress nothing is stopped. -/
theorem scPauses_none {s : State} {k : Nat} (h : ∀ j, j < 2 → s.scTask (8 + 2 * k + j) = none) : s.scPauses k = s := by
  have h1 : s.scTask (9 + 2 * k) = none := by
    rw [← h 1 (by decide)]
    congr 1
    omega
  rw [State.scPauses, scPause_none (u := 8 + 2 * k) (h 0 (by decide)), scPause_none h1]

/-- What is in flight after every result due within the longest latency has landed lands later than that (R134). -/
theorem land_pend_flush {x : EngS} {q : Pend} (h : q ∈ x.flush.pend) : x.step + 4 < q.land := by
  have hflush : x.flush = EngS.landAt ((List.range 4).foldl (fun z k => z.landAt (x.step + k)) x) (x.step + 4) := by
    unfold EngS.flush
    rw [show maxLatency + 1 = 4 + 1 from rfl, List.range_succ, List.foldl_append]
    rfl
  rw [hflush] at h
  have hkept := (List.mem_filter.1 h).2
  simpa using hkept

theorem exec_windowEnd {s : State} {e : Nat} {w : Window} (hw : (s.eng e).window = some w) (hst : s.engState e = esWindow)
    (hl : w.left = 0) (ht : ∀ j, j < 2 → s.scTask (8 + 2 * s.engSlot e + j) = none) :
    exec (.windowEnd e) s = .next (s.windowEnd e w) := by
  change execWindowEnd e s = _
  simp only [execWindowEnd, hw]
  rw [if_pos ⟨hst, hl⟩, scPauses_none ht]

/-- An engine as it goes on after OWOPEN (R164, R165). -/
def EngS.resumed (z : EngS) (w : Window) : EngS :=
  { z with window := none, loops := w.loops, pc := w.resume, branch := none, inDelay := false }

theorem windowEnd_eq (s : State) (e : Nat) (w : Window) :
    s.windowEnd e w = (s.setEngState e esRun).modEng e fun x => x.flush.resumed w := rfl

/-! PAD_STEP (R162, R164). -/

theorem lapSteps_congr {s t : State} {e : Nat} (htab : (t.eng e).tab = (s.eng e).tab)
    (hlap : t.fld (ENG_LAP_NOW_LAP.inst e) = s.fld (ENG_LAP_NOW_LAP.inst e)) : t.lapSteps e = s.lapSteps e := by
  unfold State.lapSteps EngS.lapEnt
  rw [htab, hlap]

theorem lapFull_short {s : State} {e : Nat} (h : s.fld (ENG_STEP_IN_LAP_STEPS.inst e) < s.lapSteps e) : s.lapFull e = false := by
  simp [State.lapFull, h]

/-- The engine after a step of padding, before the step is counted. -/
def EngS.padded (x : EngS) : EngS :=
  let z := x.landAt x.step
  { z with padLap := z.padLap + 1, padFrame := z.padFrame + 1 }

theorem padFrame_padded (x : EngS) : x.padded.padFrame = x.padFrame + 1 := by
  simp only [EngS.padded]
  rw [regsOnly_landAt]

/-- The state after one counted step of padding. -/
def State.padCounted (s : State) (e : Nat) : State := (s.setEng e (s.eng e).padded).countStep e 1 true

theorem padStep_eq (s : State) (e : Nat) : s.padStep e =
    if s.engState e = esPad then (if (s.padCounted e).lapFull e then (s.padCounted e).lapEnd e else s.padCounted e)
    else match ((s.eng e).landAt (s.eng e).step).window with
      | some w =>
        if s.lapFull e then s.engFault e fcLapOverrun w.resume 3
        else (s.padCounted e).modEng e fun z => { z with window := some { w with left := w.left - 1 } }
      | none => s := rfl

section

variable {s : State} {e : Nat} (he : e < 10)

theorem engineStep_padCounted : EngineStep e s (s.padCounted e) :=
  (EngineStep.setEng e s _).trans (engineStep_countStep e _ _ _)

theorem eng_padCounted : (s.padCounted e).eng e = { (s.eng e).padded with step := (s.eng e).step + 1, lastIssue := s.time.mono } := by
  have hstep : (s.eng e).padded.step = (s.eng e).step := landAt_step _ _
  rw [State.padCounted, eng_countStep, eng_setEng_same, hstep]
  rfl

theorem engState_padCounted : (s.padCounted e).engState e = s.engState e :=
  fld_of_regsKept ((regsKept_setEng _ s e _).trans (regsKept_countStep _ e _ _)) (countKey_status e)

theorem stepInLap_padCounted (h : s.fld (ENG_STEP_IN_LAP_STEPS.inst e) + 1 < 2 ^ 13) :
    (s.padCounted e).fld (ENG_STEP_IN_LAP_STEPS.inst e) = s.fld (ENG_STEP_IN_LAP_STEPS.inst e) + 1 := by
  rw [State.padCounted, stepInLap_countStep]
  exact Nat.mod_eq_of_lt h

include he

theorem lapSteps_padCounted : (s.padCounted e).lapSteps e = s.lapSteps e := by
  refine lapSteps_congr ?_ ?_
  · rw [eng_padCounted]
    exact landAt_tab _ _
  · exact fld_of_regsKept ((regsKept_setEng _ s e _).trans (regsKept_countStep _ e _ _)) (countKey_eng he rfl (by decide))

/-- Padding of a lap that has more than one step left. -/
theorem padStep_lap (hst : s.engState e = esPad) (hs : s.fld (ENG_STEP_IN_LAP_STEPS.inst e) + 1 < s.lapSteps e)
    (h13 : s.fld (ENG_STEP_IN_LAP_STEPS.inst e) + 1 < 2 ^ 13) : s.padStep e = s.padCounted e := by
  have hfull : (s.padCounted e).lapFull e = false := lapFull_short (by rwa [stepInLap_padCounted h13, lapSteps_padCounted he])
  rw [padStep_eq, if_pos hst, hfull, if_neg (by decide)]

omit he in
/-- Padding of a window in a lap that has a step left. -/
theorem padStep_window {w : Window} (hw : (s.eng e).window = some w) (hst : s.engState e = esWindow)
    (hs : s.fld (ENG_STEP_IN_LAP_STEPS.inst e) + 1 < s.lapSteps e) :
    s.padStep e = (s.padCounted e).modEng e fun z => { z with window := some { w with left := w.left - 1 } } := by
  have hfull : s.lapFull e = false := lapFull_short (by omega)
  rw [padStep_eq, if_neg (by rw [hst]; decide), landAt_window, hw]
  dsimp only
  rw [hfull, if_neg (by decide)]

end

/-! LAP_OVERRUN (R162). -/

/-- An engine that issues is not FAULTED. -/
theorem engState_ne_faulted {s : State} {e : Nat} (h : s.issuing e = true) : s.engState e ≠ esFaulted := by
  intro hst
  simp [State.issuing, hst, esFaulted, esRun, esWindow] at h

theorem exec_lapOverrun {s : State} {e : Nat} (hrun : s.issuing e = true) (hfull : s.lapFull e = true) :
    exec (.lapOverrun e) s = .next ((s.atIssue e).engFault e fcLapOverrun (s.eng e).pc 3) := by
  have hpc : (s.issuer e).pc = (s.eng e).pc := by simp [State.issuer, State.atStep]
  change execLapOverrun e s = _
  simp only [execLapOverrun, hfull, hrun, if_true]
  rw [issue_eq, if_pos hfull, hpc]

end Sys2Proof.Machine
end

section
/-! PROOF. The transfer of a stream descriptor (R154, R177) and reads of the instruction memory (R170). -/

namespace Sys2Proof.Machine

open Sys2Proof

/-! No access of a channel touches an engine. -/

/-- What one engine's step may do leaves the others. -/
theorem eng_of_engineOnly {s t : State} {k : Nat} (h : EngineOnly (k + 1) s t) : t.eng k = s.eng k := h.2 k (by omega)

section

variable (s : State) (k : Nat)

theorem engineOnly_bufSync (b off : Nat) : EngineOnly k s (s.bufSync b off) := by
  unfold State.bufSync
  split
  · exact EngineOnly.refl k s
  · exact EngineOnly.ite _ (EngineOnly.setBank k s b _) (EngineOnly.refl k s)

theorem engineOnly_storeS (b off : Nat) (m v : DWord) (cls : Nat) : EngineOnly k s (s.storeS b off m v cls) := by
  have h : EngineOnly k s ((s.writeWord b off m v cls).bufSync b off) :=
    (EngineOnly.writeWord k s b off m v cls).trans (engineOnly_bufSync _ k b off)
  exact EngineOnly.ite _ h (h.trans (EngineOnly.setBank k _ b _))

theorem engineOnly_wcoll (b off cls : Nat) : EngineOnly k s (s.wcoll b off cls) :=
  ((EngineOnly.setFld k s _ _).trans (EngineOnly.setReg k _ _ _)).trans (EngineOnly.of_quiet (quiet_raise _ _ _ _))

theorem engineOnly_sWrite (b off : Nat) (m v : DWord) (cls : Nat) : EngineOnly k s (s.sWrite b off m v cls) := by
  unfold State.sWrite
  split
  · exact EngineOnly.ite _ ((EngineOnly.takeFree k s).trans (engineOnly_wcoll _ k b off cls))
      ((EngineOnly.takeFree k s).trans (engineOnly_storeS _ k b off m v cls))
  · exact engineOnly_storeS s k b off m v cls

theorem engineOnly_sRead (b off cls : Nat) : EngineOnly k s (s.sRead b off cls).2.2 := by
  have hfree := (EngineOnly.takeFree k s).trans (EngineOnly.readWord k s.takeFree b off cls)
  unfold State.sRead
  dsimp only
  split
  · exact EngineOnly.readWord k s b off cls
  · split
    · exact hfree.trans ((EngineOnly.takeFree k _).trans (EngineOnly.bankMeets k _ b off true))
    · exact hfree

/-! DRAM. -/

theorem engineOnly_dramCorr : EngineOnly k s s.dramCorr :=
  ((EngineOnly.setFld k s _ _).trans (EngineOnly.takeFree k _)).trans (EngineOnly.of_quiet (quiet_raise _ _ _ _))

theorem engineOnly_dramUncorr : EngineOnly k s s.dramUncorr :=
  ((EngineOnly.setFld k s _ _).trans (EngineOnly.takeFree k _)).trans (EngineOnly.of_quiet (quiet_raise _ _ _ _))

theorem engineOnly_readDramWord (a : Nat) : EngineOnly k s (s.readDramWord a).2.2 := by
  unfold State.readDramWord
  dsimp only
  split
  · exact EngineOnly.refl k s
  · split
    · exact engineOnly_dramCorr s k
    · exact (engineOnly_dramUncorr s k).trans (EngineOnly.takeFree k _)

theorem eng_writeDramWord (a : Nat) {bs : List Byte} (h : bs.length = 8) : (s.writeDramWord a (bs.map some)).eng k = s.eng k := by
  rw [writeDramWord_whole s a bs h]
  rfl

theorem eng_poisonDram (a : Nat) : (s.poisonDram a).eng k = s.eng k := rfl

theorem eng_putErr (b off c : Nat) : (s.putErr b off c).eng k = s.eng k := rfl

/-! The bursts of a descriptor. -/

theorem eng_burst (toDram : Bool) (bank off a cls : Nat) : (s.burst toDram bank off a cls).eng k = s.eng k := by
  unfold State.burst
  refine List.foldlRecOn (motive := fun t : State => t.eng k = s.eng k) (List.range 8) _ rfl fun t ht i _ => ?_
  rw [← ht]
  dsimp only
  split
  · have hr := eng_of_engineOnly (engineOnly_sRead t (k + 1) bank (off + 8 * i) cls)
    generalize t.sRead bank (off + 8 * i) cls = r at hr ⊢
    have hw := (eng_writeDramWord r.2.2 k (a + 8 * i) (valBytes_length 8 r.1.toNat)).trans hr
    split
    · exact (eng_poisonDram _ k _).trans hw
    · exact hw
  · have hr := eng_of_engineOnly (engineOnly_readDramWord t (k + 1) (a + 8 * i))
    generalize t.readDramWord (a + 8 * i) = r at hr ⊢
    have hw := (eng_of_engineOnly (engineOnly_sWrite r.2.2 (k + 1) bank (off + 8 * i) (BitVec.allOnes 64) (BitVec.ofNat 64 r.1)
      cls)).trans hr
    split
    · exact (eng_putErr _ k _ _ _).trans hw
    · exact hw

theorem eng_runDesc (slot c num fr : Nat) (d : Desc) : (s.runDesc slot c num fr d).eng k = s.eng k := by
  have hown (t : State) : EngineOnly (k + 1) t (t.scOwn slot c num) :=
    (EngineOnly.setFld _ t _ _).trans (EngineOnly.of_quiet (quiet_raise _ _ _ _))
  have hbursts (l : List (Nat × Int)) : (s.runBursts slot c num d l).eng k = s.eng k := by
    unfold State.runBursts
    refine List.foldlRecOn (motive := fun t : State => t.eng k = s.eng k) l _ rfl fun t ht q _ => ?_
    rw [← ht]
    split
    · exact eng_burst t k _ _ _ _ _
    · split
      · exact eng_of_engineOnly (hown t)
      · exact eng_of_engineOnly ((hown t).trans (EngineOnly.foreign (k + 1) _ _ _ _ _))
  exact (eng_of_engineOnly (EngineOnly.dropGrant (k + 1) _ _ _)).trans (hbursts _)

end

/-! One burst of good words into a bank (R177). -/

/-- Nothing but what the banks keep beside their words differs. -/
def BanksAside (s t : State) : Prop := t = { s with banks := t.banks }

theorem BanksAside.trans {s t u : State} (h : BanksAside s t) (g : BanksAside t u) : BanksAside s u := by
  unfold BanksAside at *
  rw [g, h]

theorem banksAside_putFulls {s t : State} (h : BanksAside s t) (b : Nat) (l : List (Nat × DWord)) :
    BanksAside (s.putFulls b l) (t.putFulls b l) := by
  induction l generalizing s t with
  | nil => exact h
  | cons q l ih =>
    refine ih ?_
    unfold BanksAside at *
    rw [h]
    rfl

theorem banksAside_bufSync (s : State) (b off : Nat) : BanksAside s (s.bufSync b off) := by
  unfold State.bufSync
  split
  · rfl
  · split <;> rfl

/-- A whole word stored at port S. -/
theorem storeS_full (s : State) (b off : Nat) (v : DWord) (cls : Nat) :
    BanksAside (s.putFull b (off, v)) (s.storeS b off (BitVec.allOnes 64) v cls) := by
  have h := banksAside_bufSync (s.putFull b (off, v)) b off
  unfold State.storeS
  rw [writeWord_full]
  dsimp only
  split
  · exact h
  · exact h.trans rfl

theorem sWrite_full {s : State} {b off : Nat} (hp : s.portE b off ≠ some true) (v : DWord) (cls : Nat) :
    BanksAside (s.putFull b (off, v)) (s.sWrite b off (BitVec.allOnes 64) v cls) := by
  unfold State.sWrite
  split
  next h => exact absurd h hp
  next => exact storeS_full s b off v cls

/-- The word a burst moves. -/
def State.burstWord (s : State) (off a i : Nat) : Nat × DWord := (off + 8 * i, BitVec.ofNat 64 (s.dramWord (a + 8 * i)))

/-- One word of a burst from DRAM, as `State.burst` moves it. -/
def State.burstStep (s : State) (bank off a cls i : Nat) : State :=
  let r := s.readDramWord (a + 8 * i)
  let u := r.2.2.sWrite bank (off + 8 * i) (BitVec.allOnes 64) (BitVec.ofNat 64 r.1) cls
  if r.2.1 then u.putErr bank (off + 8 * i) 2 else u

theorem burst_steps (s : State) (bank off a cls : Nat) :
    s.burst false bank off a cls = (List.range 8).foldl (fun t i => t.burstStep bank off a cls i) s := rfl

section

variable {s : State} {bank off a : Nat} (cls : Nat)

theorem burstStep_good {i : Nat} (he : s.dramErrAt (a + 8 * i) = 0) (hp : s.portE bank (off + 8 * i) ≠ some true) :
    BanksAside (s.putFull bank (s.burstWord off a i)) (s.burstStep bank off a cls i) := by
  unfold State.burstStep
  rw [readDramWord_good s _ he]
  exact sWrite_full hp _ cls

/-- A stored word changes neither what a burst reads nor what the engines do at the bank. -/
theorem burst_reads {t : State} {q : Nat × DWord} (h : BanksAside (s.putFull bank q) t) (b o i : Nat) :
    t.dramErrAt i = s.dramErrAt i ∧ t.portE b o = s.portE b o ∧ t.burstWord off a = s.burstWord off a := by
  rw [h]
  exact ⟨rfl, rfl, rfl⟩

/-- Bursts of good words that no write of an engine meets store them all. -/
theorem burstSteps_good (l : List Nat)
    (h : ∀ i ∈ l, s.dramErrAt (a + 8 * i) = 0 ∧ s.portE bank (off + 8 * i) ≠ some true) :
    BanksAside (s.putFulls bank (l.map (s.burstWord off a))) (l.foldl (fun t i => t.burstStep bank off a cls i) s) := by
  induction l generalizing s with
  | nil => rfl
  | cons i l ih =>
    obtain ⟨he, hp⟩ := h i (by simp)
    have hstep := burstStep_good cls he hp
    have hword := (burst_reads (off := off) (a := a) hstep bank off a).2.2
    have hrest := ih (s := s.burstStep bank off a cls i) fun j hj => by
      obtain ⟨hd, hq, -⟩ := burst_reads (off := off) (a := a) hstep bank (off + 8 * j) (a + 8 * j)
      rw [hd, hq]
      exact h j (by simp [hj])
    rw [hword] at hrest
    rw [List.map_cons, putFulls_cons, List.foldl_cons]
    exact (banksAside_putFulls hstep bank _).trans hrest

end

theorem bankWord_banksAside {s t : State} (h : BanksAside s t) (b off : Nat) : t.bankWord b off = s.bankWord b off := by
  rw [h]
  rfl

/-- The words of a good burst stand in the bank, and no other bank and no DRAM has changed. -/
theorem burst_words {s : State} {bank off a cls : Nat}
    (h : ∀ i, i < 8 → s.dramErrAt (a + 8 * i) = 0 ∧ s.portE bank (off + 8 * i) ≠ some true) :
    (∀ i, i < 8 → (s.burst false bank off a cls).bankWord bank (off + 8 * i) = BitVec.ofNat 64 (s.dramWord (a + 8 * i))) ∧
      (s.burst false bank off a cls).dram = s.dram ∧
      ∀ b o, b ≠ bank → (s.burst false bank off a cls).bankWord b o = s.bankWord b o := by
  have hb := burstSteps_good cls (List.range 8) fun i hi => h i (List.mem_range.1 hi)
  rw [← burst_steps] at hb
  refine ⟨fun i hi => ?_, ?_, fun b o hne => ?_⟩
  · rw [bankWord_banksAside hb]
    refine bankWord_putFulls _ _ (fun q hq hkey => ?_) (.inr ⟨_, List.mem_map_of_mem (List.mem_range.2 hi), rfl⟩)
    obtain ⟨j, hj, rfl⟩ := List.mem_map.1 hq
    have hj := List.mem_range.1 hj
    simp only [State.burstWord, bankKey] at hkey
    have hij : i = j := by omega
    rw [hij]
    rfl
  · rw [hb, bankMemOnly_putFulls]
  · rw [bankWord_banksAside hb]
    refine bankWord_putFulls_other _ (fun q hq hkey => ?_) s
    simp only [bankKey] at hkey
    omega

end Sys2Proof.Machine
end

section
/-! PROOF. Saving a lap, releasing a fence, ending a window, padding, overrunning, completing a descriptor, reading code (O31). -/

namespace Sys2Proof.Machine

open Sys2Proof

/-! DESCRIPTOR_COMPLETE (R154). -/

theorem chan_setChan (x : EngS) {c : Nat} (q : Chan) : (x.setChan c q).chan c = q := by
  unfold EngS.setChan EngS.chan
  split <;> simp_all

theorem engineStep_chanDone (s : State) (e c : Nat) : EngineStep e s (s.chanDone e c) := by
  unfold State.chanDone
  split
  · exact EngineStep.refl e s
  · dsimp only
    split
    · exact EngineStep.modEng e s _
    · exact (EngineStep.modEng e s _).trans (engineStep_descStart e _ c)

/-- The running descriptor leaves its channel. -/
theorem chan_chanDone {s : State} {e c d : Nat} {tl : List Nat} (h : ((s.eng e).chan c).queue = d :: tl) :
    ((s.chanDone e c).eng e).chan c = ⟨tl, d⟩ := by
  simp only [State.chanDone, h]
  split
  · rw [eng_modEng_same, chan_setChan]
  · rw [eng_descStart, eng_modEng_same, chan_setChan]

/-- The state once the running descriptor's words are all taken. -/
def State.descRun (s : State) (e c : Nat) : State :=
  match (s.eng e).descNow c with
  | some (num, d) => s.runDesc (s.engSlot e) c num (s.fld (ENG_FRAME_NOW_FRAME_LO.inst e)) d
  | none => s

theorem exec_descriptorComplete {s : State} {e c : Nat} (h : ∀ num dd, (s.eng e).descNow c = some (num, dd) →
    s.descStalls (s.fld (ENG_FRAME_NOW_FRAME_LO.inst e)) dd = none) :
    exec (.descriptorComplete e c) s = .next ((s.descRun e c).chanDone e c) := by
  change execDescriptorComplete e c s = _
  unfold execDescriptorComplete State.descRun
  cases hd : (s.eng e).descNow c with
  | none => rfl
  | some p =>
    simp only [h p.1 p.2 hd]

theorem eng_descRun (s : State) (e c : Nat) : (s.descRun e c).eng e = s.eng e := by
  unfold State.descRun
  split
  · exact eng_runDesc s e _ _ _ _ _
  · rfl

/-- A descriptor of one burst, from DRAM at an address of its own, moves that burst. -/
theorem runDesc_oneBurst {s : State} {slot c num fr : Nat} {d : Desc} (hrows : d.rows = 1) (hlen : d.rowLen = 1)
    (hto : d.toDram = false) (hbase : d.baseSel = 0) (hadm : s.admits (natBits d.bank 18 5) (.chan slot c) = true)
    (hin : s.inDram d.dram 64 = true) :
    s.runDesc slot c num fr d =
      (s.burst false (natBits d.bank 18 5) (natBits d.bank 0 18) d.dram 2).dropGrant (natBits d.bank 18 5) (.chan slot c) := by
  have hoff : natBits (natBits d.bank 0 18) 0 18 = natBits d.bank 0 18 := by simp [natBits]
  have hb : descBursts d (s.descBase fr d) = [(natBits d.bank 0 18, (d.dram : Int))] := by
    simp [descBursts, State.descBase, hrows, hlen, hbase, hoff]
  have hgood : s.admits (natBits d.bank 18 5) (.chan slot c) = true ∧ (0 : Int) ≤ (d.dram : Int) ∧
      s.inDram d.dram 64 = true := ⟨hadm, by omega, hin⟩
  simp only [State.runDesc, State.runBursts, hb, List.foldl_cons, List.foldl_nil, hto, Int.toNat_natCast]
  rw [if_pos hgood]

theorem dram_dropGrant (s : State) (b : Nat) (who : Who) : (s.dropGrant b who).dram = s.dram := by
  rw [dropGrant_banksOnly]

theorem dram_engineStep {e : Nat} {s t : State} (h : EngineStep e s t) : t.dram = s.dram := by
  rw [h.1]

theorem dropGrant_words (s : State) (b : Nat) (who : Who) : BanksAside s (s.dropGrant b who) := dropGrant_banksOnly s b who

/-- A running descriptor of one burst of good words leaves the bank row equal to the DRAM bytes (R177). -/
theorem descRun_oneBurst {s : State} {e c num : Nat} {d : Desc} (hnow : (s.eng e).descNow c = some (num, d)) (hrows : d.rows = 1)
    (hlen : d.rowLen = 1) (hto : d.toDram = false) (hbase : d.baseSel = 0)
    (hadm : s.admits (natBits d.bank 18 5) (.chan (s.engSlot e) c) = true) (hin : s.inDram d.dram 64 = true)
    (hgood : ∀ i, i < 8 → s.dramErrAt (d.dram + 8 * i) = 0 ∧
      s.portE (natBits d.bank 18 5) (natBits d.bank 0 18 + 8 * i) ≠ some true) :
    (∀ i, i < 8 → (s.descRun e c).bankWord (natBits d.bank 18 5) (natBits d.bank 0 18 + 8 * i) =
        BitVec.ofNat 64 (s.dramWord (d.dram + 8 * i))) ∧ (s.descRun e c).dram = s.dram ∧
      ∀ b off, b ≠ natBits d.bank 18 5 → (s.descRun e c).bankWord b off = s.bankWord b off := by
  have hrun : s.descRun e c = (s.burst false (natBits d.bank 18 5) (natBits d.bank 0 18) d.dram 2).dropGrant
      (natBits d.bank 18 5) (.chan (s.engSlot e) c) := by
    simp only [State.descRun, hnow]
    exact runDesc_oneBurst hrows hlen hto hbase hadm hin
  obtain ⟨hwords, hdram, hother⟩ := burst_words (cls := 2) hgood
  have hbank (b off : Nat) : (s.descRun e c).bankWord b off =
      (s.burst false (natBits d.bank 18 5) (natBits d.bank 0 18) d.dram 2).bankWord b off := by
    rw [hrun]
    exact bankWord_banksAside (dropGrant_words _ _ _) b off
  refine ⟨fun i hi => (hbank _ _).trans (hwords i hi), ?_, fun b off hne => (hbank b off).trans (hother b off hne)⟩
  rw [hrun, dram_dropGrant]
  exact hdram

/-! IMEM_DATA_READ (R170). -/

/-- Fields of repeated registers set one after the other hold what all of them were set to. -/
theorem fld_setNths {f : Fld} (hs : f.stride ≠ 0) (hw : f.lo + f.w ≤ 32) (v : Nat → Nat) (l : List Nat) (s : State) {k : Nat}
    (h : s.fld (f.nth k) = v k % 2 ^ f.w ∨ k ∈ l) :
    (l.foldl (fun t k => t.setFld (f.nth k) (v k)) s).fld (f.nth k) = v k % 2 ^ f.w := by
  induction l generalizing s with
  | nil => exact h.resolve_right (by simp)
  | cons i l ih =>
    refine ih (s.setFld (f.nth i) (v i)) ?_
    by_cases hi : i = k
    · rw [hi]
      exact .inl (fld_setFld_same s (f.nth k) _ hw)
    · have hkey : (f.nth k).key ≠ (f.nth i).key := by
        simp only [Fld.key, regKey, Fld.nth, ne_eq, Nat.add_left_cancel_iff, Nat.mul_right_cancel_iff (Nat.pos_of_ne_zero hs)]
        exact fun hk => hi hk.symm
      rw [fld_setFld_ne _ _ _ _ hkey]
      exact h.imp_right fun hk => (List.mem_cons.1 hk).resolve_left fun hk => hi hk.symm

/-- The bundle IMEM_ADDR names. -/
def State.imemBundle (s : State) (e : Nat) : Bundle :=
  mapGet (fun _ => (0 : Bundle)) (s.eng e).imem (s.fld (ENG_IMEM_ADDR_ADDR.inst e))

/-- IMEM_DATA with a bundle fetched into it. -/
def State.imemFetched (s : State) (e : Nat) : State :=
  (List.range 4).foldl (fun t k => t.setFld ((ENG_IMEM_DATA_DATA.inst e).nth k) (natBits (s.imemBundle e).toNat (32 * k) 32)) s

theorem onlyRegs_imemFetched (s : State) (e : Nat) : OnlyRegs s (s.imemFetched e) :=
  List.foldlRecOn (motive := OnlyRegs s) (List.range 4) _ (OnlyRegs.refl s) fun _ ht _ _ => ht.setFld _ _

theorem fld_imemFetched (s : State) (e : Nat) {k : Nat} (hk : k < 4) :
    (s.imemFetched e).fld ((ENG_IMEM_DATA_DATA.inst e).nth k) = natBits (s.imemBundle e).toNat (32 * k) 32 := by
  refine (fld_setNths (f := ENG_IMEM_DATA_DATA.inst e) (by simp [Fld.inst, ENG_IMEM_DATA_DATA])
    (by simp [Fld.inst, ENG_IMEM_DATA_DATA]) (fun k => natBits (s.imemBundle e).toNat (32 * k) 32) (List.range 4) s
    (.inr (List.mem_range.2 hk))).trans ?_
  exact Nat.mod_eq_of_lt (natBits_lt _ _ 32)

/-- An answer after registers alone have changed. -/
theorem OnlyRegs.answered {s t : State} (h : OnlyRegs s t) (o : Out) : (t.emit o).out = s.out ++ [o] ∧ Quiet s (t.emit o) := by
  rw [h]
  exact ⟨rfl, rfl⟩

theorem exec_imemDataRead {s : State} {q : Req} {e : Nat} (he : e < 10) (hg : s.gate q (0x10 + e) = .served) :
    exec (.imemDataRead q e) s = .next (if s.imemServed e then (s.imemFetched e).emit (.data q [(s.imemBundle e).extractLsb' 0 32])
      else s.emit (.data q [0])) := by
  change execImemDataRead q e s = _
  unfold execImemDataRead State.serveRead
  rw [if_pos he, hg]
  dsimp only [State.readImem]
  split <;> rfl

theorem imemServed_iff (s : State) (e : Nat) : s.imemServed e = true ↔
    (s.engState e = esIdle ∨ s.engState e = esFaulted ∨ 2 ≤ s.fld (ENG_STATUS_ROLE.inst e)) ∧
      s.bit (ENG_CTRL_IMEM_RD_EN.inst e) = true := by
  simp [State.imemServed, or_assoc]

end Sys2Proof.Machine
open Sys2Proof Sys2Proof.Machine

/-- Settles O31: LAP_SAVE by the words its rows put in place; the other commands by the one state each of them answers. -/
theorem lapFenceWindowCommands : Obligations.LapFenceWindowCommands := by
  intro e s he
  refine ⟨fun g addr hm hst hb hbanks hpar hstall hadm hroom => ?_, fun hst hm hw hb => ?_, fun w hw hst hl ht => ?_, ?_,
    fun hrun hfull => ?_, fun c d tl hc hq hstall => ?_, fun q hg => ?_⟩
  · have hexec : exec (.lapSave e) s = .next (s.lapSave e g addr) := by
      change execLapSave e s = _
      unfold execLapSave
      simp only [hm]
      rw [if_pos ⟨hst, by simp [hb]⟩]
      simp only [hstall]
    obtain ⟨honly, hmem, hmark⟩ := lapSave_frame (addr := addr) hpar hadm hroom
    have hword (b off : Nat) := (hmem.2.1 b off).1
    refine ⟨_, hexec, hmark, lapSave_pads he hbanks hpar hadm hroom, lapSave_ends he hbanks hpar hadm hroom, fun row hrow => ?_,
      fun j hj => ?_, fun r j hr hgr hj => ?_, fun b off hne => ?_, ?_, ?_, honly⟩
    · rw [hword]
      exact bankWord_saveHead hrow
    · rw [hword]
      exact bankWord_saveS hj
    · rw [hword]
      exact bankWord_saveV hr hgr hj
    · rw [hword]
      exact (bankWord_putRows_other _ hne).trans ((memKept_atSave s e).2.1 b off).1
    · rw [honly.1]
    · rw [honly.1]
  · have hstep := engineStep_stateEng s e esRun fun z => { z with fenceMask := 0, lastIssue := s.time.mono }
    refine ⟨_, exec_fenceRelease hst hm hw hb, engState_setEngState s e (by decide), ?_, regsKept_setEngState s e esRun,
      hstep.memKept, hstep.engineOnly⟩
    rw [eng_stateEng]
  · have hstep := engineStep_stateEng s e esRun fun x => x.flush.resumed w
    refine ⟨_, exec_windowEnd hw hst hl ht, ?_⟩
    rw [windowEnd_eq, eng_stateEng]
    exact ⟨engState_setEngState s e (by decide), rfl, rfl, rfl, fun q hq => land_pend_flush hq, regsKept_setEngState s e esRun,
      hstep.memKept, hstep.engineOnly⟩
  · intro used hs h13
    have hpad := engineStep_padCounted (s := s) (e := e)
    refine ⟨fun hst _ => ?_, fun w hw hst hk hl => ?_⟩
    · have hexec : exec (.padStep e) s = .next (s.padStep e) := by
        change execPadStep e s = _
        exact if_pos hst
      refine ⟨_, hexec, ?_⟩
      rw [padStep_lap he hst hs h13, eng_padCounted]
      exact ⟨engState_padCounted.trans hst, stepInLap_padCounted h13, padFrame_padded _, rfl, hpad.memKept, hpad.engineOnly⟩
    · have hexec : exec (.padStep e) s = .next (s.padStep e) := by
        change execPadStep e s = _
        unfold execPadStep
        rw [if_neg (by rw [hst]; decide), hw]
        exact if_pos ⟨hst, hk, hl⟩
      have hwin := hpad.trans (EngineStep.modEng e (s.padCounted e) fun z => { z with window := some { w with left := w.left - 1 } })
      refine ⟨_, hexec, ?_⟩
      rw [padStep_window hw hst hs, eng_modEng_same, eng_padCounted, engState_modEng, fld_modEng]
      exact ⟨engState_padCounted.trans hst, stepInLap_padCounted h13, rfl, padFrame_padded _, hwin.memKept, hwin.engineOnly⟩
  · have hst : (s.atIssue e).engState e ≠ esFaulted := by
      rw [engState_atIssue]
      exact engState_ne_faulted hrun
    have hat : EngineStep e s (s.atIssue e) := EngineStep.setEng e s _
    obtain ⟨-, hcode, haddr, -⟩ := fld_faultRegs (s.atIssue e) e fcLapOverrun (s.eng e).pc 3
    refine ⟨_, exec_lapOverrun hrun hfull, engState_engFault _ e _ _ _ hst, ?_, ?_, event_engFault _ e _ _ _ hst,
      hat.memKept.trans (memKept_engFault _ e _ _ _ hst), hat.engineOnly.trans (engineOnly_engFault _ e _ _ _)⟩
    · rw [fld_engFault _ e _ _ _ hst (g := ENG_FAULT_INFO_CODE) rfl (by decide), hcode]
      rfl
    · rw [fld_engFault _ e _ _ _ hst (g := ENG_FAULT_INFO_ADDR) rfl (by decide), haddr]
  · have hdone := engineStep_chanDone (s.descRun e c) e c
    refine ⟨_, exec_descriptorComplete hstall, chan_chanDone (by rw [eng_descRun]; exact hq), ?_⟩
    intro tab l dd htab hdesc hdd hrows hlen hto hbase _ _ hadm hin hgood
    have hnow : (s.eng e).descNow c = some (d, dd) := by simp [EngS.descNow, hq, htab, hdesc, hdd]
    obtain ⟨hwords, hdram, hother⟩ := descRun_oneBurst hnow hrows hlen hto hbase hadm hin hgood
    have hbank (b off : Nat) := (hdone.memKept.2.1 b off).1
    exact ⟨fun i hi => (hbank _ _).trans (hwords i hi), (dram_engineStep hdone).trans hdram,
      fun b off hne => (hbank b off).trans (hother b off hne)⟩
  · refine ⟨_, exec_imemDataRead he hg, ?_⟩
    split
    next hs =>
      have hmay := (imemServed_iff s e).1 hs
      obtain ⟨hout, hquiet⟩ := (onlyRegs_imemFetched s e).answered (.data q [(s.imemBundle e).extractLsb' 0 32])
      exact ⟨⟨fun _ => ⟨hout, fun k hk => (fld_emit _ _ _).trans (fld_imemFetched s e hk)⟩, fun hn => absurd hmay hn⟩,
        MemKept.of_quiet hquiet, EngineOnly.of_quiet hquiet⟩
    next hs =>
      have hmay := mt (imemServed_iff s e).2 hs
      exact ⟨⟨fun h => absurd h hmay, fun _ => ⟨rfl, rfl⟩⟩, MemKept.of_quiet (quiet_emit s _),
        EngineOnly.of_quiet (quiet_emit s _)⟩
end

section
/-! PROOF. The registers of the speed monitor after a sample interval (R194 to R196, R205) (O35). -/

namespace Sys2Proof.Machine

open Sys2Proof

/-! What a sample interval leaves alone. -/

/-- Nothing but registers, records, outputs, the sequencer's own data, the voltage's and the groomer's differs. -/
def SpeedOnly (s t : State) : Prop :=
  t = { s with regs := t.regs, recQ := t.recQ, out := t.out, plan := t.plan, avs := t.avs, groom := t.groom }

namespace SpeedOnly

theorem refl (s : State) : SpeedOnly s s := rfl

theorem trans {s t u : State} (h : SpeedOnly s t) (g : SpeedOnly t u) : SpeedOnly s u := by
  unfold SpeedOnly at *
  rw [g, h]

theorem of_quiet {s t : State} (h : Quiet s t) : SpeedOnly s t := by
  unfold SpeedOnly
  rw [h]

theorem setFld (s : State) (f : Fld) (v : Nat) : SpeedOnly s (s.setFld f v) := rfl

theorem modAvs (s : State) (f : AvsS → AvsS) : SpeedOnly s (s.modAvs f) := rfl

theorem setPlan (s : State) (p : PlanS) : SpeedOnly s { s with plan := p } := rfl

theorem memKept {s t : State} (h : SpeedOnly s t) : MemKept s t := by
  rw [h]
  exact ⟨fun _ => ⟨rfl, rfl⟩, fun _ _ => ⟨rfl, rfl⟩, fun _ _ => rfl⟩

theorem engs {s t : State} (h : SpeedOnly s t) : t.engs = s.engs := by rw [h]

end SpeedOnly

/-! An up-step of the voltage (R483). -/

/-- Registers an up-step may write: AVS_NOW, AVS_COUNT and those of the page's events. -/
def avsKey (k : Nat) : Bool := [SPEED_AVS_NOW_MV.key, SPEED_AVS_COUNT_UP.key].contains k || evKey 13 k

theorem regsKept_raiseSpeed (s : State) (k a : Nat) : RegsKept avsKey s (s.raise 13 k a) :=
  (regsKept_raise s 13 k a).mono fun j hj => by
    simp only [avsKey, Bool.or_eq_false_iff] at hj
    exact hj.2

/-- What acting on a slow sample may change. -/
def SlowFrame (s t : State) : Prop := SpeedOnly s t ∧ RegsKept avsKey s t

namespace SlowFrame

theorem refl (s : State) : SlowFrame s s := ⟨SpeedOnly.refl s, RegsKept.refl _ s⟩

theorem trans {s t u : State} (h : SlowFrame s t) (g : SlowFrame t u) : SlowFrame s u := ⟨h.1.trans g.1, h.2.trans g.2⟩

theorem ite {s t u : State} (c : Prop) [Decidable c] (h : SlowFrame s t) (g : SlowFrame s u) : SlowFrame s (if c then t else u) := by
  split <;> assumption

variable (s : State)

theorem setFld {f : Fld} (v : Nat) (h : avsKey f.key = true) : SlowFrame s (s.setFld f v) :=
  ⟨SpeedOnly.setFld s f v, regsKept_setFld s f v h⟩

theorem modAvs (f : AvsS → AvsS) : SlowFrame s (s.modAvs f) := ⟨SpeedOnly.modAvs s f, fun _ _ => rfl⟩

theorem setPlan (p : PlanS) : SlowFrame s { s with plan := p } := ⟨SpeedOnly.setPlan s p, fun _ _ => rfl⟩

theorem raise (k a : Nat) : SlowFrame s (s.raise 13 k a) :=
  ⟨SpeedOnly.of_quiet (quiet_raise s 13 k a), regsKept_raiseSpeed s k a⟩

theorem emit (o : Out) : SlowFrame s (s.emit o) := ⟨SpeedOnly.of_quiet (quiet_emit s o), fun _ _ => rfl⟩

theorem pmbusSend (c d : Nat) : SlowFrame s (s.pmbusSend c d) := (ite _ (emit s _) (refl s)).trans (emit _ _)

theorem avsCommand (mv : Nat) : SlowFrame s (s.avsCommand mv) := by
  have hsent (f : AvsS → AvsS) :=
    ((setFld s (f := SPEED_AVS_NOW_MV) mv (by simp [avsKey])).trans (modAvs _ f)).trans (pmbusSend _ 0x21 mv)
  have hup : avsKey SPEED_AVS_COUNT_UP.key = true := by simp [avsKey]
  exact (ite _ ((hsent _).trans (setFld _ _ hup)) ((hsent _).trans (setFld _ (f := SPEED_AVS_COUNT_DOWN) _ hup))).trans (raise _ _ _)

theorem avsUp : SlowFrame s s.avsUp :=
  ite _ (ite _ ((modAvs s _).trans (raise _ _ _)) ((modAvs s _).trans (avsCommand _ _))) (refl s)

/-- A slow sample stretches dues and may raise the voltage, no more (R205). -/
theorem slowStep (e sample : Nat) : SlowFrame s (s.slowStep e sample) :=
  ite _ (((setPlan s _).trans (raise _ _ _)).trans (avsUp _)) (refl s)

theorem slowSteps (l : List (SpeedIn × Nat)) : SlowFrame s (l.foldl (fun t q => t.slowStep q.2 (sampleOf q.1).1) s) :=
  List.foldlRecOn (motive := SlowFrame s) l _ (refl s) fun _ ht q _ => ht.trans (slowStep _ q.2 _)

end SlowFrame

/-! T_ADM_PS and CORNER (R196). -/

/-- A register of the page that neither the voltage nor an event writes. -/
theorem avsKey_speed {f : Fld} (hp : f.page = 13) (ho : f.off < 4096 ∧ f.off ≠ 0x010 ∧ f.off ≠ 0x110 ∧ f.off ≠ 0x118) :
    avsKey f.key = false := by
  simp only [avsKey, evKey, Fld.key, regKey, hp, SPEED_AVS_NOW_MV, SPEED_AVS_COUNT_UP, List.contains_cons, List.contains_nil,
    Bool.or_false, Bool.or_eq_false_iff, beq_eq_false_iff_ne]
  omega

theorem key_speed_ne {f g : Fld} (hf : f.page = 13) (hg : g.page = 13) (h : f.off ≠ g.off) : f.key ≠ g.key := by
  simp only [Fld.key, regKey, hf, hg]
  omega

section

variable (s : State)

/-- The two registers of the admission step time set. -/
def State.tAdmSet (s : State) : State :=
  (s.setFld SPEED_T_ADM_PS_PS s.tAdm).setBit SPEED_STATUS_CORNER (decide (s.guardPs < s.fld SPEED_CORNER_PS_PS))

theorem frame_speedSync : SpeedOnly s s.speedSync ∧ RegsKept avsKey s.tAdmSet s.speedSync := by
  have hset : SpeedOnly s s.tAdmSet := (SpeedOnly.setFld s _ _).trans (SpeedOnly.setFld _ _ _)
  have hraise (a : Nat) : SpeedOnly s (s.tAdmSet.raise 13 9 a) := hset.trans (SpeedOnly.of_quiet (quiet_raise _ _ _ _))
  unfold State.speedSync
  dsimp only
  split
  · exact ⟨hset, RegsKept.refl _ _⟩
  · exact ⟨hraise _, regsKept_raiseSpeed _ _ _⟩

/-- Fields that the admission step time does not stand in. -/
theorem fld_speedSync {f : Fld} (hp : f.page = 13)
    (ho : f.off < 4096 ∧ f.off ≠ 0x00C ∧ f.off ≠ 0x070 ∧ f.off ≠ 0x010 ∧ f.off ≠ 0x110 ∧ f.off ≠ 0x118) :
    s.speedSync.fld f = s.fld f := by
  obtain ⟨h0, h1, h2, h3⟩ := ho
  rw [fld_of_regsKept (frame_speedSync s).2 (avsKey_speed hp ⟨h0, h3⟩), State.tAdmSet, setBit_eq,
    fld_setFld_ne _ _ _ _ (key_speed_ne hp rfl h1), fld_setFld_ne _ _ _ _ (key_speed_ne hp rfl h2)]

theorem tAdm_speedSync : s.speedSync.fld SPEED_T_ADM_PS_PS = s.tAdm % 2 ^ 16 := by
  rw [fld_of_regsKept (frame_speedSync s).2 (avsKey_speed rfl (by decide)), State.tAdmSet, setBit_eq,
    fld_setFld_ne _ _ _ _ (key_speed_ne rfl rfl (by decide)), fld_setFld_same _ _ _ (by decide)]
  rfl

theorem corner_speedSync : s.speedSync.bit SPEED_STATUS_CORNER = decide (s.guardPs < s.fld SPEED_CORNER_PS_PS) := by
  rw [State.bit, fld_of_regsKept (frame_speedSync s).2 (avsKey_speed rfl (by decide)), State.tAdmSet]
  exact bit_setBit_same _ (f := SPEED_STATUS_CORNER) (by decide) _

end

/-! The samples of an interval. -/

/-- The engines' samples with the engines they are of. -/
def samplesOf (xs : List SpeedIn) : List (SpeedIn × Nat) := (xs.take 10).zip (List.range 10)

theorem mem_samplesOf {xs : List SpeedIn} {q : SpeedIn × Nat} : q ∈ samplesOf xs ↔ q.2 < 10 ∧ xs[q.2]? = some q.1 := by
  obtain ⟨x, n⟩ := q
  simp only [samplesOf, List.mem_iff_getElem?]
  constructor
  · rintro ⟨i, hi⟩
    obtain ⟨hx, hn⟩ := List.getElem?_zip_eq_some.1 hi
    obtain ⟨hlt, rfl⟩ := List.getElem?_eq_some_iff.1 hn
    rw [List.length_range] at hlt
    rw [List.getElem_range]
    exact ⟨hlt, by rwa [List.getElem?_take_of_lt hlt] at hx⟩
  · rintro ⟨hlt, hx⟩
    exact ⟨n, List.getElem?_zip_eq_some.2 ⟨by rwa [List.getElem?_take_of_lt hlt], List.getElem?_range hlt⟩⟩

/-- The live step time of one engine set from its sample (R195). -/
def State.liveStep (s : State) (q : SpeedIn × Nat) : State :=
  (s.setFld (SPEED_LIVE_PS_PS.nth q.2) (sampleOf q.1).1).setBit (SPEED_LIVE_PS_MEASURED.nth q.2) (sampleOf q.1).2

/-- The live step times of the engines of a list. -/
def State.liveSet (s : State) (l : List (SpeedIn × Nat)) : State := l.foldl State.liveStep s

theorem live_liveStep (s : State) (q : SpeedIn × Nat) (n : Nat) : (s.liveStep q).fld (SPEED_LIVE_PS_PS.nth n) =
    if q.2 = n then (sampleOf q.1).1 % 2 ^ 16 else s.fld (SPEED_LIVE_PS_PS.nth n) := by
  rw [State.liveStep, setBit_eq]
  by_cases hq : q.2 = n
  · rw [if_pos hq]
    have hkey : (SPEED_LIVE_PS_PS.nth n).key = (SPEED_LIVE_PS_MEASURED.nth n).key := rfl
    rw [hq, fld_setFld_apart _ _ _ _ hkey (by simp [Fld.nth, SPEED_LIVE_PS_MEASURED])
      (.inl (by simp [Fld.nth, SPEED_LIVE_PS_PS, SPEED_LIVE_PS_MEASURED])),
      fld_setFld_same _ _ _ (by simp [Fld.nth, SPEED_LIVE_PS_PS])]
    rfl
  · rw [if_neg hq]
    have hkey (f : Fld) (hf : f.page = 13 ∧ f.off = 0x040 ∧ f.stride = 4) : (SPEED_LIVE_PS_PS.nth n).key ≠ (f.nth q.2).key := by
      simp only [Fld.key, regKey, Fld.nth, SPEED_LIVE_PS_PS, hf.1, hf.2.1, hf.2.2]
      omega
    rw [fld_setFld_ne _ _ _ _ (hkey SPEED_LIVE_PS_MEASURED ⟨rfl, rfl, rfl⟩),
      fld_setFld_ne _ _ _ _ (hkey SPEED_LIVE_PS_PS ⟨rfl, rfl, rfl⟩)]

theorem liveSet_cons (s : State) (q : SpeedIn × Nat) (l : List (SpeedIn × Nat)) :
    s.liveSet (q :: l) = (s.liveStep q).liveSet l := by
  rw [State.liveSet, State.liveSet, List.foldl_cons]

theorem speedOnly_liveSet (s : State) (l : List (SpeedIn × Nat)) : SpeedOnly s (s.liveSet l) :=
  List.foldlRecOn (motive := SpeedOnly s) l _ (SpeedOnly.refl s) fun _ ht _ _ =>
    (ht.trans (SpeedOnly.setFld _ _ _)).trans (SpeedOnly.setFld _ _ _)

/-- LIVE_PS of an engine reads what all the samples of the list say of it. -/
theorem live_liveSet {n v : Nat} (l : List (SpeedIn × Nat)) (s : State) (hall : ∀ q ∈ l, q.2 = n → (sampleOf q.1).1 = v)
    (h : s.fld (SPEED_LIVE_PS_PS.nth n) = v % 2 ^ 16 ∨ ∃ q ∈ l, q.2 = n) :
    (s.liveSet l).fld (SPEED_LIVE_PS_PS.nth n) = v % 2 ^ 16 := by
  induction l generalizing s with
  | nil => exact h.resolve_right (by simp)
  | cons q l ih =>
    rw [liveSet_cons]
    refine ih (s.liveStep q) (fun p hp => hall p (by simp [hp])) ?_
    rw [live_liveStep]
    split
    next hq => exact .inl (by rw [hall q (by simp) hq])
    next hq =>
      refine h.imp_right ?_
      rintro ⟨p, hp, hpn⟩
      obtain rfl | hp := List.mem_cons.1 hp
      · exact absurd hpn hq
      · exact ⟨p, hp, hpn⟩

/-! The interval (R195, R196). -/

/-- The worst sample of an interval among engines that count. -/
def State.worstOf (s : State) (l : List (SpeedIn × Nat)) : Nat :=
  l.foldl (fun m q => if s.fld (ENG_STATUS_ROLE.inst q.2) ≤ 1 then max m (sampleOf q.1).1 else m) 0

/-- The window of intervals with the latest one. -/
def State.speedWindow (s : State) (l : List (SpeedIn × Nat)) (mv : Nat) : List (Nat × Nat × Int) :=
  ((s.worstOf l, mv, s.tjNow.getD 0) :: s.plan.window).take (max (s.fld SPEED_WINDOW_INTERVALS) 1)

/-- WORST_PS, VDDC_MV, TJ_MAX and CORNER_PS of a window of intervals. -/
def State.windowSet (s : State) (win : List (Nat × Nat × Int)) (mv : Nat) (tj : Int) : State :=
  (((s.setFld SPEED_WORST_PS_PS (win.foldl (fun m q => max m q.1) 0)).setFld SPEED_VDDC_MV_MV
    (win.foldl (fun m q => min m q.2.1) mv)).setInt SPEED_TJ_MAX_C (win.foldl (fun m q => max m q.2.2) tj / 16)).setFld
    SPEED_CORNER_PS_PS (cornerPs (win.foldl (fun m q => min m q.2.1) mv) (win.foldl (fun m q => max m q.2.2) tj))

/-- The interval's samples in the registers, before slow samples are acted on. -/
def State.sampled (s : State) (l : List (SpeedIn × Nat)) (mv : Nat) : State :=
  State.windowSet { s.liveSet l with plan := { (s.liveSet l).plan with window := s.speedWindow l mv } } (s.speedWindow l mv) mv
    (s.tjNow.getD 0)

theorem speedInterval_eq (s : State) (xs : List SpeedIn) (mv : Nat) : s.speedInterval xs mv =
    ((samplesOf xs).foldl (fun t q => t.slowStep q.2 (sampleOf q.1).1) (s.sampled (samplesOf xs) mv)).speedSync := rfl

section

variable (s : State) (l : List (SpeedIn × Nat)) (xs : List SpeedIn) (mv : Nat)

theorem speedOnly_windowSet (win : List (Nat × Nat × Int)) (tj : Int) : SpeedOnly s (s.windowSet win mv tj) :=
  (((SpeedOnly.setFld s _ _).trans (SpeedOnly.setFld _ _ _)).trans (SpeedOnly.setFld _ _ _)).trans (SpeedOnly.setFld _ _ _)

theorem speedOnly_sampled : SpeedOnly s (s.sampled l mv) :=
  ((speedOnly_liveSet s l).trans (SpeedOnly.setPlan _ _)).trans (speedOnly_windowSet _ _ _ _)

theorem speedOnly_speedInterval : SpeedOnly s (s.speedInterval xs mv) := by
  rw [speedInterval_eq]
  exact ((speedOnly_sampled s _ mv).trans (SlowFrame.slowSteps _ _).1).trans (frame_speedSync _).1

/-- Registers of the samples stand as they were set. -/
theorem fld_speedInterval {f : Fld} (hp : f.page = 13)
    (ho : f.off < 4096 ∧ f.off ≠ 0x00C ∧ f.off ≠ 0x070 ∧ f.off ≠ 0x010 ∧ f.off ≠ 0x110 ∧ f.off ≠ 0x118) :
    (s.speedInterval xs mv).fld f = (s.sampled (samplesOf xs) mv).fld f := by
  obtain ⟨h0, h1, h2, h3⟩ := ho
  rw [speedInterval_eq, fld_speedSync _ hp ⟨h0, h1, h2, h3⟩, fld_of_regsKept (SlowFrame.slowSteps _ _).2 (avsKey_speed hp ⟨h0, h3⟩)]

theorem live_windowSet (win : List (Nat × Nat × Int)) (tj : Int) {n : Nat} (hn : n < 10) :
    (s.windowSet win mv tj).fld (SPEED_LIVE_PS_PS.nth n) = s.fld (SPEED_LIVE_PS_PS.nth n) := by
  have hkey {g : Fld} (hg : g.page = 13) (h : 0x068 ≤ g.off) : (SPEED_LIVE_PS_PS.nth n).key ≠ g.key := by
    refine key_speed_ne rfl hg ?_
    simp only [Fld.nth, SPEED_LIVE_PS_PS]
    omega
  unfold State.windowSet
  rw [fld_setFld_ne _ _ _ _ (hkey rfl (by decide)), setInt_eq, fld_setFld_ne _ _ _ _ (hkey rfl (by decide)),
    fld_setFld_ne _ _ _ _ (hkey rfl (by decide)), fld_setFld_ne _ _ _ _ (hkey rfl (by decide))]

theorem vddc_windowSet (win : List (Nat × Nat × Int)) (tj : Int) :
    (s.windowSet win mv tj).fld SPEED_VDDC_MV_MV = win.foldl (fun m q => min m q.2.1) mv % 2 ^ 16 := by
  unfold State.windowSet
  rw [fld_setFld_ne _ _ _ _ (key_speed_ne rfl rfl (by decide)), setInt_eq,
    fld_setFld_ne _ _ _ _ (key_speed_ne rfl rfl (by decide)), fld_setFld_same _ _ _ (by decide)]
  rfl

theorem corner_windowSet (win : List (Nat × Nat × Int)) (tj : Int) : (s.windowSet win mv tj).fld SPEED_CORNER_PS_PS =
    cornerPs (win.foldl (fun m q => min m q.2.1) mv) (win.foldl (fun m q => max m q.2.2) tj) % 2 ^ 16 := by
  unfold State.windowSet
  rw [fld_setFld_same _ _ _ (by decide)]
  rfl

/-- LIVE_PS of an engine after the interval (R195). -/
theorem live_speedInterval {n : Nat} {x : SpeedIn} (hn : n < 10) (hx : xs[n]? = some x) :
    (s.speedInterval xs mv).fld (SPEED_LIVE_PS_PS.nth n) =
      max (if 1024 ≤ x.steps then x.issuingPs / x.steps else 0) x.replicaPs % 2 ^ 16 := by
  have hoff : (SPEED_LIVE_PS_PS.nth n).off = 0x040 + n * 4 := rfl
  have hplan (t : State) (p : PlanS) (f : Fld) : ({ t with plan := p } : State).fld f = t.fld f := rfl
  rw [fld_speedInterval s xs mv rfl (by rw [hoff]; omega), State.sampled, live_windowSet _ _ _ _ hn, hplan]
  refine live_liveSet (samplesOf xs) s (fun q hq hqn => ?_) (.inr ⟨(x, n), mem_samplesOf.2 ⟨hn, hx⟩, rfl⟩)
  obtain ⟨-, hq⟩ := mem_samplesOf.1 hq
  rw [hqn, hx] at hq
  cases hq
  rfl

/-- T_ADM_PS and STATUS.CORNER after the interval (R196). -/
theorem tAdm_speedInterval :
    (s.speedInterval xs mv).fld SPEED_T_ADM_PS_PS = (s.speedInterval xs mv).tAdm % 2 ^ 16 ∧
      (s.speedInterval xs mv).bit SPEED_STATUS_CORNER =
        decide ((s.speedInterval xs mv).guardPs < (s.speedInterval xs mv).fld SPEED_CORNER_PS_PS) := by
  rw [speedInterval_eq]
  generalize (samplesOf xs).foldl (fun t q => t.slowStep q.2 (sampleOf q.1).1) (s.sampled (samplesOf xs) mv) = u
  have hguard : u.speedSync.guardPs = u.guardPs := by
    rw [State.guardPs, fld_speedSync u rfl (by decide), fld_speedSync u rfl (by decide), State.guardPs]
  have hcorner : u.speedSync.fld SPEED_CORNER_PS_PS = u.fld SPEED_CORNER_PS_PS := fld_speedSync u rfl (by decide)
  rw [tAdm_speedSync, corner_speedSync, State.tAdm, State.tAdm, hguard, hcorner]
  exact ⟨rfl, rfl⟩

/-- VDDC_MV and CORNER_PS of the first interval of a window (R194, R195). -/
theorem first_speedInterval (h : s.plan.window = []) :
    (s.speedInterval xs mv).fld SPEED_VDDC_MV_MV = mv % 2 ^ 16 ∧
      (s.speedInterval xs mv).fld SPEED_CORNER_PS_PS = cornerPs mv (s.tjNow.getD 0) % 2 ^ 16 := by
  have hwin : s.speedWindow (samplesOf xs) mv = [(s.worstOf (samplesOf xs), mv, s.tjNow.getD 0)] := by
    rw [State.speedWindow, h]
    exact List.take_of_length_le (by simp)
  rw [fld_speedInterval s xs mv rfl (by decide), fld_speedInterval s xs mv rfl (by decide), State.sampled, vddc_windowSet,
    corner_windowSet, hwin]
  simp

end

end Sys2Proof.Machine
end

section
/-! PROOF. Code in the segments of the engines after a switch (R126, R173, R192) (O35). -/

namespace Sys2Proof.Machine

open Sys2Proof

/-! A segment loaded. -/

theorem mapGet_setList_in {β : Type} [DecidableEq β] (d : Nat → β) (m : List (Nat × β)) (k : Nat) {vs : List β} {i : Nat}
    (hi : i < vs.length) : some (mapGet d (mapSetList d m k vs) (k + i)) = vs[i]? := by
  have hall := congrArg (fun l => l[i]?) (mapGetList_setList d vs m k)
  simp only [mapGetList, List.getElem?_map, List.getElem?_range hi, Option.map_some] at hall
  exact hall

/-- The bundle an engine holds at an address of its instruction memory. -/
def EngS.bundleIn (x : EngS) (a : Nat) : Bundle := mapGet (fun _ => (0 : Bundle)) x.imem a

section

variable (x : EngS) (seg : Nat) (code : List Bundle)

/-- A segment holds the code it has been loaded with. -/
theorem bundleIn_loadSeg {i : Nat} (hi : i < 8192) (hc : i < code.length) :
    some ((x.loadSeg seg code).bundleIn (seg * 8192 + i)) = code[i]? := by
  have hlen : i < (code.take 8192).length := by
    rw [List.length_take]
    omega
  refine (mapGet_setList_in _ _ _ hlen).trans ?_
  rw [List.getElem?_take_of_lt hi]

/-- A loaded segment leaves the others alone. -/
theorem bundleIn_loadSeg_other {seg' i : Nat} (h : seg' ≠ seg) (hi : i < 8192) :
    (x.loadSeg seg code).bundleIn (seg' * 8192 + i) = x.bundleIn (seg' * 8192 + i) := by
  have hout : seg' * 8192 + i < seg * 8192 ∨ seg * 8192 + 8192 ≤ seg' * 8192 + i := by omega
  have hlen : (code.take 8192).length ≤ 8192 := List.length_take_le _ _
  refine (mapGet_setList_out _ _ _ _ _ (by omega)).trans (mapGet_filter_kept _ _ fun q hq => ?_)
  simp only [hq, Bool.not_eq_true', decide_eq_false_iff_not]
  omega

end

/-! A reserve loaded (R192). -/

/-- Segment `j` of a reserve of group `g` takes the code of the slot it shadows. -/
def State.loadShadow (s : State) (p : PlanTabs) (g e j : Nat) : State :=
  match p.slots[4 * g + j]? with
  | some tab => s.modEng e fun x => x.loadSeg j tab.code
  | none => s

/-- Segments of a reserve loaded in the order of the list. -/
def State.loadShadows (s : State) (p : PlanTabs) (g e : Nat) (l : List Nat) : State := l.foldl (fun t j => t.loadShadow p g e j) s

theorem loadShadows_cons (s : State) (p : PlanTabs) (g e j : Nat) (l : List Nat) :
    s.loadShadows p g e (j :: l) = (s.loadShadow p g e j).loadShadows p g e l := by
  rw [State.loadShadows, State.loadShadows, List.foldl_cons]

section

variable (s : State) (p : PlanTabs) (g e : Nat)

theorem engineStep_loadShadow (j : Nat) : EngineStep e s (s.loadShadow p g e j) := by
  unfold State.loadShadow
  split
  · exact EngineStep.modEng e s _
  · exact EngineStep.refl e s

theorem regs_loadShadow (j : Nat) : (s.loadShadow p g e j).regs = s.regs := by
  unfold State.loadShadow
  split <;> rfl

theorem frame_loadShadows (l : List Nat) : EngineStep e s (s.loadShadows p g e l) ∧ (s.loadShadows p g e l).regs = s.regs :=
  List.foldlRecOn (motive := fun t : State => EngineStep e s t ∧ t.regs = s.regs) l _ ⟨EngineStep.refl e s, rfl⟩
    fun t ht j _ => ⟨ht.1.trans (engineStep_loadShadow t p g e j), (regs_loadShadow t p g e j).trans ht.2⟩

/-- Whether segment `j` of engine `e` holds the code of the slot it shadows. -/
def State.shadows (s : State) (p : PlanTabs) (g e j : Nat) : Prop :=
  ∀ tab i, p.slots[4 * g + j]? = some tab → i < 8192 → i < tab.code.length →
    some ((s.eng e).bundleIn (j * 8192 + i)) = tab.code[i]?

theorem shadows_loadShadow (j : Nat) : (s.loadShadow p g e j).shadows p g e j := by
  intro tab i htab hi hc
  simp only [State.loadShadow, htab, eng_modEng_same]
  exact bundleIn_loadSeg _ _ _ hi hc

theorem shadows_loadShadow_other {j k : Nat} (hjk : j ≠ k) (h : s.shadows p g e j) : (s.loadShadow p g e k).shadows p g e j := by
  intro tab i htab hi hc
  unfold State.loadShadow
  split
  · rw [eng_modEng_same, bundleIn_loadSeg_other _ _ _ hjk hi]
    exact h tab i htab hi hc
  · exact h tab i htab hi hc

variable {s p g e}

theorem shadows_loadShadows {j : Nat} (l : List Nat) (s : State) (h : s.shadows p g e j ∨ j ∈ l) :
    (s.loadShadows p g e l).shadows p g e j := by
  induction l generalizing s with
  | nil => exact h.resolve_right (by simp)
  | cons k l ih =>
    rw [loadShadows_cons]
    refine ih _ ?_
    by_cases hjk : j = k
    · exact .inl (hjk ▸ shadows_loadShadow s p g e j)
    · obtain h | h := h
      · exact .inl (shadows_loadShadow_other s p g e hjk h)
      · exact .inr ((List.mem_cons.1 h).resolve_left hjk)

/-- What an engine holds does not change with another engine or a register. -/
theorem shadows_congr {t : State} {j : Nat} (h : t.eng e = s.eng e) (hs : s.shadows p g e j) : t.shadows p g e j := by
  intro tab i htab hi hc
  rw [h]
  exact hs tab i htab hi hc

end

section

variable (s : State) {g : Nat}

theorem loadReserve_none (h : s.reserveOf g = none) : s.loadReserve g = s := by
  simp only [State.loadReserve, h]

theorem loadReserve_some {e : Nat} {p : PlanTabs} (h : s.reserveOf g = some e) (hp : s.plan.active = some p) :
    s.loadReserve g = (s.setBit (ENG_STATUS_CODE_VALID.inst e) true).loadShadows p g e (List.range 4) := by
  simp only [State.loadReserve, h, hp]
  rfl

/-- What loading reserves may change. -/
def EngsOnly (s t : State) : Prop := t = { s with regs := t.regs, engs := t.engs }

theorem EngsOnly.trans {s t u : State} (h : EngsOnly s t) (g : EngsOnly t u) : EngsOnly s u := by
  unfold EngsOnly at *
  rw [g, h]

/-- Loading a reserve: its code valid, and only that engine is touched. -/
theorem frame_loadReserve : EngsOnly s (s.loadReserve g) ∧ (∀ k, s.reserveOf g ≠ some k → (s.loadReserve g).eng k = s.eng k) ∧
    ∀ f, (∀ e, (ENG_STATUS_CODE_VALID.inst e).apart f = true) → (s.loadReserve g).fld f = s.fld f := by
  cases hr : s.reserveOf g with
  | none =>
    rw [loadReserve_none s hr]
    exact ⟨rfl, fun _ _ => rfl, fun _ _ => rfl⟩
  | some e =>
    cases hp : s.plan.active with
    | none =>
      have hsame : s.loadReserve g = s := by simp only [State.loadReserve, hr, hp]
      rw [hsame]
      exact ⟨rfl, fun _ _ => rfl, fun _ _ => rfl⟩
    | some p =>
      rw [loadReserve_some s hr hp]
      obtain ⟨hstep, hregs⟩ := frame_loadShadows (s.setBit (ENG_STATUS_CODE_VALID.inst e) true) p g e (List.range 4)
      refine ⟨((EngineStep.setFld e s _ _).trans hstep).1, fun k hk => ?_, fun f hf => ?_⟩
      · exact ((EngineStep.setFld e s _ _).trans hstep).2 k fun hke => hk (by rw [hke])
      · have hreg : ((s.setBit (ENG_STATUS_CODE_VALID.inst e) true).loadShadows p g e (List.range 4)).fld f =
            (s.setBit (ENG_STATUS_CODE_VALID.inst e) true).fld f := by
          unfold State.fld State.reg
          rw [hregs]
        rw [hreg, setBit_eq, fld_setFld_of_apart _ (hf e)]

theorem shadows_loadReserve {e j : Nat} {p : PlanTabs} (h : s.reserveOf g = some e) (hp : s.plan.active = some p) (hj : j < 4) :
    (s.loadReserve g).shadows p g e j := by
  rw [loadReserve_some s h hp]
  exact shadows_loadShadows _ _ (.inr (List.mem_range.2 hj))

/-- Marking code valid leaves the roles of the engines alone. -/
theorem apart_codeValid_role (e k : Nat) : (ENG_STATUS_CODE_VALID.inst e).apart (ENG_STATUS_ROLE.inst k) = true := by
  refine decide_eq_true (.inr ⟨?_, .inl ?_⟩) <;> simp [Fld.inst, ENG_STATUS_CODE_VALID, ENG_STATUS_ROLE]

theorem reserveOf_loadReserve (k : Nat) : (s.loadReserve g).reserveOf k = s.reserveOf k := by
  obtain ⟨honly, -, hfld⟩ := frame_loadReserve s (g := g)
  have hrole (e : Nat) : (s.loadReserve g).role e = s.role e := hfld _ fun e' => apart_codeValid_role e' e
  have hplan : (s.loadReserve g).plan = s.plan := by rw [honly]
  unfold State.reserveOf
  rw [hplan]
  simp only [hrole]

end

/-! RESHADOWED (R192). -/

/-- Both reserves loaded. -/
def State.reservesLoaded (s : State) : State := (s.loadReserve 0).loadReserve 1

theorem shadows_reservesLoaded {s : State} {p : PlanTabs} {g j e : Nat} (hne : s.reserveOf 0 ≠ s.reserveOf 1) (hg : g < 2) (hj : j < 4)
    (hp : s.plan.active = some p) (hr : s.reserveOf g = some e) : s.reservesLoaded.shadows p g e j := by
  obtain ⟨honly, -, -⟩ := frame_loadReserve s (g := 0)
  have hp' : (s.loadReserve 0).plan.active = some p := by
    rw [honly]
    exact hp
  obtain rfl | rfl : g = 0 ∨ g = 1 := by omega
  · refine shadows_congr ?_ (shadows_loadReserve s hr hp hj)
    refine (frame_loadReserve (s.loadReserve 0) (g := 1)).2.1 e fun h1 => hne ?_
    rw [hr, ← h1, reserveOf_loadReserve]
  · exact shadows_loadReserve (s.loadReserve 0) ((reserveOf_loadReserve s 1).trans hr) hp' hj

theorem reshadow_eq (s : State) : s.reshadow =
    ((s.reservesLoaded.setBit PLAN_STATUS_RESHADOW_PENDING false).shadowSync).raise planPage 21 0 := rfl

theorem frame_shadowSync (s : State) : OnlyRegs s s.shadowSync ∧
    s.shadowSync.bit PLAN_STATUS_RESHADOW_PENDING = s.bit PLAN_STATUS_RESHADOW_PENDING := by
  have h : OnlyRegs s s.shadowSync ∧ s.shadowSync.fld PLAN_STATUS_RESHADOW_PENDING = s.fld PLAN_STATUS_RESHADOW_PENDING :=
    List.foldlRecOn (motive := fun t => OnlyRegs s t ∧ t.fld PLAN_STATUS_RESHADOW_PENDING = s.fld PLAN_STATUS_RESHADOW_PENDING)
      (List.range 8) _ ⟨OnlyRegs.refl s, rfl⟩ fun t ht k _ => by
        refine ⟨ht.1.setFld _ _, ?_⟩
        rw [setBit_eq, fld_setFld_ne _ _ _ _ ?_]
        · exact ht.2
        · simp only [Fld.key, regKey, Fld.nth, PLAN_STATUS_RESHADOW_PENDING, PLAN_SLOT_SHADOWED]
          omega
  exact ⟨h.1, by rw [State.bit, h.2, State.bit]⟩

section

variable (s : State)

theorem pending_reshadow : s.reshadow.bit PLAN_STATUS_RESHADOW_PENDING = false := by
  have hkey : evKey planPage PLAN_STATUS_RESHADOW_PENDING.key = false := by decide
  rw [reshadow_eq, State.bit, fld_of_regsKept (regsKept_raise _ _ _ _) hkey, ← State.bit, (frame_shadowSync _).2]
  exact bit_setBit_same _ (f := PLAN_STATUS_RESHADOW_PENDING) (by decide) _

theorem event_reshadow : (s.reshadow.reg (regKey 4 0x010)).getLsbD 21 = true := by
  rw [reshadow_eq]
  exact event_raise _ planPage 21 0 (by decide)

theorem onlyRegs_marks : OnlyRegs s.reservesLoaded (s.reservesLoaded.setBit PLAN_STATUS_RESHADOW_PENDING false).shadowSync :=
  OnlyRegs.trans ((OnlyRegs.refl _).setFld _ _) (frame_shadowSync _).1

theorem engs_onlyRegs {s t : State} (h : OnlyRegs s t) : t.engs = s.engs := by rw [h]

theorem engs_quiet {s t : State} (h : Quiet s t) : t.engs = s.engs := by rw [h]

theorem engs_reshadow : s.reshadow.engs = s.reservesLoaded.engs := by
  rw [reshadow_eq]
  exact (engs_quiet (quiet_raise _ planPage 21 0)).trans (engs_onlyRegs (onlyRegs_marks s))

theorem frame_reshadow : s.reshadow =
    { s with regs := s.reshadow.regs, recQ := s.reshadow.recQ, out := s.reshadow.out, engs := s.reshadow.engs } := by
  have hload : EngsOnly s s.reservesLoaded := (frame_loadReserve s).1.trans (frame_loadReserve _).1
  have hsync := onlyRegs_marks s
  have hraise := quiet_raise (s.reservesLoaded.setBit PLAN_STATUS_RESHADOW_PENDING false).shadowSync planPage 21 0
  rw [← reshadow_eq] at hraise
  rw [hraise, hsync, hload]

end

/-! STOP_MODE_WRITE_DONE (R192). -/

/-- One slot's code due to be written (R192), as `State.stopWritten` writes it. -/
def State.writeDueStep (s : State) (p : PlanTabs) (k : Nat) : State :=
  match p.slots[k]? with
  | some tab =>
    (s.modEng (s.slotEngine k) fun x => x.loadSeg (s.fld (ENG_SEG_MAP_SEG.inst (s.slotEngine k))) tab.code).setBit
      (ENG_STATUS_CODE_VALID.inst (s.slotEngine k)) true
  | none => s

/-- The code due to be written, written. -/
def State.dueWritten (s : State) (p : PlanTabs) (l : List Nat) : State := l.foldl (fun t k => t.writeDueStep p k) s

theorem dueWritten_cons (s : State) (p : PlanTabs) (k : Nat) (l : List Nat) :
    s.dueWritten p (k :: l) = (s.writeDueStep p k).dueWritten p l := by
  rw [State.dueWritten, State.dueWritten, List.foldl_cons]

theorem stopWritten_eq {s : State} {p : PlanTabs} (hp : s.plan.active = some p) : s.stopWritten =
    ((s.dueWritten p s.plan.writeDue).modPlan fun q => { q with stopWriting := false, writeDue := [] }).setFld PLAN_STATUS_STATE
      (if s.fld PLAN_STATUS_STATE = 3 then 1 else s.fld PLAN_STATUS_STATE) := by
  simp only [State.stopWritten, hp]
  rfl

section

variable (s : State) (p : PlanTabs)

/-- Code written touches no field but CODE_VALID. -/
theorem frame_writeDueStep (k : Nat) : EngsOnly s (s.writeDueStep p k) ∧
    ∀ f, (∀ e, (ENG_STATUS_CODE_VALID.inst e).apart f = true) → (s.writeDueStep p k).fld f = s.fld f := by
  unfold State.writeDueStep
  split
  next tab _ =>
    exact ⟨((EngineStep.modEng (s.slotEngine k) s _).trans (EngineStep.setFld _ _ _ _)).1, fun f hf =>
      (fld_setFld_of_apart _ (hf _) _).trans (fld_modEng s _ _ f)⟩
  next => exact ⟨rfl, fun _ _ => rfl⟩

theorem engsOnly_dueWritten (l : List Nat) : EngsOnly s (s.dueWritten p l) :=
  List.foldlRecOn (motive := EngsOnly s) l _ rfl fun t ht k _ => ht.trans (frame_writeDueStep t p k).1

theorem apart_codeValid_engine (e k : Nat) : (ENG_STATUS_CODE_VALID.inst e).apart (PLAN_SLOT_ENGINE.nth k) = true := by
  refine decide_eq_true (.inr ⟨?_, .inl ?_⟩) <;> simp [Fld.inst, Fld.nth, ENG_STATUS_CODE_VALID, PLAN_SLOT_ENGINE]

theorem apart_codeValid_seg (e k : Nat) : (ENG_STATUS_CODE_VALID.inst e).apart (ENG_SEG_MAP_SEG.inst k) = true := by
  refine decide_eq_true (.inl ?_)
  simp only [Fld.key, regKey, Fld.inst, ENG_STATUS_CODE_VALID, ENG_SEG_MAP_SEG]
  omega

/-- Whether the segment in use of slot `k`'s engine holds the slot's code. -/
def State.holdsCode (k : Nat) : Prop :=
  ∀ tab i, p.slots[k]? = some tab → i < 8192 → i < tab.code.length →
    some ((s.eng (s.slotEngine k)).bundleIn (s.fld (ENG_SEG_MAP_SEG.inst (s.slotEngine k)) * 8192 + i)) = tab.code[i]?

theorem slotEngine_writeDueStep (k j : Nat) : (s.writeDueStep p k).slotEngine j = s.slotEngine j :=
  (frame_writeDueStep s p k).2 _ fun e => apart_codeValid_engine e j

theorem seg_writeDueStep (k e : Nat) : (s.writeDueStep p k).fld (ENG_SEG_MAP_SEG.inst e) = s.fld (ENG_SEG_MAP_SEG.inst e) :=
  (frame_writeDueStep s p k).2 _ fun e' => apart_codeValid_seg e' e

theorem holdsCode_writeDueStep (k : Nat) : (s.writeDueStep p k).holdsCode p k := by
  intro tab i htab hi hc
  rw [slotEngine_writeDueStep, seg_writeDueStep]
  simp only [State.writeDueStep, htab, setBit_eq, eng_setFld, eng_modEng_same]
  exact bundleIn_loadSeg _ _ _ hi hc

theorem holdsCode_writeDueStep_other {j k : Nat} (hjk : s.slotEngine k ≠ s.slotEngine j) (h : s.holdsCode p k) :
    (s.writeDueStep p j).holdsCode p k := by
  intro tab i htab hi hc
  rw [slotEngine_writeDueStep, seg_writeDueStep]
  have heng : (s.writeDueStep p j).eng (s.slotEngine k) = s.eng (s.slotEngine k) := by
    unfold State.writeDueStep
    split
    · rw [setBit_eq, eng_setFld]
      exact eng_setEng_ne s _ hjk
    · rfl
  rw [heng]
  exact h tab i htab hi hc

variable {p}

/-- With an engine of its own for each slot, every slot whose code was due has it. -/
theorem holdsCode_dueWritten {k : Nat} (l : List Nat) (s : State)
    (hinj : ∀ j ∈ l, s.slotEngine j = s.slotEngine k → j = k) (h : s.holdsCode p k ∨ k ∈ l) :
    (s.dueWritten p l).holdsCode p k := by
  induction l generalizing s with
  | nil => exact h.resolve_right (by simp)
  | cons j l ih =>
    rw [dueWritten_cons]
    refine ih _ (fun m hm => ?_) ?_
    · rw [slotEngine_writeDueStep, slotEngine_writeDueStep]
      exact hinj m (by simp [hm])
    · by_cases hjk : j = k
      · exact .inl (hjk ▸ holdsCode_writeDueStep s p j)
      · obtain h | h := h
        · exact .inl (holdsCode_writeDueStep_other s p (fun he => hjk (hinj j (by simp) he.symm)) h)
        · exact .inr ((List.mem_cons.1 h).resolve_left (Ne.symm hjk))

/-- Code due to be written moves no slot to another engine and no engine to another segment. -/
theorem maps_dueWritten (l : List Nat) (j e : Nat) : (s.dueWritten p l).slotEngine j = s.slotEngine j ∧
    (s.dueWritten p l).fld (ENG_SEG_MAP_SEG.inst e) = s.fld (ENG_SEG_MAP_SEG.inst e) :=
  List.foldlRecOn (motive := fun t : State => t.slotEngine j = s.slotEngine j ∧
      t.fld (ENG_SEG_MAP_SEG.inst e) = s.fld (ENG_SEG_MAP_SEG.inst e)) l _ ⟨rfl, rfl⟩ fun t ht k _ =>
    ⟨(slotEngine_writeDueStep t p k j).trans ht.1, (seg_writeDueStep t p k e).trans ht.2⟩

end

/-- Nothing but registers, the sequencer's own data and engines differs. -/
def PlanFrame (s t : State) : Prop := t = { s with regs := t.regs, plan := t.plan, engs := t.engs }

namespace PlanFrame

theorem trans {s t u : State} (h : PlanFrame s t) (g : PlanFrame t u) : PlanFrame s u := by
  unfold PlanFrame at *
  rw [g, h]

theorem of_engsOnly {s t : State} (h : EngsOnly s t) : PlanFrame s t := by
  unfold PlanFrame
  rw [h]

theorem modPlan (s : State) (f : PlanS → PlanS) : PlanFrame s (s.modPlan f) := rfl

theorem setFld (s : State) (f : Fld) (v : Nat) : PlanFrame s (s.setFld f v) := rfl

end PlanFrame

/-- What the end of a stop-mode switch leaves, beside the code written. -/
theorem stopWritten_spec {s : State} {p : PlanTabs} (hp : s.plan.active = some p) :
    s.stopWritten.plan = { s.plan with stopWriting := false, writeDue := [] } ∧
      s.stopWritten.fld PLAN_STATUS_STATE = (if s.fld PLAN_STATUS_STATE = 3 then 1 else s.fld PLAN_STATUS_STATE) ∧
      (∀ e, s.stopWritten.eng e = (s.dueWritten p s.plan.writeDue).eng e) ∧
      s.stopWritten = { s with regs := s.stopWritten.regs, plan := s.stopWritten.plan, engs := s.stopWritten.engs } := by
  have hv : (if s.fld PLAN_STATUS_STATE = 3 then 1 else s.fld PLAN_STATUS_STATE) < 2 ^ 2 := by
    split
    · decide
    · exact fld_lt s PLAN_STATUS_STATE
  have h := engsOnly_dueWritten s p s.plan.writeDue
  rw [stopWritten_eq hp]
  generalize s.dueWritten p s.plan.writeDue = t at h ⊢
  generalize (if s.fld PLAN_STATUS_STATE = 3 then 1 else s.fld PLAN_STATUS_STATE) = v at hv ⊢
  have hplan : t.plan = s.plan := by rw [h]
  refine ⟨?_, ?_, fun e => by rw [eng_setFld]; rfl, ?_⟩
  · rw [← hplan]
    rfl
  · rw [fld_setFld_same _ _ _ (by decide)]
    exact Nat.mod_eq_of_lt hv
  · exact ((PlanFrame.of_engsOnly h).trans (PlanFrame.modPlan t _)).trans (PlanFrame.setFld _ _ _)

end Sys2Proof.Machine
open Sys2Proof Sys2Proof.Machine

/-- Settles O35: the registers of a sample interval as they are set, and the code of each engine by the last write of its
segment. -/
theorem speedAndReservesFollow : Obligations.SpeedAndReservesFollow := by
  intro s
  refine ⟨fun xs mv => ?_, fun hpend => ?_, fun p hstop hp => ?_⟩
  · have honly := speedOnly_speedInterval s xs mv
    have hwear : SpeedOnly (s.speedInterval xs mv) ((s.speedInterval xs mv).wearSample xs mv) := rfl
    have hfld (f : Fld) : ((s.speedInterval xs mv).wearSample xs mv).fld f = (s.speedInterval xs mv).fld f := rfl
    obtain ⟨htadm, hcorner⟩ := tAdm_speedInterval s xs mv
    refine ⟨_, rfl, fun n x hn hx => live_speedInterval s xs mv hn hx, ⟨htadm, ?_⟩, first_speedInterval s xs mv,
      (honly.trans hwear).memKept, (honly.trans hwear).engs⟩
    rw [State.bit, hfld, ← State.bit, hcorner]
    exact decide_eq_true_iff
  · refine ⟨s.reshadow, ?_, pending_reshadow s, event_reshadow s, fun hne _ g j p e tab i hg hj hp hr htab hi hc => ?_,
      frame_reshadow s⟩
    · change Host.Outcome.next (if s.bit PLAN_STATUS_RESHADOW_PENDING then s.reshadow else s) = _
      rw [if_pos hpend]
    · have heng : s.reshadow.eng e = s.reservesLoaded.eng e := by
        rw [State.eng, engs_reshadow, State.eng]
      rw [heng]
      exact shadows_reservesLoaded hne hg hj hp hr tab i htab hi hc
  · have hexec : exec .stopModeWriteDone s = .next s.stopWritten := by
      change Host.Outcome.next (if s.plan.stopWriting then s.stopWritten else s) = _
      rw [if_pos hstop]
    obtain ⟨hplan, hstate, heng, hframe⟩ := stopWritten_spec hp
    refine ⟨_, hexec, hplan, hstate, fun hinj _ hdue k tab i htab hk hi hc => ?_, hframe⟩
    have hcode := holdsCode_dueWritten (p := p) s.plan.writeDue s
      (fun j hj hjk => hinj j k (hdue j hj) (hdue k hk) hjk) (.inr hk) tab i htab hi hc
    rw [(maps_dueWritten s s.plan.writeDue k 0).1, (maps_dueWritten s s.plan.writeDue k _).2, ← heng] at hcode
    exact hcode
end
